-- ==== Sys2Proof/Word.lean ====
section
/-! DEFINITION. The word types of the NY4850 and their plainest arithmetic (R23, R24). -/

namespace Sys2Proof

/-- One octet. -/
abbrev Byte := BitVec 8

/-- One 32-bit register, little-endian on the control space (R24). -/
abbrev Word := BitVec 32

/-- A node's EUI-64, or the border router's own. -/
abbrev Eui := BitVec 64

/-- Device time in units of 1/16 ns (R236). -/
abbrev Time := Nat

/-- Units of device time in one nanosecond. -/
def ns (n : Nat) : Time := 16 * n

/-- Units of device time in one microsecond. -/
def us (n : Nat) : Time := 16000 * n

/-- Units of device time in one millisecond. -/
def ms (n : Nat) : Time := 16000000 * n

/-- Units of device time in one second. -/
def sec (n : Nat) : Time := 16000000000 * n

end Sys2Proof
end

