-- ==== Sys2Proof/Syntax.lean ====
section
/-! DEFINITION. The commands of the block: one constructor of Instr per row of spec/opcode_table.json,
with the operands each event carries. The first operand of every command is the device time at which it occurs. -/

namespace Sys2Proof

/-- Who accesses a register or a quay (R443, R489, R490); `hardware` is the hardware subsystem of a quay. -/
inductive Agent where
  | engine (e : Nat)
  | mgt
  | mgmtRead
  | dma (c : Nat)
  | loader
  | hardware
  deriving DecidableEq, Repr

/-- The record header of R72 as the loader meets it: TYPE, the two flags, and what the loader finds of the body:
its length matches its type, it lies inside its section, and its octets are those that P3 hashed (R53). -/
structure RecHdr where
  type     : Nat
  optional : Bool
  coldOnly : Bool
  bodyOk   : Bool
  inside   : Bool
  sameHash : Bool
  deriving DecidableEq, Repr

/-- The image header of R69. Offsets and lengths of LAYOUT stand in its order: staging, key journal, piece bitmap,
persistent store, dump area. -/
structure ImageHdr where
  magic : Word
  formatVersion : Nat
  headerLength : Nat
  imageLength : Nat
  generation : Word
  securityVersion : Nat
  keySlot : Nat
  pairMode : Nat
  pairWait : Nat
  earlyOffset : Nat
  earlyCount : Nat
  earlyLength : Nat
  mainOffset : Nat
  mainCount : Nat
  mainLength : Nat
  persistFormat : Nat
  persistFormatMin : Nat
  layout : List (Nat × Nat)
  buildId : BitVec 64
  reservedZero : Bool
  deriving DecidableEq, Repr

/-- What a read of one image slot gives: a failed header read (R77), or the header and the two words of the status
sector (R68). -/
inductive SlotRead where
  | failed
  | read (h : ImageHdr) (confirm attempts : Word)
  deriving DecidableEq, Repr

/-- The 56-octet plaintext of a blob (R272), as an unwrap gives it. -/
structure KeyPlain where
  cls   : Nat
  len   : Nat
  usage : BitVec 16
  id    : Nat
  gen   : Nat
  reservedZero : Bool
  key   : BitVec 256
  bind  : Eui
  deriving DecidableEq, Repr

/-- A key-load item (R285). `blob` is the 64-octet blob as one number, first octet most significant. -/
structure KeyItem where
  cls   : Nat
  op    : Nat
  keyId : Nat
  eui   : Eui
  kekId : Nat
  fcFloor : Nat
  txFcFloor : Nat
  blob  : BitVec 512
  deriving DecidableEq, Repr

/-- A received frame as its crypto lane sees it (R278, R280): its open part from the frame control on, its private payload as received, and its
MIC. -/
structure SealedFrame where
  header  : List Byte
  payload : List Byte
  mic     : List Byte
  deriving DecidableEq, Repr

/-- One detection of one hypothesis (R150, R151). METRIC and LEVEL in 0.25 dB, FREQ in Hz from the anchor bin's
centre, TIME in 1/16 ns at the antenna reference plane. -/
structure Detection where
  stream : Nat
  bin    : Nat
  slot   : Nat
  metric : Nat
  level  : Int
  freq   : Int
  time   : Time
  deriving DecidableEq, Repr

/-- What a hypothesis that has reached its peak hands to the merge stage (R149 to R151): its correlation energy in the unit of the noise
floors, LEVEL, FREQ, and the device time at which the peak reached the merge stage, as its input samples arrived at the port. -/
structure Hypothesis where
  stream : Nat
  bin    : Nat
  slot   : Nat
  energy : Nat
  level  : Int
  freq   : Int
  seen   : Time
  deriving DecidableEq, Repr

/-- One member's own decisions of a header (R173): its bits, and for an MR-O-QPSK PHR whether its HCS is correct. -/
structure MemberCheck where
  lane  : Nat
  bits  : Word
  hcsOk : Bool
  deriving DecidableEq, Repr

/-- The header summary that a group sends (R181, R198). `endTimes` are the frame's expected ends at each member's antenna, in member
order; `sequence` is the frame's MAC sequence number, `channel` the channel that it came on, and `profile` the transmit profile of its
acknowledgement where no uplink cell of the node names one (R249). -/
structure Summary where
  ackReq     : Bool
  length     : Nat
  endTimes   : List Time
  sequence   : Nat
  channel    : Nat
  profile    : Nat
  node       : Eui
  deriving DecidableEq, Repr

/-- The key-lookup fields of the address point (R166, R276, R280). -/
structure LookupFields where
  version : Nat
  source  : Option Eui
  pan     : BitVec 16
  kim     : Nat
  keyIndex : Nat
  level   : Nat
  suppress : Bool
  counter : Nat
  deriving DecidableEq, Repr

/-- A campaign progress report (R422). -/
structure Progress where
  complete : Bool
  verified : Bool
  failed : Bool
  tag : Word
  haveUntil : Nat
  gaps : List (Nat × Nat)
  deriving DecidableEq, Repr

/-- A piece part carried by a mesh frame or by UPD_PART (R402, R405). -/
structure Part where
  updateId : Word
  piece : Nat
  part : Nat
  data : Nat
  tag : Nat
  lengthOk : Bool
  deriving DecidableEq, Repr

/-- What kind of MAC frame a candidate is (R300). -/
inductive FrameKind where
  | data
  | beacon
  | ack
  deriving DecidableEq, Repr

/-- What the plaintext of a frame gives the commit sequencer (R300, R312). `payload` is the payload of its journal entry (R312), `mic` its MIC as received, `sequence` the MAC sequence number; `ies` are the contents of its Vendor
Specific Payload IEs (R129). -/
structure FrameInfo where
  kind   : FrameKind
  source : Eui
  pan    : BitVec 16
  mic    : List Byte
  sequence : Nat
  payload : List Byte
  ports  : List (Nat × Int)
  gens   : List Nat
  snr    : Int
  ies    : List (List Byte)
  ipv6Dst : Option (BitVec 128)
  asn    : Nat
  deriving DecidableEq, Repr

/-- A frame that an Ethernet port has received for the Ferry unit (R320): the port, the octets of the Ethernet frame, the VIDs of its VLAN tags,
the IP version, the addresses, the Next Header of the IPv6 header, the UDP ports and checksum, and the UDP payload, a Ferry packet. -/
structure FerryFrame where
  port       : Nat
  size       : Nat
  tags       : List Nat
  version    : Nat
  src        : BitVec 128
  dst        : BitVec 128
  nextHeader : Nat
  srcPort    : Nat
  dstPort    : Nat
  checksum   : Nat
  payload    : List Byte
  deriving DecidableEq, Repr

/-- The payload of a DOWNLINK or MGMT-CMD item (R326). -/
inductive DlBody where
  | node (data : List Byte)
  | flood (pan : BitVec 16) (data : List Byte)
  | key (item : KeyItem)
  | command (code : Nat) (args : List Byte)
  | reserved
  deriving DecidableEq, Repr

/-- A DOWNLINK or MGMT-CMD item (R326): its header, whose reserved fields stand at the offsets that they are named by, and its payload. -/
structure DlItem where
  dsn    : Nat
  kind   : Nat
  reserved9 : Nat
  length : Nat
  expiry : Nat
  dest   : Eui
  reserved24 : Nat
  payload : List Byte
  deriving DecidableEq, Repr

/-- The header of an Isthmus record as it arrives (R376): the link, its MSEQ and EPOCH, whether its tag is good and its
FLAGS. -/
structure MirrorHdr where
  link      : Nat
  mseq      : Nat
  epoch     : Nat
  tagGood   : Bool
  bulk      : Bool
  commitReq : Bool
  deriving DecidableEq, Repr

/-- The header of a journal entry (R312). `kind` is KIND: 1 UPLINK, 2 VOID, 3 OUTCOME. TIME is `endTime`. -/
structure EntryHdr where
  jsn     : Nat
  kind    : Nat
  node    : Eui
  counter : Nat
  digest  : Word
  ackReq  : Bool
  rerun   : Bool
  length  : Nat
  endTime : Time
  asn     : Nat
  port    : Nat
  mode    : Nat
  members : Nat
  level   : Int
  snr     : Int
  epoch   : Nat
  dsn     : Nat
  outcome : Nat
  cause   : Nat
  deriving DecidableEq, Repr

/-- An owed acknowledgement as ACK_BOOK carries it (R378). -/
structure AckBook where
  group : Nat
  port : Nat
  channel : Nat
  airStart : Time
  airtime : Nat
  power : Int
  profile : Nat
  leaveTime : Time
  deadline : Time
  deriving DecidableEq, Repr

/-- One key of a pairing hello (R290): class, identifier, generation and check value. -/
structure HelloKey where
  cls : Nat
  id : Nat
  gen : Nat
  kcv : BitVec 64
  deriving DecidableEq, Repr

/-- A pairing hello (R290, R387, R413). `hmacGood` says that its HMAC under PAIR_AUTH is good. -/
structure Hello where
  role : Bool
  hmacGood : Bool
  nonce : BitVec 256
  ephemeral : BitVec 512
  keys : List HelloKey
  epochCeiling : Nat
  holdsToken : Bool
  epoch : Nat
  mirrorFormat : Nat
  mirrorFormatMin : Nat
  nextJsn : Nat
  imageGen : Word
  confirmed : Bool
  fallback : Bool
  updateId : Word
  updState : Word
  deriving DecidableEq, Repr

/-- What a PAIRING record carries (R290): a hello, a confirmation, or a key sent under the pair key (R291). -/
inductive PairingMsg where
  | hello (h : Hello)
  | confirm (good : Bool)
  | key (blob : BitVec 512)
  deriving DecidableEq, Repr

/-- A fitness report (R390): the UP fronthaul ports, the Ferry-enabled Ethernet ports with link up, whether there is a Ferry path, and the DDR5
channels and flash devices in service. -/
structure Fitness where
  fhUp : BitVec 32
  ethUp : BitVec 8
  ferryPath : Bool
  ddr : BitVec 2
  flash : BitVec 2
  deriving DecidableEq, Repr

/-- One entry of a RANGE reply (R391). -/
structure RangeEntry where
  index : Nat
  homePort : Nat
  unhomed : Bool
  parent : Nat
  parentValid : Bool
  relay : Bool
  deriving DecidableEq, Repr

/-- What a node record of the bulk copy adds to EUI-64, INDEX, ROLE and PAN_ID (R392): home port, parent, the security field with
TX_FC's ceiling in its place, and the blob. -/
structure NodeBulk where
  homePort  : Nat
  unhomed   : Bool
  parent    : Option Nat
  fcHwm     : Nat
  txFc      : Nat
  blobValid : Bool
  kekId     : Nat
  keyGen    : Nat
  blob      : Option (BitVec 512)
  deriving DecidableEq, Repr

/-- A RANGE record: a request for a range or a reply (R391). -/
inductive RangeMsg where
  | request (range : Nat)
  | reply (range : Nat) (entries : List RangeEntry)
  deriving DecidableEq, Repr

/-- A change to a schedule table that a SCHEDULE record carries (R244, R378), with the ASN at which the active's schedule started, if it has
(R243). -/
structure SchedChange where
  epoch : Nat
  effective : Nat
  cells : List (Nat × Nat)
  tables : List (Nat × Nat × Nat)
  txIq : List (Nat × Int × Int)
  start : Option Nat
  deriving DecidableEq, Repr

/-- What a CEILING record carries (R378, R283, R361, R387). -/
structure Ceilings where
  txFc : List (Eui × Nat)
  floodId : Option Nat
  epoch : Option Nat
  deriving DecidableEq, Repr

/-- What a KEY record carries (R378): a key-load item, a persistent key as a blob under the pair key with the KEK
that it came under, or a recorded counter ceiling. -/
inductive KeyMirror where
  | item (item : KeyItem)
  | persistent (blob : BitVec 512) (parent : Nat)
  | ceiling (cls id value : Nat)
  deriving DecidableEq, Repr

/-- The payload of CAMP_DEFINE (R418). -/
structure CampDef where
  campaign : Nat
  fragsPerFrame : Nat
  panId : BitVec 16
  tag : Word
  imageLength : Nat
  keyId : Nat
  ttl : Nat
  maxRounds : Nat
  dutyShare : Nat
  repairLimit : Nat
  windowStart : Nat
  windowLen : Nat
  digest : BitVec 256
  deriving DecidableEq, Repr

/-- What a CAMPAIGN record carries (R412, R425, R406): a checkpoint, the activation state, a piece completed from the mesh, the order to
confirm (with how the steps of R78 that it asks for will end), or, in the bulk copy, a whole campaign with its (INDEX, STATE) members (R392). -/
inductive CampMirror where
  | checkpoint (campaign round cursor state : Nat)
  | activation (state : Nat)
  | piece (updateId : Word) (piece : Nat) (cipher tag : Nat)
  | confirm (step1Ok otherValid step2Ok step3Ok : Bool)
  | whole (definition : CampDef) (frags : List Nat) (members : List (Nat × Nat)) (round cursor state : Nat)
  deriving DecidableEq, Repr

/-- What a DL_RECORD carries (R378): an acceptance record, or that an item's first transmission has begun, with the expected air time of
its acknowledgement. -/
inductive DlMirror where
  | accept (item : DlItem)
  | begun (dsn : Nat) (expect : Time)
  deriving DecidableEq, Repr

/-- The body of an Isthmus record: the complete set of R378. A digest lists the ranges whose CRC-64 is not 0 (R391). -/
inductive Body where
  | payload (group blocks : Nat)
  | entry (group : Nat) (entry : EntryHdr)
  | ackBook (book : AckBook)
  | void (jsn : Nat)
  | dl (body : DlMirror)
  | ceiling (body : Ceilings)
  | ackPoint (jsn : Nat)
  | session (number ceiling high : Nat) (nonceD nonceH : BitVec 128)
  | schedule (change : SchedChange)
  | key (body : KeyMirror)
  | node (create : Bool) (node : Eui) (index : Nat) (relay : Bool) (pan : BitVec 16) (bulk : Option NodeBulk)
  | campaign (body : CampMirror)
  | time (deviceTime : Time)
  | commit (mseq : Nat) (ok : Bool)
  | fitness (body : Fitness)
  | digest (ranges : List (Nat × BitVec 64))
  | range (body : RangeMsg)
  | handover (th : Time) (epoch : Nat)
  | released (lastMseq : Nat)
  | pairing (body : PairingMsg)
  | keepalive
  deriving DecidableEq, Repr

/-- TYPE of a record (R378). -/
def Body.type : Body → Nat
  | .payload _ _ => 0x01
  | .entry _ _ => 0x02
  | .ackBook _ => 0x03
  | .void _ => 0x04
  | .dl _ => 0x05
  | .ceiling _ => 0x06
  | .ackPoint _ => 0x07
  | .session _ _ _ _ _ => 0x08
  | .schedule _ => 0x09
  | .key _ => 0x0A
  | .node _ _ _ _ _ _ => 0x0B
  | .campaign _ => 0x0C
  | .time _ => 0x0D
  | .commit _ _ => 0x10
  | .fitness _ => 0x11
  | .digest _ => 0x12
  | .range _ => 0x13
  | .handover _ _ => 0x14
  | .released _ => 0x15
  | .pairing _ => 0x16
  | .keepalive => 0x17

/-- What the demodulator of a lane puts into its snippet (R183): the antenna-plane time of the first sample, FREQ in Hz as refined by
tracking, the symbols before and after the end of the preamble, the SNR in 0.25 dB, the 64 octets of the reference, and the samples, Q in
the upper half of each word. -/
structure SnippetBody where
  time         : Time
  freq         : Int
  preambleSyms : Nat
  dataSyms     : Nat
  snr          : Int
  reference    : List Byte
  samples      : List Word
  deriving DecidableEq, Repr

/-- What the fit of R213 finds in the snippet at the head of the engine's quay, and whose frame it is: the source of the frame, whether the
commit sequencer found the device itself to be that source (R226), whether the frame was acknowledged, the frame's start at the antenna plane,
and the five observations in the units of R213. -/
structure Snippet where
  node : Eui
  own : Bool
  acked : Bool
  start : Time
  snr : Int
  levelObs : Int
  freqObs : Int
  timeObs : Int
  phaseObs : Int
  deriving DecidableEq, Repr

/-- The sums over the valid samples of a block of 2^20: their number, and the sums of I, Q, I², Q² and I·Q (R215). -/
structure BlockSums where
  count : Nat
  i  : Int
  q  : Int
  ii : Int
  qq : Int
  iq : Int
  deriving DecidableEq, Repr

/-- A PTP message as the port receives it (R239): `source` is the port identity of its sender, and `dataset` what an Announce says of its
grandmaster, in the order in which IEEE 1588 compares it: priority 1, class, accuracy, variance, priority 2, identity, steps removed. -/
structure PtpMsg where
  domain : Nat
  port : Nat
  supported : Bool
  lengthOk : Bool
  twoStep : Bool
  sequence : Nat
  origin : Int
  arrival : Int
  source : Nat
  dataset : List Nat
  deriving DecidableEq, Repr

/-- The IPv6 or IPv4 packet that FORWARD_PACKET looks up (R342), as octets. `meshLength` is the length of its 6LoWPAN form and `psduMax` what the
PSDU of the node's transmit profile takes of it (R120, R348); `source` and `digest` name the accepted frame that brought a packet from the mesh
(R342). -/
structure Packet where
  fromMesh : Bool
  port : Nat
  toPortMac : Bool
  octets : List Byte
  meshLength : Nat
  psduMax : Nat
  source : Eui
  digest : Word
  deriving DecidableEq, Repr

/-- The payload of UPD_BEGIN (R401). -/
structure Manifest where
  updateId : Word
  imageLength : Nat
  generation : Word
  securityVersion : Nat
  keySlot : Nat
  imageKeyId : Nat
  persistFormat : Nat
  persistFormatMin : Nat
  mirrorFormat : Nat
  mirrorFormatMin : Nat
  digest : BitVec 256
  deriving DecidableEq, Repr

/-- An error report (R454). -/
structure Report where
  unit : Nat
  code : Nat
  degraded : Bool
  rank : Nat
  arg : Nat
  deriving DecidableEq, Repr

/-- What an error took with it (R39, R40): nothing that another part waits for, a bundle of the candidate of a lane group, the release of
its acknowledgement, or the spill of a cancellation context. -/
inductive LostItem where
  | none
  | candidate (group : Nat)
  | release (group : Nat)
  | spill (context : Nat)
  deriving DecidableEq, Repr

/-- One record of the event recorder (R475). -/
structure EvRecord where
  seq   : Nat
  event : Nat
  time  : Time
  unit  : Nat
  code  : Nat
  cls   : Nat
  kind  : Nat
  rank  : Nat
  count : Nat
  arg0  : Nat
  arg1  : Nat
  deriving DecidableEq, Repr

/-- What a dump holds: the fields of its header, and the records of the event recorder, its section 3 (R481). -/
structure DumpHdr where
  time     : Time
  cause    : Nat
  unit     : Nat
  code     : Nat
  serial   : BitVec 128
  gen      : Word
  epoch    : Nat
  buildId  : BitVec 64
  evrHead  : Nat
  role     : Nat
  multiple : Bool
  events   : List EvRecord
  deriving DecidableEq, Repr

/-- The cause of a FATAL (R479), with the ARG of a unit's own error (R87). -/
structure FatalCause where
  cause : Nat
  unit : Nat
  code : Nat
  arg : Nat
  deriving DecidableEq, Repr

/-- A piece request heard in a neighbour's beacon (R404). -/
structure PieceRequest where
  neighbour : Eui
  updateId : Word
  first : Nat
  want : List Nat
  port : Nat
  deriving DecidableEq, Repr

/-- What a jig test's registers hold at its end: the pattern counter with the full count of the test, and the signature with the one that is
expected at that count (R469). -/
structure JigResult where
  patterns  : Nat
  full      : Nat
  signature : BitVec 64
  expected  : BitVec 64
  deriving DecidableEq, Repr

/-- The commands of the block (spec/opcode_table.json). The first operand `t` of each is the device time at which the
event occurs; see the assumption log for how a command moves device time. -/
inductive Instr where
  -- Start, reset and image (02)
  | porstNRise (t : Time)
  | porstNFall (t : Time)
  | vddAoLow (t : Time)
  | warmrstNFall (t : Time)
  | warmResetDrainDone (t : Time)
  | refclkStable (t : Time) (pairRole : Bool) (bootSel : BitVec 2)
  | fuseLoadDone (t : Time) (single : List Nat) (double : Bool)
  | pufAttemptDone (t : Time) (root : BitVec 256) (slotA slotB : SlotRead)
  | imageCheckDone (t : Time) (keyHashOk signatureOk : Bool) (readError : Option Nat) (flashSize oldest newest : Nat)
  | ddrTrainDone (t : Time) (okA okB : Bool) (capA capB : Nat)
  | regWrite (t : Time) (hdr : RecHdr) (writes : List (Word × Word))
  | regField (t : Time) (hdr : RecHdr) (address mask value : Word)
  | memLoad (t : Time) (hdr : RecHdr) (target index address : Nat) (data : List Byte)
  | tableLoad (t : Time) (hdr : RecHdr) (tableId entrySize firstIndex : Nat) (entries : List Nat)
  | keyBlob (t : Time) (hdr : RecHdr) (cls wrap id : Nat) (ephemeral blob : BitVec 512)
  | waitUntil (t : Time) (hdr : RecHdr) (address mask value : Word) (timeout : Nat)
  | waitUntilTimeout (t : Time)
  | check (t : Time) (hdr : RecHdr) (address mask value : Word) (op : Nat)
  | formatNote (t : Time) (hdr : RecHdr) (region oldFormat newFormat newOffset newLength oldOffset oldLength : Nat)
  | bootEngineReadyWrite (t : Time) (engine : Nat)
  | engineTimeout (t : Time)
  | phaseBoundExpire (t : Time)
  | fhLinkupTimeout (t : Time)
  | pairAbsent (t : Time) (partnerLow : Bool)
  | release (t : Time) (badCopies : List Nat)
  | pllLockLoss (t : Time) (island : Nat)
  | sdsclkLoss (t : Time) (k : Nat)
  | fuseProgGo (t : Time) (agent : Agent) (bit : Nat) (revoke : Bool)
  | fuseProgDone (t : Time)
  | jtagFuseProgram (t : Time) (word bit : Nat)
  | jtagZeroise (t : Time)
  | zeroiseDone (t : Time)
  | confirmRetryCheck (t : Time) (otherValid step2Ok step3Ok : Bool)
  -- Fronthaul and analogue ports (03)
  | fhSignalDetect (t : Time) (port : Nat)
  | fhBlockLock (t : Time) (port : Nat) (headers : List (BitVec 2))
  | fhBlockLockTimeout (t : Time) (port : Nat)
  | fhControlBlockRx (t : Time) (port : Nat) (syncGood : Bool) (block : BitVec 64)
  | fhSuperframeRx (t : Time) (port : Nat) (rxTime : Time) (arrivals : List Time)
  | fhFrameTx (t : Time) (port : Nat) (groups : List (List Word))
  | fhTimeTimeout (t : Time) (port : Nat)
  | fhRecoverTimeout (t : Time) (port : Nat)
  | fhFaultTimeout (t : Time) (port : Nat)
  | fhMbxReply (t : Time) (port : Nat)
  | fhMbxTimeout (t : Time) (port : Nat)
  | fhLoopWrite (t : Time) (port : Nat) (loop : BitVec 2)
  | anaLoopWrite (t : Time) (port : Nat) (loop : BitVec 2)
  | poolEntry (t : Time) (dsn : Nat)
  -- Channeliser and search (05)
  | chnGenRequest (t : Time) (head : Nat)
  | chnUnitStart (t : Time) (head : Nat)
  | chnSwitchPoint (t : Time) (head : Nat)
  | chnRetireExpire (t : Time) (unit : Nat)
  | noiseFloorRise (t : Time) (stream bin : Nat) (powers : List Nat)
  | detection (t : Time) (h : Hypothesis)
  | detRecordIssue (t : Time) (stream : Nat)
  | detMaskExpire (t : Time) (stream maskIndex : Nat) (metrics : List (Time × Nat))
  -- Lanes (06)
  | laneAssign (t : Time)
  | laneCaughtUp (t : Time) (lane : Nat)
  | laneSyncFound (t : Time) (lane : Nat) (word : Word) (snr : Int) (position : Time)
  | lanePreambleLost (t : Time) (lane below : Nat)
  | laneHeaderCheck (t : Time) (group : Nat) (bits : Word) (hcsOk : Bool) (members : List MemberCheck) (summary : Summary)
  | laneAddressPoint (t : Time) (lane : Nat) (fields : LookupFields)
  | laneFrameEnd (t : Time) (lane : Nat) (fcsOk : Bool) (endTime : Time)
  | laneReconstruction (t : Time) (context stronger : Nat)
  | laneRerunEnd (t : Time) (lane : Nat) (fcsOk : Bool)
  | laneSpillOverrun (t : Time) (context : Nat)
  | laneInputInvalid (t : Time) (lane : Nat)
  | laneExportDone (t : Time) (lane : Nat) (body : SnippetBody)
  -- Schedule, transmission and acknowledgement (07, 09, 11)
  | slotBoundary (t : Time)
  | slotframeBoundary (t : Time) (slotframe : Nat)
  | scheduleStart (t : Time)
  | txStartCommand (t : Time) (booking : Nat)
  | ackRelease (t : Time) (group : Nat)
  | ackLeft (t : Time) (group : Nat)
  | txEnd (t : Time) (modulator : Nat) (overflows : Nat)
  | maskMonitorEval (t : Time) (stream : Nat) (spectra : List (List Nat))
  | beaconRewrite (t : Time) (beacon : Nat)
  -- Calibration (08)
  | calSnippet (t : Time) (snippet : Snippet)
  | calStreamBlock (t : Time) (head : Nat) (sums : BlockSums) (saturated : List (Nat × Nat)) (clipped : Nat)
  | calGainUpdate (t : Time) (head : Nat)
  | calDelaySolve (t : Time)
  | calGenRequest (t : Time) (head : Nat) (transmit : Bool)
  | calSweepStart (t : Time) (head : Nat)
  | calSweepDone (t : Time) (head : Nat) (measured : List (Nat × Int × Int))
  | calRecordWrite (t : Time) (utc : Nat)
  | calRestore (t : Time) (utcNow : Nat)
  -- Timekeeper and neighbours (09)
  | ptpSync (t : Time) (msg : PtpMsg)
  | ptpFollowUp (t : Time) (msg : PtpMsg)
  | ptpDelayResp (t : Time) (msg : PtpMsg)
  | ptpAnnounce (t : Time) (msg : PtpMsg)
  | ppsInEdge (t : Time)
  | ppsEdgeMissing (t : Time)
  | ppsOutPulse (t : Time)
  | ppsOutFall (t : Time)
  | timeComparator (t : Time) (engine : Option Nat)
  | nbrBeaconHeard (t : Time) (neighbour : Nat) (asn : Nat) (start : Time)
  | nbrBeaconMissed (t : Time) (neighbour : Nat)
  | nbrHoldoffExpire (t : Time) (neighbour : Nat)
  -- Keys (10)
  | keyLookup (t : Time) (group : Nat)
  | keyUnwrapDone (t : Time)
  | keyPayloadBlock (t : Time) (group : Nat)
  | keyFrameEnd (t : Time) (group : Nat) (fcsOk : Bool) (frame : SealedFrame) (blocks : Nat)
  | keyCounterUpdate (t : Time) (node : Eui) (counter : Nat) (digest : Word)
  | keyProtect (t : Time) (booking : Nat)
  | counterCeilingWrite (t : Time)
  | keyLoad (t : Time) (dsn : Nat)
  | keyRevoke (t : Time) (dsn : Nat)
  | keyRetire (t : Time) (dsn : Nat)
  | keyRewrap (t : Time) (dsn : Nat)
  | keyRewrapWalkDone (t : Time)
  | keyJournalWriteDone (t : Time) (ok : Bool)
  | keyJournalCompact (t : Time) (copyB : Bool)
  | keyEntropyFail (t : Time)
  | jigLaneDrained (t : Time)
  -- Acceptance and journal (11)
  | candidateOpen (t : Time) (group : Nat)
  | candidateVerdicts (t : Time) (group : Nat) (frame : FrameInfo)
  | candidateStaged (t : Time) (group : Nat) (roomA roomB : Bool)
  | candidateDeadline (t : Time) (group : Nat)
  | owedReleaseMissed (t : Time) (jsn : Nat)
  | standbyCandidateTimeout (t : Time) (group : Nat)
  | standbyOwedAssume (t : Time) (jsn : Nat)
  | dedupExpire (t : Time)
  -- Nodes, learning and forwarding (12)
  | learnEvent (t : Time) (node : Eui) (ports : List (Nat × Int))
  | newSenderAdmit (t : Time) (group : Nat) (node : Eui) (ports : List (Nat × Int))
  | learnWindowClose (t : Time) (node : Eui)
  | nodeEntryCreate (t : Time) (node : Eui)
  | nodeInsert (t : Time) (node : Eui) (moves : List (Nat × Nat))
  | learnFallback (t : Time) (node : Eui)
  | rehashStart (t : Time)
  | rehashDone (t : Time) (slots : List (Nat × Nat))
  | agerVisit (t : Time) (index : Nat) (stamp : Nat)
  | homePortRehome (t : Time) (node : Eui)
  | forwardPacket (t : Time) (packet : Packet)
  | transitExpire (t : Time) (position : Nat)
  | seenExpire (t : Time)
  -- Ferry (11)
  | ferryDownlink (t : Time) (frame : FerryFrame)
  | dlItemExpiry (t : Time) (dsn : Nat)
  | nodeEnhancedAck (t : Time) (node : Eui) (micGood nack : Bool) (airTime : Time)
  | ferryMgmtCmd (t : Time) (frame : FerryFrame)
  | clearCounters (t : Time) (dsn : Nat)
  | clearSticky (t : Time) (dsn : Nat)
  | eventClear (t : Time) (dsn : Nat)
  | keyItem (t : Time) (dsn : Nat)
  | ferryUlAck (t : Time) (frame : FerryFrame)
  | ferryUplinkSend (t : Time) (count : Nat)
  | ferryUlRto (t : Time)
  | ferryHeartbeat (t : Time) (frame : FerryFrame)
  | ferryHeartbeatTx (t : Time)
  | ferryPeerLost (t : Time)
  | ferrySessionOpen (t : Time)
  | ferryRekey (t : Time)
  | ferryOldKeysExpire (t : Time)
  | ferryMgmtRead (t : Time) (frame : FerryFrame)
  | neighbourAdvertisementTx (t : Time)
  | neighbourSolicitation (t : Time) (port : Nat) (target : BitVec 128)
  | echoRequest (t : Time) (port : Nat) (target : BitVec 128)
  | ethLinkChange (t : Time) (port : Nat) (up : Bool)
  -- Dovetail (13, 11, 10, 07)
  | tokenPartnerReleased (t : Time)
  | tokenTie (t : Time)
  | ownLineFault (t : Time)
  | takeTime (t : Time) (partnerLow : Bool)
  | headFollowCheck (t : Time) (port : Nat)
  | payloadRecord (t : Time) (hdr : MirrorHdr) (group blocks : Nat)
  | entryRecord (t : Time) (hdr : MirrorHdr) (group : Nat) (entry : EntryHdr)
  | ackBookRecord (t : Time) (hdr : MirrorHdr) (book : AckBook)
  | voidRecord (t : Time) (hdr : MirrorHdr) (jsn : Nat)
  | dlRecord (t : Time) (hdr : MirrorHdr) (body : DlMirror)
  | ceilingRecord (t : Time) (hdr : MirrorHdr) (body : Ceilings)
  | ackPointRecord (t : Time) (hdr : MirrorHdr) (ackJsn : Nat)
  | sessionRecord (t : Time) (hdr : MirrorHdr) (session packetCeiling inboundHigh : Nat) (nonceD nonceH : BitVec 128)
  | scheduleRecord (t : Time) (hdr : MirrorHdr) (body : SchedChange)
  | keyRecord (t : Time) (hdr : MirrorHdr) (body : KeyMirror)
  | nodeRecord (t : Time) (hdr : MirrorHdr) (create : Bool) (node : Eui) (index : Nat) (relay : Bool) (pan : BitVec 16) (bulk : Option NodeBulk)
  | campaignRecord (t : Time) (hdr : MirrorHdr) (body : CampMirror)
  | timeRecord (t : Time) (hdr : MirrorHdr) (partnerTime : Time)
  | commitRecord (t : Time) (hdr : MirrorHdr) (committed : Nat) (ok : Bool)
  | fitnessRecord (t : Time) (hdr : MirrorHdr) (body : Fitness)
  | fitnessTx (t : Time)
  | digestRecord (t : Time) (hdr : MirrorHdr) (ranges : List (Nat × BitVec 64))
  | rangeRecord (t : Time) (hdr : MirrorHdr) (body : RangeMsg)
  | handoverRecord (t : Time) (hdr : MirrorHdr) (th : Time) (newEpoch : Nat)
  | releasedRecord (t : Time) (hdr : MirrorHdr) (lastMseq : Nat)
  | pairingRecord (t : Time) (hdr : MirrorHdr) (body : PairingMsg)
  | keepaliveRecord (t : Time) (hdr : MirrorHdr)
  | keepaliveTx (t : Time) (link : Nat)
  | isthmusLinkUp (t : Time) (link : Nat)
  | isthmusLinkLoss (t : Time) (link : Nat) (lane : Bool)
  | pairPartnerLost (t : Time)
  | pairDetached (t : Time)
  | pairMseqGap (t : Time)
  | pairGiveUp (t : Time)
  | digestPeriodTick (t : Time)
  | resyncPhaseDone (t : Time) (phase : Nat)
  | pairResync (t : Time)
  | pairResyncSlow (t : Time)
  | handover (t : Time) (dsn : Nat)
  | resync (t : Time) (dsn : Nat)
  | handoverTime (t : Time)
  -- Updates and campaigns (14)
  | updBegin (t : Time) (dsn : Nat)
  | updPart (t : Time) (dsn : Nat)
  | updAbort (t : Time) (dsn : Nat)
  | pieceWrite (t : Time) (piece : Nat) (copyB ok : Bool)
  | updVerifyDone (t : Time)
  | updActivate (t : Time) (dsn : Nat) (partnerVerified : Bool)
  | updActivateCopyDone (t : Time) (ok : Bool)
  | actTimeout (t : Time)
  | updConfirm (t : Time) (dsn : Nat) (step1Ok otherValid step2Ok step3Ok : Bool)
  | confirmHold (t : Time) (step1Ok otherValid step2Ok step3Ok : Bool)
  | updRevert (t : Time) (dsn : Nat)
  | updRevokeSlot (t : Time) (dsn : Nat) (otherValid : Bool)
  | pieceRequest (t : Time) (request : PieceRequest)
  | piecePartFrame (t : Time) (source : Eui) (part : Part)
  | campDefine (t : Time) (dsn : Nat)
  | campData (t : Time) (dsn : Nat)
  | campMembers (t : Time) (dsn : Nat)
  | campStart (t : Time) (dsn : Nat)
  | campPause (t : Time) (dsn : Nat)
  | campEnd (t : Time) (dsn : Nat)
  | campWindowOpen (t : Time) (campaign : Nat)
  -- Quays, DMA, memory and engines (15)
  | quayClaim (t : Time) (agent : Agent) (quay octets : Nat)
  | quayWrWord (t : Time) (agent : Agent) (quay : Nat) (word : Word) (parityGood : Bool)
  | quayWrEnd (t : Time) (agent : Agent) (quay : Nat) (word : Word) (octets : Nat) (parityGood : Bool)
  | quayWrPoison (t : Time) (agent : Agent) (quay : Nat)
  | quayRdNext (t : Time) (agent : Agent) (quay : Nat) (badBank : Option Nat)
  | quayRdDrop (t : Time) (agent : Agent) (quay : Nat)
  | quayFlush (t : Time) (agent : Agent) (quay : Nat)
  | dmaStart (t : Time) (agent : Agent) (channel : Nat)
  | dmaStop (t : Time) (agent : Agent) (channel : Nat)
  | dmaDescriptorDone (t : Time) (channel : Nat) (poisonAt : Option Nat)
  | eccError (t : Time) (address : Nat) (channelB uncorrectable byDma : Bool)
  | scrubPatrol (t : Time) (corrected : Nat)
  | ddrTrainingLoss (t : Time) (channelB : Bool)
  | ddrRetrainDone (t : Time) (channelB ok : Bool)
  | engWdogKick (t : Time) (engine : Nat)
  | engWdogExpire (t : Time) (engine : Nat)
  | engLockstep (t : Time) (pair23 : Bool)
  -- Health (16)
  | errorReport (t : Time) (report : Report) (lost : LostItem)
  | coalesceWindowClose (t : Time) (unit code : Nat)
  | handlerTake (t : Time) (agent : Agent)
  | handlerDone (t : Time) (agent : Agent) (outcome : BitVec 2)
  | handlerTimeout (t : Time)
  | handlerException (t : Time) (core : Nat)
  | jigSweepStart (t : Time)
  | jigTestStart (t : Time) (kind inst : Nat)
  | jigDetWarmupDone (t : Time)
  | jigPreempt (t : Time)
  | jigTestDone (t : Time) (result : JigResult)
  | jigRun (t : Time) (dsn : Nat)
  | jigPort (t : Time) (dsn : Nat)
  | fhRetrain (t : Time) (dsn : Nat)
  | dumpRelease (t : Time) (dsn : Nat)
  | clampRequest (t : Time) (activity clamp : Nat)
  | clampRelease (t : Time) (activity clamp : Nat)
  | clampWaitExpire (t : Time) (activity clamp : Nat)
  | fatal (t : Time) (cause : FatalCause)
  | fatalStagingDrained (t : Time)
  | dumpWritten (t : Time)
  | dumpPathsDone (t : Time)
  | hltPartnerDump (t : Time) (header : DumpHdr)
  | dumpFlashCopy (t : Time) (slot : Nat) (toFlash ok : Bool)
  | evrCursorWrite (t : Time) (agent : Agent) (seq : Nat)
  | evrData7Read (t : Time) (agent : Agent)
  | mgtI2cWrite (t : Time) (octets : List Byte)
  | mgtI2cRead (t : Time) (words : Nat)
  | registerLoRead (t : Time) (agent : Agent) (address : Word) (octets : Nat)
  | registerWrite (t : Time) (agent : Agent) (address value : Word) (octets : Nat)
  | glbOvertemp (t : Time)
  | glbThermalTrip (t : Time)
  | warmrstNRise (t : Time)
  | vddAoRestored (t : Time)
  | fhLossOfSignal (t : Time) (port : Nat)
  | ptpSourceLost (t : Time)
  | glbTempUpdate (t : Time) (tj : Int)
  | sdsclkReturn (t : Time) (k : Nat)
  deriving DecidableEq, Repr

end Sys2Proof
end

