-- ==== Sys2Proof/Config.lean ====
section
/-! DEFINITION. The free values of the model: what the spec leaves open, each an opaque constant without a value, applied to what
it depends on or to the counter `State.free`. No proof can see a value of one. -/

namespace Sys2Proof.Config

/-- The centre frequency in Hz of down-converter `d` of analogue port `p`, which the IF radio fixes outside the device (R132). -/
opaque anaCentre : Nat → Nat → Int

/-- The value that the device writes to RX_CENTRE of receive slot `k` of port `p` in MAP: R103 has the head registers written, and no
register of the device holds it (R108). -/
opaque rxCentre : Nat → Nat → BitVec 32

/-- The value that the device writes to RX_GAIN of receive slot `k` of port `p` in MAP (R103, R108). -/
opaque rxGain : Nat → Nat → BitVec 32

/-- The value that the device writes to TX_CENTRE of transmit stream `n`; for an analogue port, the frequency that the radio gives it
(R108, R187). -/
opaque txCentre : Nat → BitVec 32

/-- The coefficients of the filter bank's prototype, in 1/32,768: R131 states their number and what they achieve. -/
opaque prototype : Nat → Int

/-- The rotation by n/128 of a circle in 1/32,768, the twiddle factors of the 128-point FFT (R131 gives no word length). -/
opaque rotation : Nat → Int × Int

/-- The value of a diagnostic register, by address and draw (R488: not specified). -/
opaque diagnostic : Nat → Nat → BitVec 32

/-- What the airtime of a SUN frame holds beyond the spec's numbers, in µs, by the profile's word and the PSDU length: for MR-FSK with FEC
the tail bits and the padding of the last interleaver block, for MR-O-QPSK the SHR and the PHR at their spreading (R206 leaves them to IEEE
802.15.4). -/
opaque sunExtra : Nat → Nat → Nat

/-- The SFD values that a mode accepts, uncoded and coded: those of IEEE 802.15.4-2020, which the spec does not repeat (R117, R165). -/
opaque sfdValues : Nat → List (BitVec 32)

/-- The duration in µs of the MR-O-QPSK preamble of a format, of its SHR without the SFD (IEEE 802.15.4; R226, R254). -/
opaque qpskPreamble : Nat → Nat

/-- The timing resolution of a mode in ns (R230 names it and gives no number). -/
opaque timingResolution : Nat → Nat

/-- IQ_PHASE in 0.01° from the block means of I Q, I² and Q² (R215 names the source of the estimate and no formula). -/
opaque iqPhaseOf : Int → Int → Int → Int

/-- A random 32-bit value of the DRBG (R270). -/
opaque random : Nat → BitVec 32

/-- A random 128-bit nonce of the DRBG (R270, R323). -/
opaque nonce : Nat → BitVec 128

/-- Which free INDEX an entry creation takes: the search starts at this number (R333 states no order). -/
opaque freeIndex : Nat → Nat

/-- The key-cache set of a NODE slot (R275 states no hash). -/
opaque cacheSet : BitVec 64 → Nat

/-- The key-cache set of a pinned slot, by class and identifier (R275). -/
opaque pinnedSet : Nat → Nat → Nat

/-- The shift of TIME_RATE that a slew applies, before its limit (R238 states the limit only). -/
opaque slewShift : Nat → Int

/-- The latency of an up-converter in 1/16 ns, from the last transmit sample handed over to the air (R196, R112 give no number). -/
opaque upLatency : Nat

/-- The number that ARG1 of a jig record gives a verdict (R470 states none): 0 PASS, 1 FAIL, 2 INCOMPLETE, 3 SKIPPED. -/
opaque verdictCode : Nat → Nat

/-- The antenna power in 0.25 dBm that a transmission under a profile asks for at a path loss in 0.25 dB: R194 states that the
required margin enters, and gives no number. -/
opaque nodePower : Nat → Nat → Int

/-- The antenna power in 0.25 dBm of an acknowledgement under a profile to a node that has no entry, and so no path loss, yet (R194). -/
opaque strangerPower : Nat → Int

/-- The join metric that beacons carry (R258 gives no number). -/
opaque joinMetric : Nat

/-- The values of a beacon's Timeslot and Channel Hopping IEs that R258 does not name, by their place. -/
opaque beaconFill : Nat → Nat

/-- The KEY_ID of the GROUP key that protects a beacon of template n (kind 0) or a flood in PAN n (kind 1): the spec names none. -/
opaque groupKeyOf : Nat → Nat → Nat

/-- The circular mean of a batch of phases in 360/4,096 degrees (R215: the spec gives no arithmetic for it). -/
opaque circularMean : List Int → Int

/-- The PAN that a FLOOD item of this payload goes to: R326 gives the item no field for it. -/
opaque floodPan : List (BitVec 8) → BitVec 16

/-- The PACKET_NO of an OPEN packet that the DRBG gives at a draw (R323). -/
opaque openPacketNo : Nat → Nat

/-- The nonce of a pairing hello that the DRBG gives at a draw (R270, R290). -/
opaque pairNonce : Nat → BitVec 256

/-- The private number of the ephemeral key pair of a pairing, drawn from the DRBG (R270, R290). -/
opaque ephemeralKey : Nat → Nat

/-- An argument of a named event, or the ARG of an error report, by draw, where no rule states it (R454, R475). -/
opaque eventArg : Nat → BitVec 32

/-- A bit by draw: DONE and VALID of a DMA descriptor that ends in error (R450 and R451 do not say). -/
opaque freeBit : Nat → Bool

/-- Whether page 0 of the interleaved space lies on channel B: R437 names no order. Free (log). -/
opaque interleaveFirst : Bool

/-- An octet of a dump's sections, by the time of the dump and the octet's place: the insides of the units (R481 gives no layout). -/
opaque dumpByte : Nat → Nat → BitVec 8

end Sys2Proof.Config
end

