-- ==== Sys2Proof/Machine/Bank.lean ====
section
/-! DEFINITION. The arithmetic of the filter bank and the detector fabric (05_channelizer_and_search.md): bins, synthesis classes, the noise floor
and the metric, as pure functions over samples and powers. -/

namespace Sys2Proof.Machine

open Sys2Proof

/-! ### The bank (R131, R133) -/

/-- A complex sample. -/
abbrev Iq := Int × Int

/-- A value rounded by `n` bits to the nearest, halves upward, and limited to 16 bits, with whether it saturated (R133). -/
def round16 (n : Nat) (x : Int) : Int × Bool :=
  let y := (x + 2 ^ n / 2) / 2 ^ n
  if 32767 < y then (32767, true) else if y < -32768 then (-32768, true) else (y, false)

/-- Bin `b` of one FFT frame: the last 1,536 input samples `x`, the newest first, weighted by the prototype and turned to the bin's centre
(b − 64) × 160 kHz, 128 points apart (R131, R132). The weights and the rotations have 15 fractional bits each (the log's choice). -/
def bankSum (x : List Iq) (b : Nat) : Iq :=
  (x.take 1536).zipIdx.foldl (fun a y =>
    let w := Config.rotation (((b + 64) * y.2) % 128)
    let h := Config.prototype y.2
    (a.1 + h * (y.1.1 * w.1 - y.1.2 * w.2), a.2 + h * (y.1.1 * w.2 + y.1.2 * w.1))) (0, 0)

/-- A bin output in 16-bit I and Q, and whether it saturated (R133). -/
def binOutput (x : List Iq) (b : Nat) : Iq × Bool :=
  let s := bankSum x b
  let i := round16 30 s.1
  let q := round16 30 s.2
  ((i.1, q.1), i.2 || q.2)

/-- The bins that count in CHN_SAT in one FFT frame (R133). -/
def frameSaturations (x : List Iq) : Nat := ((List.range 128).filter fun b => (binOutput x b).2).length

/-- The latency of the bank in 1/16 ns: 768 input samples (R134). -/
def bankDelay : Time := us 75 / 2

/-! ### Synthesis classes (R135, R136) -/

/-- A synthesis class: its bins M, flat half-band in kHz, output rate in S/s and the samples of latency that it adds (R135). -/
structure SynthClass where
  bins  : Nat
  flat  : Nat
  rate  : Nat
  added : Nat
  deriving DecidableEq, Repr

/-- S50, S200, S400, S800 and S2M (R135). -/
def synthClasses : List SynthClass :=
  [⟨1, 128, 320000, 0⟩, ⟨3, 232, 960000, 16⟩, ⟨5, 392, 1600000, 16⟩, ⟨7, 552, 2240000, 16⟩, ⟨15, 1192, 4800000, 16⟩]

/-- The class of a catalogue index (R145). -/
def synthClass (m : Nat) : SynthClass :=
  synthClasses.getD ([1, 1, 2, 2, 2, 2, 2, 2, 1, 4, 0, 0, 0, 0, 2, 3].getD m 0) ⟨1, 128, 320000, 0⟩

/-- The latency that a class adds, in 1/16 ns (R135). -/
def SynthClass.delay (c : SynthClass) : Time := (c.added * 16000000000 + c.rate / 2) / c.rate

/-- The latency after which a mode's detections reach the merge stage: a wide-acquisition mode takes that of its family partner's class
(R154). -/
def presentDelay (m : Nat) : Time := (synthClass (if m = 14 then 0 else if m = 15 then 2 else m)).delay

/-- The bins of a group of `m` anchored at `b`, lowest first; those beyond the stream are missing and count as zero (R136). -/
def groupBins (m b : Nat) : List (Option Nat) :=
  (List.range m).map fun j => if b + j < (m - 1) / 2 ∨ 127 + (m - 1) / 2 < b + j then none else some (b + j - (m - 1) / 2)

/-- The samples of a group, a missing bin as zero (R136). -/
def groupSamples (m b : Nat) (bin : Nat → Iq) : List Iq := (groupBins m b).map fun x => match x with
  | some k => bin k
  | none => (0, 0)

/-- The frequency search window in kHz that WINDOW 0 selects (R145). -/
def defaultWindow (m : Nat) : Nat := if m = 14 ∨ m = 15 then 150 else 22

/-! ### Noise floors (R148, R149) -/

/-- The estimate that a bin begins with: the power of one step of I. R148 gives none (the log's choice). Floors are powers of 16-bit samples in
1/65,536. -/
def floorStart : Nat := 65536

/-- An estimate after a bin sample of power `p`, and whether the sample updated it: weight 1/65,536, and only below four times the estimate
(R148). The quotient is rounded down (the log's choice). -/
def floorSample (e p : Nat) : Nat × Bool := if p * 65536 < 4 * e then (e + p - e / 65536, true) else (e, false)

/-- An estimate 1 dB higher (R148). -/
def floorRise (e : Nat) : Nat := e * 12589254 / 10000000

/-- How many kHz of bin `j` of a group lie in the flat band of class `c` (R149). -/
def binShare (c : SynthClass) (j : Nat) : Nat :=
  let o : Int := ((j : Int) - ((c.bins - 1) / 2 : Nat)) * 160
  (min (c.flat : Int) (o + 80) - max (-(c.flat : Int)) (o - 80)).toNat

/-- The noise floor of a group anchored at `b`: the floors of its bins weighted by their share of the flat band (R149). -/
def groupFloor (c : SynthClass) (b : Nat) (floor : Nat → Nat) : Nat :=
  ((groupBins c.bins b).zipIdx.foldl (fun a x => match x.1 with
    | some k => a + floor k * binShare c x.2
    | none => a) 0) / 160

/-! ### Decibels -/

/-- The greatest k from −4,096 to 4,095 with 10^k ≤ (p / q)^n, so that p / q in units of 10/n dB is k rounded down; −4,096 where p is 0 and
4,095 where only q is. -/
def dbBits (n p q : Nat) : Nat → Nat → Nat
  | 0, x => x
  | i + 1, x =>
    let y := x + 2 ^ i
    dbBits n p q i (if 10 ^ (4096 - y) * p ^ n ≥ 10 ^ (y - 4096) * q ^ n ∧ 0 < p then y else x)

/-- p / q in units of 10/n dB, rounded down. -/
def dbSteps (n p q : Nat) : Int := (dbBits n p q 13 0 : Int) - 4096

/-- METRIC of a correlation energy over `n` output samples against the group's floor, in 0.25 dB from 0 to 4,095 (R149). -/
def metricOf (energy floor n : Nat) : Nat := (max 0 (dbSteps 40 energy (floor * n))).toNat

end Sys2Proof.Machine
end

