-- ==== Sys2Proof/Machine/Air.lean ====
section
/-! DEFINITION. The air formats (04_air_formats.md): the SUN modes and their headers, and Deep mode from its sequence family to the
chips of a whole frame. Pure functions over octets, bits and chips; a chip or a bit is a Bool. -/

namespace Sys2Proof.Machine

open Sys2Proof

/-! ### SUN modes (R116, R119) -/

/-- A SUN MR-FSK operating mode (R116): the levels of its FSK, Gaussian BT and modulation index in hundredths, symbol rate in symbols
per second, channel width in Hz and data rate in bit/s. -/
structure FskMode where
  levels : Nat
  bt     : Nat
  index  : Nat
  symbols : Nat
  width  : Nat
  rate   : Nat
  deriving DecidableEq, Repr

/-- The MR-FSK modes FSK50, FSK100, FSK150 and FSK200, and no others (R116). -/
def fskModes : List FskMode :=
  [⟨2, 50, 100, 50000, 200000, 50000⟩, ⟨2, 50, 100, 100000, 400000, 100000⟩,
   ⟨2, 50, 50, 150000, 400000, 150000⟩, ⟨4, 50, 33, 100000, 400000, 200000⟩]

/-- The chips per second and the channel width in Hz of MR-O-QPSK at 100 and 1,000 kchip/s (R119). -/
def oqpskChips : List (Nat × Nat) := [(100000, 200000), (1000000, 2000000)]

/-- The data rate in bit/s of rate mode `m` at chip rate `k` of `oqpskChips` (R119). -/
def oqpskRate (k m : Nat) : Nat :=
  ([[6250, 12500, 25000, 50000], [31250, 125000, 250000, 500000]].getD k []).getD m 0

/-- The PSDU lengths of the SUN modes, and the payload lengths of Deep mode (R117, R119, R124). -/
def psduLimits (deep : Bool) : Nat × Nat := if deep then (5, 255) else (5, 2047)

/-- The deviation in Hz, Gaussian BT and modulation index in hundredths of Deep mode, its chips per second and its occupied bandwidth
in Hz (R121). -/
def deepModulation : Nat × Nat × Nat × Nat × Nat := (6250, 50, 50, 25000, 50000)

/-- The deviation of a Deep chip in Hz: chip value 1 is the positive one (R121). -/
def chipDeviation (c : Bool) : Int := if c then 6250 else -6250

/-! ### CRCs and whitening -/

/-- One bit of the CRC-8 of R91 and R125, polynomial x^8 + x^2 + x + 1. -/
def crc8Bit (c : BitVec 8) (b : Bool) : BitVec 8 :=
  let fb := c.msb != b
  let c' := c <<< 1
  if fb then c' ^^^ 0x07 else c'

/-- The CRC-8 over octets, most significant bit first, initial value 0 (R125). -/
def crc8Octets (l : List Byte) : BitVec 8 :=
  l.foldl (fun c o => (List.range 8).foldl (fun c i => crc8Bit c (o.getLsbD (7 - i))) c) 0

/-- The bits of an octet, least significant first (R124). -/
def octetBits (o : Byte) : List Bool := (List.range 8).map fun i => o.getLsbD i

/-- One bit of the 32-bit FCS of IEEE 802.15.4 (R126). PRESUMED from the standard: the reflected CRC-32. -/
def fcsBit (c : Word) (b : Bool) : Word :=
  if c.getLsbD 0 != b then (c >>> 1) ^^^ 0xEDB88320#32 else c >>> 1

/-- The 4-octet FCS over payload octets, first octet sent first (R126). PRESUMED from the standard: initial value all ones, inverted
at the end, least significant octet first. -/
def fcs32 (l : List Byte) : List Byte :=
  let c := ~~~((l.flatMap octetBits).foldl fcsBit 0xFFFFFFFF#32)
  [c.extractLsb' 0 8, c.extractLsb' 8 8, c.extractLsb' 16 8, c.extractLsb' 24 8]

/-- `n` bits of the PN9 sequence x^9 + x^5 + 1 from the nine register bits `r`, oldest first (R126). The bit that whitens is the one
that enters the register, as in the whitening of IEEE 802.15.4 (PRESUMED). -/
def pn9From : Nat → List Bool → List Bool
  | 0, _ => []
  | n + 1, r =>
    let b := (r.getD 0 false) != (r.getD 5 false)
    b :: pn9From n (r.drop 1 ++ [b])

/-- Bits whitened with PN9, all nine register bits 1 at the first (R126). -/
def pn9Whiten (l : List Bool) : List Bool := l.zipWith (fun a b => a != b) (pn9From l.length (List.replicate 9 true))

/-! ### The Deep sequence family (R122, R123) -/

/-- `n` chips of the sequence s[n + 6] = s[n + 1] xor s[n] from six chips in a row. -/
def mSeqFrom : Nat → List Bool → List Bool
  | 0, _ => []
  | n + 1, w => w.getD 0 false :: mSeqFrom n (w.drop 1 ++ [w.getD 1 false != w.getD 0 false])

/-- The base sequence s[0] to s[62] (R123). -/
def baseSeq : List Bool := mSeqFrom 63 [true, false, false, false, false, false]

/-- Chip `n` mod 63 of the base sequence. -/
def seqChip (n : Nat) : Bool := baseSeq.getD (n % 63) false

/-- The repetition factor R of level `v` (R122). -/
def deepR (v : Nat) : Nat := [4, 8, 16, 32].getD v 0

/-- The preamble shift of level `v` (R122). -/
def deepShift (v : Nat) : Nat := [0, 16, 32, 48].getD v 0

/-- The preamble repeats N of level `v` (R122). -/
def deepN (v : Nat) : Nat := [4, 8, 16, 32].getD v 0

/-- The user data rate of level `v` in millibit/s: 25,000 / (2 × R) bit/s (R122). -/
def deepRate (v : Nat) : Nat := 25000000 / (2 * deepR v)

/-- The 64-chip preamble word of level `v` (R123). -/
def preambleWord (v : Nat) : List Bool := (List.range 63).map (fun k => seqChip (k + deepShift v)) ++ [false]

/-- The preamble of level `v`: its word N times, chip 0 first (R123). -/
def deepPreamble (v : Nat) : List Bool := (List.range (deepN v)).flatMap fun _ => preambleWord v

/-- The Deep sync word (R124). -/
def deepSyncWord : Word := 0x6C2BF1D4

/-- Its bits, bit 31 first (R124). -/
def deepSyncBits : List Bool := (List.range 32).map fun i => deepSyncWord.getLsbD (31 - i)

/-! ### Coding, repetition and interleaving (R127) -/

/-- The parity of the bits of a register under a generator. -/
def parity7 (w g : BitVec 7) : Bool := (List.range 7).foldl (fun p i => p != (w &&& g).getLsbD i) false

/-- The convolutional code of constraint length 7 and rate 1/2 from a register of the last six bits, the 0o133 output first (R127). The
newest bit is the generators' most significant (PRESUMED, as these generators are commonly written). -/
def convFrom (m : BitVec 6) : List Bool → List Bool
  | [] => []
  | b :: r =>
    let w : BitVec 7 := BitVec.ofBool b ++ m
    parity7 w 0o133 :: parity7 w 0o171 :: convFrom (w.extractLsb' 1 6) r

/-- The coded bits of a field: from the zero state, with its six tail bits (R124, R127). -/
def convField (l : List Bool) : List Bool := convFrom 0 (l ++ List.replicate 6 false)

/-- The blocks of 16 in which a field is sent; the last holds what remains (R127). -/
def codedBlocks (c : List Bool) : List (List Bool) :=
  (List.range ((c.length + 15) / 16)).map fun i => (c.drop (16 * i)).take 16

/-- Copy `r` of a block, whitened (R127). -/
def blockCopy (r : Nat) (m : List Bool) : List Bool := m.zipIdx.map fun x => x.1 != seqChip (16 * r + x.2)

/-- The chips of a field's bits: each block R times, every chip whitened (R127). -/
def spread (rep : Nat) (c : List Bool) : List Bool :=
  (codedBlocks c).flatMap fun m => (List.range rep).flatMap fun r => blockCopy r m

/-! ### The Deep header and frame (R124 to R128) -/

/-- The octets of a Deep header that names level `v`, a payload of `len` octets, and whether it is whitened (R125). -/
def deepHeader (v len : Nat) (whiten : Bool) : List Byte :=
  let a : List Byte := [BitVec.ofNat 8 (v % 4 * 16), BitVec.ofNat 8 len, BitVec.ofNat 8 (whiten.toNat * 128)]
  a ++ [crc8Octets a]

/-- The header check of a Deep lane on a level `v` preamble: HCRC, VERSION, LEVEL, LENGTH and the reserved bits (R125, R126). The four
octets stand in `h` in the order sent, octet 0 most significant. -/
def deepHeaderOk (v : Nat) (h : Word) : Bool :=
  let o (i : Nat) : Byte := h.extractLsb' (8 * (3 - i)) 8
  o 3 == crc8Octets [o 0, o 1, o 2] && (o 0).extractLsb' 6 2 == 0#2 && ((o 0).extractLsb' 4 2).toNat == v &&
    decide (5 ≤ (o 1).toNat) && (o 0).extractLsb' 0 4 == 0#4 && (o 2).extractLsb' 0 7 == 0#7

/-- LENGTH of a Deep header (R125). -/
def deepLength (h : Word) : Nat := (h.extractLsb' 16 8).toNat

/-- WHITEN of a Deep header (R125). -/
def deepWhiten (h : Word) : Bool := h.getLsbD 15

/-- The bits of a Deep body: the payload and its FCS, whitened if WHITEN is 1 (R124, R126). -/
def deepBody (whiten : Bool) (payload : List Byte) : List Bool :=
  let b := (payload ++ fcs32 payload).flatMap octetBits
  if whiten then pn9Whiten b else b

/-- The chips of a whole Deep frame of level `v` (R124): preamble, sync word, header and body. -/
def deepFrame (v : Nat) (whiten : Bool) (payload : List Byte) : List Bool :=
  deepPreamble v ++ spread (deepR v) deepSyncBits ++
    spread (deepR v) (convField ((deepHeader v payload.length whiten).flatMap octetBits)) ++
    spread (deepR v) (convField (deepBody whiten payload))

/-- The airtime of a Deep frame in chips (R128). -/
def deepChips (v len : Nat) : Nat :=
  64 * deepN v + 32 * deepR v + 76 * deepR v + (16 * (len + 4) + 12) * deepR v

/-- How many bits of two words differ among the low `n`. -/
def bitErrors (a b : Word) : Nat → Nat
  | 0 => 0
  | n + 1 => bitErrors a b n + ((a ^^^ b).getLsbD n).toNat

/-! ### SUN headers (R117 to R119) -/

/-- The formats of a header (R165). -/
inductive AirFormat where
  | fsk
  | oqpsk
  | deep (level : Nat)
  deriving DecidableEq, Repr

/-- The bits of a header: the MR-FSK PHR, the MR-O-QPSK PHR, and the Deep header. -/
def AirFormat.bits : AirFormat → Nat
  | .fsk => 16
  | .oqpsk => 24
  | .deep _ => 32

/-- The MR-FSK PHR: MS is bit 15, the reserved bits are 14 and 13, the FCS type bit 12, DW bit 11, the length bits 10 to 0 (R117; the
layout is PRESUMED from IEEE 802.15.4-2020, first bit sent most significant). -/
def phrMs (h : Word) : Bool := h.getLsbD 15
/-- The reserved bits of the MR-FSK PHR. -/
def phrReserved (h : Word) : Nat := (h.extractLsb' 13 2).toNat
/-- The FCS type of the MR-FSK PHR: 1 is the 2-octet FCS. -/
def phrFcs2 (h : Word) : Bool := h.getLsbD 12
/-- DW of the MR-FSK PHR (R117). -/
def phrDw (h : Word) : Bool := h.getLsbD 11
/-- The PSDU length of the MR-FSK PHR. -/
def phrLength (h : Word) : Nat := (h.extractLsb' 0 11).toNat

/-- The MR-O-QPSK PHR: spreading mode bit 23, rate mode 22:21, reserved 20:19, length 18:8, HCS 7:0 (R119; the layout is PRESUMED from
IEEE 802.15.4-2020). -/
def phrRateMode (h : Word) : Nat := (h.extractLsb' 21 2).toNat
/-- The PSDU length of the MR-O-QPSK PHR. -/
def oqpskLength (h : Word) : Nat := (h.extractLsb' 8 11).toNat

/-- The PSDU or Deep payload length that a header names. -/
def headerLength (f : AirFormat) (h : Word) : Nat := match f with
  | .fsk => phrLength h
  | .oqpsk => oqpskLength h
  | .deep _ => deepLength h

/-- The result of a header check (R118, R119, R126, R165). -/
inductive HeaderResult where
  | pass
  | fail
  | modeSwitch
  deriving DecidableEq, Repr

/-- The tests of R165 on a header, in their order; `hcsOk` says that the HCS of an MR-O-QPSK PHR is correct as the standard computes
it. -/
def headerResult (f : AirFormat) (h : Word) (hcsOk : Bool) : HeaderResult := match f with
  | .fsk =>
    if phrReserved h ≠ 0 then .fail
    else if phrMs h then .modeSwitch
    else if phrLength h < 5 then .fail
    else .pass
  | .oqpsk => if !hcsOk || decide (oqpskLength h < 5) then .fail else .pass
  | .deep v => if deepHeaderOk v h then .pass else .fail

/-- A member's own decisions of a header differ from the header that passed in more than a quarter of its bits (R173). -/
def headerDiffers (f : AirFormat) (a b : Word) : Bool := decide (f.bits < 4 * bitErrors a b f.bits)

/-- Whether the sync of a format has been found in the decisions `w` (R165): a Deep sync word with at most 3 bit errors in 32 within ±2
chips of the position predicted, `off` being the distance from it in 1/16 ns; an SFD with at most 1 bit error in 16 of one of the
values `sfds`. -/
def syncOk (f : AirFormat) (sfds : List Word) (w : Word) (off : Int) : Bool := match f with
  | .deep _ => decide (bitErrors w deepSyncWord 32 ≤ 3) && decide (off.natAbs ≤ 2 * us 40)
  | _ => sfds.any fun v => decide (bitErrors w v 16 ≤ 1)

end Sys2Proof.Machine
end

