-- ==== Sys2Proof/Machine/Line.lean ====
section
/-! DEFINITION. The fronthaul line (03_fronthaul.md): blocks, the scrambler, control blocks, and the packing of samples; and the arithmetic of
the analogue ports. Pure functions over bits and words. -/

namespace Sys2Proof.Machine

open Sys2Proof

/-! ### Blocks (R88, R89) -/

/-- A 66-bit block: its sync header and its 64 bits of content. -/
abbrev Block := BitVec 2 × BitVec 64

/-- A sync header is valid when it is 0b01 or 0b10 (R88, IEEE 802.3 Clause 49). -/
def syncValid (h : BitVec 2) : Bool := h == 1#2 || h == 2#2

/-- The bits of a word, most significant first. -/
def msbBits {w : Nat} (x : BitVec w) : List Bool := (List.range w).map fun i => x.getLsbD (w - 1 - i)

/-- The word whose bits are `l`, most significant first. -/
def wordOfBits (w : Nat) (l : List Bool) : BitVec w := l.foldl (fun a b => a <<< 1 ||| (BitVec.ofBool b).zeroExtend w) 0

/-- The scrambler of R88, x^58 + x^39 + 1, over bits in line order; `r` holds the last 58 bits sent, the newest in bit 0. -/
def scramble : BitVec 58 → List Bool → List Bool
  | _, [] => []
  | r, b :: l =>
    let o := (b != r.getLsbD 38) != r.getLsbD 57
    o :: scramble (r <<< 1 ||| (BitVec.ofBool o).zeroExtend 58) l

/-- The descrambler of R88; `r` holds the last 58 bits received, the newest in bit 0. -/
def descramble : BitVec 58 → List Bool → List Bool
  | _, [] => []
  | r, o :: l => ((o != r.getLsbD 38) != r.getLsbD 57) :: descramble (r <<< 1 ||| (BitVec.ofBool o).zeroExtend 58) l

/-! ### Control blocks (R91) -/

/-- The CRC-8 over bits 63:8 of a control block, bit 63 first, initial value 0 (R91). -/
def crc8 (w : BitVec 64) : BitVec 8 :=
  (List.range 56).foldl (fun c i => crc8Bit c (w.getLsbD (63 - i))) 0

/-- A control block from its fields, its CRC filled in (R91). -/
def controlBlock (type : Nat) (flag : Bool) (frameNo groups : Nat) (sub : Word) : BitVec 64 :=
  let w : BitVec 64 := BitVec.ofNat 64
    (type * 2 ^ 56 + flag.toNat * 2 ^ 55 + frameNo % 16 * 2 ^ 50 + groups % 256 * 2 ^ 42 + sub.toNat * 2 ^ 10)
  w ||| (crc8 w).zeroExtend 64

/-- Bits `hi:lo` of a control block as a number. -/
def cbField (w : BitVec 64) (lo n : Nat) : Nat := w.toNat / 2 ^ lo % 2 ^ n

/-- An upstream control block is good when its sync header is 0b10, its TYPE is valid and its CRC is correct (R90, R91). -/
def cbGood (syncGood : Bool) (w : BitVec 64) : Bool :=
  syncGood && (cbField w 56 8 == 0x5A || cbField w 56 8 == 0x96) && w.truncate 8 == crc8 w

/-! ### Sample payload (R95) -/

/-- The receive groups a frame can carry with `n` slots enabled (R95). -/
def rxCapacity (n : Nat) : Nat := if n = 0 then 0 else 168 / n

/-- The transmit groups a frame can carry with `m` slots enabled (R95). -/
def txCapacity (m : Nat) : Nat := if m = 0 then 0 else 126 / m

/-- The number of set bits. -/
def ones {w : Nat} (b : BitVec w) : Nat := ((List.range w).filter fun i => b.getLsbD i).length

/-- The 4,032 bits of a downstream frame: the groups one after the other, each sample I[15:0] then Q[15:0] as one word, then zeros (R95). -/
def packTx (m : Nat) (groups : List (List Word)) : List Bool :=
  let l := groups.flatMap fun g => (List.range m).flatMap fun k => msbBits (g.getD k 0)
  (l ++ List.replicate (4032 - l.length) false).take 4032

/-- A payload bit string as 63 words, bit 63 of the first payload block first (R95). -/
def payloadWords (l : List Bool) : List (BitVec 64) := (List.range 63).map fun i => wordOfBits 64 ((l.drop (64 * i)).take 64)

/-- The bit string of payload blocks (R95). -/
def payloadBits (ws : List (BitVec 64)) : List Bool := ws.flatMap msbBits

/-- A downstream frame: the control block with sync header 0b10 and 63 payload blocks with sync header 0b01 (R89). -/
def frameBlocks (control : BitVec 64) (m : Nat) (groups : List (List Word)) : List Block :=
  (2#2, control) :: (payloadWords (packTx m groups)).map fun w => (1#2, w)

/-- Group `i` of an upstream frame of `n` enabled slots: a sample of 24 bits, I[11:0] then Q[11:0], from each slot (R95). -/
def unpackRx (n i : Nat) (l : List Bool) : List (BitVec 24) :=
  (List.range n).map fun k => wordOfBits 24 ((l.drop (24 * (n * i + k))).take 24)

/-! ### Time (R89, R99, R100) -/

/-- The duration of `n` superframes in 1/16 ns: 10,813.44 ns each (R89). -/
def superframes (n : Nat) : Nat := n * 17301504 / 100

/-- Device time `x` in 1/16 ns as a count of sample periods of 48.828125 ns and what is left over in 1/16 ns (R99). -/
def samplePeriods (x : Int) : Int × Int := (x * 4 / 3125, (x * 4 % 3125) / 4)

/-- `x` reduced modulo `m` to the range around 0. -/
def nearZero (x m : Int) : Int := if 2 * (x % m) < m then x % m else x % m - m

/-- A timestamp in line unit intervals of 160 ps (R100). -/
def unitIntervals (t : Time) : Nat := t * 100 / 256

/-- The mean of the last 64 round trips. R100 gives no rounding: the model takes the floor in 1/16 ns (the log's choice). -/
def rttMean (l : List Int) : Nat := if l.length = 0 then 0 else ((l.foldl (fun (a b : Int) => a + b) 0) / (l.length : Int)).toNat

/-- The spread of the last 64 round trips. -/
def rttSpread (l : List Int) : Int := l.foldl max (l.headD 0) - l.foldl min (l.headD 0)

/-! ### The conversion chains (R112) -/

/-- The tuning word of a 32-bit NCO at `rate` Hz for `f` Hz, to the nearest step (R112). -/
def ncoWord (f : Int) (rate : Nat) : Word := BitVec.ofInt 32 ((f * 2 ^ 33 + rate) / (2 * rate))

/-- A value within `w` bits of two's complement, and whether it was limited. -/
def saturate (w : Nat) (x : Int) : Int × Bool :=
  let hi : Int := 2 ^ (w - 1) - 1
  if hi < x then (hi, true) else if x < -hi - 1 then (-hi - 1, true) else (x, false)

/-- The sum of the two up-converters of a port, saturated to the 16 bits of the DAC (R112). -/
def ducSum (a b : BitVec 16) : Int × Bool := saturate 16 (a.toInt + b.toInt)

/-- An ADC code at either end of the 14-bit scale (R112). -/
def adcFullScale (x : BitVec 14) : Bool := x == 0x1FFF#14 || x == 0x2000#14

end Sys2Proof.Machine
end

