-- ==== Sys2Proof/Machine/Crypto.lean ====
section
/-! DEFINITION. The cryptographic functions that the spec names (10_keys_and_crypto.md, 11_acceptance_and_ferry.md), as their standards define
them and over octets: AES (FIPS 197), SHA-256 (FIPS 180-4), HMAC and HKDF (RFC 2104, RFC 5869), the key wrap with padding (RFC 5649), CCM* (IEEE
802.15.4), GCM (SP 800-38D), P-256 with ECDH and ECDSA (FIPS 186), and the CRC-32 of IEEE 802.3. Octets and words are natural numbers in here; the
standards' own contents are PRESUMED. -/

namespace Sys2Proof.Machine

open Sys2Proof

/-! ### Octets -/

/-- Octets as numbers. -/
abbrev Octets := List Nat

/-- The number of octets in network byte order. -/
def osToNat (l : Octets) : Nat := l.foldl (fun n b => n * 256 + b) 0

/-- `n` octets of a number in network byte order. -/
def natToOs (n v : Nat) : Octets := (List.range n).map fun i => v >>> (8 * (n - 1 - i)) % 256

/-- The exclusive or of two octet strings, as long as the shorter. -/
def xorOs (a b : Octets) : Octets := a.zipWith (fun x y => x ^^^ y) b

/-- `l` cut into pieces of `n`; the last holds what remains. -/
def pieces (n : Nat) (l : Octets) : List Octets := (List.range ((l.length + n - 1) / n)).map fun i => (l.drop (n * i)).take n

/-- The octets of an ASCII text. -/
def textOs (t : String) : Octets := t.toList.map fun c => c.toNat

/-- Octets as numbers, from bytes. -/
def ofBytes (l : List Byte) : Octets := l.map fun b => b.toNat

/-- Octets as bytes. -/
def toBytes (l : Octets) : List Byte := l.map fun b => BitVec.ofNat 8 b

/-- The CRC-32 of IEEE 802.3 over octets. -/
def crc32 (l : Octets) : Word := ~~~(((toBytes l).flatMap octetBits).foldl fcsBit 0xFFFFFFFF#32)

/-! ### AES -/

/-- The S-box, value of 0 first. -/
def sboxTable : Nat := 0x637c777bf26b6fc53001672bfed7ab76ca82c97dfa5947f0add4a2af9ca472c0b7fd9326363ff7cc34a5e5f171d8311504c723c31896059a071280e2eb27b27509832c1a1b6e5aa0523bd6b329e32f8453d100ed20fcb15b6acbbe394a4c58cfd0efaafb434d338545f9027f503c9fa851a3408f929d38f5bcb6da2110fff3d2cd0c13ec5f974417c4a77e3d645d197360814fdc222a908846eeb814de5e0bdbe0323a0a4906245cc2d3ac629195e479e7c8376d8dd54ea96c56f4ea657aae08ba78252e1ca6b4c6e8dd741f4bbd8b8a703eb5664803f60e613557b986c11d9ee1f8981169d98e949b1e87e9ce5528df8ca1890dbfe6426841992d0fb054bb16

/-- The inverse S-box, value of 0 first. -/
def invSboxTable : Nat := 0x52096ad53036a538bf40a39e81f3d7fb7ce339829b2fff87348e4344c4dee9cb547b9432a6c2233dee4c950b42fac34e082ea16628d924b2765ba2496d8bd12572f8f66486689816d4a45ccc5d65b6926c704850fdedb9da5e154657a78d9d8490d8ab008cbcd30af7e45805b8b34506d02c1e8fca3f0f02c1afbd0301138a6b3a9111414f67dcea97f2cfcef0b4e67396ac7422e7ad3585e2f937e81c75df6e47f11a711d29c5896fb7620eaa18be1bfc563e4bc6d279209adbc0fe78cd5af41fdda8338807c731b11210592780ec5f60517fa919b54a0d2de57a9f93c99cefa0e03b4dae2af5b0c8ebbb3c83539961172b047eba77d626e169146355210c7d

/-- Octet `b` of a table of 256. -/
def tableOctet (t b : Nat) : Nat := t >>> (8 * (255 - b)) % 256

/-- The product with x in the field of AES. -/
def xtime (b : Nat) : Nat := if b < 128 then 2 * b else (2 * b) ^^^ 0x11B

/-- The product in the field of AES with a number of 4 bits. -/
def gmul (k b : Nat) : Nat :=
  let b2 := xtime b
  let b4 := xtime b2
  let b8 := xtime b4
  (if k % 2 = 1 then b else 0) ^^^ (if k / 2 % 2 = 1 then b2 else 0) ^^^ (if k / 4 % 2 = 1 then b4 else 0) ^^^ (if k / 8 % 2 = 1 then b8 else 0)

/-- One column times a circulant matrix whose first row is `m`. -/
def mixColumn (m c : List Nat) : Octets :=
  (List.range 4).map fun r => (List.range 4).foldl (fun a j => a ^^^ gmul (m.getD ((j + 4 - r) % 4) 0) (c.getD j 0)) 0

/-- Mix every column of a state. -/
def mixColumns (m : List Nat) (s : Octets) : Octets := (pieces 4 s).flatMap fun c => mixColumn m c

/-- Rotate row r of a state by `k` × r places. -/
def shiftRows (k : Nat) (s : Octets) : Octets := (List.range 16).map fun i => s.getD (i % 4 + 4 * ((i / 4 + k * (i % 4)) % 4)) 0

/-- Round constant `i`. -/
def rcon : Nat → Nat
  | 0 => 1
  | i + 1 => xtime (rcon i)

/-- One more word of the key schedule; `w` holds the words so far, newest first. -/
def nextKeyWord (nk : Nat) (w : List Octets) : Octets :=
  let i := w.length
  let prev := w.headD []
  let t := if i % nk = 0 then xorOs ((prev.drop 1 ++ prev.take 1).map (tableOctet sboxTable)) [rcon (i / nk - 1), 0, 0, 0]
    else if 6 < nk ∧ i % nk = 4 then prev.map (tableOctet sboxTable) else prev
  xorOs (w.getD (nk - 1) []) t

/-- The key schedule extended by `n` words. -/
def expandKey (nk : Nat) : Nat → List Octets → List Octets
  | 0, w => w
  | n + 1, w => expandKey nk n (nextKeyWord nk w :: w)

/-- The round keys of an AES key of 16 or 32 octets. -/
def roundKeys (key : Octets) : List Octets :=
  let nk := key.length / 4
  let w := (expandKey nk (4 * (nk + 7) - nk) (pieces 4 key).reverse).reverse
  (List.range (nk + 7)).map fun r => ((w.drop (4 * r)).take 4).flatten

/-- One round of encryption with round key `k`; the last one does not mix. -/
def encRound (last : Bool) (s k : Octets) : Octets :=
  let t := shiftRows 1 (s.map (tableOctet sboxTable))
  xorOs (if last then t else mixColumns [2, 3, 1, 1] t) k

/-- AES of one block under round keys. -/
def aesWith (ks : List Octets) (b : Octets) : Octets :=
  let n := ks.length
  encRound true (((ks.drop 1).take (n - 2)).foldl (encRound false) (xorOs b (ks.headD []))) (ks.getLastD [])

/-- AES of one block under a key. -/
def aes (key b : Octets) : Octets := aesWith (roundKeys key) b

/-- One round of decryption with round key `k`; the last one does not mix. -/
def decRound (last : Bool) (s k : Octets) : Octets :=
  let t := xorOs ((shiftRows 3 s).map (tableOctet invSboxTable)) k
  if last then t else mixColumns [14, 11, 13, 9] t

/-- The inverse of AES under round keys. -/
def aesInvWith (ks : List Octets) (b : Octets) : Octets :=
  let r := ks.reverse
  let n := ks.length
  decRound true (((r.drop 1).take (n - 2)).foldl (decRound false) (xorOs b (r.headD []))) (r.getLastD [])

/-! ### SHA-256, HMAC and HKDF -/

/-- The round constants, first one first. -/
def shaK : Nat := 0x428a2f9871374491b5c0fbcfe9b5dba53956c25b59f111f1923f82a4ab1c5ed5d807aa9812835b01243185be550c7dc372be5d7480deb1fe9bdc06a7c19bf174e49b69c1efbe47860fc19dc6240ca1cc2de92c6f4a7484aa5cb0a9dc76f988da983e5152a831c66db00327c8bf597fc7c6e00bf3d5a7914706ca63511429296727b70a852e1b21384d2c6dfc53380d13650a7354766a0abb81c2c92e92722c85a2bfe8a1a81a664bc24b8b70c76c51a3d192e819d6990624f40e3585106aa07019a4c1161e376c082748774c34b0bcb5391c0cb34ed8aa4a5b9cca4f682e6ff3748f82ee78a5636f84c878148cc7020890befffaa4506cebbef9a3f7c67178f2

/-- The initial hash value. -/
def shaH : Nat := 0x6a09e667bb67ae853c6ef372a54ff53a510e527f9b05688c1f83d9ab5be0cd19

/-- Word `i` of `n` words in one number. -/
def packedWord (t n i : Nat) : Nat := t >>> (32 * (n - 1 - i)) % 2 ^ 32

/-- A word rotated right. -/
def ror (n x : Nat) : Nat := (x >>> n ||| x <<< (32 - n)) % 2 ^ 32

/-- The message schedule extended by `n` words; newest first. -/
def shaSchedule : Nat → List Nat → List Nat
  | 0, w => w
  | n + 1, w =>
    let a := w.getD 14 0
    let b := w.getD 1 0
    let s0 := ror 7 a ^^^ ror 18 a ^^^ a >>> 3
    let s1 := ror 17 b ^^^ ror 19 b ^^^ b >>> 10
    shaSchedule n ((w.getD 15 0 + s0 + w.getD 6 0 + s1) % 2 ^ 32 :: w)

/-- One round with its message word and constant over the eight working words. -/
def shaRound (v : List Nat) (x : Nat × Nat) : List Nat := match v with
  | [a, b, c, d, e, f, g, h] =>
    let t1 := h + (ror 6 e ^^^ ror 11 e ^^^ ror 25 e) + ((e &&& f) ^^^ ((2 ^ 32 - 1 - e) &&& g)) + x.2 + x.1
    let t2 := (ror 2 a ^^^ ror 13 a ^^^ ror 22 a) + ((a &&& b) ^^^ (a &&& c) ^^^ (b &&& c))
    [(t1 + t2) % 2 ^ 32, a, b, c, (d + t1) % 2 ^ 32, e, f, g]
  | _ => v

/-- The hash value after one block of 64 octets. -/
def shaBlock (h : List Nat) (b : Octets) : List Nat :=
  let w := (shaSchedule 48 ((pieces 4 b).map osToNat).reverse).reverse
  let v := (w.zip ((List.range 64).map (packedWord shaK 64))).foldl shaRound h
  h.zipWith (fun x y => (x + y) % 2 ^ 32) v

/-- SHA-256. -/
def sha256 (m : Octets) : Octets :=
  let padded := m ++ [0x80] ++ List.replicate ((119 - m.length % 64) % 64) 0 ++ natToOs 8 (8 * m.length)
  ((pieces 64 padded).foldl shaBlock ((List.range 8).map (packedWord shaH 8))).flatMap (natToOs 4)

/-- HMAC-SHA-256. -/
def hmac (key m : Octets) : Octets :=
  let k0 := if 64 < key.length then sha256 key else key
  let k := k0 ++ List.replicate (64 - k0.length) 0
  sha256 (k.map (fun x => x ^^^ 0x5C) ++ sha256 (k.map (fun x => x ^^^ 0x36) ++ m))

/-- The blocks T(i), T(i+1), … of HKDF's expansion, `n` of them. -/
def hkdfBlocks (prk info : Octets) : Nat → Nat → Octets → Octets
  | 0, _, _ => []
  | n + 1, i, t =>
    let u := hmac prk (t ++ info ++ [i])
    u ++ hkdfBlocks prk info n (i + 1) u

/-- HKDF-SHA-256: `n` octets from an input key, a salt and an info. -/
def hkdf (ikm salt info : Octets) (n : Nat) : Octets :=
  (hkdfBlocks (hmac (if salt.isEmpty then List.replicate 32 0 else salt) ikm) info ((n + 31) / 32) 1 []).take n

/-! ### The key wrap with padding -/

/-- One pass of the wrap over the semiblocks, from step `t` on. -/
def wrapPass (ks : List Octets) : Nat → Octets → List Octets → Octets × List Octets
  | _, a, [] => (a, [])
  | t, a, r :: l =>
    let b := aesWith ks (a ++ r)
    let x := wrapPass ks (t + 1) (xorOs (b.take 8) (natToOs 8 t)) l
    (x.1, b.drop 8 :: x.2)

/-- One pass of the unwrap over the semiblocks, last one first, from step `t` down. -/
def unwrapPass (ks : List Octets) : Nat → Octets → List Octets → Octets × List Octets
  | _, a, [] => (a, [])
  | t, a, r :: l =>
    let b := aesInvWith ks (xorOs a (natToOs 8 t) ++ r)
    let x := unwrapPass ks (t - 1) (b.take 8) l
    (x.1, b.drop 8 :: x.2)

/-- The integrity value of RFC 5649: 0xA659_59A6 and the length (R272). -/
def wrapIv (n : Nat) : Octets := [0xA6, 0x59, 0x59, 0xA6] ++ natToOs 4 n

/-- The wrap of a plaintext of two or more semiblocks under a key (R272). -/
def keyWrap (key m : Octets) : Octets :=
  let ks := roundKeys key
  let n := (m.length + 7) / 8
  let r := pieces 8 (m ++ List.replicate (8 * n - m.length) 0)
  let x := (List.range 6).foldl (fun x j => wrapPass ks (n * j + 1) x.1 x.2) (wrapIv m.length, r)
  x.1 ++ x.2.flatten

/-- The plaintext of a wrap, none where its integrity value is not that of a plaintext of `len` octets or its padding is not zero (R272,
R273). -/
def keyUnwrap (key c : Octets) (len : Nat) : Option Octets :=
  let ks := roundKeys key
  let r := pieces 8 c
  let n := r.length - 1
  let x := (List.range 6).foldl (fun x j => unwrapPass ks (n * (6 - j)) x.1 x.2) (r.headD [], (r.drop 1).reverse)
  let m := x.2.reverse.flatten
  if x.1 = wrapIv len ∧ (m.drop len).all (fun b => b == 0) ∧ n = (len + 7) / 8 then some (m.take len) else none

/-! ### CCM* -/

/-- A string filled up with zeros to whole blocks. -/
def blockPad (l : Octets) : Octets := l ++ List.replicate ((16 - l.length % 16) % 16) 0

/-- The CBC-MAC of whole blocks under round keys. -/
def cbcMac (ks : List Octets) (l : Octets) : Octets := (pieces 16 l).foldl (fun x b => aesWith ks (xorOs x b)) (List.replicate 16 0)

/-- Counter block `i` of CCM* under a nonce of 13 octets. -/
def ccmCounter (nonce : Octets) (i : Nat) : Octets := 1 :: nonce ++ natToOs 2 i

/-- A string under the CCM* key stream from counter 1. -/
def ccmStream (ks : List Octets) (nonce m : Octets) : Octets :=
  ((pieces 16 m).zipIdx.map fun x => xorOs x.1 (aesWith ks (ccmCounter nonce (x.2 + 1)))).flatten

/-- The MIC of `n` octets over authenticated data `a` and plaintext `m`. -/
def ccmMic (ks : List Octets) (nonce a m : Octets) (n : Nat) : Octets :=
  let b0 := ((if a.isEmpty then 0 else 64) + (n - 2) / 2 * 8 + 1) :: nonce ++ natToOs 2 m.length
  let t := cbcMac ks (b0 ++ (if a.isEmpty then [] else blockPad (natToOs 2 a.length ++ a)) ++ blockPad m)
  xorOs (t.take n) (aesWith ks (ccmCounter nonce 0))

/-! ### GCM -/

/-- The product in the field of GCM: `i` bits of `x` are left, `v` is the second factor shifted along. -/
def ghashMul (x : Nat) : Nat → Nat → Nat → Nat
  | 0, _, z => z
  | i + 1, v, z =>
    ghashMul x i (if v % 2 = 1 then v / 2 ^^^ (0xE1 <<< 120) else v / 2) (if x.testBit i then z ^^^ v else z)

/-- GHASH of whole blocks under the hash key `h`. -/
def ghash (h : Nat) (l : Octets) : Nat := (pieces 16 l).foldl (fun y b => ghashMul (y ^^^ osToNat b) 128 h 0) 0

/-- A string under the GCM key stream of a 12-octet IV, from counter 2. -/
def gcmStream (ks : List Octets) (iv m : Octets) : Octets :=
  ((pieces 16 m).zipIdx.map fun x => xorOs x.1 (aesWith ks (iv ++ natToOs 4 (x.2 + 2)))).flatten

/-- The tag of a ciphertext with its additional authenticated data. -/
def gcmTag (ks : List Octets) (iv aad c : Octets) : Octets :=
  let s := ghash (osToNat (aesWith ks (List.replicate 16 0)))
    (blockPad aad ++ blockPad c ++ natToOs 8 (8 * aad.length) ++ natToOs 8 (8 * c.length))
  xorOs (natToOs 16 s) (aesWith ks (iv ++ natToOs 4 1))

/-- A plaintext sealed: its ciphertext and the 16 octets of its tag. -/
def gcmSeal (key iv aad m : Octets) : Octets :=
  let ks := roundKeys key
  let c := gcmStream ks iv m
  c ++ gcmTag ks iv aad c

/-- The plaintext of a ciphertext with its tag, none where the tag fails. -/
def gcmOpen (key iv aad c : Octets) : Option Octets :=
  let ks := roundKeys key
  let n := c.length - 16
  if 16 ≤ c.length ∧ gcmTag ks iv aad (c.take n) = c.drop n then some (gcmStream ks iv (c.take n)) else none

/-! ### P-256 -/

/-- The prime of the field. -/
def p256 : Nat := 0xffffffff00000001000000000000000000000000ffffffffffffffffffffffff

/-- The order of the group. -/
def n256 : Nat := 0xffffffff00000000ffffffffffffffffbce6faada7179e84f3b9cac2fc632551

/-- The curve's b. -/
def b256 : Nat := 0x5ac635d8aa3a93e7b3ebbd55769886bc651d06b0cc53b0f63bce3c3e27d2604b

/-- The base point. -/
def g256 : Nat × Nat := (0x6b17d1f2e12c4247f8bce6e563a440f277037d812deb33a0f4a13945d898c296,
  0x4fe342e2fe1a7f9b8ee7eb4a7c0f9e162bce33576b315ececbb6406837bf51f5)

/-- A power modulo `m`: `i` low bits of the exponent `e` are left, `a` is the value so far. -/
def powMod (b e m : Nat) : Nat → Nat → Nat
  | 0, a => a
  | i + 1, a => let q := a * a % m; powMod b e m i (if e.testBit i then q * b % m else q)

/-- The inverse modulo a prime. -/
def invMod (x m : Nat) : Nat := powMod (x % m) (m - 2) m 256 1

/-- A point in Jacobian coordinates; Z = 0 is the point at infinity. -/
abbrev Jac := Nat × Nat × Nat

/-- The difference in the field. -/
def subP (a b : Nat) : Nat := (a + p256 - b % p256) % p256

/-- Twice a point. -/
def jacDouble (q : Jac) : Jac :=
  let (x, y, z) := q
  let z2 := z * z % p256
  let m := 3 * subP x z2 * (x + z2) % p256
  let y2 := y * y % p256
  let s := 4 * x * y2 % p256
  let x3 := subP (m * m) (2 * s)
  (x3, subP (m * subP s x3) (8 * y2 * y2), 2 * y * z % p256)

/-- The sum of two points. -/
def jacAdd (a b : Jac) : Jac :=
  let (x1, y1, z1) := a
  let (x2, y2, z2) := b
  if z1 = 0 then b else if z2 = 0 then a
  else
    let q1 := z1 * z1 % p256
    let q2 := z2 * z2 % p256
    let u1 := x1 * q2 % p256
    let u2 := x2 * q1 % p256
    let s1 := y1 * q2 * z2 % p256
    let s2 := y2 * q1 * z1 % p256
    if u1 = u2 then (if s1 = s2 then jacDouble a else (1, 1, 0))
    else
      let h := subP u2 u1
      let r := subP s2 s1
      let h2 := h * h % p256
      let h3 := h2 * h % p256
      let v := u1 * h2 % p256
      let x3 := subP (r * r) (h3 + 2 * v)
      (x3, subP (r * subP v x3) (s1 * h3), h * z1 * z2 % p256)

/-- `k` times a point: `i` low bits of `k` are left, `a` is the point so far. -/
def jacMul (k : Nat) (q : Jac) : Nat → Jac → Jac
  | 0, a => a
  | i + 1, a => let d := jacDouble a; jacMul k q i (if k.testBit i then jacAdd d q else d)

/-- The affine form of a point; none at infinity. -/
def affine (q : Jac) : Option (Nat × Nat) :=
  if q.2.2 = 0 then none
  else
    let i := invMod q.2.2 p256
    let i2 := i * i % p256
    some (q.1 * i2 % p256, q.2.1 * i2 * i % p256)

/-- `k` times an affine point. -/
def ecMul (k : Nat) (q : Nat × Nat) : Option (Nat × Nat) := affine (jacMul k (q.1, q.2, 1) 256 (1, 1, 0))

/-- The point lies on the curve. -/
def onCurve (q : Nat × Nat) : Bool :=
  decide (q.1 < p256 ∧ q.2 < p256) && q.2 * q.2 % p256 == subP (q.1 * q.1 * q.1 + b256) (3 * q.1)

/-- The shared secret of a private number and a public point: the x coordinate in 32 octets. -/
def ecdh (d : Nat) (q : Nat × Nat) : Option Octets :=
  if onCurve q then (ecMul d q).map fun r => natToOs 32 r.1 else none

/-- The ECDSA check of a signature over a hash. -/
def ecdsaOk (q : Nat × Nat) (hash : Octets) (r s : Nat) : Bool :=
  onCurve q && decide (1 ≤ r ∧ r < n256 ∧ 1 ≤ s ∧ s < n256) &&
    (let w := invMod s n256
     let e := osToNat hash % n256
     let a := jacAdd (jacMul (e * w % n256) (g256.1, g256.2, 1) 256 (1, 1, 0)) (jacMul (r * w % n256) (q.1, q.2, 1) 256 (1, 1, 0))
     match affine a with
     | some x => x.1 % n256 == r
     | none => false)

end Sys2Proof.Machine
end

