-- ==== Sys2Proof/Machine/Cards.lean ====
section
/-! DEFINITION. The register cards, the counters and the named events of the 25 blocks (R486 to R498, and the cards
of every chapter). A register set's first instance stands here; instance i lies at i strides above it. -/

namespace Sys2Proof.Machine

/-- One register card. `rwl`, `rw` and `wo` are the bits of each access code (R489); `view` says that the register
shows state kept elsewhere in State, `keep` that it keeps its value across warm reset (R492). -/
structure Card where
  off    : Nat
  cnt    : Nat
  stride : Nat
  reset  : Nat
  rwl    : Nat
  rw     : Nat
  wo     : Nat
  view   : Bool
  keep   : Bool
  deriving DecidableEq, Repr

/-- A counter (R27): its block, the offset of its first instance, how many instances it has at stride 0x400, and its error
CODE, the index of its name among the block's counters in ASCII order (R496). -/
structure Counter where
  block : Nat
  off   : Nat
  cnt   : Nat
  code  : Nat
  deriving DecidableEq, Repr

/-- The base of block `n` (R486). -/
def blockBase (n : Nat) : Nat := 0x40000000 + n * 0x100000

/-- The cards of block 0, GLB. -/
def cardsGlb : List Card :=
  [⟨0x0, 1, 0x0, 0x24850100, 0x0, 0x0, 0x0, true, false⟩,
   ⟨0x4, 1, 0x0, 0x10, 0x0, 0x0, 0x0, true, false⟩,
   ⟨0x10, 4, 0x4, 0x0, 0x0, 0x0, 0x0, true, false⟩,
   ⟨0x20, 1, 0x0, 0x0, 0x0, 0x0, 0x0, true, false⟩]

/-- The cards of block 1, FUSE. -/
def cardsFuse : List Card :=
  [⟨0x0, 1, 0x0, 0x0, 0x0, 0x0, 0x0, true, false⟩,
   ⟨0x4, 1, 0x0, 0x0, 0x0, 0x7F, 0x80000000, false, false⟩]

/-- The cards of block 2, BOOT. -/
def cardsBoot : List Card :=
  [⟨0x40, 1, 0x0, 0x0, 0x0, 0x0, 0x0, true, false⟩,
   ⟨0x44, 1, 0x0, 0x0, 0x0, 0x0, 0x0, true, false⟩,
   ⟨0x48, 1, 0x0, 0x0, 0x0, 0x0, 0x0, true, false⟩,
   ⟨0x4C, 1, 0x0, 0xFFFFFFFF, 0x0, 0x0, 0x0, true, false⟩,
   ⟨0x50, 1, 0x0, 0x0, 0x0, 0xFFF, 0x0, false, false⟩,
   ⟨0x54, 1, 0x0, 0x0, 0x0, 0x0, 0x0, true, false⟩,
   ⟨0x80, 16, 0x4, 0x0, 0x0, 0x0, 0x0, true, false⟩]

/-- The cards of block 3, CLK. -/
def cardsClk : List Card :=
  [⟨0x0, 1, 0x0, 0xF, 0xF, 0x0, 0x0, false, false⟩,
   ⟨0x4, 1, 0x0, 0x0, 0x0, 0x0, 0x0, true, false⟩]

/-- The cards of block 4, FH. -/
def cardsFh : List Card :=
  [⟨0x0, 32, 0x400, 0x800, 0xFFFFFF01, 0x6, 0x0, false, false⟩,
   ⟨0x4, 32, 0x400, 0x0, 0x0, 0x0, 0x0, true, false⟩,
   ⟨0x8, 32, 0x400, 0x0, 0x0, 0x0, 0x0, true, false⟩,
   ⟨0xC, 32, 0x400, 0x0, 0x0, 0x0, 0x0, true, false⟩,
   ⟨0x10, 32, 0x400, 0x0, 0x0, 0x0, 0x0, true, false⟩]

/-- The cards of block 5, ANA. -/
def cardsAna : List Card :=
  [⟨0x0, 4, 0x400, 0x0, 0x3F, 0xC0, 0x0, false, false⟩]

/-- The cards of block 6, CHN. -/
def cardsChn : List Card :=
  [⟨0x0, 128, 0x400, 0xFF00, 0x0, 0x0, 0x0, true, false⟩,
   ⟨0x20000, 1, 0x0, 0x0, 0x0, 0x0, 0x0, true, false⟩]

/-- The cards of block 7, DET. -/
def cardsDet : List Card :=
  [⟨0x0, 12, 0x400, 0x0, 0x3FFFF1F, 0x0, 0x0, false, false⟩,
   ⟨0x3000, 1, 0x0, 0x18, 0xFF, 0x0, 0x0, false, false⟩,
   ⟨0x4000, 128, 0x400, 0x0, 0xFFF, 0x0, 0x0, false, false⟩]

/-- The cards of block 8, LANE. -/
def cardsLane : List Card :=
  [⟨0x0, 1, 0x0, 0x80003218, 0x803FFFFF, 0x0, 0x0, false, false⟩,
   ⟨0x4, 1, 0x0, 0x0, 0xFFF00000, 0x0, 0x0, false, false⟩,
   ⟨0x8, 1, 0x0, 0x0, 0xF, 0x0, 0x0, false, false⟩,
   ⟨0xC, 1, 0x0, 0x6, 0xF, 0x0, 0x0, false, false⟩,
   ⟨0x10, 1, 0x0, 0x0, 0x0, 0x0, 0x0, true, false⟩,
   ⟨0x20, 1, 0x0, 0x0, 0x0, 0xFFF, 0x0, false, false⟩,
   ⟨0x24, 1, 0x0, 0x0, 0x0, 0x0, 0x0, true, false⟩]

/-- The cards of block 9, TXM. -/
def cardsTxm : List Card :=
  [⟨0x0, 1, 0x0, 0x1, 0x1, 0x0, 0x0, false, false⟩,
   ⟨0x4, 1, 0x0, 0x0, 0x0, 0x0, 0x0, true, false⟩,
   ⟨0x10000, 72, 0x400, 0x0, 0x1FFFFF, 0x0, 0x0, false, false⟩,
   ⟨0x10004, 72, 0x400, 0x0, 0x0, 0x0, 0x0, true, false⟩]

/-- The cards of block 10, CAL. -/
def cardsCal : List Card :=
  [⟨0x0, 36, 0x400, 0x3, 0xF, 0x0, 0x0, false, false⟩,
   ⟨0x4, 36, 0x400, 0x0, 0x0, 0x0, 0x0, true, false⟩,
   ⟨0x8, 36, 0x400, 0x0, 0x0, 0x0, 0x0, true, false⟩,
   ⟨0xC, 36, 0x400, 0x0, 0x0, 0x0, 0x0, true, false⟩,
   ⟨0x10, 36, 0x400, 0x0, 0x0, 0x0, 0x0, true, false⟩,
   ⟨0x14, 36, 0x400, 0x0, 0x0, 0x0, 0x0, true, false⟩,
   ⟨0x18, 36, 0x400, 0x0, 0x0, 0x0, 0x0, true, false⟩,
   ⟨0x1C, 36, 0x400, 0x0, 0x0, 0x0, 0x0, true, false⟩,
   ⟨0x20, 36, 0x400, 0x0, 0x0, 0x0, 0x0, true, false⟩,
   ⟨0x24, 36, 0x400, 0x0, 0x0, 0x0, 0x0, true, false⟩,
   ⟨0x28, 36, 0x400, 0x0, 0x0, 0x0, 0x0, true, false⟩,
   ⟨0x44, 36, 0x400, 0x0, 0x0, 0x0, 0x0, true, false⟩,
   ⟨0x48, 36, 0x400, 0x0, 0x0, 0x0, 0x0, true, false⟩,
   ⟨0x4C, 36, 0x400, 0x0, 0x0, 0x0, 0x0, true, false⟩,
   ⟨0x50, 36, 0x400, 0x0, 0x0, 0x0, 0x0, true, false⟩,
   ⟨0x54, 36, 0x400, 0x0, 0x0, 0x0, 0x0, true, false⟩,
   ⟨0x58, 36, 0x400, 0x0, 0x0, 0x0, 0x0, true, false⟩,
   ⟨0x5C, 36, 0x400, 0x0, 0x0, 0x0, 0x0, true, false⟩,
   ⟨0x60, 36, 0x400, 0x0, 0x0, 0x0, 0x0, true, false⟩,
   ⟨0x64, 36, 0x400, 0x0, 0x0, 0x0, 0x0, true, false⟩,
   ⟨0x68, 36, 0x400, 0x0, 0x0, 0x0, 0x0, true, false⟩,
   ⟨0x6C, 36, 0x400, 0x0, 0x0, 0x0, 0x0, true, false⟩,
   ⟨0x70, 36, 0x400, 0x0, 0x0, 0x0, 0x0, true, false⟩,
   ⟨0x74, 36, 0x400, 0x0, 0x0, 0x0, 0x0, true, false⟩,
   ⟨0x78, 36, 0x400, 0x0, 0x0, 0x0, 0x0, true, false⟩,
   ⟨0x7C, 36, 0x400, 0x0, 0x0, 0x0, 0x0, true, false⟩,
   ⟨0xA000, 1, 0x0, 0x180A0A, 0xFFFFFF, 0x0, 0x0, false, false⟩,
   ⟨0xA004, 1, 0x0, 0xFE70, 0xFFFF, 0x0, 0x0, false, false⟩,
   ⟨0xA008, 1, 0x0, 0x5000, 0xFFFF, 0x0, 0x0, false, false⟩]

/-- The cards of block 11, SCH. -/
def cardsSch : List Card :=
  [⟨0x0, 1, 0x0, 0x7D064, 0x1FFFFF, 0x0, 0x0, false, false⟩,
   ⟨0x4, 1, 0x0, 0x7D0, 0xFFFF, 0x0, 0x0, false, false⟩,
   ⟨0x8, 1, 0x0, 0xA2812C, 0xFFFFFF, 0x0, 0x0, false, false⟩,
   ⟨0xC, 1, 0x0, 0x4E20, 0xFFFF, 0x0, 0x0, false, false⟩,
   ⟨0x10, 1, 0x0, 0x3C, 0xFFF, 0x0, 0x0, false, false⟩,
   ⟨0x14, 1, 0x0, 0x0, 0xFFF00000, 0x0, 0x0, false, false⟩,
   ⟨0x18, 1, 0x0, 0x0, 0xF, 0x0, 0x0, false, false⟩,
   ⟨0x20, 1, 0x0, 0x0, 0x0, 0x0, 0x0, true, false⟩,
   ⟨0x24, 1, 0x0, 0x0, 0x0, 0x0, 0x0, true, false⟩,
   ⟨0x28, 1, 0x0, 0x0, 0xFFFFFFFF, 0x0, 0x0, false, false⟩,
   ⟨0x2C, 1, 0x0, 0x0, 0xFFFFFFFF, 0x0, 0x0, false, false⟩,
   ⟨0x30, 1, 0x0, 0x0, 0x0, 0x0, 0x0, true, false⟩,
   ⟨0x34, 1, 0x0, 0x0, 0x0, 0x0, 0x0, true, false⟩,
   ⟨0x40, 1, 0x0, 0x0, 0x0, 0x0, 0x0, true, false⟩,
   ⟨0x50, 1, 0x0, 0x40C, 0xFFF, 0x0, 0x0, false, false⟩]

/-- The cards of block 12, TIME. -/
def cardsTime : List Card :=
  [⟨0x0, 1, 0x0, 0x1400, 0xFFFF3F, 0x0, 0x0, false, false⟩,
   ⟨0x4, 1, 0x0, 0x0, 0x0, 0x0, 0x0, true, false⟩,
   ⟨0x10, 1, 0x0, 0x0, 0x0, 0x0, 0x0, true, false⟩,
   ⟨0x14, 1, 0x0, 0x0, 0x0, 0x0, 0x0, true, false⟩,
   ⟨0x18, 1, 0x0, 0x0, 0x0, 0xFFFFFFFF, 0x0, false, false⟩,
   ⟨0x20, 1, 0x0, 0x0, 0x0, 0x0, 0x0, true, false⟩,
   ⟨0x24, 1, 0x0, 0x0, 0x0, 0x0, 0x0, true, false⟩]

/-- The cards of block 13, FLD. -/
def cardsFld : List Card :=
  [⟨0x0, 1, 0x0, 0x25806, 0xFFF1F, 0x0, 0x0, false, false⟩,
   ⟨0x4, 1, 0x0, 0x0, 0x0, 0x0, 0x0, true, false⟩]

/-- The cards of block 14, FWD. -/
def cardsFwd : List Card :=
  [⟨0x0, 36, 0x400, 0x7D007D0, 0xFFFFFFFF, 0x0, 0x0, false, false⟩,
   ⟨0x4, 36, 0x400, 0x0, 0x0, 0x0, 0x0, true, false⟩,
   ⟨0x10000, 1, 0x0, 0x140C3E8, 0xFFFFFFF, 0x0, 0x0, false, false⟩,
   ⟨0x10004, 1, 0x0, 0xA002580, 0xFFFFFFBF, 0x0, 0x0, false, false⟩,
   ⟨0x10008, 1, 0x0, 0xE07848, 0xFFFFFFF, 0x0, 0x0, false, false⟩,
   ⟨0x1000C, 1, 0x0, 0x0, 0x0, 0x0, 0x0, true, false⟩,
   ⟨0x10010, 1, 0x0, 0x0, 0x0, 0x0, 0x0, true, false⟩,
   ⟨0x10014, 1, 0x0, 0x0, 0xFFF00000, 0x0, 0x0, false, false⟩,
   ⟨0x10018, 1, 0x0, 0x0, 0xF, 0x0, 0x0, false, false⟩,
   ⟨0x1001C, 1, 0x0, 0x0, 0xFFF00000, 0x0, 0x0, false, false⟩,
   ⟨0x10020, 1, 0x0, 0x0, 0xF, 0x0, 0x0, false, false⟩,
   ⟨0x10024, 1, 0x0, 0x0, 0x0, 0x0, 0x0, true, false⟩,
   ⟨0x10028, 1, 0x0, 0x0, 0x0, 0x0, 0x0, true, false⟩,
   ⟨0x1002C, 1, 0x0, 0x0, 0x0, 0x0, 0x0, true, false⟩]

/-- The cards of block 15, KEY. -/
def cardsKey : List Card :=
  [⟨0x0, 1, 0x0, 0x3205, 0xFF07, 0x0, 0x0, false, false⟩,
   ⟨0x4, 1, 0x0, 0x0, 0xFFF00000, 0x0, 0x0, false, false⟩,
   ⟨0x8, 1, 0x0, 0x0, 0xF, 0x0, 0x0, false, false⟩,
   ⟨0x10, 1, 0x0, 0x0, 0x0, 0x0, 0x0, true, false⟩,
   ⟨0x14, 1, 0x0, 0x0, 0x0, 0x0, 0x0, true, false⟩,
   ⟨0x18, 1, 0x0, 0x0, 0x0, 0x0, 0x0, true, false⟩,
   ⟨0x1C, 1, 0x0, 0x0, 0x0, 0x0, 0x0, true, false⟩]

/-- The cards of block 16, JRN. -/
def cardsJrn : List Card :=
  [⟨0x0, 1, 0x0, 0x3C, 0x3FF, 0x0, 0x0, false, false⟩,
   ⟨0x4, 1, 0x0, 0x0, 0xFFF00000, 0x0, 0x0, false, false⟩,
   ⟨0x8, 1, 0x0, 0x0, 0xF, 0x0, 0x0, false, false⟩,
   ⟨0xC, 1, 0x0, 0x300, 0xFFFF, 0x0, 0x0, false, false⟩,
   ⟨0x10, 1, 0x0, 0x0, 0xFFF00000, 0x0, 0x0, false, false⟩,
   ⟨0x14, 1, 0x0, 0x0, 0xF, 0x0, 0x0, false, false⟩,
   ⟨0x18, 1, 0x0, 0x0, 0xFFFFFFFF, 0x0, 0x0, false, false⟩,
   ⟨0x1C, 1, 0x0, 0x0, 0xFFFFFFFF, 0x0, 0x0, false, false⟩,
   ⟨0x20, 1, 0x0, 0x0, 0x0, 0x0, 0x0, true, false⟩,
   ⟨0x24, 1, 0x0, 0x0, 0x0, 0x0, 0x0, true, false⟩,
   ⟨0x28, 1, 0x0, 0x0, 0x0, 0x0, 0x0, true, false⟩,
   ⟨0x2C, 1, 0x0, 0x0, 0x0, 0x0, 0x0, true, false⟩,
   ⟨0x30, 1, 0x0, 0x0, 0x0, 0x0, 0x0, true, false⟩,
   ⟨0x34, 1, 0x0, 0x0, 0x0, 0x0, 0x0, true, false⟩,
   ⟨0x40, 1, 0x0, 0x0, 0x0, 0x0, 0x0, true, false⟩,
   ⟨0x44, 1, 0x0, 0x0, 0x0, 0x0, 0x0, true, false⟩,
   ⟨0x38, 1, 0x0, 0x0, 0x0, 0x0, 0x0, true, false⟩]

/-- The cards of block 17, FRY. -/
def cardsFry : List Card :=
  [⟨0x0, 1, 0x0, 0x180AC8, 0xFFFFFF, 0x0, 0x0, false, false⟩,
   ⟨0x4, 1, 0x0, 0xA406, 0xFFFF, 0x0, 0x0, false, false⟩,
   ⟨0x8, 1, 0x0, 0x80010000, 0xFFFFFFFF, 0x0, 0x0, false, false⟩,
   ⟨0xC, 1, 0x0, 0x2328, 0xFFFF, 0x0, 0x0, false, false⟩,
   ⟨0x10, 4, 0x4, 0x0, 0xFFFFFFFF, 0x0, 0x0, false, false⟩,
   ⟨0x20, 1, 0x0, 0x0, 0x0, 0x0, 0x0, true, false⟩,
   ⟨0x24, 1, 0x0, 0x0, 0x0, 0x0, 0x0, true, false⟩]

/-- The cards of block 18, PAIR. -/
def cardsPair : List Card :=
  [⟨0x0, 1, 0x0, 0x2480A0A, 0xFFFFFFF, 0x0, 0x0, false, false⟩,
   ⟨0x4, 1, 0x0, 0xA, 0xFF, 0x0, 0x0, false, false⟩,
   ⟨0x8, 1, 0x0, 0x10001, 0xFFFFFFFF, 0x0, 0x0, false, false⟩,
   ⟨0x10, 1, 0x0, 0x0, 0x0, 0x0, 0x0, true, false⟩,
   ⟨0x14, 1, 0x0, 0x0, 0x0, 0x0, 0x0, true, false⟩,
   ⟨0x18, 1, 0x0, 0x0, 0x0, 0x0, 0x0, true, false⟩,
   ⟨0x20, 1, 0x0, 0x0, 0x0, 0x0, 0x0, true, false⟩,
   ⟨0x24, 1, 0x0, 0x0, 0x0, 0x0, 0x0, true, false⟩]

/-- The cards of block 19, UPD. -/
def cardsUpd : List Card :=
  [⟨0x0, 1, 0x0, 0x1E3C0001, 0xFFFFFF07, 0x0, 0x0, false, false⟩,
   ⟨0x4, 1, 0x0, 0x20A, 0xFFF, 0x0, 0x0, false, false⟩,
   ⟨0x8, 1, 0x0, 0x0, 0xFFF00000, 0x0, 0x0, false, false⟩,
   ⟨0xC, 1, 0x0, 0x0, 0xF, 0x0, 0x0, false, false⟩,
   ⟨0x10, 1, 0x0, 0x100, 0x7FF, 0x0, 0x0, false, false⟩,
   ⟨0x14, 1, 0x0, 0x0, 0xFFF00000, 0x0, 0x0, false, false⟩,
   ⟨0x18, 1, 0x0, 0x0, 0xF, 0x0, 0x0, false, false⟩,
   ⟨0x20, 1, 0x0, 0x0, 0x0, 0x0, 0x0, true, false⟩,
   ⟨0x24, 1, 0x0, 0x0, 0x0, 0x0, 0x0, true, false⟩,
   ⟨0x28, 1, 0x0, 0x0, 0x0, 0x0, 0x0, true, false⟩,
   ⟨0x400, 256, 0x4, 0x0, 0x0, 0x0, 0x0, true, false⟩,
   ⟨0x10000, 64, 0x400, 0x0, 0x0, 0x0, 0x0, true, false⟩,
   ⟨0x10004, 64, 0x400, 0x0, 0x0, 0x0, 0x0, true, false⟩,
   ⟨0x10008, 64, 0x400, 0x0, 0x0, 0x0, 0x0, true, false⟩]

/-- The cards of block 20, MEM. -/
def cardsMem : List Card :=
  [⟨0x0, 1, 0x0, 0x1804, 0xFF7F, 0x0, 0x0, false, false⟩,
   ⟨0x4, 1, 0x0, 0x4, 0xFF, 0x0, 0x0, false, false⟩,
   ⟨0x8, 1, 0x0, 0x0, 0x0, 0x0, 0x0, true, false⟩,
   ⟨0x10000, 8, 0x400, 0x0, 0x0, 0x4, 0x3, false, false⟩,
   ⟨0x10004, 8, 0x400, 0x0, 0x0, 0xFFFFFFE0, 0x0, false, false⟩,
   ⟨0x10008, 8, 0x400, 0x0, 0x0, 0xFFFFFFFF, 0x0, false, false⟩,
   ⟨0x1000C, 8, 0x400, 0x0, 0x0, 0x0, 0x0, true, false⟩]

/-- The cards of block 21, QUAY. -/
def cardsQuay : List Card :=
  [⟨0x0, 64, 0x400, 0x0, 0x1FFFFFFF, 0x0, 0x0, false, false⟩,
   ⟨0x4, 64, 0x400, 0x0, 0x3FFFFF, 0x0, 0x0, false, false⟩,
   ⟨0x8, 64, 0x400, 0x0, 0x0, 0x0, 0x1, false, false⟩,
   ⟨0xC, 64, 0x400, 0x0, 0x0, 0x0, 0x0, true, false⟩,
   ⟨0x10, 64, 0x400, 0x0, 0x0, 0x0, 0x0, true, false⟩,
   ⟨0x40, 64, 0x400, 0x0, 0x0, 0x0, 0xFFFFFFFF, true, false⟩,
   ⟨0x44, 64, 0x400, 0x0, 0x0, 0x0, 0xFFFFFFFF, false, false⟩,
   ⟨0x48, 64, 0x400, 0x0, 0x0, 0x0, 0xFFFFFFFF, false, false⟩,
   ⟨0x4C, 64, 0x400, 0x0, 0x0, 0x0, 0xFFFFFFFF, false, false⟩,
   ⟨0x50, 64, 0x400, 0x0, 0x0, 0x0, 0xFFFFFFFF, false, false⟩,
   ⟨0x54, 64, 0x400, 0x0, 0x0, 0x0, 0xFFFFFFFF, false, false⟩,
   ⟨0x58, 64, 0x400, 0x0, 0x0, 0x0, 0x1, false, false⟩,
   ⟨0x60, 64, 0x400, 0x0, 0x0, 0x0, 0x0, true, false⟩,
   ⟨0x64, 64, 0x400, 0x0, 0x0, 0x0, 0x0, true, false⟩,
   ⟨0x68, 64, 0x400, 0x0, 0x0, 0x0, 0x0, true, false⟩,
   ⟨0x6C, 64, 0x400, 0x0, 0x0, 0x0, 0x0, true, false⟩,
   ⟨0x70, 64, 0x400, 0x0, 0x0, 0x0, 0x0, true, false⟩,
   ⟨0x74, 64, 0x400, 0x0, 0x0, 0x0, 0x0, true, false⟩,
   ⟨0x78, 64, 0x400, 0x0, 0x0, 0x0, 0x0, true, false⟩,
   ⟨0x7C, 64, 0x400, 0x0, 0x0, 0x0, 0x0, true, false⟩,
   ⟨0x80, 64, 0x400, 0x0, 0x0, 0x0, 0x0, true, false⟩,
   ⟨0x84, 64, 0x400, 0x0, 0x0, 0x0, 0x3, false, false⟩,
   ⟨0x10000, 1, 0x0, 0x0, 0xFFF00000, 0x0, 0x0, false, false⟩,
   ⟨0x10004, 1, 0x0, 0x0, 0xF, 0x0, 0x0, false, false⟩]

/-- The cards of block 22, HLT. -/
def cardsHlt : List Card :=
  [⟨0x0, 1, 0x0, 0x364105, 0xFFFF07, 0x0, 0x0, false, false⟩,
   ⟨0x4, 1, 0x0, 0x0, 0x0, 0x0, 0x0, true, false⟩,
   ⟨0x8, 1, 0x0, 0x0, 0x0, 0x0, 0x0, true, true⟩,
   ⟨0x10, 1, 0x0, 0x0, 0x0, 0x0, 0x0, true, false⟩,
   ⟨0x14, 1, 0x0, 0x0, 0x0, 0x0, 0x0, true, false⟩,
   ⟨0x18, 1, 0x0, 0x0, 0x0, 0x0, 0x0, true, false⟩,
   ⟨0x1C, 1, 0x0, 0x0, 0x0, 0x0, 0xF, false, false⟩,
   ⟨0x20, 1, 0x0, 0x2000A, 0xFFFF7F, 0x0, 0x0, false, false⟩,
   ⟨0x24, 1, 0x0, 0x0, 0x0, 0x0, 0x0, true, false⟩,
   ⟨0x30, 1, 0x0, 0x1801, 0xFF01, 0x0, 0x0, false, false⟩,
   ⟨0x34, 1, 0x0, 0x0, 0x0, 0x0, 0x0, true, false⟩,
   ⟨0x38, 1, 0x0, 0x3A, 0x7F, 0x0, 0x0, false, true⟩,
   ⟨0x40, 1, 0x0, 0x0, 0xFFF00000, 0x0, 0x0, false, false⟩,
   ⟨0x44, 1, 0x0, 0x0, 0xF, 0x0, 0x0, false, false⟩,
   ⟨0x48, 1, 0x0, 0x0, 0x0, 0x0, 0x0, true, true⟩,
   ⟨0x200, 32, 0x8, 0x0, 0xFFFF3F, 0x0, 0x0, false, false⟩,
   ⟨0x204, 32, 0x8, 0x0, 0x0, 0x0, 0x0, true, false⟩,
   ⟨0x400, 74, 0x4, 0x0, 0x0, 0x0, 0x0, true, false⟩]

/-- The cards of block 23, EVR. -/
def cardsEvr : List Card :=
  [⟨0x0, 1, 0x0, 0x1, 0x0, 0x0, 0x0, true, false⟩,
   ⟨0x4, 1, 0x0, 0x0, 0x0, 0x0, 0x0, true, false⟩,
   ⟨0x8, 1, 0x0, 0x0, 0x0, 0x0, 0x0, true, false⟩,
   ⟨0xC, 1, 0x0, 0x0, 0x0, 0x0, 0x0, true, false⟩,
   ⟨0x10, 1, 0x0, 0x0, 0x0, 0xFFFFFFFF, 0x0, true, false⟩,
   ⟨0x14, 1, 0x0, 0x0, 0x0, 0xFFFF, 0x0, true, false⟩,
   ⟨0x20, 8, 0x4, 0x0, 0x0, 0x0, 0x0, true, false⟩]

/-- The cards of block 24, ENG. -/
def cardsEng : List Card :=
  [⟨0x0, 1, 0x0, 0x1001, 0x1F03, 0x0, 0x0, false, false⟩,
   ⟨0x4, 1, 0x0, 0x10000000, 0xFFFFFFFF, 0x0, 0x0, false, false⟩,
   ⟨0x8, 1, 0x0, 0x0, 0xFFFFFFFF, 0x0, 0x0, false, false⟩,
   ⟨0x10, 1, 0x0, 0x0, 0x0, 0x0, 0x0, true, false⟩,
   ⟨0x2000, 128, 0x4, 0x0, 0x0, 0x7F, 0x0, false, false⟩,
   ⟨0x10000, 12, 0x400, 0x64, 0xFF, 0x0, 0x80000000, false, false⟩,
   ⟨0x11010, 8, 0x400, 0x0, 0x0, 0xFF, 0x0, false, false⟩,
   ⟨0x11014, 8, 0x400, 0x0, 0x0, 0xFF, 0x0, false, false⟩,
   ⟨0x11018, 8, 0x400, 0x0, 0x0, 0xFF, 0x0, false, false⟩,
   ⟨0x1101C, 8, 0x400, 0x0, 0x0, 0xFF, 0x0, false, false⟩,
   ⟨0x11020, 8, 0x400, 0x0, 0x0, 0xBFBFBFBF, 0x0, false, false⟩,
   ⟨0x11024, 8, 0x400, 0x0, 0x0, 0xBFBFBFBF, 0x0, false, false⟩,
   ⟨0x11028, 8, 0x400, 0x0, 0x0, 0xBFBFBFBF, 0x0, false, false⟩,
   ⟨0x1102C, 8, 0x400, 0x0, 0x0, 0xBFBFBFBF, 0x0, false, false⟩]

/-- The cards of block `n`. -/
def cardsOf : Nat → List Card
  | 0 => cardsGlb
  | 1 => cardsFuse
  | 2 => cardsBoot
  | 3 => cardsClk
  | 4 => cardsFh
  | 5 => cardsAna
  | 6 => cardsChn
  | 7 => cardsDet
  | 8 => cardsLane
  | 9 => cardsTxm
  | 10 => cardsCal
  | 11 => cardsSch
  | 12 => cardsTime
  | 13 => cardsFld
  | 14 => cardsFwd
  | 15 => cardsKey
  | 16 => cardsJrn
  | 17 => cardsFry
  | 18 => cardsPair
  | 19 => cardsUpd
  | 20 => cardsMem
  | 21 => cardsQuay
  | 22 => cardsHlt
  | 23 => cardsEvr
  | 24 => cardsEng
  | _ => []

/-- The register count of block `n` (R487). -/
def blockRegs : Nat → Nat
  | 0 => 24
  | 1 => 16
  | 2 => 32
  | 3 => 40
  | 4 => 578
  | 5 => 18
  | 6 => 389
  | 7 => 659
  | 8 => 36
  | 9 => 156
  | 10 => 952
  | 11 => 184
  | 12 => 20
  | 13 => 12
  | 14 => 110
  | 15 => 28
  | 16 => 36
  | 17 => 32
  | 18 => 32
  | 19 => 475
  | 20 => 52
  | 21 => 1860
  | 22 => 170
  | 23 => 20
  | 24 => 213
  | _ => 0

/-! The addresses of the registers that the rules name (first instance of a set). -/

/-- GLB_ID. -/
def rGlbId : Nat := 0x40000000
/-- GLB_STATUS. -/
def rGlbStatus : Nat := 0x40000004
/-- GLB_SERIAL. -/
def rGlbSerial : Nat := 0x40000010
/-- GLB_TEMP. -/
def rGlbTemp : Nat := 0x40000020
/-- FUSE_STATUS. -/
def rFuseStatus : Nat := 0x40100000
/-- FUSE_PROG. -/
def rFuseProg : Nat := 0x40100004
/-- BOOT_STATUS. -/
def rBootStatus : Nat := 0x40200040
/-- BOOT_STATUS_PREV. -/
def rBootStatusPrev : Nat := 0x40200044
/-- BOOT_IMAGE_GEN. -/
def rBootImageGen : Nat := 0x40200048
/-- BOOT_FAIL_RECORD. -/
def rBootFailRecord : Nat := 0x4020004C
/-- BOOT_ENGINE_READY. -/
def rBootEngineReady : Nat := 0x40200050
/-- BOOT_PERSIST. -/
def rBootPersist : Nat := 0x40200054
/-- BOOT_DEVPUB. -/
def rBootDevpub : Nat := 0x40200080
/-- CLK_CTRL. -/
def rClkCtrl : Nat := 0x40300000
/-- CLK_STATUS. -/
def rClkStatus : Nat := 0x40300004
/-- FH_PORT_CTRL. -/
def rFhPortCtrl : Nat := 0x40400000
/-- FH_PORT_STATUS. -/
def rFhPortStatus : Nat := 0x40400004
/-- FH_RTT. -/
def rFhRtt : Nat := 0x40400008
/-- FH_RX_LAG. -/
def rFhRxLag : Nat := 0x4040000C
/-- FH_HEAD_OFFSET. -/
def rFhHeadOffset : Nat := 0x40400010
/-- ANA_PORT_CTRL. -/
def rAnaPortCtrl : Nat := 0x40500000
/-- CHN_STREAM_STATUS. -/
def rChnStreamStatus : Nat := 0x40600000
/-- CHN_UNIT_STATUS. -/
def rChnUnitStatus : Nat := 0x40620000
/-- DET_SLOT_CTRL. -/
def rDetSlotCtrl : Nat := 0x40700000
/-- DET_CTRL. -/
def rDetCtrl : Nat := 0x40703000
/-- DET_STREAM_MASK. -/
def rDetStreamMask : Nat := 0x40704000
/-- LANE_CTRL. -/
def rLaneCtrl : Nat := 0x40800000
/-- LANE_SPILL_BASE_LO. -/
def rLaneSpillBaseLo : Nat := 0x40800004
/-- LANE_SPILL_BASE_HI. -/
def rLaneSpillBaseHi : Nat := 0x40800008
/-- LANE_SPILL_LIMIT. -/
def rLaneSpillLimit : Nat := 0x4080000C
/-- LANE_STATUS. -/
def rLaneStatus : Nat := 0x40800010
/-- LANE_INSPECT_SEL. -/
def rLaneInspectSel : Nat := 0x40800020
/-- LANE_INSPECT. -/
def rLaneInspect : Nat := 0x40800024
/-- TXM_CTRL. -/
def rTxmCtrl : Nat := 0x40900000
/-- TXM_STATUS. -/
def rTxmStatus : Nat := 0x40900004
/-- TXM_STREAM_CTRL. -/
def rTxmStreamCtrl : Nat := 0x40910000
/-- TXM_STREAM_STATUS. -/
def rTxmStreamStatus : Nat := 0x40910004
/-- CAL_HEAD_CTRL. -/
def rCalHeadCtrl : Nat := 0x40A00000
/-- CAL_HEAD_GEN. -/
def rCalHeadGen : Nat := 0x40A00004
/-- CAL_HEAD_GAIN. -/
def rCalHeadGain : Nat := 0x40A00008
/-- CAL_HEAD_DC. -/
def rCalHeadDc : Nat := 0x40A0000C
/-- CAL_HEAD_IQ. -/
def rCalHeadIq : Nat := 0x40A00010
/-- CAL_HEAD_TXIQ. -/
def rCalHeadTxiq : Nat := 0x40A00014
/-- CAL_HEAD_LO. -/
def rCalHeadLo : Nat := 0x40A00018
/-- CAL_HEAD_SCO. -/
def rCalHeadSco : Nat := 0x40A0001C
/-- CAL_HEAD_TXLO. -/
def rCalHeadTxlo : Nat := 0x40A00020
/-- CAL_HEAD_RXDLY. -/
def rCalHeadRxdly : Nat := 0x40A00024
/-- CAL_HEAD_TXDLY. -/
def rCalHeadTxdly : Nat := 0x40A00028
/-- CAL_HEAD_APHASE1. -/
def rCalHeadAphase1 : Nat := 0x40A00044
/-- CAL_HEAD_APHASE2. -/
def rCalHeadAphase2 : Nat := 0x40A00048
/-- CAL_HEAD_APHASE3. -/
def rCalHeadAphase3 : Nat := 0x40A0004C
/-- CAL_HEAD_APHASE4. -/
def rCalHeadAphase4 : Nat := 0x40A00050
/-- CAL_HEAD_APHASE5. -/
def rCalHeadAphase5 : Nat := 0x40A00054
/-- CAL_HEAD_APHASE6. -/
def rCalHeadAphase6 : Nat := 0x40A00058
/-- CAL_HEAD_APHASE7. -/
def rCalHeadAphase7 : Nat := 0x40A0005C
/-- CAL_HEAD_APHASE8. -/
def rCalHeadAphase8 : Nat := 0x40A00060
/-- CAL_HEAD_APHASE9. -/
def rCalHeadAphase9 : Nat := 0x40A00064
/-- CAL_HEAD_APHASE10. -/
def rCalHeadAphase10 : Nat := 0x40A00068
/-- CAL_HEAD_APHASE11. -/
def rCalHeadAphase11 : Nat := 0x40A0006C
/-- CAL_HEAD_APHASE12. -/
def rCalHeadAphase12 : Nat := 0x40A00070
/-- CAL_HEAD_APHASE13. -/
def rCalHeadAphase13 : Nat := 0x40A00074
/-- CAL_HEAD_APHASE14. -/
def rCalHeadAphase14 : Nat := 0x40A00078
/-- CAL_HEAD_APHASE15. -/
def rCalHeadAphase15 : Nat := 0x40A0007C
/-- CAL_CTRL. -/
def rCalCtrl : Nat := 0x40A0A000
/-- CAL_NOISE. -/
def rCalNoise : Nat := 0x40A0A004
/-- CAL_NODE_CTRL. -/
def rCalNodeCtrl : Nat := 0x40A0A008
/-- SCH_CTRL. -/
def rSchCtrl : Nat := 0x40B00000
/-- SCH_TIMING. -/
def rSchTiming : Nat := 0x40B00004
/-- SCH_GUARD. -/
def rSchGuard : Nat := 0x40B00008
/-- SCH_RESYNC. -/
def rSchResync : Nat := 0x40B0000C
/-- SCH_NBR_CTRL. -/
def rSchNbrCtrl : Nat := 0x40B00010
/-- SCH_CELL_BASE_LO. -/
def rSchCellBaseLo : Nat := 0x40B00014
/-- SCH_CELL_BASE_HI. -/
def rSchCellBaseHi : Nat := 0x40B00018
/-- SCH_ASN_LO. -/
def rSchAsnLo : Nat := 0x40B00020
/-- SCH_ASN_HI. -/
def rSchAsnHi : Nat := 0x40B00024
/-- SCH_ASN_EPOCH_LO. -/
def rSchAsnEpochLo : Nat := 0x40B00028
/-- SCH_ASN_EPOCH_HI. -/
def rSchAsnEpochHi : Nat := 0x40B0002C
/-- SCH_EPOCH. -/
def rSchEpoch : Nat := 0x40B00030
/-- SCH_LAST_SLEW. -/
def rSchLastSlew : Nat := 0x40B00034
/-- SCH_NBR_STATUS. -/
def rSchNbrStatus : Nat := 0x40B00040
/-- SCH_TX_CTRL. -/
def rSchTxCtrl : Nat := 0x40B00050
/-- TIME_CTRL. -/
def rTimeCtrl : Nat := 0x40C00000
/-- TIME_STATUS. -/
def rTimeStatus : Nat := 0x40C00004
/-- TIME_NOW_LO. -/
def rTimeNowLo : Nat := 0x40C00010
/-- TIME_NOW_HI. -/
def rTimeNowHi : Nat := 0x40C00014
/-- TIME_RATE. -/
def rTimeRate : Nat := 0x40C00018
/-- TIME_PPS_LO. -/
def rTimePpsLo : Nat := 0x40C00020
/-- TIME_PPS_HI. -/
def rTimePpsHi : Nat := 0x40C00024
/-- FLD_CTRL. -/
def rFldCtrl : Nat := 0x40D00000
/-- FLD_STATUS. -/
def rFldStatus : Nat := 0x40D00004
/-- FWD_PORT_LEARN. -/
def rFwdPortLearn : Nat := 0x40E00000
/-- FWD_PORT_TOKENS. -/
def rFwdPortTokens : Nat := 0x40E00004
/-- FWD_CTRL. -/
def rFwdCtrl : Nat := 0x40E10000
/-- FWD_CTRL2. -/
def rFwdCtrl2 : Nat := 0x40E10004
/-- FWD_AGE. -/
def rFwdAge : Nat := 0x40E10008
/-- FWD_SEED0. -/
def rFwdSeed0 : Nat := 0x40E1000C
/-- FWD_SEED1. -/
def rFwdSeed1 : Nat := 0x40E10010
/-- FWD_NT_BASE_LO. -/
def rFwdNtBaseLo : Nat := 0x40E10014
/-- FWD_NT_BASE_HI. -/
def rFwdNtBaseHi : Nat := 0x40E10018
/-- FWD_RB_BASE_LO. -/
def rFwdRbBaseLo : Nat := 0x40E1001C
/-- FWD_RB_BASE_HI. -/
def rFwdRbBaseHi : Nat := 0x40E10020
/-- FWD_STATUS. -/
def rFwdStatus : Nat := 0x40E10024
/-- FWD_RB_STATUS. -/
def rFwdRbStatus : Nat := 0x40E10028
/-- FWD_TRIE_STATUS. -/
def rFwdTrieStatus : Nat := 0x40E1002C
/-- KEY_CTRL. -/
def rKeyCtrl : Nat := 0x40F00000
/-- KEY_BLOB_BASE_LO. -/
def rKeyBlobBaseLo : Nat := 0x40F00004
/-- KEY_BLOB_BASE_HI. -/
def rKeyBlobBaseHi : Nat := 0x40F00008
/-- KEY_STATUS. -/
def rKeyStatus : Nat := 0x40F00010
/-- KEY_UNWRAP_STATUS. -/
def rKeyUnwrapStatus : Nat := 0x40F00014
/-- KEY_REWRAP. -/
def rKeyRewrap : Nat := 0x40F00018
/-- KEY_PAIR_STATUS. -/
def rKeyPairStatus : Nat := 0x40F0001C
/-- JRN_CTRL. -/
def rJrnCtrl : Nat := 0x41000000
/-- JRN_RING_BASE_LO. -/
def rJrnRingBaseLo : Nat := 0x41000004
/-- JRN_RING_BASE_HI. -/
def rJrnRingBaseHi : Nat := 0x41000008
/-- JRN_RING_SIZE. -/
def rJrnRingSize : Nat := 0x4100000C
/-- JRN_DL_BASE_LO. -/
def rJrnDlBaseLo : Nat := 0x41000010
/-- JRN_DL_BASE_HI. -/
def rJrnDlBaseHi : Nat := 0x41000014
/-- JRN_EUI64_LO. -/
def rJrnEui64Lo : Nat := 0x41000018
/-- JRN_EUI64_HI. -/
def rJrnEui64Hi : Nat := 0x4100001C
/-- JRN_NEXT_JSN_LO. -/
def rJrnNextJsnLo : Nat := 0x41000020
/-- JRN_NEXT_JSN_HI. -/
def rJrnNextJsnHi : Nat := 0x41000024
/-- JRN_ACK_JSN_LO. -/
def rJrnAckJsnLo : Nat := 0x41000028
/-- JRN_ACK_JSN_HI. -/
def rJrnAckJsnHi : Nat := 0x4100002C
/-- JRN_NEXT_DSN_LO. -/
def rJrnNextDsnLo : Nat := 0x41000030
/-- JRN_NEXT_DSN_HI. -/
def rJrnNextDsnHi : Nat := 0x41000034
/-- JRN_TOKEN_REL_LO. -/
def rJrnTokenRelLo : Nat := 0x41000040
/-- JRN_TOKEN_REL_HI. -/
def rJrnTokenRelHi : Nat := 0x41000044
/-- JRN_STATUS. -/
def rJrnStatus : Nat := 0x41000038
/-- FRY_CTRL. -/
def rFryCtrl : Nat := 0x41100000
/-- FRY_UDP. -/
def rFryUdp : Nat := 0x41100004
/-- FRY_WINDOW. -/
def rFryWindow : Nat := 0x41100008
/-- FRY_MTU. -/
def rFryMtu : Nat := 0x4110000C
/-- FRY_ADDR. -/
def rFryAddr : Nat := 0x41100010
/-- FRY_STATUS. -/
def rFryStatus : Nat := 0x41100020
/-- FRY_SESSION. -/
def rFrySession : Nat := 0x41100024
/-- PAIR_CTRL. -/
def rPairCtrl : Nat := 0x41200000
/-- PAIR_CTRL2. -/
def rPairCtrl2 : Nat := 0x41200004
/-- PAIR_FORMAT. -/
def rPairFormat : Nat := 0x41200008
/-- PAIR_STATUS. -/
def rPairStatus : Nat := 0x41200010
/-- PAIR_EPOCH. -/
def rPairEpoch : Nat := 0x41200014
/-- PAIR_RESYNC_STATUS. -/
def rPairResyncStatus : Nat := 0x41200018
/-- PAIR_HANDOVER_LO. -/
def rPairHandoverLo : Nat := 0x41200020
/-- PAIR_HANDOVER_HI. -/
def rPairHandoverHi : Nat := 0x41200024
/-- UPD_CTRL. -/
def rUpdCtrl : Nat := 0x41300000
/-- UPD_CTRL2. -/
def rUpdCtrl2 : Nat := 0x41300004
/-- UPD_CAMP_BASE_LO. -/
def rUpdCampBaseLo : Nat := 0x41300008
/-- UPD_CAMP_BASE_HI. -/
def rUpdCampBaseHi : Nat := 0x4130000C
/-- UPD_CAMP_SIZE. -/
def rUpdCampSize : Nat := 0x41300010
/-- UPD_PROG_BASE_LO. -/
def rUpdProgBaseLo : Nat := 0x41300014
/-- UPD_PROG_BASE_HI. -/
def rUpdProgBaseHi : Nat := 0x41300018
/-- UPD_STATUS. -/
def rUpdStatus : Nat := 0x41300020
/-- UPD_UPDATE_ID. -/
def rUpdUpdateId : Nat := 0x41300024
/-- UPD_PIECES. -/
def rUpdPieces : Nat := 0x41300028
/-- UPD_BITMAP. -/
def rUpdBitmap : Nat := 0x41300400
/-- UPD_CAMP_STATUS. -/
def rUpdCampStatus : Nat := 0x41310000
/-- UPD_CAMP_MEMBERS. -/
def rUpdCampMembers : Nat := 0x41310004
/-- UPD_CAMP_DONE. -/
def rUpdCampDone : Nat := 0x41310008
/-- MEM_CTRL. -/
def rMemCtrl : Nat := 0x41400000
/-- MEM_MIRROR. -/
def rMemMirror : Nat := 0x41400004
/-- MEM_STATUS. -/
def rMemStatus : Nat := 0x41400008
/-- MEM_DMA_CTRL. -/
def rMemDmaCtrl : Nat := 0x41410000
/-- MEM_DMA_HEAD_LO. -/
def rMemDmaHeadLo : Nat := 0x41410004
/-- MEM_DMA_HEAD_HI. -/
def rMemDmaHeadHi : Nat := 0x41410008
/-- MEM_DMA_STATUS. -/
def rMemDmaStatus : Nat := 0x4141000C
/-- QUAY_CFG. -/
def rQuayCfg : Nat := 0x41500000
/-- QUAY_CFG2. -/
def rQuayCfg2 : Nat := 0x41500004
/-- QUAY_CTRL. -/
def rQuayCtrl : Nat := 0x41500008
/-- QUAY_STATUS. -/
def rQuayStatus : Nat := 0x4150000C
/-- QUAY_WM. -/
def rQuayWm : Nat := 0x41500010
/-- QUAY_CLAIM. -/
def rQuayClaim : Nat := 0x41500040
/-- QUAY_WR_WORD. -/
def rQuayWrWord : Nat := 0x41500044
/-- QUAY_WR_END1. -/
def rQuayWrEnd1 : Nat := 0x41500048
/-- QUAY_WR_END2. -/
def rQuayWrEnd2 : Nat := 0x4150004C
/-- QUAY_WR_END3. -/
def rQuayWrEnd3 : Nat := 0x41500050
/-- QUAY_WR_END4. -/
def rQuayWrEnd4 : Nat := 0x41500054
/-- QUAY_WR_POISON. -/
def rQuayWrPoison : Nat := 0x41500058
/-- QUAY_RD_DATA0. -/
def rQuayRdData0 : Nat := 0x41500060
/-- QUAY_RD_DATA1. -/
def rQuayRdData1 : Nat := 0x41500064
/-- QUAY_RD_DATA2. -/
def rQuayRdData2 : Nat := 0x41500068
/-- QUAY_RD_DATA3. -/
def rQuayRdData3 : Nat := 0x4150006C
/-- QUAY_RD_DATA4. -/
def rQuayRdData4 : Nat := 0x41500070
/-- QUAY_RD_DATA5. -/
def rQuayRdData5 : Nat := 0x41500074
/-- QUAY_RD_DATA6. -/
def rQuayRdData6 : Nat := 0x41500078
/-- QUAY_RD_DATA7. -/
def rQuayRdData7 : Nat := 0x4150007C
/-- QUAY_RD_TAG. -/
def rQuayRdTag : Nat := 0x41500080
/-- QUAY_RD_CMD. -/
def rQuayRdCmd : Nat := 0x41500084
/-- QUAY_OVF_BASE_LO. -/
def rQuayOvfBaseLo : Nat := 0x41510000
/-- QUAY_OVF_BASE_HI. -/
def rQuayOvfBaseHi : Nat := 0x41510004
/-- HLT_CTRL. -/
def rHltCtrl : Nat := 0x41600000
/-- HLT_STATUS. -/
def rHltStatus : Nat := 0x41600004
/-- HLT_FATAL_CAUSE. -/
def rHltFatalCause : Nat := 0x41600008
/-- HLT_FRAME. -/
def rHltFrame : Nat := 0x41600010
/-- HLT_FRAME_COUNT. -/
def rHltFrameCount : Nat := 0x41600014
/-- HLT_FRAME_ARG. -/
def rHltFrameArg : Nat := 0x41600018
/-- HLT_FRAME_DONE. -/
def rHltFrameDone : Nat := 0x4160001C
/-- HLT_COAL. -/
def rHltCoal : Nat := 0x41600020
/-- HLT_ALERT. -/
def rHltAlert : Nat := 0x41600024
/-- HLT_JIG_CTRL. -/
def rHltJigCtrl : Nat := 0x41600030
/-- HLT_JIG_STATUS. -/
def rHltJigStatus : Nat := 0x41600034
/-- HLT_MGT_CFG. -/
def rHltMgtCfg : Nat := 0x41600038
/-- HLT_DUMP_BASE_LO. -/
def rHltDumpBaseLo : Nat := 0x41600040
/-- HLT_DUMP_BASE_HI. -/
def rHltDumpBaseHi : Nat := 0x41600044
/-- HLT_DUMP_STATUS. -/
def rHltDumpStatus : Nat := 0x41600048
/-- HLT_WM_CFG. -/
def rHltWmCfg : Nat := 0x41600200
/-- HLT_WM. -/
def rHltWm : Nat := 0x41600204
/-- HLT_CLAMP. -/
def rHltClamp : Nat := 0x41600400
/-- EVR_HEAD_LO. -/
def rEvrHeadLo : Nat := 0x41700000
/-- EVR_HEAD_HI. -/
def rEvrHeadHi : Nat := 0x41700004
/-- EVR_OLDEST_LO. -/
def rEvrOldestLo : Nat := 0x41700008
/-- EVR_OLDEST_HI. -/
def rEvrOldestHi : Nat := 0x4170000C
/-- EVR_CURSOR_LO. -/
def rEvrCursorLo : Nat := 0x41700010
/-- EVR_CURSOR_HI. -/
def rEvrCursorHi : Nat := 0x41700014
/-- EVR_DATA. -/
def rEvrData : Nat := 0x41700020
/-- ENG_CTRL. -/
def rEngCtrl : Nat := 0x41800000
/-- ENG_CORE_VEC_LO. -/
def rEngCoreVecLo : Nat := 0x41800004
/-- ENG_CORE_VEC_HI. -/
def rEngCoreVecHi : Nat := 0x41800008
/-- ENG_STATUS. -/
def rEngStatus : Nat := 0x41800010
/-- ENG_IRQ_ROUTE. -/
def rEngIrqRoute : Nat := 0x41802000
/-- ENG_WDOG. -/
def rEngWdog : Nat := 0x41810000
/-- ENG_PE_WIN0. -/
def rEngPeWin0 : Nat := 0x41811010
/-- ENG_PE_WIN1. -/
def rEngPeWin1 : Nat := 0x41811014
/-- ENG_PE_WIN2. -/
def rEngPeWin2 : Nat := 0x41811018
/-- ENG_PE_WIN3. -/
def rEngPeWin3 : Nat := 0x4181101C
/-- ENG_PE_IRQMAP0. -/
def rEngPeIrqmap0 : Nat := 0x41811020
/-- ENG_PE_IRQMAP1. -/
def rEngPeIrqmap1 : Nat := 0x41811024
/-- ENG_PE_IRQMAP2. -/
def rEngPeIrqmap2 : Nat := 0x41811028
/-- ENG_PE_IRQMAP3. -/
def rEngPeIrqmap3 : Nat := 0x4181102C

/-! The counters. -/

/-- GLB_BAD_ACCESS. -/
def cGlbBadAccess : Counter := ⟨0, 0x100, 1, 0⟩
/-- GLB_LOCKED_WRITE. -/
def cGlbLockedWrite : Counter := ⟨0, 0x104, 1, 1⟩
/-- FUSE_CORRECTED. -/
def cFuseCorrected : Counter := ⟨1, 0x100, 1, 0⟩
/-- FUSE_PROG_REFUSE. -/
def cFuseProgRefuse : Counter := ⟨1, 0x104, 1, 1⟩
/-- BOOT_REC_SKIP. -/
def cBootRecSkip : Counter := ⟨2, 0x100, 1, 1⟩
/-- BOOT_PUF_RETRY. -/
def cBootPufRetry : Counter := ⟨2, 0x104, 1, 0⟩
/-- CLK_SDS_LOSS. -/
def cClkSdsLoss : Counter := ⟨3, 0x100, 1, 0⟩
/-- FH_CB_CRC. -/
def cFhCbCrc : Counter := ⟨4, 0x100, 32, 0⟩
/-- FH_FRAME_LOSS. -/
def cFhFrameLoss : Counter := ⟨4, 0x104, 32, 4⟩
/-- FH_TRAIN_FAIL. -/
def cFhTrainFail : Counter := ⟨4, 0x108, 32, 11⟩
/-- FH_DELAY_RANGE. -/
def cFhDelayRange : Counter := ⟨4, 0x10C, 32, 1⟩
/-- FH_DELAY_UNSTABLE. -/
def cFhDelayUnstable : Counter := ⟨4, 0x110, 32, 2⟩
/-- FH_TIME_SLIP. -/
def cFhTimeSlip : Counter := ⟨4, 0x114, 32, 10⟩
/-- FH_GROUP_GAP. -/
def cFhGroupGap : Counter := ⟨4, 0x118, 32, 5⟩
/-- FH_REMAP_DISCARD. -/
def cFhRemapDiscard : Counter := ⟨4, 0x11C, 32, 9⟩
/-- FH_TX_LATE_REPORT. -/
def cFhTxLateReport : Counter := ⟨4, 0x120, 32, 12⟩
/-- FH_EPOCH_CONFLICT. -/
def cFhEpochConflict : Counter := ⟨4, 0x124, 32, 3⟩
/-- FH_MBX_TIMEOUT. -/
def cFhMbxTimeout : Counter := ⟨4, 0x128, 32, 8⟩
/-- FH_LOOP_REFUSE. -/
def cFhLoopRefuse : Counter := ⟨4, 0x12C, 32, 7⟩
/-- FH_LINKUP_TIMEOUT. -/
def cFhLinkupTimeout : Counter := ⟨4, 0x130, 32, 6⟩
/-- ANA_ADC_CLIP. -/
def cAnaAdcClip : Counter := ⟨5, 0x100, 4, 0⟩
/-- ANA_DUC_OVF. -/
def cAnaDucOvf : Counter := ⟨5, 0x104, 4, 1⟩
/-- ANA_LOOP_REFUSE. -/
def cAnaLoopRefuse : Counter := ⟨5, 0x108, 4, 2⟩
/-- CHN_SAT. -/
def cChnSat : Counter := ⟨6, 0x100, 128, 3⟩
/-- CHN_INVALID_SPAN. -/
def cChnInvalidSpan : Counter := ⟨6, 0x104, 128, 1⟩
/-- CHN_GEN_DEFER. -/
def cChnGenDefer : Counter := ⟨6, 0x20100, 1, 0⟩
/-- CHN_RETIRE_EXPIRE. -/
def cChnRetireExpire : Counter := ⟨6, 0x20104, 1, 2⟩
/-- DET_RECORD_OVF. -/
def cDetRecordOvf : Counter := ⟨7, 0x3100, 1, 4⟩
/-- DET_EVAL_SKIP. -/
def cDetEvalSkip : Counter := ⟨7, 0x3104, 1, 0⟩
/-- DET_WARMUP_DISCARD. -/
def cDetWarmupDiscard : Counter := ⟨7, 0x3108, 1, 7⟩
/-- DET_SLICE_FAIL. -/
def cDetSliceFail : Counter := ⟨7, 0x310C, 1, 6⟩
/-- DET_RECORDS. -/
def cDetRecords : Counter := ⟨7, 0x4100, 128, 3⟩
/-- DET_MERGED. -/
def cDetMerged : Counter := ⟨7, 0x4104, 128, 2⟩
/-- DET_MASKED. -/
def cDetMasked : Counter := ⟨7, 0x4108, 128, 1⟩
/-- DET_REDETECT. -/
def cDetRedetect : Counter := ⟨7, 0x410C, 128, 5⟩
/-- LANE_FRAMES_OK. -/
def cLaneFramesOk : Counter := ⟨8, 0x100, 1, 4⟩
/-- LANE_HDR_FAIL. -/
def cLaneHdrFail : Counter := ⟨8, 0x104, 1, 11⟩
/-- LANE_PHR_UNSUPPORTED. -/
def cLanePhrUnsupported : Counter := ⟨8, 0x108, 1, 17⟩
/-- LANE_FRAME_VERSION. -/
def cLaneFrameVersion : Counter := ⟨8, 0x10C, 1, 5⟩
/-- LANE_FCS_FAIL. -/
def cLaneFcsFail : Counter := ⟨8, 0x110, 1, 3⟩
/-- LANE_EVICT. -/
def cLaneEvict : Counter := ⟨8, 0x114, 1, 2⟩
/-- LANE_NO_LANE. -/
def cLaneNoLane : Counter := ⟨8, 0x118, 1, 16⟩
/-- LANE_INPUT_INVALID. -/
def cLaneInputInvalid : Counter := ⟨8, 0x11C, 1, 12⟩
/-- LANE_MEMBER_LOST. -/
def cLaneMemberLost : Counter := ⟨8, 0x120, 1, 13⟩
/-- LANE_GROUP_GEN. -/
def cLaneGroupGen : Counter := ⟨8, 0x124, 1, 9⟩
/-- LANE_GROUP_UNALIGNED. -/
def cLaneGroupUnaligned : Counter := ⟨8, 0x128, 1, 10⟩
/-- LANE_GROUP_DUP. -/
def cLaneGroupDup : Counter := ⟨8, 0x12C, 1, 6⟩
/-- LANE_GROUP_FULL. -/
def cLaneGroupFull : Counter := ⟨8, 0x130, 1, 8⟩
/-- LANE_GROUP_EJECT. -/
def cLaneGroupEject : Counter := ⟨8, 0x134, 1, 7⟩
/-- LANE_COLLISION_LOST. -/
def cLaneCollisionLost : Counter := ⟨8, 0x138, 1, 1⟩
/-- LANE_NO_CONTEXT. -/
def cLaneNoContext : Counter := ⟨8, 0x13C, 1, 14⟩
/-- LANE_CANCEL_SKIP. -/
def cLaneCancelSkip : Counter := ⟨8, 0x140, 1, 0⟩
/-- LANE_SPILL_DROP. -/
def cLaneSpillDrop : Counter := ⟨8, 0x144, 1, 22⟩
/-- LANE_SPILL_OVERRUN. -/
def cLaneSpillOverrun : Counter := ⟨8, 0x148, 1, 23⟩
/-- LANE_RERUN_WAIT. -/
def cLaneRerunWait : Counter := ⟨8, 0x14C, 1, 20⟩
/-- LANE_RERUN_OK. -/
def cLaneRerunOk : Counter := ⟨8, 0x150, 1, 19⟩
/-- LANE_RERUN_LATE. -/
def cLaneRerunLate : Counter := ⟨8, 0x154, 1, 18⟩
/-- LANE_SNIPPET_DROP. -/
def cLaneSnippetDrop : Counter := ⟨8, 0x158, 1, 21⟩
/-- LANE_UNIT_FAIL. -/
def cLaneUnitFail : Counter := ⟨8, 0x15C, 1, 24⟩
/-- LANE_NO_GROUP. -/
def cLaneNoGroup : Counter := ⟨8, 0x160, 1, 15⟩
/-- TXM_NO_MODULATOR. -/
def cTxmNoModulator : Counter := ⟨9, 0x100, 1, 5⟩
/-- TXM_POWER_REFUSE. -/
def cTxmPowerRefuse : Counter := ⟨9, 0x104, 1, 7⟩
/-- TXM_POWER_CLIP. -/
def cTxmPowerClip : Counter := ⟨9, 0x108, 1, 6⟩
/-- TXM_BAND_REFUSE. -/
def cTxmBandRefuse : Counter := ⟨9, 0x10C, 1, 0⟩
/-- TXM_LATE_RELEASE. -/
def cTxmLateRelease : Counter := ⟨9, 0x110, 1, 2⟩
/-- TXM_TX_ABORT. -/
def cTxmTxAbort : Counter := ⟨9, 0x114, 1, 8⟩
/-- TXM_MASK_MUTE. -/
def cTxmMaskMute : Counter := ⟨9, 0x118, 1, 3⟩
/-- TXM_MOD_RETIRE. -/
def cTxmModRetire : Counter := ⟨9, 0x11C, 1, 4⟩
/-- TXM_BOOKING_REMOVED. -/
def cTxmBookingRemoved : Counter := ⟨9, 0x120, 1, 1⟩
/-- CAL_SNIPPETS. -/
def cCalSnippets : Counter := ⟨10, 0xA100, 1, 5⟩
/-- CAL_SNIPPET_RERUN. -/
def cCalSnippetRerun : Counter := ⟨10, 0xA104, 1, 7⟩
/-- CAL_SNIPPET_STALE. -/
def cCalSnippetStale : Counter := ⟨10, 0xA108, 1, 8⟩
/-- CAL_SNIPPET_OUTLIER. -/
def cCalSnippetOutlier : Counter := ⟨10, 0xA10C, 1, 6⟩
/-- CAL_LOOPBACK_MATCH. -/
def cCalLoopbackMatch : Counter := ⟨10, 0xA110, 1, 1⟩
/-- CAL_LOOPBACK_UNMATCHED. -/
def cCalLoopbackUnmatched : Counter := ⟨10, 0xA114, 1, 2⟩
/-- CAL_SOLVE_FAIL. -/
def cCalSolveFail : Counter := ⟨10, 0xA118, 1, 9⟩
/-- CAL_GEN_CHANGE. -/
def cCalGenChange : Counter := ⟨10, 0xA11C, 1, 0⟩
/-- CAL_SWEEP_SKIP. -/
def cCalSweepSkip : Counter := ⟨10, 0xA120, 1, 10⟩
/-- CAL_RESTORE. -/
def cCalRestore : Counter := ⟨10, 0xA124, 1, 3⟩
/-- CAL_RESTORE_REJECT. -/
def cCalRestoreReject : Counter := ⟨10, 0xA128, 1, 4⟩
/-- SCH_DWELL_REFUSE. -/
def cSchDwellRefuse : Counter := ⟨11, 0x8100, 1, 7⟩
/-- SCH_DUTY_REFUSE. -/
def cSchDutyRefuse : Counter := ⟨11, 0x8104, 1, 6⟩
/-- SCH_ACK_REHOME. -/
def cSchAckRehome : Counter := ⟨11, 0x8108, 1, 2⟩
/-- SCH_ACK_REFUSE. -/
def cSchAckRefuse : Counter := ⟨11, 0x810C, 1, 1⟩
/-- SCH_TX_DEFER. -/
def cSchTxDefer : Counter := ⟨11, 0x8110, 1, 13⟩
/-- SCH_TX_REHOME. -/
def cSchTxRehome : Counter := ⟨11, 0x8114, 1, 14⟩
/-- SCH_BEACON_SKIP. -/
def cSchBeaconSkip : Counter := ⟨11, 0x8118, 1, 3⟩
/-- SCH_ACK_LATE. -/
def cSchAckLate : Counter := ⟨11, 0x811C, 1, 0⟩
/-- SCH_CELL_OVF. -/
def cSchCellOvf : Counter := ⟨11, 0x8120, 1, 5⟩
/-- SCH_CELL_CONFLICT. -/
def cSchCellConflict : Counter := ⟨11, 0x8124, 1, 4⟩
/-- SCH_GUARD_WITHDRAW. -/
def cSchGuardWithdraw : Counter := ⟨11, 0x8128, 1, 8⟩
/-- SCH_TC_CLIP. -/
def cSchTcClip : Counter := ⟨11, 0x812C, 1, 12⟩
/-- SCH_NBR_MISS. -/
def cSchNbrMiss : Counter := ⟨11, 0x8130, 1, 10⟩
/-- SCH_NBR_ASN_MISMATCH. -/
def cSchNbrAsnMismatch : Counter := ⟨11, 0x8134, 1, 9⟩
/-- SCH_RESYNC_HOLD. -/
def cSchResyncHold : Counter := ⟨11, 0x8138, 1, 11⟩
/-- TIME_PTP_DISCARD. -/
def cTimePtpDiscard : Counter := ⟨12, 0x100, 1, 1⟩
/-- TIME_PPS_REJECT. -/
def cTimePpsReject : Counter := ⟨12, 0x104, 1, 0⟩
/-- TIME_SRC_CHANGE. -/
def cTimeSrcChange : Counter := ⟨12, 0x108, 1, 2⟩
/-- FLD_SEEN_DROP. -/
def cFldSeenDrop : Counter := ⟨13, 0x100, 1, 4⟩
/-- FLD_SEEN_EVICT. -/
def cFldSeenEvict : Counter := ⟨13, 0x104, 1, 5⟩
/-- FLD_MESH_HDR_BAD. -/
def cFldMeshHdrBad : Counter := ⟨13, 0x108, 1, 1⟩
/-- FLD_FLOOD_SENT. -/
def cFldFloodSent : Counter := ⟨13, 0x10C, 1, 0⟩
/-- FLD_RELAYED. -/
def cFldRelayed : Counter := ⟨13, 0x110, 1, 3⟩
/-- FLD_TTL_END. -/
def cFldTtlEnd : Counter := ⟨13, 0x114, 1, 6⟩
/-- FLD_PORT_FLOOD. -/
def cFldPortFlood : Counter := ⟨13, 0x118, 1, 2⟩
/-- FWD_TABLE_FULL. -/
def cFwdTableFull : Counter := ⟨14, 0x10100, 1, 18⟩
/-- FWD_INSERT_FAIL. -/
def cFwdInsertFail : Counter := ⟨14, 0x10104, 1, 5⟩
/-- FWD_RB_FULL. -/
def cFwdRbFull : Counter := ⟨14, 0x10108, 1, 13⟩
/-- FWD_LEARN_DROP. -/
def cFwdLearnDrop : Counter := ⟨14, 0x1010C, 1, 6⟩
/-- FWD_LEARN_FLOOD. -/
def cFwdLearnFlood : Counter := ⟨14, 0x10110, 1, 8⟩
/-- FWD_LEARN_LIMIT. -/
def cFwdLearnLimit : Counter := ⟨14, 0x10114, 1, 9⟩
/-- FWD_LEARN_FALLBACK. -/
def cFwdLearnFallback : Counter := ⟨14, 0x10118, 1, 7⟩
/-- FWD_LEARN_SKIP. -/
def cFwdLearnSkip : Counter := ⟨14, 0x1011C, 1, 10⟩
/-- FWD_HOME_MOVE. -/
def cFwdHomeMove : Counter := ⟨14, 0x10120, 1, 4⟩
/-- FWD_HOME_LOST. -/
def cFwdHomeLost : Counter := ⟨14, 0x10124, 1, 3⟩
/-- FWD_AGED_ROUTE. -/
def cFwdAgedRoute : Counter := ⟨14, 0x10128, 1, 1⟩
/-- FWD_AGED_ENTRY. -/
def cFwdAgedEntry : Counter := ⟨14, 0x1012C, 1, 0⟩
/-- FWD_AGE_RACE. -/
def cFwdAgeRace : Counter := ⟨14, 0x10130, 1, 2⟩
/-- FWD_NO_ROUTE. -/
def cFwdNoRoute : Counter := ⟨14, 0x10134, 1, 11⟩
/-- FWD_PORT_DOWN. -/
def cFwdPortDown : Counter := ⟨14, 0x10138, 1, 12⟩
/-- FWD_TTL_EXPIRED. -/
def cFwdTtlExpired : Counter := ⟨14, 0x1013C, 1, 21⟩
/-- FWD_TOO_BIG. -/
def cFwdTooBig : Counter := ⟨14, 0x10140, 1, 19⟩
/-- FWD_TRANSIT_EXPIRE. -/
def cFwdTransitExpire : Counter := ⟨14, 0x10144, 1, 20⟩
/-- FWD_ROUTE_NO_NODE. -/
def cFwdRouteNoNode : Counter := ⟨14, 0x10148, 1, 17⟩
/-- FWD_ROUTE_BAD. -/
def cFwdRouteBad : Counter := ⟨14, 0x1014C, 1, 14⟩
/-- FWD_ROUTE_LONG. -/
def cFwdRouteLong : Counter := ⟨14, 0x10150, 1, 15⟩
/-- FWD_ROUTE_LOOP. -/
def cFwdRouteLoop : Counter := ⟨14, 0x10154, 1, 16⟩
/-- KEY_HIT. -/
def cKeyHit : Counter := ⟨15, 0x100, 1, 3⟩
/-- KEY_MISS. -/
def cKeyMiss : Counter := ⟨15, 0x104, 1, 9⟩
/-- KEY_STALE_USE. -/
def cKeyStaleUse : Counter := ⟨15, 0x108, 1, 14⟩
/-- KEY_NO_BLOB. -/
def cKeyNoBlob : Counter := ⟨15, 0x10C, 1, 10⟩
/-- KEY_BLOB_BAD. -/
def cKeyBlobBad : Counter := ⟨15, 0x110, 1, 0⟩
/-- KEY_MIC_FAIL. -/
def cKeyMicFail : Counter := ⟨15, 0x114, 1, 8⟩
/-- KEY_REPLAY. -/
def cKeyReplay : Counter := ⟨15, 0x118, 1, 11⟩
/-- KEY_FC_EXHAUSTED. -/
def cKeyFcExhausted : Counter := ⟨15, 0x11C, 1, 2⟩
/-- KEY_SEC_LEVEL. -/
def cKeySecLevel : Counter := ⟨15, 0x120, 1, 13⟩
/-- KEY_KIM_UNSUPPORTED. -/
def cKeyKimUnsupported : Counter := ⟨15, 0x124, 1, 6⟩
/-- KEY_UNWRAP_OVF. -/
def cKeyUnwrapOvf : Counter := ⟨15, 0x128, 1, 15⟩
/-- KEY_CACHE_BYPASS. -/
def cKeyCacheBypass : Counter := ⟨15, 0x12C, 1, 1⟩
/-- KEY_LOAD_OLD. -/
def cKeyLoadOld : Counter := ⟨15, 0x130, 1, 7⟩
/-- KEY_RETIRE_BUSY. -/
def cKeyRetireBusy : Counter := ⟨15, 0x134, 1, 12⟩
/-- KEY_JOURNAL_CRC. -/
def cKeyJournalCrc : Counter := ⟨15, 0x138, 1, 4⟩
/-- KEY_JOURNAL_REPAIR. -/
def cKeyJournalRepair : Counter := ⟨15, 0x13C, 1, 5⟩
/-- JRN_ACCEPTED. -/
def cJrnAccepted : Counter := ⟨16, 0x100, 1, 0⟩
/-- JRN_VOID. -/
def cJrnVoid : Counter := ⟨16, 0x104, 1, 11⟩
/-- JRN_LATE. -/
def cJrnLate : Counter := ⟨16, 0x108, 1, 4⟩
/-- JRN_DUP. -/
def cJrnDup : Counter := ⟨16, 0x10C, 1, 2⟩
/-- JRN_DUP_COPY. -/
def cJrnDupCopy : Counter := ⟨16, 0x110, 1, 3⟩
/-- JRN_OWN_FRAME. -/
def cJrnOwnFrame : Counter := ⟨16, 0x114, 1, 5⟩
/-- JRN_RING_FULL. -/
def cJrnRingFull : Counter := ⟨16, 0x118, 1, 8⟩
/-- JRN_RESET_DROP. -/
def cJrnResetDrop : Counter := ⟨16, 0x11C, 1, 7⟩
/-- JRN_RECOVER_BAD. -/
def cJrnRecoverBad : Counter := ⟨16, 0x120, 1, 6⟩
/-- JRN_STANDBY_MATCH. -/
def cJrnStandbyMatch : Counter := ⟨16, 0x124, 1, 10⟩
/-- JRN_STANDBY_DROP. -/
def cJrnStandbyDrop : Counter := ⟨16, 0x128, 1, 9⟩
/-- JRN_ACK_UNMATCHED. -/
def cJrnAckUnmatched : Counter := ⟨16, 0x12C, 1, 1⟩
/-- FRY_AUTH_FAIL. -/
def cFryAuthFail : Counter := ⟨17, 0x100, 1, 0⟩
/-- FRY_REPLAY. -/
def cFryReplay : Counter := ⟨17, 0x104, 1, 7⟩
/-- FRY_BAD_FORMAT. -/
def cFryBadFormat : Counter := ⟨17, 0x108, 1, 1⟩
/-- FRY_RX_DISCARD. -/
def cFryRxDiscard : Counter := ⟨17, 0x10C, 1, 8⟩
/-- FRY_UL_RETX. -/
def cFryUlRetx : Counter := ⟨17, 0x110, 1, 9⟩
/-- FRY_DL_DUP. -/
def cFryDlDup : Counter := ⟨17, 0x114, 1, 3⟩
/-- FRY_DL_GAP. -/
def cFryDlGap : Counter := ⟨17, 0x118, 1, 4⟩
/-- FRY_DL_CONFLICT. -/
def cFryDlConflict : Counter := ⟨17, 0x11C, 1, 2⟩
/-- FRY_DL_RING_FULL. -/
def cFryDlRingFull : Counter := ⟨17, 0x120, 1, 5⟩
/-- FRY_READ_REFUSE. -/
def cFryReadRefuse : Counter := ⟨17, 0x124, 1, 6⟩
/-- PAIR_LINK_LOSS. -/
def cPairLinkLoss : Counter := ⟨18, 0x100, 1, 6⟩
/-- PAIR_SECOND_COPY. -/
def cPairSecondCopy : Counter := ⟨18, 0x104, 1, 11⟩
/-- PAIR_ISTHMUS_AUTH. -/
def cPairIsthmusAuth : Counter := ⟨18, 0x108, 1, 4⟩
/-- PAIR_MSEQ_GAP. -/
def cPairMseqGap : Counter := ⟨18, 0x10C, 1, 7⟩
/-- PAIR_STALE_RECORD. -/
def cPairStaleRecord : Counter := ⟨18, 0x110, 1, 12⟩
/-- PAIR_LATE_RECORD. -/
def cPairLateRecord : Counter := ⟨18, 0x114, 1, 5⟩
/-- PAIR_TAKEOVER. -/
def cPairTakeover : Counter := ⟨18, 0x118, 1, 13⟩
/-- PAIR_ORPHAN_TAKE. -/
def cPairOrphanTake : Counter := ⟨18, 0x11C, 1, 8⟩
/-- PAIR_TAKE_ABORT. -/
def cPairTakeAbort : Counter := ⟨18, 0x120, 1, 14⟩
/-- PAIR_TIE_RELEASE. -/
def cPairTieRelease : Counter := ⟨18, 0x124, 1, 15⟩
/-- PAIR_GIVE_UP. -/
def cPairGiveUp : Counter := ⟨18, 0x128, 1, 1⟩
/-- PAIR_HANDOVER. -/
def cPairHandover : Counter := ⟨18, 0x12C, 1, 2⟩
/-- PAIR_HEAD_NOT_FOLLOWING. -/
def cPairHeadNotFollowing : Counter := ⟨18, 0x130, 1, 3⟩
/-- PAIR_DIGEST_MISMATCH. -/
def cPairDigestMismatch : Counter := ⟨18, 0x134, 1, 0⟩
/-- PAIR_RESYNC. -/
def cPairResync : Counter := ⟨18, 0x138, 1, 9⟩
/-- PAIR_RESYNC_LIVE_SKIP. -/
def cPairResyncLiveSkip : Counter := ⟨18, 0x13C, 1, 10⟩
/-- UPD_PART_STALE. -/
def cUpdPartStale : Counter := ⟨19, 0x100, 1, 13⟩
/-- UPD_PART_DUP. -/
def cUpdPartDup : Counter := ⟨19, 0x104, 1, 12⟩
/-- UPD_ASSEMBLY_EVICT. -/
def cUpdAssemblyEvict : Counter := ⟨19, 0x108, 1, 0⟩
/-- UPD_PIECE_TAG_FAIL. -/
def cUpdPieceTagFail : Counter := ⟨19, 0x10C, 1, 14⟩
/-- UPD_PIECE_WRITE_FAIL. -/
def cUpdPieceWriteFail : Counter := ⟨19, 0x110, 1, 15⟩
/-- UPD_MESH_PARTS. -/
def cUpdMeshParts : Counter := ⟨19, 0x114, 1, 10⟩
/-- UPD_MESH_SERVED. -/
def cUpdMeshServed : Counter := ⟨19, 0x118, 1, 11⟩
/-- UPD_CAMP_NO_NODE. -/
def cUpdCampNoNode : Counter := ⟨19, 0x11C, 1, 5⟩
/-- UPD_CAMP_BUSY_NODE. -/
def cUpdCampBusyNode : Counter := ⟨19, 0x120, 1, 1⟩
/-- UPD_CAMP_REPORT_STALE. -/
def cUpdCampReportStale : Counter := ⟨19, 0x124, 1, 8⟩
/-- UPD_CAMP_NODE_FAIL. -/
def cUpdCampNodeFail : Counter := ⟨19, 0x128, 1, 4⟩
/-- UPD_CAMP_MEMBER_LOST. -/
def cUpdCampMemberLost : Counter := ⟨19, 0x12C, 1, 3⟩
/-- UPD_CAMP_FRAG_FRAMES. -/
def cUpdCampFragFrames : Counter := ⟨19, 0x130, 1, 2⟩
/-- UPD_CAMP_REPAIR_FRAMES. -/
def cUpdCampRepairFrames : Counter := ⟨19, 0x134, 1, 7⟩
/-- UPD_CAMP_PACE_DEFER. -/
def cUpdCampPaceDefer : Counter := ⟨19, 0x138, 1, 6⟩
/-- UPD_CAMP_WINDOW_WAIT. -/
def cUpdCampWindowWait : Counter := ⟨19, 0x13C, 1, 9⟩
/-- MEM_ECC_CORRECTED. -/
def cMemEccCorrected : Counter := ⟨20, 0x100, 1, 1⟩
/-- MEM_ECC_UNCORRECTED. -/
def cMemEccUncorrected : Counter := ⟨20, 0x104, 1, 2⟩
/-- MEM_MIRROR_REPAIR. -/
def cMemMirrorRepair : Counter := ⟨20, 0x108, 1, 3⟩
/-- MEM_POISON_DROP. -/
def cMemPoisonDrop : Counter := ⟨20, 0x10C, 1, 4⟩
/-- MEM_STAGE_FULL. -/
def cMemStageFull : Counter := ⟨20, 0x110, 1, 6⟩
/-- MEM_DMA_ERROR. -/
def cMemDmaError : Counter := ⟨20, 0x114, 1, 0⟩
/-- MEM_RETRAIN. -/
def cMemRetrain : Counter := ⟨20, 0x118, 1, 5⟩
/-- QUAY_FLUSH_ITEMS. -/
def cQuayFlushItems : Counter := ⟨21, 0x100, 64, 1⟩
/-- QUAY_REMAINDER_DROP. -/
def cQuayRemainderDrop : Counter := ⟨21, 0x104, 64, 5⟩
/-- QUAY_POISON_ITEMS. -/
def cQuayPoisonItems : Counter := ⟨21, 0x108, 64, 3⟩
/-- QUAY_PARITY. -/
def cQuayParity : Counter := ⟨21, 0x10C, 64, 2⟩
/-- QUAY_PROTOCOL_ERR. -/
def cQuayProtocolErr : Counter := ⟨21, 0x110, 64, 4⟩
/-- QUAY_WRONG_PRODUCER. -/
def cQuayWrongProducer : Counter := ⟨21, 0x114, 64, 6⟩
/-- QUAY_CLAIM_REFUSE. -/
def cQuayClaimRefuse : Counter := ⟨21, 0x118, 64, 0⟩
/-- HLT_STRAIT_FULL. -/
def cHltStraitFull : Counter := ⟨22, 0x100, 1, 12⟩
/-- HLT_STRAIT_PARITY. -/
def cHltStraitParity : Counter := ⟨22, 0x104, 1, 13⟩
/-- HLT_COALESCE_OVF. -/
def cHltCoalesceOvf : Counter := ⟨22, 0x108, 1, 2⟩
/-- HLT_ESCALATE. -/
def cHltEscalate : Counter := ⟨22, 0x10C, 1, 5⟩
/-- HLT_MERGED. -/
def cHltMerged : Counter := ⟨22, 0x110, 1, 10⟩
/-- HLT_PREEMPT. -/
def cHltPreempt : Counter := ⟨22, 0x114, 1, 11⟩
/-- HLT_JIG_PASS. -/
def cHltJigPass : Counter := ⟨22, 0x118, 1, 8⟩
/-- HLT_JIG_FAIL. -/
def cHltJigFail : Counter := ⟨22, 0x11C, 1, 6⟩
/-- HLT_JIG_INCOMPLETE. -/
def cHltJigIncomplete : Counter := ⟨22, 0x120, 1, 7⟩
/-- HLT_JIG_PREEMPT. -/
def cHltJigPreempt : Counter := ⟨22, 0x124, 1, 9⟩
/-- HLT_CLAMP_WAIT. -/
def cHltClampWait : Counter := ⟨22, 0x128, 1, 1⟩
/-- HLT_CLAMP_SKIP. -/
def cHltClampSkip : Counter := ⟨22, 0x12C, 1, 0⟩
/-- HLT_DUMP_OVERWRITE. -/
def cHltDumpOverwrite : Counter := ⟨22, 0x130, 1, 4⟩
/-- HLT_DUMP_FLASH_FAIL. -/
def cHltDumpFlashFail : Counter := ⟨22, 0x134, 1, 3⟩
/-- MGT_WRITE_REJECT. -/
def cMgtWriteReject : Counter := ⟨22, 0x138, 1, 14⟩
/-- EVR_OVERWRITE. -/
def cEvrOverwrite : Counter := ⟨23, 0x100, 1, 2⟩
/-- EVR_INPUT_OVF. -/
def cEvrInputOvf : Counter := ⟨23, 0x104, 1, 1⟩
/-- EVR_CURSOR_LOST. -/
def cEvrCursorLost : Counter := ⟨23, 0x108, 1, 0⟩
/-- ENG_WDOG_EXPIRE. -/
def cEngWdogExpire : Counter := ⟨24, 0x100, 1, 0⟩

/-- Every counter of the device. -/
def counters : List Counter :=
  [cGlbBadAccess, cGlbLockedWrite, cFuseCorrected, cFuseProgRefuse, cBootRecSkip, cBootPufRetry, cClkSdsLoss,
   cFhCbCrc, cFhFrameLoss, cFhTrainFail, cFhDelayRange, cFhDelayUnstable, cFhTimeSlip, cFhGroupGap,
   cFhRemapDiscard, cFhTxLateReport, cFhEpochConflict, cFhMbxTimeout, cFhLoopRefuse, cFhLinkupTimeout,
   cAnaAdcClip, cAnaDucOvf, cAnaLoopRefuse, cChnSat, cChnInvalidSpan, cChnGenDefer, cChnRetireExpire,
   cDetRecordOvf, cDetEvalSkip, cDetWarmupDiscard, cDetSliceFail, cDetRecords, cDetMerged, cDetMasked,
   cDetRedetect, cLaneFramesOk, cLaneHdrFail, cLanePhrUnsupported, cLaneFrameVersion, cLaneFcsFail, cLaneEvict,
   cLaneNoLane, cLaneInputInvalid, cLaneMemberLost, cLaneGroupGen, cLaneGroupUnaligned, cLaneGroupDup,
   cLaneGroupFull, cLaneGroupEject, cLaneCollisionLost, cLaneNoContext, cLaneCancelSkip, cLaneSpillDrop,
   cLaneSpillOverrun, cLaneRerunWait, cLaneRerunOk, cLaneRerunLate, cLaneSnippetDrop, cLaneUnitFail,
   cLaneNoGroup] ++
  [cTxmNoModulator, cTxmPowerRefuse, cTxmPowerClip, cTxmBandRefuse, cTxmLateRelease, cTxmTxAbort, cTxmMaskMute,
   cTxmModRetire, cTxmBookingRemoved, cCalSnippets, cCalSnippetRerun, cCalSnippetStale, cCalSnippetOutlier,
   cCalLoopbackMatch, cCalLoopbackUnmatched, cCalSolveFail, cCalGenChange, cCalSweepSkip, cCalRestore,
   cCalRestoreReject, cSchDwellRefuse, cSchDutyRefuse, cSchAckRehome, cSchAckRefuse, cSchTxDefer, cSchTxRehome,
   cSchBeaconSkip, cSchAckLate, cSchCellOvf, cSchCellConflict, cSchGuardWithdraw, cSchTcClip, cSchNbrMiss,
   cSchNbrAsnMismatch, cSchResyncHold, cTimePtpDiscard, cTimePpsReject, cTimeSrcChange, cFldSeenDrop,
   cFldSeenEvict, cFldMeshHdrBad, cFldFloodSent, cFldRelayed, cFldTtlEnd, cFldPortFlood, cFwdTableFull,
   cFwdInsertFail, cFwdRbFull, cFwdLearnDrop, cFwdLearnFlood, cFwdLearnLimit, cFwdLearnFallback, cFwdLearnSkip,
   cFwdHomeMove, cFwdHomeLost, cFwdAgedRoute, cFwdAgedEntry, cFwdAgeRace, cFwdNoRoute, cFwdPortDown] ++
  [cFwdTtlExpired, cFwdTooBig, cFwdTransitExpire, cFwdRouteNoNode, cFwdRouteBad, cFwdRouteLong, cFwdRouteLoop,
   cKeyHit, cKeyMiss, cKeyStaleUse, cKeyNoBlob, cKeyBlobBad, cKeyMicFail, cKeyReplay, cKeyFcExhausted,
   cKeySecLevel, cKeyKimUnsupported, cKeyUnwrapOvf, cKeyCacheBypass, cKeyLoadOld, cKeyRetireBusy, cKeyJournalCrc,
   cKeyJournalRepair, cJrnAccepted, cJrnVoid, cJrnLate, cJrnDup, cJrnDupCopy, cJrnOwnFrame, cJrnRingFull,
   cJrnResetDrop, cJrnRecoverBad, cJrnStandbyMatch, cJrnStandbyDrop, cJrnAckUnmatched, cFryAuthFail, cFryReplay,
   cFryBadFormat, cFryRxDiscard, cFryUlRetx, cFryDlDup, cFryDlGap, cFryDlConflict, cFryDlRingFull,
   cFryReadRefuse, cPairLinkLoss, cPairSecondCopy, cPairIsthmusAuth, cPairMseqGap, cPairStaleRecord,
   cPairLateRecord, cPairTakeover, cPairOrphanTake, cPairTakeAbort, cPairTieRelease, cPairGiveUp, cPairHandover,
   cPairHeadNotFollowing, cPairDigestMismatch, cPairResync] ++
  [cPairResyncLiveSkip, cUpdPartStale, cUpdPartDup, cUpdAssemblyEvict, cUpdPieceTagFail, cUpdPieceWriteFail,
   cUpdMeshParts, cUpdMeshServed, cUpdCampNoNode, cUpdCampBusyNode, cUpdCampReportStale, cUpdCampNodeFail,
   cUpdCampMemberLost, cUpdCampFragFrames, cUpdCampRepairFrames, cUpdCampPaceDefer, cUpdCampWindowWait,
   cMemEccCorrected, cMemEccUncorrected, cMemMirrorRepair, cMemPoisonDrop, cMemStageFull, cMemDmaError,
   cMemRetrain, cQuayFlushItems, cQuayRemainderDrop, cQuayPoisonItems, cQuayParity, cQuayProtocolErr,
   cQuayWrongProducer, cQuayClaimRefuse, cHltStraitFull, cHltStraitParity, cHltCoalesceOvf, cHltEscalate,
   cHltMerged, cHltPreempt, cHltJigPass, cHltJigFail, cHltJigIncomplete, cHltJigPreempt, cHltClampWait,
   cHltClampSkip, cHltDumpOverwrite, cHltDumpFlashFail, cMgtWriteReject, cEvrOverwrite, cEvrInputOvf,
   cEvrCursorLost, cEngWdogExpire]

/-! The named events: block in bits 15:11, index from 1 in ASCII order (R475, R496). -/

/-- GLB_COUNTERS_CLEARED. -/
def eGlbCountersCleared : Nat := 0 * 2048 + 1
/-- GLB_OVERTEMP. -/
def eGlbOvertemp : Nat := 0 * 2048 + 2
/-- GLB_STICKY_CLEARED. -/
def eGlbStickyCleared : Nat := 0 * 2048 + 3
/-- GLB_THERMAL_TRIP. -/
def eGlbThermalTrip : Nat := 0 * 2048 + 4
/-- TXM_MASK_VIOLATION. -/
def eTxmMaskViolation : Nat := 9 * 2048 + 1
/-- TIME_HOLDOVER. -/
def eTimeHoldover : Nat := 12 * 2048 + 1
/-- TIME_SRC_CHANGE. -/
def eTimeSrcChange : Nat := 12 * 2048 + 2
/-- SCH_CELL_REINSTATE. -/
def eSchCellReinstate : Nat := 11 * 2048 + 1
/-- SCH_CELL_WITHDRAW. -/
def eSchCellWithdraw : Nat := 11 * 2048 + 2
/-- SCH_NBR_ASN. -/
def eSchNbrAsn : Nat := 11 * 2048 + 3
/-- SCH_NBR_RESTORED. -/
def eSchNbrRestored : Nat := 11 * 2048 + 4
/-- SCH_NBR_SILENT. -/
def eSchNbrSilent : Nat := 11 * 2048 + 5
/-- KEY_PAIR_AUTH_FAIL. -/
def eKeyPairAuthFail : Nat := 15 * 2048 + 1
/-- KEY_PAIR_CONFLICT. -/
def eKeyPairConflict : Nat := 15 * 2048 + 2
/-- FRY_PATH_CHANGE. -/
def eFryPathChange : Nat := 17 * 2048 + 1
/-- FRY_PEER_LOST. -/
def eFryPeerLost : Nat := 17 * 2048 + 2
/-- PAIR_ABSENT. -/
def ePairAbsent : Nat := 18 * 2048 + 1
/-- PAIR_DETACHED. -/
def ePairDetached : Nat := 18 * 2048 + 2
/-- PAIR_FORMAT_MISMATCH. -/
def ePairFormatMismatch : Nat := 18 * 2048 + 3
/-- PAIR_GIVE_UP. -/
def ePairGiveUp : Nat := 18 * 2048 + 4
/-- PAIR_HEAD_STRAY. -/
def ePairHeadStray : Nat := 18 * 2048 + 5
/-- PAIR_ORPHAN_TAKE. -/
def ePairOrphanTake : Nat := 18 * 2048 + 6
/-- PAIR_PARTNER_LOST. -/
def ePairPartnerLost : Nat := 18 * 2048 + 7
/-- PAIR_RESYNC_SLOW. -/
def ePairResyncSlow : Nat := 18 * 2048 + 8
/-- PAIR_TOKEN_FAULT. -/
def ePairTokenFault : Nat := 18 * 2048 + 9
/-- UPD_ACTIVATE. -/
def eUpdActivate : Nat := 19 * 2048 + 1
/-- UPD_ACTIVATE_FAIL. -/
def eUpdActivateFail : Nat := 19 * 2048 + 2
/-- UPD_CAMP_DIGEST_FAIL. -/
def eUpdCampDigestFail : Nat := 19 * 2048 + 3
/-- UPD_CAMP_END. -/
def eUpdCampEnd : Nat := 19 * 2048 + 4
/-- UPD_CONFIRMED. -/
def eUpdConfirmed : Nat := 19 * 2048 + 5
/-- UPD_CONFIRM_INCOMPLETE. -/
def eUpdConfirmIncomplete : Nat := 19 * 2048 + 6
/-- UPD_FALLBACK. -/
def eUpdFallback : Nat := 19 * 2048 + 7
/-- UPD_VERIFIED. -/
def eUpdVerified : Nat := 19 * 2048 + 8
/-- UPD_VERIFY_FAIL. -/
def eUpdVerifyFail : Nat := 19 * 2048 + 9
/-- HLT_PARTNER_DUMP. -/
def eHltPartnerDump : Nat := 22 * 2048 + 1

end Sys2Proof.Machine
end

