-- ==== Sys2Proof/Machine/Sparse.lean ====
section
/-! DEFINITION. Sparse data by key, in one canonical form: a list of (key, value) pairs with strictly rising keys and
no pair whose value is what an unlisted key reads as. -/

namespace Sys2Proof.Machine

/-- What key `k` holds; an unlisted key holds `d k`. -/
def sget {α : Type} (d : Nat → α) : List (Nat × α) → Nat → α
  | [], k => d k
  | (j, v) :: r, k => if j = k then v else sget d r k

/-- Put `(k, v)` before the first greater key. -/
def sins {α : Type} : List (Nat × α) → Nat → α → List (Nat × α)
  | [], k, v => [(k, v)]
  | (j, w) :: r, k, v => if k < j then (k, v) :: (j, w) :: r else (j, w) :: sins r k v

/-- Forget what key `k` holds. -/
def sdel {α : Type} (m : List (Nat × α)) (k : Nat) : List (Nat × α) := m.filter fun p => p.1 ≠ k

/-- Make key `k` hold `v`, keeping the canonical form. -/
def sset {α : Type} [DecidableEq α] (d : Nat → α) (m : List (Nat × α)) (k : Nat) (v : α) : List (Nat × α) :=
  if v = d k then sdel m k else sins (sdel m k) k v

/-- Change what key `k` holds by `f`. -/
def smod {α : Type} [DecidableEq α] (d : Nat → α) (m : List (Nat × α)) (k : Nat) (f : α → α) : List (Nat × α) :=
  sset d m k (f (sget d m k))

/-- The keys rise strictly from above `lo`. -/
def srising {α : Type} : Option Nat → List (Nat × α) → Bool
  | _, [] => true
  | lo, (j, _) :: r => (match lo with | none => true | some l => decide (l < j)) && srising (some j) r

/-- The canonical form. -/
def scanon {α : Type} [DecidableEq α] (d : Nat → α) (m : List (Nat × α)) : Bool :=
  srising none m && m.all fun p => decide (p.2 ≠ d p.1)

/-- What key `k` holds in a table whose absent keys hold nothing. -/
def afind {α : Type} : List (Nat × α) → Nat → Option α
  | [], _ => none
  | (j, v) :: r, k => if j = k then some v else afind r k

/-- Forget key `k`. -/
def adel {α : Type} (m : List (Nat × α)) (k : Nat) : List (Nat × α) := m.filter fun p => p.1 ≠ k

/-- Make key `k` hold `v`. -/
def aput {α : Type} (m : List (Nat × α)) (k : Nat) (v : α) : List (Nat × α) := sins (adel m k) k v

/-- Change what key `k` holds, if it holds anything. -/
def amod {α : Type} (m : List (Nat × α)) (k : Nat) (f : α → α) : List (Nat × α) :=
  m.map fun p => if p.1 = k then (p.1, f p.2) else p

/-- The search of `firstSuch` with `n` numbers left from `k`. -/
def firstFrom (k : Nat) (p : Nat → Bool) : Nat → Option Nat
  | 0 => none
  | n + 1 => if p k then some k else firstFrom (k + 1) p n

/-- The lowest number below `n` with `p`. -/
def firstSuch (n : Nat) (p : Nat → Bool) : Option Nat := firstFrom 0 p n

end Sys2Proof.Machine
end

