-- ==== Sys2Proof/Machine/State.lean ====
section
/-! DEFINITION. The state of the NY4850, its faults and refusals, and the state after power-on reset. Every piece of state that
the spec names stands here; register settings and counters live in `regs` over the reset values of their cards, and RO status
registers are views of the other fields (Flags.lean). Reset values: the field defaults. -/

namespace Sys2Proof.Machine

open Sys2Proof

/-! ### Start, fuses and pins (02, 17, 18) -/

/-- BOOT_STATUS.PHASE (R51, R86). -/
inductive Phase where
  | p0 | p1 | p2 | p3 | p4 | p5 | p6 | p7 | p8 | p9 | hold | halted
  deriving DecidableEq, Repr

/-- A WAIT_UNTIL in progress (R73); `deadline` in device time. -/
structure Waiting where
  address  : Word
  mask     : Word
  value    : Word
  deadline : Time
  deriving DecidableEq, Repr

/-- A FORMAT_NOTE accepted in P5 (R79). -/
structure FormatNote where
  region    : Nat
  oldFormat : Nat
  newFormat : Nat
  offset    : Nat
  length    : Nat
  deriving DecidableEq, Repr

/-- The start sequencer, the clock status and the fuses (R51 to R87). `linkDone` says that P7, and P8 where it is not skipped, have
ended; `resetting` that steps 1 and 2 of R81 are done and step 3 or 4 is not; `held` that the reset is complete and something holds the
device in it. `ddrA` and `ddrB` are DDRA_OK and DDRB_OK as they were last set. `porstLow` says that the device is in power-on reset, `pinLow`, `warmLow` and `aoLow` why. `kept` says that a second image
finds DRAM trained; `notes` and `record` are those of the image under way; `zeroising` that a JTAG instruction waits (R296). `islands` numbers its bits as ISLAND_READY does:
0 Always-on, 1 Sample, 2 Slot, 3 Control, 4 Packet, 5 Key, 6 Memory, 7 Isthmus. -/
structure Start where
  phase       : Phase := .p0
  porstLow    : Bool := true
  pinLow      : Bool := true
  warmLow     : Bool := false
  resetting   : Bool := false
  held        : Bool := false
  aoLow       : Bool := false
  islands     : BitVec 8 := 1
  refOk       : Bool := false
  pllLost     : BitVec 8 := 0
  sdsLost     : BitVec 4 := 0
  straps      : Bool := false
  pairRole    : Bool := false
  bootSel     : BitVec 2 := 0
  fuseLoaded  : Bool := false
  fuses       : List (Nat × Word) := []
  shadow      : List (Nat × Word) := []
  fuseBusy    : Option (Nat × Nat) := none
  pufTries    : Nat := 0
  devpub      : BitVec 512 := 0
  slotA       : SlotRead := .failed
  slotB       : SlotRead := .failed
  image       : Option ImageHdr := none
  slot        : Bool := false
  second      : Option Bool := none
  fallback    : Bool := false
  otherEmpty  : Bool := false
  readErr     : Bool := false
  errA        : Bool := false
  errB        : Bool := false
  confirmed   : Bool := false
  failCode    : Nat := 0
  prevFail    : Nat := 0
  prevSlot    : Bool := false
  failRecord  : Word := 0xFFFFFFFF
  persistOld  : Nat := 0
  flashSize   : Nat := 0
  persistNew  : Nat := 0
  notes       : List FormatNote := []
  warm        : Bool := false
  reachedP9   : Bool := false
  drained     : Bool := false
  retained    : Bool := false
  ddrA        : Bool := false
  ddrB        : Bool := false
  savedTrain  : Bool := false
  trainCfg    : Nat := 0
  kept        : Bool := false
  selfRefresh : Bool := false
  record      : Nat := 0
  waiting     : Option Waiting := none
  linkDone    : Bool := false
  zeroising   : Bool := false
  holdUntilCool : Bool := false
  deriving DecidableEq, Repr

/-- The outputs that hold a level of their own (R54); every other output follows from the rest of State. -/
structure Pins where
  ready  : Bool := false
  ppsOut : Bool := false
  ethOn  : Bool := false
  deriving DecidableEq, Repr

/-! ### Device time (09) -/

/-- Device time (R236): the count in 1/16 ns, the fraction of a unit that TIME_RATE has left over (in 2^-32 of the nominal
increment), whether the count runs, and the rate at which the Always-on island counts through a warm reset. -/
structure Clock where
  now     : Time := 0
  frac    : Int := 0
  running : Bool := false
  warmRate : Option Int := none
  deriving DecidableEq, Repr

/-! ### Health and event recorder (16) -/

/-- The event recorder (R474 to R477): `records` holds EVR_OLDEST to EVR_HEAD − 1, oldest first; `fifo` is the occupancy of
the input FIFO at `fifoTime`. -/
structure Evr where
  head     : Nat := 1
  oldest   : Nat := 1
  records  : List EvRecord := []
  cursor   : Nat := 0
  fifo     : Nat := 0
  fifoTime : Time := 0
  deriving DecidableEq, Repr

/-- One coalescer entry (R455). -/
structure CoalEntry where
  unit     : Nat
  code     : Nat
  degraded : Bool
  rank     : Nat
  arg      : Nat
  count    : Nat
  opened   : Time
  escalated : Bool
  deriving DecidableEq, Repr

/-- A handler frame or a pending entry (R458). `onTop` is the time the frame has spent on top before `since`. -/
structure HFrame where
  unit  : Nat
  code  : Nat
  rank  : Nat
  count : Nat
  arg   : Nat
  taken : Bool
  onTop : Time
  since : Time
  deriving DecidableEq, Repr

/-- The indications of a watermark (R447, R462). -/
structure Wm where
  above   : Bool := false
  crossed : Bool := false
  count   : Nat := 0
  deriving DecidableEq, Repr

/-- A clamp (R471): the activity that holds it (0: free) and those that wait, oldest first. -/
structure Clamp where
  holder  : Nat := 0
  waiting : List (Nat × Time) := []
  deriving DecidableEq, Repr

/-- The jig's test in hand (R466 to R470). `again` says that service has taken its instance back; `warm` is 0 while the test runs, 1 in
the first warm-up or the drain before it, 2 while it runs after that or is a retest, 3 in the second warm-up, and 9 while it waits for its
clamp or its spare unit; `spare` is the channeliser unit that has the instance's role meanwhile; `due` the time before which the stage in hand
cannot end, or while it waits the time at which it asked. -/
structure JigTest where
  kind       : Nat
  inst       : Nat
  preemptRun : Nat
  again      : Bool
  warm       : Nat
  dsn        : Option Nat
  spare      : Option Nat := none
  due        : Time := 0
  deriving DecidableEq, Repr

/-- A unit that the jig has retired, with the sweeps in a row that it has passed since (R470). -/
structure RetiredUnit where
  kind   : Nat
  inst   : Nat
  passes : Nat
  deriving DecidableEq, Repr

/-- How far the actions after a FATAL have come (R480 to R483). -/
inductive FreezeStage where
  | none | draining | dumping | paths | done
  deriving DecidableEq, Repr

/-- The health unit (R453 to R485). `confirmSince` is since when the criteria of R414 have held, judged with the watermarks; `lastSweep` is when the last sweep began; `jigPort` the JIG_PORT command in hand with its port;
`dumps` and `flashDumps` hold the dumps by slot, own ones in DRAM slots 0 to 7 and partner's in 8 to 15 (R482); `temp` is GLB_TEMP in
1/16 °C. -/
structure Hlt where
  coal      : List CoalEntry := []
  frames    : List HFrame := []
  queue     : List HFrame := []
  ddrOne    : Bool := false
  fallback  : Bool := false
  degraded  : Bool := false
  watermark : Bool := false
  wms       : List (Nat × Wm) := []
  confirmSince : Option Time := none
  clamps    : List (Nat × Clamp) := []
  test      : Option JigTest := none
  lastSweep : Option Time := none
  retired   : List RetiredUnit := []
  jigPort   : Option (Nat × Nat) := none
  cause     : Nat := 0
  causeUnit : Nat := 0
  causeCode : Nat := 0
  causeArg  : Nat := 0
  fatalTime : Time := 0
  armed     : Bool := true
  multiple  : Bool := false
  frozen    : Bool := false
  stage     : FreezeStage := .none
  lastSlot  : Nat := 0
  partnerSent : Bool := false
  flashCopied : Bool := false
  recent    : List Time := []
  dumps     : List (Nat × DumpHdr) := []
  flashDumps : List (Nat × DumpHdr) := []
  mgtAddr   : Nat := 0
  temp      : Int := 0
  overArmed : Bool := true
  deriving DecidableEq, Repr

/-! ### Fronthaul ports (03) -/

/-- FH_PORT_STATUS.STATE (R103). -/
inductive FhState where
  | down | blockLock | frameLock | delay | time | map | up | recover | fault | loop
  deriving DecidableEq, Repr

/-- The mailbox command that awaits its reply (R107): OP, SEQ, the words sent, how often it has timed out, and when its last word left. -/
structure MbxCmd where
  op       : Nat
  seq      : Nat
  address  : Nat
  words    : List Word
  timeouts : Nat
  sentAt   : Option Time
  deriving DecidableEq, Repr

/-- How a port in TIME comes by the head's time (R99, R103). -/
inductive TimeMode where
  | none | loading | loaded | adopting
  deriving DecidableEq, Repr

/-- A port whose RX_MAP echo a change of FH_POOL waits for (R106): which of FRAME_NO 7, 9 and 11 have carried the new map, the superframe
in which the last of them left, and whether the echo of FRAME_NO 9 has come back since. -/
structure EchoWait where
  port : Nat
  sent : BitVec 3
  sf   : Nat
  lo   : Bool
  deriving DecidableEq, Repr

/-- A change of one FH_POOL entry in service (R106). `begun` is set for the one in hand; `waits` lists the ports whose echo it needs. -/
structure Remap where
  stream : Nat
  entry  : Word
  dsn    : Nat
  since  : Time
  begun  : Bool
  waits  : List EchoWait
  deriving DecidableEq, Repr

/-- One fronthaul port (R88 to R114). `sends` holds the send times of the last 32 superframes, `rtts` the last 64 round trips
in 1/16 ns, `echo` the RX_MAP echo (FRAME_NO 9 and 11), `headId` HEAD_ID as read, `todo` the mailbox commands of MAP still
to send (OP, address, value), `expected` the HEAD_TIME that the next superframe must carry. `hdrRun`, `hdrSeen` and `hdrBad` count sync
headers (R88); `counts` holds the GROUP_COUNT of each FRAME_NO of the superframe that is arriving, `derive` the HEAD_TIME and the known
groups of a superframe that lost one control block (R96); `headTx` and `losOther` are TX_ACTIVE and LOS_OTHER (R91); `mbxIn` holds the
words of the message that is arriving; `headRegs` the head registers as written or adopted (R107); `txGroups` the groups sent in this
superframe; `retryAt` is the time from which a port whose clamp wait ran out tries again (R472). -/
structure FhPort where
  state      : FhState := .down
  since      : Time := 0
  signal     : Bool := false
  blockLock  : Bool := false
  frameLock  : Bool := false
  goodRun    : Nat := 0
  badRun     : Nat := 0
  normal     : Bool := false
  cause      : Nat := 0
  headStatus : Word := 0
  headTimeLo : Word := 0
  headTimeHi : Nat := 0
  echoSf     : Word := 0
  turnaround : Nat := 0
  echoLo     : Word := 0
  echoHi     : Word := 0
  rtts       : List Int := []
  rtt        : Nat := 0
  unstable   : Nat := 0
  rxLag      : Nat := 0
  expected   : Option Nat := none
  samplesOk  : Bool := false
  timeMode   : TimeMode := .none
  adopted    : Bool := false
  offset     : Int := 0
  fraction   : Nat := 0
  caps       : Option Word := none
  headId     : Option Word := none
  todo       : List (Nat × Nat × Word) := []
  mapTries   : Nat := 0
  mbx        : Option MbxCmd := none
  mbxSeq     : Nat := 0
  mbxOut     : List Word := []
  frameNo    : Nat := 0
  superframe : Word := 0
  sends      : List (Nat × Time) := []
  txTime     : Nat := 0
  epochSent  : Option Nat := none
  grantSent  : Bool := false
  rxEn       : BitVec 8 := 0
  txEn       : BitVec 2 := 0
  fromDown   : Bool := true
  retryAt    : Time := 0
  hdrRun     : Nat := 0
  hdrSeen    : Nat := 0
  hdrBad     : Nat := 0
  counts     : List (Nat × Nat) := []
  derive     : Option (Nat × Nat) := none
  headTx     : Bool := false
  losOther   : Bool := false
  mbxIn      : List Word := []
  headRegs   : List (Nat × Word) := []
  txGroups   : Nat := 0
  deriving DecidableEq, Repr

/-! ### Channeliser and detector (05) -/

/-- What a channeliser unit does (R140, R159, R160). A claimed unit waits for its start under a new generation; a leaving one serves its
stream until the FFT-frame boundary at which the unit that takes its role over is live, and is free from then on. -/
inductive UnitUse where
  | free
  | claimed (stream gen : Nat)
  | starting (stream gen : Nat)
  | live (stream gen : Nat)
  | retiring (stream gen : Nat) (since : Time)
  | failed
  | jig
  | leaving (stream gen : Nat) (fin : Time)
  deriving DecidableEq, Repr

/-- A generation change of a head (R140, R141): its switch point S once units have been claimed, and the look-back span H in
input samples. -/
structure GenChange where
  head  : Nat
  gen   : Nat
  sAt   : Option Time
  look  : Nat
  begun : Bool
  asked : Time
  deriving DecidableEq, Repr

/-- An open merge window (R154): the best detection so far, how many others merged and when the first arrived. -/
structure MergeWin where
  best     : Detection
  gen      : Nat
  merged   : Nat
  family   : Bool
  redetect : Bool
  since    : Time
  deriving DecidableEq, Repr

/-- A masked identity: the record that made it, and when its METRIC was last seen within 3 dB of the threshold or above (R155). -/
structure Mask where
  det  : Detection
  seq  : Nat
  last : Time
  deriving DecidableEq, Repr

/-- A detection record (R151). -/
structure DetRecord where
  det      : Detection
  mode     : Nat
  gen      : Nat
  redetect : Bool
  family   : Bool
  merged   : Nat
  seq      : Nat
  deriving DecidableEq, Repr

/-- The channeliser bank (R140 to R144). `changes` are in the order in which they were asked for; `valid` names the pool
streams that are valid under R105, `tails` the time from which the bins of a stream are valid again (R144). -/
structure Chn where
  units   : List (Nat × UnitUse) := []
  changes : List GenChange := []
  valid   : List Nat := []
  tails   : List (Nat × Time) := []
  deriving DecidableEq, Repr

/-- The detector fabric (R147 to R160). `floors` holds the noise floor of (stream × 128 + bin), a power in 1/65,536, and the time its
count began; `spareFor` the slice whose streams slice 32 serves. -/
structure Det where
  windows  : List MergeWin := []
  masks    : List Mask := []
  fifo     : List DetRecord := []
  seq      : Nat := 0
  floors   : List (Nat × (Nat × Time)) := []
  failed   : List Nat := []
  spareFor : Option Nat := none
  deriving DecidableEq, Repr

/-! ### Lanes (06) -/

/-- The state of a lane (R162), in the order of its codes. -/
inductive LaneState where
  | free | lookback | preamble | header | payload | waitCancel | rerun | exporting | test
  deriving DecidableEq, Repr

/-- One lane (R163): what it latched from its record, its quality, its group, its cancellation context, its sync position and
its frame's expected or actual end. `rerunDone` says that its re-run has ended and waits for the group's decoding (R179). -/
structure Lane where
  state   : LaneState := .free
  record  : Option DetRecord := none
  quality : Int := 0
  group   : Nat := 0
  context : Option Nat := none
  sync    : Option Time := none
  endTime : Option Time := none
  rerun   : Bool := false
  rerunDone : Bool := false
  deriving DecidableEq, Repr

/-- One member of a frame-end event (R182): PORT, GEN, END_TIME and LEVEL. -/
structure EndMember where
  port    : Nat
  gen     : Nat
  endTime : Time
  level   : Int
  deriving DecidableEq, Repr

/-- A frame-end event (R182). -/
structure FrameEvent where
  group   : Nat
  mode    : Nat
  fcsOk   : Bool
  rerun   : Bool
  length  : Nat
  members : List EndMember
  deriving DecidableEq, Repr

/-- A lane group (R169). `ended` lists the members whose last bit has been decoded, with what the frame-end event says of each; `ports`
the members' heads, expected end times and qualities as they stood at the header check, and `start` the frame's start at the lead;
`late` says that the release deadline of its candidate has passed (R180). -/
structure Group where
  members   : List Nat := []
  passed    : Bool := false
  summary   : Option Summary := none
  lookup    : Option LookupFields := none
  version   : Bool := true
  ended     : List (Nat × EndMember) := []
  ports     : List (Nat × Time × Int) := []
  start     : Time := 0
  rerun     : Bool := false
  fcsOk     : Bool := false
  reported  : Bool := false
  late      : Bool := false
  deriving DecidableEq, Repr

/-- The outcome of a stronger lane in a context (R178). -/
inductive Stronger where
  | decoding | good | subtracted | bad
  deriving DecidableEq, Repr

/-- A cancellation context (R174 to R178): the weak lane, its stronger lanes in order of their records, the overlap point, and the moment
at which its lane stopped writing to the spill, at the end of its frame. -/
structure Context where
  owner    : Nat
  stronger : List (Nat × Stronger)
  overlap  : Time
  stopped  : Option Time := none
  deriving DecidableEq, Repr

/-- The lane array. `waiting` are the lanes due to re-run, in order (R179). -/
structure Lanes where
  lanes    : List (Nat × Lane) := []
  groups   : List (Nat × Group) := []
  contexts : List (Nat × Context) := []
  waiting  : List Nat := []
  deriving DecidableEq, Repr

/-! ### Transmission, bookings and regulatory accounts (07) -/

/-- What a booking is for (R189, R207): the acknowledgement of a lane group, a beacon template, one downlink item, a flood
frame by its place in the flood queue, a campaign's multicast frame with its place there, a repair frame to a member, a piece frame,
a best-effort packet, or the carrier of a calibration sweep. -/
inductive TxUse where
  | ack (group : Nat)
  | beacon (b : Nat)
  | downlink (dsn : Nat)
  | flood (id : Nat)
  | campaign (c id : Nat)
  | repair (c index : Nat)
  | piece (piece part : Nat)
  | transit (id : Nat)
  | sweep (head : Nat)
  deriving DecidableEq, Repr

/-- A booking (R189, R194, R196, R206). `gain` in 0.25 dB is 0 to -160; `share` its linear share in 1/65,536; `airtime` in
microseconds; `cell` the marquetry cell it belongs to; `ready` says that its frame is protected (R198, R255). -/
structure Booking where
  id      : Nat
  use     : TxUse
  stream  : Nat
  start   : Time
  airtime : Nat
  leave   : Time
  channel : Nat
  profile : Nat
  gain    : Int
  share   : Nat
  cell    : Option Nat
  ready   : Bool
  extra   : Nat := 0
  deriving DecidableEq, Repr

/-- A set of transmit corrections (R225). -/
structure TxSet where
  gain    : Int := 0
  iqGain  : Int := 0
  iqPhase : Int := 0
  lo      : Int := 0
  dly     : Int := 0
  deriving DecidableEq, Repr

/-- A modulator at work (R187, R195): the booking it sends, and the transmit generation in force at its first sample, whose corrections it keeps;
until that sample leaves they are those in force now. -/
structure Running where
  booking : Booking
  txGen   : Nat
  corr    : TxSet := {}
  deriving DecidableEq, Repr

/-- A schedule notice (R267): ACTION 1 WITHDRAW, 2 REINSTATE, 3 RESYNC, for a node and a cell. `begun` once a frame that
carries it has begun sending. -/
structure Notice where
  node   : Nat
  action : Nat
  cell   : Nat
  begun  : Bool
  deriving DecidableEq, Repr

/-- The acknowledgement template of a lane group (R198, R252): its booking, the node, the release deadline, whether acceptance has armed it
and whether its release has reached the synthesiser in time; the sequence number, the notices that it carries, and once it is protected the
octets written into it, without FCS. -/
structure AckTmpl where
  booking  : Nat
  node     : Eui
  deadline : Time
  correction : Int
  armed    : Bool
  released : Bool := false
  sequence : Nat := 0
  notices  : List Notice := []
  octets   : List Byte := []
  deriving DecidableEq, Repr

/-- A beacon template (R200, R258): when it was last rewritten, the ASN in it, the fields of its Vendor Specific IEs, and its octets, without
FCS. -/
structure BeaconTmpl where
  written : Time
  asn     : Nat
  more    : List (List Byte)
  octets  : List Byte
  deriving DecidableEq, Repr

/-- The transmit synthesiser with the accounts that the slot scheduler keeps (R186 to R211). `accounts` holds, for
(kind × 2^16 + channel or sub-band) × 64 + head with kind 0 dwell and 1 duty, the charged buckets and their airtime in µs. -/
structure Txm where
  bookings : List Booking := []
  nextId   : Nat := 0
  running  : List (Nat × Running) := []
  mutes    : List (Nat × Time) := []
  acks     : List (Nat × AckTmpl) := []
  beacons  : List (Nat × BeaconTmpl) := []
  accounts : List (Nat × List (Nat × Nat)) := []
  deriving DecidableEq, Repr

/-! ### Calibration (08) -/

/-- A set of receive corrections (R215, R220), in the units of R215; `aphase` holds APHASE[1] to APHASE[15] where nonzero. -/
structure RxSet where
  gain    : Int := 0
  dcI     : Int := 0
  dcQ     : Int := 0
  iqGain  : Int := 0
  iqPhase : Int := 0
  lo      : Int := 0
  sco     : Int := 0
  dly     : Int := 0
  aphase  : List (Nat × Int) := []
  deriving DecidableEq, Repr

/-- A logged transmission (R226): channel, air start, gain and TX_GEN; `ref` is how long after its start the first symbol after its preamble
begins. -/
structure TxLogged where
  channel : Nat
  start   : Time
  gain    : Int
  txGen   : Nat
  ref     : Time
  deriving DecidableEq, Repr

/-- The batches of one head (R215): (node, value) pairs for LO, for APHASE by path, for TX_LO and for TX_GAIN. -/
structure Batches where
  lo     : List (Nat × Int) := []
  aphase : List (Nat × Nat × Int) := []
  txLo   : List Int := []
  txGain : List Int := []
  deriving DecidableEq, Repr

/-- The calibration of one head or analogue port (R215 to R234). `rx` and `tx` are in force, `cand` and `txCand` the candidates,
`kept` the sets of the last three receive generations before it with their aligned marks, newest first, `frozen` the pending set once the channeliser has begun, `txWas` the transmit set of the generation before,
`base` the fronthaul part of RX_DLY and TX_DLY; `alignedDly` the last aligned RX_DLY; `agree` how many accepted solutions in a
row agree with the one that moved by ALIGN_TOL or more; `alignNext` that the generation to come is opened by an entry into UP, and
`awaitSol` that the one in force was and still waits for its first solution (R224); `sweepAt` when the next sweep is due; `ownHeard` that a
transmission of its own has been heard by another head since it came to transmit (R234). -/
structure HeadCal where
  rxGen     : Nat := 0
  txGen     : Nat := 0
  rx        : RxSet := {}
  tx        : TxSet := {}
  cand      : RxSet := {}
  txCand    : TxSet := {}
  txWas     : TxSet := {}
  kept      : List (Nat × RxSet × Bool) := []
  pending   : Bool := false
  frozen    : Option RxSet := none
  aligned   : Bool := false
  alignNext : Bool := false
  awaitSol  : Bool := false
  alignedDly : Option Int := none
  agree     : Nat := 0
  baseRx    : Int := 0
  baseTx    : Int := 0
  entered   : Bool := false
  lastRx    : Option Time := none
  lastTx    : Option Time := none
  inherited : Bool := false
  batches   : Batches := {}
  slopes    : List (Time × Int) := []
  txLog     : List TxLogged := []
  sweepAt   : Option Time := none
  sweeping  : Bool := false
  ownHeard  : Bool := false
  recordAt  : Option Time := none
  deriving DecidableEq, Repr

/-- The phase that a path of a head showed in a snippet of a lane group, with the first symbol's time and the frame's source: APHASE compares two
paths of one group (R215). -/
structure PathPhase where
  head  : Nat
  group : Nat
  path  : Nat
  time  : Time
  node  : Nat
  phase : Int
  deriving DecidableEq, Repr

/-- The calibration engine. `restored` says that R232's judgement of the persistent records has been made; `carriers` holds, for
each node, FREQ_OBS less the head's LO by head (R216); `levels` the last LEVEL_OBS of head j on a loopback from head i, under i × 64 + j
(R225); `pairs` the sum and number of the d(i, j) observed since the solution before, under i × 64 + j, and `solvedAt` when that was (R219);
`phases` the path phases of the latest lane groups. -/
structure Cal where
  heads    : List (Nat × HeadCal) := []
  restored : Bool := false
  carriers : List (Nat × List (Nat × Int)) := []
  levels   : List (Nat × Int) := []
  pairs    : List (Nat × Int × Nat) := []
  solvedAt : Option Time := none
  phases   : List PathPhase := []
  deriving DecidableEq, Repr

/-! ### Timekeeper and slot schedule (09) -/

/-- One of the three disciplining sources (R237): how many measurements in a row lay within ±100 ns, its last offset in
1/16 ns, and the offset from which the ±100 ns are taken: 0, or before the one step of a cold start the first of the run. -/
structure Source where
  good   : Nat := 0
  usable : Bool := false
  offset : Int := 0
  base   : Int := 0
  deriving DecidableEq, Repr

/-- The timekeeper (R236 to R241). `source` is TIME_STATUS.SOURCE. `rates` are the (time, TIME_RATE) changes of the last 64 s,
newest first; `nbrOffsets` the offsets of the last 8 ALIGN beacons; `ptpSync` a two-step Sync that waits for its Follow_Up
(sequence, arrival); `ptpPair` the transmit and arrival time of the last complete Sync; `base` the rate that slewing departs
from; `outHigh` the last rising edge of PPS_OUT while it is high. -/
structure Timer where
  source     : Nat := 0
  slewing    : Bool := false
  offset     : Int := 0
  everLocked : Bool := false
  stepped    : Bool := false
  nbr        : Source := {}
  pps        : Source := {}
  ptp        : Source := {}
  nbrOffsets : List Int := []
  ppsEdge    : Time := 0
  ppsBad     : Nat := 0
  ptpSync    : Option (Nat × Int) := none
  ptpPair    : Option (Int × Int) := none
  ptpDelay   : Int := 0
  ptpHeard   : Bool := false
  masters    : List (Nat × List Nat) := []
  rates      : List (Time × Int) := []
  base       : Int := 0
  outHigh    : Option Time := none
  deriving DecidableEq, Repr

/-- A neighbouring border router (R259 to R262); `last` is the ASN of its beacon slot judged last; `reclaimed` is what its cells take at the next boundary of their slotframe. -/
structure Nbr where
  missed    : Nat := 0
  last      : Option Nat := none
  silent    : Bool := false
  since     : Time := 0
  reclaimed : Bool := false
  deriving DecidableEq, Repr

/-- The slot scheduler (R242 to R268). `startAsn` is the ASN at which the schedule started, or on a standby the one that the active has
mirrored (R243). `slot` is the slot whose boundary was last taken; `changes` are schedule changes that
wait for their effective ASN; `released` the
time of the release; `defers` how often each waiting item has been deferred (R210). -/
structure Sch where
  started  : Bool := false
  startAsn : Option Nat := none
  slot     : Nat := 0
  epoch    : Nat := 0
  lastSlew : Nat := 0
  released : Time := 0
  changes  : List SchedChange := []
  nbrs     : List (Nat × Nbr) := []
  notices  : List Notice := []
  resync   : List Nat := []
  defers   : List (Nat × Nat) := []
  deriving DecidableEq, Repr

/-! ### Key vault (10) -/

/-- The verdict codes of R281. -/
inductive Verdict where
  | okNew | okEqual | old | exhausted | micFail | stale | noKey | blobBad | level | kim | unwrapOvf
  deriving DecidableEq, Repr

/-- What has become of a key of the vault (R288); `waiting`: stale and used, with its parent revoked, until a key-load item comes. -/
inductive KeyStatus where
  | live | revoked | retired | waiting
  deriving DecidableEq, Repr

/-- A key of the persistent classes in the vault (R271, R275): its plaintext, the NETWORK_KEK it came under and that parent's
generation at the moment it was filled. `gen` is raised by a REVOKE beyond the plaintext's. -/
structure VKey where
  plain     : KeyPlain
  gen       : Nat
  status    : KeyStatus
  parent    : Nat
  parentGen : Nat
  deriving DecidableEq, Repr

/-- A NODE slot of the key cache (R275), most recently used first in the list. -/
structure CacheSlot where
  node      : Eui
  kek       : Nat
  gen       : Nat
  parentGen : Nat
  key       : BitVec 256
  locks     : Nat
  deriving DecidableEq, Repr

/-- The key that a frame's context is bound to (R276). -/
inductive BoundKey where
  | node (eui : Eui)
  | group (id : Nat)
  deriving DecidableEq, Repr

/-- A crypto-lane context of an uplink frame (R276 to R281): its CCM* lane, the look-up fields, the bound key, the verdict
found so far and whether an unwrap is queued for it. `cached` says that the bound slot is in the cache, `blocks` counts the payload
blocks that wait and `got` all that have come, `marker` holds the FCS and MIC outcome of a frame whose end marker waits for its key, and the
payload blocks sent before it (R37), and `silent` says that its
drop is counted elsewhere (R352). -/
structure KeyCtx where
  lane    : Nat
  fields  : LookupFields
  bound   : Option BoundKey := none
  key     : BitVec 256 := 0
  cached  : Bool := false
  failed  : Option Verdict := none
  waiting : Bool := false
  blocks  : Nat := 0
  got     : Nat := 0
  marker  : Option (Bool × SealedFrame × Nat) := none
  silent  : Bool := false
  deriving DecidableEq, Repr

/-- A request to the unwrap engine, in the order of priority of R277. -/
inductive UnwrapReq where
  | miss (group : Nat)
  | protect (booking : Nat)
  | load (dsn : Nat)
  | renew (cls id : Nat)
  | rewrap (index : Nat)
  deriving DecidableEq, Repr

/-- A record of a key journal (R292): KIND 1 KEY, 2 REVOKED, 3 RETIRED, 4 COUNTER_CEILING. -/
structure KeyRec where
  seq      : Nat
  cls      : Nat
  kind     : Nat
  id       : Nat
  gen      : Nat
  value    : Nat
  parent   : Nat
  plain    : Option KeyPlain
  complete : Bool
  deriving DecidableEq, Repr

/-- One copy of the key journal in flash (R292): the half in use, its records oldest first, and whether its flash device is
lost to it. -/
structure KeyJournal where
  half    : Bool := false
  seq     : Nat := 1
  records : List KeyRec := []
  lost    : Bool := false
  deriving DecidableEq, Repr

/-- Why a journal record is written: an item, the partner's KEY record by its MSEQ, a KEY_BLOB, a key of the pairing, or a
counter ceiling. -/
inductive KeyCause where
  | item (dsn : Nat)
  | partner (mseq : Nat)
  | blob
  | pairing
  | ceiling
  deriving DecidableEq, Repr

/-- A journal record on its way to A and then B (R293). -/
structure KeyJob where
  cause  : KeyCause
  record : KeyRec
  copyB  : Bool
  deriving DecidableEq, Repr

/-- The walk of R289. -/
structure Rewrap where
  fromId : Nat
  toId   : Nat
  index  : Nat
  dsn    : Nat
  deriving DecidableEq, Repr

/-- The key vault (R269 to R297). `groupTx` holds (KEY_ID, next counter, recorded ceiling); `nodeCeiling` the device-wide
ceiling of R283; `pairState` KEY_PAIR_STATUS.STATE; `hello` the partner's hello once its HMAC is good; `draining` the CCM* (0 to 7) or
GCM (8 to 11) lane that the jig drains; `items` the key-load items handed to the vault, by DSN; `txMirrored` the TX_FC ceiling
mirrored for each INDEX. -/
structure Vault where
  root      : Option (BitVec 256) := none
  devKek    : Option (BitVec 256) := none
  zeroised  : Bool := false
  keys      : List (Nat × VKey) := []
  cache     : List CacheSlot := []
  ctxs      : List (Nat × KeyCtx) := []
  queue     : List UnwrapReq := []
  jobs      : List KeyJob := []
  groupTx   : List (Nat × Nat × Nat) := []
  nodeCeiling : Nat := 0
  ceilingDue : Bool := false
  rewrap    : Option Rewrap := none
  pairState : Nat := 0
  received  : Bool := false
  conflict  : Bool := false
  pairKey   : Option (BitVec 256) := none
  ownNonce  : BitVec 256 := 0
  ownPriv   : Nat := 0
  hello     : Option Hello := none
  draining  : Option Nat := none
  items     : List (Nat × KeyItem) := []
  txMirrored : List (Nat × Nat) := []
  deriving DecidableEq, Repr

/-! ### What flash keeps (R67, R292, R232, R329, R387) -/

/-- A persistent calibration record (R232): the port, its HEAD_ID, the UTC second of writing, and the corrections. -/
structure CalRecord where
  head   : Nat
  headId : Word
  utc    : Nat
  rx     : RxSet
  tx     : TxSet
  deriving DecidableEq, Repr

/-- The flash contents that the device itself writes and reads back: both key journals; in the persistent store the epoch ceiling, the JSN
ceiling and the calibration records; `statusA` and `statusB` the CONFIRM and ATTEMPTS that it has programmed for the image with that header
(R68), whose bits stay 0 until the sector is erased; and `reclaimed` the format below which persistent areas have been reclaimed (R78). -/
structure Flash where
  jrnA      : KeyJournal := {}
  jrnB      : KeyJournal := {}
  epochCeiling : Nat := 0
  jsnCeiling : Option Nat := none
  calRecords : List CalRecord := []
  lostA     : Bool := false
  lostB     : Bool := false
  statusA   : Option (ImageHdr × Word × Word) := none
  statusB   : Option (ImageHdr × Word × Word) := none
  reclaimed : Nat := 0
  deriving DecidableEq, Repr

/-! ### Commit sequencer, journal, downlink and Ferry (11) -/

/-- The states of a candidate (R299); `held` is a standby's candidate that has passed CHECK (R311). -/
inductive CandState where
  | open | check | stage | mirror | held
  deriving DecidableEq, Repr

/-- A candidate (R298, R299): its deadline and its acknowledgement's leave time, the frame-end event, the vault's verdict with
the LAST_DIGEST returned with it, and the frame. `order` counts the candidates as they reached CHECK. -/
structure Cand where
  state    : CandState := .open
  ackReq   : Bool := false
  refused  : Bool := false
  deadline : Option Time := none
  leave    : Option Time := none
  endEvent : Option Time := none
  verdict  : Option Verdict := none
  counter  : Nat := 0
  lastDigest : Word := 0
  frame    : Option FrameInfo := none
  endTime  : Time := 0
  order    : Nat := 0
  jsn      : Nat := 0
  rerun    : Bool := false
  mode     : Nat := 0
  deriving DecidableEq, Repr

/-- The states of a journal entry (R299, R308). -/
inductive EntryState where
  | staged | owed | accepted | void | outcome
  deriving DecidableEq, Repr

/-- A journal entry (R312): its header, the lane group and leave time of its acknowledgement, the deadline, whether it is the
partner's entry that this chip staged and when its own decode of the frame began, whether it still waits for the partner's commit of its VOID or OUTCOME (R310), and the
frame. -/
structure Entry where
  hdr      : EntryHdr
  state    : EntryState
  group    : Nat := 0
  leave    : Time := 0
  deadline : Time := 0
  mirrored : Bool := false
  start    : Time := 0
  waits    : Bool := false
  frame    : Option FrameInfo := none
  deriving DecidableEq, Repr

/-- An entry of the deduplication cache (R304). -/
structure Dedup where
  node    : Eui
  counter : Nat
  digest  : Word
  jsn     : Nat
  endTime : Time
  since   : Time
  deriving DecidableEq, Repr

/-- The commit sequencer and the journal (R298 to R314). `entries` holds the entries above JRN_ACK_JSN in JSN order; `sentTo`
the highest JSN sent to the head-end; `ackAt` when JRN_ACK_JSN last advanced; `ackMirrored` when it was last mirrored;
`books` the owed acknowledgements that the active mirrored (R378), by its group number. -/
structure Jrn where
  cands    : List (Nat × Cand) := []
  order    : Nat := 0
  entries  : List Entry := []
  dedup    : List Dedup := []
  nextJsn  : Nat := 1
  ackJsn   : Nat := 0
  tokenRel : Nat := 0
  sentTo   : Nat := 0
  ackAt    : Time := 0
  ackMirrored : Time := 0
  books    : List AckBook := []
  payloads : List (Nat × Nat) := []
  deriving DecidableEq, Repr

/-- How far an accepted downlink item or command has come (R316 to R319): committing its record (with the MSEQ whose COMMIT it
awaits), waiting to be carried out by its own command, waiting for a transmission, booked, begun with the expected air time of
the acknowledgement, or ended. -/
inductive DlState where
  | committing (mseq : Nat)
  | carrying
  | waiting
  | booked (booking : Nat)
  | begun (expect : Time)
  | ended
  deriving DecidableEq, Repr

/-- A record of the downlink ring (R315): the item, when it was accepted, its state, the last outbound counter used, whether
a missing key or route has held it back, the OUTCOME and CAUSE that a standby has found itself (R319), and the
ports that the heard-port flood has tried (R364). -/
structure DlRec where
  item     : DlItem
  since    : Time
  state    : DlState
  counter  : Nat := 0
  noKey    : Bool := false
  noRoute  : Bool := false
  done     : Option (Nat × Nat) := none
  tried    : List Nat := []
  deriving DecidableEq, Repr

/-- The downlink side (R315 to R319): JRN_NEXT_DSN, whether it waits to adopt one (R329), the ring and the reorder buffer. -/
structure Dl where
  nextDsn : Nat := 0
  sync    : Bool := true
  recs    : List DlRec := []
  reorder : List DlItem := []
  deriving DecidableEq, Repr

/-- One receive direction of a Ferry session (R322 to R324), with its key (R323). -/
structure RxWin where
  session : Nat
  key     : BitVec 256
  high    : Nat
  seen    : List Nat
  deriving DecidableEq, Repr

/-- The Ferry unit (R320 to R329): `state` is FRY_STATUS.SESSION_STATE; `heard` the last valid packet of each endpoint;
`session` 0 is none; `keyGen` the GENERATION of the FERRY key that the session comes from; `openDue` that the head-end has asked for a
session; `adverts` how many unsolicited neighbour advertisements are still
due and when the next may leave. -/
structure Fry where
  state    : Nat := 0
  session  : Nat := 0
  lastUsed : Nat := 0
  nonceD   : BitVec 128 := 0
  nonceH   : BitVec 128 := 0
  txNo     : Nat := 0
  txCeiling : Nat := 0
  keyGen   : Nat := 0
  txKey    : BitVec 256 := 0
  rx       : RxWin := ⟨0, 0, 0, []⟩
  old      : Option (RxWin × Time) := none
  opened   : Time := 0
  endpoint : Nat := 0
  port     : Nat := 0
  heard    : List (Nat × Time) := []
  lastHeard : Time := 0
  peerLost : Bool := false
  adverts  : Nat := 0
  advertAt : Time := 0
  advertised : Bool := false
  openDue  : Bool := false
  hbAt     : Time := 0
  links    : BitVec 8 := 0
  deriving DecidableEq, Repr

/-! ### Nodes, learning, forwarding and flooding (12) -/

/-- One place of a heard list (R332). QUALITY in 0.25 dB, LAST_HEARD in whole seconds. -/
structure Heard where
  port    : Nat
  quality : Int
  last    : Nat
  deriving DecidableEq, Repr

/-- The calibration field of a node entry (R229), with whether the last frame heard was acknowledged, which R230 asks for. -/
structure CalField where
  carrier  : Int := 0
  fresh    : Nat := 0
  drift    : Int := 0
  sigma    : Nat := 0xFFFF
  timing   : Int := 0
  pathLoss : Nat := 0
  lastAsn  : Nat := 0
  acked    : Bool := false
  deriving DecidableEq, Repr

/-- The security field of a node entry (R274), without BLOB_INDEX, which equals the entry's INDEX. -/
structure SecField where
  fcHwm     : Nat := 0
  txFc      : Nat := 0
  blobValid : Bool := false
  kekId     : Nat := 0
  keyGen    : Nat := 0
  deriving DecidableEq, Repr

/-- Where a node entry lies (R335, R339): a slot of the node table, a bucket of one half of the rebuild table, or the overflow store. -/
inductive NodePlace where
  | table (slot : Nat)
  | rebuild (half bucket : Nat)
  | overflow
  deriving DecidableEq, Repr

/-- The entry lies in the node table. -/
def NodePlace.inTable : NodePlace → Bool
  | .table _ => true
  | .rebuild _ _ => false
  | .overflow => false

/-- A VALID node entry (R332); its INDEX is the key under which State holds it, and CELL_REFS is counted over the cells. `stale`
says that the insertion into the node table failed (R337). -/
structure Node where
  eui        : Eui
  pan        : BitVec 16 := 0
  static     : Bool := false
  dormant    : Bool := false
  unhomed    : Bool := true
  role       : Nat := 0
  homePort   : Nat := 0
  ageStamp   : Nat := 0
  challenger : Option Nat := none
  challengeStart : Nat := 0
  parent     : Option Nat := none
  txPower    : Int := 0
  lastDigest : Word := 0
  heard      : List Heard := []
  cal        : CalField := {}
  sec        : SecField := {}
  firmware   : BitVec 256 := 0
  place      : NodePlace := .overflow
  failed     : Bool := false
  deriving DecidableEq, Repr

/-- The blob table by INDEX, a blob of 64 octets each (R272, R274). -/
abbrev BlobTable := List (Nat × BitVec 512)

/-- A learn window (R352, R353): the ports heard with their qualities, the reserved port, and whether the node is a new
sender. -/
structure LearnWin where
  node    : Eui
  opened  : Time
  ports   : List (Nat × Int)
  reserve : Option Nat
  isNew   : Bool
  deriving DecidableEq, Repr

/-- A new sender on its way into the node table (R350, R352, R353, R356): the lane group admitted, the decided home port
(none: UNHOMED), whether its window has closed and its frame is accepted, the learn events held, the counter and digest that
wait for the entry, and when Emaidor was asked. -/
structure NewSender where
  node     : Eui
  group    : Nat
  reserve  : Option Nat
  home     : Option Nat
  decided  : Bool
  accepted : Bool
  events   : List (Nat × Int)
  pan      : BitVec 16
  counter  : Nat
  digest   : Word
  index    : Option Nat
  since    : Time
  deriving DecidableEq, Repr

/-- A best-effort downlink packet (R348) and whether it is booked. -/
structure Transit where
  id     : Nat
  booked : Bool := false
  flood  : Bool
  dest   : Eui
  pan    : BitVec 16
  length : Nat
  since  : Time
  deriving DecidableEq, Repr

/-- A flood on its way out (R361, R363): its origin, its item's DSN or none, the flood group that may send next and the ports
that have begun. `camp` names the campaign whose fragments it carries; `best` marks a best-effort flood (R348); `sequence` is that of its mesh
header (R129), `frags` the first of a campaign's fragments in it and their number. -/
structure Flood where
  id         : Nat
  dsn        : Option Nat
  pan        : BitVec 16
  originator : Eui
  floodId    : Nat
  ttl        : Nat
  length     : Nat
  group      : Nat
  begun      : List Nat
  camp       : Option Nat := none
  best       : Bool := false
  sequence   : Nat := 0
  frags      : Nat × Nat := (0, 0)
  deriving DecidableEq, Repr

/-- The packet plane (R332 to R366). `nodes` holds the VALID entries by INDEX, `fixed` the INDEX values that the image fixed;
`buckets` the learn budgets in tokens × 1 s of device time, with the time they were brought up to; `rehash` the rehash under
way; `seeds` FWD_SEED0 and FWD_SEED1; `rbSeeds` the seeds that a rehash replaced, by which its rebuild table is found; `meshSeq` the last SEQUENCE of an own mesh header (R129); `toForward` the accepted frames, by source and
digest, whose packet is still to be forwarded (R130, R342, R362). -/
structure Fwd where
  nodes    : List (Nat × Node) := []
  fixed    : List Nat := []
  blobs    : BlobTable := []
  windows  : List LearnWin := []
  newcomers : List NewSender := []
  buckets  : List (Nat × (Nat × Time)) := []
  seeds    : Word × Word := (0, 0)
  rbSeeds  : Option (Word × Word) := none
  rehash   : Bool := false
  seen     : List (Eui × Nat × Time) := []
  transit  : List Transit := []
  floods   : List Flood := []
  nextFlood : Nat := 0
  floodId  : Nat := 0
  floodCeiling : Nat := 0
  meshSeq  : Nat := 0
  toForward : List (Eui × Word) := []
  deriving DecidableEq, Repr

/-- What a warm start with RETAINED found in DRAM before the records of its first image were applied (R77). -/
structure Before where
  mem    : List Host.Cell
  tables : List (Nat × Nat)
  fwd    : Fwd
  deriving DecidableEq, Repr

/-! ### Dovetail (13) -/

/-- PAIR_STATUS.STATE in the order of its codes (R370). -/
inductive PairState where
  | unpaired | solo | active | standby | resync | detached | taking | excluded
  deriving DecidableEq, Repr

/-- What a COMMIT is awaited for (R378). -/
inductive Await where
  | entry (jsn : Nat)
  | void (jsn : Nat)
  | dl (dsn : Nat)
  | key (dsn : Nat)
  | camp (campaign : Nat)
  | activation
  | piece
  | confirm
  | handover
  deriving DecidableEq, Repr

/-- A pending handover (R396): T_h, the new epoch, the command's DSN (none: give-up, or the partner's), and whether its commit
has come. -/
structure Handover where
  th     : Time
  epoch  : Nat
  dsn    : Option Nat
  own    : Bool
  commit : Bool
  deriving DecidableEq, Repr

/-- The Dovetail controller (R367 to R398). `links` are UP bits; `heard` the last good record on each link and `lastGood` on
either; `nextIn` the MSEQ expected next; `waiting` the records above it; `awaits` the COMMITs outstanding by MSEQ; `sensed` is
T_s and `orphan` says that the take under way is one; `released` that RELEASED has been applied; `drained` counts the records
taken in the drain; `giveUp` since when a give-up condition has held; `digest` the own digest of the last period, as R391 computes it, and `differ` the ranges that differed from the active's;
`following` the time of the last take with the ports that are still to be checked; `walk` how far the bulk copy has come, as the
object's class and number (R394). -/
structure Pair where
  state     : PairState := .unpaired
  driving   : Bool := false
  driveAt   : Time := 0
  ownLow    : Bool := false
  partnerLow : Bool := false
  partnerHighAt : Time := 0
  links     : BitVec 2 := 0
  linkSent  : List (Nat × Time) := []
  linkHeard : List (Nat × Time) := []
  lastGood  : Time := 0
  paired    : Bool := false
  partnerLost : Bool := false
  absent    : Bool := false
  orphan    : Bool := false
  orphanTake : Bool := false
  epoch     : Nat := 0
  mseqOut   : Nat := 0
  nextIn    : Nat := 1
  gapSince  : Option Time := none
  waiting   : List (Nat × Instr) := []
  awaits    : List (Nat × Await) := []
  sensed    : Option Time := none
  drained   : Nat := 0
  takeAt    : Time := 0
  handover  : Option Handover := none
  released  : Bool := false
  lastChange : Time := 0
  giveUp    : Option Time := none
  fitness   : Option Fitness := none
  digestAt  : Time := 0
  differ    : List Nat := []
  digest    : List (Nat × BitVec 64) := []
  asked     : List Nat := []
  phase     : Nat := 0
  phasesDone : List Nat := []
  resyncAt  : Time := 0
  slow      : Bool := false
  progress  : Nat := 0
  cutIn     : Bool := false
  following : Option (Time × List Nat) := none
  walk      : Nat × Nat := (0, 0)
  fitnessAt : Time := 0
  deriving DecidableEq, Repr

/-! ### Updates and campaigns (14) -/

/-- UPD_STATUS.STATE (R407, UPD_STATUS). -/
inductive UpdState where
  | none | receiving | complete | verified | failed | activating | activated
  deriving DecidableEq, Repr

/-- An assembly buffer (R403): its piece, the parts present with their data, the tag of part 7 and when the last part came. -/
structure Assembly where
  piece : Nat
  parts : List (Nat × Nat)
  tag   : Nat
  last  : Time
  mesh  : Bool
  deriving DecidableEq, Repr

/-- A completed piece on its way to flash (R408): ciphertext, tag, and which copies are still to be written. -/
structure PieceJob where
  piece  : Nat
  cipher : Nat
  tag    : Nat
  doneA  : Bool
  deriving DecidableEq, Repr

/-- The command that an activation or a reversion serves (R411, R415). -/
structure ActItem where
  dsn    : Nat
  revert : Bool
  deriving DecidableEq, Repr

/-- A piece frame that waits to be sent to a neighbour (R405). -/
structure Served where
  neighbour : Eui
  port      : Nat
  piece     : Nat
  part      : Nat
  deriving DecidableEq, Repr

/-- The own update (R400 to R417). `actState` is UPD_STATUS.ACT_STATE of R412; `heldA` and `heldB` the pieces held in each copy
with their tags, `cipherA` and `cipherB` their ciphertext, `headA` and `headB` the headers and `wordA` and `wordB` the STATE words of the two regions
(R407); `upPorts` the fronthaul ports UP when UPD_ACTIVATE was carried out; `since` when the activation state last
changed; `ackMoved` that JRN_ACK_JSN has advanced since the release; `confirmDsn` the UPD_CONFIRM that waits for the partner; `served`
the pieces that wait to be sent to a neighbour. -/
structure Upd where
  manifest  : Option Manifest := none
  state     : UpdState := .none
  failCode  : Nat := 0
  heldA     : List (Nat × Nat) := []
  heldB     : List (Nat × Nat) := []
  cipherA   : List (Nat × Nat) := []
  cipherB   : List (Nat × Nat) := []
  headA     : Option Manifest := none
  headB     : Option Manifest := none
  wordA     : Word := 0xFFFFFFFF
  wordB     : Word := 0xFFFFFFFF
  buffers   : List Assembly := []
  jobs      : List PieceJob := []
  failsA    : Nat := 0
  failsB    : Nat := 0
  okA       : Bool := false
  okB       : Bool := false
  target    : Bool := false
  actState  : Nat := 0
  act       : Option ActItem := none
  since     : Time := 0
  upPorts   : Nat := 0
  ackMoved  : Bool := false
  confirmDsn : Option Nat := none
  served    : List Served := []
  deriving DecidableEq, Repr

/-- UPD_CAMP_STATUS.STATE. -/
inductive CampState where
  | free | loading | ready | running | paused | ended | failed
  deriving DecidableEq, Repr

/-- A campaign (R418 to R425). `frags` the fragments that have arrived; `base` and `size` its place in the store; `list` the
fragments that the round still has to multicast and `repairs` the (INDEX, fragment) pairs still to repair; `ready` says that the next
frame's checkpoint is committed (R425); `opened` is the day of the window in which the last round began. -/
structure Camp where
  defn    : CampDef
  state   : CampState
  frags   : List Nat
  base    : Nat
  size    : Nat
  round   : Nat
  cursor  : Nat
  opened  : Option Nat
  list    : List Nat
  repairs : List (Nat × Nat)
  ready   : Bool := false
  deriving DecidableEq, Repr

/-- A progress record (R421); `state` 1 MEMBER, 2 COMPLETE, 3 VERIFIED, 4 FAILED, 5 LOST. `joins` the round from which a member
added while RUNNING takes part. -/
structure ProgRec where
  campaign : Nat
  state    : Nat
  repairs  : Nat
  haveUntil : Nat
  gaps     : List (Nat × Nat)
  joins    : Nat
  deriving DecidableEq, Repr

/-! ### Engines, DRAM, DMA and quays (15) -/

/-- A quay item (R444, R446): its 32-bit words, its octets, whether it is poisoned, and whether it is marked dropped. -/
structure QItem where
  words   : List Word
  octets  : Nat
  poison  : Bool
  dropped : Bool := false
  deriving DecidableEq, Repr

/-- A quay (R443 to R449): the complete items, oldest first; `read` the read words already taken from the first one once the
consumer has begun it; `claim` the credits of the claim in hand, which the open item uses; `opened` the item begun and not ended. -/
structure Quay where
  items   : List QItem := []
  read    : Nat := 0
  begun   : Bool := false
  claim   : Nat := 0
  opened  : Option QItem := none
  wm      : Wm := {}
  deriving DecidableEq, Repr

/-- A DMA channel (R450, R451): 0 idle, 1 running, 2 stopped on error; the descriptor in hand, and that a STOP waits for it. -/
structure Dma where
  state   : Nat := 0
  error   : Nat := 0
  desc    : Nat := 0
  stop    : Bool := false
  stallAt : Option Time := none
  deriving DecidableEq, Repr

/-- A DDR5 channel (R436 to R441). -/
structure DdrCh where
  ok       : Bool := false
  cap      : Nat := 0
  trained  : Bool := true
  tries    : Nat := 0
  errors   : List Time := []
  deriving DecidableEq, Repr

/-- An engine (R431, R434): whether it is out of reset, when its watchdog was last restarted and last expired. -/
structure Engine where
  running : Bool := false
  kick    : Time := 0
  fired   : Bool := false
  expiry  : Option Time := none
  deriving DecidableEq, Repr

/-- Engines, memory and quays. `irq` holds the asserted interrupt sources 0 to 24, 96 to 103 and 120, and under 128 + k the comparator of protocol
engine k (R432); the others follow from the rest of State. -/
structure Mem where
  chA     : DdrCh := {}
  chB     : DdrCh := {}
  quays   : List (Nat × Quay) := []
  dma     : List (Nat × Dma) := []
  engines : List (Nat × Engine) := []
  irq     : List Nat := []
  deriving DecidableEq, Repr

/-- What leaves the device, newest first in `State.sent` (the model's own record; see the log). -/
inductive Output where
  /-- A register read answered: the agent, the address and the value (R489). -/
  | readData (agent : Agent) (address : Nat) (value : Word)
  /-- The words an I²C read returned (R478). -/
  | mgtData (words : List Word)
  /-- A downstream fronthaul frame left: the port, its control block and its 63 payload blocks, each with its sync header (R89 to R95). -/
  | fhFrame (port : Nat) (blocks : List (BitVec 2 × BitVec 64))
  /-- The frame of a port in loopback, which its own receiver takes: the port, its LOOP, the blocks and the head time (R114). -/
  | fhLooped (port loop : Nat) (blocks : List (BitVec 2 × BitVec 64)) (headTime : Nat)
  /-- A group's frame-end event to the commit sequencer (R182). -/
  | frameEnd (event : FrameEvent)
  /-- A group's header summary to the slot scheduler (R181). -/
  | headerSummary (group : Nat)
  /-- A group's key-lookup fields to the key vault (R166). -/
  | keyLookup (group : Nat)
  /-- A snippet sent to its quay (R183). -/
  | snippet (lane group : Nat)
  /-- A transmission began on a modulator of a stream (R187, R196). -/
  | txStart (modulator stream : Nat) (use : TxUse) (start : Time)
  /-- The fields of the Vendor Specific IEs that the frame of that transmission carries, or the octets of its template (R129, R200). -/
  | txIes (modulator : Nat) (ies : List (List Byte))
  /-- A modulator stopped before its last sample (R197, R202). -/
  | txCut (modulator stream : Nat)
  /-- A verdict to the commit sequencer (R281). -/
  | verdict (group : Nat) (v : Verdict)
  /-- A key journal record programmed into copy A or B: its 128 octets (R292). -/
  | keyRecord (copyB : Bool) (octets : List Nat)
  /-- A Ferry packet left through an Ethernet port for an endpoint: its octets (R321, R322). -/
  | ferry (endpoint port : Nat) (packet : List Nat)
  /-- DL-ACK with its ACK_DSN (R316, R325). -/
  | dlAck (ackDsn : Nat)
  /-- A UPLINK or OUTCOME message with its JSNs, first to last (R325). -/
  | uplink (outcome : Bool) (first last : Nat)
  /-- A HEARTBEAT: OPEN, SESSION, ROLE, EPOCH, BASE_JSN, NEXT_JSN, ACK_JSN, NEXT_DSN (R325). -/
  | heartbeat (isOpen : Bool) (session role epoch base next ack nextDsn : Nat)
  /-- A MGMT-READ response (R325, R328). -/
  | mgmtRead (reqId : Word) (words : List Word)
  /-- Unsolicited or solicited neighbour advertisement and echo reply (R320, R321). -/
  | neighbourAdvertisement (port : Nat) (override : Bool)
  | echoReply (port : Nat)
  /-- The late flag of R180 to the lane array. -/
  | lateFlag (group : Nat)
  /-- A packet left on an Ethernet port with a VID, for the next hop's MAC address, as R346 to R348 send it on. -/
  | forwarded (port vid mac : Nat) (packet : List Nat)
  /-- A packet went to the Ferry unit (R346). -/
  | localPacket
  /-- A new sender's creation went to Emaidor through the learn quay (R356). -/
  | learnCreate (node : Eui) (index : Nat)
  /-- An Isthmus record left on every link UP: BULK, COMMIT_REQ, MSEQ and EPOCH of its header, and its body (R374, R376, R378). -/
  | record (bulk commitReq : Bool) (mseq epoch : Nat) (body : Body)
  /-- A KEEPALIVE left on a link while the device is not paired (R373). -/
  | keepalive (link : Nat)
  /-- The own token line is driven or released (R367). -/
  | tokenLine (driven : Bool)
  /-- A piece part, or a fragment frame, was handed to the slot scheduler (R405, R420). -/
  | pieceServed (neighbour : Eui) (piece : Nat)
  /-- A beacon was rewritten with a piece request: UPDATE_ID, FIRST and the pieces of WANT (R404). -/
  | pieceRequest (beacon : Nat) (updateId : Word) (first : Nat) (want : List Nat)
  /-- A device-time comparator was reached: source 120, or the local source of a protocol engine (R432). -/
  | comparator (engine : Option Nat)
  deriving DecidableEq, Repr

/-- The machine. -/
structure State where
  /-- Registers that hold a setting, and counters: address to value, over the cards' reset values. -/
  regs    : List (Nat × Word) := []
  /-- Halves of an RWL pair that wait for the other half (R490). -/
  halves  : List (Nat × Word) := []
  /-- The HI halves latched by a read of LO, per agent (R490). -/
  latches : List (Agent × Nat × Word) := []
  /-- The hardware tables that TABLE_LOAD and the schedule changes write: TABLE_ID × 2^32 + index to the entry's octets,
  first octet most significant (R73). -/
  tables  : List (Nat × Nat) := []
  /-- DRAM, the L2 SRAM window and the engines' local memories by physical address (R427); see the log for what an unlisted
  byte reads as. -/
  mem     : List Host.Cell := []
  /-- The BLOCK_CFG_ERR.ERR bits as last evaluated, bit n for block n (R493). -/
  cfgErr  : BitVec 25 := 0
  start   : Start := {}
  pins    : Pins := {}
  clock   : Clock := {}
  hlt     : Hlt := {}
  evr     : Evr := {}
  /-- The fronthaul ports 0 to 31. -/
  fh      : List (Nat × FhPort) := []
  /-- The changes of FH_POOL in service: the one in hand first, then those that wait for it (R106). -/
  pool    : List Remap := []
  chn     : Chn := {}
  det     : Det := {}
  lane    : Lanes := {}
  txm     : Txm := {}
  cal     : Cal := {}
  timer   : Timer := {}
  sch     : Sch := {}
  key     : Vault := {}
  flash   : Flash := {}
  jrn     : Jrn := {}
  dl      : Dl := {}
  fry     : Fry := {}
  fwd     : Fwd := {}
  pair    : Pair := {}
  upd     : Upd := {}
  camps   : List (Nat × Camp) := []
  prog    : List (Nat × ProgRec) := []
  msys    : Mem := {}
  /-- The retained DRAM contents while a second image may still need them (R77). -/
  before  : Option Before := none
  /-- The source FIFOs of the straits of R41 by number, oldest bundle first: the arrivals that wait until their island is ready (R35,
  R38). Bundles beyond the depth of R38 stand at a producer that stalls. A destination's input register holds a bundle only within the
  step that takes it (see the log). -/
  straits : List (Nat × List Instr) := []
  /-- What has left the device, newest first (the model's own field). -/
  sent    : List Output := []
  /-- How many free values have been drawn (the model's own field). -/
  free    : Nat := 0
  /-- The commands that wait, first in, first out. -/
  pending : List Instr := []
  deriving DecidableEq, Repr

/-- Why a step faults. -/
inductive Fault where
  /-- A command names an instance that the spec says does not exist, as port 40 of 32. Raised by every meaning whose operand
  numbers an instance. Safe: the hardware has no such event. -/
  | noSuchInstance
  deriving DecidableEq, Repr

/-- Why a step is refused. -/
inductive Refusal where
  /-- No meaning yet for a row of the table. Raised by Dispatch only. Safe. -/
  | notModelled (mnemonic : String)
  deriving DecidableEq, Repr

/-- The machine before PORST_N first rises (R26, R51): every register at the reset value of its card, PORST_N low, flash and
fuses unprogrammed. -/
def State.reset : State := {}

end Sys2Proof.Machine
end

