-- ==== Sys2Proof/Machine/Ops.lean ====
section
/-! DEFINITION. The named operations over State that every meaning shares: device time, registers, counters, tables, memory,
islands, free values and the event recorder. -/

namespace Sys2Proof.Machine

open Host

/-! ### Device time -/

/-- The event of a command occurs at device time `t`: the count has moved on to it, while it runs and the Slot island is not
frozen (R236, R480). It never runs backward. -/
def State.arrive (s : State) (t : Time) : State :=
  if s.clock.running && !s.hlt.frozen then { s with clock.now := max s.clock.now t } else s

/-- The current second of device time, mod 2^32 (R334). -/
def State.second (s : State) : Nat := s.clock.now / sec 1 % 2 ^ 32

/-! ### Registers (R486, R489) -/

/-- The cards of a block that hold the register at offset `off`, with the instance's place in the set. -/
def cardAt (off : Nat) : List Card → Option Card
  | [] => none
  | c :: r =>
    if c.off ≤ off ∧ (if c.stride = 0 then off = c.off else (off - c.off) % c.stride = 0 ∧ (off - c.off) / c.stride < c.cnt)
    then some c else cardAt off r

/-- The block and offset of a control-space address. -/
def blockOf (a : Nat) : Nat × Nat := ((a - 0x40000000) / 0x100000, (a - 0x40000000) % 0x100000)

/-- The card of the register at address `a`. -/
def cardOf (a : Nat) : Option Card :=
  if a < 0x40000000 ∨ 0x41900000 ≤ a then none else cardAt (blockOf a).2 (cardsOf (blockOf a).1)

/-- What a register holds after reset: its card's reset value, 0 for a counter. -/
def regReset (a : Nat) : Word := match cardOf a with
  | some c => BitVec.ofNat 32 c.reset
  | none => 0

/-- The setting or the count at address `a`. -/
def State.reg (s : State) (a : Nat) : Word := sget regReset s.regs a

/-- Make the register at `a` hold `v`. -/
def State.setReg (s : State) (a : Nat) (v : Word) : State := { s with regs := sset regReset s.regs a v }

/-- Bits `lo + w - 1 : lo` of the register at `a`. -/
def State.fld (s : State) (a lo w : Nat) : Nat := (s.reg a).toNat / 2 ^ lo % 2 ^ w

/-- The same of instance `i` of a set at stride 0x400. -/
def State.fldAt (s : State) (a i lo w : Nat) : Nat := s.fld (a + i * 0x400) lo w

/-- A field of width `w` read as two's complement. -/
def toSigned (w v : Nat) : Int := if v < 2 ^ (w - 1) then v else (v : Int) - 2 ^ w

/-- A signed field of instance `i` of a set. -/
def State.signedAt (s : State) (a i lo w : Nat) : Int := toSigned w (s.fldAt a i lo w)

/-- `r` with bits `lo + w - 1 : lo` replaced by `v`. -/
def putBits (r : Word) (lo w v : Nat) : Word :=
  BitVec.ofNat 32 (r.toNat - r.toNat / 2 ^ lo % 2 ^ w * 2 ^ lo + v % 2 ^ w * 2 ^ lo)

/-- Write a field of instance `i` of a set. -/
def State.setFldAt (s : State) (a i lo w v : Nat) : State :=
  s.setReg (a + i * 0x400) (putBits (s.reg (a + i * 0x400)) lo w v)

/-! ### Counters (R27) -/

/-- The address of instance `i` of a counter. -/
def Counter.addr (c : Counter) (i : Nat) : Nat := blockBase c.block + c.off + i * 0x400

/-- The count of instance `i` of counter `c`. -/
def State.count (s : State) (c : Counter) (i : Nat) : Nat := (s.reg (c.addr i)).toNat

/-- Add `n` to instance `i` of counter `c`, saturating at 0xFFFF_FFFF. -/
def bumpBy (c : Counter) (i n : Nat) (s : State) : State :=
  s.setReg (c.addr i) (BitVec.ofNat 32 (min 0xFFFFFFFF (s.count c i + n)))

/-- Count one in instance `i` of counter `c`. -/
def bump (c : Counter) (i : Nat) (s : State) : State := bumpBy c i 1 s

/-! ### Tables (R73) -/

/-- The octets of entry `i` of table `id` as one number, first octet most significant. -/
def State.entry (s : State) (id i : Nat) : Nat := sget (fun _ => 0) s.tables (id * 2 ^ 32 + i)

/-- Write entry `i` of table `id`. -/
def State.setEntry (s : State) (id i v : Nat) : State :=
  { s with tables := sset (fun _ => 0) s.tables (id * 2 ^ 32 + i) v }

/-- The entries of table `id` that are not all zero, in ascending index. -/
def State.entries (s : State) (id : Nat) : List (Nat × Nat) :=
  (s.tables.filter fun p => p.1 / 2 ^ 32 = id).map fun p => (p.1 % 2 ^ 32, p.2)

/-- Bits `lo + w - 1 : lo` of the 32-bit group at octet `off` of an entry of `size` octets (R23). -/
def octetField (size e off lo w : Nat) : Nat := e / 2 ^ (8 * (size - off - 4)) % 2 ^ 32 / 2 ^ lo % 2 ^ w

/-- The TABLE_ID values. -/
def tFhPool : Nat := 0x0401
/-- TXM_FILTER. -/
def tTxmFilter : Nat := 0x0901
/-- TXM_PROFILE. -/
def tTxmProfile : Nat := 0x0902
/-- CAL_SITE. -/
def tCalSite : Nat := 0x0A01
/-- SCH_CHANNEL. -/
def tSchChannel : Nat := 0x0B01
/-- SCH_HOP. -/
def tSchHop : Nat := 0x0B02
/-- SCH_SLOTFRAME. -/
def tSchSlotframe : Nat := 0x0B03
/-- SCH_CELL. -/
def tSchCell : Nat := 0x0B04
/-- SCH_NBR. -/
def tSchNbr : Nat := 0x0B05
/-- SCH_REG_PROFILE. -/
def tSchRegProfile : Nat := 0x0B20
/-- SCH_SUBBAND. -/
def tSchSubband : Nat := 0x0B21
/-- FLD_PORT. -/
def tFldPort : Nat := 0x0D01
/-- FWD_NODE. -/
def tFwdNode : Nat := 0x0E01
/-- FWD_TCAM. -/
def tFwdTcam : Nat := 0x0E02
/-- FWD_TRIE. -/
def tFwdTrie : Nat := 0x0E03
/-- FWD_NEXTHOP. -/
def tFwdNexthop : Nat := 0x0E04
/-- FRY_PORT. -/
def tFryPort : Nat := 0x1101
/-- FRY_ENDPOINT. -/
def tFryEndpoint : Nat := 0x1102

/-- The tables with their ENTRY_SIZE and entry count. -/
def tableShape : Nat → Option (Nat × Nat)
  | 0x0401 => some (4, 128)
  | 0x0901 => some (132, 16)
  | 0x0902 => some (8, 32)
  | 0x0A01 => some (12, 36)
  | 0x0B01 => some (8, 256)
  | 0x0B02 => some (260, 16)
  | 0x0B03 => some (16, 32)
  | 0x0B04 => some (16, 1048576)
  | 0x0B05 => some (24, 16)
  | 0x0B20 => some (16, 16)
  | 0x0B21 => some (12, 32)
  | 0x0D01 => some (4, 36)
  | 0x0E01 => some (16, 5242880)
  | 0x0E02 => some (40, 4096)
  | 0x0E03 => some (24, 65536)
  | 0x0E04 => some (16, 4096)
  | 0x1101 => some (32, 8)
  | 0x1102 => some (20, 4)
  | _ => none

/-! ### Memory (R427) -/

/-- What a byte of memory that nothing has written reads as (the log's choice). -/
def memReset (_ : Nat) : Byte := 0

/-- The byte at physical address `a`. -/
def State.byte (s : State) (a : Nat) : Byte := sget memReset s.mem a

/-- `n` bytes from physical address `a`. -/
def State.bytes (s : State) (a n : Nat) : List Byte := (List.range n).map fun k => s.byte (a + k)

/-- Write one byte. -/
def State.setByte (s : State) (a : Nat) (b : Byte) : State := { s with mem := sset memReset s.mem a b }

/-- Write consecutive bytes from `a`. -/
def State.setBytes (s : State) : Nat → List Byte → State
  | _, [] => s
  | a, b :: r => (s.setByte a b).setBytes (a + 1) r

/-- The little-endian 32-bit word at `a`. -/
def State.word (s : State) (a : Nat) : Word :=
  s.byte (a + 3) ++ s.byte (a + 2) ++ s.byte (a + 1) ++ s.byte a

/-- The four octets of a word, little-endian. -/
def wordBytes (w : Word) : List Byte :=
  [w.extractLsb' 0 8, w.extractLsb' 8 8, w.extractLsb' 16 8, w.extractLsb' 24 8]

/-- Write a little-endian word. -/
def State.setWord (s : State) (a : Nat) (w : Word) : State := s.setBytes a (wordBytes w)

/-- The memory is in canonical form. -/
abbrev Memory.wf (m : List Cell) : Prop := scanon memReset m = true

/-- Where DRAM address 0 appears (R427). -/
def dramBase : Nat := 0x1000000000

/-! ### Islands (R34, R480) -/

/-- Island `i` is out of reset, not frozen and not about to be reset. The Memory, Isthmus and Always-on islands run through a freeze
(R480); from the fall of WARMRST_N on only the staging buffers are drained (R81). -/
def State.islandUp (s : State) (i : Nat) : Bool :=
  s.start.islands.getLsbD i && !((s.hlt.frozen || s.start.resetting) && decide (1 ≤ i ∧ i ≤ 5))

/-- The Sample island works. -/
def State.sampleUp (s : State) : Bool := s.islandUp 1
/-- The Slot island works. -/
def State.slotUp (s : State) : Bool := s.islandUp 2
/-- The Control island works. -/
def State.controlUp (s : State) : Bool := s.islandUp 3
/-- The Packet island works. -/
def State.packetUp (s : State) : Bool := s.islandUp 4
/-- The Key island works. -/
def State.keyUp (s : State) : Bool := s.islandUp 5
/-- The Memory island works. -/
def State.memoryUp (s : State) : Bool := s.islandUp 6
/-- The Isthmus island works and still sends records: a freeze stops them (R480). -/
def State.isthmusUp (s : State) : Bool := s.islandUp 7 && !s.hlt.frozen && !s.start.resetting

/-- The device is in service (P9) and not frozen. -/
def State.inService (s : State) : Bool := s.start.phase == .p9 && !s.hlt.frozen && !s.start.resetting

/-! ### Free values and outputs -/

/-- The number of the next free value. -/
def State.drawn (s : State) : State := { s with free := s.free + 1 }

/-- Something left the device. -/
def State.out (s : State) (o : Output) : State := { s with sent := o :: s.sent }

/-! ### The event recorder (R474, R475) -/

/-- The occupancy of the recorder's input FIFO at the present time: one record leaves per Always-on cycle of 390.625 units. -/
def fifoNow (s : State) : Nat :=
  if s.clock.running && !s.hlt.frozen then s.evr.fifo - (s.clock.now - s.evr.fifoTime) * 8 / 3125 else 0

/-- A record enters the recorder, unless its FIFO is full; a full recorder loses its oldest (R474). -/
def evrPush (r : EvRecord) (s : State) : State :=
  if 64 ≤ fifoNow s then bump cEvrInputOvf 0 s
  else
    let r' := { r with seq := s.evr.head, time := s.clock.now }
    let s1 : State := { s with evr.fifo := fifoNow s + 1, evr.fifoTime := s.clock.now, evr.head := s.evr.head + 1 }
    if 8192 ≤ s.evr.records.length then
      bump cEvrOverwrite 0 { s1 with evr.records := s.evr.records.drop 1 ++ [r'], evr.oldest := s.evr.oldest + 1 }
    else { s1 with evr.records := s.evr.records ++ [r'] }

/-- A record with every field 0. -/
def EvRecord.blank : EvRecord := ⟨0, 0, 0, 0, 0, 0, 0, 0, 0, 0, 0⟩

/-- A named event with its two arguments (R475). -/
def event (e a0 a1 : Nat) (s : State) : State :=
  evrPush { EvRecord.blank with event := e, arg0 := a0 % 2 ^ 32, arg1 := a1 % 2 ^ 32 } s

/-- A named event whose arguments the spec does not state: they are free values. -/
def occurs (e : Nat) (s : State) : State :=
  event e (Config.eventArg s.free).toNat (Config.eventArg (s.free + 1)).toNat { s with free := s.free + 2 }

end Sys2Proof.Machine
end

