-- ==== Sys2Proof/Machine/Operands.lean ====
section
/-! DEFINITION. How the operands and the table entries are read: ports and heads, pool streams, channels, profiles and cells, and
the nodes and lanes that State holds by number. -/

namespace Sys2Proof.Machine

open Host

/-! ### Ports and heads (h is 0 to 31 for FH0 to FH31 and 32 to 35 for ANA0 to ANA3) -/

/-- Fronthaul port `p`. -/
def State.port (s : State) (p : Nat) : FhPort := (afind s.fh p).getD {}

/-- Replace fronthaul port `p`. -/
def State.setPort (s : State) (p : Nat) (q : FhPort) : State := { s with fh := aput s.fh p q }

/-- Change fronthaul port `p`. -/
def State.modPort (s : State) (p : Nat) (f : FhPort → FhPort) : State := s.setPort p (f (s.port p))

/-- Port `p` is enabled, its island works, and the start has come to P7 (R51, R103). -/
def State.portRuns (s : State) (p : Nat) : Bool :=
  s.fldAt rFhPortCtrl p 0 1 == 1 && s.sampleUp &&
    (s.start.phase == .p7 || s.start.phase == .p8 || s.start.phase == .p9)

/-- A fronthaul port in UP, or an analogue port with a converter enabled, not in loopback and not held by JIG_PORT (R114, R186, R484). -/
def State.headUp (s : State) (h : Nat) : Bool :=
  if h < 32 then (s.port h).state == .up
  else s.sampleUp && s.fldAt rAnaPortCtrl (h - 32) 0 6 != 0 && s.fldAt rAnaPortCtrl (h - 32) 6 2 == 0 && !(s.hlt.jigPort.any fun x => x.2 == h)

/-- The fronthaul ports UP. -/
def State.portsUp (s : State) : Nat := ((List.range 32).filter fun p => (s.port p).state == .up).length

/-- The calibration of head `h`. -/
def State.headCal (s : State) (h : Nat) : HeadCal := (afind s.cal.heads h).getD {}

/-- Change the calibration of head `h`. -/
def State.modCal (s : State) (h : Nat) (f : HeadCal → HeadCal) : State :=
  { s with cal.heads := aput s.cal.heads h (f (s.headCal h)) }

/-! ### Pool streams (R105) -/

/-- The head of pool stream `st`, by its FH_POOL entry. -/
def streamHead (s : State) (st : Nat) : Option Nat :=
  let e := s.entry tFhPool st
  if e / 2 ^ 31 % 2 = 1 then
    (match e / 2 ^ 29 % 4 with
     | 0 => some (e / 2 ^ 24 % 32)
     | 1 => some (32 + e / 2 ^ 24 % 4)
     | _ => none)
  else none

/-- The pool streams of head `h`. -/
def headStreams (s : State) (h : Nat) : List Nat := (List.range 128).filter fun st => streamHead s st == some h

/-- Unit `u` of the channeliser bank. -/
def State.unit (s : State) (u : Nat) : UnitUse := (afind s.chn.units u).getD .free

/-- Give unit `u` a use. -/
def State.setUnit (s : State) (u : Nat) (x : UnitUse) : State := { s with chn.units := aput s.chn.units u x }

/-- The generation of the live unit of stream `st`. -/
def liveGen (s : State) (st : Nat) : Nat :=
  (s.chn.units.findSome? fun (_, u) => match u with
    | .live st' g => if st' = st then some g else none
    | _ => none).getD 0

/-! ### Lanes -/

/-- Lane `l`. -/
def State.laneAt (s : State) (l : Nat) : Lane := (afind s.lane.lanes l).getD {}

/-- Replace lane `l`; a FREE lane holds nothing. -/
def State.setLane (s : State) (l : Nat) (x : Lane) : State :=
  { s with lane.lanes := if x = {} then adel s.lane.lanes l else aput s.lane.lanes l x }

/-- Change lane `l`. -/
def State.modLane (s : State) (l : Nat) (f : Lane → Lane) : State := s.setLane l (f (s.laneAt l))

/-- The unit of test kind `k`, instance `i`, is retired (R470). -/
def isRetired (s : State) (k i : Nat) : Bool := s.hlt.retired.any fun r => r.kind == k && r.inst == i

/-- The test of kind `k` on instance `i` is in hand. -/
def underTest (s : State) (k i : Nat) : Bool := s.hlt.test.any fun j => j.kind == k && j.inst == i && j.warm != 9

/-! ### Channels, profiles and sub-bands (R191, R204, R205, R245) -/

/-- A channel: centre and width in Hz, its regulatory profile, VALID. -/
structure Channel where
  centre  : Nat
  width   : Nat
  profile : Nat
  valid   : Bool
  deriving DecidableEq, Repr

/-- SCH_CHANNEL entry `c` (R245). -/
def channelOf (s : State) (c : Nat) : Channel :=
  let e := s.entry tSchChannel c
  { centre := octetField 8 e 0 0 32
    width := [50000, 200000, 400000, 800000, 2000000].getD (octetField 8 e 4 29 3) 0
    profile := octetField 8 e 4 25 4
    valid := octetField 8 e 4 24 1 == 1 }

/-- The fields of a regulatory profile (R204), times in ms and s, masks in dB and 0.25 dBm. -/
structure RegProfile where
  dwellMs  : Nat
  dwellWin : Nat
  maxTx    : Nat
  dutyWin  : Nat
  maskAdj  : Nat
  maskFar  : Nat
  maskAbs  : Int
  deriving DecidableEq, Repr

/-- SCH_REG_PROFILE entry `i`. -/
def regProfile (s : State) (i : Nat) : RegProfile :=
  let e := s.entry tSchRegProfile i
  ⟨octetField 16 e 0 16 16, octetField 16 e 0 0 16, octetField 16 e 4 16 16, octetField 16 e 4 0 16,
   octetField 16 e 8 24 8, octetField 16 e 8 16 8, (BitVec.ofNat 16 (octetField 16 e 8 0 16)).toInt⟩

/-- The sub-band that holds a channel wholly, with its DUTY (R205). -/
def subbandOf (s : State) (c : Channel) : Option (Nat × Nat) :=
  (s.entries tSchSubband).findSome? fun (i, e) =>
    if octetField 12 e 0 0 32 * 2 ≤ c.centre * 2 - c.width ∧ c.centre * 2 + c.width ≤ octetField 12 e 4 0 32 * 2
    then some (i, octetField 12 e 8 16 16) else none

/-- The fields of a transmit profile (R191). -/
structure TxProfile where
  format   : Nat
  rateMode : Nat
  fec      : Nat
  whiten   : Bool
  fcs2     : Bool
  filter   : Nat
  preamble : Nat
  deriving DecidableEq, Repr

/-- TXM_PROFILE entry `i`. -/
def txProfile (s : State) (i : Nat) : TxProfile :=
  let e := s.entry tTxmProfile i
  ⟨octetField 8 e 0 28 4, octetField 8 e 0 26 2, octetField 8 e 0 24 2, octetField 8 e 0 23 1 == 1, octetField 8 e 0 22 1 == 1,
   octetField 8 e 0 18 4, octetField 8 e 0 8 10⟩

/-- A profile of Deep mode. -/
def TxProfile.deep (p : TxProfile) : Bool := decide (6 ≤ p.format ∧ p.format ≤ 9)

/-- What the format counts as a frame of `len` octets without FCS: the PSDU with its FCS of 4 or, with FCS2, 2 octets; in Deep mode the
payload, whose FCS LENGTH leaves out (R117, R125). -/
def TxProfile.psdu (p : TxProfile) (len : Nat) : Nat := if p.deep then len else if p.fcs2 then len + 2 else len + 4

/-- The format carries a frame of `len` octets without FCS (R117, R119, R124). -/
def TxProfile.fits (p : TxProfile) (len : Nat) : Bool :=
  decide ((psduLimits p.deep).1 ≤ p.psdu len ∧ p.psdu len ≤ (psduLimits p.deep).2)

/-- The duration in µs of `bits` bits at `rate` bit/s, rounded up. -/
def bitTime (bits rate : Nat) : Nat := if rate = 0 then 0 else (bits * 1000000 + rate - 1) / rate

/-- The airtime in µs of a frame of `len` octets without FCS under profile `i`, its preamble extended by `extra` µs (R128, R206). Deep: R128
at 40 µs a chip. MR-FSK: preamble, 2 octets of SFD, then 2 of PHR and the PSDU, as the worked examples of R128 and R210 count them; with FEC
the PHR and the PSDU at rate 1/2, and what else the standard adds. MR-O-QPSK: the PSDU at the rate of its rate mode, and the standard's SHR
and PHR. -/
def airtimeOf (s : State) (i len extra : Nat) : Nat :=
  let p := txProfile s i
  let n := p.psdu len
  extra + (
    if p.deep then deepChips (p.format - 6) n * 40
    else if p.format ≤ 3 then
      let rate := (fskModes.map fun m => m.rate).getD p.format 1
      if p.fec = 0 then bitTime ((p.preamble + 4 + n) * 8) rate
      else bitTime ((p.preamble + 2 + 2 * (2 + n)) * 8) rate + Config.sunExtra (s.entry tTxmProfile i) n
    else bitTime (n * 8) (oqpskRate (p.format - 4) p.rateMode) + Config.sunExtra (s.entry tTxmProfile i) n)

/-- How long after its start a transmission under profile `i`, its preamble extended by `extra` µs, sends the first symbol after its preamble
(R117, R124, R226). -/
def preambleTime (s : State) (i extra : Nat) : Time :=
  let p := txProfile s i
  us (extra + (if p.deep then 64 * deepN (p.format - 6) * 40
    else if p.format ≤ 3 then bitTime (p.preamble * 8) ((fskModes.map fun m => m.rate).getD p.format 1)
    else Config.qpskPreamble p.format))

/-! ### Slotframes and cells (R246 to R248) -/

/-- A slotframe (R247). -/
structure Slotframe where
  pan    : Nat
  handle : Nat
  hop    : Nat
  valid  : Bool
  length : Nat
  first  : Nat
  count  : Nat
  deriving DecidableEq, Repr

/-- SCH_SLOTFRAME entry `i`. -/
def slotframeOf (s : State) (i : Nat) : Slotframe :=
  let e := s.entry tSchSlotframe i
  ⟨octetField 16 e 0 16 16, octetField 16 e 0 8 8, octetField 16 e 0 4 4, octetField 16 e 0 0 1 == 1,
   octetField 16 e 4 16 16, octetField 16 e 8 0 32, octetField 16 e 12 0 32⟩

/-- A cell (R248). `port` is that of an ADVERTISING cell; `backoff` in 0.25 dB. -/
structure Cell where
  offset    : Nat
  chOffset  : Nat
  slotframe : Nat
  kind      : Nat
  node      : Nat
  port      : Nat
  slots     : Nat
  profile   : Nat
  beacon    : Nat
  nbr       : Nat
  withdrawn : Bool
  reclaimed : Bool
  shared    : Bool
  peer      : Nat
  backoff   : Nat
  deriving DecidableEq, Repr

/-- A SCH_CELL entry from its octets. -/
def cellOf (e : Nat) : Cell :=
  { offset := octetField 16 e 0 16 16, chOffset := octetField 16 e 0 8 8, slotframe := octetField 16 e 0 3 5,
    kind := octetField 16 e 0 0 3, node := octetField 16 e 4 9 23, port := octetField 16 e 4 26 6,
    slots := octetField 16 e 8 21 11 + 1, profile := octetField 16 e 8 16 5, beacon := octetField 16 e 8 10 6,
    nbr := octetField 16 e 8 6 4, withdrawn := octetField 16 e 8 5 1 == 1, reclaimed := octetField 16 e 8 4 1 == 1,
    shared := octetField 16 e 8 3 1 == 1, peer := octetField 16 e 12 9 23, backoff := octetField 16 e 12 0 8 }

/-- Set or clear one bit of the third 32-bit group of a cell: bit 5 WITHDRAWN, bit 4 RECLAIMED. -/
def setCellBit (i bit : Nat) (v : Bool) (s : State) : State :=
  let e := s.entry tSchCell i
  let w := 2 ^ (32 + bit)
  let has := e / w % 2 = 1
  if has then (if v then s else s.setEntry tSchCell i (e - w))
  else (if v then s.setEntry tSchCell i (e + w) else s)

/-- The channel a cell of hop sequence `hop` uses at ASN `a` (R246). -/
def hopChannel (s : State) (hop chOffset a : Nat) : Nat :=
  let e := s.entry tSchHop hop
  let len := e / 2 ^ (8 * 259) % 256 + 1
  e / 2 ^ (8 * (255 - (a + chOffset) % len)) % 256

/-- One slot in 1/16 ns (R242). -/
def State.slotLen (s : State) : Nat := s.fld rSchCtrl 0 9 * us 100

/-- The schedule epoch's origin, SCH_ASN_EPOCH. -/
def State.asnEpoch (s : State) : Nat := (s.reg rSchAsnEpochHi).toNat * 2 ^ 32 + (s.reg rSchAsnEpochLo).toNat

/-- The ASN of the slot that contains device time `t` (R242). -/
def State.asnAt (s : State) (t : Time) : Nat :=
  if s.slotLen = 0 then 0 else (t - s.asnEpoch) / s.slotLen % 2 ^ 40

/-- The start of slot `a`. -/
def State.slotStart (s : State) (a : Nat) : Time := s.asnEpoch + a * s.slotLen

/-! ### Nodes (R332, R336) -/

/-- The VALID entry of node `e` with its INDEX (R336). -/
def State.nodeOf (s : State) (e : Eui) : Option (Nat × Node) := s.fwd.nodes.find? fun x => x.2.eui == e

/-- The INDEX of node `e`. -/
def State.indexOf (s : State) (e : Eui) : Option Nat := (s.nodeOf e).map fun x => x.1

/-- The entry at INDEX `i`. -/
def State.nodeAt (s : State) (i : Nat) : Option Node := afind s.fwd.nodes i

/-- Change the entry at INDEX `i`. -/
def State.modNode (s : State) (i : Nat) (f : Node → Node) : State := { s with fwd.nodes := amod s.fwd.nodes i f }

/-- The border router's own EUI-64, JRN_EUI64. -/
def State.ownEui (s : State) : Eui := s.reg rJrnEui64Hi ++ s.reg rJrnEui64Lo

/-- The cells that name INDEX `i`: CELL_REFS (R338). -/
def cellRefs (s : State) (i : Nat) : Nat :=
  ((s.entries tSchCell).filter fun x =>
    let c := cellOf x.2
    c.kind != 0 && c.kind != 4 && ((!c.shared && c.node == i) || (c.kind == 6 && c.peer == i))).length

/-! ### The catalogue of search modes -/

/-- The preamble family of a catalogue index (R145): F50, F100, F150, F200, Q100, Q1000, D0 to D3 as 0 to 9. -/
def family (m : Nat) : Nat := [0, 0, 1, 1, 2, 2, 3, 3, 4, 5, 6, 7, 8, 9, 0, 1].getD m 10

/-- The channel width of a mode in Hz (R145). -/
def channelWidth (m : Nat) : Nat :=
  [200000, 200000, 400000, 400000, 400000, 400000, 400000, 400000, 200000, 2000000, 50000, 50000, 50000, 50000,
   200000, 400000].getD m 0

/-- The symbol or chip time of a mode in 1/16 ns (R146). -/
def symbolTime (m : Nat) : Nat :=
  [us 20, us 20, us 10, us 10, 106667, 106667, us 10, us 10, us 10, us 1, us 40, us 40, us 40, us 40, us 20, us 10].getD m 1

/-- RX_PIPE of a mode: from a member's last air sample to its last payload bit decoded, the bank's latency, that of the synthesis, two symbols or
chips of demodulation and 0.5 µs of decoding (R254). -/
def rxPipe (m : Nat) : Time := bankDelay + (synthClass m).delay + 2 * symbolTime m + us 1 / 2

/-- The segment period of a mode in 1/16 ns (R146). -/
def segPeriod (m : Nat) : Nat :=
  symbolTime m * [2, 2, 2, 2, 2, 2, 4, 4, 32, 32, 64, 64, 64, 64, 2, 2].getD m 1

/-- The correlation window of a mode in 1/16 ns (R146). -/
def corrWindow (m : Nat) : Nat :=
  [us 640, us 640, us 320, us 320, 3413333, 3413333, us 320, us 320, us 320, us 32, us 10240, us 10240, us 10240, us 10240,
   us 640, us 320].getD m 0

/-- The catalogue index that search slot `k` holds (R147). -/
def slotMode (s : State) (k : Nat) : Nat := s.fldAt rDetSlotCtrl k 1 4

/-- Slot `k` runs on stream `st` (R147). -/
def slotOn (s : State) (st k : Nat) : Bool :=
  s.fldAt rDetSlotCtrl k 0 1 == 1 && s.fldAt rDetStreamMask st k 1 == 1

/-- The (slot, mode) pairs enabled on stream `st`. -/
def enabledModes (s : State) (st : Nat) : List (Nat × Nat) :=
  ((List.range 12).filter fun k => slotOn s st k).map fun k => (k, slotMode s k)

/-! ### What a lane latched -/

/-- The detection of a lane's record. -/
def Lane.det (l : Lane) : Detection := match l.record with
  | some r => r.det
  | none => ⟨0, 0, 0, 0, 0, 0, 0⟩

/-- The generation that a lane latched. -/
def Lane.gen (l : Lane) : Nat := match l.record with
  | some r => r.gen
  | none => 0

/-- The mode of a lane. -/
def Lane.mode (l : Lane) : Nat := match l.record with
  | some r => r.mode
  | none => 0

/-- The centre frequency of pool stream `st`: RX_CENTRE of the receive slot that its FH_POOL entry names, or its down-converter's (R132). -/
def streamCentre (s : State) (st : Nat) : Int :=
  let e := s.entry tFhPool st
  let p := e / 2 ^ 24 % 32
  let k := e / 2 ^ 21 % 8
  if e / 2 ^ 29 % 4 = 1 then Config.anaCentre (p % 4) k
  else (((afind (s.port p).headRegs (0x10 + k)).getD (Config.rxCentre p k)).toNat : Int)

/-- TX_CENTRE of transmit stream `n` in Hz: the head register as written or adopted (R107, R108). -/
def txCentre (s : State) (n : Nat) : Int :=
  ((((if n < 64 then afind (s.port (n / 2)).headRegs (0x30 + n % 2) else none).getD (Config.txCentre n)).toNat : Nat) : Int)

/-- The carrier of a detection in Hz (R132, R151). -/
def carrier (s : State) (d : Detection) : Int := streamCentre s d.stream + ((d.bin : Int) - 64) * 160000 + d.freq

/-- How far two carriers lie apart in Hz; on one stream its centre frequency drops out. -/
def carrierGap (s : State) (a b : Detection) : Nat :=
  if a.stream = b.stream then ((((a.bin : Int) - b.bin) * 160000) + (a.freq - b.freq)).natAbs
  else (carrier s a - carrier s b).natAbs

/-- The running states (R162): those that read live bins. -/
def laneReads : LaneState → Bool
  | .lookback | .preamble | .header | .payload | .waitCancel => true
  | _ => false

/-- The evictable states (R167). -/
def evictable : LaneState → Bool
  | .lookback | .preamble | .header => true
  | _ => false

/-- A lane latched to generation `g` of stream `st`. -/
def laneOn (st g : Nat) (l : Lane) : Bool := l.record.isSome && l.det.stream == st && l.gen == g

/-! ### Groups and delays -/

/-- Group `g`, if its number is held. -/
def State.groupOf (s : State) (g : Nat) : Option Group := afind s.lane.groups g

/-- Change group `g`. -/
def State.modGroup (s : State) (g : Nat) (f : Group → Group) : State :=
  { s with lane.groups := amod s.lane.groups g f }

/-- The start of a frame: its record's TIME less the correlation window (R175). -/
def frameStart (r : DetRecord) : Time := r.det.time - corrWindow r.mode

/-- The one-way delays up and down in 1/16 ns for a round trip `rtt` (R100); the spec states no rounding, and the model rounds the halves down
(see the log). -/
def oneWay (s : State) (p : Nat) (rtt : Int) : Int × Int :=
  let a := s.signedAt rFhPortCtrl p 16 16
  ((rtt - a) / 2, (rtt + a) / 2)

/-! ### Linear power (R194) -/

/-- The greatest x with x^40 · 10^k at most 65,536^40, searched from bit `n` downward: the share 10^(-k/40) in 1/65,536. -/
def shareBits (k : Nat) : Nat → Nat → Nat
  | 0, x => x
  | n + 1, x => shareBits k n (if (x + 2 ^ n) ^ 40 * 10 ^ k ≤ 65536 ^ 40 then x + 2 ^ n else x)

/-- The linear share of a gain of −k × 0.25 dB, in 1/65,536 (R194). -/
def shareOf (k : Nat) : Nat := shareBits k 17 0

/-- UPD_CAMP_STATUS.STATE. -/
def CampState.code : CampState → Nat
  | .free => 0
  | .loading => 1
  | .ready => 2
  | .running => 3
  | .paused => 4
  | .ended => 5
  | .failed => 6

/-- UPD_STATUS.STATE. -/
def UpdState.code : UpdState → Nat
  | .none => 0
  | .receiving => 1
  | .complete => 2
  | .verified => 3
  | .failed => 4
  | .activating => 5
  | .activated => 6

/-! ### The update in staging (R400, R407 to R409) -/

/-- The number of pieces of an update (R400). -/
def piecesOf (m : Manifest) : Nat := (m.imageLength + 4095) / 4096

/-- The region of a copy holds the update in staging: its header is the manifest (R409). -/
def stagedIn (s : State) (copyB : Bool) : Bool := (if copyB then s.upd.headB else s.upd.headA) == s.upd.manifest

/-- Piece `p` is held in copy A or B. -/
def pieceIn (s : State) (copyB : Bool) (p : Nat) : Bool := stagedIn s copyB && (afind (if copyB then s.upd.heldB else s.upd.heldA) p).isSome

/-- The ciphertext and the tag of piece `p` as a copy that holds it gives them. -/
def pieceOf (s : State) (p : Nat) : Nat × Nat :=
  if pieceIn s false p then ((afind s.upd.cipherA p).getD 0, (afind s.upd.heldA p).getD 0)
  else ((afind s.upd.cipherB p).getD 0, (afind s.upd.heldB p).getD 0)

end Sys2Proof.Machine
end

