-- ==== Sys2Proof/Machine/Formats.lean ====
section
/-! DEFINITION. The layouts of what the device hands over between its own parts: detection records (R151) and lane snippets (R183). The
layouts of frames and messages stand in Layouts.lean. -/

namespace Sys2Proof.Machine

open Host

/-- A two's complement field of `w` bits. -/
def signedField (w : Nat) (v : Int) : Nat := (v % (2 ^ w : Int)).toNat

/-- PORT as an event or a snippet names a head: bit 5 is 1 for an analogue port (R182). -/
def portField (h : Nat) : Nat := if h < 32 then h else 32 + (h - 32) % 32

/-- The preamble segments in the correlation window of a mode (R151). -/
def segmentsOf (m : Nat) : Nat := if 10 ≤ m ∧ m ≤ 13 then 4 else 1

/-- The six words of a detection record (R151). -/
def recordWords (r : DetRecord) : List Word :=
  let d := r.det
  [BitVec.ofNat 32 (d.stream % 128 * 2 ^ 25 + d.bin % 128 * 2 ^ 18 + r.mode % 16 * 2 ^ 14 + d.slot % 16 * 2 ^ 10 + r.gen % 256 * 4 +
      r.redetect.toNat * 2 + r.family.toNat),
   BitVec.ofNat 32 (d.metric % 4096 * 2 ^ 20 + signedField 12 d.level * 2 ^ 8 + r.merged % 256),
   BitVec.ofNat 32 (signedField 24 d.freq * 2 ^ 8 + segmentsOf r.mode),
   BitVec.ofNat 32 (d.time / 2 ^ 32), BitVec.ofNat 32 d.time, BitVec.ofNat 32 r.seq]

/-- The head and receive path of a stream (R105). -/
def headPath (s : State) (st : Nat) : Nat × Nat :=
  let e := s.entry tFhPool st
  (if e / 2 ^ 29 % 4 = 1 then 32 + e / 2 ^ 24 % 4 else e / 2 ^ 24 % 32,
   if e / 2 ^ 29 % 4 = 1 then 16 + e / 2 ^ 21 % 8 else e / 2 ^ 17 % 16)

/-- Four octets as a little-endian word. -/
def leWord (l : List Byte) : Word := l.getD 3 0 ++ l.getD 2 0 ++ l.getD 1 0 ++ l.getD 0 0

/-- Octets as little-endian words, the last one padded with zeros. -/
def leWords : Nat → List Byte → List Word
  | 0, _ => []
  | n + 1, l => leWord (l.take 4) :: leWords n (l.drop 4)

/-- The words of the snippet of lane `l` (R183): 32 octets of header, 64 of reference, then two samples for every symbol. -/
def snippetWords (s : State) (l : Nat) (b : SnippetBody) : List Word :=
  let x := s.laneAt l
  let d := x.det
  let hp := headPath s d.stream
  let pre := min 256 b.preambleSyms
  let dat := min 256 b.dataSyms
  [BitVec.ofNat 32 (l % 4096 * 2 ^ 20 + x.group % 4096 * 2 ^ 8 + x.gen % 256),
   BitVec.ofNat 32 (d.stream % 128 * 2 ^ 25 + d.bin % 128 * 2 ^ 18 + x.mode % 16 * 2 ^ 14 + portField hp.1 * 2 ^ 8 +
      hp.2 % 16 * 2 ^ 4 + x.rerun.toNat * 8),
   BitVec.ofNat 32 (b.time / 2 ^ 32), BitVec.ofNat 32 b.time,
   BitVec.ofNat 32 (signedField 24 b.freq * 2 ^ 8), BitVec.ofNat 32 (pre * 2 ^ 16 + dat),
   BitVec.ofNat 32 (signedField 16 b.snr * 2 ^ 16), 0] ++
  leWords 16 b.reference ++ (List.range (2 * (pre + dat))).map fun i => b.samples.getD i 0

/-- The header of a snippet as its reader finds it (R183): `head` is its PORT as a head number, and `first` the time of the first symbol after the
preamble that it holds. -/
structure SnippetHdr where
  lane   : Nat
  group  : Nat
  gen    : Nat
  stream : Nat
  bin    : Nat
  mode   : Nat
  head   : Nat
  path   : Nat
  rerun  : Bool
  first  : Time
  freq   : Int
  deriving DecidableEq, Repr

/-- `n` bits of word `i` of an item from bit `k`. -/
def itemField (ws : List Word) (i k n : Nat) : Nat := (ws.getD i 0).toNat / 2 ^ k % 2 ^ n

/-- The header of a snippet item (R183). -/
def snippetRead (ws : List Word) : SnippetHdr :=
  let f := itemField ws
  let p := f 1 8 6
  { lane := f 0 20 12, group := f 0 8 12, gen := f 0 0 8, stream := f 1 25 7, bin := f 1 18 7, mode := f 1 14 4,
    head := if p < 32 then p else 32 + p % 4, path := f 1 4 4, rerun := f 1 3 1 == 1,
    first := f 2 0 32 * 2 ^ 32 + f 3 0 32 + f 5 16 16 * symbolTime (f 1 14 4),
    freq := (BitVec.ofNat 24 (f 4 8 24)).toInt }

/-- The 16 octets of a node's calibration field as its four words (R229). -/
def calWords (f : CalField) : List Word :=
  [BitVec.ofNat 32 (signedField 24 f.carrier * 2 ^ 8 + f.fresh % 256),
   BitVec.ofNat 32 (signedField 16 f.drift * 2 ^ 16 + f.sigma % 2 ^ 16),
   BitVec.ofNat 32 (signedField 16 f.timing * 2 ^ 16 + f.pathLoss % 2 ^ 16), BitVec.ofNat 32 f.lastAsn]

end Sys2Proof.Machine
end

