-- ==== Sys2Proof/Machine/Layouts.lean ====
section
/-! DEFINITION. The octets of MAC frames and of the device's own Information Elements: the mesh header (R129), schedule notices (R267),
piece requests and piece parts (R404, R405), fragments and progress reports (R420, R422), Enhanced Acknowledgements (R257) and Enhanced
Beacons (R258). What frames and IEs are made of beyond those tables is that of IEEE 802.15.4-2020, PRESUMED. -/

namespace Sys2Proof.Machine

open Sys2Proof

/-! ### Octets -/

/-- A number in network byte order. -/
def beNat (l : List Byte) : Nat := l.foldl (fun n b => n * 256 + b.toNat) 0

/-- The number of the octets from `i`, `n` long, in network byte order. -/
def beAt (l : List Byte) (i n : Nat) : Nat := beNat ((l.drop i).take n)

/-- `n` octets of a number, most significant first. -/
def beBytes (n v : Nat) : List Byte := (List.range n).map fun i => BitVec.ofNat 8 (v / 256 ^ (n - 1 - i))

/-- `n` octets of a number, least significant first. -/
def leBytes (n v : Nat) : List Byte := (List.range n).map fun i => BitVec.ofNat 8 (v / 256 ^ i)

/-- The octet of a list at `i`, 0 beyond its end. -/
def octetAt (l : List Byte) (i : Nat) : Nat := (l.getD i 0).toNat

/-! ### Vendor Specific IEs (R129) -/

/-- Colzazon's organisation identifier, as sent (R129, R525). -/
def oui : List Byte := [0x4A, 0xC3, 0x91]

/-- The content of an IE after the organisation identifier, if it is the device's own and of that SUBTYPE. -/
def vendorBody (sub : Nat) (c : List Byte) : Option (List Byte) :=
  if c.take 3 = oui ∧ 4 ≤ c.length ∧ octetAt c 3 = sub then some (c.drop 3) else none

/-- A Vendor Specific Payload IE, Group ID 0x2, with that content: its descriptor holds the length in bits 10:0, the group in bits 14:11
and type 1 in bit 15, least significant octet first (R129). -/
def vendorIe (c : List Byte) : List Byte := leBytes 2 (c.length % 2048 + 2 * 2 ^ 11 + 2 ^ 15) ++ c

/-- The mesh header of R129 as a receiver reads it. `wellSized` is the length its flags require. -/
structure MeshHdr where
  wellSized : Bool
  reserved  : Nat
  ttl : Nat
  sroute : Bool
  flood : Bool
  originator : Eui
  sequence : Nat
  floodId : Nat
  hopCount : Nat
  hopIndex : Nat
  hops : List Eui
  deriving DecidableEq, Repr

/-- Where the source route of a mesh header stands. -/
def routeAt (flood : Bool) : Nat := if flood then 16 else 12

/-- The mesh header in the fields after the organisation identifier (R129). -/
def meshRead (d : List Byte) : MeshHdr :=
  let flags := octetAt d 1
  let sroute := flags / 2 % 2 == 1
  let flood := flags % 2 == 1
  let p := routeAt flood
  let hc := if sroute then octetAt d p / 16 else 0
  { wellSized := decide ((if sroute then p + 1 + 8 * hc else p) ≤ d.length)
    reserved := flags / 4 % 4
    ttl := flags / 16
    sroute := sroute
    flood := flood
    originator := BitVec.ofNat 64 (beAt d 2 8)
    sequence := beAt d 10 2
    floodId := if flood then beAt d 12 4 else 0
    hopCount := hc
    hopIndex := if sroute then octetAt d p % 16 else 0
    hops := (List.range hc).map fun i => BitVec.ofNat 64 (beAt d (p + 1 + 8 * i) 8) }

/-- The fields of a mesh header after the organisation identifier (R129). -/
def meshFields (h : MeshHdr) : List Byte :=
  beBytes 1 1 ++ beBytes 1 (h.ttl % 16 * 16 + h.reserved % 4 * 4 + h.sroute.toNat * 2 + h.flood.toNat) ++
    beBytes 8 h.originator.toNat ++ beBytes 2 h.sequence ++ (if h.flood then beBytes 4 h.floodId else []) ++
    (if h.sroute then beBytes 1 (h.hopCount % 16 * 16 + h.hopIndex % 16) ++ h.hops.flatMap (fun e => beBytes 8 e.toNat) else [])

/-- A bad mesh header (R130). -/
def badMesh (h : MeshHdr) : Bool :=
  !h.wellSized || (h.sroute && h.hopCount == 0) || (h.sroute && decide (h.hopCount < h.hopIndex)) || h.reserved != 0 ||
    (h.flood && h.sroute)

/-- The mesh header among the Vendor Specific IEs of a frame, if it carries one (R129, R130). -/
def meshOf (ies : List (List Byte)) : Option MeshHdr := (ies.findSome? (vendorBody 1)).map meshRead

/-! ### The other SUBTYPEs -/

/-- The fields of a schedule notice (R267). -/
def noticeFields (action handle slotOffset chOffset guard : Nat) : List Byte :=
  beBytes 1 2 ++ beBytes 1 (action * 16) ++ beBytes 1 handle ++ beBytes 2 slotOffset ++ beBytes 1 chOffset ++ beBytes 2 guard

/-- The fields of a piece request: WANT's bit k is piece FIRST + k (R404). -/
def requestFields (updateId first : Nat) (want : List Nat) : List Byte :=
  beBytes 1 5 ++ beBytes 1 0 ++ beBytes 2 first ++ beBytes 4 updateId ++
    beBytes 8 (want.foldl (fun n k => n ||| 2 ^ k) 0)

/-- The pieces that the WANT of a piece request names, as offsets from FIRST (R404). -/
def requestWant (d : List Byte) : List Nat := (List.range 64).filter fun k => (beAt d 8 8).testBit k

/-- The fields of a piece part (R405). -/
def partFields (updateId : Word) (piece part data tag : Nat) : List Byte :=
  beBytes 1 4 ++ beBytes 1 part ++ beBytes 2 piece ++ beBytes 4 updateId.toNat ++ beBytes 512 data ++
    (if part = 7 then beBytes 16 tag else [])

/-- The piece part in the fields after the organisation identifier (R405). -/
def partRead (d : List Byte) : Part :=
  let k := octetAt d 1
  { updateId := BitVec.ofNat 32 (beAt d 4 4), piece := beAt d 2 2, part := k, data := beAt d 8 512,
    tag := if k = 7 then beAt d 520 16 else 0,
    lengthOk := decide (d.length = if k = 7 then 536 else 520) }

/-- The fields of a fragment IE before its fragments (R420). -/
def fragFields (count : Nat) (tag : Word) (first : Nat) : List Byte :=
  beBytes 1 6 ++ beBytes 1 count ++ beBytes 2 0 ++ beBytes 4 tag.toNat ++ beBytes 4 first

/-- A gap entry of three octets: START and the length (R421). -/
def gapRead (n : Nat) : Nat × Nat := (n / 64, n % 64 + 1)

/-- A gap entry as three octets' number (R421). -/
def gapWord (g : Nat × Nat) : Nat := g.1 % 2 ^ 18 * 64 + (g.2 - 1) % 64

/-- The progress report in the fields after the organisation identifier (R422). -/
def reportRead (d : List Byte) : Progress :=
  let fl := octetAt d 1
  { complete := fl.testBit 7, verified := fl.testBit 6, failed := fl.testBit 5,
    tag := BitVec.ofNat 32 (beAt d 4 4), haveUntil := beAt d 8 4,
    gaps := (List.range (min 8 (fl % 32))).map fun i => gapRead (beAt d (12 + 3 * i) 3) }

/-! ### MAC frames (R120, R257, R258) -/

/-- A frame control field of version 0b10 (R120), least significant octet first: frame type, Security Enabled, PAN ID Compression, IE Present,
and the addressing modes. -/
def frameControl (type : Nat) (secured compressed ies : Bool) (dst src : Nat) : List Byte :=
  leBytes 2 (type + secured.toNat * 8 + compressed.toNat * 64 + ies.toNat * 512 + dst * 2 ^ 10 + 2 * 2 ^ 12 + src * 2 ^ 14)

/-- The octets of a MIC at a security level. -/
def micOctets (level : Nat) : Nat := [0, 4, 8, 16, 0, 4, 8, 16].getD level 0

/-- An auxiliary security header: level, key identifier mode, frame counter, and the key index in mode 1. -/
def secHeader (level kim counter index : Nat) : List Byte :=
  beBytes 1 (level + kim * 8) ++ leBytes 4 counter ++ (if kim = 1 then beBytes 1 index else [])

/-- The open part of a data frame of the device up to its IEs (R120, R280): to a node or broadcast, in a PAN, from the device's EUI-64, with the
acknowledgement requested of a node, under a NODE key or the GROUP key `index`. -/
def dataHead (pan : Nat) (dst : Option Eui) (src : Eui) (ackReq : Bool) (sequence level counter : Nat) (index : Option Nat) : List Byte :=
  leBytes 2 (1 + 8 + ackReq.toNat * 32 + 64 + 512 + (if dst.isSome then 3 else 2) * 2 ^ 10 + 2 * 2 ^ 12 + 3 * 2 ^ 14) ++ beBytes 1 sequence ++
    leBytes 2 pan ++ (match dst with
      | some e => leBytes 8 e.toNat
      | none => leBytes 2 0xFFFF) ++ leBytes 8 src.toNat ++ secHeader level (if index.isSome then 1 else 0) counter (index.getD 0)

/-- The octets, without FCS, of a data frame with a head of `head` octets, `ies` octets of payload IEs and a payload of `len`, at security level
`level`: IEs stand behind Header Termination 1, and before a payload comes Payload Termination (PRESUMED, IEEE 802.15.4). -/
def dataOctets (head ies len level : Nat) : Nat :=
  head + (if ies = 0 then 0 else 2 + ies + (if len = 0 then 0 else 2)) + len + micOctets level

/-- The octets of the head of a unicast frame under a NODE key, of one under a GROUP key, and of a broadcast under a GROUP key. -/
def nodeHead : Nat := (dataHead 0 (some 0) 0 true 0 0 0 none).length
/-- See `nodeHead`. -/
def groupHead : Nat := (dataHead 0 (some 0) 0 false 0 0 0 (some 0)).length
/-- See `nodeHead`. -/
def castHead : Nat := (dataHead 0 none 0 false 0 0 0 (some 0)).length

/-- The fields of the IE that names the item a downlink frame carries (R318). -/
def dsnFields (dsn : Nat) : List Byte := beBytes 1 3 ++ beBytes 4 dsn

/-- The octets of a Vendor Specific IE with those fields (R129). -/
def ieOctets (fields : List Byte) : Nat := (vendorIe (oui ++ fields)).length

/-- The Time Correction IE: header element 0x1E, its correction in µs as 12 signed bits (R257). -/
def timeCorrection (us : Int) : List Byte := leBytes 2 (2 + 0x1E * 128) ++ leBytes 2 (us % 4096).toNat

/-- Header Termination 1, before payload IEs. -/
def headerEnd : List Byte := leBytes 2 (0x7E * 128)

/-- A nested IE of short form: its sub-identifier and content. -/
def shortIe (id : Nat) (c : List Byte) : List Byte := leBytes 2 (c.length % 256 + id * 256) ++ c

/-- A nested IE of long form. -/
def longIe (id : Nat) (c : List Byte) : List Byte := leBytes 2 (c.length % 2048 + id * 2 ^ 11 + 2 ^ 15) ++ c

/-- An MLME payload IE, Group ID 0x1. -/
def mlmeIe (c : List Byte) : List Byte := leBytes 2 (c.length % 2048 + 2 ^ 11 + 2 ^ 15) ++ c

/-- An Enhanced Acknowledgement without its FCS (R198, R257): to node `node`, with the sequence number of the frame, at security level
`level` under the node's key, or the GROUP key `index`, and counter, its Time Correction IE, and the schedule notices (their fields) that it carries. `sealing` protects
its open part and its private payload, the payload IEs. -/
def ackFrame (node : Eui) (sequence level counter : Nat) (index : Option Nat) (us : Int) (notices : List (List Byte))
    (sealing : List Byte → List Byte → List Byte) : List Byte :=
  sealing (frameControl 2 true true true 3 0 ++ beBytes 1 sequence ++ leBytes 8 node.toNat ++ secHeader level (if index.isSome then 1 else 0) counter (index.getD 0) ++
    timeCorrection us ++
    if notices.isEmpty then [] else headerEnd) (notices.flatMap fun f => vendorIe (oui ++ f))

/-- The IEs of an Enhanced Beacon (R258, R404): the ASN with the join metric; the slot's timing, `fill` giving what R258 does not name; the
whole hopping sequence; for each slotframe its HANDLE, LENGTH and the (SLOT_OFFSET, CH_OFFSET, options) of its shared links; and further
Vendor Specific fields. -/
def beaconIes (asn joinMetric slotUs txOffset ackGap : Nat) (fill : Nat → Nat) (hop : List Nat)
    (frames : List (Nat × Nat × List (Nat × Nat × Nat))) (more : List (List Byte)) : List Byte :=
  mlmeIe (shortIe 0x1A (leBytes 5 asn ++ beBytes 1 joinMetric) ++
    shortIe 0x1C (beBytes 1 1 ++ leBytes 2 (fill 0) ++ leBytes 2 (fill 1) ++ leBytes 2 txOffset ++ leBytes 2 (fill 2) ++ leBytes 2 (fill 3) ++
      leBytes 2 ackGap ++ leBytes 2 (fill 4) ++ leBytes 2 (fill 5) ++ leBytes 2 (fill 6) ++ leBytes 2 (fill 7) ++ leBytes 2 (fill 8) ++
      leBytes 2 slotUs) ++
    longIe 9 (beBytes 1 0 ++ beBytes 1 (fill 9) ++ leBytes 2 (fill 10) ++ leBytes 4 (fill 11) ++ leBytes 2 hop.length ++
      hop.flatMap (leBytes 2) ++ leBytes 2 (fill 12)) ++
    shortIe 0x1B (beBytes 1 frames.length ++ frames.flatMap fun f => beBytes 1 f.1 ++ leBytes 2 f.2.1 ++ beBytes 1 f.2.2.length ++
      f.2.2.flatMap fun l => leBytes 2 l.1 ++ leBytes 2 l.2.1 ++ beBytes 1 l.2.2)) ++
  more.flatMap fun f => vendorIe (oui ++ f)

/-- An Enhanced Beacon without its FCS (R258): from the border router's EUI-64 in a PAN, protected under a GROUP key index at `level`. -/
def beaconFrame (own : Eui) (pan sequence level counter index : Nat) (ies : List Byte) (sealing : List Byte → List Byte → List Byte) :
    List Byte :=
  sealing (frameControl 0 true false true 0 3 ++ beBytes 1 sequence ++ leBytes 2 pan ++ leBytes 8 own.toNat ++ secHeader level 1 counter index ++
    headerEnd) ies

end Sys2Proof.Machine

namespace Sys2Proof

open Machine

/-- LENGTH of a frame's journal entry (R312). -/
def FrameInfo.length (f : FrameInfo) : Nat := f.payload.length

/-- The digest of a frame (R304): the first 4 octets of its MIC, first octet most significant, XOR the length of the MAC frame without its FCS
(DEDUCED, see the log). -/
def FrameInfo.digest (f : FrameInfo) : Word := BitVec.ofNat 32 (beAt f.mic 0 4) ^^^ BitVec.ofNat 32 (f.length + f.mic.length)

/-- The mesh header of a frame, if it carries one (R129). -/
def FrameInfo.mesh (f : FrameInfo) : Option MeshHdr := meshOf f.ies

/-- The piece part of a frame, if it carries one (R405, R406). -/
def FrameInfo.piece (f : FrameInfo) : Option Part := (f.ies.findSome? (vendorBody 4)).map partRead

/-- The progress report of a frame, if it carries one (R422). -/
def FrameInfo.report (f : FrameInfo) : Option Progress := (f.ies.findSome? (vendorBody 7)).map reportRead

end Sys2Proof
end

