-- ==== Sys2Proof/Machine/Seals.lean ====
section
/-! DEFINITION. What the vault derives, wraps and seals with the functions of Crypto: the device-own keys (R61, R62, R269), key blobs and key
journal records (R272, R292), frame security (R280), the pair keys (R290) and the Ferry keys (R323). Numbers are laid out in network byte order
(DEDUCED, see the log). -/

namespace Sys2Proof.Machine

open Sys2Proof

/-! ### Numbers as octets -/

/-- The octets of a key, a blob, a nonce or a public key, first octet most significant. -/
def octetsOf {w : Nat} (v : BitVec w) : Octets := natToOs (w / 8) v.toNat

/-- The number of octets, as wide as asked. -/
def wordOf (w : Nat) (l : Octets) : BitVec w := BitVec.ofNat w (osToNat l)

/-- The number in `n` octets of `l` from offset `i`. -/
def osAt (l : Octets) (i n : Nat) : Nat := osToNat ((l.drop i).take n)

/-! ### Device-own keys (R58, R61, R62, R269) -/

/-- Word `n` of the fuse shadow. -/
def fuseWord (s : State) (n : Nat) : Word := sget (fun _ => 0) s.start.shadow n

/-- DEVICE_SERIAL (R58). -/
def serialOf (s : State) : BitVec 128 := fuseWord s 3 ++ fuseWord s 2 ++ fuseWord s 1 ++ fuseWord s 0

/-- The first 32 bits of SHA-256 of a root (R61). -/
def pufCheck (root : BitVec 256) : Word := wordOf 32 ((sha256 (octetsOf root)).take 4)

/-- The device KEK (R269). -/
def deviceKek (serial : BitVec 128) (root : BitVec 256) : BitVec 256 :=
  wordOf 256 (hkdf (octetsOf root) (octetsOf serial) (textOs "NY4850 device KEK") 32)

/-- The private number of the transport key pair (R269). -/
def transportKey (serial : BitVec 128) (root : BitVec 256) : Nat :=
  osToNat (hkdf (octetsOf root) (octetsOf serial) (textOs "NY4850 transport key") 40) % (n256 - 1) + 1

/-- X then Y of a point. -/
def pointOctets (q : Nat × Nat) : Octets := natToOs 32 q.1 ++ natToOs 32 q.2

/-- The point whose X and Y are given. -/
def pointOf (v : BitVec 512) : Nat × Nat := (v.toNat / 2 ^ 256, v.toNat % 2 ^ 256)

/-- The public key of a private number, X then Y. -/
def publicOf (d : Nat) : BitVec 512 := wordOf 512 (((ecMul d g256).map pointOctets).getD [])

/-- The key that unwraps a KEY_BLOB with WRAP 1: of the ephemeral public key and the transport private number (R75); none where the public key is
no point of the curve. -/
def transportWrap (d : Nat) (ephemeral : BitVec 512) : Option (BitVec 256) :=
  (ecdh d (pointOf ephemeral)).map fun z => wordOf 256 (hkdf z [] (textOs "NY4850 transport") 32)

/-! ### Key blobs (R272, R273) -/

/-- The 56 octets of a blob's plaintext (R272). -/
def plainOctets (p : KeyPlain) : Octets :=
  natToOs 1 p.cls ++ natToOs 1 p.len ++ octetsOf p.usage ++ natToOs 4 p.id ++ natToOs 4 p.gen ++ natToOs 4 0 ++ octetsOf p.key ++ octetsOf p.bind

/-- The plaintext of a blob from its 56 octets (R272). -/
def plainRead (l : Octets) : KeyPlain :=
  { cls := osAt l 0 1, len := osAt l 1 1, usage := BitVec.ofNat 16 (osAt l 2 2), id := osAt l 4 4, gen := osAt l 8 4,
    reservedZero := osAt l 12 4 == 0, key := BitVec.ofNat 256 (osAt l 16 32), bind := BitVec.ofNat 64 (osAt l 48 8) }

/-- A key's blob under a wrapping key (R272). -/
def wrapBlob (kek : BitVec 256) (p : KeyPlain) : BitVec 512 := wordOf 512 (keyWrap (octetsOf kek) (plainOctets p))

/-- The plaintext of a blob, none where the integrity check fails or it is not of 56 octets (R272, R273). -/
def unwrapBlob (kek : BitVec 256) (b : BitVec 512) : Option KeyPlain := (keyUnwrap (octetsOf kek) (octetsOf b) 56).map plainRead

/-- The check value of a key in a hello: the first 8 octets of HMAC-SHA-256(key, "NY4850 kcv"), over the KEY_LEN octets of the key (R290). -/
def checkValue (p : KeyPlain) : BitVec 64 := wordOf 64 ((hmac ((octetsOf p.key).take p.len) (textOs "NY4850 kcv")).take 8)

/-- The 128 octets of a key journal record (R292), its BLOB under the device KEK. -/
def recordOctets (kek : BitVec 256) (r : KeyRec) : Octets :=
  let body := natToOs 2 0x4B4A ++ natToOs 2 1 ++ natToOs 4 r.seq ++ natToOs 1 r.cls ++ natToOs 1 r.kind ++ natToOs 2 0 ++ natToOs 4 r.id ++
    natToOs 4 r.gen ++ natToOs 4 r.value ++ natToOs 4 0 ++
    (match r.kind, r.plain with
     | 1, some p => octetsOf (wrapBlob kek p)
     | _, _ => List.replicate 64 0) ++ List.replicate 32 0
  body ++ octetsOf (crc32 body)

/-! ### Frame security (R280, IEEE 802.15.4) -/

/-- The AES-128 round keys of a NODE, GROUP or IMAGE key: the first 16 octets of its KEY field (R272). -/
def frameKeys (key : BitVec 256) : List Octets := roundKeys ((octetsOf key).take 16)

/-- The nonce of a frame (R280): the source's EUI-64, the frame counter and the security level. -/
def frameNonce (e : Eui) (counter level : Nat) : Octets := octetsOf e ++ natToOs 4 counter ++ natToOs 1 level

/-- The MIC of a frame at a security level over its open part `a` and its private payload `m` in plaintext; a level without encryption
authenticates both. -/
def frameMic (key : BitVec 256) (nonce : Octets) (level : Nat) (a m : Octets) : Octets :=
  if 4 ≤ level then ccmMic (frameKeys key) nonce a m (micOctets level) else ccmMic (frameKeys key) nonce (a ++ m) [] (micOctets level)

/-- A private payload under the key stream of its frame, at a level that encrypts. -/
def frameStream (key : BitVec 256) (nonce : Octets) (level : Nat) (m : Octets) : Octets :=
  if 4 ≤ level then ccmStream (frameKeys key) nonce m else m

/-- The MIC of a received frame is good under a key (R280). -/
def micGood (key : BitVec 256) (e : Eui) (counter level : Nat) (f : SealedFrame) : Bool :=
  let nonce := frameNonce e counter level
  frameMic key nonce level (ofBytes f.header) (frameStream key nonce level (ofBytes f.payload)) == ofBytes f.mic

/-- A frame to be sent, protected: its open part, its private payload as it is sent, and its MIC. -/
def sealFrame (key : BitVec 256) (e : Eui) (counter level : Nat) (a m : List Byte) : List Byte :=
  let nonce := frameNonce e counter level
  a ++ toBytes (frameStream key nonce level (ofBytes m) ++ frameMic key nonce level (ofBytes a) (ofBytes m))

/-- A frame as long as it will be when it is protected at a level. -/
def unsealed (level : Nat) (a m : List Byte) : List Byte := a ++ m ++ List.replicate (micOctets level) 0

/-! ### The pair keys (R290) -/

/-- The pair key of a shared secret, with the nonces of role A and of role B. -/
def pairKeyOf (shared : Octets) (nonceA nonceB : BitVec 256) : BitVec 256 :=
  wordOf 256 (hkdf shared (octetsOf nonceA ++ octetsOf nonceB) (textOs "NY4850 pair") 32)

/-- The ISTHMUS key of a pair key. -/
def isthmusKeyOf (pair : BitVec 256) : BitVec 256 := wordOf 256 (hkdf (octetsOf pair) [] (textOs "NY4850 isthmus") 32)

/-! ### The Ferry keys (R323) -/

/-- The 64 octets of a session's keys: the device-to-head-end key, then the other. -/
def sessionKeys (ferry : BitVec 256) (nonceD nonceH : BitVec 128) (session : Nat) : BitVec 512 :=
  wordOf 512 (hkdf (octetsOf ferry) (octetsOf nonceD ++ octetsOf nonceH) (textOs "NY4850 ferry" ++ natToOs 4 session) 64)

/-- The opening key, which protects OPEN packets. -/
def openingKey (ferry : BitVec 256) : BitVec 256 := wordOf 256 (hkdf (octetsOf ferry) [] (textOs "NY4850 ferry open") 32)

end Sys2Proof.Machine
end

