-- ==== Sys2Proof/Machine/Items.lean ====
section
/-! DEFINITION. The octets of downlink items and of what they carry: the item header and its digest (R316, R326), key-load items (R285), and the
arguments of the MGMT-CMD codes (R326, R399, R401, R402, R418, R419, R484, R494). Where the spec gives an argument no width, its place is the
model's choice (see the log). -/

namespace Sys2Proof.Machine

open Sys2Proof

/-- Every octet of `l` from `i` on, `n` of them, is 0. -/
def zeroAt (l : List Byte) (i n : Nat) : Bool := ((l.drop i).take n).all fun b => b == 0

/-! ### Key-load items (R285) -/

/-- A key-load item from its 96 octets. -/
def keyItemRead (l : List Byte) : KeyItem :=
  { cls := octetAt l 0, op := octetAt l 1, keyId := beAt l 4 4, eui := BitVec.ofNat 64 (beAt l 8 8), kekId := octetAt l 16,
    fcFloor := beAt l 20 4, txFcFloor := beAt l 24 4, blob := BitVec.ofNat 512 (beAt l 32 64) }

/-- The 96 octets of a key-load item. -/
def keyItemOctets (k : KeyItem) : List Byte :=
  beBytes 1 k.cls ++ beBytes 1 k.op ++ beBytes 2 0 ++ beBytes 4 k.keyId ++ beBytes 8 k.eui.toNat ++ beBytes 1 k.kekId ++ beBytes 3 0 ++
    beBytes 4 k.fcFloor ++ beBytes 4 k.txFcFloor ++ beBytes 4 0 ++ beBytes 64 k.blob.toNat

/-- A key-load item has its length, and its reserved fields are 0. -/
def keyItemOk (l : List Byte) : Bool := l.length == 96 && zeroAt l 2 2 && zeroAt l 17 3 && zeroAt l 28 4

/-! ### Arguments of the MGMT-CMD codes -/

/-- The manifest of UPD_BEGIN, whose arguments begin at offset 4 of the payload (R401). -/
def manifestRead (a : List Byte) : Manifest :=
  { updateId := BitVec.ofNat 32 (beAt a 0 4), imageLength := beAt a 4 4, generation := BitVec.ofNat 32 (beAt a 8 4),
    securityVersion := octetAt a 12, keySlot := octetAt a 13, imageKeyId := octetAt a 14, persistFormat := beAt a 16 2,
    persistFormatMin := beAt a 18 2, mirrorFormat := beAt a 20 2, mirrorFormatMin := beAt a 22 2, digest := BitVec.ofNat 256 (beAt a 24 32) }

/-- The part of UPD_PART (R402). -/
def updPartRead (a : List Byte) : Part :=
  let k := octetAt a 6
  { updateId := BitVec.ofNat 32 (beAt a 0 4), piece := beAt a 4 2, part := k, data := beAt a 8 512,
    tag := if k = 7 then beAt a 520 16 else 0, lengthOk := true }

/-- The definition of CAMP_DEFINE (R418). -/
def campDefRead (a : List Byte) : CampDef :=
  { campaign := octetAt a 0, fragsPerFrame := octetAt a 1, panId := BitVec.ofNat 16 (beAt a 2 2), tag := BitVec.ofNat 32 (beAt a 4 4),
    imageLength := beAt a 8 4, keyId := octetAt a 12, ttl := octetAt a 13, maxRounds := octetAt a 14, dutyShare := octetAt a 15,
    repairLimit := beAt a 16 2, windowStart := beAt a 20 4, windowLen := beAt a 24 4, digest := BitVec.ofNat 256 (beAt a 28 32) }

/-- The nodes of CAMP_MEMBERS (R419). -/
def membersRead (a : List Byte) : List Eui := (List.range (octetAt a 1)).map fun i => BitVec.ofNat 64 (beAt a (4 + 8 * i) 8)

/-- One octet, alone or followed by three octets of 0 (R399). -/
def octetArg (a : List Byte) : Bool := (a.length == 1 || a.length == 4) && zeroAt a 1 3

/-- The arguments of a code have the form that its section gives them; those of an unknown code are not judged (R316, R326). -/
def argsOk (code : Nat) (a : List Byte) : Bool :=
  if code = 1 then keyItemOk a
  else if code = 4 ∨ code = 0x103 ∨ code = 0x104 ∨ code = 0x105 ∨ code = 0x106 ∨ code = 0x201 ∨ code = 0x202 then a.isEmpty
  else if code = 5 then a.length == 8 && zeroAt a 1 3
  else if code = 0x101 then a.length == 56 && zeroAt a 15 1
  else if code = 0x102 then
    decide (octetAt a 6 < 8) && a.length == (if octetAt a 6 = 7 then 536 else 520) && zeroAt a 7 1
  else if code = 0x110 then a.length == 60 && zeroAt a 18 2
  else if code = 0x111 then decide (1 ≤ octetAt a 1 ∧ octetAt a 1 ≤ 15) && a.length == 8 + 64 * octetAt a 1 && zeroAt a 2 2
  else if code = 0x112 then decide (1 ≤ octetAt a 1 ∧ octetAt a 1 ≤ 126) && a.length == 4 + 8 * octetAt a 1 && zeroAt a 2 2
  else if code = 0x302 then a.length == 3
  else if code = 2 ∨ code = 3 ∨ code = 0x107 ∨ code = 0x113 ∨ code = 0x114 ∨ code = 0x115 ∨ code = 0x301 ∨ code = 0x303 ∨ code = 0x304 then
    octetArg a
  else true

end Sys2Proof.Machine

namespace Sys2Proof

open Machine

/-! ### Items (R316, R326) -/

/-- What an item carries. A FLOOD item's PAN stands nowhere in it, so it is free (see the log). -/
def DlItem.body (it : DlItem) : DlBody := match it.kind with
  | 0 => .node it.payload
  | 1 => .flood (Config.floodPan it.payload) it.payload
  | 2 => .key (keyItemRead it.payload)
  | 3 => .command (beAt it.payload 0 2) (it.payload.drop 4)
  | _ => .reserved

/-- The item is well formed: its DEST_KIND is not reserved, its LENGTH lies in the range of its kind and is that of its payload, and the payload
has its own format (R316, R326). -/
def DlItem.formOk (it : DlItem) : Bool :=
  it.length == it.payload.length && match it.kind with
    | 0 | 1 => decide (1 ≤ it.length ∧ it.length ≤ 1920)
    | 2 => keyItemOk it.payload
    | 3 => decide (4 ≤ it.length ∧ it.length ≤ 1024) && zeroAt it.payload 2 2 && argsOk (beAt it.payload 0 2) (it.payload.drop 4)
    | _ => false

/-- Octets 8 to 31 of the item's header (R326). -/
def DlItem.head (it : DlItem) : List Byte :=
  beBytes 1 it.kind ++ beBytes 1 it.reserved9 ++ beBytes 2 it.length ++ beBytes 4 it.expiry ++ beBytes 8 it.dest.toNat ++ beBytes 8 it.reserved24

/-- The octets of an item (R326). -/
def DlItem.octets (it : DlItem) : List Byte := beBytes 8 it.dsn ++ it.head ++ it.payload

/-- The digest of an item: the CRC-32 of IEEE 802.3 over octets 8 to 31 of its header followed by its payload (R316). -/
def DlItem.digest (it : DlItem) : Word := crc32 (ofBytes (it.head ++ it.payload))

/-- An item from the octets of a message, and the octets behind it; none where they end too soon (R325, R326). -/
def DlItem.read (l : List Byte) : Option (DlItem × List Byte) :=
  let n := beAt l 10 2
  if l.length < 32 + n then none
  else some ({ dsn := beAt l 0 8, kind := octetAt l 8, reserved9 := octetAt l 9, length := n, expiry := beAt l 12 4,
               dest := BitVec.ofNat 64 (beAt l 16 8), reserved24 := beAt l 24 8, payload := (l.drop 32).take n }, l.drop (32 + n))

/-- `n` items and nothing behind them (R325). -/
def DlItem.readAll : Nat → List Byte → Option (List DlItem)
  | 0, l => if l.isEmpty then some [] else none
  | n + 1, l => (DlItem.read l).bind fun x => (DlItem.readAll n x.2).map fun r => x.1 :: r

end Sys2Proof
end

