-- ==== Sys2Proof/Machine/Packets.lean ====
section
/-! DEFINITION. The octets of journal entries (R312) and of Ferry packets with their bodies (R322, R325), and what a frame on an Ethernet port
must be to carry one (R320). -/

namespace Sys2Proof.Machine

open Sys2Proof

/-! ### Journal entries (R312) -/

/-- A signed field of 16 bits. -/
def signed16 (v : Int) : Nat := (v % 65536).toNat

/-- The header of a journal entry without its CRC: octets 0 to 59 (R312). -/
def entryHead (h : EntryHdr) : Octets :=
  natToOs 8 h.jsn ++ natToOs 1 h.kind ++ natToOs 1 (h.ackReq.toNat + 2 * h.rerun.toNat) ++ natToOs 2 h.length ++ natToOs 4 h.counter ++
    octetsOf h.node ++ natToOs 8 h.endTime ++ natToOs 5 h.asn ++ natToOs 3 (h.port * 2 ^ 18 + h.mode * 2 ^ 14 + h.members * 2 ^ 10) ++
    natToOs 2 (signed16 h.level) ++ natToOs 2 (signed16 h.snr) ++ natToOs 4 h.epoch ++ natToOs 8 h.dsn ++ natToOs 1 h.outcome ++
    natToOs 1 h.cause ++ natToOs 2 0

/-- The payload of an entry: the frame's, for an UPLINK entry (R308, R312). -/
def Entry.payload (e : Entry) : Octets := if e.hdr.kind = 1 then ofBytes ((e.frame.map fun f => f.payload).getD []) else []

/-- A journal entry as it stands in the ring and travels over Ferry: its header with the CRC over header and payload, and the payload padded with
zeros to a multiple of 64 octets (R312). -/
def Entry.wire (e : Entry) : Octets :=
  let h := entryHead e.hdr
  let p := e.payload
  h ++ octetsOf (crc32 (h ++ p)) ++ p ++ List.replicate ((64 - p.length % 64) % 64) 0

/-! ### Ferry packets (R322) -/

/-- The header of a Ferry packet. -/
structure FerryHead where
  version  : Nat
  type     : Nat
  flags    : Nat
  session  : Nat
  packetNo : Nat
  deriving DecidableEq, Repr

/-- The 16 octets of a header. -/
def FerryHead.octets (h : FerryHead) : Octets := natToOs 1 h.version ++ natToOs 1 h.type ++ natToOs 2 h.flags ++ natToOs 4 h.session ++ natToOs 8 h.packetNo

/-- The header in the first 16 octets of a packet. -/
def ferryHeadRead (l : Octets) : FerryHead := ⟨osAt l 0 1, osAt l 1 1, osAt l 2 2, osAt l 4 4, osAt l 8 8⟩

/-- The IV of a packet: the direction, 1 from the device and 2 from the head-end, and PACKET_NO. -/
def ferryIv (direction packetNo : Nat) : Octets := natToOs 4 direction ++ natToOs 8 packetNo

/-- A packet of the device: its header in clear, its body encrypted, and the tag. -/
def sealPacket (key : BitVec 256) (h : FerryHead) (body : Octets) : Octets :=
  h.octets ++ gcmSeal (octetsOf key) (ferryIv 1 h.packetNo) h.octets body

/-- The body of a head-end's packet under a key; none where its tag fails. -/
def openPacket (key : BitVec 256) (l : Octets) : Option Octets :=
  gcmOpen (octetsOf key) (ferryIv 2 (ferryHeadRead l).packetNo) (l.take 16) (l.drop 16)

/-- The header is one of a packet that the head-end sends as `type`, with only the flags in `flags`. -/
def FerryHead.ok (h : FerryHead) (type flags : Nat) : Bool := h.version == 1 && h.type == type && h.flags == flags

/-! ### Message bodies (R325) -/

/-- COUNT and its 16 bits of 0, then the items of a DOWNLINK or MGMT-CMD message; none for a body that fails the format. -/
def itemsRead (b : Octets) : Option (List DlItem) :=
  if b.length < 4 ∨ osAt b 2 2 ≠ 0 then none else DlItem.readAll (osAt b 0 2) (toBytes (b.drop 4))

/-- ACK_JSN of a UL-ACK. -/
def ulAckRead (b : Octets) : Option Nat := if b.length = 8 then some (osToNat b) else none

/-- What a HEARTBEAT carries: ROLE, EPOCH, BASE_JSN, NEXT_JSN, ACK_JSN and NEXT_DSN. -/
def heartbeatOctets (role epoch base next ack nextDsn : Nat) : Octets :=
  natToOs 1 role ++ natToOs 3 0 ++ natToOs 4 epoch ++ natToOs 8 base ++ natToOs 8 next ++ natToOs 8 ack ++ natToOs 8 nextDsn

/-- The head-end's HEARTBEAT: its two nonces, where OPEN is set. -/
def heartbeatRead (isOpen : Bool) (b : Octets) : Option (BitVec 128 × BitVec 128) :=
  if b.length = (if isOpen then 72 else 40) ∧ osAt b 0 4 = 0 then
    some (if isOpen then (BitVec.ofNat 128 (osAt b 40 16), BitVec.ofNat 128 (osAt b 56 16)) else (0, 0))
  else none

/-- The request of a MGMT-READ: REQ_ID and its pairs of ADDRESS and WORDS. -/
def readsRead (b : Octets) : Option (Word × List (Word × Nat)) :=
  let n := osAt b 4 2
  let l := (List.range n).map fun i => (BitVec.ofNat 32 (osAt b (8 + 8 * i) 4), osAt b (12 + 8 * i) 2)
  if b.length = 8 + 8 * n ∧ osAt b 6 2 = 0 ∧ (List.range n).all (fun i => osAt b (14 + 8 * i) 2 == 0) ∧
      l.all (fun x => decide (1 ≤ x.2 ∧ x.2 ≤ 64)) then
    some (BitVec.ofNat 32 (osAt b 0 4), l)
  else none

/-- The body of a MGMT-READ response. -/
def wordsOctets (req : Word) (l : List Word) : Octets := octetsOf req ++ l.flatMap fun w => octetsOf w

/-- The body of an UPLINK or OUTCOME message. -/
def entriesOctets (l : List Entry) : Octets := natToOs 2 l.length ++ natToOs 2 0 ++ l.flatMap fun e => e.wire

/-! ### Isthmus records (R376, R377) -/

/-- The 16-octet header of an Isthmus record. -/
def recordHead (bulk commitReq : Bool) (mseq epoch : Nat) (body : Body) (length : Nat) : Octets :=
  natToOs 1 body.type ++ natToOs 1 (bulk.toNat + 2 * commitReq.toNat) ++ natToOs 2 length ++ natToOs 4 epoch ++ natToOs 8 mseq

/-- The IV of a record: the direction, 1 from role A and 2 from role B, and MSEQ. -/
def isthmusIv (roleB : Bool) (mseq : Nat) : Octets := natToOs 4 (1 + roleB.toNat) ++ natToOs 8 mseq

/-- A record on the link: its header in clear, its body encrypted, and the tag. The spec lays out no body of a record, so the octets of the body
are what the two chips agree on. -/
def sealRecord (key : BitVec 256) (roleB bulk commitReq : Bool) (mseq epoch : Nat) (body : Body) (octets : Octets) : Octets :=
  let h := recordHead bulk commitReq mseq epoch body octets.length
  h ++ gcmSeal (octetsOf key) (isthmusIv roleB mseq) h octets

/-! ### Frames (R320) -/

/-- The ones' complement sum of the 16-bit words of a string, the last one filled up with 0. -/
def onesSum (l : Octets) : Nat :=
  (pieces 2 l).foldl (fun a w => let x := a + osToNat w * (if w.length = 1 then 256 else 1); x % 65536 + x / 65536) 0

/-- The UDP checksum of a frame is right over the IPv6 pseudo-header, the UDP header and the payload (RFC 8200). -/
def checksumOk (f : FerryFrame) : Bool :=
  let n := 8 + f.payload.length
  f.checksum != 0 && onesSum (octetsOf f.src ++ octetsOf f.dst ++ natToOs 4 n ++ natToOs 4 17 ++ natToOs 2 f.srcPort ++ natToOs 2 f.dstPort ++
    natToOs 2 n ++ natToOs 2 f.checksum ++ ofBytes f.payload) == 65535

end Sys2Proof.Machine

namespace Sys2Proof

open Machine

/-! ### IP packets

The fields of an IP packet, after RFC 8200 and RFC 791 (PRESUMED, see the log). -/

/-- The octets of a packet. -/
def Packet.bytes (p : Packet) : Octets := ofBytes p.octets

/-- The packet is IPv6 of at least a header. -/
def Packet.v6 (p : Packet) : Bool := osAt p.bytes 0 1 / 16 == 6 && decide (40 ≤ p.octets.length)

/-- The packet is IPv4 of at least a header. -/
def Packet.v4 (p : Packet) : Bool := osAt p.bytes 0 1 / 16 == 4 && decide (20 ≤ p.octets.length)

/-- The destination of a packet: an IPv4 address stands in the low 32 bits. -/
def Packet.dst (p : Packet) : BitVec 128 := BitVec.ofNat 128 (if p.v6 then osAt p.bytes 24 16 else osAt p.bytes 16 4)

/-- The hop limit or TTL of a packet. -/
def Packet.hopLimit (p : Packet) : Nat := if p.v6 then osAt p.bytes 7 1 else osAt p.bytes 8 1

/-- The IPv4 header checksum after the TTL has lost 1 (RFC 1624). -/
def ttlChecksum (sum ttl protocol : Nat) : Nat :=
  let x := (65535 - sum) + (65535 - (ttl * 256 + protocol)) + ((ttl - 1) * 256 + protocol)
  let y := x % 65536 + x / 65536
  65535 - (y % 65536 + y / 65536)

/-- The packet as it is forwarded: its hop limit or TTL decremented, the IPv4 header checksum updated, and every other octet unchanged (R348). -/
def Packet.sentOn (p : Packet) : Octets :=
  let l := p.bytes
  if p.v6 then l.take 7 ++ [p.hopLimit - 1] ++ l.drop 8
  else l.take 8 ++ [p.hopLimit - 1] ++ (l.drop 9).take 1 ++ natToOs 2 (ttlChecksum (osAt l 10 2) (osAt l 8 1) (osAt l 9 1)) ++ l.drop 12

end Sys2Proof
end

