-- ==== Sys2Proof/Machine/Booking.lean ====
section
/-! DEFINITION. Bookings of transmissions and the regulatory accounts (07_transmit.md, with R198 and R250 to R257), shared by the
slot scheduler, the commit sequencer and the token. -/

namespace Sys2Proof.Machine

open Host

/-- TX_PREP: 2.0 µs (R196). -/
def txPrep : Time := us 2

/-- ACK_MARGIN: 16 ns (R252). -/
def ackMargin : Time := ns 16

/-- The head or analogue port of transmit stream `st` (R186). -/
def txHead (st : Nat) : Nat := st / 2

/-- Transmit stream `st` is usable (R186). -/
def streamUsable (s : State) (st : Nat) : Bool :=
  s.fldAt rTxmStreamCtrl st 16 1 == 1 && s.headUp (txHead st) &&
    (decide (st < 64) || s.fldAt rAnaPortCtrl ((st - 64) / 2) (4 + st % 2) 1 == 1)

/-- The channel lies within ±9.0 MHz of the stream's TX_CENTRE, edge to edge (R187). -/
def inBand (s : State) (st c : Nat) : Bool :=
  let ch := channelOf s c
  let d := (ch.centre : Int) - txCentre s st
  decide (2 * d + ch.width ≤ 18000000 ∧ -2 * d + ch.width ≤ 18000000)

/-- The transmit stream of head `h` that a transmission on channel `c` takes: the first usable one that reaches the channel, else
the first usable one. -/
def txStreamOf (s : State) (h c : Nat) : Option Nat :=
  let l := [2 * h, 2 * h + 1].filter fun st => streamUsable s st
  match l.filter fun st => inBand s st c with
  | st :: _ => some st
  | [] => l.head?

/-- The time at which the first transmit group leaves for air start `a` on stream `st` (R196, R252). -/
def leaveTime (s : State) (st : Nat) (a : Time) : Time :=
  let h := txHead st
  if h < 32 then a - ((oneWay s h (s.port h).rtt).2.toNat + us (s.fldAt rFhPortCtrl h 8 8)) else a - Config.upLatency

/-! ### Accounts (R206) -/

/-- The account of kind `k` (0 dwell of a channel, 1 duty of a sub-band, 2 and 3 the campaign sub-accounts of R424). -/
def accountKey (k id h : Nat) : Nat := (k * 2 ^ 16 + id) * 64 + h

/-- The bucket that holds time `t`, for a window of `win` seconds. -/
def bucketAt (win : Nat) (t : Time) : Nat := if win = 0 then 0 else t * 64 / sec win

/-- The airtime in µs in bucket `b` and the 64 before it. -/
def accountSum (s : State) (key b : Nat) : Nat :=
  ((afind s.txm.accounts key).getD []).foldl (fun n x => if x.1 ≤ b ∧ b ≤ x.1 + 64 then n + x.2 else n) 0

/-- Charge `a` µs to bucket `b`; buckets that have left the ring are forgotten. -/
def accountAdd (key b a : Nat) (s : State) : State :=
  let l := (afind s.txm.accounts key).getD []
  let l1 := if l.any fun x => x.1 == b then l.map fun x => if x.1 = b then (b, x.2 + a) else x else l ++ [(b, a)]
  { s with txm.accounts := aput s.txm.accounts key (l1.filter fun x => decide (b ≤ x.1 + 64)) }

/-- Take `a` µs back from bucket `b`. -/
def accountSub (key b a : Nat) (s : State) : State :=
  { s with txm.accounts := amod s.txm.accounts key fun l =>
      (l.map fun x => if x.1 = b then (b, x.2 - a) else x).filter fun x => x.2 != 0 }

/-- A fragment or piece frame (R424). -/
def TxUse.isCampaign : TxUse → Bool
  | .campaign _ _ | .repair _ _ | .piece _ _ => true
  | _ => false

/-- The accounts and buckets that a transmission on channel `c` of head `h` starting at `a` falls into, as (key, bucket, limit in
µs); no limit where there is no rule. -/
def accountsOf (s : State) (c h : Nat) (a : Time) (base : Nat) : List (Nat × Nat × Option Nat) :=
  let ch := channelOf s c
  let r := regProfile s ch.profile
  (accountKey base c h, bucketAt r.dwellWin a, if r.dwellMs = 0 then none else some (r.dwellMs * 1000)) ::
  (match subbandOf s ch with
   | some (i, duty) => [(accountKey (base + 1) i h, bucketAt r.dutyWin a, if duty = 0 then none else some (duty * r.dutyWin * 10))]
   | none => [])

/-- Charge the accounts of a transmission. -/
def charge (c h : Nat) (a : Time) (airtime : Nat) (camp : Bool) (s : State) : State :=
  (accountsOf s c h a 0 ++ if camp then accountsOf s c h a 2 else []).foldl
    (fun s x => accountAdd x.1 x.2.1 airtime s) s

/-- Refund the accounts of a transmission. -/
def refund (b : Booking) (s : State) : State :=
  let h := txHead b.stream
  (accountsOf s b.channel h b.start 0 ++ if b.use.isCampaign then accountsOf s b.channel h b.start 2 else []).foldl
    (fun s x => accountSub x.1 x.2.1 b.airtime s) s

/-! ### Admission (R187, R189, R194, R206) -/

/-- What a transmission asks for. `power` is the antenna power in 0.25 dBm. -/
structure TxReq where
  use     : TxUse
  stream  : Nat
  channel : Nat
  start   : Time
  airtime : Nat
  power   : Int
  profile : Nat
  cell    : Option Nat
  extra   : Nat := 0
  deriving DecidableEq, Repr

/-- The end of a booking on air. -/
def Booking.stop (b : Booking) : Time := b.start + us b.airtime

/-- The bookings that overlap [a, z). -/
def overlapping (l : List Booking) (a z : Time) : List Booking := l.filter fun b => decide (b.start < z ∧ a < b.stop)

/-- The most bookings of `l` that overlap at one moment of [a, z). -/
def crowd (l : List Booking) (a z : Time) : Nat :=
  let o := overlapping l a z
  (a :: (o.map fun b => b.start).filter fun t => decide (a ≤ t)).foldl
    (fun m t => max m (o.filter fun b => decide (b.start ≤ t ∧ t < b.stop)).length) 0

/-- The modulators not retired under R203. -/
def modulatorsLeft (s : State) : Nat := 256 - (s.hlt.retired.filter fun r => r.kind == 5).length

/-- The gain of a request in 0.25 dB, from −160 to 0 (R194). -/
def gainOf (s : State) (q : TxReq) : Int :=
  max (-160) (min 0 (q.power - s.signedAt rTxmStreamCtrl q.stream 0 16))

/-- A request above TX_REF. -/
def clipped (s : State) (q : TxReq) : Bool := decide (s.signedAt rTxmStreamCtrl q.stream 0 16 < q.power)

/-- Why a transmission is not admitted, in the order in which the device looks (the order is the model's choice). -/
inductive TxRefusal where
  | unusable | band | modulator | power | dwell | duty
  deriving DecidableEq, Repr

/-- The first reason, if any, against a transmission. -/
def txRefusal (s : State) (q : TxReq) : Option TxRefusal :=
  let z := q.start + us q.airtime
  let r := regProfile s (channelOf s q.channel).profile
  let mine := s.txm.bookings.filter fun b => b.stream == q.stream
  let share := shareOf (gainOf s q).natAbs
  let full (x : Nat × Nat × Option Nat) : Bool := match x.2.2 with
    | some lim => decide (lim < accountSum s x.1 x.2.1 + q.airtime)
    | none => false
  let acc := accountsOf s q.channel (txHead q.stream) q.start 0
  if !streamUsable s q.stream then some .unusable
  else if !inBand s q.stream q.channel then some .band
  else if modulatorsLeft s ≤ crowd s.txm.bookings q.start z ∨ 16 ≤ crowd mine q.start z then some .modulator
  else if 65536 < (overlapping mine q.start z).foldl (fun n b => n + b.share) share then some .power
  else if (r.maxTx ≠ 0 ∧ r.maxTx * 1000 < q.airtime) ∨ (acc.take 1).any full then some .dwell
  else if (acc.drop 1).any full then some .duty
  else none

/-- Count a refusal (R187, R189, R194, R206). -/
def countRefusal (r : TxRefusal) (s : State) : State := match r with
  | .unusable => s
  | .band => bump cTxmBandRefuse 0 s
  | .modulator => bump cTxmNoModulator 0 s
  | .power => bump cTxmPowerRefuse 0 s
  | .dwell => bump cSchDwellRefuse 0 s
  | .duty => bump cSchDutyRefuse 0 s

/-- A standby's calibration engine takes a transmission of the active into the log that it matches loopbacks against (R226, R233). -/
def logMirrored (h channel : Nat) (start : Time) (gain : Int) (profile : Nat) (s : State) : State :=
  s.modCal h fun c => { c with txLog := (⟨channel, start, gain, c.txGen, preambleTime s profile 0⟩ :: c.txLog).take 4096 }

/-- Enter a booking and charge its airtime; the number is the booking's. -/
def bookNow (q : TxReq) (s : State) : Nat × State :=
  let g := gainOf s q
  let b : Booking := { id := s.txm.nextId, use := q.use, stream := q.stream, start := q.start, airtime := q.airtime,
                       leave := leaveTime s q.stream q.start, channel := q.channel, profile := q.profile, gain := g,
                       share := shareOf g.natAbs, cell := q.cell, ready := false, extra := q.extra }
  let s1 := if clipped s q then bump cTxmPowerClip 0 s else s
  (s.txm.nextId, charge q.channel (txHead q.stream) q.start q.airtime q.use.isCampaign
    { s1 with txm.bookings := s1.txm.bookings ++ [b], txm.nextId := s1.txm.nextId + 1 })

/-- Admit a transmission or count why not. -/
def admitTx (q : TxReq) (s : State) : Option Nat × State := match txRefusal s q with
  | some r => (none, countRefusal r s)
  | none => (some (bookNow q s).1, (bookNow q s).2)

/-- The booking of number `id`. -/
def bookingOf (s : State) (id : Nat) : Option Booking := s.txm.bookings.find? fun b => b.id == id

/-- A booking is removed before its start: refunded and counted (R189). -/
def unbook (id : Nat) (s : State) : State := match bookingOf s id with
  | some b => bump cTxmBookingRemoved 0 (refund b { s with txm.bookings := s.txm.bookings.filter fun x => x.id != id })
  | none => s

/-- A booking whose transmission has ended or was cut: its charge stands. -/
def closeBooking (id : Nat) (s : State) : State :=
  { s with txm.bookings := s.txm.bookings.filter fun x => x.id != id }

/-- Every modulator stops at its next sample (R197). -/
def cutAll (s : State) : State :=
  s.txm.running.foldl
    (fun s x => closeBooking x.2.booking.id
      ((bump cTxmTxAbort 0 { s with txm.running := adel s.txm.running x.1 }).out (.txCut x.1 x.2.booking.stream))) s

/-! ### A transmission that does not take place (R189, R210) -/

/-- Change the record of item `d`. -/
def modDl (d : Nat) (f : DlRec → DlRec) (s : State) : State :=
  { s with dl.recs := s.dl.recs.map fun r => if r.item.dsn = d then f r else r }

/-- What a booking was for waits again. -/
def backToWait (u : TxUse) (s : State) : State := match u with
  | .downlink d => modDl d (fun r => match r.state with
      | .booked _ => { r with state := .waiting }
      | _ => r) s
  | .transit id => { s with fwd.transit := s.fwd.transit.map fun x => if x.id = id then { x with booked := false } else x }
  | _ => s

/-- Booking `b` is removed before its start, and what it was for waits again (R189). -/
def cancelTx (b : Booking) (s : State) : State := backToWait b.use (unbook b.id s)

/-- Item `d` is deferred once more (R210). -/
def deferItem (d : Nat) (s : State) : State :=
  let k := (afind s.sch.defers d).getD 0
  bump cSchTxDefer 0 { s with sch.defers := aput s.sch.defers d (k + 1) }

/-- Booking `b` is removed before its start and its transmission deferred, or a beacon skipped (R210, R283). -/
def deferTx (b : Booking) (s : State) : State :=
  let s1 := cancelTx b s
  match b.use with
  | .beacon _ => bump cSchBeaconSkip 0 s1
  | .downlink d => deferItem d s1
  | .ack _ | .sweep _ => s1
  | _ => bump cSchTxDefer 0 s1

/-! ### Guard time (R231, R263) -/

/-- The drift bound of a node in 1/1,024 ppm (R231). -/
def driftBound (s : State) (n : Node) : Nat :=
  if n.cal.fresh < 3 then s.fld rCalNodeCtrl 0 16 else n.cal.drift.natAbs + 3 * n.cal.sigma

/-- The scale of guard terms: 1 µs is 10,240,000,000. -/
def guardScale : Nat := 10240000000

/-- The term of node INDEX `i` at ASN `a`, in 1/guardScale µs; none when the node is stale (R263). An INDEX without an entry has no
term. -/
def termOf (s : State) (i a : Nat) : Option Nat := match s.nodeAt i with
  | none => some 0
  | some n =>
    let d := (a + 2 ^ 32 - n.cal.lastAsn) % 2 ^ 32
    if 2 ^ 31 ≤ d then none
    else
      let dt := d * (s.slotLen / us 1)
      let since := (s.sch.lastSlew + 2 ^ 32 - n.cal.lastAsn) % 2 ^ 32
      let slewed := decide (0 < since ∧ since < 2 ^ 31)
      some (driftBound s n * dt * 10 + if slewed then s.fld rTimeCtrl 8 8 * dt * 1024 else 0)

/-- G0 in µs. -/
def g0 (s : State) : Nat := s.fld rSchGuard 0 12
/-- G_MAX in µs. -/
def gMax (s : State) : Nat := s.fld rSchGuard 12 12

/-- The guard of a cell for nodes `is` at ASN `a`, in 1/guardScale µs. -/
def guardOf (s : State) (is : List Nat) (a : Nat) : Option Nat :=
  is.foldl (fun g i => match g, termOf s i a with
    | some x, some y => some (x + y)
    | _, _ => none) (some (g0 s * guardScale))

/-! ### Acknowledgements (R198, R199, R210, R251, R252, R256, R257) -/

/-- Queue a notice; a newer one for a cell replaces an older one that has not yet been sent (R266, R267). -/
def queueNotice (node action cell : Nat) (s : State) : State :=
  { s with sch.notices := (s.sch.notices.filter fun n => n.begun || n.node != node || n.cell != cell) ++
      [⟨node, action, cell, false⟩] }

/-- The RESYNC cell that a node in resync is assigned: the first of the table (R265; which one is the model's choice). -/
def resyncCell (s : State) : Option Nat :=
  ((s.entries tSchCell).find? fun x => (cellOf x.2).kind == 7).map fun x => x.1

/-- Node INDEX `i` goes to resync, with a RESYNC notice for the cell it is assigned (R257, R264, R265). -/
def toResync (i : Nat) (s : State) : State :=
  if s.sch.resync.contains i then s
  else
    let s1 : State := { s with sch.resync := s.sch.resync ++ [i] }
    match resyncCell s with
    | some c => queueNotice i 3 c s1
    | none => s1

/-- The member port of highest quality, the lower port number on a tie (R251). -/
def bestMember (x : Group) : Option (Nat × Time × Int) :=
  x.ports.foldl (fun b m => match b with
    | none => some m
    | some y => if y.2.2 < m.2.2 ∨ y.2.2 = m.2.2 ∧ m.1 < y.1 then some m else some y) none

/-- The member on the port from which the acknowledgement of group `x` goes, before any rehoming (R251). -/
def ackMember (s : State) (x : Group) (sm : Summary) : Option (Nat × Time × Int) :=
  let home : Option Nat := match s.nodeOf sm.node with
    | some (_, n) => if n.unhomed || n.dormant then none else some n.homePort
    | none => (s.fwd.newcomers.find? fun m => m.node == sm.node).bind fun m => m.reserve
  match home.bind fun h => x.ports.find? fun m => m.1 == h with
  | some m => some m
  | none => bestMember x

/-- The other member ports within REHOME_MARGIN of `m`, best first (R210). -/
def rehomeMembers (s : State) (x : Group) (m : Nat × Time × Int) : List (Nat × Time × Int) :=
  (x.ports.filter fun y => y.1 ≠ m.1 && decide (m.2.2 ≤ y.2.2 + s.fld rSchTxCtrl 0 8)).mergeSort
    fun a b => decide (b.2.2 < a.2.2 ∨ b.2.2 = a.2.2 ∧ a.1 ≤ b.1)

/-- The notices that the next frame to node INDEX `i` carries: its first four that no frame has carried yet (R267). -/
def noticesFor (s : State) (i : Nat) : List Notice := (s.sch.notices.filter fun n => n.node == i && !n.begun).take 4

/-- The fields of notice `n` (R267); GUARD is the guard that device transmissions in a RESYNC cell cover. -/
def noticeOctets (s : State) (n : Notice) : List Byte :=
  let c := cellOf (s.entry tSchCell n.cell)
  let g := if n.action = 3 then ((guardOf s [n.node] (s.asnAt s.clock.now)).map fun g => (g + guardScale - 1) / guardScale).getD 0 else 0
  noticeFields n.action (slotframeOf s c.slotframe).handle c.offset c.chOffset g

/-- The security level of what the device sends: the profile's, 5 by default (R280). A TXM_PROFILE entry has no field for another (R191). -/
def sendLevel : Nat := 5

/-- The GROUP key index of the frame of group `g`; none for a frame under a NODE key (R276). -/
def ackIndex (s : State) (g : Nat) : Option Nat :=
  ((s.groupOf g).bind fun x => x.lookup).bind fun f => if f.kim = 1 then some f.keyIndex else none

/-- The octets of the acknowledgement in template `a` of group `g`, under outbound counter `counter`, protected by `sealing` (R198, R257). -/
def ackOctets (s : State) (g : Nat) (a : AckTmpl) (counter : Nat) (sealing : List Byte → List Byte → List Byte) : List Byte :=
  ackFrame a.node a.sequence sendLevel counter (ackIndex s g) a.correction (a.notices.map fun n => noticeOctets s n) sealing

/-- The profile of an acknowledgement to a frame of node `e` that began at `t`: that of an uplink cell of the node, or a shared one, which
begins in that slot (R248, R249), or else the one that the summary names. -/
def ackProfile (s : State) (sm : Summary) (t : Time) : Nat :=
  let a := s.asnAt t
  let mine (c : Cell) : Bool :=
    (c.kind == 1 || c.kind == 3 || c.kind == 7) && (c.shared || s.indexOf sm.node == some c.node) &&
      (slotframeOf s c.slotframe).valid && (slotframeOf s c.slotframe).length != 0 && a % (slotframeOf s c.slotframe).length == c.offset
  (((s.entries tSchCell).find? fun x => mine (cellOf x.2)).map fun x => (cellOf x.2).profile).getD sm.profile

/-- The antenna power of an acknowledgement: from the node's path loss (R194); a node without an entry has none. -/
def ackPower (s : State) (e : Eui) (profile : Nat) : Int := match s.nodeOf e with
  | some (_, n) => Config.nodePower n.cal.pathLoss profile
  | none => Config.strangerPower profile

/-- ACK_GAP in 1/16 ns. -/
def ackGap (s : State) : Time := us (s.fld rSchCtrl 9 12)

/-- The leave time of an acknowledgement from member `m` (R251, R252). -/
def ackLeave (s : State) (sm : Summary) (m : Nat × Time × Int) : Option Time :=
  (txStreamOf s m.1 sm.channel).map fun st => leaveTime s st (m.2.1 + ackGap s)

/-- A planned handover forbids acknowledgements that leave in [T_h, T_h + 4 µs) (R396). -/
def handoverBars (s : State) (leave : Time) : Bool := match s.pair.handover with
  | some h => h.own && decide (h.th ≤ leave ∧ leave < h.th + us 4)
  | none => false

/-- The correction in µs for a frame that began at `t` (R257): the negative of its TIMING. -/
def correctionOf (s : State) (t : Time) : Int :=
  let a := s.asnAt t
  let want := s.slotStart a + us (s.fld rSchTiming 0 16)
  0 - ((t : Int) - want) / us 1

/-- The template of an acknowledgement of group `g`, still without a booking; its correction is the negative of the frame's TIMING, within
±2,047 µs (R257). -/
def ackTemplate (s : State) (sm : Summary) (start : Time) : AckTmpl :=
  { booking := 0, node := sm.node, deadline := 0, correction := max (-2047) (min 2047 (correctionOf s start)), armed := false,
    sequence := sm.sequence, notices := ((s.indexOf sm.node).map fun i => noticesFor s i).getD [] }

/-- A correction beyond ±2,047 µs is counted, and the node goes to resync (R257). -/
def ackClip (sm : Summary) (start : Time) (s : State) : State :=
  let c := correctionOf s start
  if 2047 < c ∨ c < -2047 then
    bump cSchTcClip 0 (match s.indexOf sm.node with | some i => toResync i s | none => s)
  else s

/-- Book the acknowledgement of group `g` from member `m`, with its template (R198, R252). -/
def bookAckAt (g : Nat) (sm : Summary) (m : Nat × Time × Int) (s : State) : Option AckTmpl × State :=
  match txStreamOf s m.1 sm.channel with
  | none => (none, s)
  | some st =>
    let start := m.2.1 + ackGap s
    let leave := leaveTime s st start
    if handoverBars s leave then (none, s)
    else
      let began := (s.groupOf g).map (fun x => x.start) |>.getD 0
      let a := ackTemplate s sm began
      let profile := ackProfile s sm began
      let len := (ackOctets s g a 0 (unsealed sendLevel)).length
      match admitTx ⟨.ack g, st, sm.channel, start, airtimeOf s profile len 0, ackPower s sm.node profile, profile, none, 0⟩ s with
      | (none, s1) => (none, s1)
      | (some id, s1) =>
        let b : AckTmpl := { a with booking := id, deadline := leave - (txPrep + ackMargin) }
        let s2 := ackClip sm began s1
        (some b, { s2 with txm.acks := aput s2.txm.acks g b })

/-- Try the members in turn; each success after the first member counts as rehomed (R210). -/
def bookAckAmong (g : Nat) (sm : Summary) (s : State) : List (Nat × Time × Int) → Option AckTmpl × State
  | [] => (none, bump cSchAckRefuse 0 s)
  | m :: r => match bookAckAt g sm m s with
    | (some a, s1) => (some a, bump cSchAckRehome 0 s1)
    | (none, s1) => bookAckAmong g sm s1 r

/-- Book the acknowledgement of group `g` at header time (R198, R199, R210, R243). -/
def bookAck (g : Nat) (x : Group) (sm : Summary) (s : State) : Option AckTmpl × State :=
  if !s.sch.started then (none, bump cSchAckRefuse 0 s)
  else match ackMember s x sm with
    | none => (none, bump cSchAckRefuse 0 s)
    | some m => match bookAckAt g sm m s with
      | (some a, s1) => (some a, s1)
      | (none, s1) => bookAckAmong g sm s1 (rehomeMembers s x m)

/-- The template of group `g` is discarded unsent with its booking (R199). -/
def dropAck (g : Nat) (s : State) : State := match afind s.txm.acks g with
  | some a => unbook a.booking { s with txm.acks := adel s.txm.acks g }
  | none => s

/-- A group gives up its number once its lanes have ended, its candidate is closed and its template is gone (R169). -/
def groupSettle (g : Nat) (s : State) : State :=
  match s.groupOf g with
  | none => s
  | some x =>
    if x.members.isEmpty && (afind s.jrn.cands g).isNone && (afind s.txm.acks g).isNone then
      { s with lane.groups := adel s.lane.groups g } else s

end Sys2Proof.Machine
end

