-- ==== Sys2Proof/Machine/Flags.lean ====
section
/-! DEFINITION. The status that follows from the rest of State: occupancies, watermarks, HLT_ALERT and the level outputs (R54, R56,
R462 to R464), and the end that every meaning shares. -/

namespace Sys2Proof.Machine

open Host

/-! ### Roles -/

/-- A solo device (R370). -/
def State.solo (s : State) : Bool := s.pair.state == .solo

/-- The active or solo chip, which alone assigns JSNs and sends to the head-end (R301, R321). -/
def State.leads (s : State) : Bool := s.pair.state == .solo || s.pair.state == .active

/-- Records are exchanged with a partner. -/
def State.linked (s : State) : Bool := s.pair.paired && s.isthmusUp

/-- The active mirrors to the partner that it is paired with; declaring it lost ends the pairing (R381). -/
def State.mirrors (s : State) : Bool := s.pair.state == .active && s.linked

/-- The active's partner is paired and has completed its resynchronisation. -/
def partnerStandby (s : State) : Bool := s.pair.state == .active && s.linked && s.pair.phase == 0 && !s.pair.partnerLost

/-- The partner runs an unconfirmed image (R413). -/
def partnerUnconfirmed (s : State) : Bool := s.mirrors && s.key.hello.any fun h => !h.confirmed

/-- The criteria of R414, apart from an image that is to be confirmed. -/
def confirmCriteria (s : State) : Bool :=
  s.inService && s.leads && s.fry.session != 0 && s.upd.ackMoved && decide (s.upd.upPorts ≤ s.portsUp + s.fld rPairCtrl 23 5) &&
    (s.solo || (s.upd.actState == 6 && partnerStandby s))

/-! ### Occupancies -/

/-- LANE_STATUS.LANES_BUSY: lanes not FREE and not retired. -/
def lanesBusy (s : State) : Nat :=
  (s.lane.lanes.filter fun x => x.2.state != .free && !isRetired s 3 x.1).length

/-- The lanes that are FREE, of those not retired (R184). -/
def lanesFree (s : State) : Nat :=
  4096 - (s.hlt.retired.filter fun r => r.kind == 3).length - lanesBusy s

/-- JRN_STATUS.OWED. -/
def owedCount (s : State) : Nat := (s.jrn.entries.filter fun e => e.state == .owed).length

/-- The octets that an entry takes in the ring (R312): its header and its payload, padded to 64. -/
def Entry.octets (e : Entry) : Nat := 64 + (e.hdr.length + 63) / 64 * 64

/-- The octets of the journal ring in use by entries above JRN_ACK_JSN (R313). -/
def ringUsed (s : State) : Nat := s.jrn.entries.foldl (fun n e => n + e.octets) 0

/-- The octets of the journal ring, JRN_RING_SIZE. -/
def ringSize (s : State) : Nat := s.fld rJrnRingSize 0 16 * 2 ^ 20

/-- JRN_STATUS.RING_PCT. -/
def ringPct (s : State) : Nat := if ringSize s = 0 then 0 else min 100 (ringUsed s * 100 / ringSize s)

/-- FWD_RB_STATUS.OVERFLOW. -/
def overflowUsed (s : State) : Nat := (s.fwd.nodes.filter fun x => x.2.place == .overflow).length

/-- The read words of a quay item (R444). -/
def QItem.readWords (i : QItem) : Nat := (i.words.length + 7) / 8

/-- The read words that quay `q` can hold: its share and its overflow (R443, R445). -/
def quayCap (s : State) (q : Nat) : Nat := s.fldAt rQuayCfg q 0 17 + s.fldAt rQuayCfg q 17 7 * 32768

/-- The read words of quay `q` that complete items hold and that its open claim has taken. -/
def quayUsed (s : State) (q : Nat) : Nat :=
  let k := (afind s.msys.quays q).getD {}
  k.items.foldl (fun n i => n + i.readWords) 0 - k.read + k.claim

/-! ### Watermarks (R462, R463) -/

/-- The quantity of a watermark source. -/
def wmSource (s : State) : Nat → Nat
  | 1 => lanesBusy s
  | 2 => s.lane.contexts.length
  | 3 => s.det.fifo.length
  | 4 => s.key.queue.length
  | 5 => owedCount s
  | 6 => ringPct s
  | 7 => overflowUsed s
  | 8 => s.fwd.seen.length
  | 9 => s.hlt.coal.length
  | 10 => s.hlt.queue.length
  | _ => 0

/-- The indications of a watermark whose source now lies above its threshold, or not (R447). -/
def Wm.step (w : Wm) (above : Bool) : Wm :=
  if above && !w.above then { above := true, crossed := true, count := min 255 (w.count + 1) } else { w with above := above }

/-- HLT_WM_CFGn. -/
def wmCfg (s : State) (n : Nat) : Nat := (s.reg (rHltWmCfg + n * 8)).toNat

/-- Watermark `n` is above its threshold now. -/
def wmAbove (s : State) (n : Nat) : Bool :=
  let c := wmCfg s n
  c % 32 != 0 && decide (c / 2 ^ 8 % 2 ^ 16 < wmSource s (c % 32))

/-- The general watermarks after a change of their sources. -/
def wmsNext (s : State) : List (Nat × Wm) :=
  (List.range 32).foldl
    (fun l n => let w := (afind s.hlt.wms n).getD {}
      if w.step (wmAbove s n) = w then l else aput l n (w.step (wmAbove s n))) s.hlt.wms

/-- Some watermark with its ALERT bit set crosses now. -/
def wmAlert (s : State) : Bool :=
  (List.range 32).any fun n =>
    wmAbove s n && !((afind s.hlt.wms n).getD {}).above && wmCfg s n / 2 ^ 5 % 2 == 1

/-- Evaluate the general watermarks, and since when the criteria of R414 have held; a frozen Control island keeps them as they are. -/
def settle (s : State) : State :=
  if s.hlt.frozen then s
  else { s with hlt.wms := wmsNext s, hlt.watermark := s.hlt.watermark || wmAlert s,
                hlt.confirmSince := if confirmCriteria s then some (s.hlt.confirmSince.getD s.clock.now) else none }

/-- What a command answers: the state after it, or a fault for an instance that the spec says does not exist. -/
def onInst (ok : Bool) (s : State) : Outcome State Fault Refusal :=
  if ok then .next (settle s) else .fault .noSuchInstance

/-! ### HLT_ALERT and the level outputs -/

/-- An image is in force and it is not confirmed (R464). -/
def unconfirmed (s : State) : Bool := s.start.image.isSome && !s.start.confirmed &&
  (match s.start.phase with | .p0 | .p1 | .p2 | .p3 | .hold => false | _ => true)

/-- HLT_ALERT (R464). -/
def hltAlert (s : State) : Nat :=
  s.hlt.ddrOne.toNat + s.hlt.fallback.toNat * 2 + (unconfirmed s).toNat * 4 + s.hlt.degraded.toNat * 8 +
    (s.pair.partnerLost || s.pair.absent).toNat * 16 + s.hlt.watermark.toNat * 32 + s.hlt.frozen.toNat * 64

/-- ALERT_N is driven low (R464). In P0 to P3, in HOLD and while HALTED it stays released (R54, R55). -/
def alertLow (s : State) : Bool := hltAlert s != 0 &&
  (match s.start.phase with | .p0 | .p1 | .p2 | .p3 | .hold | .halted => false | _ => true)

/-- FATAL_N is driven low: HALTED, or the freeze (R55, R480). -/
def fatalLow (s : State) : Bool := s.start.phase == .halted || s.hlt.frozen

/-! ### The other outputs (R54) -/

/-- What a link's transmitter sends. -/
inductive LinkOut where
  | idle | training | running
  deriving DecidableEq, Repr

/-- FH_TXP/N of port `p`: idle before P7 and where the port does not run, then training blocks, then frames. -/
def fhTx (s : State) (p : Nat) : LinkOut :=
  if !s.portRuns p && !(s.hlt.frozen && s.fldAt rFhPortCtrl p 0 1 == 1) then .idle
  else match (s.port p).state with
    | .down | .blockLock | .frameLock | .fault => .training
    | .loop => if s.fldAt rFhPortCtrl p 1 2 = 1 then .idle else .running
    | _ => .running

/-- ETH_TXP/N of port `p` runs. -/
def ethTx (s : State) (p : Nat) : Bool := s.pins.ethOn && octetField 32 (s.entry tFryPort p) 0 30 2 != 0

/-- IST_TXP/N of link `k`: idle before P8 and in a solo device. -/
def istTx (s : State) (k : Nat) : LinkOut :=
  if s.solo || !s.islandUp 7 || !(s.start.phase == .p8 || s.start.phase == .p9) then .idle
  else if s.pair.links.getLsbD k then .running else .training

/-- What the ANA_DACP/N outputs give. -/
inductive DacOut where
  | commonMode | midScale | samples
  deriving DecidableEq, Repr

/-- Where the receive samples of an analogue port come from (R114). -/
inductive AnaPath where
  | converter | upConverters | attenuator
  deriving DecidableEq, Repr

/-- The path that ANA_PORT_CTRL.LOOP of port `p` selects (R114). -/
def anaPath (s : State) (p : Nat) : AnaPath := match s.fldAt rAnaPortCtrl p 6 2 with
  | 1 => .upConverters
  | 2 => .attenuator
  | _ => .converter

/-- ANA_DACP/N of port `p`: no signal in P0, P1 and while HALTED; transmit samples in service with the token, else the mid-scale code, which
a FATAL forces; common mode only in analogue loopback (R54, R113, R114, R480). -/
def dacOut (s : State) (p : Nat) : DacOut := match s.start.phase with
  | .p0 | .p1 | .halted => .commonMode
  | .p9 => if anaPath s p = .attenuator then .commonMode else if s.pair.driving && !s.hlt.frozen then .samples else .midScale
  | _ => .midScale

/-- What the chip selects of the flash devices do. -/
inductive XspiOut where
  | high | reads | readsAndWrites | service
  deriving DecidableEq, Repr

/-- XSPI_CS0_N and XSPI_CS1_N. -/
def xspiOut (s : State) : XspiOut := match s.start.phase with
  | .p2 | .p3 => .reads
  | .p5 => .readsAndWrites
  | .p9 => .service
  | _ => .high

/-- DDRA_RESET_N and DDRB_RESET_N are low: before P4 of a cold start; a warm reset and a Memory island that is kept hold them high (R77,
R442). -/
def ddrResetLow (s : State) : Bool := match s.start.phase with
  | .p4 | .p5 | .p6 | .p7 | .p8 | .p9 => false
  | _ => !s.start.warm && !s.start.kept

/-- The I²C address at which the management target answers; none before the end of P0. -/
def mgtTarget (s : State) : Option Nat :=
  if s.start.porstLow || (s.start.phase == .p0 && !s.start.straps) then none else some (s.fld rHltMgtCfg 0 7)

end Sys2Proof.Machine
end

