-- ==== Sys2Proof/Machine/Mesh.lean ====
section
/-! DEFINITION. What the packet plane makes of an accepted frame: hits, learn budgets, source routes, floods and campaign reports (R129, R130, R334,
R359, R361 to R363, R421 to R423). -/

namespace Sys2Proof.Machine

open Host

/-- A hit on node `e`: AGE_STAMP takes the current second (R334). -/
def hit (e : Eui) (s : State) : State := match s.indexOf e with
  | some i => s.modNode i fun n => { n with ageStamp := s.second }
  | none => s

/-! ### Learn budgets (R351) -/

/-- The bucket of port `p`, in tokens × 1 s: it gains RATE tokens per second up to BURST. -/
def budget (s : State) (p : Nat) : Nat :=
  let b := (afind s.fwd.buckets p).getD (0, 0)
  min (s.fldAt rFwdPortLearn p 16 15 * sec 1) (b.1 + (s.clock.now - b.2) * s.fldAt rFwdPortLearn p 0 16)

/-- FWD_PORT_TOKENS of port `p`. -/
def tokensOf (s : State) (p : Nat) : Nat := budget s p / sec 1

/-- Set the bucket of port `p`. -/
def setBudget (p v : Nat) (s : State) : State := { s with fwd.buckets := aput s.fwd.buckets p (v, s.clock.now) }

/-- Port `p` holds a token. -/
def hasToken (s : State) (p : Nat) : Bool := decide (sec 1 ≤ budget s p)

/-- Take one token of port `p`. -/
def spendToken (p : Nat) (s : State) : State := setBudget p (budget s p - sec 1) s

/-- Return one token to port `p`. -/
def giveToken (p : Nat) (s : State) : State :=
  setBudget p (min (s.fldAt rFwdPortLearn p 16 15 * sec 1) (budget s p + sec 1)) s

/-- POLICY of port `p` is FLOOD. -/
def policyFlood (s : State) (p : Nat) : Bool := s.fldAt rFwdPortLearn p 31 1 == 1

/-- The frame of group `g` that admitted a new sender is not accepted: the reservation, or the charge that it became, is returned, and
what was held for the entry is discarded (R350, R352). -/
def newcomerGone (g : Nat) (s : State) : State :=
  match s.fwd.newcomers.find? fun m => m.group == g && !m.accepted with
  | none => s
  | some m =>
    let s1 := match if m.decided then m.home else m.reserve with
      | some p => giveToken p s
      | none => s
    { s1 with fwd.newcomers := s1.fwd.newcomers.filter fun x => x.node != m.node,
              fwd.windows := s1.fwd.windows.filter fun w => !(w.isNew && w.node == m.node) }

/-! ### Source routes (R359) -/

/-- Set the link of `child` to `parent`, where both entries exist and the parent is a relay (R359). -/
def setLink (child parent : Eui) (s : State) : State :=
  match s.indexOf child, s.nodeOf parent with
  | some i, some (j, p) =>
    if p.role = 1 then s.modNode i fun n => { n with parent := some j } else bump cFwdRouteBad 0 s
  | _, _ => bump cFwdRouteNoNode 0 s

/-- The links of a chain of nodes, each towards the next; the last is heard directly. -/
def setLinks (s : State) : List Eui → State
  | [] => s
  | [e] => (match s.indexOf e with
    | some i => s.modNode i fun n => { n with parent := none }
    | none => s)
  | a :: b :: r => setLinks (setLink a b s) (b :: r)

/-- Learn the route that a frame's record gives (R359). -/
def learnRoute (h : MeshHdr) (s : State) : State :=
  if !h.sroute then s
  else if 8 ≤ h.hopCount then bump cFwdRouteLong 0 s
  else setLinks s (h.originator :: h.hops.take h.hopCount)

/-- The chain of INDEX values from `i` towards the first hop, `i` first; none for a loop or more than 8 entries (R360). -/
def chainOf (s : State) : Nat → List Nat → Nat → Option (List Nat)
  | 0, _, _ => none
  | k + 1, acc, i =>
    if acc.contains i then none
    else match (s.nodeAt i).bind fun n => n.parent with
      | none => some (acc ++ [i])
      | some p => chainOf s k (acc ++ [i]) p

/-- The source route to node INDEX `i`, destination first. -/
def routeOf (s : State) (i : Nat) : Option (List Nat) := chainOf s 8 [] i

/-- The mesh header with the source route to node INDEX `i`, its hops from the first to the destination, HOP_INDEX 1; none where the node is
heard directly (R360). That TTL is FLD_CTRL.TTL there is the model's choice. -/
def routeHeader (s : State) (i q : Nat) : Option MeshHdr := match routeOf s i with
  | none => none
  | some l =>
    if l.length ≤ 1 then none
    else some { wellSized := true, reserved := 0, ttl := s.fld rFldCtrl 0 4, sroute := true, flood := false, originator := s.ownEui,
                sequence := q, floodId := 0, hopCount := l.length, hopIndex := 1,
                hops := (l.reverse.map fun k => ((s.nodeAt k).map fun n => n.eui).getD 0) }

/-! ### Floods (R361 to R363) -/

/-- The mesh header of a flood (R361, R363). -/
def Flood.header (f : Flood) : MeshHdr :=
  { wellSized := true, reserved := 0, ttl := f.ttl, sroute := false, flood := true, originator := f.originator, sequence := f.sequence,
    floodId := f.floodId, hopCount := 0, hopIndex := 0, hops := [] }

/-- The seen cache holds the key of a flood. -/
def seen (s : State) (o : Eui) (f : Nat) : Bool := s.fwd.seen.any fun x => x.1 == o && x.2.1 == f

/-- Insert a key into the seen cache of 131,072 entries; a full cache loses its oldest (R362). -/
def seenInsert (o : Eui) (f : Nat) (s : State) : State :=
  if 131072 ≤ s.fwd.seen.length then
    bump cFldSeenEvict 0 { s with fwd.seen := s.fwd.seen.drop 1 ++ [(o, f, s.clock.now)] }
  else { s with fwd.seen := s.fwd.seen ++ [(o, f, s.clock.now)] }

/-- Queue a flood under the SEQUENCE `sq`; it starts at group 0 (R361). -/
def queueFlood (dsn : Option Nat) (pan : BitVec 16) (o : Eui) (fid ttl len sq : Nat) (s : State) : State :=
  { s with fwd.floods := s.fwd.floods ++ [⟨s.fwd.nextFlood, dsn, pan, o, fid, ttl, len, 0, [], none, false, sq, (0, 0)⟩],
           fwd.nextFlood := s.fwd.nextFlood + 1 }

/-- A frame that carries FLOOD, after its acceptance (R362, R363). A standby keeps its seen cache and relays nothing (R365). -/
def floodSeen (h : MeshHdr) (pan : BitVec 16) (len : Nat) (s : State) : State :=
  if seen s h.originator h.floodId then bump cFldSeenDrop 0 s
  else
    let s1 := seenInsert h.originator h.floodId s
    if h.ttl ≤ 1 then bump cFldTtlEnd 0 s1
    else if s.fld rFldCtrl 4 1 = 1 ∧ s.leads then
      bump cFldRelayed 0 (queueFlood none pan h.originator h.floodId (h.ttl - 1) len h.sequence s1)
    else s1

/-! ### Campaign reports (R419 to R423) -/

/-- The number of 64-octet fragments of a campaign's image. -/
def fragsOf (d : CampDef) : Nat := (d.imageLength + 63) / 64

/-- A member that has not reported VERIFIED or FAILED and takes part in round `r`. -/
def ProgRec.active (p : ProgRec) (r : Nat) : Bool := (p.state == 1 || p.state == 2) && decide (p.joins ≤ r)

/-- A member lacks fragment `f` (R423). -/
def ProgRec.lacks (p : ProgRec) (f : Nat) : Bool :=
  decide (p.haveUntil ≤ f) || p.gaps.any fun g => decide (g.1 ≤ f ∧ f < g.1 + g.2)

/-- The progress records of campaign `c`, by INDEX. -/
def membersOf (s : State) (c : Nat) : List (Nat × ProgRec) := s.prog.filter fun x => x.2.campaign == c

/-- Campaign `c` after a report: it ends once a round has begun and no member lacks a fragment (R423). -/
def campSettle (c : Nat) (s : State) : State := match afind s.camps c with
  | none => s
  | some k =>
    if k.state == .running && decide (1 ≤ k.round) &&
        (membersOf s c).all (fun x => !x.2.active k.round ||
          (decide (fragsOf k.defn ≤ x.2.haveUntil) && x.2.gaps.isEmpty)) then
      occurs eUpdCampEnd { s with camps := amod s.camps c fun k => { k with state := .ended, list := [], repairs := [] } }
    else s

/-- A progress report of node INDEX `i` (R422). -/
def progressReport (i : Nat) (r : Progress) (s : State) : State :=
  match afind s.prog i with
  | none => bump cUpdCampReportStale 0 s
  | some p => match afind s.camps p.campaign with
    | none => bump cUpdCampReportStale 0 s
    | some k =>
      if k.defn.tag ≠ r.tag then bump cUpdCampReportStale 0 s
      else
        let st := if r.failed then 4 else if r.verified then 3 else if r.complete then 2 else 1
        let s1 : State := { s with prog := amod s.prog i fun p =>
          { p with state := st, haveUntil := r.haveUntil, gaps := r.gaps } }
        campSettle p.campaign (if r.failed then bump cUpdCampNodeFail 0 s1 else s1)

/-! ### An accepted frame -/

/-- FRY_ADDR. -/
def fryAddr (s : State) : BitVec 128 :=
  s.reg rFryAddr ++ s.reg (rFryAddr + 4) ++ s.reg (rFryAddr + 8) ++ s.reg (rFryAddr + 12)

/-- The packet of an accepted frame is to be forwarded: its IPv6 destination is not FRY_ADDR, its mesh header is not a bad one, and it is no
repeat of a flood (R130, R342, R362). -/
def forwards (f : FrameInfo) (s : State) : Bool :=
  (f.ipv6Dst.any fun d => d != fryAddr s) && (match f.mesh with
    | none => true
    | some h => !badMesh h && !(h.flood && seen s h.originator h.floodId))

/-- What the packet plane does with a frame once it is ACCEPTED. -/
def framePlane (f : FrameInfo) (s : State) : State :=
  let s0 := match s.indexOf f.source with
    | some i => s.modNode i fun n => { n with pan := f.pan, ageStamp := s.second }
    | none => s
  let s0 : State := if forwards f s then { s0 with fwd.toForward := s0.fwd.toForward ++ [(f.source, f.digest)] } else s0
  let s1 := match f.mesh with
    | none => s0
    | some h =>
      if badMesh h then bump cFldMeshHdrBad 0 s0
      else
        let s2 := learnRoute h s0
        if h.flood then floodSeen h f.pan f.length s2 else s2
  match f.report, s1.indexOf f.source with
  | some r, some i => progressReport i r s1
  | some _, none => bump cUpdCampReportStale 0 s1
  | none, _ => s1

end Sys2Proof.Machine
end

