-- ==== Sys2Proof/Machine/Roles.lean ====
section
/-! DEFINITION. The operations that the commit sequencer, the Ferry unit and the Dovetail controller share: the token, mirror
records, journal entries and downlink items (11_acceptance_and_ferry.md, 13_dovetail_pair.md). -/

namespace Sys2Proof.Machine

open Host

/-! ### Roles and the token (R367 to R371) -/

/-- The chip holds the token: it drives its own line. -/
def State.holdsToken (s : State) : Bool := s.pair.driving

/-- 8 Always-on cycles of 24.41 ns in 1/16 ns (R369). -/
def grantHold : Time := 3125

/-- The line conditions of GRANT (R369): own line driven and low, and the partner's released, for 8 Always-on cycles. -/
def State.grants (s : State) : Bool :=
  s.pair.driving && s.pair.ownLow && !s.pair.partnerLow && !s.hlt.frozen &&
    decide (s.pair.driveAt + grantHold ≤ s.clock.now) && decide (s.pair.partnerHighAt + grantHold ≤ s.clock.now)

/-- Drive the own line (R367, R371). -/
def driveLine (s : State) : State :=
  ({ s with pair.driving := true, pair.ownLow := true, pair.driveAt := s.clock.now,
            pair.lastChange := s.clock.now } : State).out (.tokenLine true)

/-! ### Mirror records (R376 to R380) -/

/-- The active waits for the partner's commits: it mirrors, and the cut-in of R394 has come. -/
def State.commits (s : State) : Bool := s.mirrors && s.pair.cutIn

/-- A record leaves under the next MSEQ; a COMMIT is awaited where `await` says for what (R376, R378). -/
def emitAs (bulk : Bool) (body : Body) (await : Option Await) (s : State) : State :=
  if s.linked then
    let m := s.pair.mseqOut + 1
    let s1 : State := { s with pair.mseqOut := m }
    let s2 : State := match await with
      | some a => { s1 with pair.awaits := aput s1.pair.awaits m a }
      | none => s1
    s2.out (.record bulk await.isSome m s.pair.epoch body)
  else s

/-- A record that is not part of a bulk copy leaves. -/
def emit (body : Body) (await : Option Await) (s : State) : State := emitAs false body await s

/-- A mirror record of the active, with the commit it awaits while commits are awaited. -/
def mirror (body : Body) (await : Option Await) (s : State) : State :=
  if s.mirrors then emit body (if s.pair.cutIn then await else none) s else s

/-- The SESSION record of the open session (R323, R324). -/
def sessionBody (s : State) : Body := .session s.fry.session s.fry.txCeiling s.fry.rx.high s.fry.nonceD s.fry.nonceH

/-! ### Ferry packets of the device (R322, R324) -/

/-- Send a packet of TYPE `ty` of the open session; at its ceiling the active mirrors a new one (R322, R324). Without a session nothing
leaves. -/
def ferryPacket (ty : Nat) (flags : Nat) (body : Octets) (s : State) : State :=
  if s.fry.session = 0 then s
  else
    let n := s.fry.txNo + 1
    let s1 := ({ s with fry.txNo := n } : State).out
      (.ferry s.fry.endpoint s.fry.port (sealPacket s.fry.txKey ⟨1, ty, flags, s.fry.session, n⟩ body))
    if s.fry.txCeiling ≤ n then (let s2 : State := { s1 with fry.txCeiling := n + 65536 }; mirror (sessionBody s2) none s2) else s1

/-! ### Acceptance (R282, R302, R304, R308) -/

/-- The vault raises FC_HWM of node `e` to `c` and writes LAST_DIGEST; for a node without an entry it holds the write (R282,
R352). -/
def raiseHwm (e : Eui) (c : Nat) (d : Word) (s : State) : State := match s.nodeOf e with
  | some (i, n) =>
    if n.sec.fcHwm < c then s.modNode i fun n => { n with sec := { n.sec with fcHwm := c }, lastDigest := d } else s
  | none =>
    if s.fwd.newcomers.any fun m => m.node == e then
      { s with fwd.newcomers := s.fwd.newcomers.map fun m =>
          if m.node = e then { m with accepted := true, counter := max m.counter c, digest := d } else m }
    else { s with fwd.newcomers := s.fwd.newcomers ++ [⟨e, 0, none, none, false, true, [], 0, c, d, none, s.clock.now⟩] }

/-- Add an entry to the deduplication cache of 65,536; the oldest gives its place (R304). -/
def dedupAdd (h : EntryHdr) (s : State) : State :=
  let l := if 65536 ≤ s.jrn.dedup.length then s.jrn.dedup.drop 1 else s.jrn.dedup
  { s with jrn.dedup := l ++ [⟨h.node, h.counter, h.digest, h.jsn, h.endTime, s.clock.now⟩] }

/-- The journal entry of JSN `j`. -/
def entryOf (s : State) (j : Nat) : Option Entry := s.jrn.entries.find? fun e => e.hdr.jsn == j

/-- Change the journal entry of JSN `j`. -/
def modEntry (j : Nat) (f : Entry → Entry) (s : State) : State :=
  { s with jrn.entries := s.jrn.entries.map fun e => if e.hdr.jsn = j then f e else e }

/-- Entry `j` becomes ACCEPTED (R282, R302, R304, R308). -/
def acceptEntry (j : Nat) (s : State) : State := match entryOf s j with
  | none => s
  | some e =>
    let s1 := bump cJrnAccepted 0 (modEntry j (fun e => { e with state := .accepted }) s)
    let s2 := dedupAdd e.hdr (raiseHwm e.hdr.node e.hdr.counter e.hdr.digest s1)
    match e.frame with
    | some f => framePlane f s2
    | none => hit e.hdr.node s2

/-- Entry `j` becomes VOID: it loses its payload, its acknowledgement is discarded, and the active mirrors the change and waits
for the partner's commit before Ferry takes the entry (R307, R308, R310). -/
def voidEntry (j : Nat) (s : State) : State := match entryOf s j with
  | none => s
  | some e =>
    let s1 := bump cJrnVoid 0 (modEntry j (fun e => { e with
      state := .void, waits := s.commits, frame := none,
      hdr := { e.hdr with kind := 2, length := 0, endTime := s.clock.now } }) s)
    let s2 := mirror (.void j) (some (.void j)) s1
    groupSettle e.group (dropAck e.group (if e.mirrored then s2 else newcomerGone e.group s2))

/-- Assign the next JSN; the persistent store's ceiling stays above it (R301, R329). -/
def takeJsn (s : State) : Nat × State :=
  let n := s.jrn.nextJsn
  let c := match s.flash.jsnCeiling with
    | some c => if c ≤ n then (n / 2 ^ 20 + 1) * 2 ^ 20 else c
    | none => (n / 2 ^ 20 + 1) * 2 ^ 20
  (n, { s with jrn.nextJsn := n + 1, flash.jsnCeiling := some c })

/-! ### Downlink items and their outcomes (R315 to R319) -/

/-- The record of the item with DSN `d`. -/
def dlOf (s : State) (d : Nat) : Option DlRec := s.dl.recs.find? fun r => r.item.dsn == d

/-- OUTCOME values with their CAUSE (R317). -/
inductive Ending where
  | acked | nodeNack | refused | timeout | noKey | noRoute | invalid
  deriving DecidableEq, Repr

/-- OUTCOME of an ending: 1 ACKED, 2 EXPIRED, 3 REFUSED. -/
def Ending.outcome : Ending → Nat
  | .acked => 1
  | .nodeNack | .refused => 3
  | _ => 2

/-- CAUSE of an ending. -/
def Ending.cause : Ending → Nat
  | .acked => 0
  | .nodeNack => 1
  | .refused => 2
  | .timeout => 0x10
  | .noKey => 0x11
  | .noRoute => 0x12
  | .invalid => 0x13

/-- An OUTCOME entry enters the journal (R312, R317). In a pair it goes to the partner as an ENTRY whose commit it awaits. -/
def outcomeEntry (r : DlRec) (outcome cause : Nat) (s : State) : State :=
  let (j, s1) := takeJsn s
  let node := match r.item.body with
    | .node _ => r.item.dest
    | _ => s.ownEui
  let h : EntryHdr := { jsn := j, kind := 3, node := node, counter := r.counter, digest := 0, ackReq := false, rerun := false,
                        length := 0, endTime := s.clock.now, asn := s.asnAt s.clock.now, port := 0, mode := 0, members := 0,
                        level := 0, snr := 0, epoch := s.pair.epoch, dsn := r.item.dsn, outcome := outcome, cause := cause }
  mirror (.entry 0 h) (some (.entry j))
    { s1 with jrn.entries := s1.jrn.entries ++ [{ hdr := h, state := .outcome, waits := s.commits }] }

/-- A downlink flow (R14): the NODE items of a node, the FLOOD items of a PAN, or all KEY and COMMAND items. -/
inductive Flow where
  | node (e : Eui)
  | flood (pan : BitVec 16)
  | command
  deriving DecidableEq, Repr

/-- The flow of an item; one of reserved DEST_KIND belongs to none (R14, R316). -/
def flowOf (it : DlItem) : Option Flow := match it.body with
  | .node _ => some (.node it.dest)
  | .flood pan _ => some (.flood pan)
  | .key _ | .command _ _ => some .command
  | .reserved => none

/-- Record `r` is of the flow of item `it`. -/
def sameFlow (it : DlItem) (r : DlRec) : Bool := flowOf r.item == flowOf it && (flowOf it).isSome || r.item.dsn == it.dsn

/-- The outcome of record `r`, which has been found, is committed (R14, R317). -/
def reportItem (r : DlRec) (s : State) : State := match r.done with
  | some (o, c) => outcomeEntry r o c (modDl r.item.dsn (fun r => { r with state := .ended }) s)
  | none => s

/-- The records of `l` that report now: those at its head that have ended or whose outcome has been found (R14). -/
def reportable : List DlRec → List DlRec
  | [] => []
  | r :: l => if r.state = .ended then reportable l else if r.done.isSome then r :: reportable l else []

/-- The flow of `it` reports, in DSN order, what no earlier item of the flow holds back (R14). -/
def reportFlow (it : DlItem) (s : State) : State :=
  (reportable ((s.dl.recs.filter (sameFlow it)).mergeSort fun a b => decide (a.item.dsn ≤ b.item.dsn))).foldl
    (fun s r => reportItem r s) s

/-- Item `d` ends; the first ending stands. The active or solo chip commits the outcome as soon as no earlier item of its flow holds it back;
another chip keeps what it found until the outcome entry comes, or until it becomes active (R14, R317, R319). -/
def endItem (d : Nat) (e : Ending) (s : State) : State := match dlOf s d with
  | none => s
  | some r =>
    if r.state = .ended ∨ r.done.isSome then s
    else
      let s1 := modDl d (fun r => { r with done := some (e.outcome, e.cause) }) s
      if s.leads then reportFlow r.item s1 else s1

/-- The MGMT-CMD codes that some chapter specifies (R326, R395, R399, R484). -/
def knownCode (c : Nat) : Bool :=
  decide (1 ≤ c ∧ c ≤ 5 ∨ 0x101 ≤ c ∧ c ≤ 0x107 ∨ 0x110 ≤ c ∧ c ≤ 0x115 ∨ 0x201 ≤ c ∧ c ≤ 0x202 ∨ 0x301 ≤ c ∧ c ≤ 0x304)

/-- Item `d` is a committed command of CODE `c` that waits to be carried out; a KEY item counts as CODE 1. -/
def State.carries (s : State) (d c : Nat) : Bool := s.controlUp && match dlOf s d with
  | some r => r.state == .carrying && r.done.isNone && (match r.item.body with
    | .command k _ => k == c
    | .key _ => c == 1
    | _ => false)
  | none => false

/-- The arguments of item `d`, where it is a committed command of CODE `c` that waits to be carried out; those of a KEY item are its key-load
item (R326). -/
def State.argsOf (s : State) (d c : Nat) : Option (List Byte) :=
  if s.carries d c then (dlOf s d).map fun r => match r.item.body with
    | .command _ a => a
    | _ => r.item.payload
  else none

/-- JRN_NEXT_DSN advances past item `d`, and DL-ACK is sent (R316). -/
def dlAdvance (d : Nat) (s : State) : State :=
  if s.dl.nextDsn = d then
    let s1 : State := { s with dl.nextDsn := d + 1 }
    if s.leads then ferryPacket 4 0 (natToOs 8 d) (s1.out (.dlAck d)) else s1
  else s

/-- The next FLOOD_ID; at its ceiling the active mirrors a new one (R361). -/
def takeFloodId (s : State) : Nat × State :=
  let f := s.fwd.floodId + 1
  let s1 : State := { s with fwd.floodId := f }
  (f, if s.fwd.floodCeiling ≤ f then mirror (.ceiling ⟨[], some (f + 4096), none⟩) none { s1 with fwd.floodCeiling := f + 4096 } else s1)

/-- The next SEQUENCE of an own mesh header (R129); that it counts up by one is the model's choice. -/
def takeSequence (s : State) : Nat × State :=
  let q := (s.fwd.meshSeq + 1) % 2 ^ 16
  (q, { s with fwd.meshSeq := q })

/-- Queue a flood that the device originates, and remember it in the seen cache (R361, R362). -/
def ownFlood (dsn : Option Nat) (pan : BitVec 16) (ttl len : Nat) (s : State) : State :=
  let (f, s1) := takeFloodId s
  let (q, s2) := takeSequence s1
  seenInsert s.ownEui f (queueFlood dsn pan s.ownEui f ttl len q s2)

/-- The record of item `d` is committed everywhere it must be (R316): a NODE or FLOOD item waits for its transmission, a command or
KEY item for its own step, and a malformed item or an unknown command ends. -/
def dlCommitted (d : Nat) (s : State) : State := match dlOf s d with
  | none => s
  | some r =>
    match r.item.formOk, r.item.body with
    | false, _ => endItem d .invalid (dlAdvance d s)
    | true, .reserved => endItem d .invalid (dlAdvance d s)
    | true, .node _ => dlAdvance d (hit r.item.dest (modDl d (fun r => { r with state := .waiting }) s))
    | true, .flood pan _ =>
      let s1 := modDl d (fun r => { r with state := .waiting }) s
      dlAdvance d (if s.leads then ownFlood (some d) pan (s.fld rFldCtrl 0 4) r.item.length s1 else s1)
    | true, .key _ => modDl d (fun r => { r with state := .carrying }) s
    | true, .command c _ =>
      if knownCode c then modDl d (fun r => { r with state := .carrying }) s
      else endItem d .refused (dlAdvance d s)

/-- The records of items that have not ended (R315: 131,072 slots). -/
def dlOpen (s : State) : Nat := (s.dl.recs.filter fun r => r.state != .ended).length

/-- Accept the item whose DSN is JRN_NEXT_DSN: its record goes to the ring, and in a pair to the partner (R316). -/
def dlAccept (it : DlItem) (s : State) : State :=
  if 131072 ≤ dlOpen s then bump cFryDlRingFull 0 s
  else
    let m := if s.commits then s.pair.mseqOut + 1 else 0
    let s1 := mirror (.dl (.accept it)) (some (.dl it.dsn))
      { s with dl.recs := s.dl.recs ++ [{ item := it, since := s.clock.now, state := .committing m }] }
    if s.commits then s1 else dlCommitted it.dsn s1

/-- Take from the reorder buffer what has become next in order, at most `n` items (R316). -/
def dlDrain : Nat → State → State
  | 0, s => s
  | n + 1, s => match s.dl.reorder.find? fun it => it.dsn == s.dl.nextDsn with
    | none => s
    | some it =>
      if s.dl.recs.any fun r => r.item.dsn == it.dsn then s
      else dlDrain n (dlAccept it { s with dl.reorder := s.dl.reorder.filter fun x => x.dsn != it.dsn })

/-- Command `d` has been taken into effect: the sequence goes on behind it (R316). -/
def dlTaken (d : Nat) (s : State) : State :=
  let s1 := dlAdvance d s
  if s.leads then dlDrain s1.dl.reorder.length s1 else s1

/-- Command `d` has been carried out or refused: it ends, and the sequence goes on (R316, R317). -/
def finish (d : Nat) (e : Ending) (s : State) : State := dlTaken d (endItem d e s)

/-! ### Releasing the token (R197, R309) -/

/-- Why the token is released (R309). -/
inductive ReleaseBy where
  | fatal | warmReset | other
  deriving DecidableEq, Repr

/-- Settle the OWED entries at the release time `t` (R309). -/
def settleOwed (t : Time) (s : State) : State :=
  (s.jrn.entries.filter fun e => e.state == .owed).foldl
    (fun s e => if e.leave < t then acceptEntry e.hdr.jsn s else voidEntry e.hdr.jsn s) s

/-- A candidate in OPEN or CHECK turns into a standby's: its booking goes and its template stays in shadow (R309). -/
def shadowCands (s : State) : State :=
  s.jrn.cands.foldl (fun s x =>
    if x.2.state = .open ∨ x.2.state = .check then
      let s1 : State := { s with jrn.cands := amod s.jrn.cands x.1 fun c =>
        { c with state := if c.state = .check then .held else c.state } }
      match afind s1.txm.acks x.1 with
      | some a => unbook a.booking s1
      | none => s1
    else s) s

/-- The chip releases the token (R94, R197, R309): JRN_TOKEN_REL, modulators cut, OWED entries settled, and the candidates treated
as the cause says. A warm reset treats its candidates under R81. -/
def releaseToken (why : ReleaseBy) (s : State) : State :=
  if s.pair.driving then
    let s1 : State := { s with pair.driving := false, pair.ownLow := false, pair.lastChange := s.clock.now,
                               jrn.tokenRel := s.clock.now }
    let s2 := settleOwed s.clock.now (cutAll (s1.out (.tokenLine false)))
    if why = .other then shadowCands s2 else s2
  else s

end Sys2Proof.Machine
end

