-- ==== Sys2Proof/Machine/Reports.lean ====
section
/-! DEFINITION. The operations of the health unit that every chapter uses: clamps, error reports, the handler stack, FATAL and the
jig's endings (16_health.md). -/

namespace Sys2Proof.Machine

open Host

/-! ### Clamps (R471, R472) -/

/-- Clamp `n`. -/
def State.clamp (s : State) (n : Nat) : Clamp := (afind s.hlt.clamps n).getD {}

/-- Replace clamp `n`; a free clamp without waiters is not listed. -/
def State.setClamp (s : State) (n : Nat) (c : Clamp) : State :=
  { s with hlt.clamps := if c = {} then adel s.hlt.clamps n else aput s.hlt.clamps n c }

/-- Activity `act` asks for clamp `n`: it holds it, takes it, or waits (each wait counted once). -/
def askClamp (act n : Nat) (s : State) : Bool × State :=
  let c := s.clamp n
  if c.holder = act then (true, s)
  else if c.holder = 0 ∧ c.waiting.isEmpty then (true, s.setClamp n { holder := act, waiting := [] })
  else if c.waiting.any fun w => w.1 == act then (false, s)
  else (false, bump cHltClampWait 0 (s.setClamp n { c with waiting := c.waiting ++ [(act, s.clock.now)] }))

/-- Activity `act` no longer holds or asks for clamp `n`; the oldest waiter takes a clamp that becomes free. -/
def freeClampOf (act n : Nat) (s : State) : State :=
  let c := s.clamp n
  let w := c.waiting.filter fun x => x.1 != act
  if c.holder = act then
    match w with
    | [] => s.setClamp n {}
    | (a, _) :: r => s.setClamp n { holder := a, waiting := r }
  else s.setClamp n { c with waiting := w }

/-! ### FATAL (R473, R479, R480) -/

/-- The activities of R472 that run outside the frozen islands and off the flash devices, which the freeze resets (R473). -/
def clampKept (a : Nat) : Bool := a == 10 || a == 11

/-- The FATAL latch (R479): the first FATAL is kept, a later one sets MULTIPLE. -/
def latchFatal (c : FatalCause) (s : State) : State :=
  if s.hlt.armed then
    { s with hlt.cause := c.cause, hlt.causeUnit := c.unit, hlt.causeCode := if c.cause = 1 then c.code else 0,
             hlt.causeArg := c.arg, hlt.fatalTime := s.clock.now, hlt.armed := false, hlt.multiple := false }
  else { s with hlt.multiple := true }

/-- A FATAL level reaches the Always-on island. From P9 it releases the token and freezes the device (R46, R480); before P9 a start
that fails halts, and only the latch is written. -/
def raiseFatal (c : FatalCause) (s : State) : State :=
  if s.hlt.frozen then latchFatal c s
  else if s.start.phase = .p9 then
    let s1 := releaseToken .fatal (latchFatal c s)
    { s1 with hlt.frozen := true, hlt.stage := .draining, hlt.partnerSent := false, hlt.flashCopied := false,
              hlt.recent := (s1.hlt.recent.filter fun t => decide (s1.clock.now < t + sec 600)) ++ [s1.clock.now],
              hlt.clamps := (s1.hlt.clamps.filter fun x => clampKept x.2.holder).map fun x => (x.1, { x.2 with waiting := x.2.waiting.filter fun w => clampKept w.1 }),
              pins.ready := false, pins.ppsOut := false, pins.ethOn := false,
              fh := s1.fh.map fun x => (x.1, { x.2 with grantSent := false }) }
  else latchFatal c s

/-- A FATAL of a named cause of the health unit or another chapter. -/
def fatalBy (cause unit : Nat) (s : State) : State := raiseFatal ⟨cause, unit, 0, 0⟩ s

/-! ### The handler stack (R458) -/

/-- The handler stack, top first, with frame `f` on top and the frame beneath preempted. -/
def pushFrame (f : HFrame) (s : State) : State :=
  let rest := match s.hlt.frames with
    | [] => []
    | t :: r => { t with onTop := t.onTop + (s.clock.now - t.since) } :: r
  { s with hlt.frames := { f with since := s.clock.now } :: rest }

/-- Place a frame whose UNIT stands nowhere yet (R458). -/
def placeNew (f : HFrame) (s : State) : State := match s.hlt.frames with
  | [] => pushFrame f s
  | t :: _ =>
    if t.rank < f.rank then
      if s.hlt.frames.length < 3 then bump cHltPreempt 0 (pushFrame f s) else fatalBy 0x0B (22 * 2048 + 1) s
    else if s.hlt.queue.length < 16 then { s with hlt.queue := s.hlt.queue ++ [f] }
    else fatalBy 0x0A (22 * 2048 + 1) s

/-- A report reaches the handler stack (R458). -/
def placeFrame (unit code rank arg : Nat) (s : State) : State :=
  let up (f : HFrame) : HFrame := if f.unit = unit then { f with count := f.count + 1, rank := max f.rank rank } else f
  if s.hlt.frames.any fun f => f.unit == unit then
    bump cHltMerged 0 { s with hlt.frames := s.hlt.frames.map up }
  else
    match s.hlt.queue.find? fun f => f.unit == unit with
    | some f =>
      let s1 := bump cHltMerged 0 { s with hlt.queue := s.hlt.queue.map up }
      if (s.hlt.frames.headD f).rank < (up f).rank then
        placeNew (up f) { s1 with hlt.queue := s1.hlt.queue.filter fun g => g.unit != unit }
      else s1
    | none => placeNew ⟨unit, code, rank, 1, arg, false, 0, s.clock.now⟩ s

/-! ### The coalescer (R455 to R457) -/

/-- An error record of the event recorder (R475). `kind` is KIND; `cls` CLASS. -/
def errRecord (kind unit code cls rank cnt a0 a1 : Nat) (s : State) : State :=
  evrPush { EvRecord.blank with unit := unit, code := code, cls := cls, kind := kind, rank := rank, count := cnt,
                                arg0 := a0, arg1 := a1 } s

/-- CLASS of an entry. -/
def classOf (degraded : Bool) : Nat := if degraded then 2 else 1

/-- A report enters the coalescer (R455 to R457). -/
def report (r : Report) (s : State) : State :=
  let s0 : State := if r.degraded then { s with hlt.degraded := true } else s
  match s0.hlt.coal.find? fun e => e.unit == r.unit && e.code == r.code with
  | some e =>
    let n := min 0xFFFFFFFF (e.count + 1)
    let esc := !e.degraded && !e.escalated && decide (s.fld rHltCoal 8 16 ≤ n)
    let s1 : State := { s0 with hlt.coal := s0.hlt.coal.map fun x =>
      if x.unit = r.unit ∧ x.code = r.code then { x with count := n, escalated := x.escalated || esc } else x }
    if esc then
      placeFrame e.unit e.code 2 e.arg
        (bump cHltEscalate 0 (errRecord 3 e.unit e.code 2 2 n e.arg 0 { s1 with hlt.degraded := true }))
    else s1
  | none =>
    if 1024 ≤ s0.hlt.coal.length ∨ (r.degraded = false ∧ 960 ≤ (s0.hlt.coal.filter fun e => !e.degraded).length) then
      bump cHltCoalesceOvf 0 s0
    else
      let s1 := errRecord 1 r.unit r.code (classOf r.degraded) r.rank 1 r.arg 0
        { s0 with hlt.coal := s0.hlt.coal ++ [⟨r.unit, r.code, r.degraded, r.rank, r.arg, 1, s0.clock.now, false⟩] }
      if 1 ≤ r.rank ∧ r.rank ≤ 4 then placeFrame r.unit r.code r.rank r.arg s1 else s1

/-- A DEGRADED error of `block`, instance `inst`, at rank 2 unless R497 says otherwise; no rule states its ARG, a free value. -/
def degraded (block inst code rank : Nat) (s : State) : State :=
  report ⟨block * 2048 + inst, code, true, rank, (Config.eventArg s.free).toNat⟩ { s with free := s.free + 1 }

/-- A DEGRADED error with its ARG, at rank 2. -/
def degradedArg (block inst code arg : Nat) (s : State) : State := report ⟨block * 2048 + inst, code, true, 2, arg⟩ s

/-- A DROPPED error with its ARG. -/
def droppedArg (block inst code rank arg : Nat) (s : State) : State := report ⟨block * 2048 + inst, code, false, rank, arg⟩ s

/-- A DROPPED error whose ARG no rule states. -/
def dropped (block inst code rank : Nat) (s : State) : State :=
  droppedArg block inst code rank (Config.eventArg s.free).toNat { s with free := s.free + 1 }

/-! ### The jig's endings (R467 to R470) -/

/-- The activity and clamp of a test (R466, R472). -/
def jigClamp (kind inst : Nat) : Option (Nat × Nat) := match kind with
  | 1 => some (4, 36 + inst)
  | 8 => some (5, 69)
  | 11 => some (7, 70)
  | 13 => some (1, inst)
  | _ => none

/-- Release the clamp of a test. -/
def jigUnclamp (kind inst : Nat) (s : State) : State := match jigClamp kind inst with
  | some (a, n) => freeClampOf a n s
  | none => s

/-- Record a verdict: 0 PASS, 1 FAIL, 2 INCOMPLETE, 3 SKIPPED (R470). -/
def jigRecord (kind inst v : Nat) (s : State) : State :=
  errRecord 6 0 0 0 0 0 (kind * 2 ^ 24 + inst) (Config.verdictCode v)
    (bump (match v with | 0 => cHltJigPass | 1 => cHltJigFail | 2 => cHltJigIncomplete | _ => cHltClampSkip) 0 s)

/-- The test in hand is over: its clamp is free, and a JIG_RUN or JIG_PORT command ends ACKED (R484). -/
def jigFinish (s : State) : State := match s.hlt.test with
  | none => s
  | some j =>
    let s1 := jigUnclamp j.kind j.inst { s with hlt.test := none }
    match j.dsn with
    | some d => endItem d .acked s1
    | none => s1

/-- A preemption of the test in hand (R467, R468). `lost`: the instance is taken back, and the test begins again on it later. -/
def jigPreempted (lost : Bool) (s : State) : State := match s.hlt.test with
  | none => s
  | some j =>
    let s1 := bump cHltJigPreempt 0 s
    if 1000 < j.preemptRun + 1 then jigFinish (jigRecord j.kind j.inst 2 s1)
    else { s1 with hlt.test := some { j with preemptRun := j.preemptRun + 1, again := j.again || lost } }

/-- The jig gives its instance up to service at once (R184, R467). -/
def jigYield (s : State) : State := jigPreempted true s

end Sys2Proof.Machine
end

