-- ==== Sys2Proof/Machine/Heads.lean ====
section
/-! DEFINITION. What the fronthaul ports, the channeliser bank, the calibration engine and the lanes share about a head: its
calibration, its streams and units, and its entries into and departures from UP (R104, R105, R140 to R144, R220 to R224, R256). -/

namespace Sys2Proof.Machine

open Host

/-! ### Calibration of a head (R215 to R224) -/

/-- The receive set of generation `g` of a head, among the last four (R212). -/
def rxSetOf (c : HeadCal) (g : Nat) : Option RxSet :=
  if c.rxGen = g then some c.rx else (c.kept.find? fun k => k.1 == g).map fun k => k.2.1

/-- ALIGN_TOL in 1/16 ns. -/
def alignTol (s : State) : Nat := us (s.fld rCalCtrl 8 8) / 10

/-- RX_GEN of head `h`. -/
def calRxGen (h : Nat) (s : State) : Nat := (s.headCal h).rxGen

/-- The aligned mark of generation `g` of head `h` (R224); an analogue port is always aligned. -/
def calAligned (h g : Nat) (s : State) : Bool :=
  let c := s.headCal h
  decide (32 ≤ h) || (if c.rxGen = g then c.aligned else match c.kept.find? fun k => k.1 == g with
    | some k => k.2.2
    | none => false)

/-- A receive generation change of head `h` is asked for (R221, R222). -/
def calWantsChange (h : Nat) (s : State) : Bool := (s.headCal h).pending

/-- The channeliser has begun: the pending set is frozen (R222). -/
def calFreeze (h : Nat) (s : State) : State := s.modCal h fun c => { c with frozen := some c.cand }

/-- The aligned mark of a generation that comes into force with receive set `x` (R224). -/
def alignedNow (s : State) (h : Nat) (c : HeadCal) (x : RxSet) : Bool :=
  decide (32 ≤ h) || (if c.alignNext then s.fldAt rCalHeadCtrl h 1 1 == 1 else match c.alignedDly with
    | some d => decide ((x.dly - d).natAbs < alignTol s) || decide (4 ≤ c.agree)
    | none => decide (4 ≤ c.agree))

/-- At the switch point generation `g` of head `h` comes into force (R140, R220, R221). -/
def calSwitched (h g : Nat) (s : State) : State :=
  bump cCalGenChange 0 (s.modCal h fun c =>
    let x := c.frozen.getD c.cand
    let al := alignedNow s h c x
    { c with rxGen := g, rx := x, kept := ((c.rxGen, c.rx, c.aligned) :: c.kept).take 3, frozen := none, pending := false,
             aligned := al, alignNext := false, awaitSol := c.alignNext && !al,
             alignedDly := if al then some x.dly else c.alignedDly, lastRx := some s.clock.now,
             agree := if al then 0 else c.agree })

/-- The transmit generation and the corrections of a booking's first sample, were it to leave now (R195). An acknowledgement template built
under an earlier generation is rebuilt only if the change came at least TX_PREP plus 1 µs before its air start (R228). -/
def txGenFor (s : State) (b : Booking) : Nat × TxSet :=
  let c := s.headCal (txHead b.stream)
  match b.use, c.lastTx with
  | .ack _, some t => if t + (txPrep + us 1) ≤ b.start then (c.txGen, c.tx) else ((c.txGen + 255) % 256, c.txWas)
  | _, _ => (c.txGen, c.tx)

/-- The modulators whose first sample has not left take the generation now in force (R195). -/
def relatch (s : State) : State :=
  { s with txm.running := s.txm.running.map fun x =>
      let g := txGenFor s x.2.booking
      if s.clock.now < x.2.booking.leave then (x.1, { x.2 with txGen := g.1, corr := g.2 }) else x }

/-- The transmit generation of head `h` changes to its candidates (R221, R228). -/
def calTxSwitch (h : Nat) (s : State) : State :=
  bump cCalGenChange 0 (relatch (s.modCal h fun c =>
    { c with txGen := (c.txGen + 1) % 256, tx := c.txCand, txWas := c.tx, lastTx := some s.clock.now }))

/-- A port enters UP after DOWN with one-way delays `up` and `down` and fraction `fr` (R104, R232): the first entry fills
generation 0; any other opens new generations. -/
def calPortUp (h : Nat) (up down : Int) (fr : Nat) (s : State) : State :=
  let c := s.headCal h
  let rx := up + fr + (c.cand.dly - c.baseRx)
  let tx := down + fr + (c.txCand.dly - c.baseTx)
  let c1 : HeadCal := { c with baseRx := up + fr, baseTx := down + fr, cand := { c.cand with dly := rx },
                               txCand := { c.txCand with dly := tx }, entered := true }
  if c.rxGen = 0 ∧ !c.entered then
    let al := s.fldAt rCalHeadCtrl h 1 1 == 1
    s.modCal h fun _ => { c1 with rx := { c1.rx with dly := rx }, tx := { c1.tx with dly := tx }, aligned := al, awaitSol := !al,
                                  alignedDly := if al then some rx else none }
  else calTxSwitch h (s.modCal h fun _ => { c1 with pending := true, alignNext := true })

/-! ### Units and streams (R105, R140 to R144) -/

/-- What a noise floor that nothing has written reads as, with the start of its count (the log's choice). -/
def floorReset (_ : Nat) : Nat × Time := (floorStart, 0)

/-- The noise floor of bin `b` of stream `st`. -/
def State.floor (s : State) (st b : Nat) : Nat := (sget floorReset s.det.floors (st * 128 + b)).1

/-- `n` input samples of 48.828125 ns in 1/16 ns, rounded up. -/
def samples (n : Nat) : Nat := (n * 3125 + 3) / 4

/-- Some lane is latched to generation `g` of stream `st`. -/
def laneHolds (s : State) (st g : Nat) : Bool := s.lane.lanes.any fun x => x.2.state != .free && laneOn st g x.2

/-- How long after the switch point a detection whose TIME lies before it can still come: the latency of the bank, the longest of a class,
and 4 Sample cycles (R134, R135, R140, R154). -/
def detReach : Time := bankDelay + 266667 + 98

/-- A retiring unit of generation `g` of stream `st` is still needed: by a lane latched to it, by a detection on its way to a lane, or by one
that can still come (R140). -/
def retireHeld (s : State) (st g : Nat) (since : Time) : Bool :=
  laneHolds s st g || decide (s.clock.now < since + detReach) || (s.det.windows.any fun w => w.best.stream == st && w.gen == g) ||
    s.det.fifo.any fun r => r.det.stream == st && r.gen == g

/-- What unit use `x` is by now: a retiring unit becomes free when the last lane latched to it has ended, a leaving one at its boundary
(R140, R159). -/
def unitNow (s : State) (u : Nat) (x : UnitUse) : UnitUse := match x with
  | .retiring st g since => if retireHeld s st g since then x else .free
  | .leaving _ _ until' => if until' ≤ s.clock.now then (if underTest s 2 u then .jig else .free) else x
  | _ => x

/-- Bring the uses of all units up to date. -/
def retireIdle (s : State) : State := { s with chn.units := s.chn.units.map fun x => (x.1, unitNow s x.1 x.2) }

/-- The free units of the bank of 144. -/
def freeUnits (s : State) : List Nat := (List.range 144).filter fun u => unitNow s u (s.unit u) == .free

/-- The next FFT-frame boundary at or after `t`: one frame is 64 input samples, 3.125 µs (R131). -/
def frameBoundary (t : Time) : Time := (t + 49999) / 50000 * 50000

/-- The valid pool streams of head `h`. -/
def validStreams (s : State) (h : Nat) : List Nat := s.chn.valid.filter fun st => streamHead s st == some h

/-- The channeliser unit that a waiting jig test asked for before `t` (R159). -/
def jigWaits (s : State) (t : Time) : Nat := if s.hlt.test.any fun j => j.kind == 2 && j.warm == 9 && decide (j.due ≤ t) then 1 else 0

/-- Claim units for the change `c` if enough are free, besides one that the jig asked for first (R140, R141, R159). S is the first FFT-frame
boundary that R140 allows, counted from this moment; the free units of lowest number are taken. R140 states a lower bound and no order:
both are the model's choice (see the log). -/
def claimUnits (c : GenChange) (s : State) : Option State :=
  let need := validStreams s c.head
  let fr := freeUnits s
  if need.length + jigWaits s c.asked ≤ fr.length then
    let s1 := (need.zip fr).foldl (fun s x => s.setUnit x.2 (.claimed x.1 c.gen)) s
    some { s1 with chn.changes := s1.chn.changes.map fun x =>
      if x.head = c.head then { x with sAt := some (frameBoundary (s.clock.now + samples (1536 + c.look))) } else x }
  else none

/-- Serve the waiting generation changes in the order in which they were made, up to the first that must still wait (R141). -/
def chnServeList (s : State) : List GenChange → State
  | [] => s
  | c :: r => if c.sAt.isSome then chnServeList s r else match claimUnits c s with
    | some s1 => chnServeList s1 r
    | none => s

/-- Serve the waiting generation changes. -/
def chnServe (s : State) : State := chnServeList (retireIdle s) s.chn.changes

/-- A generation change of head `h` that the channeliser has not finished. -/
def changeOf (s : State) (h : Nat) : Option GenChange := s.chn.changes.find? fun c => c.head == h

/-- The time from which the bins of stream `st` are valid again after its last invalid sample (R144). -/
def State.tail (s : State) (st : Nat) : Time := (afind s.chn.tails st).getD 0

/-- The bins of stream `st` are valid now: its samples are, and the 1,536 that follow the last invalid one have passed (R144). -/
def binsValid (s : State) (st : Nat) : Bool := s.chn.valid.contains st && decide (s.tail st ≤ s.clock.now)

/-- The slice that serves stream `st` works: not failed, or replaced by the spare (R158, R160). -/
def sliceWorks (s : State) (st : Nat) : Bool := !s.det.failed.contains (st / 4) || s.det.spareFor == some (st / 4)

/-- The input of a lane on stream `st` is valid: its bins are, and a failed slice without a spare has not marked the stream invalid to the
lane array (R144, R160). -/
def inputValid (s : State) (st : Nat) : Bool := binsValid s st && sliceWorks s st

/-- Stream `st` becomes invalid (R105, R143, R144): the span is counted, unless the last one still runs; while its head's change is in
progress its units become free at once. Outside a change the spec does not say what becomes of its live unit: the model leaves it live
(see the log). -/
def streamGone (st : Nat) (s : State) : State :=
  if s.chn.valid.contains st then
    let s0 : State := { s with chn.valid := s.chn.valid.filter (· ≠ st) }
    let s1 := if s.tail st ≤ s.clock.now then bump cChnInvalidSpan st s0 else s0
    match (streamHead s st).bind (changeOf s) with
    | some c => if c.sAt.isSome then
        chnServe { s1 with chn.units := s1.chn.units.map fun x => match x.2 with
          | .live a _ | .starting a _ | .claimed a _ => if a = st then (x.1, .free) else x
          | .retiring a _ _ => if a = st then (x.1, .free) else x
          | _ => x }
      else s1
    | none => s1
  else s

/-- Stream `st` has a unit of use `p`. -/
def hasUnit (s : State) (p : UnitUse → Bool) : Bool := s.chn.units.any fun x => p x.2

/-- The first free unit takes the use `x`. -/
def takeUnit (x : UnitUse) (s : State) : State := match freeUnits s with
  | u :: _ => s.setUnit u x
  | [] => s

/-- Stream `st` becomes valid (R105): it has a live unit under its head's generation, and one for the new generation while its head's change
waits for S (R139, R140). Its bins are valid 1,536 samples later (R144). -/
def streamBack (st : Nat) (s : State) : State :=
  if s.chn.valid.contains st then s
  else
    let s1 : State := { s with chn.valid := s.chn.valid ++ [st],
                               chn.tails := aput (s.chn.tails.filter fun x => decide (s.clock.now < x.2)) st (s.clock.now + samples 1536) }
    let h := streamHead s st
    let live (x : UnitUse) : Bool := match x with | .live a _ => a == st | _ => false
    let next (x : UnitUse) : Bool := match x with | .claimed a _ | .starting a _ => a == st | _ => false
    let s2 := if hasUnit s1 live then s1 else takeUnit (.live st ((h.map fun h => calRxGen h s).getD 0)) s1
    match h.bind (changeOf s2) with
    | some c =>
      if c.sAt.isNone || hasUnit s2 next then s2 else takeUnit (if c.begun then .starting st c.gen else .claimed st c.gen) s2
    | none => s2

/-- Whether stream `st` is delivered valid now: a valid entry whose port is UP with valid samples, or whose down-converter is on
(R96, R105). -/
def streamOk (s : State) (st : Nat) : Bool := match streamHead s st with
  | some h =>
    if h < 32 then (s.port h).state == .up && (s.port h).samplesOk
    else s.headUp h && s.fldAt rAnaPortCtrl (h - 32) (s.entry tFhPool st / 2 ^ 21 % 4) 1 == 1
  | none => false

/-- Bring the validity of every stream of head `h` up to date. -/
def refreshStreams (h : Nat) (s : State) : State :=
  (headStreams s h).foldl (fun s st => if streamOk s st then streamBack st s else streamGone st s) s

/-- A merged detection that comes after its record was issued raises MERGED, and sets FAMILY, in the copy that the lane holds
(R154). -/
def lateMerge (seq : Nat) (fam : Bool) (s : State) : State :=
  let up (r : DetRecord) : DetRecord :=
    if r.seq = seq then { r with merged := min 255 (r.merged + 1), family := r.family || fam } else r
  { s with det.fifo := s.det.fifo.map up,
           lane.lanes := s.lane.lanes.map fun x => (x.1, { x.2 with record := x.2.record.map up }) }

/-- Slice `sl` is in a warm-up of R158, in which both slices issue and one copy of each record is discarded. -/
def spareWarming (s : State) (sl : Nat) : Bool :=
  s.hlt.test.any fun j => j.kind == 1 && j.inst == sl && (j.warm == 1 || j.warm == 3)

/-! ### The acknowledgement of a port that leaves UP (R256) -/

/-- The owed acknowledgement of group `g` goes to the standby at header time, and again where it moves (R209, R256, R309, R378). -/
def mirrorBook (g : Nat) (a : AckTmpl) (s : State) : State := match bookingOf s a.booking with
  | some b => mirror (.ackBook { group := g, port := txHead b.stream, channel := b.channel, airStart := b.start, airtime := b.airtime,
                                 power := b.gain + s.signedAt rTxmStreamCtrl b.stream 0 16, profile := b.profile, leaveTime := b.leave,
                                 deadline := a.deadline }) none s
  | none => s

/-- Rebook the acknowledgement of group `g`, whose port has left UP, on another member port; without one it is refused, and an
OWED entry becomes VOID (R256, R308). -/
def rebookAck (g : Nat) (s : State) : State :=
  match afind s.txm.acks g, s.groupOf g with
  | some a, some x =>
    match bookingOf s a.booking, x.summary with
    | some b, some sm =>
      if b.leave ≤ s.clock.now then s
      else
        let old := txHead b.stream
        let s1 := unbook a.booking s
        let others := (x.ports.filter fun m => m.1 ≠ old).mergeSort fun p q => decide (q.2.2 < p.2.2 ∨ q.2.2 = p.2.2 ∧ p.1 ≤ q.1)
        let fit := others.filter fun m => match ackLeave s1 sm m with
          | some l => decide (s.clock.now + (txPrep + ackMargin) ≤ l)
          | none => false
        match bookAckAmong g sm s1 fit with
        | (some t, s2) =>
          let leave := ((bookingOf s2 t.booking).map fun b => b.leave).getD 0
          let s2 := mirrorBook g t s2
          let s3 : State := { s2 with txm.acks := amod s2.txm.acks g fun u => { u with armed := a.armed },
                                      jrn.cands := amod s2.jrn.cands g fun c => { c with deadline := some t.deadline, leave := some leave } }
          { s3 with jrn.entries := s3.jrn.entries.map fun e =>
              if e.group = g ∧ e.state = .owed then { e with leave := leave, deadline := t.deadline } else e }
        | (none, s2) =>
          let s3 : State := { s2 with txm.acks := adel s2.txm.acks g,
                                      jrn.cands := amod s2.jrn.cands g fun c => { c with refused := true, deadline := none, leave := none } }
          (s3.jrn.entries.filter fun e => e.group == g && e.state == .owed).foldl (fun s e => voidEntry e.hdr.jsn s) s3
    | _, _ => s
  | _, _ => s

/-- Booking `b` is at work on a modulator. -/
def isRunning (s : State) (b : Booking) : Bool := s.txm.running.any fun x => x.2.booking.id == b.id

/-- Head `h` has left UP: its streams are invalid, the acknowledgements booked on it move (R105, R256), and its other bookings that have not
begun are removed, their transmissions deferred (R186, R189, R210). -/
def portLeftUp (h : Nat) (s : State) : State :=
  let s1 := refreshStreams h s
  let s2 := (s1.txm.acks.filter fun x => match bookingOf s1 x.2.booking with
    | some b => txHead b.stream == h
    | none => false).foldl (fun s x => rebookAck x.1 s) s1
  (s2.txm.bookings.filter fun b => txHead b.stream == h && !isRunning s2 b && (match b.use with | .ack _ => false | _ => true)).foldl
    (fun s b => deferTx b s) s2

/-- A fronthaul port that goes DOWN: a pending generation request of its head is abandoned with its claimed units (R223). -/
def calAbandon (h : Nat) (s : State) : State :=
  let c := changeOf s h
  let s1 := s.modCal h fun x => { x with pending := false, frozen := none }
  match c with
  | none => s1
  | some c => chnServe { s1 with
      chn.changes := s1.chn.changes.filter (fun x => x.head != h),
      chn.units := s1.chn.units.map fun x => match x.2 with
        | .claimed st g | .starting st g => if g = c.gen ∧ streamHead s st = some h then (x.1, .free) else x
        | _ => x }

/-! ### The corrections of a generation (R138) -/

/-- A step of the correction of a unit's input: the DC offset in steps of 16-bit I and Q, the IQ imbalance in 0.01 dB and 0.01°, the gain in
0.05 dB, the tuning word of the NCO that removes the LO offset, and the resampler's offset in 0.1 ppb (R138, R215). -/
inductive Correction where
  | dc (i q : Int)
  | imbalance (gain phase : Int)
  | gain (g : Int)
  | lo (word : BitVec 32)
  | resample (offset : Int)
  deriving DecidableEq, Repr

/-- The corrections of the set `x` to a stream with that centre frequency, in their order (R138). -/
def corrections (x : RxSet) (centre : Int) : List Correction :=
  [.dc x.dcI x.dcQ, .imbalance x.iqGain x.iqPhase, .gain x.gain, .lo (ncoWord (-(centre * x.lo / 10000000000)) 20480000),
   .resample x.sco]

/-- The corrections that the units of stream `st` under generation `g` apply to their input: those of its head or analogue port (R139). -/
def streamCorrections (s : State) (st g : Nat) : List Correction := match streamHead s st with
  | some h => ((rxSetOf (s.headCal h) g).map fun x => corrections x (streamCentre s st)).getD []
  | none => []

/-- A sample less its DC offset, the first correction (R138). -/
def dcCorrect (x : RxSet) (z : Iq) : Iq := (z.1 - x.dcI, z.2 - x.dcQ)

/-! ### The candidate that a failed frame leaves -/

/-- The candidate of group `g` closes: its acknowledgement is discarded with its booking (R199, R299, R352). -/
def candidateClose (g : Nat) (s : State) : State :=
  groupSettle g (dropAck g (newcomerGone g { s with jrn.cands := adel s.jrn.cands g }))

/-! ### The end of P7 (R51, R52) -/

/-- The image asks for a pair: PAIR_MODE of its header. -/
def pairMode (s : State) : Bool := (s.start.image.map fun h => h.pairMode != 0).getD false

/-- P7 ends: a pair goes on to P8, a solo device skips it. -/
def endP7 (s : State) : State :=
  if s.start.phase = .p7 then
    if pairMode s then { s with start.phase := .p8 } else { s with start.linkDone := true }
  else s

/-- P7 ends once every enabled fronthaul port is up. -/
def p7Check (s : State) : State :=
  if (List.range 32).all fun p => s.fldAt rFhPortCtrl p 0 1 == 0 || (s.port p).state == .up then endP7 s else s

end Sys2Proof.Machine
end

