-- ==== Sys2Proof/Machine/Supported.lean ====
section
/-! DEFINITION. The supported set of each block's settings (R493) and BLOCK_CFG_ERR (R74). A violation stands under the offset of the
lowest register that takes part; one that lies in a table alone stands under offset 0. -/

namespace Sys2Proof.Machine

open Host

/-! ### Where a DRAM region may lie (R437, R438) -/

/-- The length of the mirrored window in octets. -/
def mirrorSize (s : State) : Nat := s.fld rMemMirror 0 8 * 2 ^ 28

/-- The data capacity of the channels in service, each less the window: the length I of the interleaved space. -/
def interleaved (s : State) : Nat :=
  let one (c : DdrCh) : Nat := if c.ok then c.cap * 2 ^ 30 - mirrorSize s else 0
  one s.msys.chA + one s.msys.chB

/-- The first address of the mirrored window. -/
def mirrorBase (s : State) : Nat := 2 ^ 36 - mirrorSize s

/-- A region inside the mirrored window. -/
def inMirror (s : State) (base size : Nat) : Bool := decide (mirrorBase s ≤ base ∧ base + size ≤ 2 ^ 36)

/-- A region inside the DRAM fitted. -/
def inDram (s : State) (base size : Nat) : Bool := decide (base + size ≤ interleaved s) || inMirror s base size

/-- A base held in a LO and a HI register, in the layout of LANE_SPILL_BASE. -/
def State.base (s : State) (lo hi : Nat) : Nat := (s.reg hi).toNat * 2 ^ 32 + (s.reg lo).toNat

/-! ### Field ranges -/

/-- A field's range: the first register's address, its instances, their stride, the field, its least and greatest value, and whether 0
has a meaning of its own. -/
structure Rng where
  addr   : Nat
  cnt    : Nat
  stride : Nat
  lo     : Nat
  w      : Nat
  least  : Nat
  most   : Nat
  zero   : Bool
  deriving DecidableEq, Repr

/-- The ranges that the cards state, by block in ascending offset. -/
def ranges : Nat → List Rng
  | 4 => [⟨rFhPortCtrl, 32, 0x400, 8, 8, 4, 60, false⟩]
  | 7 => [⟨rDetSlotCtrl, 12, 0x400, 8, 8, 16, 127, true⟩, ⟨rDetCtrl, 1, 0, 0, 8, 12, 60, false⟩]
  | 8 => [⟨rLaneCtrl, 1, 0, 0, 8, 12, 60, false⟩, ⟨rLaneCtrl, 1, 0, 8, 8, 5, 200, false⟩,
      ⟨rLaneSpillLimit, 1, 0, 0, 4, 1, 8, false⟩]
  | 10 => [⟨rCalCtrl, 1, 0, 0, 8, 2, 255, false⟩, ⟨rCalCtrl, 1, 0, 8, 8, 1, 100, false⟩, ⟨rCalCtrl, 1, 0, 16, 8, 1, 168, false⟩]
  | 11 => [⟨rSchCtrl, 1, 0, 0, 9, 50, 400, false⟩, ⟨rSchGuard, 1, 0, 0, 12, 100, 2000, false⟩,
      ⟨rSchNbrCtrl, 1, 0, 0, 12, 10, 3600, false⟩, ⟨rSchTxCtrl, 1, 0, 0, 8, 0, 80, false⟩]
  | 12 => [⟨rTimeCtrl, 1, 0, 8, 8, 1, 200, false⟩]
  | 13 => [⟨rFldCtrl, 1, 0, 0, 4, 1, 15, false⟩, ⟨rFldCtrl, 1, 0, 8, 12, 60, 3600, false⟩]
  | 14 => [⟨rFwdPortLearn, 36, 0x400, 0, 16, 10, 65535, false⟩, ⟨rFwdPortLearn, 36, 0x400, 16, 15, 1, 32767, false⟩,
      ⟨rFwdCtrl, 1, 0, 0, 12, 100, 4000, false⟩, ⟨rFwdCtrl, 1, 0, 12, 8, 4, 80, false⟩, ⟨rFwdCtrl, 1, 0, 20, 8, 1, 255, false⟩,
      ⟨rFwdCtrl2, 1, 0, 7, 12, 15, 4095, false⟩, ⟨rFwdCtrl2, 1, 0, 19, 8, 1, 255, false⟩, ⟨rFwdCtrl2, 1, 0, 27, 5, 1, 31, false⟩,
      ⟨rFwdAge, 1, 0, 0, 9, 1, 480, false⟩, ⟨rFwdAge, 1, 0, 9, 11, 1, 1440, false⟩]
  | 15 => [⟨rKeyCtrl, 1, 0, 0, 3, 1, 7, false⟩, ⟨rKeyCtrl, 1, 0, 8, 8, 5, 90, false⟩]
  | 16 => [⟨rJrnCtrl, 1, 0, 0, 10, 10, 600, false⟩, ⟨rJrnRingSize, 1, 0, 0, 16, 256, 32768, false⟩]
  | 17 => [⟨rFryCtrl, 1, 0, 0, 8, 10, 255, false⟩, ⟨rFryCtrl, 1, 0, 8, 8, 1, 100, false⟩, ⟨rFryCtrl, 1, 0, 16, 8, 1, 168, false⟩,
      ⟨rFryWindow, 1, 0, 0, 21, 1024, 1048576, false⟩, ⟨rFryWindow, 1, 0, 21, 11, 64, 1024, false⟩,
      ⟨rFryMtu, 1, 0, 0, 16, 2304, 9000, false⟩]
  | 18 => [⟨rPairCtrl, 1, 0, 0, 8, 4, 200, false⟩, ⟨rPairCtrl, 1, 0, 8, 8, 1, 255, false⟩, ⟨rPairCtrl, 1, 0, 16, 6, 1, 40, false⟩,
      ⟨rPairCtrl, 1, 0, 23, 5, 1, 31, false⟩, ⟨rPairCtrl2, 1, 0, 0, 8, 1, 255, false⟩]
  | 19 => [⟨rUpdCtrl, 1, 0, 16, 8, 6, 255, false⟩, ⟨rUpdCtrl, 1, 0, 24, 8, 10, 255, false⟩, ⟨rUpdCtrl2, 1, 0, 0, 8, 1, 50, false⟩,
      ⟨rUpdCtrl2, 1, 0, 8, 4, 1, 8, false⟩, ⟨rUpdCampSize, 1, 0, 0, 11, 16, 1024, false⟩]
  | 20 => [⟨rMemCtrl, 1, 0, 0, 3, 0, 4, false⟩, ⟨rMemCtrl, 1, 0, 5, 2, 0, 2, false⟩, ⟨rMemCtrl, 1, 0, 8, 8, 1, 168, false⟩,
      ⟨rMemMirror, 1, 0, 0, 8, 1, 128, false⟩]
  | 21 => [⟨rQuayCfg, 64, 0x400, 0, 17, 0, 65536, false⟩]
  | 22 => [⟨rHltCtrl, 1, 0, 12, 8, 10, 255, false⟩, ⟨rHltCtrl, 1, 0, 20, 4, 1, 15, false⟩, ⟨rHltCoal, 1, 0, 0, 7, 1, 100, false⟩,
      ⟨rHltCoal, 1, 0, 8, 16, 2, 65535, false⟩, ⟨rHltJigCtrl, 1, 0, 8, 8, 1, 168, false⟩, ⟨rHltWmCfg, 32, 8, 0, 5, 0, 10, false⟩]
  | 24 => [⟨rEngCtrl, 1, 0, 8, 5, 0, 16, false⟩, ⟨rEngWdog, 12, 0x400, 0, 8, 1, 255, false⟩]
  | _ => []

/-- The offsets at which a range is broken. -/
def rangeBad (s : State) (r : Rng) : List Nat :=
  ((List.range r.cnt).filter fun i =>
    let v := s.fld (r.addr + i * r.stride) r.lo r.w
    !(decide (r.least ≤ v ∧ v ≤ r.most) || (r.zero && v == 0))).map fun i => (r.addr + i * r.stride) % 2 ^ 20

/-! ### Combinations and tables -/

/-- Offset `off` where `bad` holds. -/
def flag (off : Nat) (bad : Bool) : List Nat := if bad then [off % 2 ^ 20] else []

/-- Some element stands twice. -/
def hasDup : List Nat → Bool
  | [] => false
  | a :: r => r.contains a || hasDup r

/-- FH_POOL: a reserved SOURCE, a port, slot or path that does not exist, a reserved bit, or one source named twice (R105). -/
def poolBad (s : State) : Bool :=
  let es := ((s.entries tFhPool).map fun x => x.2).filter fun e => e / 2 ^ 31 % 2 == 1
  es.any (fun e => decide (2 ≤ e / 2 ^ 29 % 4) || e % 2 ^ 17 != 0 ||
      (e / 2 ^ 29 % 4 == 1 && (decide (4 ≤ e / 2 ^ 24 % 32) || decide (4 ≤ e / 2 ^ 21 % 8) || e / 2 ^ 17 % 16 != 0))) ||
    hasDup (es.map fun e => e / 2 ^ 21)

/-- The largest window of a mode in kHz (R145). -/
def largestWindow (m : Nat) : Nat := [52, 52, 112, 112, 112, 112, 112, 112, 52, 112, 23, 23, 23, 23, 212, 272].getD m 0

/-- A mode that reads the coded SFD as RSC (R145). -/
def readsRsc (m : Nat) : Bool := m == 1 || m == 3 || m == 5 || m == 7

/-- The mode whose SFD reading mode `m` has on stream `st`: a J mode takes that of the other F50 or F100 member enabled there, or reads NRNSC
(R145). -/
def sfdMode (s : State) (st m : Nat) : Nat :=
  if m < 14 then m
  else if (enabledModes s st).any fun x => family x.2 == family m && readsRsc x.2 then (if m = 14 then 1 else 3)
  else if m = 14 then 0 else 2

/-- Two members of one family on one stream that disagree in their coded-SFD reading; a J mode takes its partner's (R145, R147). -/
def sfdClash (ms : List Nat) : Bool :=
  ms.any fun a => ms.any fun b => decide (a < 8) && decide (b < 8) && family a == family b && readsRsc a != readsRsc b

/-- The coefficient `k` of a TXM_FILTER entry (R190). -/
def coefOf (e k : Nat) : Int := toSigned 16 (e / 2 ^ (8 * (132 - 4 - 2 * k - 2)) % 2 ^ 16)

/-- A TXM_FILTER entry outside R190. -/
def filterBad (e : Nat) : Bool :=
  let taps := octetField 132 e 0 26 6 + 1
  let kind := octetField 132 e 0 24 2
  let cs := (List.range 64).map fun k => coefOf e k
  decide (2 ≤ kind) || octetField 132 e 0 0 24 != 0 || (cs.drop taps).any (fun c => c != 0) ||
    (kind == 0 && decide (328 < ((cs.take taps).foldl (· + ·) 0 - 32768).natAbs))

/-- A TXM_PROFILE entry outside R191. -/
def profileBad (e : Nat) : Bool :=
  let f := octetField 8 e 0 28 4
  let p := octetField 8 e 0 8 10
  decide (9 < f) || octetField 8 e 0 24 2 == 3 || (octetField 8 e 0 26 2 != 0 && f != 4 && f != 5) ||
    (octetField 8 e 0 22 1 == 1 && decide (3 < f)) ||
    (if 6 ≤ f then p != 0 else decide (p < 4 ∨ 1000 < p)) || octetField 8 e 0 0 8 != 0 || octetField 8 e 4 0 32 != 0

/-- The VALID channels (R245). -/
def validChannels (s : State) : List (Nat × Nat) :=
  (s.entries tSchChannel).filter fun x => octetField 8 x.2 4 24 1 == 1

/-- A channel that straddles an edge of a sub-band (R205): it overlaps one that does not hold it wholly. -/
def straddles (s : State) (c : Channel) : Bool :=
  (s.entries tSchSubband).any fun x =>
    let lo := octetField 12 x.2 0 0 32 * 2
    let hi := octetField 12 x.2 4 0 32 * 2
    decide (lo < c.centre * 2 + c.width ∧ c.centre * 2 - c.width < hi) &&
      !decide (lo ≤ c.centre * 2 - c.width ∧ c.centre * 2 + c.width ≤ hi)

/-- Two slotframes whose ranges of cells overlap (R247). -/
def rangesOverlap (l : List Slotframe) : Bool := match l with
  | [] => false
  | a :: r => r.any (fun b => decide (a.first < b.first + b.count ∧ b.first < a.first + a.count)) || rangesOverlap r

/-- The slotframes in use. -/
def slotframes (s : State) : List (Nat × Slotframe) :=
  ((s.entries tSchSlotframe).map fun x => (x.1, slotframeOf s x.1)).filter fun x => x.2.valid

/-- The tables of the slot scheduler outside R204, R205 and R245 to R248, and the level-3 rule of R128. -/
def schTablesBad (s : State) : Bool :=
  let sf := (slotframes s).map fun x => x.2
  (s.entries tSchRegProfile).any (fun x =>
      let e := x.2
      decide (octetField 16 e 0 0 16 < 1 ∨ 3600 < octetField 16 e 0 0 16 ∨ octetField 16 e 4 0 16 < 1 ∨
        3600 < octetField 16 e 4 0 16) || octetField 16 e 12 0 32 != 0) ||
  (s.entries tSchSubband).any (fun x => octetField 12 x.2 8 0 16 != 0) ||
  (s.entries tSchChannel).any (fun x => decide (4 < octetField 8 x.2 4 29 3) || octetField 8 x.2 4 0 24 != 0) ||
  (validChannels s).any (fun x => straddles s (channelOf s x.1)) ||
  (s.entries tSchHop).any (fun x =>
      let n := x.2 / 2 ^ (8 * 259) % 256 + 1
      x.2 / 2 ^ (8 * 256) % 2 ^ 24 != 0 ||
      (List.range n).any fun k => !(channelOf s (x.2 / 2 ^ (8 * (255 - k)) % 256)).valid) ||
  (s.entries tSchSlotframe).any (fun x => octetField 16 x.2 0 1 3 != 0 || octetField 16 x.2 4 0 16 != 0) ||
  sf.any (fun f => decide (7 < f.handle) || f.length == 0 || decide (1048576 < f.first + f.count) ||
    decide (8 < (sf.filter fun g => g.pan == f.pan).length)) ||
  hasDup (sf.map fun f => f.pan * 256 + f.handle) || rangesOverlap sf ||
  (s.entries tSchCell).any (fun x =>
      let c := cellOf x.2
      c.kind != 0 && (octetField 16 x.2 4 0 9 != 0 || octetField 16 x.2 8 0 3 != 0 || octetField 16 x.2 12 8 1 != 0 ||
        decide ((slotframeOf s c.slotframe).length ≤ c.offset) || (c.kind == 7 && !c.shared) ||
        (c.kind == 4 && (octetField 16 x.2 4 9 17 != 0 || decide (35 < c.port))) ||
        ((txProfile s c.profile).format == 9 &&
          (validChannels s).any fun ch => (regProfile s (channelOf s ch.1).profile).maxTx == 400))) ||
  (s.entries tSchNbr).any (fun x => octetField 24 x.2 8 0 16 == 0 || octetField 24 x.2 12 1 15 != 0 ||
    octetField 24 x.2 20 0 32 != 0)

/-- A route RESULT outside R346. -/
def resultBad (ipv4 : Bool) (r : Nat) : Bool :=
  let a := r / 2 ^ 29
  decide (4 < a) || r / 2 ^ 28 % 2 == 1 || (ipv4 && a != 0 && a != 3)

/-- The routing tables outside R343, R346 and R347, and FWD_NODE outside R332 and R349. -/
def fwdTablesBad (s : State) : Bool :=
  (s.entries tFwdNode).any (fun x => decide (2 ≤ x.2 / 2 ^ 39 % 4) || x.2 / 2 ^ 32 % 2 ^ 6 != 0 || x.2 % 2 ^ 8 != 0) ||
  (s.entries tFwdTcam).any (fun x => resultBad (x.2 / 2 ^ 316 % 16 == 2) (x.2 % 2 ^ 32)) ||
  (s.entries tFwdTrie).any (fun x => resultBad false (x.2 % 2 ^ 32)) ||
  (s.entries tFwdNexthop).any (fun x => decide (7 < x.2 / 2 ^ 120) || x.2 / 2 ^ 112 % 256 != 0 ||
    decide (4094 < x.2 / 2 ^ 96 % 2 ^ 16) || x.2 % 2 ^ 48 != 0)

/-- FRY_PORT and FRY_ENDPOINT outside R321. -/
def fryTablesBad (s : State) : Bool :=
  (s.entries tFryPort).any (fun x =>
      let mode := octetField 32 x.2 0 30 2
      (octetField 32 x.2 0 29 1 == 1 && mode != 3) || (octetField 32 x.2 0 28 1 == 1 && mode == 0) ||
      octetField 32 x.2 0 24 4 != 0 || octetField 32 x.2 0 16 8 != 0 ||
      octetField 32 x.2 8 16 12 == 4095 || octetField 32 x.2 8 28 4 != 0 || octetField 32 x.2 8 0 16 != 0 ||
      octetField 32 x.2 12 0 32 != 0) ||
  (s.entries tFryEndpoint).any (fun x => decide (1 < octetField 20 x.2 16 8 8) || octetField 20 x.2 16 0 8 != 0)

/-- The combinations that the block's chapter excludes, with their offsets. -/
def combos (s : State) (n : Nat) : List Nat := match n with
  | 3 =>
    let en (k : Nat) : Bool := s.fld rClkCtrl k 1 == 1
    let fhOn (a : Nat) : Bool := (List.range 16).any fun p => s.fldAt rFhPortCtrl (a + p) 0 1 == 1
    let eth : Bool := (s.entries tFryPort).any fun x => octetField 32 x.2 0 30 2 != 0
    flag 0 ((fhOn 0 && !en 0) || (fhOn 16 && !en 1) || (eth && !en 2) || (pairMode s && !en 3))
  | 4 => flag 0 (poolBad s)
  | 7 =>
    let ms := (List.range 12).filter fun k => s.fldAt rDetSlotCtrl k 0 1 == 1
    ((List.range 12).filter fun k => decide (largestWindow (slotMode s k) < s.fldAt rDetSlotCtrl k 16 10)).map (fun k => k * 0x400) ++
    flag rDetSlotCtrl (hasDup (ms.map fun k => slotMode s k)) ++
    ((List.range 128).filter fun st => sfdClash ((enabledModes s st).map fun x => x.2)).map (fun st => rDetStreamMask % 2 ^ 20 + st * 0x400)
  | 8 => flag rLaneSpillBaseLo
      (!inDram s (s.base rLaneSpillBaseLo rLaneSpillBaseHi) (256 * s.fld rLaneSpillLimit 0 4 * 2 ^ 20))
  | 9 => flag 0 ((s.entries tTxmFilter).any (fun x => filterBad x.2) || (s.entries tTxmProfile).any fun x => profileBad x.2) ++
      ((List.range 8).filter fun t => s.fldAt rTxmStreamCtrl (64 + t) 17 4 != 0).map fun t => rTxmStreamCtrl % 2 ^ 20 + (64 + t) * 0x400
  | 11 =>
    flag rSchCtrl (decide (s.fld rSchCtrl 9 12 < 400 + s.fld rLaneCtrl 8 8 ∨ 4000 < s.fld rSchCtrl 9 12)) ++
    flag rSchCtrl (decide (s.fld rSchCtrl 0 9 * 100 ≤ s.fld rSchTiming 0 16)) ++
    flag rSchGuard (decide (s.fld rSchGuard 12 12 < s.fld rSchGuard 0 12 + 100 ∨ 4000 < s.fld rSchGuard 12 12)) ++
    flag rSchCellBaseLo (!inDram s (s.base rSchCellBaseLo rSchCellBaseHi) (2 ^ 24)) ++ flag 0 (schTablesBad s)
  | 13 => flag 0 ((s.entries tFldPort).any fun x => x.2 % 2 ^ 16 != 0)
  | 14 => flag rFwdNtBaseLo (!inDram s (s.base rFwdNtBaseLo rFwdNtBaseHi) (1088 * 2 ^ 20)) ++
      flag rFwdRbBaseLo (!inDram s (s.base rFwdRbBaseLo rFwdRbBaseHi) (1032 * 2 ^ 20)) ++ flag 0 (fwdTablesBad s)
  | 15 => flag rKeyCtrl (s.fld rKeyCtrl 0 3 == 4) ++
      flag rKeyBlobBaseLo (!inDram s (s.base rKeyBlobBaseLo rKeyBlobBaseHi) (320 * 2 ^ 20))
  | 16 => flag rJrnRingBaseLo (!inDram s (s.base rJrnRingBaseLo rJrnRingBaseHi) (ringSize s)) ++
      flag rJrnRingSize (s.fld rJrnRingSize 0 16 % 256 != 0) ++
      flag rJrnDlBaseLo (!inDram s (s.base rJrnDlBaseLo rJrnDlBaseHi) (2 ^ 28))
  | 17 => flag 0 (fryTablesBad s)
  | 18 => flag rPairFormat (decide (s.fld rPairFormat 0 16 < s.fld rPairFormat 16 16))
  | 19 => flag rUpdCampBaseLo (!inDram s (s.base rUpdCampBaseLo rUpdCampBaseHi) (s.fld rUpdCampSize 0 11 * 2 ^ 20)) ++
      flag rUpdProgBaseLo (!inDram s (s.base rUpdProgBaseLo rUpdProgBaseHi) (160 * 2 ^ 20))
  | 20 => flag rMemCtrl (s.msys.chA.ok && s.msys.chB.ok && s.msys.chA.cap != s.msys.chB.cap) ++
      flag rMemMirror ((s.msys.chA.ok && decide (s.msys.chA.cap * 2 ^ 30 < mirrorSize s)) ||
        (s.msys.chB.ok && decide (s.msys.chB.cap * 2 ^ 30 < mirrorSize s))) ++
      flag rMemMirror (!inMirror s (s.base rJrnRingBaseLo rJrnRingBaseHi) (ringSize s) ||
        !inMirror s (s.base rJrnDlBaseLo rJrnDlBaseHi) (2 ^ 28))
  | 21 =>
    let named (v : Nat) : Bool := decide (v ≤ 11) || decide (16 ≤ v ∧ v ≤ 23) || v == 31
    flag rQuayCfg (decide (65536 < (List.range 64).foldl (fun n q => n + s.fldAt rQuayCfg q 0 17) 0) ||
      s.fld rLaneCtrl 16 6 == s.fld rFwdCtrl2 0 6) ++
    ((List.range 64).filter fun q => !named (s.fldAt rQuayCfg q 24 5)).map (fun q => q * 0x400) ++
    ((List.range 64).filter fun q => !named (s.fldAt rQuayCfg2 q 17 5)).map (fun q => q * 0x400 + 4) ++
    flag rQuayOvfBaseLo (!inDram s (s.base rQuayOvfBaseLo rQuayOvfBaseHi)
      ((List.range 64).foldl (fun n q => n + s.fldAt rQuayCfg q 17 7) 0 * 2 ^ 20))
  | 22 =>
    let c := s.fld rHltCtrl 8 4
    flag rHltCtrl (c == 0 || (s.fld rEngCtrl 0 1 == 1 && c / 2 % 2 == 1) || (s.fld rEngCtrl 1 1 == 1 && c / 8 % 2 == 1)) ++
    flag rHltDumpBaseLo (!inDram s (s.base rHltDumpBaseLo rHltDumpBaseHi) (2 ^ 28))
  | _ => []

/-- The offsets of the registers that take part in a violation of block `n`. -/
def violations (s : State) (n : Nat) : List Nat := (ranges n).flatMap (rangeBad s) ++ combos s n

/-- BLOCK_CFG_ERR of block `n` (R74, R493). -/
def cfgErrWord (s : State) (n : Nat) : Nat :=
  if s.cfgErr.getLsbD n then 1 + (match violations s n with
    | [] => 0
    | o :: r => r.foldl min o) * 2 ^ 8 else 0

/-- Interrupt source `n` is asserted, or its cause is removed (R432). -/
def setIrq (n : Nat) (on : Bool) (s : State) : State :=
  let l := s.msys.irq.filter fun x => x != n
  { s with msys.irq := if on then l ++ [n] else l }

/-- Evaluate BLOCK_CFG_ERR of block `n`; a change from 0 to 1 asserts interrupt source `n` (R493). -/
def refreshOne (n : Nat) (s : State) : State :=
  let bad := !(violations s n).isEmpty
  let s1 : State := { s with cfgErr := if bad then s.cfgErr ||| BitVec.ofNat 25 (2 ^ n) else s.cfgErr &&& ~~~ BitVec.ofNat 25 (2 ^ n) }
  if !bad then setIrq n false s1 else if s.cfgErr.getLsbD n then s1 else setIrq n true s1

/-- The blocks whose supported set depends on a setting of block `n` or one of its tables. -/
def cfgDeps : Nat → List Nat
  | 4 => [4, 3]
  | 8 => [8, 11, 21]
  | 9 => [9, 11]
  | 14 => [14, 21]
  | 16 => [16, 20]
  | 17 => [17, 3]
  | 20 => [20, 8, 11, 14, 15, 16, 19, 21, 22]
  | 24 => [24, 22]
  | n => [n]

/-- Evaluate BLOCK_CFG_ERR after a write to block `n` or one of its tables, in every block that the write may concern (R74). -/
def refreshCfg (n : Nat) (s : State) : State := (cfgDeps n).foldl (fun s b => refreshOne b s) s

end Sys2Proof.Machine
end

