-- ==== Sys2Proof/Machine/Time.lean ====
section
/-! DEFINITION. The timekeeper: device time, its sources, slewing and the commands that measure (R236 to R241, R259 to R262). -/

namespace Sys2Proof.Machine

open Host

/-! ### Sources (R237, R238) -/

/-- TIME_STATUS.LOCKED: a source is usable. -/
def timeLocked (s : State) : Bool := s.timer.nbr.usable || s.timer.pps.usable || s.timer.ptp.usable

/-- The source that R237 and R241 choose: 5 partner on a standby, then beacons, PPS, PTP, and holdover once a source has been
usable. -/
def sourceOf (s : State) : Nat :=
  if s.pair.state = .standby ∨ s.pair.state = .resync ∧ s.pair.phasesDone.contains 3 then 5
  else if s.timer.nbr.usable then 1
  else if s.timer.pps.usable then 2
  else if s.timer.ptp.usable then 3
  else if s.timer.everLocked || s.timer.source == 5 then 4 else 0

/-- The time-weighted mean of TIME_RATE over the last 64 s (R237): `rates` holds (from, rate), newest first, and `t` is the end of
the interval looked at. -/
def rateSum (from_ : Time) : Time → List (Time × Int) → Int × Nat
  | _, [] => (0, 0)
  | t, (u, r) :: l =>
    let a := max u from_
    let d := t - a
    let x := if u ≤ from_ then (0, 0) else rateSum from_ u l
    (x.1 + r * d, x.2 + d)

/-- The rates in force since `u`: those set later, and the one in force then. -/
def recentRates (u : Time) : List (Time × Int) → List (Time × Int)
  | [] => []
  | x :: l => x :: if x.1 ≤ u then [] else recentRates u l

/-- TIME_RATE takes the value `r`, within ±100 ppm. -/
def setRate (r : Int) (s : State) : State :=
  let r' := max (-429496) (min 429496 r)
  { (s.setReg rTimeRate (BitVec.ofInt 32 r')) with
    timer.rates := recentRates (s.clock.now - sec 64) ((s.clock.now, r') :: s.timer.rates) }

/-- The rate now. -/
def rateNow (s : State) : Int := (s.reg rTimeRate).toInt

/-- TIME_STATUS.SOURCE follows the sources; every change is counted once, and an entry into holdover freezes the rate (R237). -/
def refreshSource (s : State) : State :=
  let n := sourceOf s
  if n = s.timer.source then s
  else
    let s1 := bump cTimeSrcChange 0 { s with timer.source := n, timer.slewing := s.timer.slewing && n != 4 }
    if n = 4 then
      let x := rateSum (s.clock.now - sec 64) s.clock.now (s.timer.rates ++ [(0, rateNow s)])
      occurs eTimeHoldover (setRate (if x.2 = 0 then rateNow s else x.1 / (x.2 : Int)) s1)
    else occurs eTimeSrcChange s1

/-- Device time may still be stepped once: a cold start, before the schedule starts (R238). -/
def mayStep (s : State) : Bool := !s.timer.stepped && !s.start.warm && !s.sch.started

/-- A source after a measurement of `off` (R237). Before the one step of a cold start the ±100 ns are taken from the first
measurement of the run (DEDUCED, log entry 21). -/
def Source.measure (x : Source) (off : Int) (free : Bool) : Source :=
  let base := if free then (if x.good = 0 then off else x.base) else 0
  let within := decide ((off - base).natAbs ≤ 1600)
  let g := if within then min 16 (x.good + 1) else 0
  if x.usable then
    if 16000 < (off - base).natAbs then { x with good := 0, usable := false, offset := off, base := 0 }
    else { x with good := g, offset := off }
  else { x with good := if free && !within then 1 else g, usable := decide (16 ≤ g), offset := off,
                base := if free && !within then off else base }

/-- The source of number `n` (1 beacons, 2 PPS, 3 PTP). -/
def Timer.sourceN (x : Timer) (n : Nat) : Source := if n = 1 then x.nbr else if n = 2 then x.pps else x.ptp

/-- Replace the source of number `n`. -/
def Timer.setSource (x : Timer) (n : Nat) (y : Source) : Timer :=
  if n = 1 then { x with nbr := y } else if n = 2 then { x with pps := y } else { x with ptp := y }

/-- Shift TIME_RATE to remove an offset of `lim` or more, by at most SLEW_MAX; the shift itself is a free value (R238). -/
def slewTo (lim : Nat) (off : Int) (s : State) : State :=
  if off.natAbs < lim then
    if s.timer.slewing then setRate s.timer.base { s with timer.slewing := false } else s
  else
    let m : Nat := s.fld rTimeCtrl 8 8 * 2 ^ 32 / 10000000
    let base := if s.timer.slewing then s.timer.base else rateNow s
    let sh := max (0 - (m : Int)) (min m (Config.slewShift s.free))
    setRate (base + sh) { s.drawn with timer.slewing := true, timer.base := base,
                                       sch.lastSlew := s.asnAt s.clock.now % 2 ^ 32 }

/-- Slewing by a source of R237: until the offset is below 100 ns (R238). -/
def slew (off : Int) (s : State) : State := slewTo 1600 off s

/-- A measurement of source `n`: device time less the source's time is `off` (R237, R238). -/
def measure (n : Nat) (off : Int) (s : State) : State :=
  if s.fld rTimeCtrl (n - 1) 1 = 0 then s
  else
    let free := mayStep s
    let y := (s.timer.sourceN n).measure off free
    let s1 : State := { s with timer := (s.timer.setSource n y) }
    let s2 : State := { s1 with timer.everLocked := s1.timer.everLocked || timeLocked s1 }
    let s3 := refreshSource s2
    if s3.timer.source ≠ n then s3
    else
      let s4 : State := { s3 with timer.offset := off }
      if free then
        { s4 with timer := { (s4.timer.setSource n { y with base := 0, offset := 0 }) with stepped := true },
                  clock.now := ((s4.clock.now : Int) - off).toNat }
      else slew off s4

/-- Source `n` is lost (R237). -/
def sourceLost (n : Nat) (s : State) : State :=
  refreshSource { s with timer := s.timer.setSource n {} }

/-! ### PTP (R239) -/

/-- One data set is better than another in the order of comparison: the first number that differs is lower, or else it has fewer left. -/
def betterSet : List Nat → List Nat → Bool
  | [], _ :: _ => true
  | x :: a, y :: b => decide (x < y) || (x == y && betterSet a b)
  | _, [] => false

/-- The time transmitter that the best time transmitter algorithm chooses among those heard; of equal ones the sender of lower identity
(R239). -/
def bestMaster (s : State) : Option Nat :=
  (s.timer.masters.foldl (fun b x => match b with
    | none => some x
    | some y => if betterSet (x.2 ++ [x.1]) (y.2 ++ [y.1]) then some x else some y) none).map fun x => x.1

/-- A timestamp of the MAC: resolved to 1.25 ns (R239). -/
def ptpStamp (t : Int) : Int := t / 20 * 20

/-- A PTP message of the port and domain that the timekeeper listens to; another domain, an unsupported kind or a bad length is
counted. -/
def ptpTaken (m : PtpMsg) (s : State) : Bool × State :=
  if s.fld rTimeCtrl 2 1 = 0 ∨ m.port ≠ s.fld rTimeCtrl 3 3 ∨ !s.slotUp then (false, s)
  else if m.domain ≠ s.fld rTimeCtrl 16 8 ∨ !m.supported ∨ !m.lengthOk then (false, bump cTimePtpDiscard 0 s)
  else (true, s)

/-- A Sync with its transmit time gives one offset (R237, R239). -/
def ptpOffset (origin arrival : Int) (s : State) : State :=
  measure 3 (ptpStamp arrival - origin - s.timer.ptpDelay) { s with timer.ptpPair := some (origin, ptpStamp arrival) }

/-- PTP_SYNC: of the chosen time transmitter a one-step Sync measures; a two-step one waits for its Follow_Up (R239). -/
def execPtpSync (t : Time) (m : PtpMsg) (s : State) : Outcome State Fault Refusal :=
  onInst (m.port < 8) <|
    let r := ptpTaken m (s.arrive t)
    if !r.1 || bestMaster r.2 != some m.source then r.2
    else if m.twoStep then { r.2 with timer.ptpSync := some (m.sequence, m.arrival) }
    else ptpOffset m.origin m.arrival r.2

/-- PTP_FOLLOW_UP of the chosen time transmitter (R239). -/
def execPtpFollowUp (t : Time) (m : PtpMsg) (s : State) : Outcome State Fault Refusal :=
  onInst (m.port < 8) <|
    let r := ptpTaken m (s.arrive t)
    if !r.1 || bestMaster r.2 != some m.source then r.2
    else match r.2.timer.ptpSync with
      | some (q, a) => if q = m.sequence then ptpOffset m.origin a { r.2 with timer.ptpSync := none } else r.2
      | none => r.2

/-- PTP_DELAY_RESP: `origin` is when the Delay_Req reached the time transmitter, `arrival` when it left the device; the mean path
delay follows with the last Sync (R239). -/
def execPtpDelayResp (t : Time) (m : PtpMsg) (s : State) : Outcome State Fault Refusal :=
  onInst (m.port < 8) <|
    let r := ptpTaken m (s.arrive t)
    if !r.1 || bestMaster r.2 != some m.source then r.2
    else match r.2.timer.ptpPair with
      | some (o, a) => { r.2 with timer.ptpDelay := ((a - o) + (m.origin - ptpStamp m.arrival)) / 2 }
      | none => r.2

/-- PTP_ANNOUNCE: a time transmitter is heard; when another than before is now the best, the exchange with that one is over (R239). -/
def execPtpAnnounce (t : Time) (m : PtpMsg) (s : State) : Outcome State Fault Refusal :=
  onInst (m.port < 8) <|
    let r := ptpTaken m (s.arrive t)
    if !r.1 then r.2
    else
      let s1 : State := { r.2 with timer.ptpHeard := true, timer.masters := aput r.2.timer.masters m.source m.dataset }
      if bestMaster s1 = bestMaster r.2 then s1 else { s1 with timer.ptpSync := none, timer.ptpPair := none }

/-- PTP_SOURCE_LOST: the time transmitter is no longer heard; the next best of those heard takes its place, and is measured anew (R237,
R239). -/
def execPtpSourceLost (t : Time) (s : State) : Outcome State Fault Refusal :=
  onInst true <|
    let s := s.arrive t
    let left := match bestMaster s with
      | some b => adel s.timer.masters b
      | none => []
    if s.slotUp then sourceLost 3 { s with timer.ptpHeard := !left.isEmpty, timer.masters := left, timer.ptpSync := none, timer.ptpPair := none }
    else s

/-! ### PPS (R240) -/

/-- The distance of `t` from the nearest whole second of device time. -/
def secondPhase (t : Time) : Int :=
  let r := t % sec 1
  if r * 2 < sec 1 then r else (r : Int) - sec 1

/-- One more rejected or missing edge; the third in a row loses the source. -/
def ppsBad (s : State) : State :=
  if 2 ≤ s.timer.ppsBad then sourceLost 2 { s with timer.ppsBad := s.timer.ppsBad + 1 }
  else { s with timer.ppsBad := s.timer.ppsBad + 1 }

/-- PPS_IN_EDGE: the edge is captured to 1 ns, and with PPS_EN measured, or rejected once locked when it lies more than 1 ms from a second
boundary (R240). -/
def execPpsInEdge (t : Time) (s : State) : Outcome State Fault Refusal :=
  onInst true <|
    let s := s.arrive t
    if !s.slotUp then s
    else
      let edge := s.clock.now / 16 * 16
      let s1 : State := { s with timer.ppsEdge := edge }
      let ph := secondPhase edge
      if s.fld rTimeCtrl 1 1 = 0 then s1
      else if timeLocked s && decide (16000000 < ph.natAbs) then ppsBad (bump cTimePpsReject 0 s1)
      else measure 2 ph { s1 with timer.ppsBad := 0 }

/-- PPS_EDGE_MISSING: no edge where one was due (R240). -/
def execPpsEdgeMissing (t : Time) (s : State) : Outcome State Fault Refusal :=
  onInst true <|
    let s := s.arrive t
    if s.slotUp && s.fld rTimeCtrl 1 1 == 1 then ppsBad s else s

/-- PPS_OUT_PULSE: PPS_OUT rises at a second boundary, once a source has been usable since start (R240). -/
def execPpsOutPulse (t : Time) (s : State) : Outcome State Fault Refusal :=
  onInst true <|
    let s := s.arrive t
    if s.slotUp && s.start.phase == .p9 && s.timer.everLocked && decide ((secondPhase s.clock.now).natAbs ≤ 32) then
      { s with pins.ppsOut := true, timer.outHigh := some s.clock.now }
    else s

/-- PPS_OUT_FALL: PPS_OUT falls 100 ms after it rose (R240). -/
def execPpsOutFall (t : Time) (s : State) : Outcome State Fault Refusal :=
  onInst true <|
    let s := s.arrive t
    match s.timer.outHigh with
    | some u => if u + ms 100 ≤ s.clock.now && s.slotUp then { s with pins.ppsOut := false, timer.outHigh := none } else s
    | none => s

/-! ### Neighbouring border routers (R259 to R262) -/

/-- Neighbour `n`. -/
def State.nbr (s : State) (n : Nat) : Nbr := (afind s.sch.nbrs n).getD {}

/-- Replace neighbour `n`. -/
def State.setNbr (s : State) (n : Nat) (x : Nbr) : State := { s with sch.nbrs := aput s.sch.nbrs n x }

/-- SCH_NBR entry `n` is in use. -/
def nbrUsed (s : State) (n : Nat) : Bool := s.entry tSchNbr n != 0

/-- The EUI-64 of SCH_NBR entry `n`. -/
def nbrEui (s : State) (n : Nat) : Eui := BitVec.ofNat 64 (s.entry tSchNbr n / 2 ^ 128)

/-- SCH_NBR.ALIGN of entry `n`. -/
def nbrAlign (s : State) (n : Nat) : Bool := octetField 24 (s.entry tSchNbr n) 12 0 1 == 1

/-- Some ALIGN neighbour is not SILENT (R261). -/
def alignLeft (s : State) : Bool := (List.range 16).any fun n => nbrUsed s n && nbrAlign s n && !(s.nbr n).silent

/-- The lower median of a short list of offsets (R260). -/
def midOf (l : List Int) : Int := (l.mergeSort fun a b => decide (a ≤ b)).getD ((l.length - 1) / 2) 0

/-- BEACON_PERIOD and BEACON_PHASE of SCH_NBR entry `n` (R259). -/
def nbrPeriod (s : State) (n : Nat) : Nat × Nat :=
  let e := s.entry tSchNbr n
  (octetField 24 e 8 0 16, octetField 24 e 12 16 16)

/-- The neighbour's last beacon slot at or before ASN `a` (R259). -/
def beaconBefore (s : State) (n a : Nat) : Nat :=
  let p := nbrPeriod s n
  if p.1 = 0 then a else a - (a + p.1 - p.2 % p.1) % p.1

/-- The expected start of a frame in slot `a` (R248). -/
def expectedAt (s : State) (a : Nat) : Time := s.slotStart a + us (s.fld rSchTiming 0 16)

/-- The beacon slot of neighbour `n` whose expected start lies within ±G_MAX of `start` (R260). -/
def beaconSlot (s : State) (n : Nat) (start : Time) : Option Nat :=
  let a := beaconBefore s n (s.asnAt start)
  [a, a + (nbrPeriod s n).1].find? fun b =>
    decide (max start (expectedAt s b) - min start (expectedAt s b) ≤ us (s.fld rSchGuard 12 12))

/-- NBR_BEACON_HEARD: a beacon of a neighbour starts within G_MAX of the expected start of one of its slots; it restores a SILENT
neighbour, and measures unless its ASN differs (R260 to R262). -/
def execNbrBeaconHeard (t : Time) (n asn : Nat) (start : Time) (s : State) : Outcome State Fault Refusal :=
  onInst (n < 16) <|
    let s := s.arrive t
    if !(s.slotUp && nbrUsed s n) then s
    else match beaconSlot s n start with
      | none => s
      | some a =>
        let x := s.nbr n
        let s1 := s.setNbr n { x with missed := 0, last := some a, silent := false, reclaimed := false }
        let s2 := if x.silent then occurs eSchNbrRestored s1 else s1
        if asn ≠ a then occurs eSchNbrAsn (bump cSchNbrAsnMismatch 0 s2)
        else if nbrAlign s n then
          let d := toSigned 32 (octetField 24 (s.entry tSchNbr n) 16 0 32) * 16
          let l := (((start : Int) - d - expectedAt s a) :: s2.timer.nbrOffsets).take 8
          measure 1 (midOf l) { s2 with timer.nbrOffsets := l }
        else s2

/-- The beacon slot of neighbour `n` that has passed by now without a judgement: its expected start plus G_MAX is past, and at least the airtime of
the beacon more, which the caller waits for (R260). -/
def beaconPassed (s : State) (n : Nat) : Option Nat :=
  let a := beaconBefore s n (s.asnAt (s.clock.now - us (s.fld rSchGuard 12 12 + s.fld rSchTiming 0 16)))
  if (s.nbr n).last.any fun l => decide (a ≤ l) then none else some a

/-- NBR_BEACON_MISSED: a beacon slot of the neighbour has passed without its beacon; the third in a row makes it SILENT (R260, R261). -/
def execNbrBeaconMissed (t : Time) (n : Nat) (s : State) : Outcome State Fault Refusal :=
  onInst (n < 16) <|
    let s := s.arrive t
    match if s.slotUp && nbrUsed s n then beaconPassed s n else none with
    | none => s
    | some a =>
      let x := s.nbr n
      let s1 := bump cSchNbrMiss 0 (s.setNbr n { x with missed := x.missed + 1, last := some a })
      if 3 ≤ x.missed + 1 ∧ !x.silent then
        let s2 := occurs eSchNbrSilent (s1.setNbr n { x with missed := x.missed + 1, last := some a, silent := true, since := s.clock.now })
        if alignLeft s2 then s2 else sourceLost 1 { s2 with timer.nbrOffsets := [] }
      else s1

/-- NBR_HOLDOFF_EXPIRE: a neighbour has been SILENT for HOLDOFF; its cells are reclaimed from the next boundary of their slotframe
(R262). -/
def execNbrHoldoffExpire (t : Time) (n : Nat) (s : State) : Outcome State Fault Refusal :=
  onInst (n < 16) <|
    let s := s.arrive t
    let x := s.nbr n
    if s.slotUp && s.leads && x.silent && decide (x.since + sec (s.fld rSchNbrCtrl 0 12) ≤ s.clock.now) then
      s.setNbr n { x with reclaimed := true }
    else s

end Sys2Proof.Machine
end

