-- ==== Sys2Proof/Machine/Modem.lean ====
section
/-! DEFINITION. The modulators and the spectral-mask monitor (R187, R190, R194, R195, R201, R202) as functions of what they are given: the
samples themselves are carried by no command. -/

namespace Sys2Proof.Machine

open Host

/-! ### The steps of a modulator (R187) -/

/-- Each value held for the 8 samples of a symbol. -/
def hold8 (l : List Int) : List Int := l.flatMap fun x => List.replicate 8 x

/-- Each value as one sample of 8. -/
def pulse8 (l : List Int) : List Int := l.flatMap fun x => x :: List.replicate 7 0

/-- The output of a filter in units of 2^-15, its first coefficient at the newest sample (R190). -/
def filtered (c : List Int) (l : List Int) : List Int :=
  (List.range l.length).map fun n =>
    (c.zipIdx.map fun x => if x.2 ≤ n then x.1 * l.getD (n - x.2) 0 else 0).foldl (· + ·) 0

/-- KIND and the coefficients of TXM_FILTER entry `i` (R190). -/
def filterOf (s : State) (i : Nat) : Nat × List Int :=
  let e := s.entry tTxmFilter i
  (octetField 132 e 0 24 2, (List.range (octetField 132 e 0 26 6 + 1)).map fun k => coefOf e k)

/-- The symbols or chips of a transmission under profile `i`, shaped at 8 samples each: KIND 0 shapes the frequency trajectory, which holds
each symbol, KIND 1 each chip as a pulse (steps 1 and 2 of R187, R190). -/
def shaped (s : State) (i : Nat) (symbols : List Int) : List Int :=
  let f := filterOf s (txProfile s i).filter
  filtered f.2 (if f.1 = 0 then hold8 symbols else pulse8 symbols)

/-- The chips of a Deep frame under profile `i` as deviations of one sign (R121, R124). -/
def deepSymbols (s : State) (i : Nat) (payload : List Byte) : List Int :=
  (deepFrame ((txProfile s i).format - 6) (txProfile s i).whiten payload).map fun c => if c then 1 else -1

/-- The tuning word that shifts a transmission from TX_CENTRE to its channel, less the LO offset of its corrections (step 4 of R187, R195). -/
def modulatorWord (s : State) (r : Running) : BitVec 32 :=
  let f : Int := (channelOf s r.booking.channel).centre
  ncoWord (f - txCentre s r.booking.stream - f * r.corr.lo / 10000000000) 20480000

/-- The power by which a modulator scales, in 1/65,536, and the corrections of its generation that go with it: TX_GAIN, the IQ imbalance and
TX_DLY (step 5 of R187, R194, R195). -/
def modulatorScale (r : Running) : Nat × TxSet := (r.booking.share, r.corr)

/-- A sample of a stream: the sum of its modulators' samples in the 16 bits of I or Q (step 6 of R187); that it saturates is the model's
choice. -/
def streamSum (l : List Int) : Int := (saturate 16 (l.foldl (· + ·) 0)).1

/-! ### The spectral-mask monitor (R201, R202) -/

/-- How far bin `k` lies from a channel's centre, doubled, in Hz: bins of 20 kHz, bin 512 at TX_CENTRE. -/
def binAway (centre : Int) (c : Channel) (k : Nat) : Nat := (2 * (centre + ((k : Int) - 512) * 20000 - c.centre)).natAbs

/-- Four times the average of a bin. -/
def binTotal (spectra : List (List Nat)) (k : Nat) : Nat := (spectra.map fun x => x.getD k 0).foldl (· + ·) 0

/-- `x` lies at least `db` dB below the mean `total` / `n`. -/
def below (db x total n : Nat) : Bool := decide ((x * n) ^ 10 * 10 ^ db ≤ total ^ 10)

/-- Bin `k` breaks the mask of the transmission on channel `c` (R201): beyond the channel's edge up to one channel width it must lie MASK_ADJ,
further out MASK_FAR, below the mean of the in-channel bins, and below MASK_ABS in any case. `inside` lists the in-channel bins' totals. -/
def breaks (centre : Int) (c : Channel) (p : RegProfile) (inside : List Nat) (x k : Nat) : Bool :=
  let total := inside.foldl (· + ·) 0
  !below (if binAway centre c k ≤ 3 * c.width then p.maskAdj else p.maskFar) x total inside.length ||
    decide (10 ^ (600 + p.maskAbs).toNat * 4 ^ 40 ≤ x ^ 40)

/-- The running transmission nearest to bin `k`, by the edge of its channel; the first of those equally near (R202). -/
def nearestTx (centre : Int) (l : List (Nat × Channel × RegProfile)) (k : Nat) : Option Nat :=
  (l.foldl (fun (b : Option (Nat × Nat)) x =>
    let d := binAway centre x.2.1 k - x.2.1.width
    match b with
    | some y => if d < y.2 then some (x.1, d) else b
    | none => some (x.1, d)) none).map fun y => y.1

/-- The modulators charged with a broken bin, each with the first of its bins. A bin inside the channel of a running transmission is judged
against no mask: R201 bounds it for the others as if they ran alone, which no two transmissions on one stream could meet (DEDUCED, see the
log). -/
def maskBreaks (centre : Int) (l : List (Nat × Channel × RegProfile)) (spectra : List (List Nat)) : List (Nat × Nat) :=
  let ins := l.map fun x => (x.2.1, x.2.2, ((List.range 1024).filter fun k => decide (binAway centre x.2.1 k ≤ x.2.1.width)).map (binTotal spectra))
  (List.range 1024).foldl (fun acc k =>
    if l.any (fun x => decide (binAway centre x.2.1 k ≤ x.2.1.width)) ||
        !(ins.any fun x => breaks centre x.1 x.2.1 x.2.2 (binTotal spectra k) k) then acc
    else match nearestTx centre l k with
      | some m => if acc.any fun y => y.1 == m then acc else acc ++ [(m, k)]
      | none => acc) []

end Sys2Proof.Machine
end

