-- ==== Sys2Proof/Machine/Straits.lean ====
section
/-! DEFINITION. The straits (01_architecture.md, R35 to R41): their table, their source FIFOs, and what becomes of an item whose bundle is
lost. -/

namespace Sys2Proof.Machine

open Host

/-- One row of R41 in one direction: the source and destination island by their bit of ISLAND_READY, the width in bits and the number
of straits. -/
structure Strait where
  src   : Nat
  dst   : Nat
  width : Nat
  count : Nat
  deriving DecidableEq, Repr

/-- The straits of R41, a row for each direction; rows 24 to 30 lead from each other island to Control, 31 to 37 back. -/
def straitTable : List Strait :=
  [⟨1, 5, 128, 2⟩, ⟨5, 2, 128, 2⟩, ⟨1, 2, 64, 2⟩, ⟨2, 1, 128, 2⟩, ⟨2, 5, 128, 1⟩, ⟨5, 1, 128, 1⟩, ⟨2, 7, 256, 2⟩, ⟨7, 2, 256, 2⟩,
   ⟨2, 6, 512, 1⟩, ⟨6, 2, 512, 1⟩, ⟨1, 6, 512, 1⟩, ⟨6, 1, 512, 1⟩, ⟨1, 4, 256, 2⟩, ⟨4, 1, 256, 2⟩, ⟨4, 2, 256, 1⟩, ⟨2, 4, 256, 1⟩] ++
  [⟨4, 5, 256, 2⟩, ⟨5, 4, 256, 2⟩, ⟨4, 6, 512, 4⟩, ⟨6, 4, 512, 4⟩, ⟨5, 6, 512, 1⟩, ⟨6, 5, 512, 1⟩, ⟨3, 6, 512, 2⟩, ⟨6, 3, 512, 2⟩] ++
  [0, 1, 2, 4, 5, 6, 7].map (fun i => ⟨i, 3, 64, 1⟩) ++ [0, 1, 2, 4, 5, 6, 7].map fun i => ⟨3, i, 64, 1⟩

/-- Row `k` of the table. -/
def straitRow (k : Nat) : Strait := straitTable.getD k ⟨0, 0, 0, 0⟩

/-- The acceptance-path straits: Sample to Key, Key to Slot, Sample to Slot, Slot to Memory, Slot to Isthmus (R38). -/
def acceptancePath (k : Nat) : Bool := k == 0 || k == 1 || k == 2 || k == 8 || k == 6

/-- The bundles that a source FIFO holds (R38). -/
def straitDepth (k : Nat) : Nat := if acceptancePath k then 32 else 8

/-- One cycle of an island in picoseconds (R41). -/
def islandCycle (i : Nat) : Nat := [24414, 1526, 1000, 625, 1250, 1250, 833, 2482].getD i 0

/-- The shortest and the longest handshake of a strait in picoseconds (R36). -/
def straitHandshake (k : Nat) : Nat × Nat :=
  let c := islandCycle (straitRow k).src + islandCycle (straitRow k).dst
  (4 * c, 6 * c)

/-- The even parity bits of a bundle's data, one for each 32-bit word (R40). -/
def parityBits (ws : List Word) : List Bool := ws.map fun w => (List.range 32).foldl (fun p i => p != w.getLsbD i) false

/-- The number of strait `i` of row `k`: what belongs together travels on one of a row's straits (R37). -/
def straitOf (k i : Nat) : Nat := k * 8 + i % max 1 (straitRow k).count

/-- The island of a block: 0 Always-on, 1 Sample, 2 Slot, 3 Control, 4 Packet, 5 Key, 6 Memory, 7 Isthmus (the table of subsystems). -/
def blockIsland : Nat → Nat
  | 4 | 5 | 6 | 7 | 8 | 9 | 10 => 1
  | 11 | 12 | 16 => 2
  | 19 | 22 | 24 => 3
  | 13 | 14 | 17 | 21 => 4
  | 15 => 5
  | 20 => 6
  | 18 => 7
  | _ => 0

/-- The source FIFO of a strait. -/
def State.fifo (s : State) (n : Nat) : List Instr := (afind s.straits n).getD []

/-- The ready level of island `i` (R34). -/
def State.ready (s : State) (i : Nat) : Bool := s.start.islands.getLsbD i

/-- The vault forgets the context of group `g`, whose cached key it releases. -/
def dropCtx (g : Nat) (s : State) : State := match afind s.key.ctxs g with
  | none => s
  | some c =>
    let s1 : State := { s with key.ctxs := adel s.key.ctxs g }
    match c.bound with
    | some (.node e) => if c.cached then
        { s1 with key.cache := s1.key.cache.map fun x => if x.node = e then { x with locks := x.locks - 1 } else x } else s1
    | _ => s1

/-- A bundle of the candidate of group `g` is lost: the frame is not accepted (R39, R40). An entry already staged is VOID. -/
def refuseCand (g : Nat) (s0 : State) : State :=
  let s := dropCtx g s0
  match afind s.jrn.cands g with
  | none => s
  | some c => if c.state = .mirror then candidateClose g (voidEntry c.jsn s) else candidateClose g s

/-- The arrival `c` over strait `i` of row `k` waits in its source FIFO, because its destination is not ready (R35). On an acceptance-path
strait an item that finds the FIFO full makes the candidate of `g` not accepted; any other producer stalls (R39). Nothing is sent by an
island that does not work. -/
def straitHold (k i : Nat) (g : Option Nat) (c : Instr) (s : State) : State :=
  let n := straitOf k i
  if s.ready (straitRow k).dst || !s.islandUp (straitRow k).src then s
  else if acceptancePath k && decide (straitDepth k ≤ (s.fifo n).length) then
    let s1 := bump cHltStraitFull 0 s
    match g with
    | some g => refuseCand g s1
    | none => s1
  else { s with straits := aput s.straits n (s.fifo n ++ [c]) }

end Sys2Proof.Machine
end

