-- ==== Sys2Proof/Machine/Transmit.lean ====
section
/-! DEFINITION. The meanings of the transmit commands (07_transmit.md, with R200, R228, R255, R308, R361, R364, R404, R405 and
R424): starting, ending, cutting and muting a transmission. -/

namespace Sys2Proof.Machine

open Host

/-! ### What a transmission that begins brings about -/

/-- The modulator that takes a booking: the lowest-numbered one that neither runs nor is retired; the jig gives one up that it
tests only if no other is left. -/
def freeModulator (s : State) : Option Nat :=
  match firstSuch 256 fun m => (afind s.txm.running m).isNone && !isRetired s 5 m && !underTest s 5 m with
  | some m => some m
  | none => firstSuch 256 fun m => (afind s.txm.running m).isNone && !isRetired s 5 m

/-- Those of the notices `mine` that still wait have begun sending (R266, R267). -/
def noticesBegin (mine : List Notice) (s : State) : State :=
  { s with sch.notices := s.sch.notices.map fun n => if mine.contains n then { n with begun := true } else n }

/-- The ports named for a flood (R361). -/
def floodPorts (s : State) : List Nat :=
  (List.range 36).filter fun h => octetField 4 (s.entry tFldPort h) 0 31 1 == 1

/-- The flood of place `id`. -/
def floodOf (s : State) (id : Nat) : Option Flood := s.fwd.floods.find? fun f => f.id == id

/-- Change the flood of place `id`. -/
def modFlood (id : Nat) (f : Flood → Flood) (s : State) : State :=
  { s with fwd.floods := s.fwd.floods.map fun x => if x.id = id then f x else x }

/-- A flood has begun on every port named for it: it leaves the queue, and its item is ACKED (R317, R361). -/
def floodSettle (id : Nat) (s : State) : State := match floodOf s id with
  | none => s
  | some f =>
    if (floodPorts s).all fun h => f.begun.contains h then
      let s1 : State := { s with fwd.floods := s.fwd.floods.filter fun x => x.id != id }
      match f.dsn with
      | some d => endItem d .acked s1
      | none => s1
    else s

/-- The consecutive run at the head of a list of fragments, at most `k` long. -/
def runOf : Nat → List Nat → List Nat
  | 0, _ => []
  | _, [] => []
  | _ + 1, [a] => [a]
  | k + 1, a :: b :: r => if b = a + 1 then a :: runOf k (b :: r) else [a]

/-- The fragments of the next repair frame to node INDEX `i` (R420, R423). -/
def repairRun (k : Camp) (i : Nat) : List Nat := runOf k.defn.fragsPerFrame ((k.repairs.filter fun r => r.1 == i).map fun r => r.2)

/-- The fragments that a repair frame has carried need no further repair in this round. -/
def repairTaken (c i : Nat) (s : State) : State :=
  { s with camps := amod s.camps c fun k =>
      let run := repairRun k i
      { k with repairs := k.repairs.filter fun r => r.1 != i || !run.contains r.2 } }

/-- A round of campaign `c` has been sent: after MAX_ROUNDS rounds the campaign ends (R423). -/
def campRoundEnd (c : Nat) (s : State) : State := match afind s.camps c with
  | none => s
  | some k =>
    if k.state == .running && decide (k.defn.maxRounds ≤ k.round) && k.list.isEmpty && k.repairs.isEmpty &&
        !(s.fwd.floods.any fun f => f.camp == some c) then
      occurs eUpdCampEnd { s with camps := amod s.camps c fun k => { k with state := .ended } }
    else s

/-- The first transmission of a frame on a port has begun (R317, R361, R364, R405, R424). -/
def beginUse (b : Booking) (s : State) : State :=
  let h := txHead b.stream
  match b.use with
  | .ack _ | .beacon _ | .sweep _ => s
  | .downlink d =>
    let s1 : State := mirror (.dl (.begun d (b.stop + ackGap s))) none { (modDl d (fun r => { r with state := .begun (b.stop + ackGap s) }) s) with
      sch.defers := adel s.sch.defers d }
    match (dlOf s d).bind fun r => s.nodeOf r.item.dest with
    | some (i, n) =>
      let s2 := hit n.eui (noticesBegin (noticesFor s1 i) s1)
      if n.unhomed && !n.dormant then bump cFldPortFlood 0 (modDl d (fun r => { r with tried := r.tried ++ [h] }) s2) else s2
    | none => s1
  | .flood id => floodSettle id (bump cFldFloodSent 0 (modFlood id (fun f => { f with begun := f.begun ++ [h] }) s))
  | .campaign c id =>
    let first := (floodOf s id).any fun f => f.begun.isEmpty
    let s1 := bump cFldFloodSent 0 (modFlood id (fun f => { f with begun := f.begun ++ [h] }) s)
    campRoundEnd c (floodSettle id (if first then bump cUpdCampFragFrames 0 s1 else s1))
  | .repair c i =>
    campRoundEnd c (bump cUpdCampRepairFrames 0 { repairTaken c i s with prog := amod s.prog i fun p => { p with repairs := min 255 (p.repairs + 1) } })
  | .piece p k =>
    match s.upd.served.find? fun x => x.piece == p && x.part == k with
    | none => s
    | some x =>
      let s1 : State := { s with upd.served := s.upd.served.filter fun y => y != x }
      if k = 7 then (bump cUpdMeshServed 0 s1).out (.pieceServed x.neighbour p) else s1
  | .transit id => { s with fwd.transit := s.fwd.transit.filter fun x => x.id != id }

/-- A source route's mesh header among the IEs of a frame to node INDEX `i`, under the next SEQUENCE (R360). -/
def routeIes (i : Nat) (s : State) : List (List Byte) × State := match routeHeader s i ((s.fwd.meshSeq + 1) % 2 ^ 16) with
  | some h => ([meshFields h], (takeSequence s).2)
  | none => ([], s)

/-- The tag that stands for a held piece, and its ciphertext octets of part `k` (R405). -/
def pieceData (s : State) (p k : Nat) : Nat × Nat :=
  ((pieceOf s p).2, (pieceOf s p).1 / 2 ^ (4096 * (7 - k)) % 2 ^ 4096)

/-- The fields of the Vendor Specific IEs of a frame that starts now, or of a template its octets: the DSN, the notices and the source route of a
downlink, the mesh header of a flood and the head of its fragments, and a piece part (R129, R200, R267, R318, R360, R361, R405, R420). The octets
of fragments follow their head. -/
def frameIes (s : State) (b : Booking) : List (List Byte) × State := match b.use with
  | .ack g => (((afind s.txm.acks g).map fun a => a.octets).toList, s)
  | .beacon k => (((afind s.txm.beacons k).map fun x => x.octets).toList, s)
  | .downlink d => (match (dlOf s d).bind fun r => s.indexOf r.item.dest with
    | some i => (dsnFields d :: (noticesFor s i).map (fun n => noticeOctets s n) ++ (routeIes i s).1, (routeIes i s).2)
    | none => ([], s))
  | .flood id => (((floodOf s id).map fun f => meshFields f.header).toList, s)
  | .campaign c id => ((match floodOf s id, afind s.camps c with
    | some f, some k => [meshFields f.header, fragFields (f.frags.2) k.defn.tag f.frags.1]
    | _, _ => []), s)
  | .repair c i => (match afind s.camps c with
    | some k =>
      let run := repairRun k i
      (fragFields run.length k.defn.tag (run.headD 0) :: (routeIes i s).1, (routeIes i s).2)
    | none => ([], s))
  | .piece p k => ((s.upd.manifest.map fun m => partFields m.updateId p k (pieceData s p k).2 (pieceData s p k).1).toList, s)
  | .transit id => (match (s.fwd.transit.find? fun p => p.id == id).bind fun p => s.indexOf p.dest with
    | some i => routeIes i s
    | none => ([], s))
  | .sweep _ => ([], s)

/-- The transmission of booking `b` starts on modulator `m` (R187, R195, R226). -/
def startTx (m : Nat) (b : Booking) (s : State) : State :=
  let h := txHead b.stream
  let g := txGenFor s b
  let s0 := if underTest s 5 m then jigYield s else s
  let s1 := s0.modCal h fun c => { c with txLog := (⟨b.channel, b.start, b.gain, g.1, preambleTime s b.profile b.extra⟩ :: c.txLog).take 4096 }
  let s2 : State := ({ s1 with txm.running := aput s1.txm.running m ⟨b, g.1, g.2⟩ } : State).out (.txStart m b.stream b.use b.start)
  let x := frameIes s2 b
  beginUse b (if x.1.isEmpty then x.2 else x.2.out (.txIes m x.1))

/-! ### The commands -/

/-- The template of a beacon was rewritten for this transmission no later than TX_PREP plus 1 µs before it (R200). -/
def rewritten (s : State) (k : Nat) (b : Booking) : Bool :=
  (afind s.txm.beacons k).any fun x => x.asn == s.asnAt b.start && decide (x.written + (txPrep + us 1) ≤ b.leave)

/-- TX_START_COMMAND: the start command of a booking reaches the synthesiser (R187, R195, R196, R200). A beacon whose template was not
rewritten in time is skipped; a command that comes later than TX_PREP before the first group must leave is not transmitted; and a transmission
whose protection has not finished, whose stream is not usable, or for which no modulator is left, does not take place: it is removed and
deferred (R189, R210, R283). -/
def execTxStartCommand (t : Time) (id : Nat) (s : State) : Outcome State Fault Refusal :=
  onInst true <|
    let s := s.arrive t
    match bookingOf s id with
    | none => s
    | some b =>
      if !s.holdsToken || isRunning s b then s
      else match b.use with
        | .ack _ => s
        | _ =>
          if !s.sampleUp then straitHold 3 b.stream none (.txStartCommand t id) s
          else if (match b.use with | .beacon k => !rewritten s k b | _ => false) then deferTx b s
          else if b.leave < s.clock.now + txPrep then cancelTx b (bump cTxmLateRelease 0 s)
          else if !b.ready || !streamUsable s b.stream then deferTx b s
          else match freeModulator s with
            | some m => startTx m b s
            | none => deferTx b (bump cTxmNoModulator 0 s)

/-- ACK_RELEASE: the release of an armed acknowledgement reaches the synthesiser, at least TX_PREP before its leave time; a later
one is counted and is a missed release (R196, R198, R308). -/
def execAckRelease (t : Time) (g : Nat) (s : State) : Outcome State Fault Refusal :=
  onInst (g < 8192) <|
    let s := s.arrive t
    match afind s.txm.acks g with
    | none => s
    | some a =>
      match bookingOf s a.booking with
      | none => s
      | some b =>
        if !(a.armed && b.ready && s.slotUp && s.holdsToken) || a.released then s
        else if !s.sampleUp then straitHold 3 b.stream none (.ackRelease t g) s
        else if b.leave < s.clock.now + txPrep then bump cTxmLateRelease 0 s
        else { s with txm.acks := amod s.txm.acks g fun a => { a with released := true } }

/-- ACK_LEFT (groups from 4096 on: see ACK_RELEASE): the first transmit group of an acknowledgement leaves the port at its leave time, and its frame is ACCEPTED (R10,
R255, R304, R308). -/
def execAckLeft (t : Time) (g : Nat) (s : State) : Outcome State Fault Refusal :=
  onInst (g < 8192) <|
    let s := s.arrive t
    match afind s.txm.acks g with
    | none => s
    | some a =>
      match bookingOf s a.booking, freeModulator s with
      | some b, some m =>
        if !(a.released && s.holdsToken && s.sampleUp && streamUsable s b.stream && decide (b.leave ≤ s.clock.now)) then s
        else
          let s0 := startTx m b s
          let s1 : State := { s0 with txm.acks := adel s0.txm.acks g }
          let s2 := noticesBegin a.notices s1
          groupSettle g ((s2.jrn.entries.filter fun e => e.group == g && e.state == .owed && !e.mirrored).foldl
            (fun s e => acceptEntry e.hdr.jsn s) s2)
      | _, _ => s

/-- TX_END: the last sample of a transmission; its charge stands (R187). On an analogue port `overflows` sums of its converters saturated
since the last one (R112). -/
def execTxEnd (t : Time) (m overflows : Nat) (s : State) : Outcome State Fault Refusal :=
  onInst (m < 256) <|
    let s := s.arrive t
    match afind s.txm.running m with
    | none => s
    | some r =>
      if s.sampleUp then
        let s1 := closeBooking r.booking.id { s with txm.running := adel s.txm.running m }
        if 64 ≤ r.booking.stream then bumpBy cAnaDucOvf ((r.booking.stream - 64) / 2) overflows s1 else s1
      else s

/-- How often modulator `m` has been muted within 60 s before `t`. -/
def mutesOf (s : State) (m : Nat) (t : Time) : Nat :=
  (s.txm.mutes.filter fun x => x.1 == m && decide (t < x.2 + sec 60)).length

/-- The modulators that add into stream `st`, with their channels and masks (R201). -/
def onStream (s : State) (st : Nat) : List (Nat × Channel × RegProfile) :=
  (s.txm.running.filter fun x => x.2.booking.stream == st).map fun x =>
    let c := channelOf s x.2.booking.channel
    (x.1, c, regProfile s c.profile)

/-- Modulator `m` is ramped to zero for bin `k`: its transmission ends, and one muted three times within 60 s is retired (R202, R203). -/
def muteOne (st m k : Nat) (s : State) : State := match afind s.txm.running m with
  | none => s
  | some r =>
    let s1 : State := closeBooking r.booking.id { s with
      txm.running := adel s.txm.running m,
      txm.mutes := (s.txm.mutes.filter fun x => decide (s.clock.now < x.2 + sec 60)) ++ [(m, s.clock.now)] }
    let s2 := event eTxmMaskViolation st (m * 2 ^ 16 + k) (bump cTxmMaskMute 0 (s1.out (.txCut m st)))
    let s3 := match r.booking.use with
      | .downlink d => modDl d (fun x => match x.state with
          | .begun _ => { x with state := .waiting }
          | _ => x) s2
      | _ => s2
    if 3 ≤ mutesOf s3 m s3.clock.now then
      degraded 9 m cTxmModRetire.code 2
        (bump cTxmModRetire 0 { s3 with hlt.retired := s3.hlt.retired ++ [⟨5, m, 0⟩] })
    else s3

/-- MASK_MONITOR_EVAL: the monitor of a stream has four spectra, each the powers of 1,024 bins in 10^-15 mW at the antenna; each running
transmission that a bin breaking the mask is charged to is muted (R201 to R203). -/
def execMaskMonitorEval (t : Time) (st : Nat) (spectra : List (List Nat)) (s : State) : Outcome State Fault Refusal :=
  onInst (st < 72) <|
    let s := s.arrive t
    if s.fld rTxmCtrl 0 1 = 0 ∨ !s.sampleUp then s
    else (maskBreaks (txCentre s st) (onStream s st) spectra).foldl (fun s x => muteOne st x.1 x.2 s) s

end Sys2Proof.Machine
end

