-- ==== Sys2Proof/Machine/Schedule.lean ====
section
/-! DEFINITION. The slot scheduler: cells, guards, resync and the bookings of each slot (R207, R210, R243, R244, R249, R250,
R258, R262 to R266, R318, R360, R361, R364, R405, R420, R423, R424). -/

namespace Sys2Proof.Machine

open Host

/-! ### Cells of a slot (R246 to R249) -/

/-- The cells in use of slotframe `f`, in table order. -/
def cellsOf (s : State) (f : Slotframe) : List (Nat × Cell) :=
  ((s.entries tSchCell).filter fun x => decide (f.first ≤ x.1 ∧ x.1 < f.first + f.count) && (cellOf x.2).kind != 0).map
    fun x => (x.1, cellOf x.2)

/-- The cells that begin in slot `n`, across all slotframes in ascending index and then in table order. -/
def cellsAt (s : State) (n : Nat) : List (Nat × Cell × Slotframe) :=
  (slotframes s).flatMap fun f => ((cellsOf s f.2).filter fun c =>
    decide (f.2.length ≠ 0) && n % f.2.length == c.2.offset).map fun c => (c.1, c.2, f.2)

/-- The nodes that a cell is for. -/
def cellNodes (c : Cell) : List Nat :=
  if c.shared ∨ c.kind = 4 ∨ c.kind = 5 then [] else if c.kind = 6 then [c.node, c.peer] else [c.node]

/-- A cell loses to one of the same node and slot with a lower HANDLE; of one slotframe, to the earlier in the table (R249). -/
def losesTo (x y : Nat × Cell × Slotframe) : Bool :=
  y.1 != x.1 && (cellNodes x.2.1).any (fun i => (cellNodes y.2.1).contains i) &&
    decide (y.2.2.handle < x.2.2.handle ∨ y.2.2.handle = x.2.2.handle ∧ y.1 < x.1)

/-- The cells that the slot scheduler processes in slot `n` (R249). -/
def slotCells (s : State) (n : Nat) : List (Nat × Cell × Slotframe) :=
  let l := (cellsAt s n).take 4096
  l.filter fun x => !(l.any fun y => losesTo x y)

/-- Count what R249 skips in slot `n`. -/
def countSkips (n : Nat) (s : State) : State :=
  let all := cellsAt s n
  let l := all.take 4096
  bumpBy cSchCellConflict 0 (l.filter fun x => l.any fun y => losesTo x y).length
    (bumpBy cSchCellOvf 0 (all.length - l.length) s)

/-! ### Guard time (R231, R263, R264) -/

/-- The guard exceeds G_MAX. -/
def guardOver (s : State) (is : List Nat) (a : Nat) : Bool := match guardOf s is a with
  | some g => decide (gMax s * guardScale < g)
  | none => true

/-- Node INDEX `i` is fresh for an occurrence at ASN `a` (R266). -/
def isFresh (s : State) (i a : Nat) : Bool := (s.nodeAt i).any fun n =>
  decide (3 ≤ n.cal.fresh) && (match termOf s i a with
    | some x => decide (2 * x ≤ (gMax s - g0 s) * guardScale)
    | none => false)

/-- A change of cell `idx`: the epoch rises once, and the change is mirrored with it and the ASN from which it stands (R244). -/
def schedChanged (idx : Nat) (s : State) : State :=
  let e := (s.sch.epoch + 1) % 2 ^ 32
  mirror (.schedule ⟨e, s.asnAt s.clock.now, [(idx, s.entry tSchCell idx)], [], [], s.sch.startAsn⟩) none { s with sch.epoch := e }

/-- Cell `idx` is withdrawn (R264). -/
def withdrawCell (idx : Nat) (c : Cell) (s : State) : State :=
  let s1 := schedChanged idx (occurs eSchCellWithdraw (bump cSchGuardWithdraw 0 (setCellBit idx 5 true s)))
  (cellNodes c).foldl (fun s i => queueNotice i 1 idx (toResync i s)) s1

/-- Evaluate the guard of each cell that begins in slot `n` (R264). -/
def guards (n : Nat) (s : State) : State :=
  (slotCells s n).foldl (fun s x =>
    let c := x.2.1
    if (c.kind == 1 || c.kind == 2 || c.kind == 3 || c.kind == 6) && !c.shared && !c.withdrawn &&
        guardOver s (cellNodes c) n then withdrawCell x.1 c s else s) s

/-! ### Requests -/

/-- The expected start of a frame in slot `n` (R248). -/
def slotTx (s : State) (n : Nat) : Time := expectedAt s n

/-- TX_REF of stream `st`, in 0.25 dBm. -/
def txRef (s : State) (st : Nat) : Int := s.signedAt rTxmStreamCtrl st 0 16

/-- Ask for a transmission of `len` octets without FCS from head `h` on channel `ch`, its preamble extended by `extra` µs; `power` follows from
the stream. No usable stream, or a frame that the profile's format cannot carry (R117, R119, R124), is a refusal. -/
def bookOn (u : TxUse) (h ch : Nat) (start : Time) (len extra : Nat) (power : Nat → Int) (profile cell : Nat) (s : State) :
    Option Nat × State :=
  if !(txProfile s profile).fits len then (none, s)
  else match txStreamOf s h ch with
    | none => (none, s)
    | some st => admitTx ⟨u, st, ch, start, airtimeOf s profile len extra, power st, profile, some cell, extra⟩ s

/-- Cell `idx` has a booking in slot `n` or later. -/
def cellUsed (s : State) (idx n : Nat) : Bool :=
  s.txm.bookings.any fun b => b.cell == some idx && decide (s.slotStart n ≤ b.start + us 50000)

/-- A cell of NEIGHBOUR kind that is reclaimed, or a SHARED downlink cell: it carries shared traffic (R250, R262). -/
def sharedCell (c : Cell) : Bool :=
  !c.withdrawn && ((c.kind == 5 && c.reclaimed) || (c.shared && (c.kind == 2 || c.kind == 3)))

/-! ### Beacons (R258) -/

/-- The hopping sequence of an SCH_HOP entry (R246). -/
def hopSequence (s : State) (hop : Nat) : List Nat :=
  let e := s.entry tSchHop hop
  (List.range (e / 2 ^ (8 * 259) % 256 + 1)).map fun k => e / 2 ^ (8 * (255 - k)) % 256

/-- The links that a beacon of a PAN lists: by slotframe its HANDLE and LENGTH with the (SLOT_OFFSET, CH_OFFSET, options) of its shared
uplink cells and RESYNC cells (R258); the options are transmit and shared, and for a RESYNC cell receive as well (PRESUMED). -/
def beaconLinks (s : State) (pan : Nat) : List (Nat × Nat × List (Nat × Nat × Nat)) :=
  ((slotframes s).filter fun f => f.2.pan == pan).map fun f =>
    (f.2.handle, f.2.length, ((cellsOf s f.2).filter fun c => (c.2.kind == 1 && c.2.shared) || c.2.kind == 7).map fun c =>
      (c.2.offset, c.2.chOffset, if c.2.kind = 7 then 7 else 5))

/-- The octets, without FCS, of the beacon of cell `idx` at ASN `a` under outbound counter `counter`, with further Vendor Specific fields,
protected by `sealing` (R200, R258, R404). Its sequence number is the model's choice. -/
def beaconOctets (s : State) (idx a counter : Nat) (more : List (List Byte)) (sealing : List Byte → List Byte → List Byte) :
    List Byte :=
  let c := cellOf (s.entry tSchCell idx)
  let f := slotframeOf s c.slotframe
  beaconFrame s.ownEui f.pan a sendLevel counter (Config.groupKeyOf 0 c.beacon)
    (beaconIes a Config.joinMetric (s.slotLen / us 1) (s.fld rSchTiming 0 16) (s.fld rSchCtrl 9 12) Config.beaconFill (hopSequence s f.hop)
      (beaconLinks s f.pan) more) sealing

/-- The length of the beacon of cell `idx`: a piece request goes with every beacon while MESH_FETCH is set and the own update is RECEIVING
(R404). -/
def beaconLength (s : State) (idx a : Nat) : Nat :=
  let more := if s.fld rUpdCtrl 1 1 = 1 ∧ s.upd.state = .receiving then [List.replicate 16 0] else []
  (beaconOctets s idx a 0 more (unsealed sendLevel)).length

/-- Book the beacon of an ADVERTISING cell, or skip it (R207, R210, R258). -/
def bookBeacon (n : Nat) (x : Nat × Cell × Slotframe) (s : State) : State :=
  let c := x.2.1
  let ch := hopChannel s x.2.2.hop c.chOffset n
  match bookOn (.beacon c.beacon) c.port ch (slotTx s n) (beaconLength s x.1 n) 0
      (fun st => txRef s st - c.backoff) c.profile x.1 s with
  | (some _, s1) => s1
  | (none, s1) => bump cSchBeaconSkip 0 s1

/-! ### Downlink items (R210, R265, R318, R360, R364) -/

/-- The item in flight, or else the first waiting one, of node `e` (R318). -/
def itemFor (s : State) (e : Eui) : Option DlRec :=
  let mine := s.dl.recs.filter fun r => r.item.dest == e && (match r.item.body with | .node _ => true | _ => false)
  if mine.any fun r => match r.state with | .booked _ | .begun _ => true | _ => false then none
  else mine.find? fun r => r.state == .waiting && r.done.isNone

/-- The heard list of a node, best QUALITY first. -/
def heardBest (n : Node) : List Nat :=
  (n.heard.mergeSort fun a b => decide (b.quality < a.quality ∨ b.quality = a.quality ∧ a.port ≤ b.port)).map fun x => x.port

/-- Where the first hop of an item's route is sent from: its home port, or the next port of the heard-port flood (R360, R364). -/
def headFor (n : Node) (tried : List Nat) : Option Nat :=
  if n.dormant then none
  else if !n.unhomed then some n.homePort
  else match (heardBest n).filter fun p => !tried.contains p with
    | p :: _ => some p
    | [] => (heardBest n).head?

/-- The ports to which a downlink may be rehomed: those that have heard the node within the learning age and lie within
REHOME_MARGIN of its home port, best first (R210, R357). -/
def rehomePorts (s : State) (n : Node) : List Nat :=
  let q : Int := ((n.heard.find? fun x => x.port == n.homePort).map fun x => x.quality).getD 0
  let ok := n.heard.filter fun x => x.port != n.homePort &&
    decide ((s.second + 2 ^ 32 - x.last) % 2 ^ 32 ≤ s.fld rFwdAge 9 11 * 60) && decide (q ≤ x.quality + (s.fld rSchTxCtrl 0 8 : Int))
  heardBest { n with heard := ok }

/-- The first of `ports` that admits the transmission. -/
def bookAmong (u : TxUse) (ch : Nat) (start : Time) (len extra : Nat) (power : Nat → Int) (profile cell : Nat) (s : State) :
    List Nat → Option Nat × State
  | [] => (none, s)
  | h :: r => match bookOn u h ch start len extra power profile cell s with
    | (some b, s1) => (some b, s1)
    | (none, s1) => bookAmong u ch start len extra power profile cell s1 r

/-- The octets, without FCS, of a unicast frame to node INDEX `i` with `ies` octets of IEs and a payload of `len` octets, beside its notices and
its source route (R120, R267, R360). -/
def downOctets (s : State) (i ies len : Nat) : Nat :=
  dataOctets nodeHead (ies + 13 * (noticesFor s i).length + ((routeHeader s i 0).map fun h => ieOctets (meshFields h)).getD 0) len sendLevel

/-- Book item `r` for node INDEX `i` in a cell (R210, R250, R360). `lead` is how much earlier than the expected start it begins,
`extra` its longer preamble in µs, and `shared` says that the power is TX_REF less the cell's back-off. -/
def bookItem (n : Nat) (x : Nat × Cell × Slotframe) (i : Nat) (r : DlRec) (lead : Time) (extra : Nat) (shared : Bool)
    (s : State) : State :=
  let c := x.2.1
  let d := r.item.dsn
  let lost (s : State) : State := modDl d (fun r => { r with noRoute := true }) s
  match routeOf s i with
  | none => if r.noRoute then s else lost (bump cFwdRouteLoop 0 s)
  | some route =>
    match s.nodeAt (route.getLastD i) with
    | none => lost s
    | some hop =>
      match headFor hop r.tried with
      | none => lost s
      | some h =>
        let ch := hopChannel s x.2.2.hop c.chOffset n
        let len := downOctets s i (ieOctets (dsnFields d)) r.item.length
        let power (st : Nat) : Int := if shared then txRef s st - c.backoff else Config.nodePower hop.cal.pathLoss c.profile
        let start := slotTx s n - lead
        let took (b : Nat) (s : State) : State := modDl d (fun r => { r with state := .booked b, noRoute := false }) s
        match bookOn (.downlink d) h ch start len extra power c.profile x.1 s with
        | (some b, s1) => took b s1
        | (none, s1) =>
          if (afind s.sch.defers d).getD 0 < s.fld rSchTxCtrl 8 4 then deferItem d s1
          else match bookAmong (.downlink d) ch start len extra power c.profile x.1 s1 (rehomePorts s hop) with
            | (some b, s2) => took b (bump cSchTxRehome 0 s2)
            | (none, s2) => s2

/-! ### Campaigns (R420, R423 to R425) -/

/-- Device time `t` lies in the campaign's window (R418). -/
def windowOpen (d : CampDef) (t : Time) : Bool :=
  decide ((t / sec 1 % 86400 + 86400 - d.windowStart) % 86400 < d.windowLen)

/-- The sub-accounts stay within `share` % of their limits with `airtime` more (R424). -/
def shareFits (s : State) (share ch h : Nat) (start : Time) (airtime : Nat) : Bool :=
  (accountsOf s ch h start 2).all fun x => match x.2.2 with
    | some lim => decide ((accountSum s x.1 x.2.1 + airtime) * 100 ≤ lim * share)
    | none => true

/-- Ask for a campaign transmission: the share first, then R206 (R424). A refusal defers it to the next flood slot. -/
def bookCamp (u : TxUse) (share h ch : Nat) (start : Time) (len : Nat) (power : Nat → Int) (profile cell : Nat) (s : State) :
    Option Nat × State :=
  if shareFits s share ch h start (airtimeOf s profile len 0) then
    match bookOn u h ch start len 0 power profile cell s with
    | (some b, s1) => (some b, s1)
    | (none, s1) => (none, bump cSchTxDefer 0 s1)
  else (none, bump cSchTxDefer 0 (bump cUpdCampPaceDefer 0 s))

/-- The octets of the mesh header IE of a flood without a source route (R129). -/
def floodIe : Nat := ieOctets (meshFields ⟨true, 0, 0, false, true, 0, 0, 0, 0, 0, []⟩)

/-- The octets, without FCS, of a multicast frame of `k` fragments (R420); the worked example of R425 counts 65 + 64 × k. -/
def fragOctets (k : Nat) : Nat := dataOctets castHead (floodIe + ieOctets (fragFields 0 0 0) + 64 * k) 0 sendLevel

/-- Book one repair frame to node INDEX `i` in its own cell (R420, R423). -/
def bookRepair (n : Nat) (x : Nat × Cell × Slotframe) (i : Nat) (s : State) : State :=
  match s.camps.find? fun k => k.2.state == .running && (k.2.repairs.any fun r => r.1 == i) &&
      !(s.txm.bookings.any fun b => b.use == .repair k.1 i) with
  | none => s
  | some (c, k) =>
    let start := slotTx s n
    if !windowOpen k.defn start then bump cUpdCampWindowWait 0 s
    else
      let run := repairRun k i
      match (routeOf s i).bind fun r => (s.nodeAt (r.getLastD i)).bind fun hop => (headFor hop []).map fun h => (hop, h) with
      | none => s
      | some (hop, h) =>
        let cell := x.2.1
        (bookCamp (.repair c i) k.defn.dutyShare h (hopChannel s x.2.2.hop cell.chOffset n) start
          (downOctets s i (ieOctets (fragFields 0 0 0) + 64 * run.length) 0) (fun _ => Config.nodePower hop.cal.pathLoss cell.profile) cell.profile x.1 s).2

/-! ### Best-effort packets (R348) -/

/-- Book a best-effort packet to node INDEX `i` (R348). -/
def bookTransit (n : Nat) (x : Nat × Cell × Slotframe) (i : Nat) (p : Transit) (shared : Bool) (s : State) : State :=
  let c := x.2.1
  match (routeOf s i).bind fun r => (s.nodeAt (r.getLastD i)).bind fun hop => (headFor hop []).map fun h => (hop, h) with
  | none => s
  | some (hop, h) =>
    match bookOn (.transit p.id) h (hopChannel s x.2.2.hop c.chOffset n) (slotTx s n)
        (downOctets s i 0 p.length) 0
        (fun st => if shared then txRef s st - c.backoff else Config.nodePower hop.cal.pathLoss c.profile) c.profile x.1 s with
    | (some _, s1) => { s1 with fwd.transit := s1.fwd.transit.map fun y => if y.id = p.id then { y with booked := true } else y }
    | (none, s1) => s1

/-- The first best-effort packet for node `e` that is not booked. -/
def transitFor (s : State) (e : Eui) : Option Transit := s.fwd.transit.find? fun p => !p.flood && !p.booked && p.dest == e

/-! ### Dedicated cells (R250, R264, R265) -/

/-- A dedicated DOWNLINK or UPDOWN cell: the node's item, else a repair frame, else a best-effort packet. An item that waits for a
WITHDRAWN cell is deferred to the resync cell (R264). -/
def bookDedicated (n : Nat) (x : Nat × Cell × Slotframe) (s : State) : State :=
  let c := x.2.1
  match s.nodeAt c.node with
  | none => s
  | some nd =>
    match itemFor s nd.eui with
    | some r => if c.withdrawn then deferItem r.item.dsn s else bookItem n x c.node r 0 0 false s
    | none =>
      if c.withdrawn then s
      else
        let s1 := bookRepair n x c.node s
        if cellUsed s1 x.1 n then s1
        else match transitFor s1 nd.eui with
          | some p => bookTransit n x c.node p false s1
          | none => s1

/-- A RESYNC cell: the first node in resync with an item; the frame covers the node's guard, and a node beyond RESYNC_GUARD_MAX or on
a Deep profile is held (R265). -/
def bookResync (n : Nat) (x : Nat × Cell × Slotframe) (s : State) : State :=
  s.sch.resync.foldl (fun s i =>
    if cellUsed s x.1 n then s
    else match (s.nodeAt i).bind fun nd => itemFor s nd.eui with
      | none => s
      | some r =>
        let g := ((guardOf s [i] n).map fun g => (g + guardScale - 1) / guardScale).getD (2 ^ 32)
        if s.fld rSchResync 0 16 < g ∨ 6 ≤ (txProfile s x.2.1.profile).format then bump cSchResyncHold 0 s
        else bookItem n x i r (us g) (2 * g) false s) s

/-! ### Floods, campaigns and piece frames in shared cells (R250, R361, R405, R423) -/

/-- The use under which a flood is booked. -/
def Flood.use (f : Flood) : TxUse := match f.camp with
  | some c => .campaign c f.id
  | none => .flood f.id

/-- The ports of a flood that have neither begun nor are booked. -/
def floodLeft (s : State) (f : Flood) : List Nat :=
  (floodPorts s).filter fun h => !f.begun.contains h && !(s.txm.bookings.any fun b => b.use == f.use && txHead b.stream == h)

/-- FLD_PORT.GROUP of port `h`. -/
def floodGroup (s : State) (h : Nat) : Nat := octetField 4 (s.entry tFldPort h) 0 29 2

/-- The octets of a flood frame, without FCS: its fragments', those of the device's own flood around its payload, or those of the frame that it
relays, whose LENGTH leaves out its MIC (R312, R361, R363). -/
def Flood.octets (own : Eui) (f : Flood) : Nat :=
  if f.camp.isSome then f.length
  else if f.originator = own then dataOctets castHead floodIe f.length sendLevel
  else f.length + micOctets sendLevel

/-- Book the ports of the flood's next group in a shared cell (R361, R424). -/
def bookFlood (n : Nat) (x : Nat × Cell × Slotframe) (f : Flood) (s : State) : State :=
  match ([0, 1, 2, 3].filter fun g => decide (f.group ≤ g) && (floodLeft s f).any fun h => floodGroup s h == g).head? with
  | none => s
  | some g =>
    let ch := hopChannel s x.2.2.hop x.2.1.chOffset n
    let s1 := ((floodLeft s f).filter fun h => floodGroup s h == g).foldl (fun s h =>
      let e := s.entry tFldPort h
      let prof := octetField 4 e 0 24 5
      let power (st : Nat) : Int := txRef s st - octetField 4 e 0 16 8
      match f.camp with
      | some c => (bookCamp f.use (((afind s.camps c).map fun k => k.defn.dutyShare).getD 0) h ch (slotTx s n) (f.octets s.ownEui) power prof x.1 s).2
      | none => match bookOn f.use h ch (slotTx s n) (f.octets s.ownEui) 0 power prof x.1 s with
        | (some _, s2) => s2
        | (none, s2) => bump cSchTxDefer 0 s2) s
    if (floodLeft s1 f).any fun h => floodGroup s1 h == g then modFlood f.id (fun f => { f with group := g }) s1
    else modFlood f.id (fun f => { f with group := g + 1 }) s1

/-- The floods of a PAN that may still send, in order. -/
def floodsOf (s : State) (pan : Nat) (best : Bool) : List Flood :=
  s.fwd.floods.filter fun f => f.pan.toNat == pan && f.best == best && f.camp.isNone && !(floodLeft s f).isEmpty

/-- The flood that a shared cell takes: the first that it can. -/
def bookFloods (n : Nat) (x : Nat × Cell × Slotframe) (best : Bool) (s : State) : State :=
  (floodsOf s x.2.2.pan best).foldl (fun s f => if cellUsed s x.1 n then s else bookFlood n x f s) s

/-- The next multicast frame of campaign `c` becomes a flood, once its checkpoint is committed (R423, R425). -/
def campFrame (c : Nat) (k : Camp) (s : State) : State :=
  if s.commits && !k.ready then
    if s.pair.awaits.any fun a => a.2 == .camp c then s else mirror (.campaign (.checkpoint c k.round k.cursor k.state.code)) (some (.camp c)) s
  else
    let run := runOf k.defn.fragsPerFrame k.list
    let id := s.fwd.nextFlood
    let s1 := ownFlood none k.defn.panId k.defn.ttl (fragOctets run.length) s
    modFlood id (fun f => { f with camp := some c, frags := (run.headD 0, run.length) }) { s1 with camps := amod s1.camps c fun k =>
      { k with list := k.list.drop run.length, cursor := (run.getLast?.map fun a => a + 1).getD k.cursor, ready := false } }

/-- The turn of campaign `c` at a shared cell (R423): its frame in hand, or its next one; outside its window it waits. -/
def campTurn (n : Nat) (x : Nat × Cell × Slotframe) (c : Nat) (s : State) : State :=
  match afind s.camps c with
  | none => s
  | some k =>
    if k.state ≠ .running ∨ k.defn.panId.toNat ≠ x.2.2.pan then s
    else
      let s1 := if k.list.isEmpty || s.fwd.floods.any (fun f => f.camp == some c) then s
        else if windowOpen k.defn (slotTx s n) then campFrame c k s else bump cUpdCampWindowWait 0 s
      match s1.fwd.floods.find? fun f => f.camp == some c && !(floodLeft s1 f).isEmpty with
      | none => s1
      | some f => if windowOpen k.defn (slotTx s n) then bookFlood n x f s1 else bump cUpdCampWindowWait 0 s1

/-- The first piece frame that is not booked (R405). -/
def bookPiece (n : Nat) (x : Nat × Cell × Slotframe) (s : State) : State :=
  match s.upd.served.find? fun p => !(s.txm.bookings.any fun b => b.use == .piece p.piece p.part) with
  | none => s
  | some p =>
    let e := s.entry tFldPort p.port
    let prof := octetField 4 e 0 24 5
    (bookCamp (.piece p.piece p.part) (s.fld rUpdCtrl2 0 8) p.port (hopChannel s x.2.2.hop x.2.1.chOffset n) (slotTx s n)
      (dataOctets groupHead (ieOctets (partFields 0 0 p.part 0 0)) 0 sendLevel)
      (fun st => txRef s st - octetField 4 e 0 16 8) prof x.1 s).2

/-- Flood and campaign traffic in a shared cell (R207): floods, then campaigns in ascending number, then piece frames. -/
def bookShared (n : Nat) (x : Nat × Cell × Slotframe) (s : State) : State :=
  let s1 := bookFloods n x false s
  let s2 := (s1.camps.map fun k => k.1).foldl (fun s c => if cellUsed s x.1 n then s else campTurn n x c s) s1
  if cellUsed s2 x.1 n then s2 else bookPiece n x s2

/-- Downlink in a shared cell: the waiting item of lowest DSN whose node belongs to the PAN (R207, R250). -/
def bookSharedItem (n : Nat) (x : Nat × Cell × Slotframe) (s : State) : State :=
  if cellUsed s x.1 n ∨ x.2.1.kind = 5 then s
  else match s.dl.recs.find? fun r => (s.nodeOf r.item.dest).any fun y =>
      y.2.pan.toNat == x.2.2.pan && (itemFor s y.2.eui).any fun q => q.item.dsn == r.item.dsn with
    | none => s
    | some r => match s.indexOf r.item.dest with
      | some i => bookItem n x i r 0 0 true s
      | none => s

/-- Best-effort traffic in a shared cell that nothing else uses (R348): the floods of last rank, then the packets. -/
def bookBest (n : Nat) (x : Nat × Cell × Slotframe) (s : State) : State :=
  if cellUsed s x.1 n then s
  else
    let s3 := bookFloods n x true s
    if cellUsed s3 x.1 n then s3
    else match s3.fwd.transit.find? fun p => !p.flood && !p.booked &&
        (s3.nodeOf p.dest).any fun y => y.2.pan.toNat == x.2.2.pan with
      | some p => (match s3.indexOf p.dest with
        | some i => bookTransit n x i p true s3
        | none => s3)
      | none => s3

/-! ### The standby's shadow accounts (R209) -/

/-- A standby charges beacons from the mirrored schedule, and each transmit cell of a node with an accepted item on its derived home
port (R209). -/
def shadowCharge (n : Nat) (s : State) : State :=
  (slotCells s n).foldl (fun s x =>
    let c := x.2.1
    let ch := hopChannel s x.2.2.hop c.chOffset n
    if c.kind = 4 then
      charge ch c.port (slotTx s n) (airtimeOf s c.profile (beaconLength s x.1 n) 0) false
        (logMirrored c.port ch (slotTx s n) (0 - (c.backoff : Int)) c.profile s)
    else if (c.kind = 2 ∨ c.kind = 3) ∧ !c.shared ∧ !c.withdrawn then
      match s.nodeAt c.node with
      | none => s
      | some nd => match s.dl.recs.find? fun r => r.item.dest == nd.eui && r.state != .ended && r.done.isNone with
        | some r => charge ch nd.homePort (slotTx s n) (airtimeOf s c.profile (downOctets s c.node (ieOctets (dsnFields r.item.dsn)) r.item.length) 0) false s
        | none => s
    else s) s

/-! ### The commands -/

/-- Items whose acknowledgement window has passed wait again for the node's next cell (R317). -/
def reopenItems (s : State) : State :=
  { s with dl.recs := s.dl.recs.map fun r => match r.state with
      | .begun e => if e + us (g0 s) < s.clock.now then { r with state := .waiting } else r
      | _ => r }

/-- Book every transmission that begins in slot `n`, in the order of R207; acknowledgements have been booked at header time. -/
def bookSlot (n : Nat) (s : State) : State :=
  let cs := slotCells s n
  let s1 := (cs.filter fun x => x.2.1.kind == 4).foldl (fun s x => bookBeacon n x s) s
  let s2 := (cs.filter fun x => (x.2.1.kind == 2 || x.2.1.kind == 3) && !x.2.1.shared).foldl (fun s x => bookDedicated n x s) s1
  let s3 := (cs.filter fun x => x.2.1.kind == 7 && !x.2.1.withdrawn).foldl (fun s x => bookResync n x s) s2
  let sh := cs.filter fun x => sharedCell x.2.1
  let s4 := sh.foldl (fun s x => bookShared n x s) s3
  let s5 := sh.foldl (fun s x => bookSharedItem n x s) s4
  sh.foldl (fun s x => bookBest n x s) s5

/-- SLOT_BOUNDARY: at the boundary of slot m the cells of slot m + 2 are read and their guards evaluated, and the transmissions of
slot m + 1 are booked (R207, R242, R249, R250, R263, R264). Only the active or solo chip decides and books; a standby charges its
shadow accounts. -/
def execSlotBoundary (t : Time) (s : State) : Outcome State Fault Refusal :=
  onInst true <|
    let s := s.arrive t
    let m := s.asnAt s.clock.now
    if !(s.slotUp && s.sch.started) || decide (s.slotLen = 0) || decide (m ≤ s.sch.slot) then s
    else
      let s1 := reopenItems { s with sch.slot := m, sch.lastSlew := if s.timer.slewing then m % 2 ^ 32 else s.sch.lastSlew }
      if s.leads then bookSlot (m + 1) (guards (m + 2) (countSkips (m + 2) s1))
      else if s.pair.state = .standby then shadowCharge (m + 1) s1 else s1

/-- The ASN of a cell's next occurrence at or after ASN `a`. -/
def nextAsn (f : Slotframe) (c : Cell) (a : Nat) : Nat :=
  if f.length = 0 then a else a + (c.offset + f.length - a % f.length) % f.length

/-- Cell `idx` is reinstated (R266). -/
def reinstateCell (idx : Nat) (s : State) : State :=
  let s1 := schedChanged idx (occurs eSchCellReinstate (setCellBit idx 5 false s))
  { s1 with sch.notices := s1.sch.notices.filter fun n => n.cell != idx }

/-- Nodes leave resync once none of their cells is withdrawn and they are fresh at ASN `a`. -/
def leaveResync (a : Nat) (s : State) : State :=
  { s with sch.resync := s.sch.resync.filter fun i =>
      !(isFresh s i a) || (s.entries tSchCell).any fun x => (cellOf x.2).withdrawn && (cellNodes (cellOf x.2)).contains i }

/-- A WITHDRAWN cell at the boundary `a` of its slotframe (R266). -/
def checkWithdrawn (a : Nat) (f : Slotframe) (x : Nat × Cell) (s : State) : State :=
  let is := cellNodes x.2
  let next := nextAsn f x.2 a
  if !x.2.withdrawn || !(is.all fun i => isFresh s i next) then s
  else
    let mine := s.sch.notices.filter fun n => n.cell == x.1
    if !(mine.any fun n => n.action == 1 && n.begun) && !(mine.any fun n => n.action == 2) then
      reinstateCell x.1 s
    else if is.all fun i => mine.any fun n => n.node == i && n.action == 2 && n.begun then reinstateCell x.1 s
    else is.foldl (fun s i =>
      if mine.any fun n => n.node == i && n.action == 2 then s else queueNotice i 2 x.1 s) s

/-- The NEIGHBOUR cells of the slotframe take what their neighbour's state asks for; a booking in a cell that returns is removed and
deferred (R262). -/
def syncReclaimed (a : Nat) (x : Nat × Cell) (s : State) : State :=
  let want := (s.nbr x.2.nbr).reclaimed
  if x.2.kind ≠ 5 ∨ x.2.reclaimed = want then s
  else
    let s1 := schedChanged x.1 (setCellBit x.1 4 want s)
    if want then s1
    else (s1.txm.bookings.filter fun b => b.cell == some x.1 && decide (s1.slotStart a ≤ b.start)).foldl
      (fun s b => bump cSchTxDefer 0 (cancelTx b s)) s1

/-- Apply a mirrored change of the schedule (R244). -/
def applyChange (c : SchedChange) (s : State) : State :=
  let s1 := c.cells.foldl (fun s x => s.setEntry tSchCell x.1 x.2) s
  let s2 := c.tables.foldl (fun s x => s.setEntry x.1 x.2.1 x.2.2) s1
  let s3 := c.txIq.foldl (fun s x => s.modCal x.1 fun k =>
    { k with txCand := { k.txCand with iqGain := x.2.1, iqPhase := x.2.2 } }) s2
  { s3 with sch.epoch := c.epoch }

/-- SLOTFRAME_BOUNDARY: schedule changes take effect, neighbours' cells are reclaimed or returned, and withdrawn cells are checked
(R244, R262, R266). -/
def execSlotframeBoundary (t : Time) (k : Nat) (s : State) : Outcome State Fault Refusal :=
  onInst (k < 32) <|
    let s := s.arrive t
    let a := s.asnAt s.clock.now
    let f := slotframeOf s k
    if !(s.slotUp && s.sch.started && f.valid) || decide (f.length = 0) || decide (a % f.length ≠ 0) then s
    else
      let due := s.sch.changes.filter fun c => decide (c.effective ≤ a)
      let s1 := refreshCfg 11 (due.foldl (fun s c => applyChange c s)
        { s with sch.changes := s.sch.changes.filter fun c => decide (a < c.effective) })
      if s.leads then
        let cs := cellsOf s1 f
        leaveResync a (cs.foldl (fun s x => checkWithdrawn a f x s) (cs.foldl (fun s x => syncReclaimed a x s) s1))
      else s1

/-- The schedule may start at the boundary of slot `a`: once a source has been usable, or 10 s after the release; on a standby at the ASN that the
active has mirrored, or later (R243). -/
def mayStart (s : State) (a : Nat) : Bool :=
  if s.pair.state = .standby then s.sch.startAsn.any fun b => decide (b ≤ a)
  else s.timer.everLocked || decide (s.sch.released + sec 10 ≤ s.clock.now)

/-- SCHEDULE_START: at a slot boundary, to within one Slot cycle of 1 ns, the schedule starts; the active mirrors the ASN (R243). -/
def execScheduleStart (t : Time) (s : State) : Outcome State Fault Refusal :=
  onInst true <|
    let s := s.arrive t
    let a := s.asnAt s.clock.now
    if !(s.slotUp && s.start.phase == .p9) || s.sch.started || decide (s.slotLen = 0) then s
    else if mayStart s a && decide (s.clock.now < s.slotStart a + ns 1) then
      let s1 : State := { s with sch.started := true, sch.slot := a - 1, sch.startAsn := some a }
      if s.pair.state = .standby then s1 else mirror (.schedule ⟨s.sch.epoch, a, [], [], [], some a⟩) none s1
    else s

end Sys2Proof.Machine
end

