-- ==== Sys2Proof/Machine/Entries.lean ====
section
/-! DEFINITION. What the packet plane keeps of the nodes, shared by the key vault, the commit sequencer and the Dovetail controller:
the places of entries, and their creation and deletion (R333, R335, R338, R339, R365). -/

namespace Sys2Proof.Machine

open Host

/-! ### Hashes and places (R335, R339, R340) -/

/-- One octet of a CRC-32C, bit by bit (reflected polynomial 0x82F63B78). -/
def crcBits : Nat → Word → Word
  | 0, c => c
  | n + 1, c => crcBits n (if c.getLsbD 0 then (c >>> 1) ^^^ 0x82F63B78#32 else c >>> 1)

/-- CRC-32C over octets from an initial value, with no final inversion. -/
def crc32c (init : Word) : List Byte → Word
  | [] => init
  | b :: r => crc32c (crcBits 8 (init ^^^ b.setWidth 32)) r

/-- The octets of an EUI-64, first octet most significant. -/
def euiOctets (e : Eui) : List Byte := (List.range 8).map fun i => e.extractLsb' (8 * (7 - i)) 8

/-- The bucket of node `e` in half `i` under a pair of seeds (R335). -/
def bucketOf (seeds : Word × Word) (e : Eui) (i : Nat) : Nat :=
  (crc32c (if i = 0 then seeds.1 else seeds.2) (euiOctets e)).toNat % 2 ^ 20

/-- The tag of node `e` (R335). -/
def tagOf (seeds : Word × Word) (e : Eui) : Nat := (crc32c seeds.1 (euiOctets e)).toNat / 2 ^ 16

/-- Slot `k` of bucket `b` in half `i` of the node table (R335). -/
def slotNumber (i b k : Nat) : Nat := i * 4194304 + b * 4 + k

/-- The slots of the two buckets of node `e` (R335). -/
def ownSlots (seeds : Word × Word) (e : Eui) : List Nat :=
  (List.range 2).flatMap fun i => (List.range 4).map (slotNumber i (bucketOf seeds e i))

/-- The entry that lies in a slot of the node table. -/
def inSlot (l : List (Nat × Node)) (k : Nat) : Option (Nat × Node) := l.find? fun x => x.2.place == .table k

/-- Slot `k` can take node `e`: it lies in one of the node's buckets, it is free, and no tag of that bucket is the node's (R337). -/
def slotTakes (seeds : Word × Word) (e : Eui) (l : List (Nat × Node)) (k : Nat) : Bool :=
  (ownSlots seeds e).contains k && (inSlot l k).isNone &&
    (List.range 4).all fun j => (inSlot l (k / 4 * 4 + j)).all fun x => tagOf seeds x.2.eui != tagOf seeds e

/-- The slot that takes node `e`, if one does: the spec names no order, and the model takes the one of half 0 first and then the lowest
number (R337). -/
def freeSlotFor (seeds : Word × Word) (e : Eui) (l : List (Nat × Node)) : Option Nat := (ownSlots seeds e).find? (slotTakes seeds e l)

/-- One move of a relocation: the entry at an INDEX goes to a slot that takes it; any other move changes nothing (R337). -/
def relocate (seeds : Word × Word) (l : List (Nat × Node)) (m : Nat × Nat) : List (Nat × Node) := match afind l m.1 with
  | none => l
  | some n =>
    let rest := l.filter fun x => x.1 != m.1
    if n.place.inTable && slotTakes seeds n.eui rest m.2 then amod l m.1 fun n => { n with place := .table m.2 } else l

/-- The node table after as many of the moves as node `e` needs to find a slot, at most 32, and that slot (R337). -/
def relocated (seeds : Word × Word) (e : Eui) : Nat → List (Nat × Nat) → List (Nat × Node) → List (Nat × Node) × Option Nat
  | k + 1, m :: r, l => match freeSlotFor seeds e l with
    | some x => (l, some x)
    | none => relocated seeds e k r (relocate seeds l m)
  | _, _, l => (l, freeSlotFor seeds e l)

/-- The seeds by which the rebuild table is found: during a rehash those that it replaced (R339, R341). -/
def rebuildSeeds (s : State) : Word × Word := s.fwd.rbSeeds.getD s.fwd.seeds

/-- The entries in bucket `b` of half `i` of the rebuild table. -/
def rebuildCount (s : State) (i b : Nat) : Nat := (s.fwd.nodes.filter fun x => x.2.place == .rebuild i b).length

/-- Where the rebuild table places node `e`: the less occupied of its two buckets, bucket 0 if they are equal, or the overflow store
of 65,536 slots; none where that is full too (R339). -/
def rebuildPlace (s : State) (e : Eui) : Option NodePlace :=
  let p := bucketOf (rebuildSeeds s) e 0
  let q := bucketOf (rebuildSeeds s) e 1
  let a := rebuildCount s 0 p
  let b := rebuildCount s 1 q
  if a ≤ b ∧ a < 4 then some (.rebuild 0 p)
  else if b < a ∧ b < 4 then some (.rebuild 1 q)
  else if overflowUsed s < 65536 then some .overflow
  else none

/-- Insertions go to the rebuild table: before P6, during a rehash, and while the jig tests the relocation logic (R340, R341). -/
def rebuildOpen (s : State) : Bool :=
  s.start.phase == .p5 || s.fwd.rehash || underTest s 11 0

/-- Where an entry goes whose creation comes with no chain of moves: a free slot of the node table, or else the rebuild table, from which it
migrates (R337, R340). That it goes there where no slot is free is the model's choice. -/
def anyPlace (s : State) (e : Eui) : Option NodePlace :=
  if rebuildOpen s then rebuildPlace s e
  else match freeSlotFor s.fwd.seeds e s.fwd.nodes with
    | some k => some (.table k)
    | none => rebuildPlace s e

/-! ### Entries (R332, R333, R338) -/

/-- The INDEX values. -/
def nodeMax : Nat := 5242880

/-- A free INDEX: the first from the free value on that holds no entry and that the image has not fixed (R333). -/
def freeIndexOf (s : State) : Option Nat :=
  let start := Config.freeIndex s.free % nodeMax
  if nodeMax ≤ s.fwd.nodes.length then none
  else (firstSuch (s.fwd.nodes.length + s.fwd.fixed.length + 1) fun k =>
    (s.nodeAt ((start + k) % nodeMax)).isNone && !s.fwd.fixed.contains ((start + k) % nodeMax)).map fun k => (start + k) % nodeMax

/-- The entry of a node that learning or a key-load item creates (R332, R356). -/
def freshNode (s : State) (e : Eui) (pan : BitVec 16) (p : NodePlace) : Node :=
  { eui := e, pan := pan, ageStamp := s.second, txPower := toSigned 8 (s.fld rFwdAge 20 8),
    cal := { sigma := s.fld rCalNodeCtrl 0 16 }, place := p }

/-- Put entry `n` under INDEX `i`; the active mirrors the creation (R365). -/
def putNode (i : Nat) (n : Node) (s : State) : State :=
  mirror (.node true n.eui i (n.role == 1) n.pan none) none { s with fwd.nodes := aput s.fwd.nodes i n }

/-- Allocate an INDEX; a full table refuses and counts it (R333). -/
def allocIndex (s : State) : Option Nat × State := match freeIndexOf s with
  | some i => (some i, s.drawn)
  | none => (none, bump cFwdTableFull 0 s)

/-- A member whose entry is deleted counts as LOST, and its progress record is cleared (R421). -/
def memberLost (i : Nat) (s : State) : State := match afind s.prog i with
  | some p => campSettle p.campaign (bump cUpdCampMemberLost 0 { s with prog := adel s.prog i })
  | none => s

/-- Delete the entry at INDEX `i` with its blob and progress record; the active mirrors the deletion (R338, R365). -/
def deleteNode (i : Nat) (s0 : State) : State :=
  let s := memberLost i s0
  let e := (s.nodeAt i).map fun n => n.eui
  mirror (.node false (e.getD 0) i false 0 none) none { s with
    fwd.nodes := adel s.fwd.nodes i
    fwd.blobs := adel s.fwd.blobs i
    key.cache := s.key.cache.filter fun c => some c.node != e }

/-- The entry of node `e`, created if it is absent (R286). -/
def ensureNode (e : Eui) (s : State) : Option Nat × State := match s.indexOf e with
  | some i => (some i, s)
  | none => match anyPlace s e with
    | none => (none, bump cFwdRbFull 0 s)
    | some p => match allocIndex s with
      | (some i, s1) => (some i, putNode i (freshNode s e 0 p) s1)
      | (none, s1) => (none, s1)

end Sys2Proof.Machine
end

