-- ==== Sys2Proof/Machine/Vault.lean ====
section
/-! DEFINITION. The operations of the key vault that its commands, the mirror records, the pairing and the start share (R271 to R293):
keys in place, staleness, the key cache, installing, revoking and retiring, and the key journals. -/

namespace Sys2Proof.Machine

open Host

/-! ### Classes and keys (R271 to R273) -/

/-- PAIR_AUTH, NETWORK_KEK, GROUP, FERRY and IMAGE. -/
def persistent (cls : Nat) : Bool := cls == 3 || cls == 4 || cls == 5 || cls == 6 || cls == 8

/-- A KEY_ID that the class has (R271). -/
def keyIdOk (cls id : Nat) : Bool := match cls with
  | 4 => decide (1 ≤ id ∧ id ≤ 15)
  | 5 => decide (1 ≤ id ∧ id ≤ 255)
  | 8 => decide (id ≤ 3)
  | _ => id == 0

/-- KEY_LEN of a class: 16 or 32 octets (R273). -/
def keyLen (cls : Nat) : Nat := if cls = 5 ∨ cls = 8 ∨ cls = 9 then 16 else 32

/-- The checks of R273 that follow the integrity check, for a blob used for `bind` (0 for a key that is no node's). -/
def plainOk (p : KeyPlain) (bind : Eui) : Bool := p.reservedZero && p.len == keyLen p.cls && p.bind == bind

/-- The number of a key of the vault. -/
def keyNo (cls id : Nat) : Nat := cls * 2 ^ 32 + id

/-- The key of a persistent class in place. -/
def keyAt (s : State) (cls id : Nat) : Option VKey := afind s.key.keys (keyNo cls id)

/-- A NETWORK_KEK that may unwrap: loaded, and neither revoked nor retired. -/
def kekLive (s : State) (id : Nat) : Bool := (keyAt s 4 id).any fun k => k.status == .live

/-- The KEY field of a key in place; zero without one. -/
def persistentKey (s : State) (cls id : Nat) : BitVec 256 := ((keyAt s cls id).map fun k => k.plain.key).getD 0

/-- The present generation of a NETWORK_KEK; 0 without one. -/
def kekGen (s : State) (id : Nat) : Nat := ((keyAt s 4 id).map fun k => k.gen).getD 0

/-- A child whose PARENT_GEN lies below its parent's generation (R288). -/
def stale (s : State) (k : VKey) : Bool := k.parent != 0 && decide (k.parentGen < kekGen s k.parent)

/-- A request enters the unwrap queue of 256, if it has room (R277). -/
def queueUnwrap (r : UnwrapReq) (s : State) : State :=
  if s.key.queue.contains r ∨ 256 ≤ s.key.queue.length then s else { s with key.queue := s.key.queue ++ [r] }

/-- What a use of a key meets (R276, R288). -/
inductive KeyUse where
  | good | stale | absent
  deriving DecidableEq, Repr

/-- A use of the key (cls, id). A stale one is refused and queued for renewal, or waits for a key-load item if its parent is not
live (R288). -/
def useKey (cls id : Nat) (s : State) : KeyUse × State := match keyAt s cls id with
  | none => (.absent, s)
  | some k =>
    if k.status != .live then (.absent, s)
    else if stale s k then
      (.stale, if kekLive s k.parent then queueUnwrap (.renew cls id) s
        else { s with key.keys := amod s.key.keys (keyNo cls id) fun k => { k with status := .waiting } })
    else (.good, s)

/-! ### The key cache (R275) -/

/-- The slots that are pinned: the persistent keys, and the PAIR and ISTHMUS keys and the session key where they exist. -/
def pinnedSlots (s : State) : List (Nat × Nat) :=
  s.key.keys.map (fun x => (x.1 / 2 ^ 32, x.1 % 2 ^ 32)) ++ (if s.key.pairKey.isSome then [(2, 0), (10, 0)] else []) ++
    (if s.fry.state = 2 then [(7, s.fry.session)] else [])

/-- The set of a node's slot. -/
def nodeSet (e : Eui) : Nat := Config.cacheSet e % 4096

/-- The ways of set `k` in use. -/
def waysUsed (s : State) (k : Nat) : Nat :=
  (s.key.cache.filter fun c => nodeSet c.node == k).length +
    ((pinnedSlots s).filter fun x => Config.pinnedSet x.1 x.2 % 4096 == k).length

/-- Drop the slot of node `e`; frames bound to it keep their key (R286). -/
def dropSlot (e : Eui) (s : State) : State :=
  { s with key.cache := s.key.cache.filter fun c => c.node != e,
           key.ctxs := s.key.ctxs.map fun x => if x.2.bound = some (.node e) then (x.1, { x.2 with cached := false }) else x }

/-- Fill a slot for node `e` with the key under KEK `kek`, evicting the least recently used way that is neither locked nor pinned; a set
without one leaves the key outside the cache (R275). -/
def fillSlot (e : Eui) (kek : Nat) (p : KeyPlain) (s : State) : Bool × State :=
  let c : CacheSlot := ⟨e, kek, p.gen, kekGen s kek, p.key, 0⟩
  let k := nodeSet e
  if s.key.cache.any fun x => x.node == e then (true, s)
  else if waysUsed s k < 16 then (true, { s with key.cache := c :: s.key.cache })
  else match (s.key.cache.reverse).find? fun x => nodeSet x.node == k && x.locks == 0 with
    | some v => (true, { s with key.cache := c :: s.key.cache.filter fun x => x.node != v.node })
    | none => (false, bump cKeyCacheBypass 0 s)

/-- Bind or release the slot of node `e`: it becomes the most recently used, and its lock count changes. -/
def lockSlot (e : Eui) (up : Bool) (s : State) : State := match s.key.cache.find? fun c => c.node == e with
  | some c =>
    let c' := { c with locks := if up then c.locks + 1 else c.locks - 1 }
    { s with key.cache := c' :: s.key.cache.filter fun x => x.node != e }
  | none => s

/-! ### Changes of a node's key (R284, R286, R288) -/

/-- What a LOAD finds (R286). -/
inductive LoadResult where
  | stored | same | refused
  deriving DecidableEq, Repr

/-- The plaintext of a blob under NETWORK_KEK `kek`; none without such a key, or where the unwrap fails (R272, R273). -/
def underKek (s : State) (kek : Nat) (b : BitVec 512) : Option KeyPlain := (keyAt s 4 kek).bind fun k => unwrapBlob k.plain.key b

/-- The key of node INDEX `i` from its blob: none where the unwrap fails, or the plaintext is no key of that node (R273, R276). -/
def nodePlain (s : State) (i : Nat) (n : Node) : Option KeyPlain :=
  (((afind s.fwd.blobs i).bind (underKek s n.sec.kekId)).filter fun p => plainOk p n.eui && p.cls == 9)

/-- A LOAD of a NODE key with a good plaintext (R284, R286, R334). -/
def loadNode (it : KeyItem) (p : KeyPlain) (s : State) : LoadResult × State := match ensureNode it.eui s with
  | (none, s1) => (.refused, s1)
  | (some i, s1) => match s1.nodeAt i with
    | none => (.refused, s1)
    | some n =>
      let s2 := hit it.eui s1
      let old := (afind s2.fwd.blobs i).bind (underKek s2 n.sec.kekId)
      if n.sec.keyGen < p.gen then
        let s3 := dropSlot it.eui { s2 with fwd.blobs := aput s2.fwd.blobs i it.blob }
        (.stored, s3.modNode i fun n => { n with sec :=
          { fcHwm := max n.sec.fcHwm it.fcFloor, txFc := max n.sec.txFc (max it.txFcFloor s.key.nodeCeiling),
            blobValid := true, kekId := it.kekId, keyGen := p.gen } })
      else if n.sec.keyGen = p.gen ∧ n.sec.blobValid ∧ old = some p then (.same, s2)
      else (.refused, bump cKeyLoadOld 0 s2)

/-- A NODE key ceases to be usable: BLOB_VALID is cleared and its slot dropped; a REVOKE raises its generation (R288). -/
def voidNode (i : Nat) (raise : Bool) (s : State) : State := match s.nodeAt i with
  | none => s
  | some n => dropSlot n.eui { (s.modNode i fun n => { n with sec :=
      { n.sec with blobValid := false, keyGen := if raise then n.sec.keyGen + 1 else n.sec.keyGen } }) with
        fwd.blobs := adel s.fwd.blobs i }

/-- A LOAD of a persistent key against the key in place (R286). -/
def loadCheck (s : State) (p : KeyPlain) : LoadResult := match keyAt s p.cls p.id with
  | none => .stored
  | some k =>
    if k.gen < p.gen then .stored
    else if k.gen = p.gen ∧ (k.status = .live ∨ k.status = .waiting) ∧ k.plain = p then .same
    else .refused

/-! ### The outbound counters (R283) -/

/-- The counter of GROUP key `id`, with its recorded ceiling. -/
def groupTxOf (s : State) (id : Nat) : Nat × Nat := ((s.key.groupTx.find? fun x => x.1 == id).map fun x => x.2).getD (0, 0)

/-- Set the counter and the ceiling of GROUP key `id`. -/
def setGroupTx (id next ceil : Nat) (s : State) : State :=
  { s with key.groupTx := (s.key.groupTx.filter fun x => x.1 != id) ++ [(id, next, ceil)] }

/-! ### Key journals (R292, R293) -/

/-- Record `a` is newer than `b` of the same key: the higher GENERATION, for a ceiling the higher VALUE, and on a tie the later one
(R293). -/
def newerRec (a b : KeyRec) : Bool :=
  if a.kind = 4 then decide (b.value < a.value ∨ a.value = b.value ∧ b.seq < a.seq)
  else decide (b.gen < a.gen ∨ a.gen = b.gen ∧ b.seq < a.seq)

/-- Two records of one key: the same class and identifier, and both ceilings or neither. -/
def sameKey (a b : KeyRec) : Bool := a.cls == b.cls && a.id == b.id && ((a.kind == 4) == (b.kind == 4))

/-- The newest complete record of every key. -/
def newest : List KeyRec → List KeyRec
  | [] => []
  | a :: r =>
    if !a.complete then newest r
    else if r.any fun b => b.complete && sameKey a b && newerRec b a then newest r
    else a :: (newest r).filter fun b => !(sameKey a b)

/-- Copy the newest record of every key into the other half and erase the old one. -/
def KeyJournal.compact (j : KeyJournal) : KeyJournal :=
  let rs := newest j.records
  { j with half := !j.half, seq := j.seq + rs.length, records := rs.zipIdx.map fun x => { x.1 with seq := j.seq + x.2 } }

/-- Append a record to one copy; a copy that is lost takes none. A half that is full is compacted first, so that no record is dropped: R292
has the copy made from 3,072 records on, by KEY_JOURNAL_COMPACT, and the rest of the half is the model's latest moment for it. -/
def KeyJournal.append (j0 : KeyJournal) (r : KeyRec) : KeyJournal :=
  if j0.lost then j0
  else
    let j := if 4096 ≤ j0.records.length then j0.compact else j0
    { j with seq := j.seq + 1, records := j.records ++ [{ r with seq := j.seq }] }

/-- Append to copy A or B. -/
def journalAppend (copyB : Bool) (r : KeyRec) (s : State) : State :=
  if copyB then { s with flash.jrnB := s.flash.jrnB.append r } else { s with flash.jrnA := s.flash.jrnA.append r }

/-- Copy A or B. -/
def journalOf (s : State) (copyB : Bool) : KeyJournal := if copyB then s.flash.jrnB else s.flash.jrnA

/-- What a completed record does to the vault (R286, R288, R283). -/
def applyRec (r : KeyRec) (s : State) : State := match r.kind, r.plain with
  | 1, some p =>
    let s1 : State := { s with key.keys := aput s.key.keys (keyNo r.cls r.id) ⟨p, r.gen, .live, r.parent, kekGen s r.parent⟩ }
    if r.cls = 5 ∧ !(s.key.groupTx.any fun x => x.1 == r.id) then setGroupTx r.id 0 0 s1 else s1
  | 2, _ => { s with key.keys := amod s.key.keys (keyNo r.cls r.id) fun k => { k with gen := r.gen, status := .revoked } }
  | 3, _ => { s with key.keys := amod s.key.keys (keyNo r.cls r.id) fun k => { k with status := .retired } }
  | 4, _ =>
    if r.cls = 9 then { s with key.nodeCeiling := max s.key.nodeCeiling r.value, key.ceilingDue := false }
    else setGroupTx r.id (groupTxOf s r.id).1 (max (groupTxOf s r.id).2 r.value) s
  | _, _ => s

/-- A KEY record of a plaintext that came under KEK `parent`. -/
def keyRec (p : KeyPlain) (parent : Nat) : KeyRec := ⟨0, p.cls, 1, p.id, p.gen, 0, parent, some p, true⟩

/-- The flash clamp of a copy. -/
def flashClamp (copyB : Bool) : Nat := if copyB then 73 else 72

/-- The job at the head asks for the clamp of the copy it writes next; a copy that is lost is passed over (R293, R472). -/
def jobAsk (s : State) : State := match s.key.jobs with
  | [] => s
  | j :: r =>
    let b := j.copyB || s.flash.jrnA.lost
    (askClamp 14 (flashClamp b) { s with key.jobs := { j with copyB := b } :: r }).2

/-- A journal job joins the queue. -/
def addJob (c : KeyCause) (r : KeyRec) (s : State) : State :=
  let s1 : State := { s with key.jobs := s.key.jobs ++ [⟨c, r, false⟩] }
  if s.key.jobs.isEmpty then jobAsk s1 else s1

/-- A mirrored or partner's record MSEQ `m` is answered by a COMMIT (R378). -/
def commitTo (m : Nat) (ok : Bool) (s : State) : State := if s.linked then emit (.commit m ok) none s else s

/-- Item `d` has been turned away without acceptance: its record goes, and a resend finds JRN_NEXT_DSN where it was (R287). -/
def notAccepted (d : Nat) (s : State) : State :=
  { s with dl.recs := s.dl.recs.filter fun r => r.item.dsn != d, key.items := adel s.key.items d,
           pair.awaits := s.pair.awaits.filter fun x => x.2 != .key d }

/-- Item `d` of the vault ends. -/
def endKeyItem (d : Nat) (e : Ending) (s : State) : State :=
  finish d e { s with key.items := adel s.key.items d, key.queue := s.key.queue.filter fun r => r != .load d }

/-- Item `d` is carried out once its own journal writes are complete and the partner's commit has come (R287). -/
def keySettle (d : Nat) (s : State) : State :=
  if (s.key.jobs.any fun j => j.cause == .item d) || s.pair.awaits.any (fun x => x.2 == .key d) then s
  else if (afind s.key.items d).isSome then endKeyItem d .acked s else s

/-- A job is complete, or has failed on both copies. The partner's records have taken effect in MSEQ order (R287). -/
def jobDone (j : KeyJob) (ok : Bool) (s : State) : State :=
  let s0 : State := { s with key.jobs := s.key.jobs.drop 1 }
  let own := match j.cause with | .partner _ => false | _ => true
  let s1 := if ok && own then applyRec j.record s0 else s0
  let s2 := match j.cause, ok with
    | .item d, true => keySettle d s1
    | .item d, false => notAccepted d s1
    | .partner m, _ => commitTo m ok s1
    | .pairing, true => { s1 with key.received := true }
    | _, _ => s1
  jobAsk s2

/-- Append record `r` to a copy, its 128 octets programmed in one page operation (R292). -/
def programRecord (copyB : Bool) (r : KeyRec) (s : State) : State :=
  let s1 := journalAppend copyB r s
  match (journalOf s1 copyB).records.getLast? with
  | some x => s1.out (.keyRecord copyB (recordOctets (s.key.devKek.getD 0) x))
  | none => s1

/-- The programme of the head job's record on its copy has completed (R287, R293). -/
def jobWritten (ok : Bool) (s : State) : State := match s.key.jobs with
  | [] => s
  | j :: r =>
    let b := j.copyB
    if (s.clamp (flashClamp b)).holder != 14 then s
    else
      let s1 := freeClampOf 14 (flashClamp b) s
      let s2 := if ok then programRecord b j.record s1
        else degraded 15 (if b then 15 else 14) 0xF0 4
          (if b then { s1 with flash.jrnB.lost := true } else { s1 with flash.jrnA.lost := true })
      if !b ∧ !s2.flash.jrnB.lost then jobAsk { s2 with key.jobs := { j with copyB := true } :: r }
      else jobDone j (!s2.flash.jrnA.lost || !s2.flash.jrnB.lost) s2

/-! ### Rotation (R289) -/

/-- The next node to rewrap from INDEX `i` on: its request enters the queue, if it has room. -/
def rewrapNext (i : Nat) (s : State) : State := match s.key.rewrap with
  | none => s
  | some w => match s.fwd.nodes.find? fun x => decide (i ≤ x.1) && x.2.sec.blobValid && x.2.sec.kekId == w.fromId with
    | some x => queueUnwrap (.rewrap x.1) { s with key.rewrap := some { w with index := x.1 } }
    | none => { s with key.rewrap := some { w with index := nodeMax } }

/-- A walk whose next node found the unwrap queue full tries again (R277). -/
def rewrapPump (s : State) : State := match s.key.rewrap with
  | some w => if nodeMax ≤ w.index || s.key.queue.contains (.rewrap w.index) then s else rewrapNext w.index s
  | none => s

/-- A rotation asks for the key-rotation clamp and begins its walk once it holds it. -/
def rewrapStart (f t d : Nat) (s : State) : State :=
  if s.key.rewrap.isSome then s
  else
    let a := askClamp 6 69 s
    if a.1 then rewrapNext 0 { a.2 with key.rewrap := some ⟨f, t, 0, d⟩ } else a.2

end Sys2Proof.Machine
end

