-- ==== Sys2Proof/Machine/Keys.lean ====
section
/-! DEFINITION. The meanings of the key vault's commands (10_keys_and_crypto.md, with KEY_ITEM of R326). -/

namespace Sys2Proof.Machine

open Host

/-! ### Uplink frames (R276 to R282) -/

/-- The CCM* lane that holds the fewest contexts, of those not drained or retired (R279). -/
def leastLane (s : State) : Nat :=
  let n (l : Nat) : Nat := (s.key.ctxs.filter fun x => x.2.lane == l).length
  let ok := (List.range 8).filter fun l => s.key.draining != some l && !isRetired s 6 l
  ok.foldl (fun b l => if n l < n b then l else b) (ok.headD 0)

/-- Replace the context of group `g`. -/
def setCtx (g : Nat) (c : KeyCtx) (s : State) : State := { s with key.ctxs := aput s.key.ctxs g c }

/-- The counter of a verdict that drops a frame (R281). -/
def verdictCounter : Verdict → Option Counter
  | .okNew | .okEqual => none
  | .old => some cKeyReplay
  | .exhausted => some cKeyFcExhausted
  | .micFail => some cKeyMicFail
  | .stale => some cKeyStaleUse
  | .noKey => some cKeyNoBlob
  | .blobBad => some cKeyBlobBad
  | .level => some cKeySecLevel
  | .kim => some cKeyKimUnsupported
  | .unwrapOvf => some cKeyUnwrapOvf

/-- FC_HWM of the sender: its entry's, or the counter held for a new sender's entry; none for a node never accepted (R282, R352). -/
def hwmOf (s : State) (e : Option Eui) : Option Nat := match e with
  | none => none
  | some e => match s.nodeOf e with
    | some (_, n) => some n.sec.fcHwm
    | none => (s.fwd.newcomers.find? fun m => m.node == e && m.accepted).map fun m => m.counter

/-- The verdict on a frame under its context's key (R280, R281). -/
def verdictOf (s : State) (c : KeyCtx) (frame : SealedFrame) : Verdict := match c.failed with
  | some v => v
  | none =>
    if !micGood c.key (c.fields.source.getD 0) c.fields.counter c.fields.level frame then .micFail
    else if c.fields.counter = 0xFFFFFFFF then .exhausted
    else match hwmOf s c.fields.source with
      | none => .okNew
      | some h => if h < c.fields.counter then .okNew else if h = c.fields.counter then .okEqual else .old

/-- The verdict of group `g` goes to the commit sequencer, counted once where the frame's FCS is good, and the context ends (R281,
R305). -/
def deliver (g : Nat) (c : KeyCtx) (fcs : Bool) (frame : SealedFrame) (s : State) : State :=
  let v := verdictOf s c frame
  let s1 := match verdictCounter v with
    | some k => if fcs && !c.silent then bump k 0 s else s
    | none => s
  let s2 := match c.bound with
    | some (.node e) => if c.cached then lockSlot e false s1 else s1
    | _ => s1
  let dig := ((c.fields.source.bind s.nodeOf).map fun x => x.2.lastDigest).getD 0
  ({ s2 with key.ctxs := adel s2.key.ctxs g,
             jrn.cands := amod s2.jrn.cands g fun k => { k with verdict := some v, counter := c.fields.counter, lastDigest := dig } } : State).out
    (.verdict g v)

/-- The look-up of a NODE key (R276, R288). -/
def lookupNode (g : Nat) (c : KeyCtx) (e : Eui) (s : State) : State := match s.nodeOf e with
  | none => setCtx g { c with failed := some .noKey } (bump cKeyMiss 0 s)
  | some (i, n) =>
    if !n.sec.blobValid then setCtx g { c with failed := some .noKey } (bump cKeyMiss 0 s)
    else match s.key.cache.find? fun x => x.node == e with
      | some slot =>
        let s1 := bump cKeyHit 0 s
        if slot.parentGen < kekGen s slot.kek then
          let s2 := dropSlot e s1
          setCtx g { c with failed := some .stale } (if kekLive s slot.kek then queueUnwrap (.renew 9 i) s2 else s2)
        else setCtx g { c with bound := some (.node e), cached := true, key := slot.key } (lockSlot e true s1)
      | none =>
        let s1 := bump cKeyMiss 0 s
        if !kekLive s n.sec.kekId then setCtx g { c with failed := some .noKey } s1
        else if 256 ≤ s.key.queue.length then setCtx g { c with failed := some .unwrapOvf } s1
        else setCtx g { c with waiting := true } { s1 with key.queue := s1.key.queue ++ [.miss g] }

/-- The look-up of a GROUP key (R276, R288). -/
def lookupGroup (g : Nat) (c : KeyCtx) (s : State) : State := match useKey 5 c.fields.keyIndex s with
  | (.good, s1) =>
    setCtx g { c with bound := some (.group c.fields.keyIndex), key := persistentKey s 5 c.fields.keyIndex } (bump cKeyHit 0 s1)
  | (.stale, s1) => setCtx g { c with failed := some .stale } (bump cKeyHit 0 s1)
  | (.absent, s1) => setCtx g { c with failed := some .noKey } (bump cKeyMiss 0 s1)

/-- KEY_LOOKUP: at the address point the vault finds the key that the key identifier mode names, or queues its unwrap (R276, R279,
R280). It starts no lookup for a frame whose version is refused, so its blocks and its end find no context (R166). -/
def execKeyLookup (t : Time) (g : Nat) (s : State) : Outcome State Fault Refusal :=
  onInst (g < 4096) <|
    let s := s.arrive t
    match (s.groupOf g).bind fun x => if x.version then x.lookup else none with
    | none => s
    | some f =>
      if (afind s.key.ctxs g).isSome then s
      else if !s.keyUp then straitHold 0 g (some g) (.keyLookup t g) s
      else
        let c : KeyCtx := { lane := leastLane s, fields := f }
        if f.level = 0 ∨ f.level = 4 ∨ f.level < s.fld rKeyCtrl 0 3 ∨ f.suppress then setCtx g { c with failed := some .level } s
        else if 2 ≤ f.kim then setCtx g { c with failed := some .kim } s
        else match f.source with
          | none => setCtx g { c with failed := some .noKey } (bump cKeyMiss 0 s)
          | some e => if f.kim = 0 then lookupNode g c e s else lookupGroup g c s

/-- Payload blocks of a candidate leave for the standby (R302). -/
def mirrorBlocks (g : Nat) : Nat → State → State
  | 0, s => s
  | n + 1, s => mirrorBlocks g n (mirror (.payload g 1) none s)

/-- The end marker of a frame whose payload blocks have all come is taken; it waits for a key that is being unwrapped, and for a block
still on its way (R37, R278). -/
def frameEndTaken (g : Nat) (c : KeyCtx) (s : State) : State := match c.marker with
  | some (fcs, frame, n) => if c.waiting || decide (c.got < n) then setCtx g c s else deliver g c fcs frame s
  | none => setCtx g c s

/-- KEY_PAYLOAD_BLOCK: a block is processed under the bound key, or waits in the context (R278, R302). -/
def execKeyPayloadBlock (t : Time) (g : Nat) (s : State) : Outcome State Fault Refusal :=
  onInst (g < 4096) <|
    let s := s.arrive t
    if !s.keyUp then straitHold 0 g (some g) (.keyPayloadBlock t g) s
    else match afind s.key.ctxs g with
      | none => s
      | some c =>
        let c1 : KeyCtx := { c with got := c.got + 1, blocks := if c.waiting then min 132 (c.blocks + 1) else c.blocks }
        frameEndTaken g c1 (if c.bound.isSome then mirrorBlocks g 1 s else s)

/-- KEY_FRAME_END: the frame-end marker with the frame's FCS verdict, the frame as the lane has sent it, and in how many payload
blocks (R37, R278, R281). A frame whose key is not yet bound waits for it, and a marker is not taken before the
last block. -/
def execKeyFrameEnd (t : Time) (g : Nat) (fcs : Bool) (frame : SealedFrame) (blocks : Nat) (s : State) : Outcome State Fault Refusal :=
  onInst (g < 4096) <|
    let s := s.arrive t
    if !s.keyUp then straitHold 0 g (some g) (.keyFrameEnd t g fcs frame blocks) s
    else match afind s.key.ctxs g with
      | none => s
      | some c => if c.marker.isSome then s else frameEndTaken g { c with marker := some (fcs, frame, blocks) } s

/-- KEY_COUNTER_UPDATE: the vault raises FC_HWM to an accepted frame's counter and writes LAST_DIGEST (R282). -/
def execKeyCounterUpdate (t : Time) (e : Eui) (counter : Nat) (digest : Word) (s : State) : Outcome State Fault Refusal :=
  onInst true <|
    let s := s.arrive t
    if s.keyUp then raiseHwm e counter digest s else straitHold 4 0 none (.keyCounterUpdate t e counter digest) s

/-! ### Outbound frames (R283) -/

/-- The key of a booking's frame: the acknowledgement takes the key of the frame it answers; none for a bare carrier. -/
def protKey (s : State) (b : Booking) : Option BoundKey := match b.use with
  | .ack g => (match (s.groupOf g).bind fun x => x.lookup with
    | some f => if f.kim = 1 then some (.group f.keyIndex) else f.source.map .node
    | none => (afind s.txm.acks g).map fun a => .node a.node)
  | .beacon k => some (.group (Config.groupKeyOf 0 k))
  | .downlink d => (dlOf s d).map fun r => .node r.item.dest
  | .flood id => (floodOf s id).map fun f => .group (Config.groupKeyOf 1 f.pan.toNat)
  | .campaign c _ => (afind s.camps c).map fun k => .group k.defn.keyId
  | .repair _ i => (s.nodeAt i).map fun n => .node n.eui
  | .piece _ _ => some (.group (s.fld rUpdCtrl 8 8))
  | .transit id => (s.fwd.transit.find? fun p => p.id == id).map fun p => .node p.dest
  | .sweep _ => none

/-- The protection of a booking is refused: the booking has failed (R210, R283). An acknowledgement is refused with it, and an OWED
entry becomes VOID; an item waits and remembers that it had no key. -/
def bookingFailed (b : Booking) (s : State) : State := match b.use with
  | .ack g =>
    let s1 := bump cSchAckRefuse 0 (dropAck g s)
    let s2 : State := { s1 with jrn.cands := amod s1.jrn.cands g fun c => { c with refused := true, deadline := none, leave := none } }
    (s2.jrn.entries.filter fun e => e.group == g && e.state == .owed).foldl (fun s e => voidEntry e.hdr.jsn s) s2
  | .downlink d => modDl d (fun r => { r with noKey := true }) (deferItem d (cancelTx b s))
  | _ => bump cSchTxDefer 0 (cancelTx b s)

/-- The frame of booking `b` is protected. -/
def markReady (id : Nat) (s : State) : State :=
  { s with txm.bookings := s.txm.bookings.map fun b => if b.id = id then { b with ready := true } else b }

/-- The frame of booking `b` is protected under a key and outbound counter `c`, with the device's EUI-64 in its nonce (R280): an
acknowledgement or a beacon is written into its template (R198, R200). -/
def protected' (b : Booking) (key : BitVec 256) (c : Nat) (s : State) : State :=
  let s1 := markReady b.id s
  let sealing := sealFrame key s.ownEui c sendLevel
  match b.use with
  | .ack g => { s1 with txm.acks := amod s1.txm.acks g fun a => { a with octets := ackOctets s g a c sealing } }
  | .beacon k => { s1 with txm.beacons := amod s1.txm.beacons k fun x =>
      { x with octets := beaconOctets s (b.cell.getD 0) x.asn c x.more sealing } }
  | _ => s1

/-- Protect booking `b` under the key of node INDEX `i` with its next counter (R283). -/
def protectNode (b : Booking) (i : Nat) (n : Node) (key : BitVec 256) (s : State) : State :=
  let c := n.sec.txFc
  if 0xFFFFFFFF ≤ c then bookingFailed b (bump cKeyFcExhausted 0 s)
  else if s.key.nodeCeiling ≤ c then { s with key.ceilingDue := true }
  else
    let s1 := protected' b key c (s.modNode i fun n => { n with sec := { n.sec with txFc := c + 1 } })
    let s2 := match b.use with
      | .downlink d => modDl d (fun r => { r with counter := c, noKey := false }) s1
      | _ => s1
    let s3 : State := if s.key.nodeCeiling < c + 1 + 32768 then { s2 with key.ceilingDue := true } else s2
    if s3.mirrors && decide ((afind s3.key.txMirrored i).getD 0 ≤ c + 1) then
      mirror (.ceiling ⟨[(n.eui, c + 1 + 1024)], none, none⟩) none { s3 with key.txMirrored := aput s3.key.txMirrored i (c + 1 + 1024) }
    else s3

/-- Protect booking `b` under GROUP key `k` with its next counter; at its recorded ceiling it waits (R283). -/
def protectGroup (b : Booking) (k : Nat) (s : State) : State :=
  let x := groupTxOf s k
  if 0xFFFFFFFF ≤ x.1 then bookingFailed b (bump cKeyFcExhausted 0 s)
  else if x.2 ≤ x.1 then s
  else protected' b (persistentKey s 5 k) x.1 (setGroupTx k (x.1 + 1) x.2 s)

/-- Protect booking `b`: look its key up, and protect, queue an unwrap, or refuse. -/
def protect (b : Booking) (s : State) : State := match protKey s b with
  | none => markReady b.id s
  | some (.group k) => match useKey 5 k s with
    | (.good, s1) => protectGroup b k (bump cKeyHit 0 s1)
    | (.stale, s1) => bookingFailed b (bump cKeyStaleUse 0 (bump cKeyHit 0 s1))
    | (.absent, s1) => bookingFailed b (bump cKeyNoBlob 0 (bump cKeyMiss 0 s1))
  | some (.node e) => match s.nodeOf e with
    | none => bookingFailed b (bump cKeyNoBlob 0 (bump cKeyMiss 0 s))
    | some (i, n) =>
      if !n.sec.blobValid then bookingFailed b (bump cKeyNoBlob 0 (bump cKeyMiss 0 s))
      else match s.key.cache.find? fun x => x.node == e with
        | some slot =>
          let s1 := bump cKeyHit 0 s
          if slot.parentGen < kekGen s slot.kek then
            let s2 := dropSlot e (bump cKeyStaleUse 0 s1)
            bookingFailed b (if kekLive s slot.kek then queueUnwrap (.renew 9 i) s2 else s2)
          else protectNode b i n slot.key s1
        | none =>
          if !kekLive s n.sec.kekId then bookingFailed b (bump cKeyNoBlob 0 (bump cKeyMiss 0 s))
          else if s.key.queue.contains (.protect b.id) then s
          else queueUnwrap (.protect b.id) (bump cKeyMiss 0 s)

/-- KEY_PROTECT: the frame of booking `id` is protected with CCM* under the next counter (R283). -/
def execKeyProtect (t : Time) (id : Nat) (s : State) : Outcome State Fault Refusal :=
  onInst true <|
    let s := s.arrive t
    match bookingOf s id with
    | some b => if b.ready then s else if s.keyUp then protect b s else straitHold 4 0 none (.keyProtect t id) s
    | none => s

/-- A ceiling record. -/
def ceilRec (cls id v : Nat) : KeyRec := ⟨0, cls, 4, id, 0, v, 0, none, true⟩

/-- A ceiling is recorded in both copies, applied, and mirrored (R283). -/
def recordCeiling (cls id v : Nat) (s : State) : State :=
  mirror (.key (.ceiling cls id v)) none (applyRec (ceilRec cls id v) (journalAppend true (ceilRec cls id v) (journalAppend false (ceilRec cls id v) s)))

/-- COUNTER_CEILING_WRITE: the records that are due are written, each 65,536 above its counter, and protections that wait for them may
go on (R283). -/
def execCounterCeilingWrite (t : Time) (s : State) : Outcome State Fault Refusal :=
  onInst true <|
    let s := s.arrive t
    if !s.keyUp then s
    else
      let s1 := if s.key.ceilingDue then
          recordCeiling 9 0 (s.fwd.nodes.foldl (fun m x => max m x.2.sec.txFc) 0 + 65536) s
        else s
      (s1.key.groupTx.filter fun x => decide (x.2.2 ≤ x.2.1)).foldl (fun s x => recordCeiling 5 x.1 (x.2.1 + 65536) s) s1

/-! ### The unwrap engine (R277, R288, R289) -/

/-- The order of priority of R277. -/
def prio : UnwrapReq → Nat
  | .miss _ => 1
  | .protect _ => 2
  | .load _ => 3
  | .renew _ _ => 4
  | .rewrap _ => 5

/-- The request in hand: the oldest of the highest priority. -/
def unwrapHead (s : State) : Option UnwrapReq :=
  s.key.queue.foldl (fun b r => match b with
    | none => some r
    | some x => if prio r < prio x then some r else some x) none

/-- Take request `r` off the queue. -/
def unqueue (r : UnwrapReq) (s : State) : State := { s with key.queue := s.key.queue.erase r }

/-- The unwrap for a frame ends: the key is bound, or the frame drops; a frame that has ended gets its verdict (R276 to R278). -/
def missDone (g : Nat) (s : State) : State := match afind s.key.ctxs g with
  | none => s
  | some c =>
    let e := c.fields.source.getD 0
    match s.nodeOf e with
    | none => frameEndTaken g { c with waiting := false, blocks := 0, failed := some .blobBad } s
    | some (i, n) => match nodePlain s i n with
      | none => frameEndTaken g { c with waiting := false, blocks := 0, failed := some .blobBad } s
      | some p =>
        let r := fillSlot e n.sec.kekId p s
        let s1 := if r.1 then lockSlot e true r.2 else r.2
        frameEndTaken g { c with waiting := false, blocks := 0, bound := some (.node e), cached := r.1, key := p.key } (mirrorBlocks g c.blocks s1)

/-- KEY_UNWRAP_DONE: the unwrap in hand ends (R272, R273, R277, R288, R289). The unwrap of a key-load item ends with KEY_LOAD. -/
def execKeyUnwrapDone (t : Time) (s : State) : Outcome State Fault Refusal :=
  onInst true <|
    let s := s.arrive t
    if !s.keyUp then s
    else rewrapPump <| match unwrapHead s with
      | none => s
      | some (.load _) => s
      | some (.miss g) => missDone g (unqueue (.miss g) s)
      | some (.protect id) =>
        let s1 := unqueue (.protect id) s
        (match bookingOf s1 id with
         | none => s1
         | some b => match protKey s1 b with
           | some (.node e) => (match s1.nodeOf e with
             | some (i, n) => (match nodePlain s1 i n with
               | some p => protectNode b i n p.key (fillSlot e n.sec.kekId p s1).2
               | none => bookingFailed b (bump cKeyBlobBad 0 s1))
             | none => bookingFailed b (bump cKeyNoBlob 0 s1))
           | _ => s1)
      | some (.renew cls id) =>
        let s1 := unqueue (.renew cls id) s
        if cls = 9 then
          (match s1.nodeAt id with
           | some n => (match nodePlain s1 id n with
             | some p => (fillSlot n.eui n.sec.kekId p s1).2
             | none => bump cKeyBlobBad 0 s1)
           | none => s1)
        else
          { s1 with key.keys := amod s1.key.keys (keyNo cls id) fun k =>
              { k with status := if k.status = .waiting then .live else k.status, parentGen := kekGen s1 k.parent } }
      | some (.rewrap i) =>
        let s1 := unqueue (.rewrap i) s
        (match s1.key.rewrap, s1.nodeAt i with
         | some w, some n =>
           if let some p := nodePlain s1 i n then
             rewrapNext (i + 1) { (s1.modNode i fun n => { n with sec := { n.sec with kekId := w.toId } }) with
               fwd.blobs := aput s1.fwd.blobs i (wrapBlob (persistentKey s1 4 w.toId) p),
               key.cache := s1.key.cache.map fun c => if c.node = n.eui then { c with kek := w.toId, parentGen := kekGen s1 w.toId } else c }
           else rewrapNext (i + 1) (bump cKeyBlobBad 0 s1)
         | some _, none => rewrapNext (i + 1) s1
         | none, _ => s1)

/-! ### Key-load items (R285 to R289) -/

/-- KEY_ITEM: item `d` is handed to the vault; a LOAD joins the unwrap queue, and waits outside while that is full (R277, R285, R326). -/
def execKeyItem (t : Time) (d : Nat) (s : State) : Outcome State Fault Refusal :=
  onInst true <|
    let s := s.arrive t
    match s.argsOf d 1 with
    | none => s
    | some a =>
    let it := keyItemRead a
    if !s.keyUp || !s.leads || (afind s.key.items d).isSome then s
    else if it.op = 1 ∧ 256 ≤ s.key.queue.length then s
    else if (!(persistent it.cls) && it.cls != 9) || it.op == 0 || decide (4 < it.op) then finish d .refused s
    else
      let s1 : State := { s with key.items := aput s.key.items d it }
      if it.op = 1 then queueUnwrap (.load d) s1 else s1

/-- The item that the vault holds under `d`, if it has OP `op` and is not yet being carried out. -/
def itemOf (s : State) (d op : Nat) : Option KeyItem :=
  if s.keyUp && s.carries d 1 && !(s.key.jobs.any fun j => j.cause == .item d) && !(s.pair.awaits.any fun x => x.2 == .key d) then
    (afind s.key.items d).bind fun it => if it.op = op then some it else none
  else none

/-- A KEY record goes to the partner for item `d`, and its commit is awaited (R287). -/
def mirrorKey (d : Nat) (b : KeyMirror) (s : State) : State := mirror (.key b) (some (.key d)) s

/-- A persistent key under the pair key, with the KEK that it came under (R287). -/
def pairWrapped (s : State) (p : KeyPlain) (parent : Nat) : KeyMirror := .persistent (wrapBlob (s.key.pairKey.getD 0) p) parent

/-- KEY_LOAD: the blob of item `d` has been unwrapped under the NETWORK_KEK it names (R273, R286, R287). -/
def execKeyLoad (t : Time) (d : Nat) (s : State) : Outcome State Fault Refusal :=
  onInst true <|
    let s := s.arrive t
    match itemOf s d 1 with
    | none => s
    | some it =>
      let s0 := unqueue (.load d) s
      match underKek s it.kekId it.blob with
      | none => endKeyItem d .refused (bump cKeyBlobBad 0 s0)
      | some p =>
        if !(plainOk p (if it.cls = 9 then it.eui else 0)) || !kekLive s it.kekId then endKeyItem d .refused (bump cKeyBlobBad 0 s0)
        else if p.cls ≠ it.cls ∨ p.id ≠ it.keyId ∨ !keyIdOk p.cls p.id ∨ p.gen = 0 then endKeyItem d .refused s0
        else if it.cls = 9 then
          (match loadNode it p s0 with
           | (.refused, s1) => endKeyItem d .refused s1
           | (_, s1) => keySettle d (mirrorKey d (.item it) s1))
        else match loadCheck s0 p with
          | .refused => endKeyItem d .refused (bump cKeyLoadOld 0 s0)
          | .same => keySettle d (mirrorKey d (.item it) { s0 with key.keys := amod s0.key.keys (keyNo p.cls p.id) fun k =>
              { k with status := .live, parent := if p.cls ≤ 4 then 0 else it.kekId,
                       parentGen := kekGen s0 (if p.cls ≤ 4 then 0 else it.kekId) } })
          | .stored => mirrorKey d (pairWrapped s0 p (if p.cls ≤ 4 then 0 else it.kekId)) (addJob (.item d) (keyRec p (if p.cls ≤ 4 then 0 else it.kekId)) s0)

/-- A REVOKE (kind 2) or RETIRE (kind 3) of the key that item `it` names (R288). -/
def voidKey (d kind : Nat) (it : KeyItem) (s : State) : State :=
  if it.cls = 9 then
    match s.nodeOf it.eui with
    | none => endKeyItem d .refused s
    | some (i, n) =>
      if n.sec.blobValid then keySettle d (mirrorKey d (.item it) (voidNode i (kind == 2) (hit it.eui s)))
      else if n.sec.keyGen = 0 then endKeyItem d .refused s
      else endKeyItem d .acked s
  else match keyAt s it.cls it.keyId with
    | none => endKeyItem d .refused s
    | some k =>
      if k.status = .retired ∨ (k.status = .revoked ∧ kind = 2) then endKeyItem d .acked s
      else if kind = 3 ∧ it.cls = 4 ∧ (s.fwd.nodes.any fun x => x.2.sec.kekId == it.keyId) then
        endKeyItem d .refused (bump cKeyRetireBusy 0 s)
      else mirrorKey d (.item it) (addJob (.item d)
        ⟨0, it.cls, kind, it.keyId, if kind = 2 then k.gen + 1 else k.gen, 0, k.parent, none, true⟩ s)

/-- KEY_REVOKE (R288). -/
def execKeyRevoke (t : Time) (d : Nat) (s : State) : Outcome State Fault Refusal :=
  onInst true <|
    let s := s.arrive t
    match itemOf s d 2 with
    | some it => voidKey d 2 it s
    | none => s

/-- KEY_RETIRE (R288, R289). -/
def execKeyRetire (t : Time) (d : Nat) (s : State) : Outcome State Fault Refusal :=
  onInst true <|
    let s := s.arrive t
    match itemOf s d 3 with
    | some it => voidKey d 3 it s
    | none => s

/-- KEY_REWRAP: the walk from the old KEK_ID to the new begins once it holds the key-rotation clamp; the item ends with the walk
(R289). -/
def execKeyRewrap (t : Time) (d : Nat) (s : State) : Outcome State Fault Refusal :=
  onInst true <|
    let s := s.arrive t
    match itemOf s d 4 with
    | none => s
    | some it =>
      let f := it.keyId % 16
      let w := it.keyId / 16 % 16
      if !(kekLive s f) || !(kekLive s w) || f = w then endKeyItem d .refused s
      else
        let s1 := rewrapStart f w d (dlTaken d s)
        if s1.key.rewrap.any fun x => x.dsn == d then mirror (.key (.item it)) none { s1 with key.items := adel s1.key.items d } else s1

/-- KEY_REWRAP_WALK_DONE: no node is left under the old KEK_ID; the clamp is free and the item ends (R289). -/
def execKeyRewrapWalkDone (t : Time) (s : State) : Outcome State Fault Refusal :=
  onInst true <|
    let s := s.arrive t
    match s.key.rewrap with
    | some w =>
      if s.keyUp && !(s.key.queue.any fun r => prio r == 5) then
        endItem w.dsn .acked (freeClampOf 6 69 { s with key.rewrap := none })
      else s
    | none => s

/-! ### The key journal and the vault's faults -/

/-- KEY_JOURNAL_WRITE_DONE: a record programme has completed, or failed with its flash device (R287, R292, R293). -/
def execKeyJournalWriteDone (t : Time) (ok : Bool) (s : State) : Outcome State Fault Refusal :=
  onInst true <|
    let s := s.arrive t
    if s.keyUp then jobWritten ok s else s

/-- KEY_JOURNAL_COMPACT: a half holds 3,072 records (R292). -/
def execKeyJournalCompact (t : Time) (copyB : Bool) (s : State) : Outcome State Fault Refusal :=
  onInst true <|
    let s := s.arrive t
    let j := journalOf s copyB
    if s.keyUp && !j.lost && decide (3072 ≤ j.records.length) then
      if copyB then { s with flash.jrnB := j.compact } else { s with flash.jrnA := j.compact }
    else s

/-- KEY_ENTROPY_FAIL: the entropy source fails a health test, a FATAL error (R270). -/
def execKeyEntropyFail (t : Time) (s : State) : Outcome State Fault Refusal :=
  onInst true <|
    let s := s.arrive t
    if s.keyUp then fatalBy 0x07 (15 * 2048) s else s

/-- JIG_LANE_DRAINED: the lane that the jig drains has no context left, and its test begins (R294). -/
def execJigLaneDrained (t : Time) (s : State) : Outcome State Fault Refusal :=
  onInst true <|
    let s := s.arrive t
    match s.key.draining, s.hlt.test with
    | some l, some j =>
      if s.keyUp && j.warm == 1 && !(s.key.ctxs.any fun x => x.2.lane == l) then { s with hlt.test := some { j with warm := 2, due := s.clock.now + us 500 } } else s
    | _, _ => s

end Sys2Proof.Machine
end

