-- ==== Sys2Proof/Machine/Acceptance.lean ====
section
/-! DEFINITION. The meanings of the commit sequencer's commands (11_acceptance_and_ferry.md, R298 to R314), with the operations on
candidates that a commit, a lost partner and a take bring about. -/

namespace Sys2Proof.Machine

open Host

/-- Candidate `g`. -/
def State.cand (s : State) (g : Nat) : Option Cand := afind s.jrn.cands g

/-- Change candidate `g`. -/
def modCand (g : Nat) (f : Cand → Cand) (s : State) : State := { s with jrn.cands := amod s.jrn.cands g f }

/-- PARTNER_TIMEOUT in 1/16 ns. -/
def partnerTimeout (s : State) : Time := us (s.fld rPairCtrl 0 8)

/-! ### Opening (R298) -/

/-- The deadline that a standby computes for its own candidate (R252, R311). -/
def shadowDeadline (s : State) (x : Group) (sm : Summary) : Option (Time × Time) :=
  (ackMember s x sm).bind fun m => (ackLeave s sm m).map fun l => (l - (txPrep + ackMargin), l)

/-- Book the acknowledgement of candidate `g` and hand it the deadline; a refused booking leaves it without one (R198, R199). -/
def candBook (g : Nat) (x : Group) (sm : Summary) (s : State) : State := match bookAck g x sm s with
  | (some a, s1) =>
    let leave := (bookingOf s1 a.booking).map fun b => b.leave
    mirrorBook g a (modCand g (fun c => { c with deadline := some a.deadline, leave := leave, refused := false }) s1)
  | (none, s1) => modCand g (fun c => { c with deadline := none, leave := none, refused := true }) s1

/-- CANDIDATE_OPEN: the header summary of group `g` opens a candidate (R198, R298, R311). -/
def execCandidateOpen (t : Time) (g : Nat) (s : State) : Outcome State Fault Refusal :=
  onInst (g < 4096) <|
    let s := s.arrive t
    match s.groupOf g with
    | none => s
    | some x => match x.summary with
      | none => s
      | some sm =>
        if (s.cand g).isSome || x.reported then s
        else if !s.slotUp then straitHold 2 g (some g) (.candidateOpen t g) s
        else
          let s1 : State := { s with jrn.cands := aput s.jrn.cands g { ackReq := sm.ackReq } }
          if !sm.ackReq then s1
          else if s.leads then candBook g x sm s1
          else match shadowDeadline s x sm with
            | some (d, l) => modCand g (fun c => { c with deadline := some d, leave := some l }) s1
            | none => s1

/-! ### The checks (R300, R304 to R307) -/

/-- The mark that the commit sequencer holds for a node: FC_HWM, and the counters of its OWED entries (R282, R307). -/
def markOf (s : State) (e : Eui) : Option Nat :=
  (s.jrn.entries.filter fun x => x.hdr.node == e && x.state == .owed && !x.mirrored).foldl
    (fun m x => some (max (m.getD 0) x.hdr.counter)) (hwmOf s (some e))

/-- The END_TIME of the accepted frame of which the frame is a duplicate; `some none` where only LAST_DIGEST shows it (R305, R307). -/
def duplicateOf (s : State) (c : Cand) (f : FrameInfo) : Option (Option Time) :=
  match s.jrn.entries.find? fun x => x.state == .owed && x.hdr.node == f.source && x.hdr.counter == c.counter &&
      x.hdr.digest == f.digest with
  | some x => some (some x.hdr.endTime)
  | none => match s.jrn.dedup.find? fun x => x.node == f.source && x.counter == c.counter && x.digest == f.digest with
    | some x => some (some x.endTime)
    | none =>
      if !(s.jrn.dedup.any fun x => x.node == f.source && x.counter == c.counter) && c.verdict == some .okEqual &&
          f.digest == c.lastDigest then some none
      else none

/-- A duplicate of a frame that ended at `e` (none: long ago): a copy in a separate lane group, or a retry, which is acknowledged as
booked (R306, R334). -/
def duplicate (g : Nat) (c : Cand) (f : FrameInfo) (e : Option Time) (s : State) : State :=
  let s1 := hit f.source s
  if e.any fun x => decide (((x : Int) - c.endTime).natAbs ≤ us (s.fld rLaneCtrl 8 8)) then
    candidateClose g (bump cJrnDupCopy 0 s1)
  else
    let s2 := bump cJrnDup 0 s1
    if s.leads && (afind s.txm.acks g).isSome then
      { s2 with txm.acks := amod s2.txm.acks g fun a => { a with armed := true }, jrn.cands := adel s2.jrn.cands g }
    else candidateClose g s2

/-- The octets that the entry of a frame takes in the ring (R312). -/
def frameOctets (f : FrameInfo) : Nat := 64 + (f.length + 63) / 64 * 64

/-- The ring takes the entry in the space beyond its reserve of 8 MiB (R313). -/
def ringRoom (s : State) (f : FrameInfo) : Bool := decide (ringUsed s + frameOctets f + 2 ^ 23 ≤ ringSize s)

/-- The mirrored entry that matches a candidate by node, counter and digest (R311). -/
def mirroredMatch (s : State) (c : Cand) (f : FrameInfo) : Option Entry :=
  s.jrn.entries.find? fun x => x.mirrored && x.hdr.kind == 1 && x.frame.isNone && x.hdr.node == f.source &&
    x.hdr.counter == c.counter && x.hdr.digest == f.digest

/-- A standby's candidate matches the mirrored entry `x`: it is counted and closes, and the entry takes the frame (R302, R311). -/
def matchCand (g : Nat) (f : FrameInfo) (x : Entry) (s : State) : State :=
  let s1 := candidateClose g (bump cJrnStandbyMatch 0 (modEntry x.hdr.jsn (fun e => { e with
    frame := some f
    start := ((s.groupOf g).map fun y => y.start).getD 0 }) s))
  if x.state = .accepted then framePlane f s1 else s1

/-- A candidate that passes the checks: STAGE on the chip that leads; elsewhere it is held, and a DETACHED device raises FC_HWM from its
own OK_NEW decodes (R299, R311, R382). -/
def passCand (g : Nat) (c : Cand) (f : FrameInfo) (s : State) : State :=
  let s1 := modCand g (fun c => { c with state := if s.leads then .stage else .held }) s
  if s.pair.state = .detached ∧ c.verdict = some .okNew then raiseHwm f.source c.counter f.digest s1 else s1

/-- Another candidate of the node is in STAGE or MIRROR. -/
def nodeBusy (g : Nat) (e : Eui) (s : State) : Bool :=
  s.jrn.cands.any fun x => x.1 != g && (x.2.state == .stage || x.2.state == .mirror) && x.2.frame.any fun y => y.source == e

/-- The last checks of R300, and STAGE: no refused acknowledgement and room in the ring (R300, R313). -/
def lastChecks (g : Nat) (c : Cand) (f : FrameInfo) (s : State) : State :=
  if c.ackReq && c.refused then candidateClose g s
  else if !ringRoom s f then candidateClose g (bump cJrnRingFull 0 s)
  else passCand g c f s

/-- A piece part of R406: its source is an SCH_NBR entry. -/
def piecePart (s : State) (f : FrameInfo) : Bool :=
  f.piece.isSome && (List.range 16).any fun n => nbrUsed s n && nbrEui s n == f.source

/-- A candidate in CHECK runs the checks in their order: it closes, waits, is held, or goes to STAGE (R299, R300, R311). A piece part of
a neighbour opens no entry (R406): its IE goes to the update manager as PIECE_PART_FRAME, which counts it. -/
def runChecks (g : Nat) (s : State) : State := match s.cand g with
  | none => s
  | some c => match c.frame with
    | none => s
    | some f =>
      if f.kind != .data then candidateClose g s
      else if f.source = s.ownEui then candidateClose g (bump cJrnOwnFrame 0 s)
      else if c.verdict != some .okNew && c.verdict != some .okEqual then candidateClose g s
      else match (if s.leads then none else mirroredMatch s c f) with
        | some x => matchCand g f x s
        | none =>
          if (markOf s f.source).any fun m => decide (c.counter ≤ m) then
            (if markOf s f.source = some c.counter then
              match duplicateOf s c f with
              | some e => duplicate g c f e s
              | none => candidateClose g (bump cKeyReplay 0 s)
            else candidateClose g (bump cKeyReplay 0 s))
          else if piecePart s f then candidateClose g s
          else if nodeBusy g f.source s then s
          else lastChecks g c f s

/-- The candidates of node `e` that wait in CHECK repeat the checks, in the order in which they reached it (R299, R307). -/
def recheck (e : Eui) (s : State) : State :=
  ((s.jrn.cands.filter fun x => x.2.state == .check && x.2.frame.any fun f => f.source == e).mergeSort
    fun a b => decide (a.2.order ≤ b.2.order)).foldl (fun s x => runChecks x.1 s) s

/-- CANDIDATE_VERDICTS: with the frame-end event and the vault's verdict in hand, the candidate enters CHECK (R299, R300). -/
def execCandidateVerdicts (t : Time) (g : Nat) (f : FrameInfo) (s : State) : Outcome State Fault Refusal :=
  onInst (g < 4096) <|
    let s := s.arrive t
    if !s.slotUp then straitHold 1 g (some g) (.candidateVerdicts t g f) s
    else match s.cand g with
    | none => s
    | some c =>
      if c.state != .open || c.endEvent.isNone || c.verdict.isNone then s
      else runChecks g (modCand g (fun c => { c with state := .check, frame := some f, order := s.jrn.order + 1 })
        { s with jrn.order := s.jrn.order + 1 })

/-! ### Staging and deciding (R299, R301, R302, R308) -/

/-- The entry header of a candidate's frame under JSN `j` (R312). -/
def hdrOf (s : State) (c : Cand) (f : FrameInfo) (j : Nat) : EntryHdr :=
  let top := f.ports.foldl (fun b p => match b with
    | none => some p
    | some q => if q.2 < p.2 then some p else some q) (none : Option (Nat × Int))
  { jsn := j, kind := 1, node := f.source, counter := c.counter, digest := f.digest, ackReq := c.ackReq, rerun := c.rerun,
    length := f.length, endTime := c.endTime, asn := f.asn, port := (top.map fun p => p.1).getD 0, mode := c.mode,
    members := f.ports.length, level := (top.map fun p => p.2).getD 0, snr := f.snr, epoch := s.pair.epoch, dsn := 0, outcome := 0,
    cause := 0 }

/-- Candidate `g` with entry `j` is DECIDED: the entry becomes ACCEPTED, or OWED with its template armed, and waiting candidates of the
node are checked again (R299, R308). -/
def decide' (g j : Nat) (c : Cand) (s : State) : State :=
  let s1 : State := { s with jrn.cands := adel s.jrn.cands g }
  let s2 :=
    if c.ackReq then
      { (modEntry j (fun e => { e with state := .owed, group := g, leave := c.leave.getD 0, deadline := c.deadline.getD 0 }) s1) with
        txm.acks := amod s1.txm.acks g fun a => { a with armed := true } }
    else groupSettle g (acceptEntry j s1)
  match c.frame with
  | some f => recheck f.source s2
  | none => s2

/-- A candidate's deadline has passed before STAGE (R255, R303). The late flag goes with the frame-end event of a frame that is still to be
decoded by a re-run (R180). -/
def candLate (g : Nat) (c : Cand) (s : State) : State :=
  let s0 : State := bump cSchAckLate 0 (bump cJrnLate 0 s)
  let s1 := candidateClose g (if c.endEvent.isNone then s0.modGroup g fun x => { x with late := true } else s0)
  let s2 := if c.rerun then bump cLaneRerunLate 0 (s1.out (.lateFlag g)) else s1
  match c.frame with
  | some f => recheck f.source s2
  | none => s2

/-- A staging buffer lacks room for the entry: the candidate is not accepted (R440). -/
def stageFull (g : Nat) (f : FrameInfo) (s : State) : State := recheck f.source (candidateClose g (bump cMemStageFull 0 s))

/-- The deadline of candidate `g` passes while its entry `j` waits for the partner: the entry becomes VOID (R255, R303, R308). -/
def mirrorLate (g j : Nat) (c : Cand) (s : State) : State :=
  let s1 := voidEntry j (modEntry j (fun e => { e with group := g }) { bump cSchAckLate 0 s with jrn.cands := adel s.jrn.cands g })
  match c.frame with
  | some f => recheck f.source s1
  | none => s1

/-- The commit of entry `j` has come, or its partner is lost: its candidate is DECIDED, unless its deadline has passed (R299, R303). On a chip that
has become a standby meanwhile the entry is ACCEPTED (R302). -/
def entryCommitted (j : Nat) (s : State) : State :=
  match s.jrn.cands.find? fun x => x.2.state == .mirror && x.2.jsn == j with
  | none => if (entryOf s j).any fun e => e.state == .staged && e.mirrored then acceptEntry j s else modEntry j (fun e => { e with waits := false }) s
  | some (g, c) =>
    if c.deadline.any fun d => decide (d < s.clock.now) then mirrorLate g j c s else decide' g j c s

/-- CANDIDATE_STAGED: the entry stands in the staging buffer of each channel in service with the next JSN, and the candidate becomes
DECIDED or, in a pair, MIRROR (R299, R301, R302). -/
def execCandidateStaged (t : Time) (g : Nat) (roomA roomB : Bool) (s : State) : Outcome State Fault Refusal :=
  onInst (g < 4096) <|
    let s := s.arrive t
    match s.cand g with
    | none => s
    | some c => match c.frame with
      | none => s
      | some f =>
        if c.state != .stage || !s.leads || !s.slotUp then s
        else if c.deadline.any fun d => decide (d < s.clock.now) then candLate g c s
        else if (s.msys.chA.ok && !roomA) || (s.msys.chB.ok && !roomB) then stageFull g f s
        else
          let (j, s1) := takeJsn s
          let h := hdrOf s c f j
          let s2 : State := { s1 with jrn.entries := s1.jrn.entries ++
            [{ hdr := h, state := .staged, group := g, leave := c.leave.getD 0, deadline := c.deadline.getD 0,
               frame := some f }] }
          let s3 := mirror (.entry g h) (some (.entry j)) s2
          if s.commits then modCand g (fun c => { c with state := .mirror, jsn := j }) s3
          else decide' g j { c with jsn := j } s3

/-- CANDIDATE_DEADLINE: the deadline of group `g` passes before DECIDED, or with its frame not yet protected (R255, R303). -/
def execCandidateDeadline (t : Time) (g : Nat) (s : State) : Outcome State Fault Refusal :=
  onInst (g < 8192) <|
    let s := s.arrive t
    if !s.slotUp then s
    else match s.cand g with
      | some c =>
        if !(c.deadline.any fun d => decide (d ≤ s.clock.now)) || !s.leads then s
        else match c.state with
          | .mirror => mirrorLate g c.jsn c s
          | .held => s
          | _ => candLate g c s
      | none => match afind s.txm.acks g with
        | none => s
        | some a =>
          if decide (a.deadline ≤ s.clock.now) && (bookingOf s a.booking).any fun b => !b.ready then
            let s1 := bump cSchAckLate 0 (dropAck g s)
            groupSettle g ((s1.jrn.entries.filter fun e => e.group == g && e.state == .owed && !e.mirrored).foldl
              (fun s e => voidEntry e.hdr.jsn s) s1)
          else s

/-- OWED_RELEASE_MISSED: no report of leaving has come by leave_time plus 1 µs (R308). -/
def execOwedReleaseMissed (t : Time) (j : Nat) (s : State) : Outcome State Fault Refusal :=
  onInst true <|
    let s := s.arrive t
    match entryOf s j with
    | some e => if e.state == .owed && !e.mirrored && s.slotUp && decide (e.leave + us 1 ≤ s.clock.now) then voidEntry j s else s
    | none => s

/-- STANDBY_CANDIDATE_TIMEOUT: a held candidate's deadline passes, or 2 ms after its frame-end event where it requests no
acknowledgement (R311). -/
def execStandbyCandidateTimeout (t : Time) (g : Nat) (s : State) : Outcome State Fault Refusal :=
  onInst (g < 4096) <|
    let s := s.arrive t
    match s.cand g with
    | none => s
    | some c =>
      let due := if c.ackReq then c.deadline else c.endEvent.map fun e => e + ms 2
      if c.state == .held && !s.leads && s.slotUp && due.any (fun d => decide (d ≤ s.clock.now)) then
        candidateClose g (bump cJrnStandbyDrop 0 s)
      else s

/-- STANDBY_OWED_ASSUME: a standby takes a mirrored OWED entry as ACCEPTED once no VOID can come any more (R302). -/
def execStandbyOwedAssume (t : Time) (j : Nat) (s : State) : Outcome State Fault Refusal :=
  onInst true <|
    let s := s.arrive t
    match entryOf s j with
    | some e =>
      if e.state == .owed && e.mirrored && !s.leads && s.slotUp && decide (e.leave + us 1 + partnerTimeout s ≤ s.clock.now) then
        acceptEntry j s
      else s
    | none => s

/-- DEDUP_EXPIRE: entries of the deduplication cache reach DEDUP_AGE (R304). -/
def execDedupExpire (t : Time) (s : State) : Outcome State Fault Refusal :=
  onInst true <|
    let s := s.arrive t
    if s.slotUp then
      { s with jrn.dedup := s.jrn.dedup.filter fun d => decide (s.clock.now < d.since + sec (s.fld rJrnCtrl 0 10)) }
    else s

/-! ### What a lost partner and a take bring about (R18, R299, R309, R311) -/

/-- The partner is lost: every entry that waited for its commit stands as a solo commit, and changes that waited are released (R18,
R299, R310). -/
def soloCommits (s : State) : State :=
  let s1 := (s.jrn.cands.filter fun x => x.2.state == .mirror).foldl (fun s x => entryCommitted x.2.jsn s) s
  { s1 with jrn.entries := s1.jrn.entries.map fun e => { e with waits := false } }

/-- A standby's candidate books its acknowledgement on the new active. -/
def bookShadow (g : Nat) (c : Cand) (s : State) : State :=
  if c.ackReq then
    match s.groupOf g with
    | some y => (match y.summary with
      | some sm => candBook g y sm s
      | none => s)
    | none => s
  else s

/-- A held candidate of a new active: one whose node's mark has passed it closes; an orphan's own mark does not count against it (R307,
R311, R382). -/
def promote (orphan : Bool) (g : Nat) (s : State) : State := match s.cand g with
  | none => s
  | some c => match c.frame with
    | none => s
    | some f =>
      if orphan ∧ markOf s f.source = some c.counter ∧ c.verdict = some .okNew ∧ duplicateOf s c f = none then
        (if nodeBusy g f.source s then modCand g (fun c => { c with state := .check }) s else lastChecks g c f s)
      else runChecks g (modCand g (fun c => { c with state := .check }) s)

/-- The held candidates of a new active become live: each books its acknowledgement and goes on to STAGE; those still open book theirs
(R311). -/
def goLive (orphan : Bool) (s : State) : State :=
  let held := (s.jrn.cands.filter fun x => x.2.state == .held).mergeSort fun a b => decide (a.2.order ≤ b.2.order)
  let s1 := (s.jrn.cands.filter fun x => x.2.state == .open).foldl (fun s x => bookShadow x.1 x.2 s) s
  held.foldl (fun s x => promote orphan x.1 (bookShadow x.1 x.2 s)) s1

end Sys2Proof.Machine
end

