-- ==== Sys2Proof/Machine/QuayOps.lean ====
section
/-! DEFINITION. The storage of the quays and the hardware producers' way into it (15_engines_memory_quays.md, R443 to R447). -/

namespace Sys2Proof.Machine

open Host

/-- Quay `q`. -/
def State.quay (s : State) (q : Nat) : Quay := (afind s.msys.quays q).getD {}

/-- The producer and consumer number of an agent (R443). -/
def agentCode : Agent → Option Nat
  | .engine e => if e < 12 then some e else none
  | .dma c => if c < 8 then some (16 + c) else none
  | .hardware => some 31
  | _ => none

/-- Agent `a` produces for quay `q`. -/
def produces (s : State) (a : Agent) (q : Nat) : Bool := agentCode a == some (s.fldAt rQuayCfg q 24 5)

/-- Agent `a` consumes from quay `q`. -/
def consumes (s : State) (a : Agent) (q : Nat) : Bool := agentCode a == some (s.fldAt rQuayCfg2 q 17 5)

/-- The read words that an item of `n` octets needs (R444). -/
def readWordsOf (n : Nat) : Nat := (n + 31) / 32

/-- The read words that quay `q` holds: those of complete items that the consumer has not taken, and those begun of the open item. -/
def Quay.words (k : Quay) : Nat :=
  k.items.foldl (fun n i => n + i.readWords) 0 - k.read + (match k.opened with
    | some o => if o.dropped then 0 else o.readWords
    | none => 0)

/-- Replace quay `q` by `k` and evaluate its watermark (R447). -/
def setQuay (q : Nat) (k : Quay) (s : State) : State :=
  { s with msys.quays := aput s.msys.quays q { k with wm := k.wm.step (decide (s.fldAt rQuayCfg2 q 0 17 < k.words)) } }

/-- The producer breaks the claim rule: its item is marked dropped, and its credits return (R445). -/
def protocolErr (q : Nat) (s : State) : State :=
  dropped 21 q cQuayProtocolErr.code 1 (bump cQuayProtocolErr q (setQuay q { s.quay q with
    claim := 0
    opened := some ⟨[], 0, false, true⟩ } s))

/-- A claim for an item of `n` octets: whether it is granted, and the state after it (R444, R445). -/
def claimQuay (q n : Nat) (s : State) : Bool × State :=
  let k := s.quay q
  if k.opened.isSome then (false, protocolErr q s)
  else if n = 0 ∨ 16384 < n ∨ quayCap s q < quayUsed s q - k.claim + readWordsOf n then (false, bump cQuayClaimRefuse q s)
  else (true, setQuay q { k with claim := readWordsOf n } s)

/-- One word of `n` valid octets enters the open item of quay `q`; `last` ends the item (R444 to R446). -/
def putWord (q : Nat) (w : Word) (n : Nat) (parityGood last : Bool) (s : State) : State :=
  let k := s.quay q
  let o := k.opened.getD ⟨[], 0, false, false⟩
  let overrun := !o.dropped && decide (k.claim * 8 < o.words.length + 1)
  let s0 := if parityGood then s else bump cQuayParity q s
  let s1 := if overrun then protocolErr q s0 else s0
  if o.dropped || overrun then (if last then setQuay q { s1.quay q with opened := none } s1 else s1)
  else
    let v := if n < 4 then BitVec.ofNat 32 (w.toNat % 2 ^ (8 * n)) else w
    let o1 : QItem := { o with
      words := o.words ++ [v]
      octets := o.octets + n
      poison := o.poison || !parityGood }
    if last then setQuay q { k with
      items := k.items ++ [o1]
      claim := 0
      opened := none } s1
    else setQuay q { k with opened := some o1 } s1

/-- The words of an item, the last with the octets that remain. -/
def putWords (q : Nat) : List Word → Nat → State → State
  | [], _, s => s
  | [w], n, s => putWord q w n true true s
  | w :: r, n, s => putWords q r n (putWord q w 4 true false s)

/-- A hardware subsystem puts a whole item of `n` octets into quay `q`, if it is the quay's producer and the claim is granted (R443,
R445). -/
def hardwareItem (q : Nat) (ws : List Word) (n : Nat) (s : State) : Bool × State :=
  if !s.packetUp then (false, s)
  else if !produces s .hardware q then (false, bump cQuayWrongProducer q s)
  else match claimQuay q n s with
    | (true, s1) => (true, putWords q ws (if n % 4 = 0 then 4 else n % 4) s1)
    | (false, s1) => (false, s1)

/-- The consumer begins the item at the head: a poisoned one is counted as delivered (R446). -/
def beginItem (q : Nat) (i : QItem) (s : State) : State := if i.poison && !(s.quay q).begun then bump cQuayPoisonItems q s else s

/-- A hardware subsystem takes the item at the head of quay `q`, if it is the quay's consumer: its words, none of an item that is poisoned, which it
drops itself (R443, R446). -/
def hardwareTake (q : Nat) (s : State) : Option (List Word) × State :=
  if !(s.packetUp && consumes s .hardware q) then (none, s)
  else match (s.quay q).items with
    | [] => (none, s)
    | i :: r => (if i.poison then none else some i.words, setQuay q { s.quay q with items := r, read := 0, begun := false } (beginItem q i s))

end Sys2Proof.Machine
end

