-- ==== Sys2Proof/Machine/Calibration.lean ====
section
/-! DEFINITION. The meanings of the calibration commands (08_calibration.md). Fractions are rounded to the nearest unit, halves
upward. -/

namespace Sys2Proof.Machine

open Host

/-! ### Arithmetic -/

/-- `a / b` rounded to the nearest integer, halves upward. -/
def rdiv (a : Int) (b : Nat) : Int := if b = 0 then 0 else (2 * a + b) / (2 * b)

/-- `x` kept between `-m` and `m`. -/
def clampTo (m : Nat) (x : Int) : Int := max (0 - (m : Int)) (min m x)

/-- `v` moved 1/`w` of the way to `x`. -/
def ewma (w : Nat) (v x : Int) : Int := v + rdiv (x - v) w

/-- The median of a batch: of an even count, the mean of the middle two. -/
def medianOf (l : List Int) : Int :=
  let m := l.mergeSort fun a b => decide (a ≤ b)
  let n := m.length
  if n = 0 then 0
  else if n % 2 = 1 then m.getD (n / 2) 0 else rdiv (m.getD (n / 2 - 1) 0 + m.getD (n / 2) 0) 2

/-- The mean of a list, 0 of an empty one. -/
def meanOf (l : List Int) : Int := rdiv (l.foldl (fun a b => a + b) 0) l.length

/-- CAL_HEAD_CTRL.ENABLE: estimates are kept for head `h`. -/
def calEnabled (s : State) (h : Nat) : Bool := s.fldAt rCalHeadCtrl h 0 1 == 1

/-! ### Head estimates from snippets (R213 to R216, R225, R226) -/

/-- The heads in service. -/
def headsInService (s : State) : List Nat := (s.cal.heads.filter fun x => x.2.entered || decide (32 ≤ x.1)).map fun x => x.1

/-- Without a head whose LO is held at 0, the mean LO over all heads in service is held at 0 (R216). -/
def loLevel (s : State) : State :=
  let hs := headsInService s
  if hs.any fun h => s.fldAt rCalHeadCtrl h 2 1 == 1 then s
  else
    let m := meanOf (hs.map fun h => (s.headCal h).cand.lo)
    hs.foldl (fun s h => s.modCal h fun c => { c with cand := { c.cand with lo := c.cand.lo - m } }) s

/-- The mean of TX_GAIN over the set is held at 0 (R225). -/
def txGainLevel (s : State) : State :=
  let hs := headsInService s
  let m := meanOf (hs.map fun h => (s.headCal h).txCand.gain)
  hs.foldl (fun s h => s.modCal h fun c => { c with txCand := { c.txCand with gain := c.txCand.gain - m } }) s

/-- An observation lies more than 4 median absolute deviations from its batch (R214). A batch of fewer than 8 observations judges none: the
log's choice. -/
def outlierIn (l : List Int) (v : Int) : Bool :=
  let m := medianOf l
  decide (8 ≤ l.length) && decide (4 * medianOf (l.map fun x => ((x - m).natAbs : Int)) < ((v - m).natAbs : Int))

/-- An observation of head `h`'s LO joins its batch, unless it is an outlier; 64 close it (R214, R215). -/
def loObserve (h : Nat) (node : Nat) (v : Int) (s : State) : State :=
  let c := s.headCal h
  if outlierIn (c.batches.lo.map fun x => x.2) v then bump cCalSnippetOutlier 0 s
  else if 4 ≤ (c.batches.lo.filter fun x => x.1 == node).length then s
  else
    let l := c.batches.lo ++ [(node, v)]
    if l.length < 64 then s.modCal h fun c => { c with batches := { c.batches with lo := l } }
    else
      let m := medianOf (l.map fun x => x.2)
      loLevel (s.modCal h fun c => { c with
        batches := { c.batches with lo := [] },
        cand := { c.cand with lo := if s.fldAt rCalHeadCtrl h 2 1 = 1 then 0 else clampTo 1000000 (ewma 4 c.cand.lo m) } })

/-- The distance from phase `b` to phase `a` round the circle, from −2,048 to 2,047. -/
def phaseGap (a b : Int) : Int := ((a - b + 2048) % 4096) - 2048

/-- An observation of APHASE[k] of head `h` joins its batch, unless it is an outlier (R214, R215). Phases are judged as they lie round the
batch's first. -/
def aphaseObserve (h k node : Nat) (v : Int) (s : State) : State :=
  let c := s.headCal h
  let mine0 := (c.batches.aphase.filter fun x => x.2.1 == k).map fun x => x.2.2
  let near (x : Int) : Int := phaseGap x (mine0.headD v)
  if outlierIn (mine0.map near) (near v) then bump cCalSnippetOutlier 0 s
  else if 4 ≤ (c.batches.aphase.filter fun x => x.1 == node && x.2.1 == k).length then s
  else
    let l := c.batches.aphase ++ [(node, k, v)]
    let mine := l.filter fun x => x.2.1 == k
    if mine.length < 64 then s.modCal h fun c => { c with batches := { c.batches with aphase := l } }
    else
      let m := Config.circularMean (mine.map fun x => x.2.2)
      s.modCal h fun c =>
        let old := sget (fun _ => 0) c.cand.aphase k
        { c with batches := { c.batches with aphase := l.filter fun x => x.2.1 != k },
                 cand := { c.cand with aphase := sset (fun _ => 0) c.cand.aphase k ((old + rdiv (phaseGap m old) 4) % 4096) } }

/-- The phases of two paths of head `h` in snippets of one lane group, whose first symbols lie at most GROUP_WINDOW apart, give APHASE of the
path other than 0 (R170, R215). -/
def pathPhase (x : PathPhase) (s : State) : State :=
  let mates := s.cal.phases.filter fun y => y.head == x.head && y.group == x.group && y.node == x.node &&
    decide (max x.time y.time - min x.time y.time ≤ us (s.fld rLaneCtrl 8 8))
  let s1 : State := { s with cal.phases := (x :: s.cal.phases).take 64 }
  if x.path = 0 then mates.foldl (fun s y => if y.path = 0 then s else aphaseObserve x.head y.path x.node (y.phase - x.phase) s) s1
  else match mates.find? fun y => y.path == 0 with
    | some y => aphaseObserve x.head x.path x.node (x.phase - y.phase) s1
    | none => s1

/-- A value joins a batch of transmit observations unless it is an outlier of it (R214). -/
def txJoin (l : List Int) (v : Option Int) : List Int × Nat := match v with
  | some x => if outlierIn l x then (l, 1) else (l ++ [x], 0)
  | none => (l, 0)

/-- A batch of transmit observations of head `h` takes one more (R214, R225). -/
def txObserve (h : Nat) (lo gain : Option Int) (s : State) : State :=
  let c := s.headCal h
  let jl := txJoin c.batches.txLo lo
  let jg := txJoin c.batches.txGain gain
  let ls := jl.1
  let gs := jg.1
  let s1 := bumpBy cCalSnippetOutlier 0 (jl.2 + jg.2) (s.modCal h fun c =>
    { c with
      batches := { c.batches with txLo := if 64 ≤ ls.length then [] else ls, txGain := if 64 ≤ gs.length then [] else gs },
      txCand := { c.txCand with
        lo := if 64 ≤ ls.length then clampTo 1000000 (ewma 4 c.txCand.lo (medianOf ls)) else c.txCand.lo,
        gain := if 64 ≤ gs.length then clampTo 400 (ewma 4 c.txCand.gain (medianOf gs)) else c.txCand.gain } })
  if 64 ≤ gs.length then txGainLevel s1 else s1

/-- A frequency in Hz as a fraction of a carrier in 0.1 ppb. -/
def inTenthPpb (f : Int) (carrier : Nat) : Int := rdiv (f * 10000000000) carrier

/-- A site of CAL_SITE in 0.1 m: east, north, up; none for an entry of all ones (R218). -/
def siteOf (s : State) (h : Nat) : Option (Int × Int × Int) :=
  let e := s.entry tCalSite h
  if e = 2 ^ 96 - 1 then none
  else some (toSigned 32 (octetField 12 e 0 0 32), toSigned 32 (octetField 12 e 4 0 32), toSigned 32 (octetField 12 e 8 0 32))

/-- The air path between two sites in 1/16 ns: their distance at the speed of light, 299,792,458 m/s, rounded down (R219). -/
def airPath (a b : Int × Int × Int) : Nat :=
  let q (x : Int) : Nat := x.natAbs * x.natAbs
  Nat.sqrt ((q (a.1 - b.1) + q (a.2.1 - b.2.1) + q (a.2.2 - b.2.2)) * 10000000000) * 16000 / 299792458

/-- The air path between the antennas of two heads, 0 where one has no surveyed site (R218, R219). -/
def airBetween (s : State) (i j : Nat) : Nat := match siteOf s i, siteOf s j with
  | some a, some b => airPath a b
  | _, _ => 0

/-- The carrier of a snippet in Hz (R151). -/
def snippetCarrier (s : State) (x : SnippetHdr) : Int := carrier s { stream := x.stream, bin := x.bin, slot := 0, metric := 0, level := 0, freq := x.freq, time := 0 }

/-- A logged transmission of head `i`, another head than the snippet's, that the snippet matches (R226): its carrier within a quarter channel
width, its first symbol within ALIGN_TOL and the air path of where the transmission's lies. -/
def loopMatch (s : State) (x : SnippetHdr) (first : Int) (i : Nat) : Option TxLogged :=
  if i = x.head then none
  else (s.headCal i).txLog.find? fun l =>
    let c := channelOf s l.channel
    decide (4 * (snippetCarrier s x - c.centre).natAbs ≤ c.width) &&
      decide ((first - ((l.start + l.ref + airBetween s i x.head : Nat) : Int)).natAbs ≤ alignTol s)

/-- The first head with a matching transmission. -/
def loopFrom (s : State) (x : SnippetHdr) (first : Int) : Option (Nat × TxLogged) :=
  (List.range 36).findSome? fun i => (loopMatch s x first i).map fun l => (i, l)

/-- d(i, j) of a loopback (R219) without the air path, as if both residuals in force were 0: the residuals of the generations that transmitted
and heard it are added back (R213). -/
def delaySeen (s : State) (i j : Nat) (l : TxLogged) (first : Int) (set : RxSet) : Int :=
  let ci := s.headCal i
  let tx := if ci.txGen = l.txGen then ci.tx.dly else ci.txWas.dly
  first - ((l.start + l.ref + airBetween s i j : Nat) : Int) + (set.dly - (s.headCal j).baseRx) + (tx - ci.baseTx)

/-- A loopback from head `i` heard by head `j` (R219, R225, R226, R233): TX_LO; once both directions have been heard, TX_GAIN; and one d(i, j).
What a standby hears of the active's transmissions makes its own values inherited. -/
def loopback (i : Nat) (l : TxLogged) (h : SnippetHdr) (first : Int) (x : Snippet) (set : RxSet) (s : State) : State :=
  let j := h.head
  let lvl := x.levelObs + set.gain
  let k := i * 64 + j
  let sum := (afind s.cal.pairs k).getD (0, 0)
  let s1 : State := { s with cal.levels := aput s.cal.levels k lvl, cal.pairs := aput s.cal.pairs k (sum.1 + delaySeen s i j l first set, sum.2 + 1) }
  let lo := inTenthPpb x.freqObs (snippetCarrier s h).toNat + set.lo - (s.headCal j).cand.lo
  let gain := (afind s.cal.levels (j * 64 + i)).map fun back =>
    (lvl - back) + ((s.headCal j).txCand.gain - (s.headCal j).rx.gain) + (s.headCal i).rx.gain
  let s2 := s1.modCal i fun c => { c with inherited := c.inherited || !s.leads, ownHeard := s.leads }
  txObserve i (some lo) gain s2

/-! ### Node estimates (R216, R229 to R231) -/

/-- R230: the calibration field after a frame heard at ASN `asn` with TIMING `timing`, in a mode of timing resolution `res` ns. -/
def nodeDrift (s : State) (asn : Nat) (timing : Int) (acked : Bool) (res : Nat) (f : CalField) : CalField :=
  let dt := (asn + 2 ^ 32 - f.lastAsn) % 2 ^ 32 * (s.slotLen / us 1)
  let base : CalField := { f with timing := clampTo 32767 timing, lastAsn := asn % 2 ^ 32, acked := acked }
  if dt < 1000000 then base
  else
    let num := (if f.acked then timing else timing - f.timing) * 1024000000
    let drift := if f.fresh = 0 then rdiv num dt else rdiv (3 * f.drift * dt + num) (4 * dt)
    let sigma := if f.fresh = 0 then (f.sigma : Int)
      else max (max 1 (res * 1024000 / dt) : Nat) (rdiv (3 * f.sigma * dt + (num - f.drift * dt).natAbs) (4 * dt))
    { base with drift := clampTo 32767 drift, sigma := min 65535 sigma.toNat, fresh := min 255 (f.fresh + 1) }

/-- The node's field after a snippet: carrier, drift with TIMING from the cell that the frame belongs to (R229, R248), and path loss from the
home port of an acknowledged frame. -/
def nodeEstimate (h : SnippetHdr) (x : Snippet) (set : RxSet) (s : State) : State := match s.indexOf x.node with
  | none => s
  | some i =>
    let c := s.headCal h.head
    let obs := inTenthPpb x.freqObs (snippetCarrier s h).toNat + set.lo - c.cand.lo
    let l := aput ((afind s.cal.carriers x.node.toNat).getD []) h.head obs
    let s1 : State := { s with cal.carriers := aput s.cal.carriers x.node.toNat l }
    s1.modNode i fun n =>
      let f := nodeDrift s (s.asnAt x.start) (0 - correctionOf s x.start) x.acked (Config.timingResolution h.mode) n.cal
      let f1 : CalField := { f with carrier := rdiv (meanOf (l.map fun y => y.2) * 64) 625 }
      { n with cal := if x.acked && !n.unhomed && n.homePort == h.head then
          { f1 with pathLoss := (max 0 (n.txPower * 4 - rdiv x.levelObs 5)).toNat % 65536 } else f1 }

/-- The node helps to estimate head `h`'s LO: it is heard by more than one head, or its carrier has rested on three others (R216). -/
def helpsLo (s : State) (h : Nat) (node : Eui) : Bool :=
  let others := ((afind s.cal.carriers node.toNat).getD []).filter fun y => y.1 != h
  decide (3 ≤ others.length) || ((s.nodeOf node).any fun y => decide (2 ≤ y.2.heard.length) && !others.isEmpty)

/-- One snippet with its header `h`, taken under set `set` (R213 to R216, R219, R225, R226, R229 to R231, R233). -/
def useSnippet (h : SnippetHdr) (x : Snippet) (set : RxSet) (s : State) : State :=
  let first : Int := (h.first : Int) + x.timeObs
  if x.own then
    match loopFrom s h first with
    | none => bump cCalLoopbackUnmatched 0 s
    | some (i, l) => loopback i l h first x set (bump cCalSnippets 0 (bump cCalLoopbackMatch 0 s))
  else
    let s1 := nodeEstimate h x set (bump cCalSnippets 0 s)
    if x.snr < 24 || !calEnabled s h.head then s1
    else
      let seen := (afind s1.cal.carriers x.node.toNat).getD []
      let s2 := if helpsLo s h.head x.node then
          loObserve h.head x.node.toNat
            (inTenthPpb x.freqObs (snippetCarrier s h).toNat + set.lo - meanOf (seen.map fun y => y.2)) s1
        else s1
      if 32 ≤ h.head then s2
      else pathPhase ⟨h.head, h.group, h.path, h.first, x.node.toNat, x.phaseObs + sget (fun _ => 0) set.aphase h.path⟩ s2

/-- CAL_SNIPPET: the engine takes the snippet at the head of quay LANE_CTRL.SNIPPET_QUAY (R183, R212), drops one of a re-run or of a
generation whose values it no longer keeps, and uses any other with what the fit finds in it. -/
def execCalSnippet (t : Time) (x : Snippet) (s : State) : Outcome State Fault Refusal :=
  onInst true <|
    let s := s.arrive t
    if !s.sampleUp then straitHold 13 0 none (.calSnippet t x) s
    else match hardwareTake (s.fld rLaneCtrl 16 6) s with
      | (none, s1) => s1
      | (some ws, s1) =>
        let h := snippetRead ws
        if h.rerun then bump cCalSnippetRerun 0 s1
        else match rxSetOf (s1.headCal h.head) h.gen with
          | none => bump cCalSnippetStale 0 s1
          | some set => useSnippet h x set s1

/-! ### Estimates from the stream (R215, R217) -/

/-- IQ_GAIN of a block in 0.01 dB: the real part of E[z²] against E[|z|²] is the ratio of the powers of I and Q (R215). -/
def iqGainOf (b : BlockSums) : Int := dbSteps 1000 b.ii.toNat b.qq.toNat

/-- CAL_STREAM_BLOCK: DC and IQ of one block of 2^20 samples; a block without a valid sample changes nothing (R215). `saturated` gives, by
stream, the bank samples of the block that saturated (R133), and `clipped` the full-scale samples of the port's ADC in it (R112). -/
def execCalStreamBlock (t : Time) (h : Nat) (b : BlockSums) (saturated : List (Nat × Nat)) (clipped : Nat) (s : State) :
    Outcome State Fault Refusal :=
  onInst (h < 36) <|
    let s0 := s.arrive t
    let s1 := if s0.sampleUp then (saturated.filter fun x => decide (x.1 < 128) && streamHead s0 x.1 == some h).foldl
        (fun s x => bumpBy cChnSat x.1 x.2 s) s0 else s0
    let s := if s0.sampleUp && decide (32 ≤ h) then bumpBy cAnaAdcClip (h - 32) clipped s1 else s1
    if b.count = 0 || !(s.sampleUp && calEnabled s h) then s
    else
      let mean (x : Int) : Int := rdiv x b.count
      s.modCal h fun c => { c with cand := { c.cand with
        dcI := clampTo 4096 (ewma 8 c.cand.dcI (mean b.i)), dcQ := clampTo 4096 (ewma 8 c.cand.dcQ (mean b.q)),
        iqGain := clampTo 300 (ewma 16 c.cand.iqGain (iqGainOf b)),
        iqPhase := clampTo 1000 (ewma 16 c.cand.iqPhase (Config.iqPhaseOf (mean b.iq) (mean b.ii) (mean b.qq))) } }

/-- A bin floor in 0.05 dBFS: full scale is a power of 2^30 (R148, R215). -/
def floorLevel (f : Nat) : Int := dbSteps 200 f (2 ^ 46)

/-- The median of the bin floors of head `h`'s valid streams in 0.05 dBFS, as measured under the gain in force (R215). -/
def floorMedian (s : State) (h : Nat) : Int :=
  medianOf ((validStreams s h).flatMap fun st => (List.range 128).map fun b => floorLevel (s.floor st b))

/-- CAL_GAIN_UPDATE: each second RX_GAIN moves towards the gain that sets the median bin floor to NOISE_REF; a head without a valid stream
keeps it (R215, R217). -/
def execCalGainUpdate (t : Time) (h : Nat) (s : State) : Outcome State Fault Refusal :=
  onInst (h < 36) <|
    let s := s.arrive t
    let median := floorMedian s h
    if !(s.sampleUp && calEnabled s h) || (validStreams s h).isEmpty then s
    else s.modCal h fun c => { c with cand := { c.cand with
      gain := clampTo 400 (ewma 8 c.cand.gain (c.rx.gain + 5 * s.signedAt rCalNoise 0 0 16 - median)) } }

/-! ### The delay solution (R218, R219, R224, R234) -/

/-- The least-squares slope of (time, delay) points in 0.1 ppb (R215). -/
def slopeOf (l : List (Time × Int)) : Int :=
  let t0 : Int := (l.map fun x => (x.1 : Int)).foldl min ((l.headD (0, 0)).1 : Int)
  let n : Int := l.length
  let sx := l.foldl (fun a x => a + ((x.1 : Int) - t0)) 0
  let sy := l.foldl (fun a x => a + x.2) 0
  let sxx := l.foldl (fun a x => a + ((x.1 : Int) - t0) * ((x.1 : Int) - t0)) 0
  let sxy := l.foldl (fun a x => a + ((x.1 : Int) - t0) * x.2) 0
  let d := n * sxx - sx * sx
  if d ≤ 0 then 0 else rdiv ((n * sxy - sx * sy) * 10000000000) d.toNat

/-- An accepted solution that includes head `h` (R215, R219, R224, R225, R234). -/
def solveHead (h : Nat) (rx tx : Int) (s : State) : State :=
  let tol := alignTol s
  let leads := s.leads
  s.modCal h fun c =>
    let dly := c.baseRx + rx
    let far := match c.alignedDly with
      | some d => decide (tol ≤ (dly - d).natAbs)
      | none => true
    let sl := ((s.clock.now, dly) :: c.slopes).take 16
    let c1 : HeadCal := { c with
      agree := if !far then 0 else if (dly - c.cand.dly).natAbs < tol then min 4 (c.agree + 1) else 1,
      cand := { c.cand with dly := dly, sco := if h < 32 then clampTo 1000000 (slopeOf sl) else 0 },
      txCand := { c.txCand with dly := c.baseTx + tx }, slopes := sl,
      inherited := c.inherited && !(leads && c.ownHeard) }
    if c.awaitSol then { c1 with aligned := true, awaitSol := false, alignedDly := some c.rx.dly } else c1

/-- A row of a linear system divided by the greatest common divisor of its numbers. -/
def reduceRow (r : List Int) : List Int :=
  let g := r.foldl (fun g x => Nat.gcd g x.natAbs) 0
  if g ≤ 1 then r else r.map fun x => x / g

/-- Row `r` with its number in column `c` made 0 by the pivot row `p`. -/
def clearColumn (c : Nat) (p r : List Int) : List Int :=
  let a := p.getD c 0
  let b := r.getD c 0
  if b = 0 then r else reduceRow ((r.zip p).map fun x => a * x.1 - b * x.2)

/-- Gauss and Jordan: the pivot rows of the columns, each with its column, from the rows not yet used and those used. -/
def eliminate : List Nat → List (Nat × List Int) → List (List Int) → List (Nat × List Int)
  | [], done, _ => done
  | c :: cs, done, rows => match rows.find? fun r => r.getD c 0 != 0 with
    | none => eliminate cs done rows
    | some p => eliminate cs ((c, p) :: done.map fun d => (d.1, clearColumn c p d.2))
        ((rows.erase p).map fun r => clearColumn c p r)

/-- The value of column `c` of a solved system whose last column, `n`, is the right side, to the nearest unit. -/
def solvedAt (n c : Nat) (l : List (Nat × List Int)) : Int := match afind l c with
  | none => 0
  | some r => let a := r.getD c 0
    if 0 ≤ a then rdiv (r.getD n 0) a.natAbs else rdiv (0 - r.getD n 0) a.natAbs

/-- The least-squares solution of tx_i + rx_j = d(i, j) over the heads `hs`, with the sum of tx equal to the sum of rx, as (head, rx, tx); and
the sum of the squares of its residuals (R219). -/
def solveSet (hs : List Nat) (d : List (Nat × Nat × Int)) : List (Nat × Int × Int) × Nat :=
  let n := hs.length
  let at' (h : Nat) : Nat := hs.idxOf h
  let eqs := d.map fun x => (at' x.1, n + at' x.2.1, x.2.2)
  let normal (k : Nat) : List Int :=
    let mine := eqs.filter fun e => e.1 == k || e.2.1 == k
    ((List.range (2 * n)).map fun c => ((mine.countP fun e => e.1 == c || e.2.1 == c : Nat) : Int)) ++
      [mine.foldl (fun a e => a + e.2.2) 0]
  let level : List Int := (List.range (2 * n + 1)).map fun c => if c < n then 1 else if c < 2 * n then -1 else 0
  let sol := eliminate (List.range (2 * n)) [] (level :: (List.range (2 * n)).map normal)
  let val (c : Nat) : Int := solvedAt (2 * n) c sol
  (hs.map fun h => (h, val (n + at' h), val (at' h)),
   eqs.foldl (fun a e => let r := e.2.2 - val e.1 - val e.2.1; a + r.natAbs * r.natAbs) 0)

/-- The mean d(i, j) of the pairs with at least 4 observations since the solution before, between heads with a surveyed site (R218, R219). -/
def delayMeans (s : State) : List (Nat × Nat × Int) :=
  (s.cal.pairs.filter fun x => decide (4 ≤ x.2.2) && (siteOf s (x.1 / 64)).isSome && (siteOf s (x.1 % 64)).isSome &&
    calEnabled s (x.1 / 64) && calEnabled s (x.1 % 64)).map fun x => (x.1 / 64, x.1 % 64, rdiv x.2.1 x.2.2)

/-- Two heads heard one another in both directions. -/
def heardBoth (d : List (Nat × Nat × Int)) (i j : Nat) : Bool :=
  (d.any fun x => x.1 == i && x.2.1 == j) && d.any fun x => x.1 == j && x.2.1 == i

/-- The heads that `hs` reaches through heads that heard one another, in `n` steps. -/
def heardGraph (d : List (Nat × Nat × Int)) : Nat → List Nat → List Nat
  | 0, hs => hs
  | n + 1, hs => heardGraph d n ((List.range 36).filter fun j => hs.contains j || hs.any fun i => heardBoth d i j)

/-- A set contains a triangle of heads that hear one another in both directions (R219). -/
def hasTriangle (d : List (Nat × Nat × Int)) (hs : List Nat) : Bool :=
  hs.any fun i => hs.any fun j => heardBoth d i j && hs.any fun k => heardBoth d j k && heardBoth d i k && i != k

/-- The connected sets over which the engine solves, each once (R219). Heads are connected when they heard one another in both directions: with a
one-way pair alone one of a head's two delays could not be found (the log's choice). -/
def solveSets (d : List (Nat × Nat × Int)) : List (List Nat) :=
  ((List.range 36).map fun h => heardGraph d 36 [h]).eraseDups.filter fun hs => decide (2 ≤ hs.length) && hasTriangle d hs

/-- One solution over the heads `hs` takes effect, unless its residuals exceed 4 ns RMS (R219). -/
def applySolution (d : List (Nat × Nat × Int)) (hs : List Nat) (s : State) : State :=
  let mine := d.filter fun x => hs.contains x.1 && hs.contains x.2.1
  let r := solveSet hs mine
  if 64 * 64 * mine.length < r.2 then bump cCalSolveFail 0 s
  else r.1.foldl (fun s v => solveHead v.1 v.2.1 v.2.2 s) s

/-- CAL_DELAY_SOLVE: every 10 s the engine solves tx and rx over each connected set (R219). -/
def execCalDelaySolve (t : Time) (s : State) : Outcome State Fault Refusal :=
  onInst true <|
    let s := s.arrive t
    if !s.sampleUp || s.cal.solvedAt.any (fun u => decide (s.clock.now < u + sec 10)) then s
    else
      let d := delayMeans s
      (solveSets d).foldl (fun s hs => applySolution d hs s) { s with cal.solvedAt := some s.clock.now, cal.pairs := [] }

/-! ### Generation requests (R221, R222, R225, R228) -/

/-- `a` and `b` differ by at least `d`. -/
def moved (a b : Int) (d : Nat) : Bool := decide (d ≤ (a - b).natAbs)

/-- A receive candidate differs from the value in force by its threshold (R215), or four solutions agree on a delay that moved by
ALIGN_TOL or more (R224). -/
def rxMoved (h : Nat) (c : HeadCal) : Bool :=
  moved c.cand.gain c.rx.gain 5 || moved c.cand.dcI c.rx.dcI 16 || moved c.cand.dcQ c.rx.dcQ 16 ||
  moved c.cand.iqGain c.rx.iqGain 5 || moved c.cand.iqPhase c.rx.iqPhase 30 || moved c.cand.lo c.rx.lo 50 ||
  moved c.cand.dly c.rx.dly 32 || (decide (4 ≤ c.agree) && !c.aligned) ||
  (decide (h < 32) && (moved c.cand.sco c.rx.sco 200 || (List.range 16).any fun k =>
    let d := ((sget (fun _ => 0) c.cand.aphase k - sget (fun _ => 0) c.rx.aphase k + 2048) % 4096) - 2048
    decide (8192 ≤ d.natAbs * 360)))

/-- A transmit candidate differs from the value in force by its threshold (R225). -/
def txMoved (c : HeadCal) : Bool :=
  moved c.txCand.gain c.tx.gain 5 || moved c.txCand.iqGain c.tx.iqGain 5 || moved c.txCand.iqPhase c.tx.iqPhase 30 ||
  moved c.txCand.lo c.tx.lo 50 || moved c.txCand.dly c.tx.dly 32

/-- GEN_MIN_INTERVAL has passed since the last change. -/
def genDue (s : State) (last : Option Time) : Bool := match last with
  | some t => decide (t + sec (s.fld rCalCtrl 0 8) ≤ s.clock.now)
  | none => true

/-- CAL_GEN_REQUEST: the engine asks for a new receive generation, or opens a new transmit generation, when a candidate has moved
far enough (R221, R222, R228). -/
def execCalGenRequest (t : Time) (h : Nat) (transmit : Bool) (s : State) : Outcome State Fault Refusal :=
  onInst (h < 36) <|
    let s := s.arrive t
    let c := s.headCal h
    if !(s.sampleUp && s.headUp h) then s
    else if transmit then
      if txMoved c && genDue s c.lastTx then calTxSwitch h s else s
    else if rxMoved h c && genDue s c.lastRx && !c.pending then s.modCal h fun c => { c with pending := true } else s

/-! ### Sweeps (R227) -/

/-- A sweep of head `h` is skipped and tried again after one hour. -/
def sweepSkip (h : Nat) (s : State) : State :=
  bump cCalSweepSkip 0 (freeClampOf 2 h (s.modCal h fun c => { c with sweeping := false, sweepAt := some (s.clock.now + sec 3600) }))

/-- The VALID channels that hold the sweep's carrier, TX_CENTRE + 4 MHz of the head's first stream (R227). -/
def sweepChannels (s : State) (h : Nat) : List Nat :=
  ((validChannels s).map fun x => x.1).filter fun c =>
    decide (2 * (txCentre s (2 * h) + 4000000 - (channelOf s c).centre).natAbs ≤ (channelOf s c).width)

/-- Stream `st` covers frequency `f`: it lies in one of its 128 bins (R132). -/
def coversHz (s : State) (st : Nat) (f : Int) : Bool := decide ((f - streamCentre s st).natAbs ≤ 10240000)

/-- Head `j` can measure a sweep of head `h`: one of its valid streams covers both the carrier and its mirror (R227). Every other head counts as a
neighbouring one: the log's choice. -/
def sweepHears (s : State) (h j : Nat) : Bool :=
  j != h && (validStreams s j).any fun st =>
    coversHz s st (txCentre s (2 * h) + 4000000) && coversHz s st (txCentre s (2 * h) - 4000000)

/-- The request for a sweep's carrier on channel `ch`: 2 ms, 20 dB below TX_REF, in the slot after the next, which is not yet booked
(R227). -/
def sweepReq (s : State) (h ch : Nat) : TxReq :=
  ⟨.sweep h, 2 * h, ch, s.slotStart (s.asnAt s.clock.now + 2) + us (s.fld rSchTiming 0 16), 2000,
   s.signedAt rTxmStreamCtrl (2 * h) 0 16 - 80, 0, none, 0⟩

/-- CAL_SWEEP_START: a sweep that is due takes its head's clamp and books its carrier; one that is refused at booking, or that no neighbouring
head covers, is skipped (R227). A bare carrier needs no protection: it is ready at once. -/
def execCalSweepStart (t : Time) (h : Nat) (s : State) : Outcome State Fault Refusal :=
  onInst (h < 36) <|
    let s := s.arrive t
    let c := s.headCal h
    if !(s.sampleUp && s.leads && s.fldAt rCalHeadCtrl h 3 1 == 1 && !c.sweeping &&
        (match c.sweepAt with | some d => decide (d ≤ s.clock.now) | none => true)) then s
    else
      let r := askClamp 2 h s
      if !r.1 then r.2
      else match (sweepChannels s h).head? with
        | none => sweepSkip h r.2
        | some ch =>
          if !(s.sch.started && (List.range 36).any fun j => sweepHears s h j) then sweepSkip h r.2
          else match admitTx (sweepReq s h ch) r.2 with
            | (none, s1) => sweepSkip h s1
            | (some b, s1) => ({ s1 with txm.bookings := s1.txm.bookings.map fun x => if x.id = b then { x with ready := true } else x } : State).modCal h
                fun c => { c with sweeping := true }

/-- CAL_SWEEP_DONE: the median over the heads that measured the sweep replaces the transmit IQ values, which the standby takes over with the
schedule epoch; `measured` holds each head's gain and phase from its ratio. Without a measurement the sweep counts as skipped (R225, R227,
R233). -/
def execCalSweepDone (t : Time) (h : Nat) (measured : List (Nat × Int × Int)) (s : State) : Outcome State Fault Refusal :=
  onInst (h < 36) <|
    let s := s.arrive t
    let m := measured.filter fun x => sweepHears s h x.1
    if !((s.headCal h).sweeping && s.sampleUp) then s
    else if m.isEmpty then sweepSkip h s
    else
      let gain := medianOf (m.map fun x => x.2.1)
      let phase := medianOf (m.map fun x => x.2.2)
      mirror (.schedule ⟨s.sch.epoch, s.asnAt s.clock.now, [], [], [(h, gain, phase)], s.sch.startAsn⟩) none (freeClampOf 2 h (s.modCal h fun c =>
        { c with sweeping := false, sweepAt := some (s.clock.now + sec (3600 * s.fld rCalCtrl 16 8)),
                 txCand := { c.txCand with iqGain := gain, iqPhase := phase } }))

/-! ### The persistent store (R232) -/

/-- The HEAD_ID of head `h`; an analogue port has none. -/
def headIdOf (s : State) (h : Nat) : Option Word := if h < 32 then (s.port h).headId else some 0

/-- CAL_RECORD_WRITE: once per hour the engine writes each head's record, with the UTC second if the timekeeper is locked to PTP
and 0 otherwise (R232). -/
def execCalRecordWrite (t : Time) (utc : Nat) (s : State) : Outcome State Fault Refusal :=
  onInst true <|
    let s := s.arrive t
    if !s.sampleUp then s
    else s.cal.heads.foldl (fun s x =>
      let h := x.1
      let c := s.headCal h
      match headIdOf s h with
      | some i =>
        if (match c.recordAt with | some r => decide (r + sec 3600 ≤ s.clock.now) | none => true) then
          let r : CalRecord := ⟨h, i, if s.timer.source = 3 then utc else 0, c.rx, c.tx⟩
          ({ s with flash.calRecords := (s.flash.calRecords.filter fun y => y.head != h) ++ [r] } : State).modCal h
            fun c => { c with recordAt := some s.clock.now }
        else s
      | none => s) s

/-- A persistent record is accepted: it takes effect as a new receive and a new transmit generation (R232). -/
def calLoad (r : CalRecord) (s : State) : State :=
  calTxSwitch r.head (bump cCalRestore 0 (s.modCal r.head fun c =>
    { c with cand := { r.rx with dly := c.cand.dly, sco := c.cand.sco }, pending := true,
             txCand := { r.tx with dly := c.txCand.dly } }))

/-- CAL_RESTORE: once after a start the engine judges the persistent records: at the first lock to PTP, or 10 s after release
without one (R232). -/
def execCalRestore (t : Time) (utcNow : Nat) (s : State) : Outcome State Fault Refusal :=
  onInst true <|
    let s := s.arrive t
    let locked := s.timer.source == 3
    if s.cal.restored || !s.sampleUp || s.start.phase != .p9 then s
    else if !locked && decide (s.clock.now < s.sch.released + sec 10) then s
    else
      s.flash.calRecords.foldl (fun s r =>
        if locked && headIdOf s r.head == some r.headId && r.utc != 0 && decide (utcNow ≤ r.utc + 604800) then calLoad r s
        else bump cCalRestoreReject 0 s) { s with cal.restored := true }

end Sys2Proof.Machine
end

