-- ==== Sys2Proof/Machine/Lanes.lean ====
section
/-! DEFINITION. The meanings of the lane commands (06_lanes.md), with the search-mode catalogue (R145, R146) that lanes and
detectors share. -/

namespace Sys2Proof.Machine

open Host

/-! ### Groups -/

/-- The lead of a group: the member of highest quality, the lower lane number on a tie (R169). -/
def leadOf (s : State) (x : Group) : Nat :=
  x.members.foldl (fun b l =>
    let qb := (s.laneAt b).quality
    let ql := (s.laneAt l).quality
    if qb < ql ∨ qb = ql ∧ l < b then l else b) (x.members.headD 0)

/-- The number a founding lane takes: its own, or the lowest that no group holds (R169). -/
def groupNumber (s : State) (l : Nat) : Option Nat :=
  if (s.groupOf l).isNone then some l else firstSuch 4096 fun k => (s.groupOf k).isNone

/-- Lane `l` founds a group of its own, or gives up for want of a number (R169). -/
def foundGroup (l : Nat) (s : State) : State :=
  match groupNumber s l with
  | some g => { (s.modLane l fun x => { x with group := g }) with
      lane.groups := aput s.lane.groups g { members := [l] } }
  | none => bump cLaneNoGroup 0 (s.setLane l {})

/-! ### The formats of the catalogue (R145, R165) -/

/-- The air format of a catalogue index (R145). -/
def formatOf (m : Nat) : AirFormat :=
  let f := family m
  if f < 4 then .fsk else if f < 6 then .oqpsk else .deep (f - 6)

/-- The samples per second at which a lane of mode `m` works (R176). -/
def workingRate (m : Nat) : Nat := match family m with
  | 0 | 4 => 200000
  | 1 | 3 => 400000
  | 2 => 600000
  | 5 => 2000000
  | _ => 100000

/-- The octets per second that a lane of mode `m` spills, at 4 octets per sample (R176). -/
def spillRate (m : Nat) : Nat := workingRate m * 4

/-- The octets that a mode spills in the time `d` of 1/16 ns. -/
def spillOctets (m : Nat) (d : Time) : Nat := d * spillRate m / sec 1

/-! ### The frame-end event (R173, R181, R182) -/

/-- What the frame-end event says of lane `l`, whose last bit is decoded at `e`. -/
def endMember (s : State) (l : Nat) (e : Time) : EndMember :=
  let d := (s.laneAt l).det
  ⟨portField (headPath s d.stream).1, (s.laneAt l).gen, e, d.level⟩

/-- The frame-end event of group `g` (R182): its members as they ended. -/
def frameEvent (s : State) (g : Nat) (ok : Bool) : FrameEvent := match s.groupOf g with
  | none => ⟨g, 0, ok, false, 0, []⟩
  | some x =>
    let ms := (x.ended.filter fun m => x.members.contains m.1).map fun m => m.2
    ⟨g, (s.laneAt (leadOf s x)).mode, ok, x.rerun, ((x.summary.map fun m => m.length).getD 0),
     if ms.isEmpty then x.ended.map fun m => m.2 else ms⟩

/-- The member of highest LEVEL of a frame-end event; the first of several (R312). -/
def FrameEvent.top (e : FrameEvent) : Option EndMember := e.members.foldl (fun b m => match b with
  | none => some m
  | some x => if x.level < m.level then some m else b) none

/-- The frame-end event of group `g` goes to the commit sequencer, with END_TIME and MODE of its highest-LEVEL member (R181, R182, R312). With
FCS_OK 0 the commit sequencer closes the candidate, and the template is discarded (R173, R299). A re-run frame whose release deadline has
passed is not accepted: the commit sequencer returns a late flag (R180). -/
def frameEnd (g : Nat) (ok : Bool) (s : State) : State :=
  let ev := frameEvent s g ok
  let s0 : State := { s with jrn.cands := amod s.jrn.cands g fun c => { c with
    endEvent := some s.clock.now, rerun := ev.rerun, mode := ev.mode, endTime := (ev.top.map fun m => m.endTime).getD 0 } }
  let late := ok && ev.rerun && (s.groupOf g).any fun x => x.late
  let s1 := s0.modGroup g fun x => { x with reported := true, fcsOk := ok, late := false }
  let s2 := s1.out (.frameEnd ev)
  let s3 := if late then bump cLaneRerunLate 0 (s2.out (.lateFlag g)) else s2
  if ok then bump cLaneFramesOk 0 s3 else candidateClose g s3

/-- The group's decode has ended with FCS verdict `ok`: a good frame of another version is dropped after its FCS check, with FCS_OK 0
(R120, R166). -/
def groupFinish (g : Nat) (ok : Bool) (s : State) : State :=
  if ok && !((s.groupOf g).all fun x => x.version) then frameEnd g false (bump cLaneFrameVersion 0 s) else frameEnd g ok s

/-- A member has gone. A group whose last member has gone after its header summary, without a decoded frame, sends a frame-end
event with FCS_OK 0; one whose members that are left have all decoded ends its frame (R173). -/
def groupEmpty (g : Nat) (s : State) : State :=
  match s.groupOf g with
  | none => s
  | some x =>
    if x.members.isEmpty then
      groupSettle g (if x.passed && !x.reported then frameEnd g false s else s)
    else if x.passed && !x.reported && x.members.all (fun m => (s.laneAt m).state == .exporting) then groupFinish g true s
    else s

/-- Lane `l` leaves its group. -/
def leaveGroup (l : Nat) (s : State) : State :=
  let g := (s.laneAt l).group
  s.modGroup g fun x => { x with members := x.members.filter (· ≠ l) }

/-! ### Contexts -/

/-- A context is released with its spill; its owner forgets it (R168, R177). -/
def ctxRelease (k : Nat) (s : State) : State :=
  match afind s.lane.contexts k with
  | none => s
  | some c =>
    { (s.modLane c.owner fun x => { x with context := none }) with
      lane.contexts := adel s.lane.contexts k,
      lane.waiting := s.lane.waiting.filter (· ≠ c.owner) }

/-- Release the context that lane `l` holds, if any. -/
def ctxDrop (l : Nat) (s : State) : State := match (s.laneAt l).context with
  | some k => ctxRelease k s
  | none => s

/-- Lane `l` returns to FREE; its unit may have lost its last lane (R140). -/
def laneFree (l : Nat) (s : State) : State := chnServe (retireIdle (s.setLane l {}))

/-- Lanes that are re-running now. One whose re-run has ended and waits for the other members of its group takes no place of the 16
(R179; DESIGN CHOICE, see the log). -/
def reruns (s : State) : Nat := (s.lane.lanes.filter fun x => x.2.state == .rerun && !x.2.rerunDone).length

/-- A lane due to re-run begins if fewer than 16 are in RERUN, and otherwise waits (R179). -/
def rerunDue (l : Nat) (s : State) : State :=
  if reruns s < 16 then s.modLane l fun x => { x with state := .rerun, rerun := true }
  else if s.lane.waiting.contains l then s
  else bump cLaneRerunWait 0 { s with lane.waiting := s.lane.waiting ++ [l] }

/-- The oldest waiting lane begins its re-run when one of the 16 places is free (R179). -/
def rerunNext (s : State) : State := match s.lane.waiting with
  | [] => s
  | l :: r => if reruns s < 16 then
      ({ s with lane.waiting := r } : State).modLane l fun x => { x with state := .rerun, rerun := true }
    else s

/-- Whether every stronger lane of the context of lane `l` has ended and those that decoded have been subtracted. -/
def ctxDue (s : State) (l : Nat) : Bool := match (s.laneAt l).context with
  | some k => (afind s.lane.contexts k).any fun c =>
      c.stronger.all (fun x => x.2 == .bad || x.2 == .subtracted) && c.stronger.any fun x => x.2 == .subtracted
  | none => false

/-- Every context that records stronger lane `l` learns how it ended (R178). -/
def ctxLearn (l : Nat) (ok : Bool) (s : State) : State :=
  { s with lane.contexts := s.lane.contexts.map fun (k, c) =>
      (k, { c with stronger := c.stronger.map fun (x, st) =>
        if x = l ∧ st = .decoding then (x, if ok then Stronger.good else Stronger.bad) else (x, st) }) }

/-- The weak lanes in WAIT_CANCEL whose every stronger lane has ended without a good FCS (R163). -/
def ctxLost (s : State) : List Nat :=
  (s.lane.contexts.filter fun x => (s.laneAt x.2.owner).state == .waitCancel && x.2.stronger.all fun y => y.2 == .bad).map
    fun x => x.2.owner

/-- A weak frame is lost after a collision: its lane is FREE and its context released, and it has itself ended without a good FCS where
it is the stronger lane of another context (R163). -/
def collisionLost (l : Nat) (s : State) : State :=
  let g := (s.laneAt l).group
  ctxLearn l false (rerunNext (groupEmpty g (laneFree l (leaveGroup l (ctxDrop l (bump cLaneCollisionLost 0 s))))))

/-- The weak lanes that have lost their last hope end in turn, `n` at most. -/
def loseAll : Nat → State → State
  | 0, s => s
  | n + 1, s => match ctxLost s with
    | [] => s
    | l :: _ => loseAll n (collisionLost l s)

/-- Stronger lane `l` has ended: every context that records it learns how (R163, R178). A weak lane in WAIT_CANCEL whose
stronger lanes have all ended re-runs if one of them was subtracted, and is lost if none had a good FCS. -/
def strongerEnded (l : Nat) (ok : Bool) (s : State) : State :=
  let owners := (s.lane.contexts.filter fun x => x.2.stronger.any fun y => y == (l, .decoding)).map fun x => x.2.owner
  let s1 := owners.foldl (fun s w => if (s.laneAt w).state == .waitCancel && ctxDue s w then rerunDue w s else s) (ctxLearn l ok s)
  loseAll s1.lane.contexts.length s1

/-- A lane's input is gone: the member leaves its group and ends, and the group decodes on without it (R173). -/
def laneLost (l : Nat) (s : State) : State :=
  let g := (s.laneAt l).group
  groupEmpty g (strongerEnded l false (laneFree l (leaveGroup l (ctxDrop l s))))

/-! ### Records and lanes (R167 to R175) -/

/-- The lowest-numbered FREE lane that is not retired (R167, R184). -/
def freeLane (s : State) : Option Nat :=
  firstSuch 4096 fun l => (s.laneAt l).state == .free && !isRetired s 3 l

/-- The evictable lane of lowest quality, the higher number on a tie (R167). -/
def evictee (s : State) : Option (Nat × Lane) :=
  (s.lane.lanes.filter fun x => evictable x.2.state).foldl (fun b x => match b with
    | none => some x
    | some y => if x.2.quality < y.2.quality ∨ x.2.quality = y.2.quality ∧ y.1 < x.1 then some x else b) none

/-- Whether group `x` and a new record meet the conditions of R170 before compatibility. -/
def joinable (s : State) (x : Group) (r : DetRecord) : Bool :=
  let ld := s.laneAt (leadOf s x)
  !x.passed && !x.members.isEmpty && family ld.mode == family r.mode &&
  decide (carrierGap s ld.det r.det ≤ channelWidth r.mode / 4) &&
  decide ((max ld.det.time r.det.time) - (min ld.det.time r.det.time) ≤ us (s.fld rLaneCtrl 8 8))

/-- Apply the group rules to the new lane `l` with record `r` (R170 to R172). Where several groups qualify under R170 the spec does not
say which one the lane joins: the model takes the first in the order of founding, and tries no other (DESIGN CHOICE, see the log). -/
def groupRules (l : Nat) (r : DetRecord) (s : State) : State :=
  match s.lane.groups.find? (fun x => joinable s x.2 r) with
  | none => foundGroup l s
  | some (g, x) =>
    let hp := headPath s r.det.stream
    let own := x.members.filter fun m => (headPath s (s.laneAt m).det.stream).1 = hp.1
    if own.any fun m => (s.laneAt m).gen ≠ r.gen then foundGroup l (bump cLaneGroupGen 0 s)
    else if !calAligned hp.1 r.gen s && decide (own.length ≠ x.members.length) then
      foundGroup l (bump cLaneGroupUnaligned 0 s)
    else if x.members.any fun m => headPath s (s.laneAt m).det.stream = hp then
      bump cLaneGroupDup 0 (s.setLane l {})
    else if 8 ≤ x.members.length then
      let weak := x.members.foldl (fun b m => if (s.laneAt m).quality < (s.laneAt b).quality then m else b)
        (x.members.headD 0)
      let s1 := bump cLaneGroupFull 0 s
      if (s.laneAt weak).quality + 12 ≤ r.det.metric then
        let s2 := laneLost weak s1
        ({ s2 with lane.groups := amod s2.lane.groups g fun x => { x with members := x.members ++ [l] } } : State).modLane
          l fun y => { y with group := g }
      else foundGroup l s1
    else
      ({ s with lane.groups := amod s.lane.groups g fun x => { x with members := x.members ++ [l] } } : State).modLane
        l fun y => { y with group := g }

/-- A context that the jig tests is given up at once when every other one is in use (R184). -/
def ctxYield (s : State) : State := if s.hlt.test.any (fun j => j.kind == 4 && j.warm != 9) && !(s.hlt.test.any fun j => j.again) then jigYield s else s

/-- The lowest-numbered unused context that is neither retired nor under test (R178, R184). -/
def freeContext (s : State) : Option Nat :=
  firstSuch 256 fun k => (afind s.lane.contexts k).isNone && !isRetired s 4 k && !(s.hlt.test.any fun j => j.kind == 4 && j.inst == k && !j.again)

/-- Weak lane `w` meets stronger lane `l`: it opens a context or adds to its own (R174, R175, R178). -/
def addStronger (w l : Nat) (overlap : Time) (s : State) : State :=
  match (s.laneAt w).context with
  | some k => match afind s.lane.contexts k with
    | some c =>
      if 4 ≤ c.stronger.length then bump cLaneCancelSkip 0 s
      else { s with lane.contexts := amod s.lane.contexts k fun c => { c with stronger := c.stronger ++ [(l, .decoding)] } }
    | none => s
  | none =>
    let s0 := if (freeContext s).isNone then ctxYield s else s
    match freeContext s0 with
    | none => bump cLaneNoContext 0 s
    | some k =>
      ({ s0 with lane.contexts := aput s0.lane.contexts k { owner := w, stronger := [(l, .decoding)], overlap := overlap } } : State).modLane w
        fun x => { x with context := some k }

/-- The capture rule between the new lane `l` and every running lane on its stream whose band and frame overlap its own
(R174). The running lanes are those that still read their input: R174 lists no states, and the model leaves out WAIT_CANCEL, RERUN and
EXPORT, whose frames have ended (DESIGN CHOICE, see the log). -/
def captureRules (l : Nat) (r : DetRecord) (s : State) : State :=
  (s.lane.lanes.filter fun (k, x) => k ≠ l && laneReads x.state && x.state != .waitCancel && x.det.stream == r.det.stream
      && decide (2 * carrierGap s x.det r.det < channelWidth x.mode + channelWidth r.mode)
      && (match x.endTime with | some e => decide (frameStart r < e) | none => true)).foldl
    (fun s (kx : Nat × Lane) =>
      let d := kx.2.det.level - r.det.level
      let cap : Int := s.fld rLaneCtrl 0 8
      if cap ≤ d then addStronger l kx.1 (frameStart r) s
      else if cap ≤ -d then addStronger kx.1 l (frameStart r) s
      else s) s

/-- Give lane `l` to record `r` (R163, R167). -/
def laneStart (l : Nat) (r : DetRecord) (s : State) : State :=
  let s1 := s.setLane l { state := .lookback, record := some r, quality := (r.det.metric : Int) }
  let s2 := groupRules l r s1
  if (s2.laneAt l).state == .lookback then captureRules l r s2 else s2

/-- LANE_ASSIGN: the lane array takes a record from the FIFO (R152, R167). A FREE lane comes first, then the lane that the jig
holds, then the worst evictable lane. -/
def execLaneAssign (t : Time) (s : State) : Outcome State Fault Refusal :=
  onInst true <|
    let s := s.arrive t
    match s.det.fifo with
    | [] => s
    | r :: rest =>
      if !s.sampleUp then s
      else
        let s0 : State := { s with det.fifo := rest }
        match freeLane s0 with
        | some l => laneStart l r s0
        | none =>
          match s0.hlt.test.bind fun j => if j.kind = 3 ∧ (s0.laneAt j.inst).state = .test then some j.inst else none with
          | some l => laneStart l r (jigYield (s0.setLane l {}))
          | none =>
            match evictee s0 with
            | some (l, x) =>
              if x.quality < r.det.metric then
                laneStart l r (groupEmpty x.group (strongerEnded l false
                  (laneFree l (leaveGroup l (ctxDrop l (bump cLaneEvict 0 s0))))))
              else bump cLaneNoLane 0 s0
            | none => bump cLaneNoLane 0 s0

/-- LANE_CAUGHT_UP: LOOKBACK reaches live input (R163, R164). -/
def execLaneCaughtUp (t : Time) (l : Nat) (s : State) : Outcome State Fault Refusal :=
  onInst (l < 4096) <|
    let s := s.arrive t
    if (s.laneAt l).state == .lookback && s.sampleUp then s.modLane l fun x => { x with state := .preamble } else s

/-- A member whose sync lies more than GROUP_WINDOW from the lead's leaves and founds its own group (R173). -/
def syncEject (l : Nat) (s : State) : State :=
  let g := (s.laneAt l).group
  match s.groupOf g with
  | none => s
  | some x =>
    let ld := leadOf s x
    match (s.laneAt ld).sync with
    | none => s
    | some p =>
      (x.members.filter fun m => m ≠ ld && (match (s.laneAt m).sync with
        | some q => decide (us (s.fld rLaneCtrl 8 8) < max p q - min p q)
        | none => false)).foldl (fun s m => foundGroup m (bump cLaneGroupEject 0 (leaveGroup m s))) s

/-- The start of the sync word of a Deep frame that the level's preamble length predicts: the frame's start plus the whole preamble
(R165). -/
def syncPredicted (r : DetRecord) : Time := match formatOf r.mode with
  | .deep v => frameStart r + 64 * deepN v * us 40
  | _ => frameStart r

/-- LANE_SYNC_FOUND: the decisions `w` of the last sync window, whose first bit lies at `pos`, hold the SFD or the Deep sync word; quality
becomes the measured SNR (R163, R165, R167). Decisions that do not match leave the lane searching. -/
def execLaneSyncFound (t : Time) (l : Nat) (w : Word) (snr : Int) (pos : Time) (s : State) : Outcome State Fault Refusal :=
  onInst (l < 4096) <|
    let s := s.arrive t
    let x := s.laneAt l
    match x.record with
    | none => s
    | some r =>
      if x.state == .preamble && s.sampleUp && syncOk (formatOf r.mode) (Config.sfdValues (sfdMode s r.det.stream r.mode)) w ((pos : Int) - syncPredicted r) then
        syncEject l (s.modLane l fun x => { x with state := .header, quality := snr, sync := some pos })
      else s

/-- LANE_PREAMBLE_LOST: the preamble correlation has stayed more than 3 dB below THRESHOLD for `below` segment periods; after 4 of them
the preamble is lost (R163, R165). -/
def execLanePreambleLost (t : Time) (l below : Nat) (s : State) : Outcome State Fault Refusal :=
  onInst (l < 4096) <|
    let s := s.arrive t
    if (s.laneAt l).state == .preamble && decide (4 ≤ below) && s.sampleUp then laneLost l (bump cLaneHdrFail 0 s) else s

/-- A group passes its header check with the members `keep`: they enter PAYLOAD and the header summary goes to the slot
scheduler (R163, R181). -/
def groupPass (g : Nat) (keep : List Nat) (sm : Summary) (s : State) : State :=
  let ends := (List.range keep.length).map fun i => (keep.getD i 0, sm.endTimes.getD i 0)
  let ld := s.laneAt (((s.groupOf g).map fun x => leadOf s { x with members := keep }).getD 0)
  let s1 := s.modGroup g fun x => { x with
    members := keep, passed := true, summary := some sm,
    ports := ends.map (fun e => ((headPath s (s.laneAt e.1).det.stream).1, e.2, (s.laneAt e.1).quality)),
    start := (ld.record.map frameStart).getD 0 }
  (ends.foldl (fun s (x : Nat × Time) => s.modLane x.1 fun y => { y with state := .payload, endTime := some x.2 }) s1).out
    (.headerSummary g)

/-- What member `m` decided of the header by itself; nothing where no decisions are given. -/
def ownCheck (ms : List MemberCheck) (m : Nat) : Option MemberCheck := ms.find? fun c => c.lane == m

/-- The own header check of member `m` passes (R173). -/
def ownPasses (f : AirFormat) (ms : List MemberCheck) (m : Nat) : Bool :=
  (ownCheck ms m).any fun c => headerResult f c.bits c.hcsOk == .pass

/-- A member is ejected: it founds its own group, which makes its own header check (R173). -/
def ejectMember (l : Nat) (s : State) : State := foundGroup l (bump cLaneGroupEject 0 (leaveGroup l s))

/-- LANE_HEADER_CHECK: the combined decisions `bits` of the header of group `g`, and each member's own; their tests are those of R165
(R118, R119, R126, R165, R173). The summary's length is the header's. -/
def execLaneHeaderCheck (t : Time) (g : Nat) (bits : Word) (hcsOk : Bool) (ms : List MemberCheck) (sm : Summary) (s : State) :
    Outcome State Fault Refusal :=
  onInst (g < 4096) <|
    let s := s.arrive t
    match s.groupOf g with
    | none => s
    | some x =>
      if x.passed || x.members.isEmpty || !s.sampleUp || !(x.members.all fun m => (s.laneAt m).state == .header) then s
      else
        let f := formatOf (s.laneAt (leadOf s x)).mode
        let many := decide (1 < x.members.length)
        match headerResult f bits hcsOk with
        | .pass =>
          let out := x.members.filter fun m => many && (ownCheck ms m).any fun c => headerDiffers f c.bits bits
          let keep := x.members.filter fun m => !(out.contains m)
          groupPass g keep { sm with length := headerLength f bits } (out.foldl (fun s m => ejectMember m s) s)
        | res =>
          let good := x.members.filter fun m => many && ownPasses f ms m
          match good with
          | [] =>
            let c := if res == .modeSwitch then cLanePhrUnsupported else cLaneHdrFail
            x.members.foldl (fun s m => laneLost m s) (bump c 0 s)
          | _ =>
            let best := leadOf s { x with members := good }
            let own := ((ownCheck ms best).map fun c => c.bits).getD bits
            let bad := x.members.filter fun m => !(good.contains m)
            let s1 := if bad.isEmpty then s else bump cLaneHdrFail 0 s
            let s2 := bad.foldl (fun s m => laneLost m s) s1
            let s3 := (good.filter (· ≠ best)).foldl (fun s m => ejectMember m s) s2
            groupPass g [best] { sm with length := headerLength f own } s3

/-- LANE_ADDRESS_POINT: the lead sends the key-lookup fields; a frame of another version is marked as refused (R120, R166). -/
def execLaneAddressPoint (t : Time) (l : Nat) (f : LookupFields) (s : State) : Outcome State Fault Refusal :=
  onInst (l < 4096) <|
    let s := s.arrive t
    let x := s.laneAt l
    if x.state == .payload && s.sampleUp && ((s.groupOf x.group).any fun g => leadOf s g == l && g.lookup.isNone) then
      (s.modGroup x.group fun g => { g with lookup := some f, version := f.version == 2 }).out (.keyLookup x.group)
    else s

/-- Whether the context of lane `l` still has a stronger lane decoding or to be subtracted (R163). -/
def ctxWaits (s : State) (l : Nat) : Bool := match (s.laneAt l).context with
  | some k => (afind s.lane.contexts k).any fun c => c.stronger.any fun x => x.2 != .bad
  | none => false

/-- The group's last member has ended with a decoded frame: the frame-end event (R173, R181). -/
def groupDecoded (g : Nat) (s : State) : State :=
  match s.groupOf g with
  | none => s
  | some x => if x.reported || x.members.any fun m => (s.laneAt m).state != .exporting then s else groupFinish g true s

/-- The last bit of lane `l` has been decoded at `e`. -/
def memberEnded (l : Nat) (e : Time) (s : State) : State :=
  let s1 := s.modLane l fun y => { y with endTime := some e }
  s1.modGroup (s1.laneAt l).group fun g => { g with ended := g.ended.filter (fun x => x.1 ≠ l) ++ [(l, endMember s1 l e)] }

/-- The weak lane stops writing to its spill at the end of its frame. -/
def ctxStop (l : Nat) (s : State) : State := match (s.laneAt l).context with
  | some k => { s with lane.contexts := amod s.lane.contexts k fun c => { c with stopped := some s.clock.now } }
  | none => s

/-- LANE_FRAME_END: the last bit of lane `l` is decoded, at least RX_PIPE after the last air sample at `e` (R163, R173, R120, R254). A lane that waits for a stronger lane's result has not ended
for the contexts that record it. -/
def execLaneFrameEnd (t : Time) (l : Nat) (fcsOk : Bool) (e : Time) (s : State) : Outcome State Fault Refusal :=
  onInst (l < 4096) <|
    let s := s.arrive t
    let x := s.laneAt l
    if x.state != .payload || !s.sampleUp || decide (s.clock.now < e + rxPipe x.mode) then s
    else
      let s1 := memberEnded l e s
      if fcsOk then groupDecoded x.group (strongerEnded l true ((ctxDrop l s1).modLane l fun y => { y with state := .exporting }))
      else if ctxWaits s l then
        let s2 := ctxStop l (s1.modLane l fun y => { y with state := .waitCancel })
        if ctxDue s2 l then rerunDue l s2 else s2
      else
        let only := (s.groupOf x.group).any fun g => decide (g.members.length ≤ 1)
        let c := if x.context.isSome then cLaneCollisionLost else cLaneFcsFail
        let s2 := if only || x.context.isSome then bump c 0 s1 else s1
        groupEmpty x.group (strongerEnded l false (laneFree l (leaveGroup l (ctxDrop l s2))))

/-- LANE_RECONSTRUCTION: a stronger lane's reconstruction is subtracted from the spill of context `k`, whose weak lane has ended
with a bad FCS; the weak lane re-runs once every stronger lane has ended (R178, R179). -/
def execLaneReconstruction (t : Time) (k l : Nat) (s : State) : Outcome State Fault Refusal :=
  onInst (k < 256 && l < 4096) <|
    let s := s.arrive t
    match afind s.lane.contexts k with
    | none => s
    | some c =>
      if c.stronger.any (fun x => x == (l, .good)) && s.sampleUp && (s.laneAt c.owner).state == .waitCancel then
        let s1 : State := { s with lane.contexts := amod s.lane.contexts k fun c =>
          { c with stronger := c.stronger.map fun x => if x = (l, Stronger.good) then (l, Stronger.subtracted) else x } }
        if ctxDue s1 c.owner then rerunDue c.owner s1 else s1
      else s

/-- The members of group `g` whose re-run has ended. -/
def rerunEnded (g : Nat) (s : State) : List Nat := match s.groupOf g with
  | some x => x.members.filter fun m => (s.laneAt m).state == .rerun && (s.laneAt m).rerunDone
  | none => []

/-- A member of group `g` is still due to re-run, or re-running. -/
def rerunOpen (g : Nat) (s : State) : Bool := (s.groupOf g).any fun x => x.members.any fun m =>
  (s.laneAt m).state == .waitCancel && ctxDue s m || (s.laneAt m).state == .rerun && !(s.laneAt m).rerunDone

/-- The group decodes again with FCS verdict `ok`: its re-run members go to EXPORT with the frame marked RERUN, or are lost (R163,
R179). -/
def rerunDecoded (g : Nat) (ok : Bool) (s : State) : State :=
  let ms := rerunEnded g s
  if ok then
    let s1 := (bump cLaneRerunOk 0 s).modGroup g fun x => { x with rerun := true }
    groupDecoded g (ms.foldl (fun s l =>
      strongerEnded l true ((ctxDrop l s).modLane l fun y => { y with state := .exporting, rerunDone := false })) s1)
  else ms.foldl (fun s l => loseAll s.lane.contexts.length (collisionLost l s)) s

/-- LANE_RERUN_END: the re-run of lane `l` ends. Once every re-running member of its group has ended, the group combines the decisions
and decodes again, with `fcsOk` the verdict (R163, R179, R180). -/
def execLaneRerunEnd (t : Time) (l : Nat) (fcsOk : Bool) (s : State) : Outcome State Fault Refusal :=
  onInst (l < 4096) <|
    let s := s.arrive t
    let x := s.laneAt l
    if x.state != .rerun || x.rerunDone || !s.sampleUp then s
    else
      let s1 := s.modLane l fun y => { y with rerunDone := true }
      rerunNext (if rerunOpen x.group s1 then s1 else rerunDecoded x.group fcsOk s1)

/-- The octets that context `c` has spilled by now: from the overlap point at the spill rate of its lane's mode (R175, R176). -/
def spilled (s : State) (c : Context) : Nat :=
  spillOctets (s.laneAt c.owner).mode (c.stopped.getD s.clock.now - c.overlap)

/-- The limit of a context's spill in octets, and the DRAM address of the slice of context `k` (R177). -/
def spillLimit (s : State) : Nat := s.fld rLaneSpillLimit 0 4 * 2 ^ 20

/-- The DRAM address of the spill slice of context `k` (R177). -/
def spillSlice (s : State) (k : Nat) : Nat := s.base rLaneSpillBaseLo rLaneSpillBaseHi + k * spillLimit s

/-- LANE_SPILL_OVERRUN: a context reaches its limit and ends; the weak lane continues live (R177). -/
def execLaneSpillOverrun (t : Time) (k : Nat) (s : State) : Outcome State Fault Refusal :=
  onInst (k < 256) <|
    let s := s.arrive t
    if (afind s.lane.contexts k).any (fun c => decide (spillLimit s ≤ spilled s c)) && s.sampleUp then
      ctxRelease k (bump cLaneSpillOverrun 0 s)
    else s

/-- A full strait ends context `k`; the weak lane continues live without it (R39, R177). -/
def spillDrop (k : Nat) (s : State) : State := if (afind s.lane.contexts k).isSome then ctxRelease k s else s

/-- LANE_INPUT_INVALID: the member leaves its group, or the last member's frame ends (R144, R163, R173). A lane in RERUN reads only
its spill (R179). A frame that has had its frame-end event is not counted again (R163). A lane whose input is valid goes on. -/
def execLaneInputInvalid (t : Time) (l : Nat) (s : State) : Outcome State Fault Refusal :=
  onInst (l < 4096) <|
    let s := s.arrive t
    let x := s.laneAt l
    if (laneReads x.state || x.state == .exporting) && s.sampleUp && !inputValid s x.det.stream then
      let last := (s.groupOf x.group).all fun g => decide (g.members.length ≤ 1)
      if (s.groupOf x.group).any fun g => g.reported then laneLost l s
      else laneLost l (bump (if last then cLaneInputInvalid else cLaneMemberLost) 0 s)
    else s

/-- The snippet of lane `l` goes into quay LANE_CTRL.SNIPPET_QUAY; a refused one is dropped (R39, R183). -/
def sendSnippet (l : Nat) (b : SnippetBody) (s : State) : State :=
  let ws := snippetWords s l b
  match hardwareItem (s.fld rLaneCtrl 16 6) ws (4 * ws.length) s with
  | (true, s1) => s1.out (.snippet l (s.laneAt l).group)
  | (false, s1) => bump cLaneSnippetDrop 0 s1

/-- LANE_EXPORT_DONE: the snippet has gone to its quay or was dropped; the lane is FREE (R163, R181, R183). -/
def execLaneExportDone (t : Time) (l : Nat) (b : SnippetBody) (s : State) : Outcome State Fault Refusal :=
  onInst (l < 4096) <|
    let s := s.arrive t
    let x := s.laneAt l
    if x.state == .exporting && s.sampleUp && (s.groupOf x.group).all (fun g => g.reported) then
      groupEmpty x.group (laneFree l (leaveGroup l (if s.fld rLaneCtrl 31 1 = 0 then s else sendSnippet l b s)))
    else s

end Sys2Proof.Machine
end

