-- ==== Sys2Proof/Machine/Channel.lean ====
section
/-! DEFINITION. The meanings of the channeliser and detector commands (05_channelizer_and_search.md). -/

namespace Sys2Proof.Machine

open Host

/-! ### Generation changes (R140 to R143) -/

/-- The longest correlation window, in input samples, of the modes enabled on stream `st` (R140, R146). -/
def lookBack (s : State) (st : Nat) : Nat :=
  (enabledModes s st).foldl (fun m k => max m (corrWindow k.2 * 4 / 3125)) 0

/-- CHN_GEN_REQUEST: a generation change of head `h` is asked for (R140, R141). -/
def execChnGenRequest (t : Time) (h : Nat) (s : State) : Outcome State Fault Refusal :=
  onInst (h < 36) <|
    let s := s.arrive t
    if !s.sampleUp || !calWantsChange h s || (changeOf s h).isSome then s
    else
      let look := (validStreams s h).foldl (fun m st => max m (lookBack s st)) 0
      let s1 := { s with chn.changes := s.chn.changes ++ [⟨h, (calRxGen h s + 1) % 256, none, look, false, s.clock.now⟩] }
      let s2 := chnServe s1
      if ((changeOf s2 h).bind (fun c => c.sAt)).isSome then s2 else bump cChnGenDefer 0 s2

/-- CHN_UNIT_START: at S − 1,536 − H the claimed units start, which freezes the pending correction set (R140). -/
def execChnUnitStart (t : Time) (h : Nat) (s : State) : Outcome State Fault Refusal :=
  onInst (h < 36) <|
    let s := s.arrive t
    match changeOf s h with
    | some ⟨_, g, some sAt, look, false, _⟩ =>
      if sAt ≤ s.clock.now + samples (1536 + look) ∧ s.sampleUp then
        let units := s.chn.units.map fun (k, u) => match u with
          | .claimed st g' => if g' = g ∧ streamHead s st = some h then (k, UnitUse.starting st g) else (k, u)
          | u => (k, u)
        calFreeze h { s with chn.units := units,
                             chn.changes := s.chn.changes.map fun c => if c.head = h then { c with begun := true } else c }
      else s
    | _ => s

/-- CHN_SWITCH_POINT: at S the new units become live and the old live ones retiring (R140). A stream that found no second unit goes on with
the one it has. -/
def execChnSwitchPoint (t : Time) (h : Nat) (s : State) : Outcome State Fault Refusal :=
  onInst (h < 36) <|
    let s := s.arrive t
    match changeOf s h with
    | some ⟨_, g, some sAt, _, true, _⟩ =>
      if sAt ≤ s.clock.now ∧ s.sampleUp then
        let ready (st : Nat) : Bool := hasUnit s fun x => match x with | .starting a b => a == st && b == g | _ => false
        let units := s.chn.units.map fun (k, u) => match u with
          | .live st g' =>
            if streamHead s st = some h then (k, if ready st then UnitUse.retiring st g' s.clock.now else .live st g) else (k, u)
          | .starting st g' => if g' = g ∧ streamHead s st = some h then (k, UnitUse.live st g) else (k, u)
          | u => (k, u)
        chnServe <| retireIdle <| calSwitched h g
          { s with chn.units := units, chn.changes := s.chn.changes.filter fun c => c.head != h }
      else s
    | _ => s

/-- CHN_RETIRE_EXPIRE: a unit retiring for 6 s becomes free and ends every lane still latched to it (R142). A lane in RERUN
reads only its spill (R179). -/
def execChnRetireExpire (t : Time) (u : Nat) (s : State) : Outcome State Fault Refusal :=
  onInst (u < 144) <|
    let s := s.arrive t
    match s.unit u with
    | .retiring st g since =>
      if since + sec 6 ≤ s.clock.now ∧ s.sampleUp then
        let on := (s.lane.lanes.filter fun (_, l) => laneOn st g l && (laneReads l.state || l.state == .exporting)).map (fun x => x.1)
        chnServe (on.foldl (fun s l => laneLost l (bump cChnRetireExpire 0 s)) (s.setUnit u .free))
      else s
    | _ => s

/-! ### Noise floor and detections (R148 to R156) -/

/-- The estimate and its count after bin samples of the given powers, 3.125 µs apart, the last one now (R148). -/
def floorRun (now : Time) : List Nat → Nat × Time → Nat × Time
  | [], f => f
  | p :: r, f => floorRun now r (if (floorSample f.1 p).2 then ((floorSample f.1 p).1, now - r.length * 50000) else f)

/-- NOISE_FLOOR_RISE: the bin samples that have come since the last are averaged in, and an estimate left without an update for 819.2 ms
rises by 1 dB and its count restarts (R148). Nothing is taken from an invalid bin (R144). -/
def execNoiseFloorRise (t : Time) (st b : Nat) (powers : List Nat) (s : State) : Outcome State Fault Refusal :=
  onInst (st < 128 && b < 128) <|
    let s := s.arrive t
    if !(s.sampleUp && binsValid s st) then s
    else
      let f := floorRun s.clock.now (powers.drop (powers.length - (s.clock.now - s.tail st) / 50000))
        (sget floorReset s.det.floors (st * 128 + b))
      let f' := if f.2 + us 819200 ≤ s.clock.now then (floorRise f.1, s.clock.now) else f
      { s with det.floors := sset floorReset s.det.floors (st * 128 + b) f' }

/-- The carrier of a detection relative to its stream's centre, in Hz (R151). -/
def relCarrier (d : Detection) : Int := ((d.bin : Int) - 64) * 160000 + d.freq

/-- `a` and `b` differ by at most `d`. -/
def within (a b : Int) (d : Nat) : Bool := decide (a - b ≤ d ∧ b - a ≤ d)

/-- Two times differ by at most `d` modulo the period `p` (R153). -/
def withinMod (a b p d : Nat) : Bool :=
  let m := (max a b - min a b) % p
  decide (m ≤ d ∨ p - m ≤ d)

/-- Two detections have the same identity (R153). -/
def sameIdentity (s : State) (a b : Detection) : Bool :=
  let m := slotMode s a.slot
  a.stream == b.stream && family m == family (slotMode s b.slot) &&
  within (relCarrier a) (relCarrier b) (channelWidth m / 4) &&
  withinMod a.time b.time (segPeriod m) (2 * symbolTime m)

/-- Two TIMEs lie within 2 symbols or chips of each other (R154). -/
def sameTime (s : State) (a b : Detection) : Bool :=
  within a.time b.time (2 * symbolTime (slotMode s a.slot))

/-- The better of two detections: higher METRIC, then lower BIN, then lower SLOT (R154). -/
def better (a b : Detection) : Detection :=
  if b.metric > a.metric then b
  else if b.metric = a.metric ∧ (b.bin < a.bin ∨ b.bin = a.bin ∧ b.slot < a.slot) then b
  else a

/-- TIME of a hypothesis under generation `g`: its peak's time less the latencies of the bank and of the class, and less the calibrated
delay of the generation (R134, R138, R151). -/
def timeUnder (s : State) (h : Hypothesis) (g : Nat) : Time :=
  let head := (streamHead s h.stream).getD 0
  let dly := ((rxSetOf (s.headCal head) g).map fun x => x.dly).getD 0
  ((h.seen : Int) - bankDelay - presentDelay (slotMode s h.slot) - dly).toNat

/-- The generation and TIME of a hypothesis: a TIME before the switch point is the retiring unit's (R140). -/
def genOf (s : State) (h : Hypothesis) : Nat × Time :=
  let old := s.chn.units.findSome? fun (_, u) => match u with
    | .retiring st g since => if st = h.stream ∧ timeUnder s h g < since then some (g, timeUnder s h g) else none
    | _ => none
  old.getD (liveGen s h.stream, timeUnder s h (liveGen s h.stream))

/-- METRIC of a hypothesis: its energy against the floor of its group over the correlation window (R149). -/
def metric (s : State) (h : Hypothesis) : Nat :=
  let m := slotMode s h.slot
  let c := synthClass m
  metricOf h.energy (groupFloor c h.bin (s.floor h.stream)) (corrWindow m * c.rate / sec 1)

/-- The frequency search window of slot `k` in kHz (R145). -/
def window (s : State) (k : Nat) : Nat :=
  let w := s.fldAt rDetSlotCtrl k 16 10
  if w = 0 then defaultWindow (slotMode s k) else w

/-- The detection that a hypothesis makes. -/
def detectionOf (s : State) (h : Hypothesis) : Detection :=
  ⟨h.stream, h.bin, h.slot, metric s h, h.level, h.freq, (genOf s h).2⟩

/-- THRESHOLD of slot `k`, with the default of its mode (R150). -/
def threshold (s : State) (k : Nat) : Nat :=
  let v := s.fldAt rDetSlotCtrl k 8 8
  if v ≠ 0 then v
  else
    let m := slotMode s k
    if m < 8 then 40 else if m < 10 then 36 else if m < 14 then 28 else 44

/-- DETECTION: a hypothesis within its search span reaches its slot's THRESHOLD and enters the merge stage (R149, R150, R153 to R156). -/
def execDetection (t : Time) (h : Hypothesis) (s : State) : Outcome State Fault Refusal :=
  onInst (h.stream < 128 && h.bin < 128 && h.slot < 12) <|
    let s := s.arrive t
    let d := detectionOf s h
    let g := (genOf s h).1
    if !(s.sampleUp && binsValid s d.stream && slotOn s d.stream d.slot && sliceWorks s d.stream
        && decide (d.freq.natAbs ≤ 80000 + 1000 * window s d.slot) && decide (threshold s d.slot ≤ d.metric)) then s
    else
      match s.det.windows.find? (fun w => sameIdentity s w.best d && sameTime s w.best d) with
      | some w =>
        let w' := { w with best := better w.best d, gen := if better w.best d = w.best then w.gen else g, merged := min 255 (w.merged + 1),
                           family := w.family || slotMode s w.best.slot != slotMode s d.slot }
        bump cDetMerged d.stream
          { s with det.windows := s.det.windows.map fun x => if x = w then w' else x }
      | none =>
        match s.det.masks.find? (fun m => sameIdentity s m.det d) with
        | some m =>
          let s : State := { s with det.masks := s.det.masks.map fun x => if x = m then { x with last := max x.last s.clock.now } else x }
          if sameTime s m.det d then
            bump cDetMerged d.stream (lateMerge m.seq (slotMode s m.det.slot != slotMode s d.slot) s)
          else if m.det.metric + s.fld rDetCtrl 0 8 ≤ d.metric then
            { s with det.windows := s.det.windows ++ [⟨d, g, 0, false, true, s.clock.now⟩] }
          else bump cDetMasked d.stream s
        | none => { s with det.windows := s.det.windows ++ [⟨d, g, 0, false, false, s.clock.now⟩] }

/-- DET_RECORD_ISSUE: four Sample cycles after the first detection of an identity, one record is issued into the FIFO of 1,024
and the identity is masked (R152, R154, R155). During a warm-up the spare slice's copy is discarded (R158). A record that finds the FIFO full
still takes its SEQ and masks its identity, and is not counted as issued: R152 does not say, and this is the model's choice (see the log). -/
def execDetRecordIssue (t : Time) (st : Nat) (s : State) : Outcome State Fault Refusal :=
  onInst (st < 128) <|
    let s := s.arrive t
    match s.det.windows.find? (fun w => w.best.stream == st) with
    | none => s
    | some w =>
      if s.clock.now < w.since + 98 ∨ !s.sampleUp then s
      else
        let s1 := { s with det.windows := s.det.windows.erase w,
                           det.masks := s.det.masks.filter (fun m => !sameIdentity s m.det w.best) ++
                             [⟨w.best, s.det.seq, s.clock.now⟩],
                           det.seq := (s.det.seq + 1) % 2 ^ 32 }
        let s2 := if spareWarming s (st / 4) then bump cDetWarmupDiscard 0 s1 else s1
        if 1024 ≤ s.det.fifo.length then bump cDetRecordOvf 0 s2
        else
          let r : DetRecord := ⟨w.best, slotMode s w.best.slot, w.gen, w.redetect, w.family, w.merged, s.det.seq⟩
          let s3 := bump cDetRecords st { s2 with det.fifo := s2.det.fifo ++ [r] }
          if w.redetect then bump cDetRedetect st s3 else s3

/-- DET_MASK_EXPIRE: a mask of stream `st` ends 4 segment periods after its identity's METRIC was last within 3 dB of the threshold or above
(R155). `i` counts the stream's masks from the oldest; `metrics` are the METRICs seen since the last detection, with their times. -/
def execDetMaskExpire (t : Time) (st i : Nat) (metrics : List (Time × Nat)) (s : State) : Outcome State Fault Refusal :=
  onInst (st < 128) <|
    let s := s.arrive t
    match (s.det.masks.filter fun m => m.det.stream == st)[i]? with
    | none => s
    | some m =>
      let last := metrics.foldl (fun l x => if threshold s m.det.slot ≤ x.2 + 12 ∧ x.1 ≤ s.clock.now then max l x.1 else l) m.last
      if !s.sampleUp then s
      else if last + 4 * segPeriod (slotMode s m.det.slot) ≤ s.clock.now then { s with det.masks := s.det.masks.erase m }
      else { s with det.masks := s.det.masks.map fun x => if x = m then { x with last := last } else x }

/-- JIG_DET_WARMUP_DONE: a 300 ms warm-up of the spare slice ends and the record source is handed over; the first hands the
streams to the spare, the second hands them back (R158). -/
def execJigDetWarmupDone (t : Time) (s : State) : Outcome State Fault Refusal :=
  onInst true <|
    let s := s.arrive t
    match s.hlt.test with
    | some j =>
      if j.kind ≠ 1 ∨ s.clock.now < j.due ∨ !s.sampleUp then s
      else if j.warm = 1 then { s with hlt.test := some { j with warm := 2, due := s.clock.now + us 2500 }, det.spareFor := some j.inst }
      else if j.warm = 3 then jigFinish { s with det.spareFor := none }
      else s
    | none => s

end Sys2Proof.Machine
end

