-- ==== Sys2Proof/Machine/Fronthaul.lean ====
section
/-! DEFINITION. The meanings of the fronthaul and analogue-port commands (03_fronthaul.md). -/

namespace Sys2Proof.Machine

open Host

/-! ### Stream maps -/

/-- The valid FH_POOL entries as (SOURCE, PORT, SLOT, PATH) (R105). -/
def poolOf (s : State) (st : Nat) : Option (Nat × Nat × Nat × Nat) :=
  let e := s.entry tFhPool st
  if e / 2 ^ 31 % 2 = 1 then some (e / 2 ^ 29 % 4, e / 2 ^ 24 % 32, e / 2 ^ 21 % 8, e / 2 ^ 17 % 16) else none

/-- The fronthaul port that a valid entry names (R105). -/
def entryPort (e : Nat) : Option Nat := if e / 2 ^ 31 % 2 = 1 ∧ e / 2 ^ 29 % 4 = 0 then some (e / 2 ^ 24 % 32) else none

/-- The receive slots of port `p` that valid FH_POOL entries name, with their paths (R105); an entry under change counts with
its new value (R106). -/
def slotPaths (s : State) (p : Nat) : List (Nat × Nat) :=
  ((List.range 128).filterMap fun st =>
    match poolOf s st with
    | some (0, q, k, path) => if q = p then some (k, path) else none
    | _ => none) ++
  (s.pool.filterMap fun r =>
    if r.begun && entryPort r.entry.toNat == some p then some (r.entry.toNat / 2 ^ 21 % 8, r.entry.toNat / 2 ^ 17 % 16) else none)

/-- RX_EN of port `p`: exactly the slots that valid entries name (R105). -/
def rxEnOf (s : State) (p : Nat) : BitVec 8 :=
  (slotPaths s p).foldl (fun m kp => m ||| BitVec.ofNat 8 (2 ^ kp.1)) 0

/-- The RX_MAP octets of slots `lo` to `lo + 3` of port `p`, slot `lo` in bits 7:0 (R92, R105). -/
def rxMapWord (s : State) (p lo : Nat) : Word :=
  (slotPaths s p).foldl
    (fun w kp => if lo ≤ kp.1 ∧ kp.1 < lo + 4 then w ||| BitVec.ofNat 32 (kp.2 * 2 ^ (8 * (kp.1 - lo))) else w) 0

/-- TX_EN of port `p`: the transmit slots whose streams 2p and 2p + 1 are enabled (R92, R186). -/
def txEnOf (s : State) (p : Nat) : BitVec 2 :=
  BitVec.ofNat 2 (s.fldAt rTxmStreamCtrl (2 * p) 16 1 + 2 * s.fldAt rTxmStreamCtrl (2 * p + 1) 16 1)

/-- The SUB word of downstream FRAME_NO 11 (R92). -/
def slotsWord (s : State) (p : Nat) : Word :=
  BitVec.ofNat 32 ((rxEnOf s p).toNat + (txEnOf s p).toNat * 2 ^ 8 +
    s.fldAt rTxmStreamCtrl (2 * p) 17 4 * 2 ^ 16 + s.fldAt rTxmStreamCtrl (2 * p + 1) 17 4 * 2 ^ 20)

/-! ### The port state machine -/

/-- Move port `p` to `st`. -/
def fhTo (p : Nat) (st : FhState) (s : State) : State :=
  s.modPort p fun q => { q with state := st, since := s.clock.now }

/-- Port `p` changes by `f`, which takes it out of UP if it was there: FH_FRAME_LOSS counts the exit, its streams are invalid and its
bookings move (R105, R115, R256). -/
def fhExit (p : Nat) (f : State → State) (s : State) : State :=
  if (s.port p).state == .up then portLeftUp p (bump cFhFrameLoss p (f s)) else f s

/-- Move port `p` to FAULT with `cause` (R103). -/
def fhFault (p cause : Nat) (s : State) : State :=
  fhExit p (fun s => s.modPort p fun q =>
    { q with state := .fault, since := s.clock.now, cause := cause, mbx := none, mbxOut := [], mbxIn := [] }) s

/-! ### Changes of FH_POOL (R106) -/

/-- Step 4: the entry of the change `r` is validated and its command ends. The samples of its slot since step 1 are counted. -/
def poolEnd (r : Remap) (s : State) : State :=
  let head := ((entryPort r.entry.toNat).map fun p => bumpBy cFhRemapDiscard p ((s.clock.now - r.since) * 4 / 3125) s).getD s
  let s1 := head.setEntry tFhPool r.stream r.entry.toNat
  let s2 := refreshCfg 4 (match streamHead s1 r.stream with | some h => refreshStreams h s1 | none => s1)
  finish r.dsn .acked s2

/-- Step 1: the pool stream of the change `r` is invalidated; the ports in UP that lose or gain its slot must send the new map and return
its echo. -/
def poolBegin (r : Remap) (s : State) : Remap × State :=
  let ports := ([entryPort (s.entry tFhPool r.stream), entryPort r.entry.toNat].filterMap id).eraseDups.filter
    fun p => (s.port p).state == .up
  ({ r with begun := true, since := s.clock.now, waits := ports.map fun p => ⟨p, 0, 0, false⟩ },
   (streamGone r.stream s).setEntry tFhPool r.stream (r.entry.toNat % 2 ^ 31))

/-- The changes `l` go on in order, one at a time (R106). -/
def poolGo : List Remap → State → State
  | [], s => { s with pool := [] }
  | r :: rest, s =>
    let (r', s1) := poolBegin r s
    if r'.waits.isEmpty then poolGo rest (poolEnd r' { s1 with pool := [] }) else { s1 with pool := r' :: rest }

/-- Port `p` need not be waited for any longer: its echo has come, or it has left service, where MAP settles the map anew (R103, R106). -/
def poolUnwait (p : Nat) (s : State) : State := match s.pool with
  | [] => s
  | r :: rest =>
    let w := r.waits.filter fun x => x.port != p
    if w.length = r.waits.length then s
    else if w.isEmpty then poolGo rest (poolEnd r { s with pool := [] })
    else { s with pool := { r with waits := w } :: rest }

/-- Port `p` has sent the SUB word of FRAME_NO `n` (R92, R106). -/
def poolSent (p n sf : Nat) (s : State) : State := match s.pool with
  | [] => s
  | r :: rest =>
    let bit := if n = 7 then 1#3 else if n = 9 then 2#3 else if n = 11 then 4#3 else 0#3
    { s with pool := { r with waits := r.waits.map fun x =>
        if x.port = p ∧ x.sent ≠ 7#3 then { x with sent := x.sent ||| bit, sf := sf } else x } :: rest }

/-- An echo belongs to the new map when the head had seen a frame 0 after the superframe that carried the last of it (R93, R106). -/
def echoFresh (x : EchoWait) (q : FhPort) : Bool :=
  x.sent == 7#3 && (let d := (q.echoSf.toNat + 2 ^ 32 - x.sf) % 2 ^ 32; decide (1 ≤ d ∧ d < 2 ^ 31))

/-- The echo of FRAME_NO 9 has arrived at port `p`. -/
def poolLo (p : Nat) (s : State) : State := match s.pool with
  | [] => s
  | r :: rest => { s with pool := { r with waits := r.waits.map fun x =>
      if x.port = p then { x with lo := echoFresh x (s.port p) } else x } :: rest }

/-! ### Leaving UP -/

/-- What DOWN forgets: the line, the measurement, the mailbox and a generation request of its head (R103, R223). FAULT_CAUSE keeps its last
value: R103 does not say when it clears, and the model keeps it until the next fault (the log's choice). -/
def fhDown (p : Nat) (s : State) : State :=
  poolUnwait p <| freeClampOf 3 p <| calAbandon p <| fhExit p (fun s => s.modPort p fun q =>
    { q with state := .down, since := s.clock.now, blockLock := false, frameLock := false, goodRun := 0, badRun := 0,
             hdrRun := 0, hdrSeen := 0, hdrBad := 0, counts := [], derive := none,
             rtts := [], unstable := 0, expected := none, samplesOk := false, timeMode := .none, adopted := false,
             offset := 0, caps := none, headId := none, todo := [], mapTries := 0, mbx := none, mbxOut := [], mbxIn := [],
             headRegs := [], fromDown := true }) s

/-- A port in UP loses frame lock or signal, or sees a time slip (R103). -/
def fhLeaveUp (p : Nat) (s : State) : State :=
  fhExit p (fun s => fhTo p .recover (s.modPort p fun q => { q with samplesOk := false })) s

/-! ### The mailbox (R107) -/

/-- The header word of a mailbox message. -/
def mbxHeader (op seq address : Nat) : Word := BitVec.ofNat 32 (op % 256 * 2 ^ 24 + seq % 256 * 2 ^ 16 + address % 2 ^ 16)

/-- Queue a mailbox command with its words; one command is outstanding at a time (R103, R107). -/
def fhMail (p op address : Nat) (words : List Word) (s : State) : State :=
  s.modPort p fun q =>
    let seq := (q.mbxSeq + 1) % 256
    { q with mbxSeq := seq, mbx := some ⟨op, seq, address, words, 0, none⟩, mbxOut := mbxHeader op seq address :: words }

/-- A word of the upstream mailbox joins the message that is arriving; an idle word between messages is none (R107). -/
def mbxTake (w : Word) (l : List Word) : List Word := if l.isEmpty && w == 0 then [] else l ++ [w]

/-- The words of the reply that begins with `h`: a HEAD_READ's header is followed by VALUE (R107). -/
def replyLength (h : Word) : Nat := if h.toNat / 2 ^ 24 = 2 then 2 else 1

/-- The words of a TIME_LOAD and the fraction left over. SUPERFRAME_NO is the fifth after the superframe that is being sent: five words at two
a superframe leave by the end of the second after it, so that it begins at least 2 superframes after the last (R99, R107). The choice
among those that do is the model's. -/
def timeLoad (s : State) (p : Nat) : List Word × Nat :=
  let q := s.port p
  let sf := q.superframe.toNat + 5
  let last := q.sends.headD (q.superframe.toNat, s.clock.now)
  let leaves : Int := last.2 + superframes (sf - last.1)
  let v := samplePeriods (leaves + (oneWay s p q.rtt).2)
  let n := v.1.toNat % 2 ^ 48
  ([BitVec.ofNat 32 sf, BitVec.ofNat 32 n, BitVec.ofNat 32 (n / 2 ^ 32), BitVec.ofNat 32 s.pair.epoch], v.2.toNat)

/-- In TIME the device sends TIME_LOAD if it may, and otherwise adopts the head's time (R99). -/
def fhBeginTime (p : Nat) (s : State) : State :=
  let q := s.port p
  let s1 := fhTo p .time s
  if !q.headStatus.getLsbD 10 || s.solo || s.holdsToken then
    let l := timeLoad s p
    fhMail p 3 0 l.1 (s1.modPort p fun q => { q with timeMode := .loading, fraction := l.2 })
  else s1.modPort p fun q => { q with timeMode := .adopting, fraction := 0 }

/-- In MAP the device reads HEAD_CAPS (R103, R108). -/
def fhBeginMap (p : Nat) (s : State) : State :=
  fhMail p 2 1 [] (fhTo p .map (s.modPort p fun q =>
    { q with mapTries := 0, rxEn := rxEnOf s p, txEn := txEnOf s p }))

/-- HEAD_CAPS permits the configured slots and paths (R103, R105, R108). -/
def capsPermit (s : State) (p : Nat) (caps : Word) : Bool :=
  let c := caps.toNat
  (slotPaths s p).all (fun kp => decide (kp.1 < c % 16) && decide (kp.2 < c / 2 ^ 8 % 16)) &&
    decide ((txEnOf s p).toNat ≤ 2 ^ (c / 2 ^ 4 % 4) - 1)

/-- The RX_MAP echo of the head matches the map sent (R93, R103). -/
def echoMatches (s : State) (p : Nat) : Bool :=
  (s.port p).echoLo == rxMapWord s p 0 && (s.port p).echoHi == rxMapWord s p 4

/-- The head registers that MAP writes, with their values: RX_CENTRE and RX_GAIN of each enabled receive slot, TX_CENTRE and TX_POWER, the TX_REF
of its stream, of each enabled transmit slot (R103, R108, R192). -/
def headWrites (s : State) (p : Nat) : List (Nat × Nat × Word) :=
  (((List.range 8).filter fun k => (rxEnOf s p).getLsbD k).flatMap fun k =>
    [(1, 0x10 + k, Config.rxCentre p k), (1, 0x20 + k, Config.rxGain p k)]) ++
  ([0, 1].filter fun k => (txEnOf s p).getLsbD k).flatMap fun k =>
    [(1, 0x30 + k, Config.txCentre (2 * p + k)), (1, 0x38 + k, BitVec.ofInt 32 (s.signedAt rTxmStreamCtrl (2 * p + k) 0 16))]

/-- The TX_REF values of port `p` sum, as linear powers, to at most the head's maximum (R193). -/
def powersFit (s : State) (p : Nat) (caps : Word) : Bool :=
  let g (k : Nat) : Int := s.signedAt rTxmStreamCtrl (2 * p + k) 0 16 - 4 * (caps.toNat / 2 ^ 16 % 256 : Nat)
  let on := [0, 1].filter fun k => (txEnOf s p).getLsbD k
  on.all (fun k => decide (g k ≤ 0)) && decide ((on.map fun k => shareOf (g k).natAbs).foldl (· + ·) 0 ≤ 65536)

/-- Send the next mailbox command of MAP (R103, R107). -/
def fhNextTodo (p : Nat) (s : State) : State := match (s.port p).todo with
  | [] => s
  | (op, a, v) :: r => fhMail p op a (if op = 1 then [v] else []) (s.modPort p fun q => { q with todo := r })

/-- Enter UP from MAP: the delays go to calibration, as R104 states, and the streams are valid. -/
def fhEnterUp (p : Nat) (s : State) : State :=
  let q := s.port p
  let fromDown := q.fromDown
  let s1 := fhTo p .up (s.modPort p fun q => { q with samplesOk := true, fromDown := false })
  let d := oneWay s p q.rtt
  p7Check (refreshStreams p (if fromDown then calPortUp p d.1 d.2 q.fraction s1 else s1))

/-- The RX_MAP echo of FRAME_NO 11 has come in: MAP compares the echo with the map, and a change of FH_POOL goes on (R103, R106). -/
def fhEchoCheck (p : Nat) (s : State) : State :=
  let q := s.port p
  match q.state with
  | .map =>
    match q.headId with
    | none => s
    | some _ =>
      if echoMatches s p then fhEnterUp p s
      else if q.mapTries ≥ 3 then fhFault p 4 s
      else s.modPort p fun q => { q with mapTries := q.mapTries + 1 }
  | .up =>
    if (s.pool.headD ⟨0, 0, 0, 0, false, []⟩).waits.any (fun x => x.port == p && x.lo && echoFresh x q) && echoMatches s p then
      poolUnwait p s
    else s
  | _ => s

/-! ### The commands -/

/-- FH_SIGNAL_DETECT: a DOWN port with a signal enters BLOCK_LOCK under the port's clamp and sends training frames (R103, activity 3 of
R472). A port that JIG_PORT holds stays out of service (R484); one whose wait ran out tries again after 1 s (R472). -/
def execFhSignalDetect (t : Time) (p : Nat) (s : State) : Outcome State Fault Refusal :=
  onInst (p < 32) <|
    let s := s.arrive t
    let s1 := s.modPort p fun q => { q with signal := true }
    if s.portRuns p && (s.port p).state == .down && decide ((s.port p).retryAt ≤ s.clock.now) && !(s.hlt.jigPort.any fun x => x.2 == p) then
      let (got, s2) := askClamp 3 p s1
      if got then fhTo p .blockLock s2 else s2
    else s1

/-- Port `p` loses block lock, which ends frame lock; from UP it goes to RECOVER (R88, R103). -/
def blockLost (p : Nat) (s : State) : State :=
  let s1 := s.modPort p fun q =>
    { q with blockLock := false, frameLock := false, goodRun := 0, badRun := 0, counts := [], expected := none, derive := none }
  if (s.port p).state == .up then fhLeaveUp p s1 else s1

/-- One sync header against the block-lock rules of Clause 49: 64 valid ones in a row gain lock, 16 invalid ones within 64 lose it (R88). -/
def hdrStep (h : BitVec 2) (q : FhPort) : FhPort :=
  if !q.blockLock then
    let run := if syncValid h then q.hdrRun + 1 else 0
    if 64 ≤ run then { q with blockLock := true, hdrRun := 0, hdrSeen := 0, hdrBad := 0 } else { q with hdrRun := run }
  else
    let seen := q.hdrSeen + 1
    let bad := q.hdrBad + (!syncValid h).toNat
    if 16 ≤ bad then { q with blockLock := false, hdrRun := 0, hdrSeen := 0, hdrBad := 0 }
    else if 64 ≤ seen then { q with hdrSeen := 0, hdrBad := 0 }
    else { q with hdrSeen := seen, hdrBad := bad }

/-- A sync header arrives at port `p`, and what a gain or a loss of block lock brings (R88, R103). -/
def hdrTake (p : Nat) (h : BitVec 2) (s : State) : State :=
  let q := s.port p
  let q' := hdrStep h q
  let s1 := s.setPort p q'
  if !q.blockLock && q'.blockLock then (if q.state == .blockLock then freeClampOf 3 p (fhTo p .frameLock s1) else s1)
  else if q.blockLock && !q'.blockLock then blockLost p s1
  else s1

/-- FH_BLOCK_LOCK: the sync headers that have arrived, by which block lock is gained or lost (R88, R103). -/
def execFhBlockLock (t : Time) (p : Nat) (headers : List (BitVec 2)) (s : State) : Outcome State Fault Refusal :=
  onInst (p < 32) <|
    let s := s.arrive t
    if !s.portRuns p then s else headers.foldl (fun s h => hdrTake p h s) s

/-- FH_BLOCK_LOCK_TIMEOUT: 10 ms without block lock (R103). -/
def execFhBlockLockTimeout (t : Time) (p : Nat) (s : State) : Outcome State Fault Refusal :=
  onInst (p < 32) <|
    let s := s.arrive t
    if (s.port p).state == .blockLock && decide ((s.port p).since + ms 10 ≤ s.clock.now) then
      fhDown p (bump cFhTrainFail p s)
    else s

/-- The fields of a good upstream control block (R91, R93). -/
def fhTakeFields (p : Nat) (w : BitVec 64) (s : State) : State :=
  let sub : Word := BitVec.ofNat 32 (cbField w 10 32)
  let n := cbField w 50 4
  let s := s.modPort p fun q => { q with normal := cbField w 56 8 == 0x5A, headTx := w.getLsbD 55, losOther := w.getLsbD 54,
                                         counts := aput q.counts n (cbField w 42 8) }
  if n % 2 = 0 then
    let s1 := s.modPort p fun q => { q with headStatus := sub }
    let s2 := if sub.getLsbD 11 then bump cFhTxLateReport p s1 else s1
    if sub.getLsbD 12 then bump cFhEpochConflict p s2 else s2
  else match n with
    | 1 => s.modPort p fun q => { q with headTimeLo := sub }
    | 3 => s.modPort p fun q => { q with headTimeHi := sub.toNat % 2 ^ 16 }
    | 5 => s.modPort p fun q => { q with echoSf := sub }
    | 7 => s.modPort p fun q => { q with turnaround := sub.toNat }
    | 9 => poolLo p (s.modPort p fun q => { q with echoLo := sub })
    | 11 => fhEchoCheck p (s.modPort p fun q => { q with echoHi := sub })
    | _ => s.modPort p fun q => { q with mbxIn := mbxTake sub q.mbxIn }

/-- FH_CONTROL_BLOCK_RX: an expected control-block position of the upstream frame (R90, R91, R93). -/
def execFhControlBlockRx (t : Time) (p : Nat) (syncGood : Bool) (w : BitVec 64) (s : State) :
    Outcome State Fault Refusal :=
  onInst (p < 32) <|
    let s := s.arrive t
    let q := s.port p
    if !(s.portRuns p && q.blockLock) then s
    else if cbGood syncGood w then
      let run := q.goodRun + 1
      let locked := q.frameLock || decide (4 ≤ run)
      let s1 := fhTakeFields p w
        (s.modPort p fun q => { q with goodRun := run, badRun := 0, frameLock := locked })
      if locked && (s1.port p).state == .frameLock && cbField w 56 8 == 0x5A then
        fhTo p .delay (s1.modPort p fun q => { q with rtts := [], unstable := 0 })
      else s1
    else if q.frameLock then
      let bad := q.badRun + 1
      let s1 := if syncGood && w.truncate 8 != crc8 w then bump cFhCbCrc p s else s
      if 4 ≤ bad then
        let s2 := s1.modPort p fun q =>
          { q with frameLock := false, goodRun := 0, badRun := 0, counts := [], expected := none, derive := none }
        if q.state == .up then fhLeaveUp p s2 else s2
      else s1.modPort p fun q => { q with goodRun := 0, badRun := bad }
    else s.modPort p fun q => { q with goodRun := 0 }

/-! ### Superframes (R96, R99 to R103) -/

/-- The round trip of R100 in 1/16 ns, timed to one unit interval, when the echoed superframe is among the last 32 sent. -/
def rttOf (q : FhPort) (rxTime : Time) : Option Int :=
  match q.sends.find? (fun x => x.1 == q.echoSf.toNat) with
  | none => none
  | some x => some (((unitIntervals rxTime : Int) - unitIntervals x.2 - (q.turnaround : Int)) * 256 / 100)

/-- The delay measurement of a superframe (R100, R101, R103). -/
def fhMeasure (p : Nat) (rxTime : Time) (s : State) : State :=
  let q := s.port p
  match rttOf q rxTime with
  | none => s
  | some r =>
    let d := oneWay s p r
    let l := (r :: q.rtts).take 64
    let s1 := s.modPort p fun q => { q with rtts := l }
    match q.state with
    | .delay =>
      if (us 100 : Int) < d.1 ∨ (us 100 : Int) < d.2 then fhFault p 1 (bump cFhDelayRange p s1)
      else if l.length < 64 then s1
      else if 32 < rttSpread l then
        let s2 := bump cFhDelayUnstable p (s1.modPort p fun q => { q with rtts := [], unstable := q.unstable + 1 })
        if 4 ≤ q.unstable + 1 then fhFault p 2 s2 else s2
      else fhBeginTime p (s1.modPort p fun q => { q with rtt := rttMean l })
    | .time | .map | .up | .recover => s1.modPort p fun q => { q with rtt := rttMean l }
    | _ => s1

/-- HEAD_TIME of the superframe that has arrived (R93). -/
def FhPort.headTime (q : FhPort) : Nat := q.headTimeHi % 2 ^ 16 * 2 ^ 32 + q.headTimeLo.toNat

/-- HEAD_TIME has arrived whole with the superframe. -/
def FhPort.timeSeen (q : FhPort) : Bool := (q.counts.any fun c => c.1 == 1) && q.counts.any fun c => c.1 == 3

/-- How far the head time that the superframe carries lies ahead of device time at the head, in 1/16 ns modulo its 48 bits (R96, R99). -/
def headAhead (s : State) (p : Nat) (rxTime : Time) : Int :=
  nearZero (((s.port p).headTime : Int) * 3125 / 4 - ((rxTime : Int) - (oneWay s p (s.port p).rtt).1)) (2 ^ 46 * 3125)

/-- HEAD_TIME is as expected within one sample (R103): the head's counter less the offset of R99 agrees with device time. -/
def headTimeOk (s : State) (p : Nat) (rxTime : Time) : Bool := decide ((headAhead s p rxTime - (s.port p).offset).natAbs ≤ 3125 / 4)

/-- FH_RX_LAG of a superframe whose groups arrived at `arrivals`: the greatest arrival minus head-time tag, the offset of R99 taken off the
tag (R99, R102). A superframe without groups leaves it. -/
def rxLagOf (q : FhPort) (arrivals : List Time) : Nat :=
  if arrivals.isEmpty then q.rxLag
  else arrivals.zipIdx.foldl
    (fun m x => max m ((((x.1 : Int) - (((q.headTime + x.2 : Nat) : Int) * 3125 / 4 - q.offset)) % (2 ^ 46 * 3125 : Int)).toNat)) 0

/-- The verdict on a superframe (R96): a time slip; the samples of all of it invalid; those of single frames invalid. -/
structure FrameCheck where
  slip : Bool
  bad  : Bool
  part : Bool
  deriving DecidableEq, Repr

/-- Check a superframe against the last (R96), and foretell the next HEAD_TIME. The GROUP_COUNT of a single lost control block is what
the next HEAD_TIME leaves for it. -/
def fhCheck (p : Nat) (s : State) : FrameCheck × State :=
  let q := s.port p
  let cap := rxCapacity (ones q.rxEn)
  let lost := 16 - q.counts.length
  let total := q.counts.foldl (fun n c => n + c.2) 0
  let base := if q.timeSeen then some q.headTime else q.expected
  let overfull := (q.counts.filter fun c => decide (cap < c.2)).length
  let late := match q.derive, base with
    | some (h0, n), some b => decide (cap < (b + 2 ^ 48 - (h0 + n) % 2 ^ 48) % 2 ^ 48)
    | _, _ => false
  let slip := q.timeSeen && (match q.expected with | some e => e != q.headTime | none => false)
  let gaps := overfull + late.toNat + if 1 < lost then 1 else 0
  (⟨slip, slip || decide (1 < lost), decide (0 < overfull) || late⟩,
   (bumpBy cFhGroupGap p gaps s).modPort p fun q =>
    { q with counts := [],
             expected := if lost = 0 then base.map (fun b => (b + total) % 2 ^ 48) else none,
             derive := if lost = 1 then base.map (fun b => (b, total)) else none })

/-- The streams of port `p` follow the samples of its superframe (R96, R105): all invalid, or those of single frames only. -/
def fhSamples (p : Nat) (c : FrameCheck) (s : State) : State :=
  let mark (b : Bool) (s : State) : State := refreshStreams p (s.modPort p fun q => { q with samplesOk := b })
  if c.bad then mark false s else if c.part then mark true (mark false s) else mark true s

/-- FH_SUPERFRAME_RX: an upstream superframe whose frame 0 arrived at `rxTime` and whose groups arrived at `arrivals` (R96, R99 to R103). -/
def execFhSuperframeRx (t : Time) (p : Nat) (rxTime : Time) (arrivals : List Time) (s : State) :
    Outcome State Fault Refusal :=
  onInst (p < 32) <|
    let s := s.arrive t
    let q := s.port p
    if !(s.portRuns p && q.frameLock) then s
    else
      let (c, s1) := fhCheck p (s.modPort p fun q => { q with rxLag := rxLagOf q arrivals })
      match q.state with
      | .up =>
        if c.slip then fhLeaveUp p (bump cFhTimeSlip p s1) else fhMeasure p rxTime (fhSamples p c s1)
      | .delay | .map => fhMeasure p rxTime s1
      | .time =>
        let s2 := fhMeasure p rxTime s1
        match q.timeMode with
        | .loaded => if q.timeSeen && headTimeOk s p rxTime then fhBeginMap p s2 else s2
        | .adopting =>
          if q.headStatus.getLsbD 10 && q.timeSeen then
            fhBeginMap p (s2.modPort p fun q => { q with adopted := true, offset := headAhead s p rxTime })
          else s2
        | _ => s2
      | .recover =>
        if c.slip then fhDown p s1
        else if !(q.timeSeen && q.expected == some q.headTime) then s1
        else match rttOf q rxTime with
        | none => s1
        | some r =>
          if headTimeOk s p rxTime && decide ((r - q.rtt).natAbs ≤ 32) then
            p7Check (fhSamples p c (fhTo p .up (fhMeasure p rxTime s1)))
          else fhDown p s1
      | _ => s1

/-! ### Downstream frames -/

/-- The SUB item of the rotation and the port after it was sent (R92). -/
def fhSub (s : State) (p : Nat) : Word × FhPort :=
  let q := s.port p
  let n := q.frameNo
  if n % 2 = 0 then (BitVec.ofNat 32 s.pair.epoch, { q with epochSent := some s.pair.epoch })
  else match n with
    | 1 => (q.superframe, q)
    | 3 => (BitVec.ofNat 32 q.txTime, q)
    | 5 => (BitVec.ofNat 32 (q.txTime / 2 ^ 32 % 2 ^ 16), q)
    | 7 => (rxMapWord s p 0, q)
    | 9 => (rxMapWord s p 4, q)
    | 11 => (slotsWord s p, { q with rxEn := rxEnOf s p, txEn := txEnOf s p })
    | _ => match q.mbxOut with
      | [] => (0, q)
      | [w] => (w, { q with mbxOut := [], mbx := q.mbx.map fun c => { c with sentAt := some s.clock.now } })
      | w :: r => (w, { q with mbxOut := r })

/-- TX_TIME of a superframe: it runs on by the groups sent, and begins anew, TX_LEAD and the downlink delay ahead, when none were (R92,
R95, R102). -/
def nextTxTime (s : State) (p : Nat) : Nat :=
  let q := s.port p
  let play := (s.clock.now : Int) + us (s.fldAt rFhPortCtrl p 8 8) + (oneWay s p q.rtt).2
  if 0 < q.txGroups then (q.txTime + q.txGroups) % 2 ^ 48 else ((samplePeriods (play + q.offset)).1 % (2 ^ 48 : Int)).toNat

/-- Where a frame of port `p` goes: to the head, or in loopback to the port's own receiver with device time as head time (R114). -/
def fhSend (p : Nat) (blocks : List Block) (s : State) : State :=
  if (s.port p).state == .loop then
    s.out (.fhLooped p (s.fldAt rFhPortCtrl p 1 2) blocks ((samplePeriods s.clock.now).1.toNat % 2 ^ 48))
  else s.out (.fhFrame p blocks)

/-- The frame of a frozen device: its Sample island no longer changes, and the control block carries GRANT 0 and no groups (R46, R480). -/
def frozenFrame (s : State) (p : Nat) : List Block :=
  let q := s.port p
  frameBlocks (controlBlock (if q.state == .up || q.state == .recover then 0xA5 else 0x96) false q.frameNo 0 (fhSub s p).1) 0 []

/-- FH_FRAME_TX: the next downstream frame, with the samples of its transmit groups (R89, R91, R92, R94, R95, R102). GRANT is 1 only in UP,
while the token is held and once a control block has carried the epoch in force. A frozen device sends GRANT 0 (R46). -/
def execFhFrameTx (t : Time) (p : Nat) (groups : List (List Word)) (s : State) : Outcome State Fault Refusal :=
  onInst (p < 32) <|
    let s := s.arrive t
    let q := s.port p
    if q.state == .down || q.state == .fault then s
    else if s.hlt.frozen && s.fldAt rFhPortCtrl p 0 1 == 1 && s.start.islands.getLsbD 1 then s.out (.fhFrame p (frozenFrame s p))
    else if !s.portRuns p then s
    else
      let normal := q.state == .up || q.state == .recover
      let grant := q.state == .up && s.grants && q.epochSent == some s.pair.epoch
      let s0 := if q.frameNo = 0 then s.modPort p fun q =>
          { q with sends := ((q.superframe.toNat, s.clock.now) :: q.sends).take 32, txTime := nextTxTime s p, txGroups := 0 } else s
      let (sub, q') := fhSub s0 p
      let m := ones q'.txEn
      let g := if normal || q.state == .loop then groups.take (txCapacity m) else []
      let next := (q.frameNo + 1) % 16
      let block := controlBlock (if normal then 0xA5 else 0x96) grant q.frameNo g.length sub
      fhSend p (frameBlocks block m g) (poolSent p q.frameNo q.superframe.toNat
        (s0.setPort p { q' with frameNo := next, grantSent := grant, txGroups := q'.txGroups + g.length,
                                superframe := if next = 0 then q.superframe + 1 else q.superframe }))

/-- FH_TIME_TIMEOUT: 10 ms in TIME with a head time neither loadable nor TIME_LOADED (R103). -/
def execFhTimeTimeout (t : Time) (p : Nat) (s : State) : Outcome State Fault Refusal :=
  onInst (p < 32) <|
    let s := s.arrive t
    if (s.port p).state == .time && decide ((s.port p).since + ms 10 ≤ s.clock.now) then fhFault p 3 s else s

/-- FH_RECOVER_TIMEOUT: 1 s in RECOVER (R103). -/
def execFhRecoverTimeout (t : Time) (p : Nat) (s : State) : Outcome State Fault Refusal :=
  onInst (p < 32) <|
    let s := s.arrive t
    if (s.port p).state == .recover && decide ((s.port p).since + sec 1 ≤ s.clock.now) then fhDown p s else s

/-- FH_FAULT_TIMEOUT: 1 s in FAULT (R103). -/
def execFhFaultTimeout (t : Time) (p : Nat) (s : State) : Outcome State Fault Refusal :=
  onInst (p < 32) <|
    let s := s.arrive t
    if (s.port p).state == .fault && decide ((s.port p).since + sec 1 ≤ s.clock.now) then fhDown p s else s

/-- What the reply `h` with VALUE `v` to the outstanding command `c` brings about (R99, R103, R107). A refused HEAD_WRITE is read back and
the value adopted. A HEAD_READ answered REFUSED or BAD_ADDRESS has no action in R107: the model drops it, and the port waits in MAP (the
log's choice); a HEAD_WRITE answered BAD_ADDRESS is read back like a refused one. -/
def fhReply (p : Nat) (c : MbxCmd) (ok : Bool) (v : Word) (s : State) : State :=
  let reg (a : Nat) (v : Word) (s : State) : State := s.modPort p fun q => { q with headRegs := aput q.headRegs a v }
  match c.op with
  | 3 => s.modPort p fun q => { q with timeMode := if ok then .loaded else .adopting, fraction := if ok then q.fraction else 0 }
  | 2 =>
    if !ok then s
    else if c.address = 1 then
      let s1 := s.modPort p fun q => { q with caps := some v, todo := headWrites s p ++ [(2, 0, 0)] }
      if (s.port p).state ≠ .map then s1
      else if capsPermit s p v && powersFit s p v then fhNextTodo p s1
      else fhFault p 6 s1
    else if c.address = 0 then fhNextTodo p (s.modPort p fun q => { q with headId := some v })
    else fhNextTodo p (reg c.address v s)
  | _ => if ok then fhNextTodo p (reg c.address (c.words.headD 0) s) else fhMail p 2 c.address [] s

/-- FH_MBX_REPLY: the message that has arrived is taken as the reply to the outstanding command (R107). STATUS 0 is OK, 1 REFUSED, 2
BAD_ADDRESS. -/
def execFhMbxReply (t : Time) (p : Nat) (s : State) : Outcome State Fault Refusal :=
  onInst (p < 32) <|
    let s := s.arrive t
    let q := s.port p
    match q.mbxIn with
    | [] => s
    | h :: r =>
      if q.mbxIn.length < replyLength h ∨ !s.sampleUp then s
      else
        let s1 := s.modPort p fun q => { q with mbxIn := q.mbxIn.drop (replyLength h) }
        match q.mbx with
        | none => s1
        | some c =>
          if h.toNat / 2 ^ 24 ≠ c.op ∨ h.toNat / 2 ^ 16 % 256 ≠ c.seq then s1
          else fhReply p c (h.toNat % 2 ^ 16 == 0) (r.headD 0) (s1.modPort p fun q => { q with mbx := none, mbxOut := [] })

/-- FH_MBX_TIMEOUT: no reply within 1 ms of the command's last word; the command is sent again, a TIME_LOAD for a superframe that is
still to come, and a fourth timeout fails the port (R103). -/
def execFhMbxTimeout (t : Time) (p : Nat) (s : State) : Outcome State Fault Refusal :=
  onInst (p < 32) <|
    let s := s.arrive t
    match (s.port p).mbx with
    | none => s
    | some c =>
      if !s.sampleUp || !(c.sentAt.any fun x => decide (x + ms 1 ≤ s.clock.now)) then s
      else
        let s1 := bump cFhMbxTimeout p s
        if 3 ≤ c.timeouts then fhFault p 5 s1
        else
          let l := if c.op = 3 then timeLoad s p else (c.words, (s.port p).fraction)
          s1.modPort p fun q => { q with mbx := some { c with timeouts := c.timeouts + 1, words := l.1, sentAt := none },
                                         mbxOut := mbxHeader c.op c.seq c.address :: l.1, fraction := l.2 }

/-! ### Loopback (R114) -/

/-- A write of FH_PORT_CTRL.LOOP: a nonzero LOOP takes effect only while the jig holds the port's clamp (R114), and puts a port in use into
LOOP (R103). LOOP 0 leaves loopback for DOWN. -/
def fhLoop (p : Nat) (loop : BitVec 2) (s : State) : State :=
  if !s.sampleUp then s
  else if loop = 0 then
    let s1 := s.setFldAt rFhPortCtrl p 1 2 0
    if (s.port p).state == .loop then fhDown p s1 else s1
  else if (s.clamp p).holder = 1 then
    let s1 := s.setFldAt rFhPortCtrl p 1 2 loop.toNat
    if s.fldAt rFhPortCtrl p 0 1 = 0 then s1
    else fhExit p (fun s => fhTo p .loop (s.modPort p fun q => { q with samplesOk := false })) s1
  else bump cFhLoopRefuse p s

/-- FH_LOOP_WRITE: FH_PORT_CTRL.LOOP is written (R114). -/
def execFhLoopWrite (t : Time) (p : Nat) (loop : BitVec 2) (s : State) : Outcome State Fault Refusal :=
  onInst (p < 32) (fhLoop p loop (s.arrive t))

/-- A write of ANA_PORT_CTRL.LOOP, under the same rule (R114): while the port is in loopback its streams are invalid. -/
def anaLoop (p : Nat) (loop : BitVec 2) (s : State) : State :=
  if !s.sampleUp then s
  else if loop = 0 then refreshStreams (32 + p) (s.setFldAt rAnaPortCtrl p 6 2 0)
  else if (s.clamp (32 + p)).holder = 1 then portLeftUp (32 + p) (s.setFldAt rAnaPortCtrl p 6 2 loop.toNat)
  else bump cAnaLoopRefuse p s

/-- ANA_LOOP_WRITE: ANA_PORT_CTRL.LOOP is written (R114). -/
def execAnaLoopWrite (t : Time) (p : Nat) (loop : BitVec 2) (s : State) : Outcome State Fault Refusal :=
  onInst (p < 4) (anaLoop p loop (s.arrive t))

/-- POOL_ENTRY: an authenticated MGMT-CMD changes one FH_POOL entry: the stream is invalidated, the new map goes out, and the entry becomes
valid once the echo returns (R106). A change that comes while another is in hand waits for it. An analogue converter and a port that
is not UP have no map to wait for. -/
def execPoolEntry (t : Time) (dsn : Nat) (s : State) : Outcome State Fault Refusal :=
  onInst true <|
    let s := s.arrive t
    match s.argsOf dsn 5 with
    | none => s
    | some a =>
    if !s.sampleUp || s.pool.any (fun r => r.dsn == dsn) then s
    else if 128 ≤ octetAt a 0 then finish dsn .refused s
    else
      let r : Remap := ⟨octetAt a 0, BitVec.ofNat 32 (beAt a 4 4), dsn, s.clock.now, false, []⟩
      if s.pool.isEmpty then poolGo [r] s else { s with pool := s.pool ++ [r] }

/-- FH_LOSS_OF_SIGNAL: a port in UP enters RECOVER; the line is lost (R103). -/
def execFhLossOfSignal (t : Time) (p : Nat) (s : State) : Outcome State Fault Refusal :=
  onInst (p < 32) <|
    let s := s.arrive t
    let s1 := s.modPort p fun q =>
      { q with signal := false, blockLock := false, frameLock := false, goodRun := 0, badRun := 0, hdrRun := 0, hdrSeen := 0,
               hdrBad := 0, counts := [], expected := none, derive := none }
    if (s.port p).state == .up then fhLeaveUp p s1 else s1

end Sys2Proof.Machine
end

