-- ==== Sys2Proof/Machine/Nodes.lean ====
section
/-! DEFINITION. The meanings of the commands of the packet plane (12_mesh_and_forwarding.md): learning, the life of node entries,
rehashing, ageing, forwarding, and the seen cache. -/

namespace Sys2Proof.Machine

open Host

/-! ### Learning (R350, R353, R354) -/

/-- HOME_MARGIN in 0.25 dB. -/
def homeMargin (s : State) : Int := s.fld rFwdCtrl 12 8

/-- The quality of a member of LEVEL `l` (R350). -/
def qualityOf (s : State) (l : Int) : Int := l - toSigned 16 (s.fld rCalNoise 0 16)

/-- One port of a learn event enters the heard list: a quarter of the way, a free place, or the place of the oldest (R350). -/
def heardPut (now : Nat) (p : Nat) (q : Int) (l : List Heard) : List Heard :=
  if l.any fun h => h.port == p then
    l.map fun h => if h.port = p then { h with quality := h.quality + (q - h.quality) / 4, last := now } else h
  else if l.length < 4 then l ++ [⟨p, q, now⟩]
  else
    let age (h : Heard) : Nat := (now + 2 ^ 32 - h.last) % 2 ^ 32
    let old := l.foldl (fun b h => if age b < age h then h else b) (l.headD ⟨p, q, now⟩)
    l.map fun h => if h = old then ⟨p, q, now⟩ else h

/-- The quality of port `p` in a heard list. -/
def heardQ (l : List Heard) (p : Nat) : Option Int := (l.find? fun h => h.port == p).map fun h => h.quality

/-- The port of highest quality, the lower number on a tie (R352, R353). -/
def bestPort (l : List (Nat × Int)) : Option Nat :=
  (l.foldl (fun b x => match b with
    | none => some x
    | some y => if y.2 < x.2 ∨ y.2 = x.2 ∧ x.1 < y.1 then some x else some y) (none : Option (Nat × Int))).map fun x => x.1

/-- The port that leads the home port by HOME_MARGIN, if any: the one of highest QUALITY (R354). -/
def leaderOf (s : State) (n : Node) : Option Nat :=
  bestPort ((n.heard.filter fun h => h.port != n.homePort && (match heardQ n.heard n.homePort with
    | some q => decide (q + homeMargin s ≤ h.quality)
    | none => true)).map fun h => (h.port, h.quality))

/-- Device time in ms, mod 2^16. -/
def State.millis (s : State) : Nat := s.clock.now / ms 1 % 2 ^ 16

/-- The challenge of a node after a learn event: it goes on, restarts or ends (R354). -/
def challenge (s : State) (n : Node) : Node :=
  if n.unhomed then n
  else
    let l := leaderOf s n
    if l = n.challenger then n else { n with challenger := l, challengeStart := s.millis }

/-- Open or extend the learn window of node `e` (R353). -/
def collect (e : Eui) (ports : List (Nat × Int)) (isNew : Bool) (reserve : Option Nat) (s : State) : State :=
  if s.fwd.windows.any fun w => w.node == e then
    { s with fwd.windows := s.fwd.windows.map fun w => if w.node = e then { w with ports := w.ports ++ ports } else w }
  else { s with fwd.windows := s.fwd.windows ++ [⟨e, s.clock.now, ports, reserve, isNew⟩] }

/-- Apply a learn event, in qualities, to the entry at INDEX `i` (R350, R354). -/
def learnInto (i : Nat) (ports : List (Nat × Int)) (s : State) : State :=
  s.modNode i fun n => challenge s { n with heard := ports.foldl (fun l x => heardPut s.second x.1 x.2 l) n.heard }

/-- LEARN_EVENT: a node was heard on ports at LEVELs (R350, R353). The event of a new sender is held for its entry. -/
def execLearnEvent (t : Time) (e : Eui) (ports : List (Nat × Int)) (s : State) : Outcome State Fault Refusal :=
  onInst (ports.all fun x => x.1 < 36) <|
    let s := s.arrive t
    let qs := ports.map fun x => (x.1, qualityOf s x.2)
    if !s.packetUp then s
    else match s.indexOf e with
      | some i => collect e qs false none (learnInto i qs s)
      | none => { s with fwd.newcomers := s.fwd.newcomers.map fun m => if m.node = e then { m with events := m.events ++ qs } else m }

/-- NEW_SENDER_ADMIT: at the address point of a frame under a GROUP key from a node without an entry, one token is reserved on the best
member port; an empty bucket refuses the frame or leaves the node without a home (R351, R352). -/
def execNewSenderAdmit (t : Time) (g : Nat) (e : Eui) (ports : List (Nat × Int)) (s : State) : Outcome State Fault Refusal :=
  onInst (decide (g < 4096) && ports.all fun x => x.1 < 36) <|
    let s := s.arrive t
    let qs := ports.map fun x => (x.1, qualityOf s x.2)
    match afind s.key.ctxs g with
    | none => s
    | some c =>
      if c.fields.kim ≠ 1 ∨ c.fields.source ≠ some e ∨ c.bound.isNone ∨ (s.indexOf e).isSome ∨ !s.packetUp then s
      else if s.fwd.newcomers.any fun m => m.node == e then
        if s.fwd.windows.any fun w => w.node == e then collect e qs true none s else s
      else
        let add (r : Option Nat) (s : State) : State := collect e qs true r { s with fwd.newcomers := s.fwd.newcomers ++
          [⟨e, g, r, none, false, false, [], c.fields.pan, 0, 0, none, s.clock.now⟩] }
        match bestPort qs with
        | none => add none s
        | some p =>
          if hasToken s p then add (some p) (spendToken p s)
          else if policyFlood s p then add none s
          else setCtx g { c with bound := none, failed := some .noKey, silent := true } (bump cFwdLearnDrop 0 s)

/-- The window of a new sender closes: its home port is decided, with at most one charge (R351, R353). -/
def closeNew (w : LearnWin) (s : State) : State :=
  let s0 : State := { s with fwd.windows := s.fwd.windows.filter fun x => x.node != w.node }
  let r := w.reserve
  let up := w.ports.filter fun x => s.headUp x.1 || r == some x.1
  let out : Option Nat × State := match bestPort up with
    | none => (r, s0)
    | some p =>
      if r = some p then (r, s0)
      else if hasToken s0 p then (some p, match r with
        | some q => giveToken q (spendToken p s0)
        | none => spendToken p s0)
      else (r, s0)
  { out.2 with fwd.newcomers := out.2.fwd.newcomers.map fun m =>
      if m.node = w.node then { m with home := out.1, decided := true, reserve := none } else m }

/-- Home the node at INDEX `i` on port `p`, or count why not (R351, R353). That an UNHOMED node that finds no token is counted like a move not made is
the model's choice. -/
def homeOn (i p : Nat) (move : Bool) (s : State) : State :=
  if hasToken s p then
    let s2 := (spendToken p s).modNode i fun n => { n with homePort := p, unhomed := false, dormant := false, challenger := none }
    if move then bump cFwdHomeMove 0 s2 else s2
  else bump cFwdLearnLimit 0 s

/-- The window of a node with an entry closes (R353, R354). -/
def closeOld (w : LearnWin) (i : Nat) (n : Node) (s : State) : State :=
  let s0 := hit n.eui { s with fwd.windows := s.fwd.windows.filter fun x => x.node != w.node }
  if n.unhomed then
    match bestPort (w.ports.filter fun x => s.headUp x.1) with
    | some p => homeOn i p false s0
    | none => s0
  else match n.challenger with
    | some p =>
      if decide (s.fld rFwdCtrl 20 8 * 100 ≤ (s.millis + 2 ^ 16 - n.challengeStart) % 2 ^ 16) && s.headUp p then homeOn i p true s0
      else s0
    | none => s0

/-- LEARN_WINDOW_CLOSE: LEARN_WINDOW after the first event of the node (R353). -/
def execLearnWindowClose (t : Time) (e : Eui) (s : State) : Outcome State Fault Refusal :=
  onInst true <|
    let s := s.arrive t
    match s.fwd.windows.find? fun w => w.node == e with
    | none => s
    | some w =>
      if !s.packetUp || decide (s.clock.now < w.opened + us (s.fld rFwdCtrl 0 12)) then s
      else if w.isNew then closeNew w s
      else match s.nodeOf e with
        | some (i, n) => closeOld w i n s
        | none => { s with fwd.windows := s.fwd.windows.filter fun x => x.node != e }

/-! ### The octets of an entry (R332) -/

/-- A 32-bit word of an entry in DRAM: little-endian octets. -/
def leOctets (n : Nat) : Octets := (natToOs 4 (n % 2 ^ 32)).reverse

/-- A signed value in a field of `w` bits. -/
def inField (w : Nat) (v : Int) : Nat := (v % 2 ^ w).toNat

/-- The two words of a place of the heard list; a free place is 0. -/
def Heard.words (h : Option Heard) : List Nat := match h with
  | some h => [h.port * 2 ^ 26 + 2 ^ 25 + inField 16 h.quality, h.last]
  | none => [0, 0]

/-- The four words of the calibration field (R229). -/
def CalField.words (c : CalField) : List Nat :=
  [inField 24 c.carrier * 2 ^ 8 + c.fresh, inField 16 c.drift * 2 ^ 16 + c.sigma, inField 16 c.timing * 2 ^ 16 + c.pathLoss, c.lastAsn % 2 ^ 32]

/-- The four words of the security field of the entry at INDEX `i` (R274). -/
def SecField.words (c : SecField) (i : Nat) : List Nat :=
  [c.fcHwm, c.txFc, i * 2 ^ 9 + c.blobValid.toNat, c.kekId * 2 ^ 28 + c.keyGen % 2 ^ 28]

/-- The 32 words of the entry at INDEX `i`, of which `refs` cells speak, with its EUI-64 in the first two, low word first (R332). -/
def Node.words (n : Node) (i refs : Nat) : List Nat :=
  [n.eui.toNat % 2 ^ 32, n.eui.toNat / 2 ^ 32,
   i * 2 ^ 9 + 2 ^ 8 + n.static.toNat * 2 ^ 7 + n.dormant.toNat * 2 ^ 6 + n.unhomed.toNat * 2 ^ 5 + n.role * 2 ^ 3,
   n.pan.toNat * 2 ^ 16 + n.homePort * 2 ^ 10 + refs, n.ageStamp,
   n.challenger.getD 0 * 2 ^ 26 + n.challengeStart, n.parent.getD 0 * 2 ^ 9 + n.parent.isSome.toNat * 2 ^ 8 + inField 8 n.txPower,
   n.lastDigest.toNat] ++
  (List.range 4).flatMap (fun k => Heard.words n.heard[k]?) ++ n.cal.words ++ n.sec.words i ++
  (List.range 8).map fun k => n.firmware.toNat / 2 ^ (32 * k) % 2 ^ 32

/-- The 128 octets of the entry at INDEX `i` (R332). -/
def nodeOctets (s : State) (i : Nat) (n : Node) : Octets := (n.words i (cellRefs s i)).flatMap leOctets

/-- Where an entry lies in DRAM: its slot of the node table, from FWD_NT_BASE (R335). -/
def slotAddress (base slot : Nat) : Nat := base + slot * 128

/-- Where the tag of a slot, and the index-map word of an INDEX, lie from FWD_NT_BASE: after 1 GiB of slots, and after 16 MiB of tags (R335). -/
def tagAddress (base slot : Nat) : Nat := base + 2 ^ 30 + 2 * slot
def indexMapAddress (base i : Nat) : Nat := base + 2 ^ 30 + 2 ^ 24 + 4 * i

/-! ### Creation and insertion (R333, R337, R339, R352, R356) -/

/-- The entry of a new sender comes into being under INDEX `i` at place `p`: with its home port, the counter and digest held for it, and
its held learn events (R350, R352). -/
def bornNode (m : NewSender) (i : Nat) (p : NodePlace) (s : State) : State :=
  let s0 := match s.fwd.windows.find? fun w => w.node == m.node && w.isNew with
    | some w => closeNew w s
    | none => s
  let m1 := (s0.fwd.newcomers.find? fun x => x.node == m.node).getD m
  let n := freshNode s0 m.node m.pan p
  let n1 : Node := { n with unhomed := m1.home.isNone, homePort := m1.home.getD 0, lastDigest := m1.digest,
                            sec := { n.sec with fcHwm := m1.counter } }
  let s1 := putNode i n1 { s0 with fwd.newcomers := s0.fwd.newcomers.filter fun x => x.node != m.node }
  let s2 := if m1.home.isNone then bump cFwdLearnFlood 0 s1 else s1
  if m1.events.isEmpty then s2 else collect m.node m1.events false none (learnInto i m1.events s2)

/-- The creation of a new sender's entry is given up: the node is a new sender again at its next frame (R356). -/
def creationLost (e : Eui) (s : State) : State :=
  { s with fwd.newcomers := s.fwd.newcomers.filter fun m => m.node != e }

/-- NODE_ENTRY_CREATE: the active or solo chip allocates an INDEX for an accepted new sender and passes the creation to Emaidor (R333,
R352, R356, R365). -/
def execNodeEntryCreate (t : Time) (e : Eui) (s : State) : Outcome State Fault Refusal :=
  onInst true <|
    let s := s.arrive t
    match s.fwd.newcomers.find? fun m => m.node == e && m.accepted && m.index.isNone with
    | none => s
    | some _ =>
      if !s.packetUp || !s.leads then s
      else match allocIndex s with
        | (none, s1) => creationLost e s1
        | (some i, s1) => ({ s1 with fwd.newcomers := s1.fwd.newcomers.map fun m =>
            if m.node = e then { m with index := some i, since := s.clock.now } else m } : State).out (.learnCreate e i)

/-- Place the entry of newcomer `m` in the rebuild table; a full overflow store refuses it (R339). -/
def bornRebuild (m : NewSender) (i : Nat) (s : State) : State := match rebuildPlace s m.node with
  | some p => bornNode m i p s
  | none => creationLost m.node (bump cFwdRbFull 0 s)

/-- The node table makes a place for node `e`: its slot after at most 32 of the moves (R337). -/
def makeRoom (e : Eui) (moves : List (Nat × Nat)) (s : State) : Option Nat × State :=
  let r := relocated s.fwd.seeds e 32 moves s.fwd.nodes
  (r.2, { s with fwd.nodes := r.1 })

/-- NODE_INSERT: the table engine inserts the entry of node `e`, a creation or one that migrates from the rebuild table. `moves` is the chain of
relocations that the engine tries, each an INDEX and its new slot: which entries it moves the spec leaves open (R337, R340). -/
def execNodeInsert (t : Time) (e : Eui) (moves : List (Nat × Nat)) (s : State) : Outcome State Fault Refusal :=
  onInst true <|
    let s := s.arrive t
    if !s.packetUp then s
    else match s.nodeOf e with
      | some (i, n) =>
        if n.place.inTable || rebuildOpen s then s
        else
          let r := makeRoom e moves s
          (match r.1 with
          | some k => r.2.modNode i fun n => { n with place := .table k, failed := false }
          | none => bump cFwdInsertFail 0 (r.2.modNode i fun n => { n with failed := true }))
      | none => match s.fwd.newcomers.find? fun m => m.node == e with
        | none => s
        | some m => match m.index with
          | none => s
          | some i =>
            if rebuildOpen s then bornRebuild m i s
            else
              let r := makeRoom e moves s
              match r.1 with
              | some k => bornNode m i (.table k) r.2
              | none => (bornRebuild m i (bump cFwdInsertFail 0 r.2)).modNode i fun n => { n with failed := true }

/-- LEARN_FALLBACK: a creation has waited 2 ms, or the learn quay is full; the hardware inserts it into the rebuild table while it holds
the table clamp (R356, R472). -/
def execLearnFallback (t : Time) (e : Eui) (s : State) : Outcome State Fault Refusal :=
  onInst true <|
    let s := s.arrive t
    match s.fwd.newcomers.find? fun m => m.node == e with
    | none => s
    | some m => match m.index with
      | none => s
      | some i =>
        let q := s.fld rFwdCtrl2 0 6
        if !s.packetUp || !(decide (m.since + ms 2 ≤ s.clock.now) || decide (quayCap s q ≤ quayUsed s q)) then s
        else
          let a := askClamp 9 70 s
          if a.1 then freeClampOf 9 70 (bornRebuild m i (bump cFwdLearnFallback 0 a.2)) else a.2

/-! ### Rehash (R337, R341) -/

/-- The failed insertions that the rebuild table holds. -/
def failedCount (s : State) : Nat := (s.fwd.nodes.filter fun x => x.2.failed && !x.2.place.inTable).length

/-- REHASH_START: the rehash takes the table clamp, every entry is copied into the rebuild table, and new seeds are drawn (R337, R341). -/
def execRehashStart (t : Time) (s : State) : Outcome State Fault Refusal :=
  onInst true <|
    let s := s.arrive t
    if s.fwd.rehash || !s.packetUp || decide (failedCount s ≤ s.fld rFwdCtrl2 19 8 * 16) then s
    else
      let a := askClamp 8 70 s
      if !a.1 then a.2
      else
        let s1 := a.2.fwd.nodes.foldl (fun s x =>
          if x.2.place.inTable then (match rebuildPlace s x.2.eui with
            | some p => s.modNode x.1 fun n => { n with place := p }
            | none => bump cFwdRbFull 0 s)
          else s) a.2
        { s1 with fwd.rehash := true, fwd.rbSeeds := some s1.fwd.seeds,
                  fwd.seeds := (Config.random s1.free, Config.random (s1.free + 1)), free := s1.free + 2 }

/-- Reinsert the entries `todo` under `seeds`, each in the slot that the list names or else the one that takes it, beside those already placed; none
where an entry finds no slot (R337, R341). -/
def reinsert (seeds : Word × Word) (slots : List (Nat × Nat)) : List (Nat × Node) → List (Nat × Node) → Option (List (Nat × Node))
  | [], done => some done
  | (i, n) :: r, done =>
    let k := match slots.find? fun x => x.1 == i with
      | some x => if slotTakes seeds n.eui done x.2 then some x.2 else freeSlotFor seeds n.eui done
      | none => freeSlotFor seeds n.eui done
    k.bind fun k => reinsert seeds slots r (done ++ [(i, { n with place := .table k, failed := false })])

/-- REHASH_DONE: Emaidor has reinserted every entry under the new seeds, lookups switch back and the rebuild table is empty (R341). `slots` names
the slots that its moves have led to, by INDEX; where it leaves an entry without one, the rehash goes on. -/
def execRehashDone (t : Time) (slots : List (Nat × Nat)) (s : State) : Outcome State Fault Refusal :=
  onInst true <|
    let s := s.arrive t
    match reinsert s.fwd.seeds slots s.fwd.nodes [] with
    | none => s
    | some l =>
      if s.fwd.rehash && s.packetUp then
        freeClampOf 8 70 { s with
          fwd.rehash := false
          fwd.rbSeeds := none
          fwd.nodes := l }
      else s

/-! ### Ageing and rehoming (R338, R355, R357, R358) -/

/-- AGER_VISIT: the ager has read stamp `stamp` at INDEX `i`; it removes old heard-list entries and issues compare-and-delete (R357,
R358). -/
def execAgerVisit (t : Time) (i stamp : Nat) (s : State) : Outcome State Fault Refusal :=
  onInst (i < nodeMax) <|
    let s := s.arrive t
    match s.nodeAt i with
    | none => s
    | some _ =>
      if !s.packetUp then s
      else
        let young (h : Heard) : Bool := decide ((s.second + 2 ^ 32 - h.last) % 2 ^ 32 ≤ s.fld rFwdAge 9 11 * 60)
        let s1 := s.modNode i fun n => { n with heard := n.heard.filter young }
        match s1.nodeAt i with
        | none => s1
        | some n =>
          if (s.second + 2 ^ 32 - stamp % 2 ^ 32) % 2 ^ 32 < s.fld rFwdAge 0 9 * 3600 then s1
          else if n.ageStamp ≠ stamp then bump cFwdAgeRace 0 s1
          else if n.static || n.sec.blobValid || cellRefs s i != 0 then
            bump cFwdAgedRoute 0 (s1.modNode i fun n => {
              n with homePort := 0, unhomed := true, dormant := true, heard := [], parent := none, challenger := none })
          else bump cFwdAgedEntry 0 (deleteNode i s1)

/-- HOME_PORT_REHOME: the home port of node `e` has left UP; the node moves to its best other heard port that is UP, or is left without a
home (R355). -/
def execHomePortRehome (t : Time) (e : Eui) (s : State) : Outcome State Fault Refusal :=
  onInst true <|
    let s := s.arrive t
    match s.nodeOf e with
    | none => s
    | some (i, n) =>
      if n.unhomed || s.headUp n.homePort || !s.packetUp then s
      else
        let lost (s : State) : State := bump cFwdHomeLost 0 (s.modNode i fun n => { n with unhomed := true, challenger := none })
        match bestPort ((n.heard.filter fun h => h.port != n.homePort && s.headUp h.port).map fun h => (h.port, h.quality)) with
        | none => lost s
        | some p =>
          if hasToken s p then (spendToken p s).modNode i fun n => { n with homePort := p, challenger := none }
          else lost s

/-! ### Forwarding (R342 to R348) -/

/-- The FWD_TCAM entry matches a key of KIND, INGRESS and address (R343). -/
def tcamHits (e kind ingress addr : Nat) : Bool :=
  let key := e / 2 ^ 176 % 2 ^ 144
  let mask := e / 2 ^ 32 % 2 ^ 144
  let mine := kind * 2 ^ 140 + ingress * 2 ^ 136 + addr
  (key ^^^ mine) &&& mask == 0

/-- The number of set bits of `n` below bit `w`. -/
def popBits (n : Nat) : Nat → Nat
  | 0 => 0
  | w + 1 => popBits n w + n / 2 ^ w % 2

/-- The prefix length of a TCAM entry: its compared address bits. -/
def tcamLen (e : Nat) : Nat := popBits (e / 2 ^ 32 % 2 ^ 128) (if e / 2 ^ 316 % 16 = 2 then 32 else 128)

/-- The first match of the TCAM: prefix length and RESULT. -/
def tcamFind (s : State) (kind ingress addr : Nat) : Option (Nat × Nat) :=
  ((s.entries tFwdTcam).find? fun x => tcamHits x.2 kind ingress addr).map fun x => (tcamLen x.2, x.2 % 2 ^ 32)

/-- The longest match of the trie (R344). -/
def trieFind (s : State) (addr : Nat) : Option (Nat × Nat) :=
  (s.entries tFwdTrie).foldl (fun b x =>
    let len := x.2 / 2 ^ 56 % 256
    let hitIt := x.2 / 2 ^ 64 / 2 ^ (128 - len) == addr / 2 ^ (128 - len)
    if hitIt && decide (b.all fun y => decide (y.1 < len)) then some (len, x.2 % 2 ^ 32) else b) none

/-- The octets of the Ethernet frame that carries a packet under a VID: header, tag, packet and FCS. -/
def frameLength (vid n : Nat) : Nat := 18 + (if vid = 0 then 0 else 4) + n

/-- The packet is a neighbour solicitation for FRY_ADDR, which the Ferry unit takes; every other packet that forwarding hands it falls outside R320,
because its destination is not FRY_ADDR (DEDUCED, see the log). -/
def soliciting (p : Packet) (s : State) : Bool :=
  let l := p.bytes
  p.v6 && osAt l 6 1 == 58 && osAt l 40 1 == 135 && osAt l 41 1 == 0 && BitVec.ofNat 128 (osAt l 48 16) == fryAddr s

/-- The RESULT of a lookup (R345). -/
def routeFor (s : State) (p : Packet) : Option Nat :=
  let ing := if p.fromMesh then 1 else 2
  if p.v6 then
    match tcamFind s 1 ing p.dst.toNat, trieFind s p.dst.toNat with
    | some a, some b => some (if a.1 < b.1 then b.2 else a.2)
    | some a, none => some a.2
    | none, some b => some b.2
    | none, none => none
  else (tcamFind s 2 ing (p.dst.toNat % 2 ^ 32)).map fun a => a.2

/-- A best-effort downlink packet joins the queue (R348). -/
def addTransit (flood : Bool) (dest : Eui) (pan : BitVec 16) (len : Nat) (s : State) : State :=
  let id := s.fwd.nextFlood
  let p : Transit := { id := id, flood := flood, dest := dest, pan := pan, length := len, since := s.clock.now }
  let s1 : State := { s with fwd.transit := s.fwd.transit ++ [p], fwd.nextFlood := id + 1 }
  if flood then
    let f := ownFlood none pan (s.fld rFldCtrl 0 4) len s1
    { f with fwd.floods := f.fwd.floods.map fun x => if x.id = s1.fwd.nextFlood then { x with id := id, best := true } else x }
  else s1

/-- The packet is one that forwarding takes: from the mesh that of an accepted frame which is still to be forwarded, on Ethernet one for
the MAC address of a port that is up; never one for FRY_ADDR (R130, R342, R362). -/
def forwardable (p : Packet) (s : State) : Bool :=
  (p.v6 || p.v4) && !(p.v6 && p.dst == fryAddr s) &&
    (if p.fromMesh then p.v6 && s.fwd.toForward.contains (p.source, p.digest) else p.toPortMac && s.fry.links.getLsbD p.port)

/-- What the lookup's RESULT makes of a packet (R345 to R348). -/
def forwardBy (p : Packet) (s : State) : State :=
  match routeFor s p with
  | none => bump cFwdNoRoute 0 s
  | some r =>
    let act := r / 2 ^ 29
    if act = 1 ∧ p.v6 then (if soliciting p s then s.out .localPacket else bump cFryRxDiscard 0 (s.out .localPacket))
    else if act = 0 ∨ act = 1 ∨ 4 < act then bump cFwdNoRoute 0 s
    else if p.hopLimit ≤ 1 then bump cFwdTtlExpired 0 s
    else if act = 3 then
      let h := s.entry tFwdNexthop (r / 2 ^ 16 % 2 ^ 12)
      let port := h / 2 ^ 120
      if !s.fry.links.getLsbD port then bump cFwdPortDown 0 s
      else if 9216 < frameLength (h / 2 ^ 96 % 2 ^ 16) p.octets.length then bump cFwdTooBig 0 s
      else s.out (.forwarded port (h / 2 ^ 96 % 2 ^ 16) (h / 2 ^ 48 % 2 ^ 48) p.sentOn)
    else if !p.v6 then bump cFwdNoRoute 0 s
    else if act = 2 then
      if p.psduMax < p.meshLength then bump cFwdTooBig 0 s
      else addTransit false (p.dst.setWidth 64 ^^^ 0x0200000000000000) (BitVec.ofNat 16 r) p.meshLength s
    else addTransit true 0 (BitVec.ofNat 16 r) p.meshLength s

/-- FORWARD_PACKET: a packet that forwarding takes is looked up and forwarded or discarded (R342, R345 to R348). -/
def execForwardPacket (t : Time) (p : Packet) (s : State) : Outcome State Fault Refusal :=
  onInst (p.fromMesh || decide (p.port < 8)) <|
    let s := s.arrive t
    if !(s.packetUp && forwardable p s) then s
    else forwardBy p { s with fwd.toForward := if p.fromMesh then s.fwd.toForward.erase (p.source, p.digest) else s.fwd.toForward }

/-- TRANSIT_EXPIRE: a best-effort downlink has not been sent within TRANSIT_S (R348). -/
def execTransitExpire (t : Time) (k : Nat) (s : State) : Outcome State Fault Refusal :=
  onInst true <|
    let s := s.arrive t
    match s.fwd.transit[k]? with
    | none => s
    | some p =>
      if !s.packetUp || decide (s.clock.now < p.since + sec (s.fld rFwdCtrl2 27 5 * 10)) then s
      else
        let left := !p.flood || s.fwd.floods.any fun f => f.id == p.id
        let s1 := (s.txm.bookings.filter fun b => b.use == .transit p.id || (p.flood && b.use == .flood p.id)).foldl
          (fun s b => unbook b.id s) s
        let s2 : State := { s1 with fwd.transit := s1.fwd.transit.eraseIdx k,
                                    fwd.floods := s1.fwd.floods.filter fun f => !(p.flood && f.id == p.id) }
        if left then bump cFwdTransitExpire 0 s2 else s2

/-- SEEN_EXPIRE: entries of the seen cache reach SEEN_AGE (R362). -/
def execSeenExpire (t : Time) (s : State) : Outcome State Fault Refusal :=
  onInst true <|
    let s := s.arrive t
    if s.packetUp then
      { s with fwd.seen := s.fwd.seen.filter fun x => decide (s.clock.now < x.2.2 + sec (s.fld rFldCtrl 8 12)) }
    else s

end Sys2Proof.Machine
end

