-- ==== Sys2Proof/Machine/Ferry.lean ====
section
/-! DEFINITION. The meanings of the Ferry unit's commands, and of the device's own management commands (11_acceptance_and_ferry.md, R315
to R330; R477, R494). -/

namespace Sys2Proof.Machine

open Host

/-! ### Paths (R321) -/

/-- HB_INTERVAL in 1/16 ns. -/
def hbInterval (s : State) : Time := ms (s.fld rFryCtrl 8 8 * 10)

/-- The FRY_ENDPOINT entries in use. -/
def endpoints (s : State) : List Nat := (List.range 4).filter fun i => octetField 20 (s.entry tFryEndpoint i) 16 8 8 == 1

/-- The Ferry-enabled ports. -/
def ferryPorts (s : State) : List Nat := (List.range 8).filter fun p => octetField 32 (s.entry tFryPort p) 0 28 1 == 1

/-- Endpoint `i` has sent a valid packet within 10 HEARTBEAT intervals. -/
def endpointHeard (s : State) (i : Nat) : Bool := s.fry.heard.any fun x => x.1 == i && decide (s.clock.now ≤ x.2 + 10 * hbInterval s)

/-- Take endpoint `e` and port `p`; a change is recorded (R321). -/
def setPath (e p : Nat) (s : State) : State :=
  if e = s.fry.endpoint ∧ p = s.fry.port then s
  else occurs eFryPathChange { s with fry.endpoint := e, fry.port := p }

/-- Choose the endpoint of highest priority that is heard, and the lowest-numbered Ferry port whose link is up (R321). -/
def choosePath (s : State) : State :=
  let e := ((endpoints s).find? fun i => endpointHeard s i).getD s.fry.endpoint
  let p := ((ferryPorts s).find? fun p => s.fry.links.getLsbD p).getD s.fry.port
  setPath e p s

/-- The Ferry unit works. -/
def ferryUp (s : State) : Bool := s.leads && s.packetUp && s.keyUp

/-! ### Receiving (R320, R322, R324) -/

/-- A PACKET_NO that the window accepts (R324). -/
def RxWin.fresh (w : RxWin) (n : Nat) : Bool := decide (w.high < n) || (decide (w.high ≤ n + 1024) && !w.seen.contains n)

/-- The window with PACKET_NO `n` taken. -/
def RxWin.take (w : RxWin) (n : Nat) : RxWin :=
  let h := max w.high n
  { w with high := h, seen := (n :: w.seen).filter fun x => decide (h ≤ x + 1024) }

/-- A packet from endpoint `e` was valid. -/
def peerHeard (e : Nat) (s : State) : State :=
  choosePath { s with
    fry.heard := aput s.fry.heard e s.clock.now
    fry.lastHeard := s.clock.now
    fry.peerLost := false }

/-- The frame meets R320: a port that is enabled and carries Ferry (R321), at most 9,216 octets, untagged or with the port's one tag, IPv6 to FRY_ADDR with UDP directly behind it,
to FRY_UDP with a checksum that is right. -/
def inTable (s : State) (f : FerryFrame) : Bool :=
  let vid := octetField 32 (s.entry tFryPort f.port) 8 16 12
  decide (f.port < 8) && octetField 32 (s.entry tFryPort f.port) 0 30 2 != 0 && octetField 32 (s.entry tFryPort f.port) 0 28 1 == 1 && decide (f.size ≤ 9216) &&
    f.tags == (if vid = 0 then [] else [vid]) && f.version == 6 && f.dst == fryAddr s && f.nextHeader == 17 &&
    f.dstPort == s.fld rFryUdp 0 16 && checksumOk f

/-- The endpoint that the frame comes from, if FRY_ENDPOINT names it. -/
def endpointOf (s : State) (f : FerryFrame) : Option Nat := (endpoints s).find? fun i =>
  let e := s.entry tFryEndpoint i
  e / 2 ^ 32 == f.src.toNat && e / 2 ^ 16 % 2 ^ 16 == f.srcPort

/-- The frame was a valid packet of its endpoint. -/
def frameHeard (f : FerryFrame) (s : State) : State := match endpointOf s f with
  | some e => peerHeard e s
  | none => peerHeard s.fry.endpoint s

/-- A Ferry packet reaches the chip that runs Ferry, on a frame that meets R320; elsewhere, and otherwise, it is discarded and counted (R21,
R320). A packet of another TYPE is no event of this command. -/
def ferryArrives (types : List Nat) (f : FerryFrame) (s : State) : Option FerryHead × State :=
  let h := ferryHeadRead (ofBytes f.payload)
  if !types.contains h.type || !s.packetUp then (none, s)
  else if !ferryUp s || !inTable s f then (none, bump cFryRxDiscard 0 s)
  else (some h, s)

/-- Receive a packet of the open session, or of the one before it: the body that is acted on, and the state after its header (R320, R322,
R324). -/
def ferryRx (type : Nat) (f : FerryFrame) (s : State) : Option Octets × State := match ferryArrives [type] f s with
  | (none, s1) => (none, s1)
  | (some h, s1) =>
    let cur := s.fry.session != 0 && h.session == s.fry.session
    let old := (s.fry.old.map fun x => x.1).filter fun w => w.session == h.session
    match (if cur then some s.fry.rx else old) with
    | none => (none, bump cFryAuthFail 0 s1)
    | some w => match openPacket w.key (ofBytes f.payload) with
      | none => (none, bump cFryAuthFail 0 s1)
      | some body =>
        if !w.fresh h.packetNo then (none, bump cFryReplay 0 s1)
        else
          let s2 : State := if cur then { s1 with fry.rx := w.take h.packetNo }
            else { s1 with fry.old := s1.fry.old.map fun x => (x.1.take h.packetNo, x.2) }
          if h.ok type 0 then (some body, s2) else (none, bump cFryBadFormat 0 s2)

/-! ### Downlink (R316) -/

/-- DL_WINDOW. -/
def dlWindow (s : State) : Nat := s.fld rFryWindow 21 11

/-- A repeated DSN whose content differs (R316). -/
def conflictCheck (it : DlItem) (s : State) : State :=
  if (dlOf s it.dsn).any fun r => r.item.digest != it.digest then bump cFryDlConflict 0 s else s

/-- One item of a message (R316, R329). DESIGN CHOICE: an item whose first copy waits in the reorder buffer is dropped, the first copy kept, and
FRY_DL_DUP counts it: R316 is silent on it (see the log). -/
def dlItem (it : DlItem) (s0 : State) : State :=
  let s : State := if s0.dl.sync then { s0 with dl.nextDsn := it.dsn, dl.sync := false } else s0
  if it.dsn < s.dl.nextDsn then
    conflictCheck it (ferryPacket 4 0 (natToOs 8 (s.dl.nextDsn - 1)) ((bump cFryDlDup 0 s).out (.dlAck (s.dl.nextDsn - 1))))
  else if s.dl.nextDsn + dlWindow s ≤ it.dsn then bump cFryDlGap 0 s
  else if it.dsn = s.dl.nextDsn then
    if (dlOf s it.dsn).isSome then conflictCheck it s
    else
      let s1 := dlAccept it s
      dlDrain s1.dl.reorder.length s1
  else if s.dl.reorder.any fun x => x.dsn == it.dsn then bump cFryDlDup 0 s
  else { s with dl.reorder := s.dl.reorder ++ [it] }

/-- FERRY_DOWNLINK: a DOWNLINK message is authenticated and its items are taken in order (R315, R316). -/
def execFerryDownlink (t : Time) (f : FerryFrame) (s : State) : Outcome State Fault Refusal :=
  onInst true <|
    let r := ferryRx 3 f (s.arrive t)
    match r.1 with
    | none => r.2
    | some b => match itemsRead b with
      | none => bump cFryBadFormat 0 r.2
      | some l => l.foldl (fun s it => dlItem it s) (frameHeard f r.2)

/-- FERRY_MGMT_CMD: a MGMT-CMD message carries items with DEST_KIND 3 only (R325). -/
def execFerryMgmtCmd (t : Time) (f : FerryFrame) (s : State) : Outcome State Fault Refusal :=
  onInst true <|
    let r := ferryRx 7 f (s.arrive t)
    match r.1 with
    | none => r.2
    | some b => match (itemsRead b).filter fun l => l.all fun it => it.kind == 3 with
      | none => bump cFryBadFormat 0 r.2
      | some l => l.foldl (fun s it => dlItem it s) (frameHeard f r.2)

/-- Why an item that expires has not been sent (R317). -/
def expiryCause (s : State) (r : DlRec) : Ending := match r.item.body with
  | .node _ => (match s.nodeOf r.item.dest with
    | none => .noKey
    | some (i, n) =>
      if !n.sec.blobValid || decide (0xFFFFFFFF ≤ n.sec.txFc) then .noKey
      else match (routeOf s i).bind fun l => s.nodeAt (l.getLastD i) with
        | none => .noRoute
        | some hop => if (headFor hop []).isNone then .noRoute else .timeout)
  | _ => .timeout

/-- DL_ITEM_EXPIRY: EXPIRY seconds have passed since the acceptance of a NODE or FLOOD item; while an acknowledgement window is open the
outcome waits (R317, R319). -/
def execDlItemExpiry (t : Time) (d : Nat) (s : State) : Outcome State Fault Refusal :=
  onInst true <|
    let s := s.arrive t
    match dlOf s d with
    | none => s
    | some r =>
      let plain := (match r.item.body with | .node _ => true | .flood _ _ => true | _ => false)
      let gone := { (match r.state with
        | .booked b => unbook b s
        | _ => s) with fwd.floods := s.fwd.floods.filter fun f => f.dsn != some d }
      if !plain || !s.leads || !s.slotUp || r.done.isSome || decide (s.clock.now < r.since + sec r.item.expiry) then s
      else match r.state with
        | .committing _ | .carrying | .ended => s
        | .begun e => if s.clock.now ≤ e + us (g0 s) then s else endItem d (expiryCause s r) gone
        | _ => endItem d (expiryCause s r) gone

/-- NODE_ENHANCED_ACK: a node's Enhanced Acknowledgement within ±G0 of its expected air time ends the item in flight (R317, R319). -/
def execNodeEnhancedAck (t : Time) (e : Eui) (mic nack : Bool) (air : Time) (s : State) : Outcome State Fault Refusal :=
  onInst true <|
    let s := s.arrive t
    if !mic || !s.slotUp then s
    else
      let it := s.dl.recs.find? fun r => r.item.dest == e && r.done.isNone && (match r.item.body, r.state with
        | .node _, .begun x => decide (x ≤ air + us (g0 s) ∧ air ≤ x + us (g0 s))
        | _, _ => false)
      match it with
      | some r => endItem r.item.dsn (if nack then .nodeNack else .acked) s
      | none => bump cJrnAckUnmatched 0 s

/-! ### Commands on the device's own records (R326, R477, R494) -/

/-- The address holds a counter of block `b` (or of any block). -/
def isCounterOf (b : Option Nat) (a : Nat) : Bool := counters.any fun c => b.all (fun n => n == c.block) &&
  decide (c.addr 0 ≤ a ∧ a < c.addr c.cnt) && (a - c.addr 0) % 0x400 == 0

/-- A block argument: 0 to 24, or 0xFF for all. -/
def blockArg (b : Nat) : Option (Option Nat) := if b = 0xFF then some none else if b ≤ 24 then some (some b) else none

/-- CLEAR_COUNTERS (R494). -/
def execClearCounters (t : Time) (d : Nat) (s : State) : Outcome State Fault Refusal :=
  onInst true <|
    let s := s.arrive t
    match s.argsOf d 2 with
    | none => s
    | some a => match blockArg (octetAt a 0) with
      | none => finish d .refused s
      | some k => finish d .acked (event eGlbCountersCleared (octetAt a 0) d { s with regs := s.regs.filter fun x => !isCounterOf k x.1 })

/-- The watermark without its sticky indications. -/
def Wm.cleared (w : Wm) : Wm := { w with crossed := false, count := 0 }

/-- Clear the ROS fields, the watermark indications and the sticky alert bits of block `b` (R447, R462, R464, R479, R494). -/
def stickyCleared (b : Nat) (s : State) : State :=
  if b = 21 then { s with msys.quays := s.msys.quays.map fun x => (x.1, { x.2 with wm := x.2.wm.cleared }) }
  else if b = 22 then
    { s with
      hlt.wms := s.hlt.wms.map fun x => (x.1, x.2.cleared)
      hlt.ddrOne := false
      hlt.fallback := false
      hlt.degraded := false
      hlt.watermark := false
      hlt.cause := 0
      hlt.causeUnit := 0
      hlt.causeCode := 0 }
  else if b = 24 then { s with msys.engines := s.msys.engines.map fun x => (x.1, { x.2 with fired := false }) }
  else s

/-- CLEAR_STICKY (R494). -/
def execClearSticky (t : Time) (d : Nat) (s : State) : Outcome State Fault Refusal :=
  onInst true <|
    let s := s.arrive t
    match s.argsOf d 3 with
    | none => s
    | some a => match blockArg (octetAt a 0) with
      | none => finish d .refused s
      | some none => finish d .acked (event eGlbStickyCleared (octetAt a 0) d ([21, 22, 24].foldl (fun s n => stickyCleared n s) s))
      | some (some n) => finish d .acked (event eGlbStickyCleared (octetAt a 0) d (stickyCleared n s))

/-- EVENT_CLEAR: the recorder's oldest record becomes the one to come, a record of KIND CLEARED (R477). -/
def execEventClear (t : Time) (d : Nat) (s : State) : Outcome State Fault Refusal :=
  onInst true <|
    let s := s.arrive t
    if !s.carries d 4 then s
    else
      let n := s.evr.records.length
      finish d .acked (evrPush { EvRecord.blank with kind := 5, count := n, arg0 := d % 2 ^ 32, arg1 := d / 2 ^ 32 % 2 ^ 32 }
        { s with evr.records := [], evr.oldest := s.evr.head })

/-! ### Uplink (R310, R325, R327) -/

/-- FERRY_UL_ACK: the acknowledgement point moves forward, stays, or the message names entries that do not exist (R327). -/
def execFerryUlAck (t : Time) (f : FerryFrame) (s : State) : Outcome State Fault Refusal :=
  onInst true <|
    let r := ferryRx 2 f (s.arrive t)
    match r.1.map ulAckRead with
    | none => r.2
    | some none => bump cFryBadFormat 0 r.2
    | some (some j) =>
    let s1 := frameHeard f r.2
    if s1.jrn.nextJsn ≤ j then bump cFryBadFormat 0 s1
    else if j ≤ s1.jrn.ackJsn then s1
    else
      let s2 : State := { s1 with
        jrn.ackJsn := j
        jrn.ackAt := s1.clock.now
        upd.ackMoved := true
        jrn.sentTo := max s1.jrn.sentTo j
        jrn.entries := s1.jrn.entries.filter fun e => decide (j < e.hdr.jsn) || e.state == .owed || e.state == .staged }
      if s2.jrn.ackMirrored + us 100 ≤ s2.clock.now then mirror (.ackPoint j) none { s2 with jrn.ackMirrored := s2.clock.now } else s2

/-- Ferry packets may leave: the session is open, and the first unsolicited advertisement has been sent (R321, R323). -/
def ferryMay (s : State) : Bool := ferryUp s && s.fry.session != 0 && s.fry.advertised

/-- Entry `e` is released to Ferry (R310). -/
def Entry.released (e : Entry) : Bool := match e.state with
  | .accepted => true
  | .void | .outcome => !e.waits
  | _ => false

/-- Take from `l` the entries that fit one message: one class, and at most `room` octets. -/
def messageOf (outcome : Bool) : Nat → List Entry → List Entry
  | _, [] => []
  | room, e :: r => if (e.hdr.kind == 3) == outcome && decide (e.octets ≤ room) then e :: messageOf outcome (room - e.octets) r else []

/-- Send the entries of `l` in as many messages as classes and FRY_MTU require (R325); `n` bounds the messages. The packet's 84 octets
beside the entries are the IPv6 and UDP headers, the Ferry header, COUNT with its reserved field, and the tag. -/
def sendEntries : Nat → List Entry → State → State
  | 0, _, s => s
  | _ + 1, [], s => s
  | n + 1, e :: r, s =>
    let m := e :: messageOf (e.hdr.kind == 3) (s.fld rFryMtu 0 16 - 84 - e.octets) r
    let ty := if e.hdr.kind = 3 then 5 else 1
    sendEntries n (r.drop (m.length - 1))
      ((ferryPacket ty 0 (entriesOctets m) s).out (.uplink (e.hdr.kind == 3) e.hdr.jsn (e.hdr.jsn + m.length - 1)))

/-- The released entries that follow JSN `j` without a gap, at most `n`. -/
def releasedFrom (s : State) (j : Nat) : Nat → List Entry
  | 0 => []
  | n + 1 => match entryOf s (j + 1) with
    | some e => if e.released then e :: releasedFrom s (j + 1) n else []
    | none => []

/-- FERRY_UPLINK_SEND: the next released entries, at most `count`, are sent within UL_WINDOW (R310, R325, R327). -/
def execFerryUplinkSend (t : Time) (count : Nat) (s : State) : Outcome State Fault Refusal :=
  onInst true <|
    let s := s.arrive t
    if !ferryMay s then s
    else
      let room := s.jrn.ackJsn + s.fld rFryWindow 0 21 - s.jrn.sentTo
      let l := releasedFrom s s.jrn.sentTo (min count (min room s.jrn.entries.length))
      let s1 : State := if s.jrn.sentTo = s.jrn.ackJsn then { s with jrn.ackAt := s.clock.now } else s
      sendEntries l.length l { s1 with jrn.sentTo := s.jrn.sentTo + l.length }

/-- FERRY_UL_RTO: ACK_JSN has not advanced for UL_RTO; every entry sent above it is sent again (R327). -/
def execFerryUlRto (t : Time) (s : State) : Outcome State Fault Refusal :=
  onInst true <|
    let s := s.arrive t
    if !ferryMay s || s.jrn.sentTo == s.jrn.ackJsn || decide (s.clock.now < s.jrn.ackAt + ms (s.fld rFryCtrl 0 8)) then s
    else
      let l := s.jrn.entries.filter fun e => decide (s.jrn.ackJsn < e.hdr.jsn ∧ e.hdr.jsn ≤ s.jrn.sentTo)
      sendEntries l.length l (bumpBy cFryUlRetx 0 l.length { s with jrn.ackAt := s.clock.now })

/-! ### Sessions and heartbeats (R323, R325, R329) -/

/-- BASE_JSN: the lowest JSN that the device still holds (R329). -/
def baseJsn (s : State) : Nat := ((s.jrn.entries.head?).map fun e => e.hdr.jsn).getD s.jrn.nextJsn

/-- ROLE of the device: 1 active, 2 solo (R325). -/
def ferryRole (s : State) : Nat := if s.pair.state = .solo then 2 else 1

/-- What a HEARTBEAT of the device carries (R325, R329). -/
def heartbeatBody (s : State) : Octets :=
  heartbeatOctets (ferryRole s) s.pair.epoch (baseJsn s) s.jrn.nextJsn s.jrn.ackJsn s.dl.nextDsn

/-- A HEARTBEAT leaves (R325). -/
def sendHeartbeat (isOpen : Bool) (session : Nat) (s : State) : State :=
  s.out (.heartbeat isOpen session (ferryRole s) s.pair.epoch (baseJsn s) s.jrn.nextJsn s.jrn.ackJsn s.dl.nextDsn)

/-- An OPEN packet leaves under the opening key, with a PACKET_NO from the DRBG (R323). -/
def sendOpen (session : Nat) (s : State) : State :=
  ({ s with free := s.free + 1 } : State).out (.ferry s.fry.endpoint s.fry.port
    (sealPacket (openingKey (persistentKey s 6 0)) ⟨1, 8, 1, session, Config.openPacketNo s.free⟩
      (heartbeatBody s ++ octetsOf s.fry.nonceD ++ octetsOf (0 : BitVec 128))))

/-- The session comes from a FERRY key of a generation now past (R288, R323). -/
def sessionStale (s : State) : Bool := s.fry.session != 0 && (keyAt s 6 0).any fun k => decide (s.fry.keyGen < k.gen)

/-- Open a session under a number one above the last one used, with a fresh NONCE_D (R323). -/
def openSession (s : State) : State := match useKey 6 0 s with
  | (.good, s1) =>
    let n := s1.fry.lastUsed + 1
    sendHeartbeat true n <| sendOpen n { s1 with
      fry.lastUsed := n
      fry.state := 1
      fry.nonceD := Config.nonce s1.free
      free := s1.free + 1
      fry.hbAt := s1.clock.now }
  | (.stale, s1) => bump cKeyStaleUse 0 s1
  | (.absent, s1) => s1

/-- The head-end's answer opens the session: both directions number from 1, and the old receive keys stay for 10 s (R323, R324). -/
def sessionOpened (f : FerryFrame) (nonceH : BitVec 128) (s : State) : State :=
  let keys := sessionKeys (persistentKey s 6 0) s.fry.nonceD nonceH s.fry.lastUsed
  let s1 := frameHeard f { s with
    fry.state := 2
    fry.session := s.fry.lastUsed
    fry.nonceH := nonceH
    fry.txKey := keys.extractLsb' 256 256
    fry.old := if s.fry.session = 0 then none else some (s.fry.rx, s.clock.now)
    fry.rx := ⟨s.fry.lastUsed, keys.extractLsb' 0 256, 0, []⟩
    fry.txNo := 0
    fry.txCeiling := 65536
    fry.keyGen := ((keyAt s 6 0).map fun k => k.gen).getD 0
    fry.opened := s.clock.now
    fry.openDue := false }
  mirror (sessionBody s1) none s1

/-- FERRY_HEARTBEAT: a HEARTBEAT of the head-end marks the peer alive; with OPEN set it answers an opening or asks for one (R323, R329). -/
def execFerryHeartbeat (t : Time) (f : FerryFrame) (s : State) : Outcome State Fault Refusal :=
  onInst true <|
    let s := s.arrive t
    let h := ferryHeadRead (ofBytes f.payload)
    if h.type ≠ 8 ∨ h.flags % 2 = 0 then
      (let r := ferryRx 8 f s
       match r.1.map (heartbeatRead false) with
       | none => r.2
       | some none => bump cFryBadFormat 0 r.2
       | some (some _) => frameHeard f r.2)
    else match ferryArrives [8] f s with
      | (none, s1) => s1
      | (some _, s1) => match (keyAt s1 6 0).bind fun k => openPacket (openingKey k.plain.key) (ofBytes f.payload) with
        | none => bump cFryAuthFail 0 s1
        | some body => match (if h.ok 8 h.flags && decide (h.flags ≤ 3) then heartbeatRead true body else none) with
          | none => bump cFryBadFormat 0 s1
          | some (nonceD, nonceH) =>
            if h.flags = 3 then
              (if s1.fry.state = 1 ∧ h.session = s1.fry.lastUsed ∧ nonceD = s1.fry.nonceD then sessionOpened f nonceH s1 else bump cFryAuthFail 0 s1)
            else if h.session = 0 then frameHeard f { s1 with fry.openDue := true }
            else bump cFryAuthFail 0 s1

/-- FERRY_HEARTBEAT_TX: every HB_INTERVAL (R329). -/
def execFerryHeartbeatTx (t : Time) (s : State) : Outcome State Fault Refusal :=
  onInst true <|
    let s := s.arrive t
    if ferryMay s && decide (s.fry.hbAt + hbInterval s ≤ s.clock.now) then
      sendHeartbeat false s.fry.session (ferryPacket 8 0 (heartbeatBody s) { s with fry.hbAt := s.clock.now })
    else s

/-- FERRY_PEER_LOST: no valid packet for 10 intervals; the next endpoint is tried (R329). -/
def execFerryPeerLost (t : Time) (s : State) : Outcome State Fault Refusal :=
  onInst true <|
    let s := s.arrive t
    if !ferryUp s || s.fry.peerLost || decide (s.clock.now < s.fry.lastHeard + 10 * hbInterval s) then s
    else
      let es := endpoints s
      let nxt := ((es.find? fun i => decide (s.fry.endpoint < i)).orElse fun _ => es.head?).getD s.fry.endpoint
      setPath nxt s.fry.port (occurs eFryPeerLost { s with fry.peerLost := true })

/-- FERRY_SESSION_OPEN: the device opens a session when it has none, when its FERRY key has become stale, or when the head-end asks
(R323). -/
def execFerrySessionOpen (t : Time) (s : State) : Outcome State Fault Refusal :=
  onInst true <|
    let s := s.arrive t
    if ferryUp s && s.fry.advertised && (s.fry.session == 0 || s.fry.openDue || sessionStale s) then openSession s else s

/-- FERRY_REKEY: every REKEY_H hours, or when PACKET_NO reaches 2^48 (R323). -/
def execFerryRekey (t : Time) (s : State) : Outcome State Fault Refusal :=
  onInst true <|
    let s := s.arrive t
    if ferryMay s && (decide (s.fry.opened + sec (s.fld rFryCtrl 16 8 * 3600) ≤ s.clock.now) || decide (2 ^ 48 ≤ s.fry.txNo)) then
      openSession s
    else s

/-- FERRY_OLD_KEYS_EXPIRE: 10 s after a new session opens (R323). -/
def execFerryOldKeysExpire (t : Time) (s : State) : Outcome State Fault Refusal :=
  onInst true <|
    let s := s.arrive t
    match s.fry.old with
    | some w => if w.2 + sec 10 ≤ s.clock.now then { s with fry.old := none } else s
    | none => s

/-! ### Neighbour discovery, echo and links (R320, R321) -/

/-- NEIGHBOUR_ADVERTISEMENT_TX: each of the three unsolicited advertisements of a newly active chip, 1 s apart, on every Ferry-enabled
port (R321). -/
def execNeighbourAdvertisementTx (t : Time) (s : State) : Outcome State Fault Refusal :=
  onInst true <|
    let s := s.arrive t
    if s.fry.adverts = 0 ∨ !s.leads ∨ !s.packetUp ∨ s.clock.now < s.fry.advertAt then s
    else
      (ferryPorts s).foldl (fun s p => s.out (.neighbourAdvertisement p true))
        { s with
          fry.adverts := s.fry.adverts - 1
          fry.advertAt := s.fry.advertAt + sec 1
          fry.advertised := true }

/-- A frame for FRY_ADDR on an enabled port whose link is up reaches the active or solo chip. -/
def reachesUs (s : State) (p : Nat) (target : BitVec 128) : Bool :=
  s.leads && s.packetUp && octetField 32 (s.entry tFryPort p) 0 30 2 != 0 && s.fry.links.getLsbD p && target == fryAddr s

/-- NEIGHBOUR_SOLICITATION: one for FRY_ADDR is answered with an advertisement (R320). -/
def execNeighbourSolicitation (t : Time) (p : Nat) (target : BitVec 128) (s : State) : Outcome State Fault Refusal :=
  onInst (p < 8) <|
    let s := s.arrive t
    if reachesUs s p target then s.out (.neighbourAdvertisement p false) else s

/-- ECHO_REQUEST: answered with an echo reply (R320). -/
def execEchoRequest (t : Time) (p : Nat) (target : BitVec 128) (s : State) : Outcome State Fault Refusal :=
  onInst (p < 8) <|
    let s := s.arrive t
    if reachesUs s p target then s.out (.echoReply p) else s

/-- ETH_LINK_CHANGE: a link goes up or down, and the Ferry port and endpoint are chosen again (R321). -/
def execEthLinkChange (t : Time) (p : Nat) (up : Bool) (s : State) : Outcome State Fault Refusal :=
  onInst (p < 8) <|
    let s := s.arrive t
    if octetField 32 (s.entry tFryPort p) 0 30 2 = 0 ∨ !s.packetUp then s
    else
      let b := BitVec.ofNat 8 (2 ^ p)
      choosePath { s with fry.links := if up then s.fry.links ||| b else s.fry.links &&& ~~~b }

end Sys2Proof.Machine
end

