-- ==== Sys2Proof/Machine/Reset.lean ====
section
/-! DEFINITION. Warm reset and power-on reset (R81 to R83, R314, R492), shared by the reset pins, an activation of R411, a reversion of
R415 and the restart of R483. -/

namespace Sys2Proof.Machine

open Host

/-! ### What a reset keeps -/

/-- The register at address `a` keeps its value across warm reset: the blocks of the Always-on island, and HLT_MGT_CFG (R492). -/
def keptRegister (a : Nat) : Bool :=
  let b := (blockOf a).1
  decide (b ≤ 3) || b == 23 || a == rHltMgtCfg

/-- The journal as its ring and JRN_TOKEN_REL keep it (R309, R314). -/
def Jrn.retain (j : Jrn) (dram : Bool) : Jrn :=
  if dram then { entries := j.entries.map fun e => { e with waits := false }, nextJsn := j.nextJsn, ackJsn := j.ackJsn, sentTo := j.ackJsn,
                 tokenRel := j.tokenRel }
  else { tokenRel := j.tokenRel }

/-- An item that was booked or begun waits again; what its record says stands (R315). -/
def DlRec.retain (r : DlRec) : DlRec := match r.state with
  | .booked _ | .begun _ => { r with state := .waiting }
  | _ => r

/-- The downlink ring (R315). -/
def Dl.retain (d : Dl) (dram : Bool) : Dl :=
  if dram then { nextDsn := d.nextDsn, sync := d.sync, recs := d.recs.map DlRec.retain } else {}

/-- The node table with its seeds, and the blobs (R274, R335). -/
def Fwd.retain (f : Fwd) (dram : Bool) : Fwd :=
  if dram then { nodes := f.nodes, fixed := f.fixed, blobs := f.blobs, seeds := f.seeds, rbSeeds := f.rbSeeds, floodId := f.floodCeiling,
                 floodCeiling := f.floodCeiling } else {}

/-- The dump records of R481 and the Always-on parts of the health unit (R482, R492). -/
def Hlt.retain (h : Hlt) (dram : Bool) : Hlt :=
  { cause := h.cause, causeUnit := h.causeUnit, causeCode := h.causeCode, fatalTime := h.fatalTime, armed := h.armed, causeArg := h.causeArg,
    multiple := h.multiple, recent := h.recent, dumps := if dram then h.dumps else [], flashDumps := h.flashDumps,
    lastSlot := h.lastSlot, partnerSent := h.partnerSent, flashCopied := h.flashCopied, mgtAddr := h.mgtAddr, temp := h.temp,
    overArmed := h.overArmed }

/-- The own update as flash holds it (R407, R409); an activation survives a warm reset with the downlink ring (R416). -/
def Upd.retain (u : Upd) (dram : Bool) : Upd :=
  { u with
    buffers := if dram then u.buffers else []
    jobs := []
    failsA := 0
    failsB := 0
    served := []
    ackMoved := false
    confirmDsn := none
    act := if dram then u.act else none
    actState := if dram then u.actState else 0 }

/-- The source FIFOs in the Always-on island. -/
def alwaysOnStraits (s : State) : List (Nat × List Instr) := s.straits.filter fun x => (straitRow (x.1 / 8)).src == 0

/-- Every island except Always-on is reset (step 5 of R81). DRAM stands if the start had reached P9, the staging buffers have been
drained and the results of a training are saved (R82, R83); the Always-on island counts device time on (R236), goes on programming a fuse,
senses the partner's token line and keeps what it sends to the Control island (R34). -/
def islandReset (s : State) : State :=
  let dram := s.start.reachedP9 && s.start.drained && s.start.savedTrain
  { ({} : State) with
    regs := s.regs.filter fun x => keptRegister x.1
    tables := if dram then s.tables.filter fun x => x.1 / 2 ^ 32 == tSchCell else []
    mem := if dram then s.mem.filter fun x => decide (dramBase ≤ x.1) else []
    start := { s.start with
      islands := 1
      resetting := false
      drained := false
      retained := dram
      selfRefresh := dram
      reachedP9 := false
      warm := true
      linkDone := false
      kept := false
      pllLost := 0
      zeroising := false
      second := none
      waiting := none
      record := 0
      notes := []
      pufTries := 0 }
    clock := { s.clock with warmRate := some (s.clock.warmRate.getD (rateNow s)) }
    hlt := s.hlt.retain dram
    evr := s.evr
    jrn := s.jrn.retain dram
    dl := s.dl.retain dram
    fwd := s.fwd.retain dram
    pair := { partnerLow := s.pair.partnerLow, partnerHighAt := s.pair.partnerHighAt }
    upd := s.upd.retain dram
    camps := if dram then s.camps else []
    prog := if dram then s.prog else []
    straits := alwaysOnStraits s
    flash := { s.flash with lostA := false, lostB := false }
    sent := s.sent
    free := s.free
    pending := s.pending }

/-- SDSCLK input `k` is enabled and toggling (CLK_STATUS). -/
def sdsPresent (s : State) (k : Nat) : Bool := s.fld rClkCtrl k 1 == 1 && !s.start.sdsLost.getLsbD k

/-- The clock generator of island `i` is locked: REFCLK is stable, its trim is loaded, the generator has not lost lock, and the Isthmus
island's has its SDSCLK (R87, R507). -/
def pllLocked (s : State) (i : Nat) : Bool :=
  s.start.refOk && s.start.fuseLoaded && !s.start.pllLost.getLsbD i && (i != 7 || sdsPresent s 3)

/-- The islands out of reset in the phase (R51), bit by bit as ISLAND_READY; a second image finds the Memory island kept (R77). -/
def phaseIslands (s : State) : BitVec 8 := match s.start.phase with
  | .p0 | .p1 => 0x01
  | .p2 | .hold => 0x21
  | .p3 => if s.start.kept then 0x69 else 0x29
  | .p4 => 0x69
  | .halted => s.start.islands
  | _ => 0xFF

/-- The islands of the phase leave reset, but for one whose clock generator has not locked (R51, R87). -/
def releaseIslands (s : State) : State :=
  let drop (m : BitVec 8) (i : Nat) : BitVec 8 := if pllLocked s i then m else m &&& ~~~ BitVec.ofNat 8 (2 ^ i)
  { s with start.islands := [1, 2, 3, 4, 5, 6, 7].foldl drop (phaseIslands s) }

/-- The warm start begins: at P2 with the Key island, or at P0 where the straps and fuses had not been latched and loaded (R82). -/
def warmBegin (s : State) : State :=
  if s.start.fuseLoaded then releaseIslands { s with start := { s.start with phase := .p2, held := false } }
  else { s with start := { s.start with phase := .p0, warm := false, held := false } }

/-- The reset is complete; with WARMRST_N low or the trip's hold the device stays in it (R81, R523). -/
def resetDone (s : State) : State :=
  let s1 := refreshOne 3 (islandReset s)
  if s.start.warmLow || s.start.holdUntilCool then
    { s1 with start := { s1.start with phase := if s.start.fuseLoaded then .p2 else .p0, held := true } }
  else warmBegin s1

/-- A candidate that has not reached DECIDED is dropped; one that holds a JSN leaves a VOID entry (R81). -/
def dropCand (g : Nat) (c : Cand) (s : State) : State :=
  let s1 := bump cJrnResetDrop 0 { s with jrn.cands := adel s.jrn.cands g }
  if c.state = .mirror then voidEntry c.jsn s1 else s1

/-- Steps 1 and 2 of R81: the token is released and the candidates are dropped; steps 3 and 4 follow as WARM_RESET_DRAIN_DONE. -/
def warmEnter (s : State) : State :=
  let s1 := releaseToken .warmReset s
  let s2 : State := { s1 with
    pair.paired := false
    pins.ready := false
    pins.ppsOut := false
    pins.ethOn := false }
  let s3 := s2.jrn.cands.foldl (fun s x => dropCand x.1 x.2 s) s2
  { s3 with start.resetting := true }

/-- PORST_N is low: every island is reset and nothing is retained but what flash and fuses hold (R83). -/
def powerReset (s : State) : State :=
  { ({} : State) with
    start := { fuses := s.start.fuses, warmLow := s.start.warmLow, aoLow := s.start.aoLow, pinLow := s.start.pinLow,
               sdsLost := s.start.sdsLost }
    hlt := { flashDumps := s.hlt.flashDumps }
    upd := s.upd.retain false
    flash := { s.flash with lostA := false, lostB := false }
    sent := s.sent
    free := s.free
    pending := s.pending }

end Sys2Proof.Machine
end

