-- ==== Sys2Proof/Machine/Upgrade.lean ====
section
/-! DEFINITION. The operations on the own update that its commands, the Dovetail controller and the start share (R400 to R417): pieces,
staging, activation and confirmation. -/

namespace Sys2Proof.Machine

open Host

/-! ### Fuses (R58, R417) -/

/-- Programme bits of a fuse word; the shadow shows them. -/
def blowFuse (n : Nat) (bits : Word) (s : State) : State :=
  { s with
    start.fuses := smod (fun _ => 0) s.start.fuses n fun w => w ||| bits
    start.shadow := smod (fun _ => 0) s.start.shadow n fun w => w ||| bits }

/-- How many of the low `n` bits of `w` are 1. -/
def onesOf (w : Word) : Nat → Nat
  | 0 => 0
  | n + 1 => onesOf w n + (w.getLsbD n).toNat

/-- The count of programmed ROLLBACK bits (R58). -/
def rollbackCount (s : State) : Nat := onesOf (fuseWord s 130) 32 + onesOf (fuseWord s 131) 32

/-- KEY_HASH slot `n` is enabled and not revoked. -/
def keySlotLive (s : State) (n : Nat) : Bool :=
  decide (n < 4) && (fuseWord s 129).getLsbD n && !(fuseWord s 129).getLsbD (4 + n)

/-- ROLLBACK is a thermometer of `n` bits (R417). -/
def raiseRollback (n : Nat) (s : State) : State :=
  if n ≤ rollbackCount s then s
  else blowFuse 131 (BitVec.ofNat 32 (2 ^ (n - 32) - 1)) (blowFuse 130 (BitVec.ofNat 32 (2 ^ min n 32 - 1)) s)

/-! ### The status sectors of the image slots (R68) -/

/-- What the read of a slot gives. -/
def slotRead (s : State) (b : Bool) : SlotRead := if b then s.start.slotB else s.start.slotA

/-- CONFIRM and ATTEMPTS of slot `b`, which holds the image with header `h`, are programmed; flash keeps them. -/
def setStatus (b : Bool) (h : ImageHdr) (confirm attempts : Word) (s : State) : State :=
  if b then { s with
    start.slotB := .read h confirm attempts
    flash.statusB := some (h, confirm, attempts) }
  else { s with
    start.slotA := .read h confirm attempts
    flash.statusA := some (h, confirm, attempts) }

/-- The status sector of slot `b` is erased with its image. -/
def eraseStatus (b : Bool) (s : State) : State := if b then { s with flash.statusB := none } else { s with flash.statusA := none }

/-- What a read of a slot gives where flash holds `held`: bits once programmed to 0 are read as 0 until the sector is erased, which a new
image does (R68). -/
def heldSlot (held : Option (ImageHdr × Word × Word)) (r : SlotRead) : SlotRead := match held, r with
  | some x, .read h c a => if x.1 = h then .read h (x.2.1 &&& c) (x.2.2 &&& a) else r
  | _, _ => r

/-- What flash still holds of a status sector after that read: nothing where another image stands in the slot. -/
def heldStatus (held : Option (ImageHdr × Word × Word)) (r : SlotRead) : Option (ImageHdr × Word × Word) := match held, r with
  | some x, .read h _ _ => if x.1 = h then held else none
  | _, _ => held

/-! ### Pieces and staging (R400, R403, R407, R408) -/

/-- A step of the update is programmed in the STATE word of each copy in use: bit 0 COMPLETE, 1 VERIFIED, 2 COPY_STARTED, 3 COPIED, 4 FAILED
(R407). -/
def stepDone (n : Nat) (s : State) : State :=
  let f (w : Word) : Word := w &&& ~~~ BitVec.ofNat 32 (2 ^ n)
  { s with
    upd.wordA := if s.upd.okA then f s.upd.wordA else s.upd.wordA
    upd.wordB := if s.upd.okB then f s.upd.wordB else s.upd.wordB }

/-- The STATE word of the staging: the later one of those of the regions that hold the update (R409, R413). -/
def stagingWord (s : State) : Word :=
  (if stagedIn s false then s.upd.wordA else 0xFFFFFFFF) &&& (if stagedIn s true then s.upd.wordB else 0xFFFFFFFF)

/-- The state that a STATE word marks; a copy into the slot that a reset cut short is not begun (R409, R411). -/
def stateOfWord (w : Word) : UpdState :=
  if !w.getLsbD 4 then .failed else if !w.getLsbD 3 then .activated else if !w.getLsbD 1 then .verified else if !w.getLsbD 0 then .complete
  else .receiving

/-- Piece `p` is held (R408). -/
def pieceHeld (s : State) (p : Nat) : Bool := pieceIn s false p || pieceIn s true p

/-- The staging copy is in use. -/
def stagingOk (s : State) (copyB : Bool) : Bool := if copyB then s.upd.okB else s.upd.okA

/-- A write of job `j` into copy A is due. -/
def dueA (s : State) (j : PieceJob) : Bool := s.upd.okA && !j.doneA && !pieceIn s false j.piece

/-- A write of job `j` is due. -/
def jobDue (s : State) (j : PieceJob) : Bool := dueA s j || (s.upd.okB && !pieceIn s true j.piece)

/-- A piece that one copy holds and the other, in use, does not: it is copied in the background (R408). -/
def lonePiece (s : State) : Option PieceJob :=
  ((List.range ((s.upd.manifest.map piecesOf).getD 0)).find? fun p => pieceHeld s p && jobDue s ⟨p, 0, 0, false⟩).map
    fun p => ⟨p, (pieceOf s p).1, (pieceOf s p).2, false⟩

/-- The first write that is due asks for the clamp of its copy, A before B; without one a background copy begins (R408). -/
def pieceAsk (s : State) : State :=
  match (match s.upd.jobs.dropWhile fun j => !jobDue s j with
    | [] => (lonePiece s).toList
    | l => l) with
  | [] => { s with upd.jobs := [] }
  | j :: r =>
    let b := !dueA s j
    (askClamp 12 (flashClamp b) { s with upd.jobs := { j with doneA := b } :: r }).2

/-- A checked piece is to be written to staging (R403, R408). -/
def pieceQueue (p cipher tag : Nat) (s : State) : State :=
  if s.upd.jobs.any (fun j => j.piece == p) ∨ pieceHeld s p then s
  else
    let s1 : State := { s with upd.jobs := s.upd.jobs ++ [⟨p, cipher, tag, false⟩] }
    if s.upd.jobs.isEmpty then pieceAsk s1 else s1

/-- Every piece is held: COMPLETE is programmed and verification begins (R410). -/
def completeCheck (s : State) : State := match s.upd.manifest with
  | some m =>
    if s.upd.state = .receiving ∧ (List.range (piecesOf m)).all fun p => pieceHeld s p then stepDone 0 { s with upd.state := .complete } else s
  | none => s

/-- The update in staging is discarded: the bitmap region of each device in use is erased (R401). -/
def discardUpdate (s : State) : State :=
  freeClampOf 12 (flashClamp true) <| freeClampOf 12 (flashClamp false)
  { s with upd := { headA := if s.upd.okA then none else s.upd.headA, wordA := if s.upd.okA then 0xFFFFFFFF else s.upd.wordA,
                    heldA := if s.upd.okA then [] else s.upd.heldA, cipherA := if s.upd.okA then [] else s.upd.cipherA,
                    headB := if s.upd.okB then none else s.upd.headB, wordB := if s.upd.okB then 0xFFFFFFFF else s.upd.wordB,
                    heldB := if s.upd.okB then [] else s.upd.heldB, cipherB := if s.upd.okB then [] else s.upd.cipherB,
                     okA := s.upd.okA, okB := s.upd.okB, failsA := s.upd.failsA, failsB := s.upd.failsB,
                    actState := s.upd.actState, act := s.upd.act, since := s.upd.since, upPorts := s.upd.upPorts,
                    ackMoved := s.upd.ackMoved, confirmDsn := s.upd.confirmDsn, target := s.upd.target } }

/-! ### The octets of the piece bitmap region (R407) -/

/-- The 64 octets of the header: MAGIC, FORMAT, octets 4 to 59 of the UPD_BEGIN payload, and the CRC-32. -/
def stagingHeader (m : Manifest) : Octets :=
  let h := natToOs 2 0x5550 ++ natToOs 2 1 ++ octetsOf m.updateId ++ natToOs 4 m.imageLength ++ octetsOf m.generation ++
    natToOs 1 m.securityVersion ++ natToOs 1 m.keySlot ++ natToOs 1 m.imageKeyId ++ natToOs 1 0 ++ natToOs 2 m.persistFormat ++
    natToOs 2 m.persistFormatMin ++ natToOs 2 m.mirrorFormat ++ natToOs 2 m.mirrorFormatMin ++ octetsOf m.digest
  h ++ octetsOf (crc32 h)

/-- Octet `j` of a copy's bitmap: bit k is 0 where piece 8 j + k is held. -/
def bitmapOctet (s : State) (copyB : Bool) (j : Nat) : Nat :=
  (List.range 8).foldl (fun n k => n + (!pieceIn s copyB (8 * j + k)).toNat * 2 ^ k) 0

/-- Where a piece stands from the start of a staging region, and its tag from the start of a bitmap region. -/
def pieceOffset (p : Nat) : Nat := 4096 * p
def tagOffset (p : Nat) : Nat := 0x2000 + 16 * p

/-! ### Activation (R411, R412) -/

/-- The fronthaul ports UP. -/
def portsUp (s : State) : Nat := ((List.range 32).filter fun p => (s.port p).state == .up).length

/-- The GENERATION of the image in force; 0 without one. -/
def imageGen (s : State) : Word := (s.start.image.map fun h => h.generation).getD 0

/-- The activation enters state `n` of R412; the active mirrors the change. -/
def actTo (n : Nat) (s : State) : State :=
  mirror (.campaign (.activation n)) (some .activation) { s with upd.actState := n, upd.since := s.clock.now }

/-- The activation fails: event UPD_ACTIVATE_FAIL, and the command ends REFUSED (R411, R412). -/
def actFail (s : State) : State :=
  let s1 : State := { s with
    upd.act := none
    upd.state := if s.upd.state = .activating ∨ s.upd.state = .activated then .verified else s.upd.state }
  let s2 := occurs eUpdActivateFail (if s.upd.actState = 0 then s1 else actTo 0 s1)
  match s.upd.act with
  | some a => endItem a.dsn .refused s2
  | none => s2

/-- Steps 1 to 4 of R411 begin on this chip: the target is the slot not in force, and its flash device's clamp is asked for. -/
def beginCopy (s : State) : State :=
  (askClamp 13 (flashClamp !s.start.slot)
    (stepDone 2 { s with
      upd.state := .activating
      upd.target := !s.start.slot })).2

/-- Every bit of ATTEMPTS in the slot in force is programmed to 0 (R415). -/
def spendAttempts (s : State) : State := match slotRead s s.start.slot with
  | .read h c _ => setStatus s.start.slot h c 0 s
  | .failed => s

/-- This chip's turn in an activation or reversion: the copy begins, or the attempts are spent and the chip enters warm reset (R411,
R415). -/
def actTurn (revert : Bool) (s : State) : State := if revert then warmEnter (spendAttempts s) else beginCopy s

/-- The driving chip declares its partner lost: the partner that copied has restarted (R412). -/
def actPartnerLost (s : State) : State :=
  if s.upd.actState = 1 then actTo 2 s else if s.upd.actState = 4 then actTo 5 s else s

/-- A take: after the planned handover of the activation the new active drives on; otherwise the driving chip is lost (R412). -/
def actTaken (planned : Bool) (s : State) : State :=
  if s.upd.actState = 0 then s
  else if planned ∧ s.upd.actState = 3 then actTo 4 s
  else actFail s

/-! ### Confirmation (R78, R414, R415) -/

/-- ROLLBACK follows the manifest of the image in force (R417). -/
def rollbackUp (s : State) : State := match s.upd.manifest with
  | some m => if m.generation = imageGen s then raiseRollback m.securityVersion s else s
  | none => s

/-- The copy of step 2 of R78 holds the clamp of the other slot's flash device for a block at a time (activity 13 of R472). -/
def copyHold (s : State) : State :=
  let n := flashClamp !s.start.slot
  freeClampOf 13 n (askClamp 13 n s).2

/-- The image in force is copied into the other slot, and the copy is confirmed (step 2 of R78). -/
def copyConfirmed (s : State) : State := match s.start.image with
  | some h => setStatus (!s.start.slot) h 0 0xFFFFFFFF s
  | none => s

/-- The format below which every format is superseded: older than PERSIST_FORMAT_MIN of the valid images held, and never the one that the
image in force writes (R78). -/
def supersededBelow (s : State) : Nat := match s.start.image, slotRead s !s.start.slot with
  | some h, .read o _ _ => min (min h.persistFormatMin o.persistFormatMin) h.persistFormat
  | some h, .failed => min h.persistFormatMin h.persistFormat
  | none, _ => 0

/-- Persistent areas of superseded formats are reclaimed (step 3 of R78). -/
def reclaim (s : State) : State :=
  { s with
    start.notes := s.start.notes.filter fun n => decide (supersededBelow s ≤ n.oldFormat)
    flash.reclaimed := max s.flash.reclaimed (supersededBelow s) }

/-- Step 2 and 3 of R78: whether the other slot holds a valid image of equal or higher GENERATION, and how the steps end. -/
def confirmRest (otherValid step2Ok step3Ok : Bool) (s0 : State) : State :=
  let s := if otherValid then s0 else copyHold s0
  if !otherValid && !step2Ok then occurs eUpdConfirmIncomplete s
  else
    let s1 := if otherValid then s else copyConfirmed s
    let s2 := if s1.pair.state = .solo then rollbackUp s1 else s1
    if step3Ok then reclaim s2 else occurs eUpdConfirmIncomplete s2

/-- The image in force is confirmed: step 1 of R78, then the others. False where step 1 fails. -/
def confirmImage (step1Ok otherValid step2Ok step3Ok : Bool) (s : State) : Bool × State :=
  if !step1Ok then (false, occurs eUpdConfirmIncomplete s)
  else
    let s1 : State := match slotRead s s.start.slot with
      | .read h _ a => setStatus s.start.slot h 0 a s
      | .failed => s
    let s2 : State := { s1 with
      start.confirmed := true
      upd.state := if s.upd.state = .activated then .verified else s.upd.state }
    (true, confirmRest otherValid step2Ok step3Ok s2)

/-- The activation ends: its command ends ACKED (R412, R414). -/
def actDone (s : State) : State :=
  let s1 : State := { s with upd.act := none }
  let s2 := if s.upd.actState = 0 then s1 else actTo 0 s1
  match s.upd.act with
  | some a => endItem a.dsn .acked s2
  | none => s2

/-- The partner's COMMIT of a confirmation has come (R414, R415). -/
def confirmCommitted (ok : Bool) (s : State) : State :=
  let s0 : State := { s with upd.confirmDsn := none }
  let s1 := if !ok then s0 else if s.upd.actState = 6 then actDone (rollbackUp s0) else rollbackUp s0
  match s.upd.confirmDsn with
  | some d => endItem d (if ok then .acked else .refused) s1
  | none => s1

end Sys2Proof.Machine
end

