-- ==== Sys2Proof/Machine/Images.lean ====
section
/-! DEFINITION. The configuration image (R69, R70): its header from its octets, and the checks of R76 that the start and the update manager make. -/

namespace Sys2Proof.Machine

open Host

/-! ### The header (R69) -/

/-- The octets of `n` records from offset `o` of an image: each has 8 octets before its body (R72). -/
def recordsLength (l : Octets) : Nat → Nat → Nat
  | 0, _ => 0
  | n + 1, o => let k := 8 + osAt l (o + 4) 4; k + recordsLength l n (o + k)

/-- Every octet of `n` from offset `o` is 0. -/
def zeroOs (l : Octets) (o n : Nat) : Bool := ((l.drop o).take n).all fun x => x == 0

/-- The header in the first 256 octets of an image, with the lengths of the two sections: as many records as the image can hold at most. -/
def imageHdrRead (l : Octets) : ImageHdr :=
  let count (o : Nat) : Nat := min (osAt l o 4) (l.length / 8)
  { magic := wordOf 32 (l.take 4), formatVersion := osAt l 4 2, headerLength := osAt l 6 2, imageLength := osAt l 8 4,
    generation := wordOf 32 ((l.drop 12).take 4), securityVersion := osAt l 16 1, keySlot := osAt l 17 1, pairMode := osAt l 18 1,
    pairWait := osAt l 20 2, earlyOffset := osAt l 24 4, earlyCount := osAt l 28 4, earlyLength := recordsLength l (count 28) (osAt l 24 4),
    mainOffset := osAt l 32 4, mainCount := osAt l 36 4, mainLength := recordsLength l (count 36) (osAt l 32 4),
    persistFormat := osAt l 40 2, persistFormatMin := osAt l 42 2,
    layout := (List.range 5).map fun i => (osAt l (48 + 8 * i) 4, osAt l (52 + 8 * i) 4), buildId := wordOf 64 ((l.drop 88).take 8),
    reservedZero := zeroOs l 19 1 && zeroOs l 22 2 && zeroOs l 44 4 && zeroOs l 96 32 && zeroOs l 192 64 }

/-! ### The checks (R67, R70, R76) -/

/-- Check 1 of R76 on a header: MAGIC, FORMAT_VERSION and HEADER_LENGTH. -/
def magicOk (h : ImageHdr) : Bool := h.magic == 0x4E594346 && h.formatVersion == 1 && h.headerLength == 256

/-- Two regions of LAYOUT overlap, or one overlaps the image slot or lies past the flash (R67). -/
def layoutBad (l : List (Nat × Nat)) (size : Nat) : Bool :=
  l.any (fun x => decide (x.1 < 0x2000000 ∨ size < x.1 + x.2)) ||
    (List.range l.length).any fun i => (List.range i).any fun j =>
      let x := l.getD i (0, 0)
      let y := l.getD j (0, 0)
      decide (x.1 < y.1 + y.2 ∧ y.1 < x.1 + x.2)

/-- A section lies between the header and the signature (R70). -/
def sectionOk (h : ImageHdr) (off len : Nat) : Bool := decide (256 ≤ off ∧ off + len + 64 ≤ h.imageLength)

/-- Check 2 of R76: the lengths, the sections, LAYOUT and every header field. -/
def headerOk (h : ImageHdr) (flashSize : Nat) : Bool :=
  decide (320 ≤ h.imageLength ∧ h.imageLength ≤ 33550336) && h.imageLength % 4 == 0 &&
    sectionOk h h.earlyOffset h.earlyLength && sectionOk h h.mainOffset h.mainLength &&
    decide (h.earlyOffset + h.earlyLength ≤ h.mainOffset ∨ h.mainOffset + h.mainLength ≤ h.earlyOffset) &&
    h.layout.length == 5 && !layoutBad h.layout flashSize &&
    decide (h.securityVersion ≤ 64 ∧ h.keySlot ≤ 3 ∧ h.pairMode ≤ 1 ∧ 1 ≤ h.pairWait ∧ h.pairWait ≤ 6000) && h.reservedZero

/-- The first failure among the checks from number `k` on, with the check at which a flash read fails. -/
def firstFail (readError : Option Nat) : Nat → List (Nat × Bool) → Option Nat
  | _, [] => none
  | k, (code, ok) :: r => if readError = some k then some 0x16 else if ok then firstFail readError (k + 1) r else some code

/-- KEY_HASH of slot `n`: the fuse words from 97 on, as DEVICE_SERIAL stands in its words (R58). -/
def keyHash (s : State) (n : Nat) : Octets := ((List.range 8).reverse).flatMap fun i => octetsOf (fuseWord s (97 + 8 * n + i))

/-- The signature of an image of which `l` is the whole: ECDSA P-256 over the SHA-256 of everything before it (R70). -/
def signatureGood (l : Octets) : Bool :=
  let n := l.length - 64
  ecdsaOk (osAt l 128 32, osAt l 160 32) (sha256 (l.take n)) (osAt l n 32) (osAt l (n + 32) 32)

/-- What checks 1 to 5 and 7 of R76 find of an image that stands outside the slots (R410). -/
def stagedCheck (s : State) (l : Octets) : Option Nat :=
  let h := imageHdrRead l
  firstFail none 1 [(0x10, magicOk h), (0x11, headerOk h s.start.flashSize && h.imageLength == l.length),
    (0x12, keySlotLive s h.keySlot && sha256 ((l.drop 128).take 64) == keyHash s h.keySlot), (0x13, signatureGood l),
    (0x14, decide (rollbackCount s ≤ h.securityVersion)), (0x17, decide (h.persistFormatMin ≤ s.start.persistOld))]

end Sys2Proof.Machine
end

