-- ==== Sys2Proof/Machine/Mirror.lean ====
section
/-! DEFINITION. What the records of R378 do on the chip that takes them, and the order in which it takes them (13_dovetail_pair.md, R374 to
R382, R391 to R394). -/

namespace Sys2Proof.Machine

open Host

/-! ### The mirrored schedule of a campaign (R423, R425) -/

/-- The members of campaign `c` that take part in its round and lack fragment `f`. -/
def lacking (s : State) (c round f : Nat) : List (Nat × ProgRec) :=
  (membersOf s c).filter fun x => x.2.active round && x.2.lacks f

/-- The fragments that a round multicasts: all of them in round 1, later those that more than REPAIR_LIMIT members lack (R423). -/
def roundList (s : State) (c : Nat) (k : Camp) : List Nat :=
  if k.round ≤ 1 then List.range (fragsOf k.defn)
  else (List.range (fragsOf k.defn)).filter fun f => decide (k.defn.repairLimit < (lacking s c k.round f).length)

/-- The repairs of a round: each member's missing fragments that the round does not multicast (R423). -/
def roundRepairs (s : State) (c : Nat) (k : Camp) : List (Nat × Nat) :=
  if k.round ≤ 1 then []
  else ((List.range (fragsOf k.defn)).filter fun f => decide ((lacking s c k.round f).length ≤ k.defn.repairLimit)).flatMap fun f =>
    (lacking s c k.round f).map fun x => (x.1, f)

/-- The lowest place of the campaign store that has room for `n` octets (R418). -/
def campPlace (s : State) (n : Nat) : Option Nat :=
  ((0 :: s.camps.map fun x => x.2.base + x.2.size).mergeSort fun a b => decide (a ≤ b)).find? fun b =>
    decide (b + n ≤ s.fld rUpdCampSize 0 11 * 2 ^ 20) && s.camps.all fun x => decide (b + n ≤ x.2.base ∨ x.2.base + x.2.size ≤ b)

/-- UPD_CAMP_STATUS.STATE by its code. -/
def campStateOf : Nat → CampState
  | 1 => .loading
  | 2 => .ready
  | 3 => .running
  | 4 => .paused
  | 5 => .ended
  | 6 => .failed
  | _ => .free

/-! ### Commits (R299, R310, R316, R287, R378) -/

/-- What waited for a COMMIT goes on. -/
def settleAwait (a : Await) (ok : Bool) (s : State) : State := match a with
  | .entry j => entryCommitted j s
  | .void j => modEntry j (fun e => { e with waits := false }) s
  | .dl d => dlCommitted d s
  | .key d => if ok then keySettle d s else notAccepted d s
  | .camp c => { s with camps := amod s.camps c fun k => { k with ready := true } }
  | .confirm => confirmCommitted ok s
  | .handover => { s with pair.handover := s.pair.handover.map fun h => { h with commit := true } }
  | .activation | .piece => s

/-- COMMIT: the record with MSEQ `m` has been committed. -/
def applyCommit (m : Nat) (ok : Bool) (s : State) : State := match afind s.pair.awaits m with
  | none => s
  | some a => settleAwait a ok { s with pair.awaits := adel s.pair.awaits m }

/-! ### Records of the active (R378) -/

/-- A chip that applies the active's records. -/
def State.follows (s : State) : Bool := s.pair.state == .standby || s.pair.state == .resync || s.pair.state == .taking

/-- Answer a record that asks for a COMMIT. -/
def answer (h : MirrorHdr) (s : State) : State := if h.commitReq then commitTo h.mseq true s else s

/-- The mirrored acknowledgement of the active's group `g`. -/
def bookOf (s : State) (g : Nat) : Option AckBook := s.jrn.books.find? fun b => b.group == g

/-- The number under which State holds an acknowledgement that the active's group `g` booked. -/
def mirroredGroup (g : Nat) : Nat := 4096 + g

/-- An ENTRY with an UPLINK header: staged here, OWED if it asks for an acknowledgement, else ACCEPTED; the held candidate that it
matches closes (R302, R311). -/
def applyUplink (g : Nat) (e : EntryHdr) (s : State) : State :=
  let b := bookOf s g
  let l := (b.map fun b => b.leaveTime).getD 0
  let d := (b.map fun b => b.deadline).getD 0
  let s1 : State := { s with
    jrn.entries := s.jrn.entries ++ [{ hdr := e, state := .owed, group := mirroredGroup g, mirrored := true, leave := l, deadline := d }]
    jrn.payloads := adel s.jrn.payloads g }
  let s2 := match s1.jrn.cands.find? fun x => x.2.state == .held && x.2.counter == e.counter &&
      x.2.frame.any fun f => f.source == e.node && f.digest == e.digest with
    | some (c, x) => (match x.frame, entryOf s1 e.jsn with
      | some f, some y => matchCand c f y s1
      | _, _ => s1)
    | none => s1
  if e.ackReq then s2 else acceptEntry e.jsn s2

/-- ENTRY: a journal entry of the active (R302, R312, R317). -/
def applyEntry (h : MirrorHdr) (g : Nat) (e : EntryHdr) (s0 : State) : State :=
  let s : State := { s0 with jrn.nextJsn := max s0.jrn.nextJsn (e.jsn + 1) }
  answer h (
    if (entryOf s e.jsn).isSome then s
    else if e.kind = 1 then applyUplink g e s
    else if e.kind = 2 then { s with jrn.entries := s.jrn.entries ++ [{ hdr := e, state := .void, mirrored := true }] }
    else dlAdvance e.dsn (modDl e.dsn (fun r => { r with state := .ended })
      { s with jrn.entries := s.jrn.entries ++ [{ hdr := e, state := .outcome, mirrored := true }] }))

/-- ACK_BOOK: the owed acknowledgement is kept and charged to the shadow accounts, and the calibration engine knows of it (R209, R233, R309). -/
def applyAckBook (b : AckBook) (s : State) : State :=
  charge b.channel b.port b.airStart b.airtime false
    (logMirrored b.port b.channel b.airStart (b.power - s.signedAt rTxmStreamCtrl (2 * b.port) 0 16) b.profile
      { s with jrn.books := (s.jrn.books.filter fun x => x.group != b.group) ++ [b] })

/-- DL_RECORD: an acceptance record is committed, and a command is ready to be carried out here too; or an item's first transmission
has begun (R316, R319, R378). -/
def applyDl (h : MirrorHdr) (b : DlMirror) (s : State) : State := match b with
  | .begun d e => answer h (modDl d (fun r => if r.state = .waiting then { r with state := .begun e } else r) s)
  | .accept it =>
    if (dlOf s it.dsn).isSome then answer h s
    else
      let s1 : State := { s with
        dl.recs := s.dl.recs ++ [{ item := it, since := s.clock.now, state := .committing 0 }]
        dl.nextDsn := max s.dl.nextDsn it.dsn
        dl.sync := false }
      answer h (dlCommitted it.dsn s1)

/-- CEILING: TX_FC takes the node's ceiling; the FLOOD_ID and epoch ceilings are kept (R283, R361, R387). -/
def applyCeilings (c : Ceilings) (s : State) : State :=
  let s1 := c.txFc.foldl (fun s x => match s.indexOf x.1 with
    | some i => s.modNode i fun n => { n with sec := { n.sec with txFc := max n.sec.txFc x.2 } }
    | none => s) s
  { s1 with
    fwd.floodCeiling := max s.fwd.floodCeiling (c.floodId.getD 0)
    flash.epochCeiling := max s.flash.epochCeiling (c.epoch.getD 0) }

/-- ACK_POINT: JRN_ACK_JSN moves, and the ring space below it is free (R327). -/
def applyAckPoint (j : Nat) (s : State) : State :=
  if j ≤ s.jrn.ackJsn then s
  else { s with
    jrn.ackJsn := j
    jrn.entries := s.jrn.entries.filter fun e => decide (j < e.hdr.jsn) || e.state == .owed || e.state == .staged }

/-- SESSION (R323, R324). -/
def applySession (n ceiling high : Nat) (nd nh : BitVec 128) (s : State) : State :=
  let keys := sessionKeys (persistentKey s 6 0) nd nh n
  { s with
    fry.session := n
    fry.lastUsed := max s.fry.lastUsed n
    fry.nonceD := nd
    fry.nonceH := nh
    fry.txCeiling := ceiling
    fry.txKey := keys.extractLsb' 256 256
    fry.rx := ⟨n, keys.extractLsb' 0 256, high, []⟩
    fry.opened := if s.fry.session = n then s.fry.opened else s.clock.now
    fry.keyGen := ((keyAt s 6 0).map fun k => k.gen).getD 0 }

/-- SCHEDULE: the change waits for its effective ASN; the bulk copy's is in force at once (R244, R392). A chip that takes the token
accepts none (R383). -/
def applySchedule (h : MirrorHdr) (c : SchedChange) (s : State) : State :=
  if s.pair.state = .taking then s
  else
    let s1 : State := { s with sch.startAsn := c.start.orElse fun _ => s.sch.startAsn }
    if h.bulk then refreshCfg 11 (applyChange c s1) else { s1 with sch.changes := s.sch.changes ++ [c] }

/-- The items in the ring that carry key-load item `it` are carried out here (R287, R319). -/
def keyItemDone (it : KeyItem) (s : State) : State :=
  (s.dl.recs.filter fun r => r.state == .carrying && r.done.isNone && r.item.body == .key it).foldl
    (fun s r => dlAdvance r.item.dsn (endItem r.item.dsn .acked s)) s

/-- A LOAD of a persistent key that the active mirrors: its effect at once, its journals behind it, and the COMMIT after them (R287). -/
def mirrorStore (h : MirrorHdr) (r : KeyRec) (s : State) : State :=
  let s1 := applyRec r s
  if h.commitReq then addJob (.partner h.mseq) r s1 else addJob .blob r s1

/-- A key-load item that the active has carried out (R286 to R289). -/
def applyKeyItem (h : MirrorHdr) (it : KeyItem) (s : State) : State :=
  let plain := underKek s it.kekId it.blob
  if it.cls = 9 then
    match it.op, plain, s.indexOf it.eui with
    | 1, some p, some _ => answer h (keyItemDone it (loadNode it p s).2)
    | 2, _, some i => answer h (keyItemDone it (voidNode i true s))
    | 3, _, some i => answer h (keyItemDone it (voidNode i false s))
    | _, _, _ => answer h (keyItemDone it s)
  else match it.op, plain, keyAt s it.cls it.keyId with
    | 1, some p, _ => mirrorStore h (keyRec p (if p.cls ≤ 4 then 0 else it.kekId)) (keyItemDone it s)
    | 2, _, some k => mirrorStore h ⟨0, it.cls, 2, it.keyId, k.gen + 1, 0, k.parent, none, true⟩ (keyItemDone it s)
    | 3, _, some k => mirrorStore h ⟨0, it.cls, 3, it.keyId, k.gen, 0, k.parent, none, true⟩ (keyItemDone it s)
    | 4, _, _ => answer h (rewrapStart (it.keyId % 16) (it.keyId / 16 % 16)
        (((s.dl.recs.find? fun r => r.item.body == .key it).map fun r => r.item.dsn).getD 0) s)
    | _, _, _ => answer h (keyItemDone it s)

/-- The plaintext of a key sent under the pair key (R287, R291). -/
def underPair (s : State) (b : BitVec 512) : Option KeyPlain := s.key.pairKey.bind fun k => unwrapBlob k b

/-- KEY (R283, R287, R378). -/
def applyKey (h : MirrorHdr) (b : KeyMirror) (s : State) : State := match b with
  | .item it => applyKeyItem h it s
  | .persistent b parent => (match underPair s b with
    | some p => mirrorStore h (keyRec p parent) s
    | none => commitTo h.mseq false (bump cKeyBlobBad 0 s))
  | .ceiling cls id v => answer h (recordCeiling cls id v s)

/-- NODE: the entry is inserted under the mirrored INDEX, or deleted (R365); the bulk copy brings what R392 lists. -/
def applyNode (create : Bool) (e : Eui) (i : Nat) (relay : Bool) (pan : BitVec 16) (b : Option NodeBulk) (s : State) : State :=
  if !create then
    (if (s.nodeAt i).any fun n => n.eui == e then deleteNode i s else s)
  else match anyPlace s e with
  | none => bump cFwdRbFull 0 s
  | some place =>
    let s0 := match s.indexOf e with
      | some j => if j = i then s else deleteNode j s
      | none => s
    let n : Node := { freshNode s0 e pan place with role := relay.toNat }
    match b with
    | none => { s0 with fwd.nodes := aput s0.fwd.nodes i n }
    | some x =>
      let s1 : State := { s0 with fwd.nodes := aput s0.fwd.nodes i { n with
        homePort := x.homePort
        unhomed := x.unhomed
        parent := x.parent
        sec := { fcHwm := x.fcHwm, txFc := x.txFc, blobValid := x.blobValid, kekId := x.kekId, keyGen := x.keyGen } } }
      match x.blob with
      | some p => { s1 with fwd.blobs := aput s1.fwd.blobs i p }
      | none => s1

/-- A campaign that the bulk copy brings whole (R392). -/
def applyCampWhole (d : CampDef) (frags : List Nat) (members : List (Nat × Nat)) (round cursor st : Nat) (s : State) : State :=
  let n := fragsOf d * 64
  let b := (campPlace { s with camps := adel s.camps d.campaign } n).getD 0
  let k : Camp := { defn := d, state := campStateOf st, frags := frags, base := b, size := n, round := round, cursor := cursor,
                    opened := none, list := [], repairs := [] }
  { s with
    camps := aput s.camps d.campaign k
    prog := members.foldl (fun l x => aput l x.1 ⟨d.campaign, x.2, 0, 0, [], 0⟩) s.prog }

/-- CAMPAIGN: a checkpoint, the activation state, a mesh piece, the order to confirm, or a whole campaign (R406, R412, R414, R425). -/
def applyCampaign (h : MirrorHdr) (b : CampMirror) (s : State) : State := match b with
  | .checkpoint c r k st => answer h { s with camps := amod s.camps c fun x =>
      { x with
        round := r
        cursor := k
        state := campStateOf st } }
  | .activation n => answer h { s with
      upd.actState := n
      upd.since := s.clock.now }
  | .piece u p cipher tag => answer h (if s.upd.manifest.any fun m => m.updateId == u then pieceQueue p cipher tag s else s)
  | .confirm a b c d =>
    let r := confirmImage a b c d s
    let s1 := if r.1 then rollbackUp r.2 else r.2
    if h.commitReq then commitTo h.mseq r.1 s1 else s1
  | .whole d f m r k st => answer h (applyCampWhole d f m r k st s)

/-- TIME: the standby's device time less the active's is removed: by its one step at a cold start, and then by slewing beyond ±20 ns
(R238, R241). -/
def applyTime (p : Time) (s : State) : State :=
  let off : Int := (s.clock.now : Int) - p
  let s1 : State := { s with timer.offset := off }
  if mayStep s then { s1 with
    timer.stepped := true
    clock.now := p }
  else slewTo 320 off s1

/-! ### Learning digests (R391) -/

/-- One bit of a CRC-64 of ECMA-182. -/
def crc64Bit (c : BitVec 64) (b : Bool) : BitVec 64 :=
  if c.getLsbD 63 != b then (c <<< 1) ^^^ 0x42F0E1EBA9EA3693#64 else c <<< 1

/-- CRC-64 of ECMA-182 over octets, the most significant bit of each first. -/
def crc64 (init : BitVec 64) (l : Octets) : BitVec 64 :=
  l.foldl (fun c o => (List.range 8).foldl (fun c i => crc64Bit c (o.testBit (7 - i))) c) init

/-- What the digest takes of an entry: INDEX, HOME_PORT, UNHOMED, PARENT, PARENT_VALID and ROLE. The spec does not lay these out; the model gives
each its whole octets, and 0 to a value that is not valid (PRESUMED, see the log). -/
def digestOctets (i : Nat) (n : Node) : Octets :=
  natToOs 3 i ++ natToOs 1 (if n.unhomed then 0 else n.homePort) ++ natToOs 1 n.unhomed.toNat ++ natToOs 3 (n.parent.getD 0) ++
    natToOs 1 n.parent.isSome.toNat ++ natToOs 1 n.role

/-- The entries of a range of 1,280 INDEX values, in INDEX order: State holds the entries in that order. -/
def rangeNodes (s : State) (r : Nat) : List (Nat × Node) := s.fwd.nodes.filter fun x => x.1 / 1280 == r

/-- The digest of a range. -/
def rangeDigest (s : State) (r : Nat) : BitVec 64 := (rangeNodes s r).foldl (fun c x => crc64 c (digestOctets x.1 x.2)) 0

/-- The own digest: each range that holds an entry; the digest of every other range is 0. -/
def ownDigest (s : State) : List (Nat × BitVec 64) :=
  ((List.range 4096).filter fun r => s.fwd.nodes.any fun x => x.1 / 1280 == r).map fun r => (r, rangeDigest s r)

/-- The ranges whose digests differ. -/
def digestsDiffer (a b : List (Nat × BitVec 64)) : List Nat :=
  (List.range 4096).filter fun r => (afind a r).getD 0 != (afind b r).getD 0

/-- The entries of a range as a RANGE reply carries them. -/
def rangeEntries (s : State) (r : Nat) : List RangeEntry :=
  (rangeNodes s r).map fun x => ⟨x.1, x.2.homePort, x.2.unhomed, x.2.parent.getD 0, x.2.parent.isSome, x.2.role == 1⟩

/-- DIGEST: the active's digest is compared with the own one of the same period; the ranges that differ twice running are requested, during a
resynchronisation at once (R391, R392). -/
def applyDigest (a : List (Nat × BitVec 64)) (s : State) : State :=
  let l := digestsDiffer a (if s.pair.state = .resync then ownDigest s else s.pair.digest)
  let want := (l.filter fun r => s.pair.state == .resync || s.pair.differ.contains r).filter fun r => !s.pair.asked.contains r
  want.foldl (fun s r => emit (.range (.request r)) none s) { s with
    pair.differ := l
    pair.asked := s.pair.asked ++ want }

/-- RANGE: a request is answered by the active; a reply is adopted without charging learn budgets (R391). -/
def applyRange (m : RangeMsg) (s : State) : State := match m with
  | .request r => if s.pair.state = .active then emit (.range (.reply r (rangeEntries s r))) none s else s
  | .reply r l =>
    if s.follows ∧ s.pair.asked.contains r then
      bump cPairDigestMismatch 0 (l.foldl (fun s x => s.modNode x.index fun n => { n with
        homePort := x.homePort
        unhomed := x.unhomed
        parent := if x.parentValid then some x.parent else none
        role := x.relay.toNat }) { s with pair.asked := s.pair.asked.filter fun y => y != r })
    else s

/-- HANDOVER: T_h and the new epoch are kept (R396). A chip that takes the token accepts none (R383). -/
def applyHandover (h : MirrorHdr) (th : Time) (e : Nat) (s : State) : State :=
  if s.pair.state = .taking then s
  else answer h { s with pair.handover := some ⟨th, e, none, false, true⟩ }

/-- RELEASED: the drain is skipped; a take already under way comes at T_s + 1 µs (R396). -/
def applyReleased (s : State) : State :=
  let s1 : State := { s with pair.released := true }
  match s.pair.sensed with
  | some ts => if s.pair.handover.isSome then { s1 with pair.takeAt := min s.pair.takeAt (max s.clock.now (ts + us 1)) } else s1
  | none => s1

/-! ### Self-diagnosis (R390) -/

/-- The device has a Ferry path to an endpoint (R321). -/
def ferryPath (s : State) : Bool :=
  (endpoints s).any (fun i => endpointHeard s i) && (ferryPorts s).any fun p => s.fry.links.getLsbD p

/-- The bits with `p`. -/
def bitmap (w : Nat) (p : Nat → Bool) : BitVec w := BitVec.ofNat w ((List.range w).foldl (fun n i => n + (p i).toNat * 2 ^ i) 0)

/-- The device's own fitness. -/
def ownFitness (s : State) : Fitness :=
  { fhUp := bitmap 32 fun p => (s.port p).state == .up, ethUp := bitmap 8 fun p => (ferryPorts s).contains p && s.fry.links.getLsbD p,
    ferryPath := ferryPath s, ddr := BitVec.ofBool s.msys.chB.ok ++ BitVec.ofBool s.msys.chA.ok,
    flash := BitVec.ofBool (!s.flash.lostB) ++ BitVec.ofBool (!s.flash.lostA) }

/-- Some give-up condition holds against the partner's fitness. -/
def giveUpDue (s : State) : Bool := match s.pair.fitness with
  | none => false
  | some f =>
    let o := ownFitness s
    (!o.ferryPath && f.ferryPath) || (ones o.ddr == 1 && ones f.ddr == 2) || (ones o.flash == 1 && ones f.flash == 2) ||
      decide (ones o.fhUp + s.fld rPairCtrl 23 5 ≤ ones f.fhUp)

/-- Bring the time since which a give-up condition has held up to date; during a handover or a resynchronisation none counts (R390,
R397). -/
def refreshGiveUp (s : State) : State :=
  { s with pair.giveUp := if partnerStandby s && s.pair.handover.isNone && giveUpDue s then some (s.pair.giveUp.getD s.clock.now) else none }

/-! ### Taking records (R374, R377, R380, R381, R383, R394) -/

/-- The object of a record, as its class in the order of the bulk copy and its number there (R392, R394). -/
def objectOf (s : State) : Instr → Option (Nat × Nat)
  | .ceilingRecord _ _ _ => some (1, 0)
  | .scheduleRecord _ _ _ => some (2, 0)
  | .nodeRecord _ _ _ _ i _ _ _ => some (3, i)
  | .keyRecord _ _ (.item it) => (s.indexOf it.eui).map fun i => (3, i)
  | .dlRecord _ _ (.accept it) => some (4, it.dsn)
  | .dlRecord _ _ (.begun d _) => some (4, d)
  | .entryRecord _ _ _ e => some (5, e.jsn)
  | .voidRecord _ _ j => some (5, j)
  | .sessionRecord _ _ _ _ _ _ _ => some (6, 0)
  | .campaignRecord _ _ (.checkpoint c _ _ _) => some (7, c)
  | .campaignRecord _ _ (.whole d _ _ _ _ _) => some (7, d.campaign)
  | _ => none

/-- Place `a` of the walk lies beyond place `b`. -/
def beyond (a b : Nat × Nat) : Bool := decide (b.1 < a.1 ∨ b.1 = a.1 ∧ b.2 < a.2)

/-- The bulk copy is still under way on this chip. -/
def walking (s : State) : Bool := s.pair.state == .resync && !s.pair.phasesDone.contains 4

/-- What a record does to the chip that takes it; one of the active does nothing elsewhere. -/
def applyRecord (i : Instr) (s : State) : State := match i with
  | .commitRecord _ _ m ok => if s.pair.state = .active then applyCommit m ok s else s
  | .fitnessRecord _ _ f => refreshGiveUp { s with pair.fitness := some f }
  | .rangeRecord _ _ m => applyRange m s
  | .payloadRecord _ _ g n => if s.follows then { s with jrn.payloads := aput s.jrn.payloads g ((afind s.jrn.payloads g).getD 0 + n) } else s
  | .entryRecord _ h g e => if s.follows then applyEntry h g e s else s
  | .ackBookRecord _ _ b => if s.follows then applyAckBook b s else s
  | .voidRecord _ h j => if s.follows then answer h (voidEntry j s) else s
  | .dlRecord _ h b => if s.follows then applyDl h b s else s
  | .ceilingRecord _ _ c => if s.follows then applyCeilings c s else s
  | .ackPointRecord _ _ j => if s.follows then applyAckPoint j s else s
  | .sessionRecord _ _ n c w a b => if s.follows then applySession n c w a b s else s
  | .scheduleRecord _ h c => if s.follows then applySchedule h c s else s
  | .keyRecord _ h b => if s.follows then applyKey h b s else s
  | .nodeRecord _ _ c e n r p b => if s.follows then applyNode c e n r p b s else s
  | .campaignRecord _ h b => if s.follows then applyCampaign h b s else s
  | .timeRecord _ _ p => if s.follows then applyTime p s else s
  | .digestRecord _ _ l => if s.follows then applyDigest l s else s
  | .handoverRecord _ h th e => if s.follows then applyHandover h th e s else s
  | .releasedRecord _ _ _ => if s.follows then applyReleased s else s
  | _ => s

/-- Take record `i` with its header in its turn: a live record for an object that the walk has not reached is skipped (R394). -/
def takeRecord (h : MirrorHdr) (i : Instr) (s0 : State) : State :=
  let s : State := { s0 with
    pair.nextIn := h.mseq + 1
    pair.drained := if s0.pair.sensed.isSome then s0.pair.drained + 1 else 0
    pair.epoch := if s0.pair.state = .standby ∨ s0.pair.state = .resync then max s0.pair.epoch h.epoch else s0.pair.epoch
    pair.partnerLow := s0.pair.partnerLow || (s0.pair.state == .standby && decide (s0.pair.epoch < h.epoch)) }
  match objectOf s i with
  | some o =>
    if walking s && !h.bulk && beyond o s.pair.walk then bump cPairResyncLiveSkip 0 s
    else applyRecord i (if h.bulk && beyond o s.pair.walk then { s with pair.walk := o } else s)
  | none => applyRecord i s

/-- The header of a record. -/
def headerOf : Instr → Option MirrorHdr
  | .payloadRecord _ h _ _ | .entryRecord _ h _ _ | .ackBookRecord _ h _ | .voidRecord _ h _ | .dlRecord _ h _ | .ceilingRecord _ h _
  | .ackPointRecord _ h _ | .sessionRecord _ h _ _ _ _ _ | .scheduleRecord _ h _ | .keyRecord _ h _ | .nodeRecord _ h _ _ _ _ _ _
  | .campaignRecord _ h _ | .timeRecord _ h _ | .commitRecord _ h _ _ | .fitnessRecord _ h _ | .digestRecord _ h _ | .rangeRecord _ h _
  | .handoverRecord _ h _ _ | .releasedRecord _ h _ | .keepaliveRecord _ h => some h
  | _ => none

/-- Take the records that wait and have become next in order, at most `n` (R380). -/
def takeWaiting : Nat → State → State
  | 0, s => s
  | n + 1, s => match (afind s.pair.waiting s.pair.nextIn).bind fun i => (headerOf i).map fun h => (h, i) with
    | none => { s with pair.gapSince := if s.pair.waiting.isEmpty then none else some (s.pair.gapSince.getD s.clock.now) }
    | some (h, i) => takeWaiting n (takeRecord h i { s with pair.waiting := adel s.pair.waiting s.pair.nextIn, pair.gapSince := none })

/-- A record that the drain of R383 no longer takes. -/
def tooLate (s : State) : Bool := match s.pair.sensed with
  | some ts => decide (ts + us 19 / 10 < s.clock.now) || decide (256 ≤ s.pair.drained)
  | none => false

/-- A good copy keeps its link and the partner alive (R373, R381). -/
def heardOn (l : Nat) (s : State) : State :=
  { s with
    pair.linkHeard := aput s.pair.linkHeard l s.clock.now
    pair.lastGood := s.clock.now }

/-- COMMIT and DIGEST, which a lost partner may no longer send (R381). -/
def refusedOfLost : Instr → Bool
  | .commitRecord _ _ _ _ => true
  | .digestRecord _ _ _ => true
  | _ => false

/-- A copy of record `i` arrives on a link (R374, R377, R380, R381, R383). -/
def receive (h : MirrorHdr) (i : Instr) (s : State) : State :=
  if !s.isthmusUp || !s.pair.links.getLsbD h.link then s
  else if !h.tagGood then bump cPairIsthmusAuth 0 s
  else
    let s1 := heardOn h.link s
    if !s.pair.paired then (if s.pair.partnerLost && refusedOfLost i then bump cPairStaleRecord 0 s1 else s1)
    else if h.mseq < s.pair.nextIn ∨ (afind s.pair.waiting h.mseq).isSome then bump cPairSecondCopy 0 s1
    else if tooLate s then bump cPairLateRecord 0 { s1 with pair.nextIn := h.mseq + 1 }
    else if h.mseq = s.pair.nextIn then
      let s2 := takeRecord h i s1
      takeWaiting (s2.pair.waiting.length + 1) s2
    else { s1 with
      pair.waiting := aput s1.pair.waiting h.mseq i
      pair.gapSince := some (s1.pair.gapSince.getD s1.clock.now) }

end Sys2Proof.Machine
end

