-- ==== Sys2Proof/Machine/Pair.lean ====
section
/-! DEFINITION. The meanings of the Dovetail controller's commands (13_dovetail_pair.md, R367 to R398; R64, R290, R291). -/

namespace Sys2Proof.Machine

open Host

/-- `n` Isthmus cycles, one sixty-fourth of the lane rate of 25.78125 Gbaud, in 1/16 ns. -/
def isthmus (n : Nat) : Time := n * 32768 / 825

/-- The error code of a named event (R496). -/
def eventCode (e : Nat) : Nat := 0x80 + e % 2048

/-! ### Epochs (R387) -/

/-- EPOCH takes the value `e`; an epoch that reaches the ceiling raises it by 256 (R387). -/
def raiseEpoch (e : Nat) (s : State) : State :=
  let s1 : State := { s with pair.epoch := max s.pair.epoch e }
  if s1.flash.epochCeiling ≤ s1.pair.epoch then mirror (.ceiling ⟨[], none, some (s1.pair.epoch + 256)⟩) none { s1 with flash.epochCeiling := s1.pair.epoch + 256 } else s1

/-! ### Pairing (R290, R291, R370, R387) -/

/-- Pairing may run: in P8 and in service, in an image for a pair (R51, R64). -/
def mayPair (s : State) : Bool :=
  pairMode s && (s.start.phase == .p8 || s.start.phase == .p9) && s.isthmusUp && s.keyUp && s.pair.state != .excluded

/-- The device looks for a partner. -/
def seeking (s : State) : Bool :=
  mayPair s && !s.pair.paired && (s.pair.state == .unpaired || s.pair.state == .detached || s.pair.state == .active)

/-- A PAIRING record leaves. It stands outside the MSEQ order of the pairing that it makes (log). -/
def sendPairing (m : PairingMsg) (s : State) : State := s.out (.record false false 0 s.pair.epoch (.pairing m))

/-- The persistent keys that a hello lists (R290). -/
def listedKeys (s : State) : List VKey :=
  (s.key.keys.filter fun x => decide (4 ≤ x.1 / 2 ^ 32) && persistent (x.1 / 2 ^ 32)).map fun x => x.2

/-- The own hello (R290, R387, R413). -/
def ownHello (s : State) : Hello :=
  { role := s.start.pairRole, hmacGood := true, nonce := s.key.ownNonce, ephemeral := publicOf s.key.ownPriv,
    keys := (listedKeys s).map fun k => ⟨k.plain.cls, k.plain.id, k.gen, checkValue k.plain⟩,
    epochCeiling := s.flash.epochCeiling, holdsToken := s.pair.driving, epoch := s.pair.epoch, mirrorFormat := s.fld rPairFormat 0 16,
    mirrorFormatMin := s.fld rPairFormat 16 16, nextJsn := s.jrn.nextJsn, imageGen := imageGen s, confirmed := s.start.confirmed,
    fallback := s.start.fallback, updateId := (s.upd.manifest.map fun m => m.updateId).getD 0, updState := stagingWord s }

/-- Pairing begins: both directions start again at MSEQ 1, and the hello leaves once a link is UP, with a fresh nonce and ephemeral key from the
DRBG (R270, R290, R376). -/
def beginPairing (s : State) : State :=
  let s1 : State := { s with
    pair.mseqOut := 0
    pair.nextIn := 1
    pair.waiting := []
    pair.gapSince := none
    key.hello := none
    key.pairState := 0 }
  if seeking s1 && s1.pair.links != 0 then
    let s2 : State := { s1 with
      key.pairState := 1
      key.ownNonce := Config.pairNonce s1.free
      key.ownPriv := Config.ephemeralKey s1.free
      free := s1.free + 1 }
    sendPairing (.hello (ownHello s2)) s2
  else s1

/-- The device leaves its pairing and becomes DETACHED (R370, R380, R382). -/
def detach (s : State) : State :=
  beginPairing (refreshSource { s with
    pair.state := .detached
    pair.paired := false
    pair.awaits := []
    pair.sensed := none
    pair.drained := 0
    pair.handover := none
    pair.released := false
    pair.phase := 0
    pair.phasesDone := []
    pair.walk := (0, 0)
    pair.cutIn := false
    pair.differ := []
    pair.asked := []
    pair.giveUp := none
    pair.fitness := none
    key.pairKey := none })

/-- The chip becomes active or detached at the end of P8 without a partner (R64, R370). -/
def goAbsent (s : State) : State :=
  let s1 : State := occurs ePairAbsent { s with
    pair.absent := true
    start.linkDone := true }
  if s.pair.partnerLow then { s1 with pair.state := .detached }
  else raiseEpoch s1.flash.epochCeiling { s1 with pair.state := .active }

/-- PAIR_ABSENT: PAIR_WAIT expires in P8 without a partner; the operand is the level of the partner's line (R64, R370). A chip that pairing
has excluded leaves P8 then too, and never drives its line (R51). -/
def execPairAbsent (t : Time) (partnerLow : Bool) (s : State) : Outcome State Fault Refusal :=
  onInst true <|
    let s := s.arrive t
    if s.start.phase ≠ .p8 ∨ s.start.linkDone then s
    else if s.pair.state = .unpaired then goAbsent { s with pair.partnerLow := partnerLow }
    else if s.pair.state = .excluded then { s with start.linkDone := true }
    else s

/-- Pairing fails with event `e`: in P8 role B is excluded and role A goes on as without a partner; in service the role stands (R290, R291,
R370). -/
def pairFail (e : Nat) (s : State) : State :=
  let s1 : State := occurs e { s with
    key.pairState := 3
    key.conflict := s.key.conflict || e == eKeyPairConflict
    key.hello := none }
  if s.start.phase = .p8 ∧ s.pair.state = .unpaired then
    if s.start.pairRole then { s1 with
      pair.state := .excluded
      pins.ready := false }
    else goAbsent s1
  else s1

/-- Each of two images' MIRROR_FORMAT lies between the other's MIRROR_FORMAT_MIN and MIRROR_FORMAT (R387). -/
def formatsMeet (format formatMin format' formatMin' : Nat) : Bool :=
  decide (formatMin' ≤ format ∧ format ≤ format' ∧ formatMin ≤ format' ∧ format' ≤ format)

/-- The mirror formats of the image in force meet those of the partner (R387). -/
def formatsFit (s : State) (h : Hello) : Bool := formatsMeet (s.fld rPairFormat 0 16) (s.fld rPairFormat 16 16) h.mirrorFormat h.mirrorFormatMin

/-- Some key has the same GENERATION and another check value on the two chips (R291). -/
def keyConflict (s : State) (h : Hello) : Bool :=
  (listedKeys s).any fun k => h.keys.any fun x =>
    x.cls == k.plain.cls && x.id == k.plain.id && x.gen == k.gen && x.kcv != checkValue k.plain

/-- A hello of the partner: checked, answered by the own hello if it has not left yet, and by the confirmation (R290, R387). -/
def takeHello (h : Hello) (s0 : State) : State :=
  if s0.key.pairState = 1 ∧ s0.key.hello = some h then bump cPairSecondCopy 0 s0
  else
    let s := if s0.pair.paired then
        (if s0.pair.state = .active then { s0 with
          pair.paired := false
          pair.awaits := []
          pair.cutIn := false } else detach s0)
      else s0
    if !h.hmacGood then pairFail eKeyPairAuthFail s
    else if !formatsFit s h then pairFail ePairFormatMismatch s
    else if keyConflict s h then pairFail eKeyPairConflict s
    else
      let s1 := if s.key.pairState = 1 then s else beginPairing s
      sendPairing (.confirm true) { s1 with
        key.pairState := 1
        key.hello := some h }

/-- The keys that the partner lacks or holds at a lower GENERATION leave under the pair key (R291). -/
def sendKeys (h : Hello) (s : State) : State :=
  ((listedKeys s).filter fun k => !(h.keys.any fun x => x.cls == k.plain.cls && x.id == k.plain.id && decide (k.gen ≤ x.gen))).foldl
    (fun s k => sendPairing (.key (wrapBlob (s.key.pairKey.getD 0) k.plain)) s) s

/-- The node record of the bulk copy (R392). -/
def nodeBody (s : State) (i : Nat) (n : Node) : Body :=
  .node true n.eui i (n.role == 1) n.pan (some ⟨n.homePort, n.unhomed, n.parent, n.sec.fcHwm, (afind s.key.txMirrored i).getD n.sec.txFc,
    n.sec.blobValid, n.sec.kekId, n.sec.keyGen, afind s.fwd.blobs i⟩)

/-- A downlink record that has not ended: its acceptance, and its progress (R378). -/
def dlBodies (r : DlRec) : List Body := match r.state with
  | .ended => []
  | .begun x => [.dl (.accept r.item), .dl (.begun r.item.dsn x)]
  | _ => [.dl (.accept r.item)]

/-- The whole schedule: the tables of the slot scheduler, the cells apart, and the swept transmit IQ values (R233, R392). -/
def wholeSchedule (s : State) : SchedChange :=
  { epoch := s.sch.epoch, effective := s.asnAt s.clock.now, cells := s.entries tSchCell,
    tables := [tSchChannel, tSchHop, tSchSlotframe, tSchNbr].flatMap fun t => (s.entries t).map fun x => (t, x.1, x.2),
    txIq := (List.range 36).map fun h => (h, (s.headCal h).txCand.iqGain, (s.headCal h).txCand.iqPhase), start := s.sch.startAsn }

/-- A campaign whole (R392). -/
def campBody (s : State) (c : Nat) (k : Camp) : Body :=
  .campaign (.whole k.defn k.frags ((membersOf s c).map fun x => (x.1, x.2.state)) k.round k.cursor k.state.code)

/-- The records of the bulk copy in the order of R392, the activation state with the campaigns (R413). -/
def bulkBodies (s : State) : List Body :=
  [.ceiling ⟨[], some s.fwd.floodCeiling, some s.flash.epochCeiling⟩, .schedule (wholeSchedule s)] ++
    (s.fwd.nodes.map fun x => nodeBody s x.1 x.2) ++ s.dl.recs.flatMap dlBodies ++ (s.jrn.entries.map fun e => .entry e.group e.hdr) ++
    [sessionBody s] ++ (s.camps.map fun x => campBody s x.1 x.2) ++ [.campaign (.activation s.upd.actState)]

/-- The bulk copy leaves, with BULK set (R376, R392). -/
def bulkWalk (s : State) : State := (bulkBodies s).foldl (fun s b => emitAs true b none s) s

/-- The chip is active in the new pairing: it keeps its role, and the partner resynchronises from it (R370, R392). -/
def pairedActive (s : State) : State :=
  let s1 : State := { s with
    pair.cutIn := false
    pair.phase := 3
    pair.phasesDone := [1, 2]
    pair.resyncAt := s.clock.now
    pair.slow := false
    pair.progress := 0 }
  let revert := s.upd.act.any fun a => a.revert
  let s2 := if (s.upd.actState = 2 ∨ s.upd.actState = 5) ∧ !revert ∧ s.key.hello.any (fun h => h.fallback) then actFail s1 else s1
  bulkWalk s2

/-- The chip resynchronises from an active partner at epoch `e` (R370, R392). -/
def pairedResync (e : Nat) (s : State) : State :=
  { s with
    pair.state := .resync
    pair.epoch := max s.pair.epoch e
    pair.partnerLow := (s.key.hello.any fun h => h.holdsToken)
    pair.phase := 3
    pair.phasesDone := [1, 2]
    pair.resyncAt := s.clock.now
    pair.progress := 0
    pair.walk := (0, 0)
    jrn.entries := []
    jrn.books := []
    dl.recs := []
    dl.reorder := [] }

/-- The pair key with the partner whose hello is `h` (R290). -/
def pairKeyWith (s : State) (h : Hello) : BitVec 256 :=
  let z := (ecdh s.key.ownPriv (pointOf h.ephemeral)).getD []
  if s.start.pairRole then pairKeyOf z h.nonce s.key.ownNonce else pairKeyOf z s.key.ownNonce h.nonce

/-- A good confirmation: the pair key stands, keys are reconciled, and roles and epoch are agreed (R290, R291, R370, R387). -/
def takeConfirm (s : State) : State := match s.key.hello with
  | none => s
  | some h =>
    if s.key.pairState ≠ 1 ∨ s.pair.paired then s
    else
      let s1 := sendKeys h { s with
        key.pairState := 2
        key.pairKey := some (pairKeyWith s h)
        key.ownPriv := 0
        pair.paired := true
        pair.mseqOut := 0
        pair.nextIn := 1
        pair.awaits := []
        pair.lastGood := s.clock.now
        start.linkDone := s.start.linkDone || s.start.phase == .p8
        jrn.nextJsn := max s.jrn.nextJsn h.nextJsn }
      let top := max s.flash.epochCeiling h.epochCeiling
      if s.pair.state = .active then pairedActive s1
      else if h.holdsToken ∨ s.pair.state = .detached then pairedResync h.epoch s1
      else if s.start.pairRole then pairedResync top s1
      else pairedActive (raiseEpoch top { s1 with pair.state := .active })

/-- PAIRING_RECORD (R290, R291, R387). -/
def execPairingRecord (t : Time) (h : MirrorHdr) (b : PairingMsg) (s : State) : Outcome State Fault Refusal :=
  onInst (h.link < 2) <|
    let s := s.arrive t
    if !mayPair s || s.pair.state == .taking || !s.pair.links.getLsbD h.link then s
    else
      let s1 := heardOn h.link s
      match b with
      | .hello x => takeHello x s1
      | .confirm good => if good then takeConfirm s1 else if s.key.pairState = 1 then pairFail eKeyPairAuthFail s1 else s1
      | .key b =>
        if !s.pair.paired then s1
        else match underPair s1 b with
        | none => bump cKeyBlobBad 0 s1
        | some k => match keyAt s1 k.cls k.id with
          | some v => if v.gen < k.gen then addJob .pairing (keyRec k 0) s1 else s1
          | none => addJob .pairing (keyRec k 0) s1

/-! ### Records (R376 to R380) -/

/-- PAYLOAD_RECORD (R302). -/
def execPayloadRecord (t : Time) (h : MirrorHdr) (g n : Nat) (s : State) : Outcome State Fault Refusal :=
  onInst (h.link < 2 && g < 4096) (receive h (.payloadRecord t h g n) (s.arrive t))

/-- ENTRY_RECORD (R302, R311). -/
def execEntryRecord (t : Time) (h : MirrorHdr) (g : Nat) (e : EntryHdr) (s : State) : Outcome State Fault Refusal :=
  onInst (h.link < 2 && g < 4096) (receive h (.entryRecord t h g e) (s.arrive t))

/-- ACK_BOOK_RECORD (R209, R309). -/
def execAckBookRecord (t : Time) (h : MirrorHdr) (b : AckBook) (s : State) : Outcome State Fault Refusal :=
  onInst (h.link < 2) (receive h (.ackBookRecord t h b) (s.arrive t))

/-- VOID_RECORD (R310). -/
def execVoidRecord (t : Time) (h : MirrorHdr) (j : Nat) (s : State) : Outcome State Fault Refusal :=
  onInst (h.link < 2) (receive h (.voidRecord t h j) (s.arrive t))

/-- DL_RECORD (R316, R319). -/
def execDlRecord (t : Time) (h : MirrorHdr) (b : DlMirror) (s : State) : Outcome State Fault Refusal :=
  onInst (h.link < 2) (receive h (.dlRecord t h b) (s.arrive t))

/-- CEILING_RECORD (R283, R361, R387). -/
def execCeilingRecord (t : Time) (h : MirrorHdr) (b : Ceilings) (s : State) : Outcome State Fault Refusal :=
  onInst (h.link < 2) (receive h (.ceilingRecord t h b) (s.arrive t))

/-- ACK_POINT_RECORD (R327). -/
def execAckPointRecord (t : Time) (h : MirrorHdr) (j : Nat) (s : State) : Outcome State Fault Refusal :=
  onInst (h.link < 2) (receive h (.ackPointRecord t h j) (s.arrive t))

/-- SESSION_RECORD (R323, R324). -/
def execSessionRecord (t : Time) (h : MirrorHdr) (n c w : Nat) (a b : BitVec 128) (s : State) : Outcome State Fault Refusal :=
  onInst (h.link < 2) (receive h (.sessionRecord t h n c w a b) (s.arrive t))

/-- SCHEDULE_RECORD (R233, R244). -/
def execScheduleRecord (t : Time) (h : MirrorHdr) (b : SchedChange) (s : State) : Outcome State Fault Refusal :=
  onInst (h.link < 2) (receive h (.scheduleRecord t h b) (s.arrive t))

/-- KEY_RECORD (R283, R287, R289). -/
def execKeyRecord (t : Time) (h : MirrorHdr) (b : KeyMirror) (s : State) : Outcome State Fault Refusal :=
  onInst (h.link < 2) (receive h (.keyRecord t h b) (s.arrive t))

/-- NODE_RECORD (R365). -/
def execNodeRecord (t : Time) (h : MirrorHdr) (create : Bool) (e : Eui) (i : Nat) (relay : Bool) (pan : BitVec 16)
    (b : Option NodeBulk) (s : State) : Outcome State Fault Refusal :=
  onInst (h.link < 2 && i < nodeMax) (receive h (.nodeRecord t h create e i relay pan b) (s.arrive t))

/-- CAMPAIGN_RECORD (R406, R412, R414, R425). -/
def execCampaignRecord (t : Time) (h : MirrorHdr) (b : CampMirror) (s : State) : Outcome State Fault Refusal :=
  onInst (h.link < 2) (receive h (.campaignRecord t h b) (s.arrive t))

/-- TIME_RECORD (R241). -/
def execTimeRecord (t : Time) (h : MirrorHdr) (p : Time) (s : State) : Outcome State Fault Refusal :=
  onInst (h.link < 2) (receive h (.timeRecord t h p) (s.arrive t))

/-- COMMIT_RECORD (R299, R310, R316). -/
def execCommitRecord (t : Time) (h : MirrorHdr) (m : Nat) (ok : Bool) (s : State) : Outcome State Fault Refusal :=
  onInst (h.link < 2) (receive h (.commitRecord t h m ok) (s.arrive t))

/-- FITNESS_RECORD (R390). -/
def execFitnessRecord (t : Time) (h : MirrorHdr) (b : Fitness) (s : State) : Outcome State Fault Refusal :=
  onInst (h.link < 2) (receive h (.fitnessRecord t h b) (s.arrive t))

/-- DIGEST_RECORD (R391). -/
def execDigestRecord (t : Time) (h : MirrorHdr) (l : List (Nat × BitVec 64)) (s : State) : Outcome State Fault Refusal :=
  onInst (h.link < 2) (receive h (.digestRecord t h l) (s.arrive t))

/-- RANGE_RECORD (R391). -/
def execRangeRecord (t : Time) (h : MirrorHdr) (b : RangeMsg) (s : State) : Outcome State Fault Refusal :=
  onInst (h.link < 2) (receive h (.rangeRecord t h b) (s.arrive t))

/-- HANDOVER_RECORD (R396). -/
def execHandoverRecord (t : Time) (h : MirrorHdr) (th : Time) (e : Nat) (s : State) : Outcome State Fault Refusal :=
  onInst (h.link < 2) (receive h (.handoverRecord t h th e) (s.arrive t))

/-- RELEASED_RECORD (R396). -/
def execReleasedRecord (t : Time) (h : MirrorHdr) (m : Nat) (s : State) : Outcome State Fault Refusal :=
  onInst (h.link < 2) (receive h (.releasedRecord t h m) (s.arrive t))

/-- KEEPALIVE_RECORD (R373). -/
def execKeepaliveRecord (t : Time) (h : MirrorHdr) (s : State) : Outcome State Fault Refusal :=
  onInst (h.link < 2) (receive h (.keepaliveRecord t h) (s.arrive t))

/-! ### Links (R373) -/

/-- KEEPALIVE_TX: a link has been idle for 256 Isthmus cycles (R373). -/
def execKeepaliveTx (t : Time) (l : Nat) (s : State) : Outcome State Fault Refusal :=
  onInst (l < 2) <|
    let s := s.arrive t
    if !s.isthmusUp || !s.pair.links.getLsbD l || decide (s.clock.now < ((afind s.pair.linkSent l).getD 0) + isthmus 256) then s
    else
      let s1 : State := { s with pair.linkSent := aput s.pair.linkSent l s.clock.now }
      if s.linked then emit .keepalive none s1 else s1.out (.keepalive l)

/-- ISTHMUS_LINK_UP: S1 of a pairing (R373, R392). -/
def execIsthmusLinkUp (t : Time) (l : Nat) (s : State) : Outcome State Fault Refusal :=
  onInst (l < 2) <|
    let s := s.arrive t
    if !s.isthmusUp || !pairMode s || s.pair.links.getLsbD l then s
    else
      let s1 : State := { s with
        pair.links := s.pair.links ||| BitVec.ofNat 2 (2 ^ l)
        pair.linkHeard := aput s.pair.linkHeard l s.clock.now
        pair.linkSent := aput s.pair.linkSent l s.clock.now }
      if seeking s1 && s1.key.pairState != 1 then beginPairing s1 else s1

/-- ISTHMUS_LINK_LOSS: a lane loses block lock, or no good record comes for 1,024 Isthmus cycles (R373). -/
def execIsthmusLinkLoss (t : Time) (l : Nat) (lane : Bool) (s : State) : Outcome State Fault Refusal :=
  onInst (l < 2) <|
    let s := s.arrive t
    if !s.isthmusUp || !s.pair.links.getLsbD l then s
    else if !lane && decide (s.clock.now < (afind s.pair.linkHeard l).getD 0 + isthmus 1024) then s
    else bump cPairLinkLoss 0 { s with pair.links := s.pair.links &&& ~~~ BitVec.ofNat 2 (2 ^ l) }

/-! ### The partner lost (R381, R382, R380) -/

/-- A handover that was pending is cancelled, and its command ends REFUSED (R397). -/
def cancelHandover (s : State) : State := match s.pair.handover with
  | none => s
  | some h =>
    let s1 : State := { s with pair.handover := none }
    match h.dsn with
    | some d => endItem d .refused s1
    | none => s1

/-- The active declares its partner lost: candidates in MIRROR and whatever else waited for a commit go on alone (R381, R397). -/
def losePartner (s : State) : State :=
  let aw := s.pair.awaits
  let s1 := degraded 18 2 (eventCode ePairPartnerLost) 4 (occurs ePairPartnerLost { s with
    pair.partnerLost := true
    pair.paired := false
    pair.cutIn := false
    pair.phase := 0
    pair.phasesDone := []
    pair.awaits := []
    pair.giveUp := none
    pair.fitness := none
    key.pairKey := none })
  let s2 := aw.foldl (fun s x => match x.2 with
    | .entry _ | .void _ | .handover => s
    | a => settleAwait a true s) (soloCommits s1)
  beginPairing (actPartnerLost (cancelHandover s2))

/-- PAIR_PARTNER_LOST: no good record for PARTNER_TIMEOUT (R381). -/
def execPairPartnerLost (t : Time) (s : State) : Outcome State Fault Refusal :=
  onInst true <|
    let s := s.arrive t
    if s.mirrors && decide (s.pair.lastGood + partnerTimeout s ≤ s.clock.now) then losePartner s else s

/-- PAIR_DETACHED: no good record for half of PARTNER_TIMEOUT (R382). -/
def execPairDetached (t : Time) (s : State) : Outcome State Fault Refusal :=
  onInst true <|
    let s := s.arrive t
    if (s.pair.state == .standby || s.pair.state == .resync) && s.isthmusUp &&
        decide (s.pair.lastGood + partnerTimeout s / 2 ≤ s.clock.now) then
      detach (occurs ePairDetached s)
    else s

/-- PAIR_MSEQ_GAP: a missing record has not come for half of PARTNER_TIMEOUT. A standby detaches; another chip goes on behind the gap
(R380). -/
def execPairMseqGap (t : Time) (s : State) : Outcome State Fault Refusal :=
  onInst true <|
    let s := s.arrive t
    match s.pair.gapSince with
    | none => s
    | some g =>
      if !s.isthmusUp || decide (s.clock.now < g + partnerTimeout s / 2) then s
      else if s.pair.state = .standby ∨ s.pair.state = .resync then detach (occurs ePairDetached (bump cPairMseqGap 0 s))
      else
        let s1 : State := { s with pair.nextIn := ((s.pair.waiting.head?).map fun x => x.1).getD s.pair.nextIn }
        takeWaiting (s1.pair.waiting.length + 1) s1

/-! ### The token (R369, R371, R383 to R389) -/

/-- A chip that has given up the token in service becomes a standby: staged candidates are held, entries in MIRROR are the partner's to
decide, and no booking is left (R309, R396). An entry in MIRROR that needs no acknowledgement stays staged until the partner's commit of it
comes (R10, R302). -/
def becomeStandby (s : State) : State :=
  let s1 := s.jrn.cands.foldl (fun s x => match x.2.state with
    | .stage => modCand x.1 (fun c => { c with state := .held }) s
    | .mirror =>
      let s1 : State := { s with jrn.cands := adel s.jrn.cands x.1 }
      modEntry x.2.jsn (fun e => { e with
        state := if x.2.ackReq then .owed else .staged
        mirrored := true }) s1
    | _ => s) { s with pair.state := .standby }
  let s2 := (s1.txm.bookings.filter fun b => !(s1.txm.running.any fun r => r.2.booking.id == b.id)).foldl (fun s b => cancelTx b s) s1
  refreshSource { s2 with
    txm.acks := []
    pair.awaits := s2.pair.awaits.filter fun a => match a.2 with | .entry _ => true | _ => false
    pair.handover := none
    pair.released := false
    pair.cutIn := false
    pair.giveUp := none
    pair.partnerLow := false
    pair.following := none
    fry.state := 0
    fry.adverts := 0 }

/-- TOKEN_PARTNER_RELEASED: the partner's line reads released. A standby begins the switch-over, a RESYNC or DETACHED device an orphan
takeover; the new epoch leaves with GRANT 0 (R369, R371, R383, R387, R388, R396, R397). -/
def execTokenPartnerReleased (t : Time) (s : State) : Outcome State Fault Refusal :=
  onInst true <|
    let s0 := s.arrive t
    let s : State := { s0 with
      pair.partnerLow := false
      pair.partnerHighAt := s0.clock.now }
    if !s.inService then s
    else match s.pair.state with
      | .standby =>
        let e := match s.pair.handover with
          | some h => max h.epoch (s.pair.epoch + 1)
          | none => s.pair.epoch + 1
        let quick := s.pair.handover.isSome && s.pair.released
        { s with
          pair.state := .taking
          pair.sensed := some s.clock.now
          pair.drained := 0
          pair.epoch := e
          pair.orphanTake := false
          pair.takeAt := s.clock.now + (if quick then us 1 else ns 13880) }
      | .resync | .detached =>
        { s with
          pair.state := .taking
          pair.sensed := some s.clock.now
          pair.drained := 0
          pair.epoch := max s.pair.epoch s.flash.epochCeiling + 1
          pair.orphanTake := true
          pair.takeAt := s.clock.now + ns 13880 }
      | _ => s

/-- TOKEN_TIE: a driving device senses the partner's line low (R369, R371). -/
def execTokenTie (t : Time) (s : State) : Outcome State Fault Refusal :=
  onInst true <|
    let s := s.arrive t
    if !s.pair.driving || s.solo then s
    else
      let s1 : State := { s with pair.partnerLow := true }
      if s.start.pairRole then detach { becomeStandby (releaseToken .other (bump cPairTieRelease 0 s1)) with pair.partnerLow := true }
      else s1

/-- OWN_LINE_FAULT: the driven line reads released for 4 Always-on cycles (R369). -/
def execOwnLineFault (t : Time) (s : State) : Outcome State Fault Refusal :=
  onInst true <|
    let s := s.arrive t
    if s.pair.driving then
      becomeStandby (releaseToken .other (degraded 18 2 (eventCode ePairTokenFault) 4 (occurs ePairTokenFault
        { s with pair.ownLow := false })))
    else s

/-- A mirrored OWED entry on the chip that takes the token at `ta`, having sensed the release at `ts` (R309): the acknowledgement that the
new active sends takes its booking without a second charge, and its template from the chip's own decode of the frame (R209, R379). -/
def takeOwed (ts ta : Time) (e : Entry) (s : State) : State :=
  if e.leave < ts then acceptEntry e.hdr.jsn s
  else if e.deadline < ta then voidEntry e.hdr.jsn s
  else
    let s1 := modEntry e.hdr.jsn (fun e => { e with mirrored := false }) s
    match s.jrn.books.find? (fun b => mirroredGroup b.group == e.group), e.frame with
    | some b, some f =>
      let st := (txStreamOf s b.port b.channel).getD (2 * b.port)
      let r := bookNow ⟨.ack e.group, st, b.channel, b.airStart, b.airtime, b.power, b.profile, none, 0⟩ s1
      let s2 := match bookingOf r.2 r.1 with
        | some k => refund k r.2
        | none => r.2
      let a : AckTmpl := { booking := r.1, node := e.hdr.node, deadline := b.deadline,
                           correction := max (-2047) (min 2047 (correctionOf s e.start)), armed := true, sequence := f.sequence,
                           notices := ((s.indexOf e.hdr.node).map fun i => noticesFor s i).getD [] }
      { s2 with txm.acks := aput s2.txm.acks e.group a }
    | _, _ => s1

/-- The settlement before a take (R309, R383). An entry that this chip had staged when it gave up the token, and whose commit has not come,
stands as this chip's alone (R18). -/
def settleTake (s : State) : State :=
  let ts := s.pair.sensed.getD s.clock.now
  let s0 := (s.jrn.entries.filter fun e => e.state == .staged && e.mirrored).foldl (fun s e => acceptEntry e.hdr.jsn s) s
  let s1 := (s0.jrn.entries.filter fun e => e.state == .owed && e.mirrored).foldl (fun s e => takeOwed ts s.pair.takeAt e s) s0
  { s1 with
    jrn.entries := s1.jrn.entries.map fun e => { e with waits := false }
    jrn.nextJsn := s1.jrn.entries.foldl (fun n e => max n (e.hdr.jsn + 1)) (max s1.jrn.nextJsn (s1.jrn.ackJsn + 1)) }

/-- What a standby resumes from the mirrored ceilings (R383). -/
def resumeCeilings (s : State) : State :=
  { s with
    key.groupTx := s.key.groupTx.map fun x => (x.1, max x.2.1 x.2.2, x.2.2)
    fwd.floodId := max s.fwd.floodId s.fwd.floodCeiling
    fry.txNo := max s.fry.txNo s.fry.txCeiling
    fry.state := if s.fry.session = 0 then 0 else 2 }

/-- What an orphan moves beyond the lost partner's view (R389). -/
def orphanJump (s : State) : State :=
  { s with
    jrn.nextJsn := (max (s.jrn.nextJsn - 1) s.jrn.ackJsn / 2 ^ 40 + 1) * 2 ^ 40
    fwd.nodes := s.fwd.nodes.map fun x =>
      (x.1, { x.2 with sec := { x.2.sec with txFc := min 0xFFFFFFFF (x.2.sec.txFc + 2 ^ 20) } })
    key.groupTx := s.key.groupTx.map fun x => (x.1, max x.2.1 x.2.2 + 2 ^ 24, x.2.2)
    fwd.floodId := max s.fwd.floodId s.fwd.floodCeiling + 2 ^ 24
    fry.session := 0
    fry.state := 0 }

/-- The chip begins to serve as the active one: neighbour advertisements first, and every entry above JRN_ACK_JSN is sent again (R310, R321,
R383). -/
def serveActive (s : State) : State :=
  { s with
    fry.adverts := 3
    fry.advertAt := s.clock.now
    fry.advertised := false
    fry.hbAt := s.clock.now
    fry.lastHeard := s.clock.now
    jrn.sentTo := s.jrn.ackJsn }

/-- Items whose outcome the standby had found itself end, in the order of their flows (R14), and floods that have not ended start again (R319, R361). -/
def resumeItems (s : State) : State :=
  let s1 := s.dl.recs.foldl (fun s r => reportFlow r.item s) s
  (s1.dl.recs.filter fun r => r.state != .ended && r.done.isNone).foldl (fun s r => match r.item.body, r.state with
    | .flood pan _, .waiting => ownFlood (some r.item.dsn) pan (s.fld rFldCtrl 0 4) r.item.length s
    | .flood pan _, .begun _ => ownFlood (some r.item.dsn) pan (s.fld rFldCtrl 0 4) r.item.length
        (modDl r.item.dsn (fun r => { r with state := .waiting }) s)
    | _, _ => s) s1

/-- Running campaigns resume from their checkpoints (R425). -/
def resumeCamps (s : State) : State :=
  { s with camps := s.camps.map fun x =>
      if x.2.state = .running ∧ 1 ≤ x.2.round then
        (x.1, { x.2 with list := (roundList s x.1 x.2).filter (fun f => decide (x.2.cursor ≤ f)), repairs := roundRepairs s x.1 x.2 })
      else x }

/-- The HANDOVER command ends on the new active: ACKED once the planned handover is complete (R395, R396). -/
def endHandover (planned : Bool) (s : State) : State :=
  (s.dl.recs.filter fun r => r.state == .carrying && (match r.item.body with | .command c _ => c == 0x201 | _ => false)).foldl
    (fun s r => endItem r.item.dsn (if planned then .acked else .refused) s) s

/-- The take: the own line is driven, and the chip goes on as the active one (R381, R383, R386 to R389, R412). -/
def takeLine (s : State) : State :=
  let orphan := s.pair.orphanTake
  let planned := s.pair.released && s.pair.handover.isSome
  let s1 := if orphan then orphanJump s else resumeCeilings s
  let s2 := driveLine { s1 with
    pair.state := .active
    pair.sensed := none
    pair.drained := 0
    pair.orphan := orphan
    pair.orphanTake := false
    pair.handover := none
    pair.released := false
    pair.awaits := []
    pair.cutIn := s.pair.paired && !orphan
    pair.phase := 0
    pair.phasesDone := []
    pair.following := some (s.clock.now, (List.range 32).filter fun p => (s.port p).state == .up) }
  let s3 := if orphan then bump cPairOrphanTake 0 (occurs ePairOrphanTake s2) else bump cPairTakeover 0 s2
  let s4 := raiseEpoch s3.pair.epoch s3
  let s5 := if !s4.pair.paired || decide (s4.pair.lastGood + partnerTimeout s4 ≤ s4.clock.now) then losePartner s4 else s4
  let s6 := resumeCamps (resumeItems (goLive orphan (serveActive s5)))
  refreshSource (actTaken planned (endHandover planned s6))

/-- TAKE_TIME: the fixed interval after the sensed release is over (R370, R383). -/
def execTakeTime (t : Time) (partnerLow : Bool) (s : State) : Outcome State Fault Refusal :=
  onInst true <|
    let s := s.arrive t
    if s.pair.state ≠ .taking ∨ s.clock.now < s.pair.takeAt ∨ !s.inService then s
    else
      let s1 := settleTake s
      if partnerLow then bump cPairTakeAbort 0 { detach s1 with pair.partnerLow := true }
      else takeLine s1

/-- HEAD_FOLLOW_CHECK: 100 µs and a round trip after a take (R386). -/
def execHeadFollowCheck (t : Time) (p : Nat) (s : State) : Outcome State Fault Refusal :=
  onInst (p < 32) <|
    let s := s.arrive t
    match s.pair.following with
    | none => s
    | some (t0, l) =>
      let q := s.port p
      if !l.contains p || !s.controlUp || s.pair.state != .active || decide (s.clock.now < t0 + us 100 + q.rtt) then s
      else
        let s1 : State := { s with pair.following := some (t0, l.filter fun x => x != p) }
        if q.state = .up ∧ !q.headStatus.getLsbD 15 then event ePairHeadStray p (Config.eventArg s1.free).toNat (bump cPairHeadNotFollowing 0 s1) else s1

/-! ### Fitness and digests (R390, R391) -/

/-- FITNESS_TX: every 1 ms (R390). The active's device time goes with it: R241 gives its samples no interval, so that is the model's choice. -/
def execFitnessTx (t : Time) (s : State) : Outcome State Fault Refusal :=
  onInst true <|
    let s := s.arrive t
    if s.linked && decide (s.pair.fitnessAt + ms 1 ≤ s.clock.now) then
      mirror (.time s.clock.now) none (refreshGiveUp (emit (.fitness (ownFitness s)) none { s with pair.fitnessAt := s.clock.now }))
    else s

/-- DIGEST_PERIOD_TICK: both chips compute the digest and the active sends it (R391). -/
def execDigestPeriodTick (t : Time) (s : State) : Outcome State Fault Refusal :=
  onInst true <|
    let s := s.arrive t
    if s.linked && s.packetUp && decide (s.pair.digestAt + sec (s.fld rPairCtrl 8 8) ≤ s.clock.now) then
      mirror (.digest (ownDigest s)) none { s with pair.digestAt := s.clock.now, pair.digest := ownDigest s }
    else s

/-! ### Planned handover (R390, R395 to R397) -/

/-- The first slot boundary at or after `x`. -/
def boundaryFrom (s : State) (x : Time) : Time :=
  let a := s.asnAt x
  if s.slotStart a = x then x else s.slotStart (a + 1)

/-- HANDOVER leaves with T_h, at a slot boundary at least 2 slots and at least ACK_GAP ahead, and the next epoch (R396). -/
def startHandover (dsn : Option Nat) (s : State) : State :=
  let th := boundaryFrom s (s.clock.now + max (2 * s.slotLen) (ackGap s))
  mirror (.handover th (s.pair.epoch + 1)) (some .handover) { s with
    pair.handover := some ⟨th, s.pair.epoch + 1, dsn, true, false⟩
    pair.giveUp := none }

/-- A committed command of CODE `c` that has not yet been taken into effect. -/
def freshCommand (s : State) (d c : Nat) : Bool := s.carries d c && decide (s.dl.nextDsn ≤ d)

/-- HANDOVER: the command starts a planned handover to a STANDBY partner, or is refused; the standby waits for its outcome (R395,
R396). -/
def execHandover (t : Time) (d : Nat) (s : State) : Outcome State Fault Refusal :=
  onInst true <|
    let s := s.arrive t
    if !freshCommand s d 0x201 then s
    else if !s.leads then dlTaken d s
    else if partnerStandby s && s.pair.handover.isNone then startHandover (some d) (dlTaken d s)
    else finish d .refused s

/-- RESYNC: a STANDBY partner enters DETACHED and resynchronises, or the command is refused (R395). -/
def execResync (t : Time) (d : Nat) (s : State) : Outcome State Fault Refusal :=
  onInst true <|
    let s := s.arrive t
    if !freshCommand s d 0x202 then s
    else if s.pair.state = .standby then detach (dlTaken d s)
    else if !s.leads ∨ partnerStandby s then dlTaken d s
    else finish d .refused s

/-- HANDOVER_TIME: at T_h the active sends RELEASED, releases its line and becomes standby (R309, R396). -/
def execHandoverTime (t : Time) (s : State) : Outcome State Fault Refusal :=
  onInst true <|
    let s := s.arrive t
    match s.pair.handover with
    | none => s
    | some h =>
      if !(h.own && h.commit && s.mirrors) || decide (s.clock.now < h.th) then s
      else
        let s1 := becomeStandby (releaseToken .other { emit (.released s.pair.mseqOut) none s with pair.state := .standby })
        let s2 := bump cPairHandover 0 { s1 with pins.ready := true }
        if s2.upd.actState = 3 then actTurn (s2.upd.act.any fun a => a.revert) s2 else s2

/-- PAIR_GIVE_UP: a give-up condition has held for GIVE_UP_HOLD, and the last change of active is 600 s past (R390). -/
def execPairGiveUp (t : Time) (s : State) : Outcome State Fault Refusal :=
  onInst true <|
    let s := s.arrive t
    match s.pair.giveUp with
    | none => s
    | some g =>
      if s.fld rPairCtrl 22 1 == 1 && partnerStandby s && s.pair.handover.isNone && giveUpDue s &&
          decide (g + sec (s.fld rPairCtrl2 0 8) ≤ s.clock.now ∧ s.pair.lastChange + sec 600 ≤ s.clock.now) then
        startHandover none (bump cPairGiveUp 0 (occurs ePairGiveUp s))
      else s

/-! ### Resynchronisation (R392 to R394) -/

/-- The phase shown after those in `l` have ended. -/
def nextPhase (l : List Nat) : Nat := ([1, 2, 4, 5, 3, 6].find? fun p => !l.contains p).getD 6

/-- A resynchronisation is under way on this chip, as the standby to be or as the active. -/
def resyncing (s : State) : Bool := s.pair.paired && s.pair.phase != 0 && (s.pair.state == .resync || s.pair.state == .active)

/-- Head `p`, UP on the active as its fitness says, is UP here with an aligned generation (R224, R392). -/
def headMatches (s : State) (f : Fitness) (p : Nat) : Bool :=
  !f.fhUp.getLsbD p || ((s.port p).state == .up && (s.headCal p).aligned)

/-- The chip that resynchronises has reached the end of phase `p`, as far as it knows it itself: S3 with its time within ±20 ns of the partner's, and
S6 with the active's ports UP and aligned, or 20 s after the pairing (R392). -/
def phaseOver (s : State) (p : Nat) : Bool :=
  if s.pair.state ≠ .resync then true
  else if p = 3 then decide (-320 ≤ s.timer.offset ∧ s.timer.offset ≤ 320)
  else if p = 6 then decide (s.pair.resyncAt + sec 20 ≤ s.clock.now) ||
    s.pair.fitness.any fun f => (List.range 32).all fun h => headMatches s f h
  else true

/-- RESYNC_PHASE_DONE: phase S1 to S6 ends; after the bulk copy the commits cut in (R392, R394). -/
def execResyncPhaseDone (t : Time) (p : Nat) (s : State) : Outcome State Fault Refusal :=
  onInst (1 ≤ p && p ≤ 6) <|
    let s := s.arrive t
    if !resyncing s || s.pair.phasesDone.contains p || (p == 5 && !s.pair.phasesDone.contains 4) || !phaseOver s p then s
    else
      let l := s.pair.phasesDone ++ [p]
      let s1 : State := { s with
        pair.phasesDone := l
        pair.phase := nextPhase l }
      if p = 4 then { s1 with
        pair.progress := 100
        pair.cutIn := true }
      else if p = 3 then refreshSource s1
      else s1

/-- The RESYNC commands in hand end ACKED (R395). -/
def endResync (s : State) : State :=
  (s.dl.recs.filter fun r => r.state == .carrying && (match r.item.body with | .command c _ => c == 0x202 | _ => false)).foldl
    (fun s r => endItem r.item.dsn .acked s) s

/-- The partner of an activation has reached STANDBY, on the image it was to take or not (R412). -/
def actPartnerUp (s : State) : State :=
  let revert := s.upd.act.any fun a => a.revert
  let right := s.key.hello.any fun h =>
    if revert then (if s.upd.actState = 2 then h.imageGen != imageGen s else h.imageGen == imageGen s)
    else s.upd.manifest.any fun m => h.imageGen == m.generation && !h.fallback
  if s.upd.actState = 2 then (if right then startHandover none (actTo 3 s) else actFail s)
  else if s.upd.actState = 5 then (if !right then actFail s else if revert then actDone s else actTo 6 s)
  else s

/-- PAIR_RESYNC: resynchronisation completes: the standby raises READY, and the active clears its partner-lost condition (R393). -/
def execPairResync (t : Time) (s : State) : Outcome State Fault Refusal :=
  onInst true <|
    let s := s.arrive t
    if !resyncing s || !([1, 2, 3, 4, 5, 6].all fun p => s.pair.phasesDone.contains p) then s
    else if s.pair.state = .resync then
      bump cPairResync 0 (refreshSource { s with
        pair.state := .standby
        pair.phase := 0
        pins.ready := s.start.phase == .p9 })
    else actPartnerUp (endResync { s with
      pair.phase := 0
      pair.partnerLost := false
      pair.absent := false })

/-- PAIR_RESYNC_SLOW: 60 s have passed (R393). -/
def execPairResyncSlow (t : Time) (s : State) : Outcome State Fault Refusal :=
  onInst true <|
    let s := s.arrive t
    if s.pair.state == .active && resyncing s && !s.pair.slow && decide (s.pair.resyncAt + sec 60 ≤ s.clock.now) then
      occurs ePairResyncSlow { s with pair.slow := true }
    else s

end Sys2Proof.Machine
end

