-- ==== Sys2Proof/Machine/Updates.lean ====
section
/-! DEFINITION. The commands of the own update and of the node campaigns (14_updates.md, R399 to R425; R78). -/

namespace Sys2Proof.Machine

open Host

/-! ### Pieces (R400 to R406) -/

/-- UPD_BEGIN is refused (R401). -/
def beginRefused (s : State) (m : Manifest) : Bool :=
  m.updateId == 0 || decide (m.imageLength < 320 ∨ 33550336 < m.imageLength ∨ m.imageLength % 4 ≠ 0) ||
    decide (m.generation.toNat ≤ (imageGen s).toNat) || decide (m.securityVersion < rollbackCount s) || !keySlotLive s m.keySlot ||
    !((keyAt s 8 m.imageKeyId).any fun k => k.status == .live) || s.upd.state == .activating || s.upd.state == .activated

/-- UPD_BEGIN: a new manifest replaces what stands in staging; an identical one resumes it (R401). -/
def execUpdBegin (t : Time) (d : Nat) (s : State) : Outcome State Fault Refusal :=
  onInst true <|
    let s := s.arrive t
    match s.argsOf d 0x101 with
    | none => s
    | some a =>
      let m := manifestRead a
      if beginRefused s m then finish d .refused s
      else if s.upd.manifest = some m then finish d .acked s
      else
        let s1 := discardUpdate s
        finish d .acked { s1 with
          upd.manifest := some m
          upd.headA := if s1.upd.okA then some m else s1.upd.headA
          upd.headB := if s1.upd.okB then some m else s1.upd.headB
          upd.state := .receiving }

/-- UPD_ABORT: the update in staging is discarded (R401). -/
def execUpdAbort (t : Time) (d : Nat) (s : State) : Outcome State Fault Refusal :=
  onInst true <|
    let s := s.arrive t
    if !s.carries d 0x103 then s
    else if s.upd.state = .activating ∨ s.upd.state = .activated then finish d .refused s
    else finish d .acked (discardUpdate s)

/-- The 4,096 octets of a piece, part 0 first. -/
def cipherOf (parts : List (Nat × Nat)) : Nat :=
  (List.range 8).foldl (fun a k => a * 2 ^ 4096 + ((afind parts k).getD 0) % 2 ^ 4096) 0

/-- The assembly buffers with one free: the one whose last part came longest ago gives its place (R403). -/
def evictBuffer (s : State) : State :=
  if s.upd.buffers.length < 64 then s
  else match (s.upd.buffers.mergeSort fun a b => decide (a.last ≤ b.last)).head? with
    | some o => bump cUpdAssemblyEvict 0 { s with upd.buffers := s.upd.buffers.filter fun b => b.piece != o.piece }
    | none => s

/-- The buffer of piece `p`, or a free one (R403). -/
def bufferOf (p : Nat) (s : State) : Assembly × State := match s.upd.buffers.find? fun b => b.piece == p with
  | some b => (b, s)
  | none => (⟨p, [], 0, s.clock.now, false⟩, evictBuffer s)

/-- The key of the pieces of the update in staging (R400): zero where its IMAGE key is absent. -/
def pieceKey (s : State) (m : Manifest) : Octets :=
  hkdf ((octetsOf (persistentKey s 8 m.imageKeyId)).take 16) (octetsOf m.digest) (textOs "NY4850 piece" ++ octetsOf m.updateId) 32

/-- The IV of piece `p` (R400). -/
def pieceIv (m : Manifest) (p : Nat) : Octets := octetsOf m.updateId ++ natToOs 4 0 ++ natToOs 4 p

/-- The tag of piece `p` is good (R400, R403). -/
def pieceTagGood (s : State) (p cipher tag : Nat) : Bool := s.upd.manifest.any fun m =>
  gcmTag (roundKeys (pieceKey s m)) (pieceIv m p) [] (natToOs 4096 cipher) == natToOs 16 tag

/-- A part is stored; with all eight present the piece is checked against its tag, and the active mirrors one that the mesh brought
(R403, R406). -/
def storePart (p : Part) (mesh : Bool) (s : State) : State :=
  let x := bufferOf p.piece s
  let b : Assembly := { x.1 with
    parts := aput x.1.parts p.part p.data
    tag := if p.part = 7 then p.tag else x.1.tag
    last := s.clock.now
    mesh := x.1.mesh || mesh }
  let rest := x.2.upd.buffers.filter fun b => b.piece != p.piece
  if b.parts.length < 8 then { x.2 with upd.buffers := rest ++ [b] }
  else if !pieceTagGood s p.piece (cipherOf b.parts) b.tag then bump cUpdPieceTagFail 0 { x.2 with upd.buffers := rest }
  else
    let s1 := pieceQueue p.piece (cipherOf b.parts) b.tag { x.2 with upd.buffers := rest }
    if b.mesh then mirror (.campaign (.piece ((s.upd.manifest.map fun m => m.updateId).getD 0) p.piece (cipherOf b.parts) b.tag)) (some .piece) s1
    else s1

/-- What a part brings: its ending and the state after it (R402, R403). -/
def takePart (p : Part) (mesh : Bool) (s : State) : Ending × State :=
  if !p.lengthOk ∨ 8 ≤ p.part then (.invalid, s)
  else match s.upd.manifest with
    | none => (.refused, bump cUpdPartStale 0 s)
    | some m =>
      if p.updateId ≠ m.updateId then (.refused, bump cUpdPartStale 0 s)
      else if piecesOf m ≤ p.piece then (.invalid, s)
      else if pieceHeld s p.piece then (.acked, bump cUpdPartDup 0 s)
      else (.acked, storePart p mesh s)

/-- UPD_PART: one eighth of a piece over Ferry (R402, R403). -/
def execUpdPart (t : Time) (d : Nat) (s : State) : Outcome State Fault Refusal :=
  onInst true <|
    let s := s.arrive t
    match s.argsOf d 0x102 with
    | none => s
    | some a =>
      let r := takePart (updPartRead a) false s
      finish d r.1 r.2

/-- PIECE_PART_FRAME: a piece part of a neighbour is handled as an UPD_PART without an outcome (R406). -/
def execPiecePartFrame (t : Time) (e : Eui) (p : Part) (s : State) : Outcome State Fault Refusal :=
  onInst true <|
    let s := s.arrive t
    if s.leads && s.controlUp && (List.range 16).any (fun n => nbrUsed s n && nbrEui s n == e) then
      (takePart p true (bump cUpdMeshParts 0 s)).2
    else s

/-- FIRST and WANT of the piece request, where one goes with a beacon (R404). -/
def wanted (m : Manifest) (s : State) : Option (Nat × List Nat) :=
  let lacks (p : Nat) : Bool := decide (p < piecesOf m) && !pieceHeld s p
  if s.fld rUpdCtrl 1 1 = 1 ∧ s.upd.state = .receiving then
    ((List.range (piecesOf m)).find? lacks).map fun f => (f, (List.range 64).filter fun k => lacks (f + k))
  else none

/-- The fields of the piece request among the IEs of a beacon (R404). -/
def requestIes (s : State) : List (List Byte) :=
  ((s.upd.manifest.bind fun m => (wanted m s).map fun w => requestFields m.updateId.toNat w.1 w.2)).toList

/-- The piece request that every beacon carries while MESH_FETCH is set and the own update is RECEIVING: the lowest piece not held, and
which of the 64 from there are wanted (R404). -/
def pieceRequest (b : Nat) (s : State) : State := match s.upd.manifest with
  | none => s
  | some m => match wanted m s with
    | some (f, want) => s.out (.pieceRequest b m.updateId f want)
    | none => s

/-- The next booking of beacon `b`. -/
def nextBeacon (s : State) (b : Nat) : Option Booking :=
  (s.txm.bookings.filter fun x => x.use == .beacon b && !isRunning s x).foldl (fun y x => match y with
    | some z => if x.start < z.start then some x else y
    | none => some x) none

/-- BEACON_REWRITE: a beacon template is rewritten with the ASN of its next booking's cell and its IEs; it must be protected anew. Whether it
came in time shows at its transmission (R200, R258, R404). -/
def execBeaconRewrite (t : Time) (b : Nat) (s : State) : Outcome State Fault Refusal :=
  onInst (b < 64) <|
    let s := s.arrive t
    if !s.slotUp || !s.leads then s
    else
      match nextBeacon s b with
      | none => s
      | some x =>
        let a := s.asnAt x.start
        let o := beaconOctets s (x.cell.getD 0) a 0 (requestIes s) (unsealed sendLevel)
        pieceRequest b { s with
          txm.beacons := aput s.txm.beacons b ⟨s.clock.now, a, requestIes s, o⟩,
          txm.bookings := s.txm.bookings.map fun y => if y.id = x.id then { y with ready := false } else y }

/-- The piece frames of piece `p` for a neighbour (R405). -/
def servePiece (r : PieceRequest) (p : Nat) (l : List Served) : List Served :=
  if l.any fun x => x.neighbour == r.neighbour && x.piece == p then l
  else l ++ (List.range 8).map fun k => ⟨r.neighbour, r.port, p, k⟩

/-- PIECE_REQUEST: the lowest SERVE_PIECES wanted pieces that are held are queued as piece frames (R405). -/
def execPieceRequest (t : Time) (r : PieceRequest) (s : State) : Outcome State Fault Refusal :=
  onInst (r.port < 36) <|
    let s := s.arrive t
    if s.leads && s.controlUp && s.fld rUpdCtrl 2 1 == 1 && (List.range 16).any (fun n => nbrUsed s n && nbrEui s n == r.neighbour) &&
        s.upd.manifest.any (fun m => m.updateId == r.updateId) then
      let want := ((List.range 64).filter fun k => r.want.contains k && pieceHeld s (r.first + k)).take (s.fld rUpdCtrl2 8 4)
      { s with upd.served := want.foldl (fun l k => servePiece r (r.first + k) l) s.upd.served }
    else s

/-! ### Staging and verification (R408, R410) -/

/-- A failed write of a piece; after three on one device its copy goes out of use (R408). -/
def pieceWriteFailed (copyB : Bool) (s : State) : State :=
  let s1 := bump cUpdPieceWriteFail 0 s
  let n := (if copyB then s.upd.failsB else s.upd.failsA) + 1
  let s2 : State := if copyB then { s1 with upd.failsB := n } else { s1 with upd.failsA := n }
  if n < 3 then s2
  else if copyB then degraded 19 1 0xF0 4 { s2 with upd.okB := false }
  else degraded 19 0 0xF0 4 { s2 with upd.okA := false }

/-- PIECE_WRITE: the piece at the head is written into one copy under the flash clamp, copy A first (R408). -/
def execPieceWrite (t : Time) (p : Nat) (copyB ok : Bool) (s : State) : Outcome State Fault Refusal :=
  onInst true <|
    let s := s.arrive t
    match s.upd.jobs with
    | [] => s
    | j :: r =>
      if j.piece ≠ p ∨ j.doneA ≠ copyB ∨ (s.clamp (flashClamp copyB)).holder ≠ 12 ∨ !s.controlUp then s
      else
        let s1 := freeClampOf 12 (flashClamp copyB) s
        let s2 := if !ok then pieceWriteFailed copyB s1
          else if copyB then { s1 with
            upd.heldB := aput s1.upd.heldB p j.tag
            upd.cipherB := aput s1.upd.cipherB p j.cipher }
          else { s1 with
            upd.heldA := aput s1.upd.heldA p j.tag
            upd.cipherA := aput s1.upd.cipherA p j.cipher }
        completeCheck (pieceAsk { s2 with upd.jobs := if copyB then r else { j with doneA := true } :: r })

/-- The plaintext of piece `p`, none where its tag fails (R400). -/
def piecePlain (s : State) (m : Manifest) (p : Nat) : Option Octets :=
  gcmOpen (pieceKey s m) (pieceIv m p) [] (natToOs 4096 (pieceOf s p).1 ++ natToOs 16 (pieceOf s p).2)

/-- The first IMAGE_LENGTH octets of the plaintext of the update in staging; a piece whose tag fails gives none (R400, R410). -/
def updImage (s : State) (m : Manifest) : Octets := ((List.range (piecesOf m)).flatMap fun p => (piecePlain s m p).getD []).take m.imageLength

/-- What the verification of an update finds: 0, or the code of R85. A digest that differs is reported as IMG_SIGNATURE (R410). -/
def updVerdict (s : State) (m : Manifest) : Nat :=
  let l := updImage s m
  if sha256 l ≠ octetsOf m.digest then 0x13 else (stagedCheck s l).getD 0

/-- UPD_VERIFY_DONE: the image of a COMPLETE update is decrypted, hashed and checked (R410). -/
def execUpdVerifyDone (t : Time) (s : State) : Outcome State Fault Refusal :=
  onInst true <|
    let s := s.arrive t
    match s.upd.manifest with
    | none => s
    | some m =>
      if s.upd.state ≠ .complete ∨ !s.controlUp then s
      else
        let c := updVerdict s m
        if c = 0 then stepDone 1 (occurs eUpdVerified { s with upd.state := .verified })
        else stepDone 4 (occurs eUpdVerifyFail { s with
          upd.state := .failed
          upd.failCode := c })

/-! ### Activation (R411, R412) -/

/-- Each direction of R387 accepts the manifest's mirror formats against the image's in force (R411). -/
def manifestFits (s : State) : Bool := s.upd.manifest.any fun m =>
  formatsMeet (s.fld rPairFormat 0 16) (s.fld rPairFormat 16 16) m.mirrorFormat m.mirrorFormatMin

/-- The conditions of R411; `partnerVerified` says that the partner is VERIFIED with the same UPDATE_ID, which it reaches on its own. -/
def activateOk (s : State) (partnerVerified : Bool) : Bool :=
  s.upd.state == .verified && s.start.confirmed && s.start.bootSel == 0 && s.upd.act.isNone &&
    s.upd.manifest.any (fun m => decide ((imageGen s).toNat < m.generation.toNat)) &&
    (s.pair.state == .solo || (partnerVerified && manifestFits s && (partnerStandby s || (s.pair.state == .standby && s.linked))))

/-- Command `d` drives an activation or reversion on this chip. -/
def actBegin (d : Nat) (revert : Bool) (s : State) : State :=
  { s with
    upd.act := some ⟨d, revert⟩
    upd.upPorts := portsUp s
    upd.since := s.clock.now }

/-- UPD_ACTIVATE: a solo chip, and the standby of a pair, begin to copy; the active waits for its standby (R411, R412). -/
def execUpdActivate (t : Time) (d : Nat) (partnerVerified : Bool) (s : State) : Outcome State Fault Refusal :=
  onInst true <|
    let s := s.arrive t
    if !freshCommand s d 0x104 then s
    else if !activateOk s partnerVerified then finish d .refused s
    else
      let s1 := dlTaken d (actBegin d false s)
      if s.pair.state = .active then actTo 1 s1 else beginCopy s1

/-- The copy or its checks fail: the slot stays unused, and CONFIRM_RETRY_CHECK repairs it as step 2 of R78 (R411, R412). -/
def copyFailed (s : State) : State :=
  let s1 := freeClampOf 13 (flashClamp s.upd.target) s
  if s.leads then actFail s1 else occurs eUpdActivateFail { s1 with upd.state := .verified }

/-- UPD_ACTIVATE_COPY_DONE: this chip's copy ends, and the chip enters warm reset; or, where it does not copy itself, its standby's
copy ends (R411, R412). -/
def execUpdActivateCopyDone (t : Time) (ok : Bool) (s : State) : Outcome State Fault Refusal :=
  onInst true <|
    let s := s.arrive t
    if !s.controlUp then s
    else if s.upd.state = .activating then
      (if (s.clamp (flashClamp s.upd.target)).holder ≠ 13 then s
      else if !ok then copyFailed s
      else warmEnter (freeClampOf 13 (flashClamp s.upd.target)
        (stepDone 3 (occurs eUpdActivate (eraseStatus s.upd.target { s with upd.state := .activated })))))
    else if s.pair.state = .active ∧ (s.upd.actState = 1 ∨ s.upd.actState = 4) then
      (if ok then actTo (s.upd.actState + 1) s else actFail s)
    else s

/-- ACT_TIMEOUT: the restarted partner has not come back in time (R412). -/
def execActTimeout (t : Time) (s : State) : Outcome State Fault Refusal :=
  onInst true <|
    let s := s.arrive t
    if s.leads && s.controlUp && (s.upd.actState == 2 || s.upd.actState == 5) &&
        decide (s.upd.since + sec (s.fld rUpdCtrl 24 8 * 10) ≤ s.clock.now) then
      actFail s
    else s

/-! ### Confirmation and fall-back (R78, R414 to R417) -/

/-- A confirmation on every chip that it concerns: the own one first, then the partner's by a CAMPAIGN record; `d` is the UPD_CONFIRM
that asked for it (R414, R415). -/
def confirmAll (d : Option Nat) (a b c e : Bool) (s : State) : State :=
  let r := if unconfirmed s then confirmImage a b c e s else (true, s)
  let finishTo (x : Ending) (s : State) : State := match d with
    | some n => finish n x s
    | none => s
  if !r.1 then finishTo .refused r.2
  else if s.pair.state = .solo then finishTo .acked (actDone (occurs eUpdConfirmed r.2))
  else if !partnerUnconfirmed s then finishTo .acked (let s1 := rollbackUp r.2; if s1.upd.actState = 6 then actDone s1 else s1)
  else
    let s1 := mirror (.campaign (.confirm true true true true)) (some .confirm) { r.2 with
      upd.confirmDsn := d
      key.hello := r.2.key.hello.map fun h => { h with confirmed := true } }
    let s2 := if s.commits then s1 else confirmCommitted true s1
    match d with
    | some n => dlTaken n s2
    | none => s2

/-- UPD_CONFIRM: the unconfirmed image is confirmed at once on every chip concerned (R415). -/
def execUpdConfirm (t : Time) (d : Nat) (step1Ok otherValid step2Ok step3Ok : Bool) (s : State) : Outcome State Fault Refusal :=
  onInst true <|
    let s := s.arrive t
    if !freshCommand s d 0x105 then s
    else if !s.leads then dlTaken d s
    else if !unconfirmed s && !partnerUnconfirmed s then finish d .refused s
    else confirmAll (some d) step1Ok otherValid step2Ok step3Ok s

/-- The criteria of R414 have held for CONFIRM_HOLD on a chip that may confirm. -/
def confirmDue (s : State) : Bool :=
  s.inService && s.leads && s.fld rUpdCtrl 0 1 == 1 && (unconfirmed s || partnerUnconfirmed s) &&
    s.hlt.confirmSince.any fun u => decide (u + sec (s.fld rUpdCtrl 16 8 * 10) ≤ s.clock.now)

/-- CONFIRM_HOLD: the criteria have held for CONFIRM_HOLD (R414). -/
def execConfirmHold (t : Time) (step1Ok otherValid step2Ok step3Ok : Bool) (s : State) : Outcome State Fault Refusal :=
  onInst true <|
    let s := s.arrive t
    if confirmDue s then confirmAll none step1Ok otherValid step2Ok step3Ok s else s

/-- CONFIRM_RETRY_CHECK: what is left of steps 2 and 3 of a confirmed image is carried out (R78). -/
def execConfirmRetryCheck (t : Time) (otherValid step2Ok step3Ok : Bool) (s : State) : Outcome State Fault Refusal :=
  onInst true <|
    let s := s.arrive t
    if s.inService && s.start.confirmed && s.start.image.isSome then confirmRest otherValid step2Ok step3Ok s else s

/-- The activation in hand is given up for a reversion (R415). -/
def actReplace (s : State) : State := match s.upd.act with
  | some a => endItem a.dsn .refused s
  | none => s

/-- UPD_REVERT: a solo chip, and the standby of a pair, spend the attempts of the image and enter warm reset; the active waits for its
standby (R412, R415). -/
def execUpdRevert (t : Time) (d : Nat) (s : State) : Outcome State Fault Refusal :=
  onInst true <|
    let s := s.arrive t
    if !freshCommand s d 0x106 then s
    else if !unconfirmed s then finish d .refused s
    else if s.pair.state = .solo then warmEnter (spendAttempts (finish d .acked s))
    else
      let s1 := dlTaken d (actBegin d true (actReplace s))
      if s.pair.state = .active then actTo 1 s1 else actTurn true s1

/-- Slot `n` is the KEY_SLOT of a valid image: of the image in force, or of the one in the other slot, where that is valid (R417). -/
def slotInUse (s : State) (n : Nat) (otherValid : Bool) : Bool :=
  s.start.image.any (fun h => h.keySlot == n) || (otherValid && match slotRead s !s.start.slot with
    | .read h _ _ => h.keySlot == n
    | .failed => false)

/-- UPD_REVOKE_SLOT: bit 4 + n of KEY_HASH_REVOKE is set, or the command is refused (R417). `otherValid` says that the image in the slot not in
force is valid. -/
def execUpdRevokeSlot (t : Time) (d : Nat) (otherValid : Bool) (s : State) : Outcome State Fault Refusal :=
  onInst true <|
    let s := s.arrive t
    match s.argsOf d 0x107 with
    | none => s
    | some a =>
      let n := octetAt a 0
      if 4 ≤ n ∨ slotInUse s n otherValid ∨ (s.upd.state = .verified ∧ s.upd.manifest.any fun m => m.keySlot == n) ∨
          (List.range 4).filter (keySlotLive s) = [n] then finish d .refused s
      else finish d .acked (blowFuse 129 (BitVec.ofNat 32 (2 ^ (4 + n))) s)

/-! ### Campaigns (R418 to R423) -/

/-- Every field of a campaign's definition lies in its range (R418). -/
def campDefOk (d : CampDef) : Bool :=
  decide (d.campaign ≤ 63 ∧ 1 ≤ d.fragsPerFrame ∧ d.fragsPerFrame ≤ 16 ∧ 1 ≤ d.imageLength ∧ d.imageLength ≤ 16777216 ∧ 1 ≤ d.ttl ∧
    d.ttl ≤ 15 ∧ 1 ≤ d.maxRounds ∧ d.maxRounds ≤ 255 ∧ 1 ≤ d.dutyShare ∧ d.dutyShare ≤ 100 ∧ 1 ≤ d.repairLimit ∧
    d.repairLimit ≤ 65535 ∧ d.windowStart ≤ 86399 ∧ 1 ≤ d.windowLen ∧ d.windowLen ≤ 86400)

/-- CAMP_DEFINE: the campaign takes its place in the store and enters LOADING (R418). -/
def execCampDefine (t : Time) (d : Nat) (s : State) : Outcome State Fault Refusal :=
  onInst true <|
    let s := s.arrive t
    match s.argsOf d 0x110 with
    | none => s
    | some a =>
      let x := campDefRead a
      match campPlace s (fragsOf x * 64) with
      | none => finish d .refused s
      | some b =>
        if !campDefOk x || (afind s.camps x.campaign).isSome || !((keyAt s 5 x.keyId).any fun k => k.status == .live) then
          finish d .refused s
        else
          let k : Camp := { defn := x, state := .loading, frags := [], base := b, size := fragsOf x * 64, round := 0, cursor := 0,
                            opened := none, list := [], repairs := [] }
          finish d .acked { s with camps := aput s.camps x.campaign k }

/-- The address of fragment `f` of a campaign in the campaign store (R418). -/
def fragAddress (s : State) (k : Camp) (f : Nat) : Nat := dramBase + s.base rUpdCampBaseLo rUpdCampBaseHi + k.base + 64 * f

/-- The SHA-256 of a campaign's image in the store is its DIGEST (R419). -/
def campDigestOk (s : State) (k : Camp) : Bool :=
  sha256 (ofBytes (s.bytes (fragAddress s k 0) k.defn.imageLength)) == octetsOf k.defn.digest

/-- Every fragment of a campaign that is LOADING has arrived: its digest decides (R419). -/
def campLoaded (c : Nat) (s : State) : State := match afind s.camps c with
  | none => s
  | some k =>
    if k.frags.length < fragsOf k.defn then s
    else if campDigestOk s k then { s with camps := amod s.camps c fun k => { k with state := .ready } }
    else occurs eUpdCampDigestFail { s with camps := amod s.camps c fun k => { k with state := .failed } }

/-- CAMP_DATA: fragments are stored, and the last one checks the digest (R419). -/
def execCampData (t : Time) (d : Nat) (s : State) : Outcome State Fault Refusal :=
  onInst true <|
    let s := s.arrive t
    match s.argsOf d 0x111 with
    | none => s
    | some a =>
      let c := octetAt a 0
      let count := octetAt a 1
      let first := beAt a 4 4
      match afind s.camps c with
      | none => finish d .refused s
      | some k =>
        if k.state ≠ .loading ∨ fragsOf k.defn < first + count then finish d .refused s
        else
          let add := ((List.range count).map fun n => first + n).filter fun f => !k.frags.contains f
          let s1 := s.setBytes (fragAddress s k first) ((a.drop 8).take (64 * count))
          finish d .acked (campLoaded c { s1 with camps := amod s.camps c fun k => { k with frags := k.frags ++ add } })

/-- One listed node becomes a member of campaign `c`, unless it is skipped (R419). -/
def addMember (c : Nat) (k : Camp) (e : Eui) (s : State) : State := match s.indexOf e with
  | none => bump cUpdCampNoNode 0 s
  | some i => match afind s.prog i with
    | some p => if p.campaign = c then { s with prog := aput s.prog i { p with state := 1 } } else bump cUpdCampBusyNode 0 s
    | none => { s with prog := aput s.prog i ⟨c, 1, 0, 0, [], if k.state = .running then k.round + 1 else 0⟩ }

/-- CAMP_MEMBERS: the listed nodes become members (R419). -/
def execCampMembers (t : Time) (d : Nat) (s : State) : Outcome State Fault Refusal :=
  onInst true <|
    let s := s.arrive t
    match s.argsOf d 0x112 with
    | none => s
    | some a => match afind s.camps (octetAt a 0) with
      | none => finish d .refused s
      | some k =>
        if k.state = .free ∨ k.state = .ended ∨ k.state = .failed then finish d .refused s
        else finish d .acked ((membersRead a).foldl (fun s e => addMember (octetAt a 0) k e s) s)

/-- CAMP_START: a READY or PAUSED campaign runs (R423). -/
def execCampStart (t : Time) (d : Nat) (s : State) : Outcome State Fault Refusal :=
  onInst true <|
    let s := s.arrive t
    match s.argsOf d 0x113 with
    | none => s
    | some a =>
      let c := octetAt a 0
      if (afind s.camps c).any fun k => k.state == .ready || k.state == .paused then
        finish d .acked { s with camps := amod s.camps c fun k => { k with state := .running } }
      else finish d .refused s

/-- The sending of campaign `c` stops at once: what it has booked and queued goes. -/
def campStop (c : Nat) (s : State) : State :=
  let mine (b : Booking) : Bool := match b.use with
    | .campaign x _ => x == c
    | .repair x _ => x == c
    | _ => false
  let s1 := (s.txm.bookings.filter mine).foldl (fun s b => unbook b.id s) s
  { s1 with fwd.floods := s1.fwd.floods.filter fun f => f.camp != some c }

/-- CAMP_PAUSE: a RUNNING campaign stops sending at once (R423). -/
def execCampPause (t : Time) (d : Nat) (s : State) : Outcome State Fault Refusal :=
  onInst true <|
    let s := s.arrive t
    match s.argsOf d 0x114 with
    | none => s
    | some a =>
      let c := octetAt a 0
      if (afind s.camps c).any fun k => k.state == .running then
        finish d .acked (campStop c { s with camps := amod s.camps c fun k => { k with state := .paused } })
      else finish d .refused s

/-- CAMP_END: the store and the members' progress records are freed (R423). -/
def execCampEnd (t : Time) (d : Nat) (s : State) : Outcome State Fault Refusal :=
  onInst true <|
    let s := s.arrive t
    match s.argsOf d 0x115 with
    | none => s
    | some a =>
      let c := octetAt a 0
      if (afind s.camps c).isSome then
        finish d .acked (campStop c { s with
          camps := adel s.camps c
          prog := s.prog.filter fun x => x.2.campaign != c })
      else finish d .refused s

/-- The day of the campaign's window at the present time. -/
def windowDay (s : State) (d : CampDef) : Nat := (s.clock.now / sec 1 + 86400 - d.windowStart) / 86400

/-- A round of campaign `c` begins (R423). -/
def roundBegin (c : Nat) (k : Camp) (s : State) : State :=
  let k1 : Camp := { k with
    round := k.round + 1
    cursor := 0
    opened := some (windowDay s k.defn) }
  let k2 : Camp := { k1 with
    list := roundList s c k1
    repairs := roundRepairs s c k1 }
  campSettle c { s with camps := aput s.camps c k2 }

/-- CAMP_WINDOW_OPEN: a round begins at the opening of the window, once the round before has been sent (R423). -/
def execCampWindowOpen (t : Time) (c : Nat) (s : State) : Outcome State Fault Refusal :=
  onInst (c < 64) <|
    let s := s.arrive t
    match afind s.camps c with
    | none => s
    | some k =>
      if k.state == .running && s.leads && s.controlUp && windowOpen k.defn s.clock.now && k.opened != some (windowDay s k.defn) &&
          k.list.isEmpty && k.repairs.isEmpty && !(s.fwd.floods.any fun f => f.camp == some c) && decide (k.round < k.defn.maxRounds) then
        roundBegin c k s
      else s

end Sys2Proof.Machine
end

