-- ==== Sys2Proof/Machine/Quays.lean ====
section
/-! DEFINITION. Quays (15_engines_memory_quays.md, R443 to R449). -/

namespace Sys2Proof.Machine

open Host

/-- A write by agent `a` to the window of quay `q`: another agent than the producer is ignored and counted (R443). -/
def asProducer (a : Agent) (q : Nat) (f : State → State) (s : State) : State :=
  if !s.packetUp then s else if produces s a q then f s else bump cQuayWrongProducer q s

/-- QUAY_CLAIM: a producer claims credits for a whole item (R445). -/
def execQuayClaim (t : Time) (a : Agent) (q n : Nat) (s : State) : Outcome State Fault Refusal :=
  onInst (q < 64) (asProducer a q (fun s => (claimQuay q n s).2) (s.arrive t))

/-- QUAY_WR_WORD: one word of an item, not the last (R444). -/
def execQuayWrWord (t : Time) (a : Agent) (q : Nat) (w : Word) (parityGood : Bool) (s : State) : Outcome State Fault Refusal :=
  onInst (q < 64) (asProducer a q (putWord q w 4 parityGood false) (s.arrive t))

/-- QUAY_WR_END: the last word of an item, with 1 to 4 valid octets (R444). -/
def execQuayWrEnd (t : Time) (a : Agent) (q : Nat) (w : Word) (n : Nat) (parityGood : Bool) (s : State) : Outcome State Fault Refusal :=
  onInst (decide (q < 64) && decide (1 ≤ n ∧ n ≤ 4)) (asProducer a q (putWord q w n parityGood true) (s.arrive t))

/-- The producer poisons its open item (R446). -/
def poisonItem (q : Nat) (s : State) : State :=
  setQuay q { s.quay q with opened := (s.quay q).opened.map fun o => { o with poison := true } } s

/-- QUAY_WR_POISON: a write of 1 to QUAY_WR_POISON (R446). -/
def execQuayWrPoison (t : Time) (a : Agent) (q : Nat) (s : State) : Outcome State Fault Refusal :=
  onInst (q < 64) (asProducer a q (poisonItem q) (s.arrive t))

/-- The consumer takes the head read word; `badBank` names the storage bank whose word fails its parity (R444 to R446). -/
def takeWord (q : Nat) (badBank : Option Nat) (s : State) : State :=
  let k := s.quay q
  match k.items with
  | [] => s
  | i :: r =>
    let i1 : QItem := { i with poison := i.poison || badBank.isSome }
    let s1 := match badBank with
      | some b => droppedArg 21 (64 + b) cQuayParity.code 0 q (bump cQuayParity q s)
      | none => s
    let s2 := beginItem q i1 s1
    if i.readWords ≤ k.read + 1 then setQuay q { k with
      items := r
      read := 0
      begun := false } s2
    else setQuay q { k with
      items := i1 :: r
      read := k.read + 1
      begun := true } s2

/-- Agent `a` acts as the consumer of quay `q`; any other agent's command has no effect (R443). -/
def asConsumer (a : Agent) (q : Nat) (f : State → State) (s : State) : State := if s.packetUp && consumes s a q then f s else s

/-- QUAY_RD_NEXT: the consumer takes the head read word (R444). -/
def execQuayRdNext (t : Time) (a : Agent) (q : Nat) (badBank : Option Nat) (s : State) : Outcome State Fault Refusal :=
  onInst (decide (q < 64) && badBank.all (fun b => decide (b < 33))) (asConsumer a q (takeWord q badBank) (s.arrive t))

/-- Drop-remainder on quay `q` (R448). -/
def dropItem (q : Nat) (s : State) : State := match (s.quay q).items with
  | [] => s
  | i :: r => bump cQuayRemainderDrop q (setQuay q { s.quay q with
      items := r
      read := 0
      begun := false } (beginItem q i s))

/-- QUAY_RD_DROP: the consumer releases the rest of the item that it reads, or the whole head item (R448). -/
def execQuayRdDrop (t : Time) (a : Agent) (q : Nat) (s : State) : Outcome State Fault Refusal :=
  onInst (q < 64) (asConsumer a q (dropItem q) (s.arrive t))

/-- A flush of quay `q` (R449). -/
def flushQuay (q : Nat) (s : State) : State :=
  let k := s.quay q
  let kept := if k.begun then k.items.take 1 else []
  let open' := k.opened.any fun o => !o.dropped
  bumpBy cQuayFlushItems q (k.items.length - kept.length + open'.toNat) (setQuay q { k with
    items := kept
    claim := if open' then 0 else k.claim
    opened := if open' then some ⟨[], 0, false, true⟩ else k.opened } s)

/-- The agent may write registers: the management window and MGMT-READ may not (R3, R328). -/
def writes : Agent → Bool
  | .mgt | .mgmtRead => false
  | _ => true

/-- QUAY_FLUSH: a write of QUAY_CTRL.FLUSH (R449). -/
def execQuayFlush (t : Time) (a : Agent) (q : Nat) (s : State) : Outcome State Fault Refusal :=
  onInst (q < 64) <|
    let s := s.arrive t
    if s.packetUp && writes a then flushQuay q s else s

end Sys2Proof.Machine
end

