-- ==== Sys2Proof/Machine/Memory.lean ====
section
/-! DEFINITION. DRAM, DMA and the engines (15_engines_memory_quays.md, R427 to R441, R450, R451, R461). -/

namespace Sys2Proof.Machine

open Host

/-! ### DRAM channels (R439, R441) -/

/-- A DDR5 channel. -/
def State.ddr (s : State) (chB : Bool) : DdrCh := if chB then s.msys.chB else s.msys.chA

/-- Replace a DDR5 channel. -/
def setDdr (chB : Bool) (c : DdrCh) (s : State) : State :=
  if chB then { s with msys.chB := c } else { s with msys.chA := c }

/-- A channel is lost in service: FATAL, cause MEM_CHANNEL_LOST (R441). -/
def channelLost (chB : Bool) (s : State) : State :=
  let s1 : State := { setDdr chB { s.ddr chB with ok := false } s with
    hlt.ddrOne := true
    start.ddrA := s.start.ddrA && chB
    start.ddrB := s.start.ddrB && !chB }
  fatalBy 5 (20 * 2048 + chB.toNat) (refreshCfg 20 s1)

/-- Where DRAM address `a` lies: each channel that holds it, B true, with its octet address there. The mirrored window stands at the top
of both channels; the interleaved space alternates between the channels in 4 KiB pages, or maps whole to the one in service (R437, R438).
Which channel page 0 lies on is free. -/
def dramHomes (s : State) (a : Nat) : List (Bool × Nat) :=
  let inUse := [false, true].filter fun b => (s.ddr b).ok
  if inMirror s a 1 then inUse.map fun b => (b, (s.ddr b).cap * 2 ^ 30 - (2 ^ 36 - a))
  else if interleaved s ≤ a then []
  else match inUse with
    | [b] => [(b, a)]
    | _ => [(Config.interleaveFirst != (a / 4096 % 2 == 1), a / 8192 * 4096 + a % 4096)]

/-- ECC_ERROR: a corrected error is counted; an uncorrectable one is repaired from the other channel in the mirrored window, and elsewhere its
reader drops the item in hand (R439). A DMA channel ends its descriptor instead (R451). More than 16 within 1 s lose the channel (R441). A channel that does not hold
the address reports no error there (R437). -/
def execEccError (t : Time) (a : Nat) (chB uncorrectable byDma : Bool) (s : State) : Outcome State Fault Refusal :=
  onInst (decide (a < 2 ^ 36)) <|
    let s := s.arrive t
    let c := s.ddr chB
    if !s.memoryUp || !(dramHomes s a).any (fun h => h.1 == chB) then s
    else if !uncorrectable then bump cMemEccCorrected 0 s
    else
      let recent := (c.errors.filter fun x => decide (s.clock.now < x + sec 1)) ++ [s.clock.now]
      let s1 := bump cMemEccUncorrected 0 (setDdr chB { c with errors := recent } s)
      let s2 := if inMirror s a 1 && (s.ddr !chB).ok then bump cMemMirrorRepair 0 s1
        else if byDma then s1 else bump cMemPoisonDrop 0 s1
      if 16 < recent.length then channelLost chB s2 else s2

/-- SCRUB_PATROL: a patrol of all of DRAM has written back `corrected` words (R439). -/
def execScrubPatrol (t : Time) (corrected : Nat) (s : State) : Outcome State Fault Refusal :=
  onInst true <|
    let s := s.arrive t
    if s.memoryUp then bumpBy cMemEccCorrected 0 corrected s else s

/-- DDR_TRAINING_LOSS: a channel's PHY loses training, and a retraining attempt asks for its clamp (R441). -/
def execDdrTrainingLoss (t : Time) (chB : Bool) (s : State) : Outcome State Fault Refusal :=
  onInst true <|
    let s := s.arrive t
    let c := s.ddr chB
    if s.memoryUp && c.ok && c.trained then
      (askClamp 10 71 (setDdr chB { c with
        trained := false
        tries := 0 } s)).2
    else s

/-- A retraining attempt is over: after the third failure the channel is lost (R441). -/
def retrainEnd (chB ok : Bool) (s : State) : State :=
  let c := s.ddr chB
  let s1 := bump cMemRetrain 0 (freeClampOf 10 71 s)
  let s2 := if ok then setDdr chB { c with
      trained := true
      tries := 0 } s1
    else if c.tries + 1 < 3 then setDdr chB { c with tries := c.tries + 1 } s1
    else channelLost chB s1
  if [false, true].any fun b => (s2.ddr b).ok && !(s2.ddr b).trained then (askClamp 10 71 s2).2 else s2

/-- DDR_RETRAIN_DONE: a retraining attempt ends (R441). -/
def execDdrRetrainDone (t : Time) (chB ok : Bool) (s : State) : Outcome State Fault Refusal :=
  onInst true <|
    let s := s.arrive t
    let c := s.ddr chB
    if s.memoryUp && c.ok && !c.trained && (s.clamp 71).holder == 10 then retrainEnd chB ok s else s

/-! ### Address maps (R427 to R429) -/

/-- The length of the L2 SRAM window in octets (R429). -/
def sramSize (s : State) : Nat := min 16 (s.fld rEngCtrl 8 5) * 0x20000

/-- What an address of a core or of a protocol engine reaches. -/
inductive Reached where
  /-- The L2 SRAM window, at an offset (R429). -/
  | sram (offset : Nat)
  /-- The local memory of a protocol engine, at an offset. -/
  | localMemory (engine offset : Nat)
  /-- Control space: the register at an offset (R485). -/
  | control (offset : Nat)
  /-- DRAM. -/
  | dram (address : Nat)
  deriving DecidableEq, Repr

/-- What an octet of the control cores' physical address map reaches; none raises the access fault (R427). -/
def coreReach (s : State) (a : Nat) : Option Reached :=
  if 0x10000000 ≤ a ∧ a < 0x10000000 + sramSize s then some (.sram (a - 0x10000000))
  else if 0x20000000 ≤ a ∧ a < 0x20800000 ∧ a % 0x100000 < 0x40000 then
    some (.localMemory ((a - 0x20000000) / 0x100000) (a % 0x100000))
  else if 0x40000000 ≤ a ∧ a < 0x41900000 then some (.control (a - 0x40000000))
  else if dramBase ≤ a ∧ a < dramBase + 2 ^ 36 then some (.dram (a - dramBase))
  else none

/-- What an octet of protocol engine `k`'s 32-bit map reaches, its four DRAM windows where ENG_PE_WIN puts them (R428). -/
def peReach (s : State) (k a : Nat) : Option Reached :=
  if a < 0x40000 then some (.localMemory k a)
  else if 0x20000000 ≤ a ∧ a < 0x20800000 ∧ a % 0x100000 < 0x40000 then
    some (.localMemory ((a - 0x20000000) / 0x100000) (a % 0x100000))
  else if 0x40000000 ≤ a ∧ a < 0x41900000 then some (.control (a - 0x40000000))
  else if 0x80000000 ≤ a ∧ a < 0xC0000000 then
    let w := (a - 0x80000000) / 0x10000000
    some (.dram (s.fld (rEngPeWin0 + 4 * w + k * 0x400) 0 8 * 2 ^ 28 + a % 0x10000000))
  else none

/-! ### DMA (R450, R451) -/

/-- DMA channel `c`. -/
def State.dmaCh (s : State) (c : Nat) : Dma := (afind s.msys.dma c).getD {}

/-- Replace DMA channel `c`. -/
def setDma (c : Nat) (d : Dma) (s : State) : State := { s with msys.dma := aput s.msys.dma c d }

/-- A DMA descriptor (R450); `src` and `dst` as they stand in it. One command carries out a whole descriptor, so that every write of the
earlier ones has completed when it starts, with `fence` or without. -/
structure Descriptor where
  valid  : Bool
  irq    : Bool
  last   : Bool
  fence  : Bool
  src    : Nat × Nat
  dst    : Nat × Nat
  length : Nat
  next   : Nat
  deriving DecidableEq, Repr

/-- The descriptor at DRAM address `a`. -/
def descriptorAt (s : State) (a : Nat) : Descriptor :=
  let w (k : Nat) : Nat := (s.word (dramBase + a + 4 * k)).toNat
  { valid := (w 0).testBit 31, irq := (w 0).testBit 30, last := (w 0).testBit 29, fence := (w 0).testBit 28, src := (w 0 / 2 ^ 25 % 8, w 2 + w 3 * 2 ^ 32),
    dst := (w 0 / 2 ^ 22 % 8, w 4 + w 5 * 2 ^ 32), length := w 1 % 2 ^ 24, next := w 6 * 32 }

/-- Where `n` octets of kind and address `x` lie in the physical map; none for a quay, a reserved kind, or outside the kind (R427, R450). -/
def dmaPlace (s : State) (x : Nat × Nat) (n : Nat) : Option Nat := match x.1 with
  | 0 => if inDram s x.2 n then some (dramBase + x.2) else none
  | 1 =>
    let off := x.2 % 2 ^ 18
    if x.2 < 2 ^ 23 ∧ off + n ≤ 2 ^ 18 then some (0x20000000 + x.2 / 2 ^ 20 * 0x100000 + off) else none
  | 2 => if x.2 + n ≤ sramSize s then some (0x10000000 + x.2) else none
  | _ => none

/-- The chain goes on at descriptor `a`: a channel that finds VALID clear goes idle (R451). -/
def fetchDesc (c a : Nat) (s : State) : State :=
  let d := s.dmaCh c
  setDma c { d with
    state := if (descriptorAt s a).valid then 1 else 0
    desc := a
    stop := false
    stallAt := none } s

/-- Write the first and the last word of the descriptor in hand. -/
def writeDesc (c : Nat) (keepValid done : Bool) (error moved : Nat) (s : State) : State :=
  let a := dramBase + (s.dmaCh c).desc
  let w := (s.word a).toNat
  (s.setWord a (BitVec.ofNat 32 (if keepValid then w else w % 2 ^ 31))).setWord (a + 28)
    (BitVec.ofNat 32 (done.toNat * 2 ^ 31 + error * 2 ^ 28 + moved % 2 ^ 24))

/-- Raise the interrupt of channel `c`, where it is enabled (R432). -/
def dmaIrq (c : Nat) (s : State) : State := if s.fldAt rMemDmaCtrl c 2 1 = 1 then setIrq (96 + c) true s else s

/-- The descriptor in hand ends in error: the channel stops, and the error is counted and reported (R451). -/
def dmaError (c e moved : Nat) (s : State) : State :=
  let s1 := writeDesc c (Config.freeBit s.free) (Config.freeBit (s.free + 1)) e moved { s with free := s.free + 2 }
  dmaIrq c (dropped 20 (8 + c) cMemDmaError.code 1 (bump cMemDmaError 0 (setDma c { s.dmaCh c with
    state := 2
    error := e
    stop := false
    stallAt := none } s1)))

/-- The descriptor in hand is done: STATUS is written, and the chain goes on, ends or stops (R450, R451). -/
def dmaDone (c moved : Nat) (d : Descriptor) (s : State) : State :=
  let k := s.dmaCh c
  let s1 := writeDesc c false true 0 moved s
  let s2 := if d.irq then dmaIrq c s1 else s1
  if d.last || k.stop then setDma c { k with
    state := 0
    stop := false
    stallAt := none } s2
  else fetchDesc c d.next s2

/-- The octets of an item's words. -/
def itemBytes (i : QItem) : List Byte := (i.words.flatMap wordBytes).take i.octets

/-- Write `l` as one item of quay `q`, under a granted claim (R444, R446). -/
def putItem (q : Nat) (l : List Byte) (poison : Bool) (s : State) : State :=
  let n := l.length
  let byte (k : Nat) : Byte := l.getD k 0
  let words := (List.range ((n + 3) / 4)).map fun k => byte (4 * k + 3) ++ byte (4 * k + 2) ++ byte (4 * k + 1) ++ byte (4 * k)
  setQuay q { s.quay q with
    items := (s.quay q).items ++ [⟨words, n, poison, false⟩]
    claim := 0 } s

/-- `l` goes to the destination of descriptor `d`, poisoned or whole; error 1 where a source is poisoned (R450, R451). -/
def dmaDeliver (c : Nat) (d : Descriptor) (l : List Byte) (poisonAt : Option Nat) (err : Nat) (s : State) : State :=
  if d.dst.1 = 3 then
    let s1 := putItem d.dst.2 l poisonAt.isSome s
    if poisonAt.isSome then dmaError c 1 l.length s1 else if err ≠ 0 then dmaError c err l.length s1 else dmaDone c l.length d s1
  else
    let l1 := match poisonAt with
      | some n => l.take n
      | none => l
    let s1 := match dmaPlace s d.dst l1.length with
      | some a => s.setBytes a l1
      | none => s
    if poisonAt.isSome then dmaError c 1 l1.length s1 else if err ≠ 0 then dmaError c err l1.length s1 else dmaDone c l1.length d s1

/-- The addresses of descriptor `d` lie inside their kinds (R450, R451). -/
def dmaPlacesOk (s : State) (d : Descriptor) : Bool :=
  let side (x : Nat × Nat) : Bool := if x.1 = 3 then decide (x.2 < 64 ∧ d.length ≤ 16384) else (dmaPlace s x d.length).isSome
  decide (1 ≤ d.length) && side d.src && side d.dst

/-- A claim for a quay destination is refused: the channel waits, and after 1 ms it stops (R445, R451). -/
def dmaRefused (c : Nat) (s : State) : State :=
  let k := s.dmaCh c
  let since := k.stallAt.getD s.clock.now
  if since + ms 1 ≤ s.clock.now then dmaError c 3 0 s else setDma c { k with stallAt := some since } s

/-- The octets to be claimed for a quay destination are granted to channel `c`. -/
def dmaClaim (c q n : Nat) (s : State) : Bool × State :=
  if !produces s (.dma c) q then (false, bump cQuayWrongProducer q s) else claimQuay q n s

/-- The transfer of descriptor `d` from memory. -/
def dmaFromMemory (c : Nat) (d : Descriptor) (poisonAt : Option Nat) (s : State) : State :=
  let r := if d.dst.1 = 3 then dmaClaim c d.dst.2 d.length s else (true, s)
  if !r.1 then dmaRefused c r.2
  else match dmaPlace s d.src d.length with
    | some a => dmaDeliver c d (s.bytes a d.length) poisonAt 0 r.2
    | none => r.2

/-- The transfer of descriptor `d` from a quay: one item into a buffer of LENGTH octets; with no item present the channel waits. -/
def dmaFromQuay (c : Nat) (d : Descriptor) (s : State) : State :=
  match (if consumes s (.dma c) d.src.2 then (s.quay d.src.2).items.head? else none) with
  | none => s
  | some i =>
    let n := min d.length i.octets
    let r := if d.dst.1 = 3 then dmaClaim c d.dst.2 n s else (true, s)
    if !r.1 then dmaRefused c r.2
    else
      let long := decide (d.length < i.octets)
      let s1 := if long || i.poison then dropItem d.src.2 r.2 else setQuay d.src.2 { r.2.quay d.src.2 with
        items := (r.2.quay d.src.2).items.drop 1
        read := 0
        begun := false } r.2
      dmaDeliver c d ((itemBytes i).take n) (if i.poison then some 0 else none) (if long then 4 else 0) s1

/-- START: the chain at MEM_DMA_HEAD starts on a channel that is not running (R451). -/
def dmaStart (a : Agent) (c : Nat) (s : State) : State :=
  if !s.memoryUp || !writes a || (s.dmaCh c).state == 1 then s
  else
    let h := (s.reg (rMemDmaHeadLo + c * 0x400)).toNat / 32 * 32 + (s.reg (rMemDmaHeadHi + c * 0x400)).toNat * 2 ^ 32
    fetchDesc c h (setDma c { s.dmaCh c with error := 0 } (setIrq (96 + c) false s))

/-- DMA_START: a write of MEM_DMA_CTRL.START (R451). -/
def execDmaStart (t : Time) (a : Agent) (c : Nat) (s : State) : Outcome State Fault Refusal :=
  onInst (c < 8) (dmaStart a c (s.arrive t))

/-- STOP: a running channel stops after the descriptor in hand (R451). -/
def dmaStop (a : Agent) (c : Nat) (s : State) : State :=
  if s.memoryUp && writes a && (s.dmaCh c).state == 1 then setDma c { s.dmaCh c with stop := true } s else s

/-- DMA_STOP: a write of MEM_DMA_CTRL.STOP (R451). -/
def execDmaStop (t : Time) (a : Agent) (c : Nat) (s : State) : Outcome State Fault Refusal :=
  onInst (c < 8) (dmaStop a c (s.arrive t))

/-- DMA_DESCRIPTOR_DONE: the transfer of the descriptor in hand; `poisonAt` counts the octets before poisoned data that DRAM returns
(R450, R451). -/
def execDmaDescriptorDone (t : Time) (c : Nat) (poisonAt : Option Nat) (s : State) : Outcome State Fault Refusal :=
  onInst (c < 8) <|
    let s := s.arrive t
    if !s.memoryUp || (s.dmaCh c).state != 1 then s
    else
      let d := descriptorAt s (s.dmaCh c).desc
      if !dmaPlacesOk s d then dmaError c 2 0 s
      else if d.src.1 = 3 then dmaFromQuay c d s
      else dmaFromMemory c d (if d.src.1 = 0 then poisonAt else none) s

/-! ### Engines (R431, R433, R434, R461) -/

/-- Engine `e`. -/
def State.engine (s : State) (e : Nat) : Engine := (afind s.msys.engines e).getD {}

/-- Replace engine `e`. -/
def setEngine (e : Nat) (x : Engine) (s : State) : State := { s with msys.engines := aput s.msys.engines e x }

/-- Engine `e` is the shadow of a checked pair (R433). -/
def shadow (s : State) (e : Nat) : Bool := (e == 1 && s.fld rEngCtrl 0 1 == 1) || (e == 3 && s.fld rEngCtrl 1 1 == 1)

/-- Engine `e` with its shadow, if it has one. -/
def coreAndShadow (s : State) (e : Nat) : List Nat := if shadow s (e + 1) && e % 2 == 0 then [e, e + 1] else [e]

/-- Engine `e` leaves reset with its watchdog at its start (R431, R461). -/
def releaseEngine (e : Nat) (s : State) : State :=
  (coreAndShadow s e).foldl (fun s x => setEngine x { s.engine x with
    running := true
    kick := s.clock.now } s) s

/-- KICK restarts the watchdog of engine `e` (R434). -/
def wdogKick (e : Nat) (s : State) : State :=
  if s.controlUp && (s.engine e).running && !shadow s e then setEngine e { s.engine e with kick := s.clock.now } s else s

/-- ENG_WDOG_KICK: a write of 1 to ENG_WDOG.KICK (R434). -/
def execEngWdogKick (t : Time) (e : Nat) (s : State) : Outcome State Fault Refusal :=
  onInst (e < 12) (wdogKick e (s.arrive t))

/-- Core `e` runs the handlers of the health unit (R459, R461). -/
def handlerCore (s : State) (e : Nat) : Bool := decide (e < 4) && (s.fld rHltCtrl 8 4).testBit e

/-- ENG_WDOG_EXPIRE: the watchdog of engine `e` expires; the engine is held in reset, and the expiry is reported or, for a handler core or a
second time within 600 s, raises FATAL (R434, R461). -/
def execEngWdogExpire (t : Time) (e : Nat) (s : State) : Outcome State Fault Refusal :=
  onInst (e < 12) <|
    let s := s.arrive t
    let x := s.engine e
    if !s.controlUp || !x.running || shadow s e || decide (s.clock.now < x.kick + ms (s.fldAt rEngWdog e 0 8)) then s
    else
      let s1 := bump cEngWdogExpire 0 ((coreAndShadow s e).foldl (fun s y => setEngine y { s.engine y with running := false } s)
        (setEngine e { x with
          running := false
          fired := true
          expiry := some s.clock.now } s))
      if handlerCore s e then fatalBy 3 (24 * 2048 + e) s1
      else if x.expiry.any fun p => decide (s.clock.now < p + sec 600) then fatalBy 4 (24 * 2048 + e) s1
      else degraded 24 e cEngWdogExpire.code 3 s1

/-- ENG_LOCKSTEP: the comparator of a checked pair finds a mismatch: FATAL (R433). -/
def execEngLockstep (t : Time) (pair23 : Bool) (s : State) : Outcome State Fault Refusal :=
  onInst true <|
    let s := s.arrive t
    let e := if pair23 then 2 else 0
    if s.controlUp && shadow s (e + 1) && (s.engine e).running then fatalBy 2 (24 * 2048 + e) s else s

/-- TIME_COMPARATOR: device time reaches the comparator of the control cluster, or of a protocol engine, and its level-sensitive source is
asserted: source 120, or engine `k`'s local source, held as 128 + `k` (R432). No rule gives the register that would remove the cause. -/
def execTimeComparator (t : Time) (e : Option Nat) (s : State) : Outcome State Fault Refusal :=
  onInst (e.all fun k => decide (k < 8)) <|
    let s := s.arrive t
    if s.controlUp && s.clock.running then setIrq (match e with
      | none => 120
      | some k => 128 + k) true (s.out (.comparator e)) else s

end Sys2Proof.Machine
end

