-- ==== Sys2Proof/Machine/Health.lean ====
section
/-! DEFINITION. Error reports, the handler stack, clamps and the jig (16_health.md, R453 to R472, R484). -/

namespace Sys2Proof.Machine

open Host

/-! ### Reports and the coalescer (R455) -/

/-- The counters of errors that no command of its own records: what a full or corrupt strait loses (R39, R40), and an evaluation that a
fault skips (R157). -/
def reportedOnly : List Counter := [cDetEvalSkip, cLaneSpillDrop, cHltStraitFull, cHltStraitParity]

/-- The reporting unit counts the error that its report carries (R453, R496). -/
def countReported (r : Report) (s : State) : State := match reportedOnly.find? fun c => !r.degraded && c.block == r.unit / 2048 && c.code == r.code with
  | some c => bump c 0 s
  | none => s

/-- The release of the acknowledgement of group `g` is lost: it counts as missed (R40). -/
def releaseLost (g : Nat) (s : State) : State :=
  { s with txm.acks := amod s.txm.acks g fun a => { a with released := false } }

/-- What a full or corrupt strait takes with it (R39, R40): the context ends, the candidate is not accepted, or the release is missed. -/
def straitLoss (r : Report) (l : LostItem) (s : State) : State :=
  let is (c : Counter) : Bool := !r.degraded && c.block == r.unit / 2048 && c.code == r.code
  match l with
  | .none => s
  | .spill k => if is cLaneSpillDrop then spillDrop k s else s
  | .candidate g => if is cHltStraitFull || is cHltStraitParity then refuseCand g s else s
  | .release g => if is cHltStraitParity then releaseLost g s else s

/-- The place of an island other than Control among the straits to Control. -/
def toControl (i : Nat) : Nat := 24 + if i < 3 then i else i - 1

/-- ERROR_REPORT: a DROPPED or DEGRADED report enters the coalescer (R455 to R458); it waits in its strait until the Control island is
ready (R35). -/
def execErrorReport (t : Time) (r : Report) (lost : LostItem) (s : State) : Outcome State Fault Refusal :=
  onInst (decide (r.unit < 25 * 2048)) <|
    let s := straitLoss r lost (s.arrive t)
    if s.controlUp then report r (countReported r s)
    else straitHold (toControl (blockIsland (r.unit / 2048))) 0 none (.errorReport t r .none) s

/-- COALESCE_WINDOW_CLOSE: the window of an entry closes (R455). -/
def execCoalesceWindowClose (t : Time) (u c : Nat) (s : State) : Outcome State Fault Refusal :=
  onInst true <|
    let s := s.arrive t
    match s.hlt.coal.find? fun e => e.unit == u && e.code == c with
    | none => s
    | some e =>
      if !s.controlUp || decide (s.clock.now < e.opened + ms (s.fld rHltCoal 0 7 * 100)) then s
      else errRecord 2 u c (classOf e.degraded) e.rank e.count e.arg 0
        { s with hlt.coal := s.hlt.coal.filter fun x => !(x.unit == u && x.code == c) }

/-! ### Retired units (R470) -/

/-- The test kind and instance of a unit of R498, where the jig tests it. -/
def kindOfUnit (u : Nat) : Option (Nat × Nat) :=
  let i := u % 2048
  match u / 2048 with
  | 4 => if i < 32 then some (13, i) else none
  | 5 => if i < 4 then some (13, 32 + i) else none
  | 6 => if 128 ≤ i ∧ i < 272 then some (2, i - 128) else none
  | 7 => if i < 33 then some (1, i) else none
  | 8 => if 1024 ≤ i ∧ i < 1280 then some (4, i - 1024) else none
  | 9 => if 128 ≤ i ∧ i < 384 then some (5, i - 128) else none
  | 15 => if i < 8 then some (6, i) else if i < 12 then some (7, i - 8) else none
  | 18 => if i < 2 then some (14, i) else none
  | 21 => if 64 ≤ i ∧ i < 97 then some (12, i - 64) else none
  | _ => none

/-- Instance `i` of kind `k` is retired. A detector slice leaves its streams to the spare, if that is free (R160). -/
def retireInst (k i : Nat) (s : State) : State :=
  let l := s.hlt.retired.filter fun r => !(r.kind == k && r.inst == i)
  let s1 : State := { s with hlt.retired := l ++ [⟨k, i, 0⟩] }
  if k = 1 then { s1 with
    det.failed := if s.det.failed.contains i then s.det.failed else s.det.failed ++ [i]
    det.spareFor := if i < 32 ∧ !s.det.failed.contains 32 then some (s.det.spareFor.getD i) else s.det.spareFor }
  else if k = 2 then s1.setUnit i .failed
  else s1

/-- A retired instance returns to service after three passed sweeps in a row (R470). -/
def passInst (k i : Nat) (s : State) : State := match s.hlt.retired.find? fun r => r.kind == k && r.inst == i with
  | none => s
  | some r =>
    if r.passes + 1 < 3 then
      { s with hlt.retired := s.hlt.retired.map fun x => if x.kind = k ∧ x.inst = i then { x with passes := x.passes + 1 } else x }
    else
      let s1 : State := { s with hlt.retired := s.hlt.retired.filter fun x => !(x.kind == k && x.inst == i) }
      if k = 1 then { s1 with
        det.failed := s.det.failed.filter fun x => x != i
        det.spareFor := if s.det.spareFor = some i then none else s.det.spareFor }
      else if k = 2 then s1.setUnit i .free
      else s1

/-- The report of an instance that the jig has retired (R160, R184, R470, R496). -/
def retireReport (k i : Nat) (s : State) : State := match k with
  | 1 => degraded 7 i cDetSliceFail.code 2 (bump cDetSliceFail 0 s)
  | 2 => degraded 6 (128 + i) 0xF0 2 s
  | 3 => degradedArg 8 (i / 4) cLaneUnitFail.code i (bump cLaneUnitFail 0 s)
  | 4 => degraded 8 (1024 + i) cLaneUnitFail.code 2 (bump cLaneUnitFail 0 s)
  | 5 => degraded 9 (128 + i) cTxmModRetire.code 2 (bump cTxmModRetire 0 s)
  | 6 => degraded 15 i 0xFF 2 s
  | 7 => degraded 15 (8 + i) 0xFF 2 s
  | 9 => degraded 14 64 0xFF 2 s
  | 12 => degraded 21 (64 + i) 0xFF 2 s
  | 13 => if i < 32 then degraded 4 i 0xFF 2 s else degraded 5 (i - 32) 0xFF 2 s
  | 14 => degraded 18 i 0xFF 2 s
  | _ => s

/-! ### The handler stack (R458 to R460) -/

/-- TAKE: the handler takes the top frame (R459). -/
def frameTake (a : Agent) (s : State) : State := match s.hlt.frames with
  | [] => s
  | f :: r => if s.controlUp && writes a then { s with hlt.frames := { f with taken := true } :: r } else s

/-- HANDLER_TAKE: a write of HLT_FRAME_DONE.TAKE (R459). -/
def execHandlerTake (t : Time) (a : Agent) (s : State) : Outcome State Fault Refusal :=
  onInst true (frameTake a (s.arrive t))

/-- The pending entry that is pushed next: the highest-ranked, the oldest first. -/
def nextPending (l : List HFrame) : Option HFrame :=
  l.foldl (fun b f => match b with
    | none => some f
    | some x => if x.rank < f.rank then some f else b) none

/-- A frame has ended: the one beneath resumes, unless a pending entry of higher rank exists (R458). -/
def resumeStack (s : State) : State :=
  let s1 : State := { s with hlt.frames := match s.hlt.frames with
    | [] => []
    | f :: r => { f with since := s.clock.now } :: r }
  match nextPending s.hlt.queue with
  | none => s1
  | some p =>
    if s1.hlt.frames.all fun f => decide (f.rank < p.rank) then
      pushFrame { p with onTop := 0 } { s1 with hlt.queue := s.hlt.queue.erase p }
    else s1

/-- What a handler's work has done to the unit of its frame: an expired engine leaves reset again, and a unit is retired (R461, R470). -/
def handlerEffect (f : HFrame) (outcome : Nat) (s : State) : State :=
  if outcome = 0 then
    (if f.unit / 2048 = 24 ∧ f.code = cEngWdogExpire.code then releaseEngine (f.unit % 2048) s else s)
  else match kindOfUnit f.unit with
    | some (k, i) => if isRetired s k i then s else retireInst k i s
    | none => s

/-- DONE: the handler ends the top frame with an OUTCOME; FAULT raises FATAL (R459, R460). -/
def frameDone (a : Agent) (o : BitVec 2) (s : State) : State := match s.hlt.frames with
  | [] => s
  | f :: r =>
    if !s.controlUp || !writes a || o == 3 then s
    else if o = 2 then fatalBy 0x08 (22 * 2048 + 1) s
    else resumeStack (handlerEffect f o.toNat (errRecord 4 f.unit f.code (if f.rank = 1 then 1 else 2) f.rank f.count o.toNat
      (Config.eventArg s.free).toNat { s with
        free := s.free + 1
        hlt.frames := r }))

/-- HANDLER_DONE: a write of HLT_FRAME_DONE.DONE with its OUTCOME (R459). -/
def execHandlerDone (t : Time) (a : Agent) (o : BitVec 2) (s : State) : Outcome State Fault Refusal :=
  onInst true (frameDone a o (s.arrive t))

/-- HANDLER_TIMEOUT: a frame has been on top for HANDLER_MS in all (R460). -/
def execHandlerTimeout (t : Time) (s : State) : Outcome State Fault Refusal :=
  onInst true <|
    let s := s.arrive t
    match s.hlt.frames with
    | [] => s
    | f :: _ =>
      if s.controlUp && decide (ms (s.fld rHltCtrl 12 8) ≤ f.onTop + (s.clock.now - f.since)) then fatalBy 0x09 (22 * 2048 + 1) s else s

/-- HANDLER_EXCEPTION: an exception on a handler core after TAKE and before DONE (R460). -/
def execHandlerException (t : Time) (c : Nat) (s : State) : Outcome State Fault Refusal :=
  onInst (c < 4) <|
    let s := s.arrive t
    match s.hlt.frames with
    | [] => s
    | f :: _ => if s.controlUp && handlerCore s c && f.taken then fatalBy 0x08 (22 * 2048 + 1) s else s

/-! ### The jig (R465 to R470) -/

/-- The instances of a test kind (R466); for TCAM rows with the 16 spares. -/
def jigCount (k : Nat) : Nat := ([0, 33, 144, 4096, 256, 256, 8, 4, 1, 4112, 1, 1, 33, 36, 2] : List Nat).getD k 0

/-- The time of a test of kind `k` on one instance, without its warm-ups, drain and hand-over (R466). -/
def jigTime (k : Nat) : Time :=
  ([0, us 2500, us 800, us 1200, us 1200, us 300, us 500, us 500, us 2500, us 2, us 2000, us 50000, us 500, us 20000, us 5000] : List Time).getD k 0

/-- The instance may be taken: a spare or a free one replaces it, it is idle, or it is single (R158, R159, R184, R465, R466). -/
def jigFits (s : State) (k i : Nat) : Bool :=
  decide (1 ≤ k ∧ k ≤ 14 ∧ i < jigCount k) && s.inService && (match k with
    | 1 => s.det.failed.contains i || s.det.spareFor.isNone && !s.det.failed.contains 32
    | 2 => (match unitNow s i (s.unit i) with
      | .free | .failed | .live _ _ => true
      | _ => false)
    | 3 => (s.laneAt i).state == .free && decide (41 < lanesFree s)
    | 4 => (afind s.lane.contexts i).isNone
    | 5 => (afind s.txm.running i).isNone && s.txm.bookings.all fun b => decide (s.clock.now + ms 1 < b.start)
    | 13 => !s.headUp i || s.hlt.jigPort.any fun x => x.2 == i
    | 14 => s.pair.state == .solo || s.pair.links.getLsbD (1 - i)
    | _ => true)

/-- A channeliser unit can be taken now by a test that asked at `t`: no generation change that asked earlier still waits for units, and a unit
in service finds a free one for its role (R159). -/
def jigReady (s : State) (k i : Nat) (t : Time) : Bool :=
  k != 2 || (s.chn.changes.all (fun c => c.sAt.isSome || decide (t < c.asked))) && (match s.unit i with
    | .live _ _ => (freeUnits s).any fun u => u != i
    | _ => true)

/-- The jig takes the instance, whose clamp it holds, and the test begins or is prepared (R158, R159, R184, R294). -/
def jigTake (k i : Nat) (dsn : Option Nat) (s : State) : State :=
  let j : JigTest := ⟨k, i, 0, false, 0, dsn, none, s.clock.now + jigTime k⟩
  match k with
  | 1 => { s with hlt.test := some (if i = 32 ∨ s.det.failed.contains i then j else { j with warm := 1, due := s.clock.now + ms 300 }) }
  | 2 => (match s.unit i with
    | .live st g =>
      let f := (freeUnits s).find? fun u => u != i
      let b := frameBoundary (s.clock.now + samples 1536)
      let s1 := (f.elim s fun u => s.setUnit u (.live st g)).setUnit i (.leaving st g b)
      { s1 with hlt.test := some { j with spare := f, due := b + jigTime 2 } }
    | _ => { s.setUnit i .jig with hlt.test := some j })
  | 3 => { s.modLane i fun l => { l with state := .test } with hlt.test := some j }
  | 6 => { s with
    hlt.test := some { j with warm := 1 }
    key.draining := some i }
  | 7 => { s with
    hlt.test := some { j with warm := 1 }
    key.draining := some (8 + i) }
  | _ => { s with hlt.test := some j }

/-- The jig gives the instance back; a channeliser unit takes its role back at an FFT-frame boundary (R159, R294). -/
def jigRelease (j : JigTest) (s : State) : State := match j.kind with
  | 2 => (match j.spare with
    | some u => (match s.unit u with
      | .live st g => (s.setUnit j.inst (.live st g)).setUnit u (.leaving st g (frameBoundary (s.clock.now + samples 1536)))
      | _ => s.setUnit j.inst .free)
    | none => s.setUnit j.inst (if isRetired s 2 j.inst then .failed else .free))
  | 3 => if (s.laneAt j.inst).state = .test then s.setLane j.inst {} else s
  | 6 | 7 => { s with key.draining := none }
  | _ => s

/-- A test of kind `k` on instance `i` asks for its clamp and begins, or waits for it (R466, R472). -/
def jigAsk (k i : Nat) (dsn : Option Nat) (s : State) : State := match jigClamp k i with
  | none => if jigReady s k i s.clock.now then jigTake k i dsn s
    else bump cHltClampWait 0 { s with hlt.test := some ⟨k, i, 0, false, 9, dsn, none, s.clock.now⟩ }
  | some (a, n) =>
    let r := askClamp a n s
    if r.1 then jigTake k i dsn r.2 else { r.2 with hlt.test := some ⟨k, i, 0, false, 9, dsn, none, s.clock.now⟩ }

/-- JIG_SWEEP_START: every SWEEP_H hours (R465). -/
def execJigSweepStart (t : Time) (s : State) : Outcome State Fault Refusal :=
  onInst true <|
    let s := s.arrive t
    if s.inService && s.fld rHltJigCtrl 0 1 == 1 &&
        s.hlt.lastSweep.all fun l => decide (l + sec (s.fld rHltJigCtrl 8 8 * 3600) ≤ s.clock.now) then
      { s with hlt.lastSweep := some s.clock.now }
    else s

/-- JIG_TEST_START: the jig claims an instance in its sweep; or a test that waited for its clamp or its spare unit, or whose instance service took
back, begins (R466, R467). A channeliser unit's wait follows the rules of the clamps and ends after 10 s (R159, R472). -/
def execJigTestStart (t : Time) (k i : Nat) (s : State) : Outcome State Fault Refusal :=
  onInst (decide (1 ≤ k ∧ i < jigCount k)) <|
    let s := s.arrive t
    if !jigFits s k i then s
    else match s.hlt.test with
      | none => if s.fld rHltJigCtrl 0 1 == 1 && s.hlt.lastSweep.isSome then jigAsk k i none s else s
      | some j =>
        if j.kind ≠ k ∨ j.inst ≠ i ∨ (j.warm ≠ 9 ∧ !j.again) then s
        else if j.warm = 9 ∧ k = 2 ∧ j.due + sec 10 ≤ s.clock.now then jigFinish (jigRecord k i 3 s)
        else if jigReady s k i j.due && (jigClamp k i).all fun x => (s.clamp x.2).holder == x.1 then
          let s1 := jigTake k i j.dsn s
          { s1 with hlt.test := s1.hlt.test.map fun x => { x with preemptRun := j.preemptRun } }
        else s

/-- JIG_PREEMPT: a service request preempts the test in hand; a replicated unit goes back to service, and its test begins again later
(R467, R468). -/
def execJigPreempt (t : Time) (s : State) : Outcome State Fault Refusal :=
  onInst true <|
    let s := s.arrive t
    match s.hlt.test with
    | none => s
    | some j =>
      if !s.controlUp || j.again || j.warm == 9 then s
      else if j.kind = 8 ∨ j.kind = 10 ∨ j.kind = 11 then jigPreempted false s
      else if j.kind = 3 ∨ j.kind = 4 ∨ j.kind = 5 then jigPreempted true (jigRelease j s)
      else s

/-- The port that JIG_PORT has held goes to DOWN (R484). -/
def jigPortEnd (s : State) : State := match s.hlt.jigPort with
  | none => s
  | some (_, h) =>
    let s1 : State := { s with hlt.jigPort := none }
    if h < 32 then fhDown h s1 else refreshStreams h s1

/-- The test in hand ends with its instance given back; a unit that it frees may serve a waiting generation change (R141). -/
def jigOver (j : JigTest) (s : State) : State := chnServe (jigPortEnd (jigFinish (jigRelease j s)))

/-- A FAIL: a replicated unit is retired; a single one is tested again at once, and a second FAIL raises FATAL (R470). -/
def jigFailed (j : JigTest) (s : State) : State :=
  if j.kind = 8 ∨ j.kind = 10 ∨ j.kind = 11 then
    (if j.warm = 2 then
      fatalBy 0x0C (if j.kind = 8 then 15 * 2048 + 12 else 14 * 2048 + (if j.kind = 10 then 65 else 66)) s
    else { s with hlt.test := some { j with
      warm := 2
      preemptRun := 0
      due := s.clock.now + jigTime j.kind } })
  else jigOver { j with spare := none } (retireReport j.kind j.inst (retireInst j.kind j.inst s))

/-- The verdict on a test: 0 PASS, 1 FAIL, 2 INCOMPLETE. The signature counts only at the full count (R469). -/
def jigVerdict (r : JigResult) : Nat := if r.patterns ≠ r.full then 2 else if r.signature = r.expected then 0 else 1

/-- JIG_TEST_DONE: the test in hand ends with a verdict, from its pattern counter and its signature; one that reaches its full count takes its
time (R466, R469, R470). -/
def execJigTestDone (t : Time) (r : JigResult) (s : State) : Outcome State Fault Refusal :=
  onInst true <|
    let s := s.arrive t
    match s.hlt.test with
    | none => s
    | some j =>
      if !s.controlUp || j.again || !(j.warm == 0 || j.warm == 2) || (jigVerdict r != 2 && decide (s.clock.now < j.due)) then s
      else if jigVerdict r = 1 then jigFailed j (jigRecord j.kind j.inst 1 s)
      else
          let s1 := jigRecord j.kind j.inst (jigVerdict r) s
          let s2 := if jigVerdict r = 0 then passInst j.kind j.inst s1 else s1
          if j.kind = 1 ∧ j.warm = 2 then { s2 with hlt.test := some { j with warm := 3, due := s.clock.now + ms 300 } } else jigOver j s2

/-! ### Maintenance commands (R484) -/

/-- JIG_RUN: the command runs a test at once, or is refused (R484). -/
def execJigRun (t : Time) (d : Nat) (s : State) : Outcome State Fault Refusal :=
  onInst true <|
    let s := s.arrive t
    if !freshCommand s d 0x302 then s
    else
      let a := (s.argsOf d 0x302).getD []
      let k := octetAt a 0
      let i := beAt a 1 2
      if s.hlt.test.isSome || !jigFits s k i then finish d .refused s else jigAsk k i (some d) (dlTaken d s)

/-- JIG_PORT: the port is held out of service while kind 13 runs on it (R484). -/
def execJigPort (t : Time) (d : Nat) (s : State) : Outcome State Fault Refusal :=
  onInst true <|
    let s := s.arrive t
    if !freshCommand s d 0x303 then s
    else
      let h := octetAt ((s.argsOf d 0x303).getD []) 0
      if s.hlt.test.isSome ∨ 36 ≤ h ∨ !s.inService then finish d .refused s
      else
        let s1 : State := { dlTaken d s with hlt.jigPort := some (d, h) }
        jigAsk 13 h (some d) (if h < 32 then fhDown h s1 else portLeftUp h s1)

/-- FH_RETRAIN: the port goes to DOWN and retrains (R484). -/
def execFhRetrain (t : Time) (d : Nat) (s : State) : Outcome State Fault Refusal :=
  onInst true <|
    let s := s.arrive t
    match s.argsOf d 0x304 with
    | none => s
    | some a => if 32 ≤ octetAt a 0 then finish d .refused s else finish d .acked (fhDown (octetAt a 0) s)

/-- DUMP_RELEASE: DRAM slots are freed, with the flash slots that hold the same dumps (R484). -/
def execDumpRelease (t : Time) (d : Nat) (s : State) : Outcome State Fault Refusal :=
  onInst true <|
    let s := s.arrive t
    match s.argsOf d 0x301 with
    | none => s
    | some a =>
      let slot := octetAt a 0
      if 16 ≤ slot ∧ slot ≠ 0xFF then finish d .refused s
      else
        let gone := s.hlt.dumps.filter fun x => x.1 == slot || slot == 0xFF
        finish d .acked { s with
          hlt.dumps := s.hlt.dumps.filter fun x => !(x.1 == slot || slot == 0xFF)
          hlt.flashDumps := s.hlt.flashDumps.filter fun x => !gone.any fun y => y.2.serial == x.2.serial && y.2.time == x.2.time }

/-! ### Clamps (R471, R472) -/

/-- Activity `a` takes clamp `n` (R472). -/
def clampOf (a n : Nat) : Bool := match a with
  | 1 | 2 | 3 => decide (n < 36)
  | 4 => decide (36 ≤ n ∧ n ≤ 68)
  | 5 | 6 => n == 69
  | 7 | 8 | 9 => n == 70
  | 10 | 11 => n == 71
  | 12 | 13 | 14 | 15 => n == 72 || n == 73
  | _ => false

/-- The maximum wait of an activity; none where it is not a time (R472). -/
def clampWait : Nat → Option Time
  | 1 | 4 | 5 | 7 | 8 => some (sec 10)
  | 2 | 6 => some (sec 60)
  | 3 | 10 => some (sec 1)
  | 9 => some (us 100)
  | 12 | 13 => some (sec 5)
  | 14 => some (sec 2)
  | _ => none

/-- The longest hold of an activity; none for activity 6, which holds its clamp for the whole walk (R472). -/
def clampHold : Nat → Option Time
  | 1 | 11 => some (ms 20)
  | 2 | 7 => some (ms 50)
  | 3 => some (ms 10)
  | 4 => some (ms 605)
  | 5 => some (sec 4)
  | 8 => some (sec 90)
  | 9 => some (us 2)
  | 10 | 13 | 15 => some (ms 200)
  | 12 => some (ms 60)
  | 14 => some (ms 2)
  | _ => none

/-- CLAMP_REQUEST: an activity asks for its clamp (R471). -/
def execClampRequest (t : Time) (a n : Nat) (s : State) : Outcome State Fault Refusal :=
  onInst (decide (n < 74)) <|
    let s := s.arrive t
    if clampOf a n && s.memoryUp then (askClamp a n s).2 else s

/-- CLAMP_RELEASE: an activity releases its clamp, and the oldest waiter is granted it (R471). -/
def execClampRelease (t : Time) (a n : Nat) (s : State) : Outcome State Fault Refusal :=
  onInst (decide (n < 74)) <|
    let s := s.arrive t
    if clampOf a n && s.memoryUp then freeClampOf a n s else s

/-- The wait of the activity that has the flash device of `n` for a key journal record runs out: the item is not accepted (R472). -/
def journalSkip (s : State) : State := match s.key.jobs with
  | [] => s
  | j :: _ => jobDone j false s

/-- What an activity does when its maximum wait runs out (R472). -/
def clampSkip (a n : Nat) (s : State) : State := match a with
  | 1 | 4 | 5 | 7 => (match s.hlt.test with
    | some j => if j.warm = 9 then jigPortEnd (jigFinish (jigRecord j.kind j.inst 3 s)) else bump cHltClampSkip 0 s
    | none => bump cHltClampSkip 0 s)
  | 2 => sweepSkip n (bump cHltClampSkip 0 s)
  | 6 => (s.key.items.filter fun x => x.2.op == 4).foldl (fun s x => endKeyItem x.1 .refused s) (bump cHltClampSkip 0 s)
  | 9 => (match s.fwd.newcomers.find? fun m => m.index.isSome with
    | some m => creationLost m.node (bump cFwdLearnSkip 0 (bump cHltClampSkip 0 s))
    | none => bump cHltClampSkip 0 s)
  | 10 =>
    let s1 := bump cHltClampSkip 0 s
    if !s1.msys.chA.trained then retrainEnd false false s1 else if !s1.msys.chB.trained then retrainEnd true false s1 else s1
  | 12 => pieceAsk (bump cHltClampSkip 0 s)
  | 13 => if s.upd.state = .activating then copyFailed (bump cHltClampSkip 0 s) else bump cHltClampSkip 0 s
  | 14 => journalSkip (bump cHltClampSkip 0 s)
  | 3 => (bump cHltClampSkip 0 s).modPort n fun q => { q with retryAt := s.clock.now + sec 1 }
  | _ => bump cHltClampSkip 0 s

/-- CLAMP_WAIT_EXPIRE: the maximum wait of activity `a` for clamp `n` runs out (R472). -/
def execClampWaitExpire (t : Time) (a n : Nat) (s : State) : Outcome State Fault Refusal :=
  onInst (decide (n < 74)) <|
    let s := s.arrive t
    match (s.clamp n).waiting.find? fun w => w.1 == a, clampWait a with
    | some w, some m => if w.2 + m ≤ s.clock.now ∧ s.memoryUp then clampSkip a n (freeClampOf a n s) else s
    | _, _ => s

end Sys2Proof.Machine
end

