-- ==== Sys2Proof/Machine/Dumps.lean ====
section
/-! DEFINITION. Freeze, dumps, the event recorder's cursor and the temperature (16_health.md, R473 to R483; R523). -/

namespace Sys2Proof

/-- Word `k` of a record (R475). -/
def EvRecord.word (r : EvRecord) (k : Nat) : Word := BitVec.ofNat 32 <| match k with
  | 0 => r.seq
  | 1 => r.event % 2 ^ 16 * 2 ^ 16 + r.seq / 2 ^ 32 % 2 ^ 16
  | 2 => r.time
  | 3 => r.time / 2 ^ 32
  | 4 => r.unit % 2 ^ 16 * 2 ^ 16 + r.code % 2 ^ 8 * 2 ^ 8 + r.cls % 4 * 2 ^ 6 + r.kind % 8 * 2 ^ 3 + r.rank % 8
  | 5 => r.count
  | 6 => r.arg0
  | _ => r.arg1

end Sys2Proof

namespace Sys2Proof.Machine

open Host

/-! ### Dumps (R481, R482) -/

/-- The code of PAIR_STATUS.STATE (R370). -/
def pairCode : PairState → Nat
  | .unpaired => 0
  | .solo => 1
  | .active => 2
  | .standby => 3
  | .resync => 4
  | .detached => 5
  | .taking => 6
  | .excluded => 7

/-- The dump of the FATAL in hand (R481). -/
def dumpOf (s : State) : DumpHdr :=
  { time := s.hlt.fatalTime, cause := s.hlt.cause, unit := s.hlt.causeUnit, code := s.hlt.causeCode, serial := serialOf s,
    gen := imageGen s, epoch := s.pair.epoch, buildId := (s.start.image.map fun h => h.buildId).getD 0, evrHead := s.evr.head,
    role := pairCode s.pair.state, multiple := s.hlt.multiple, events := s.evr.records }

/-- The slot of `slots` that a dump takes: the lowest free one, or that of the oldest dump, with whether it is overwritten (R482). -/
def slotFor (used : List (Nat × DumpHdr)) (slots : List Nat) : Option (Nat × Bool) :=
  match slots.find? fun n => (afind used n).isNone with
  | some n => some (n, false)
  | none => ((used.filter fun x => slots.contains x.1).foldl (fun b x => match b with
    | none => some x
    | some y => if x.2.time < y.2.time then some x else some y) none).map fun x => (x.1, true)

/-- Store dump `d` in a DRAM slot of its kind: own 0 to 7, partner's 8 to 15 (R482). -/
def putDump (own : Bool) (d : DumpHdr) (s : State) : State :=
  match slotFor s.hlt.dumps ((List.range 8).map fun k => if own then k else 8 + k) with
  | none => s
  | some (n, overwrites) =>
    let s1 := if overwrites then bump cHltDumpOverwrite 0 s else s
    { s1 with
      hlt.dumps := aput s1.hlt.dumps n d
      hlt.lastSlot := if own then n else s1.hlt.lastSlot }

/-- The flash dump slots of each device: the dump area's length in 16 MiB (R69, R482). -/
def flashSlots (s : State) : Nat := ((s.start.image.bind fun h => h.layout[4]?).map fun x => x.2 / 2 ^ 24).getD 0

/-- Store dump `d` in a flash slot (R482). -/
def putFlashDump (d : DumpHdr) (s : State) : State := match slotFor s.hlt.flashDumps (List.range (2 * flashSlots s)) with
  | none => s
  | some (n, overwrites) =>
    let s1 := if overwrites then bump cHltDumpOverwrite 0 s else s
    { s1 with
      hlt.flashDumps := aput s1.hlt.flashDumps n d
      hlt.flashCopied := true }

/-! ### From FATAL to the restart (R479 to R483) -/

/-- FATAL: a FATAL level reaches the Always-on island (R479, R480). -/
def execFatal (t : Time) (c : FatalCause) (s : State) : Outcome State Fault Refusal :=
  onInst (decide (1 ≤ c.cause ∧ c.cause ≤ 12)) <|
    let s := s.arrive t
    if s.start.porstLow then s else raiseFatal c s

/-- FATAL_STAGING_DRAINED: both staging buffers are drained, and the dump sequencer begins; cause KEY_ZEROISE writes no dump (R480). -/
def execFatalStagingDrained (t : Time) (s : State) : Outcome State Fault Refusal :=
  onInst true <|
    let s := s.arrive t
    if !s.hlt.frozen || s.hlt.stage != .draining then s
    else
      let s1 : State := { s with start.drained := true }
      if s.hlt.cause = 6 then { s1 with hlt.stage := .done }
      else (askClamp 11 71 { s1 with hlt.stage := .dumping }).2

/-- DUMP_WRITTEN: the dump stands in an own DRAM slot, and its other paths begin (R480, R482). -/
def execDumpWritten (t : Time) (s : State) : Outcome State Fault Refusal :=
  onInst true <|
    let s := s.arrive t
    if s.hlt.frozen && s.hlt.stage == .dumping && (s.clamp 71).holder == 11 then
      { freeClampOf 11 71 (putDump true (dumpOf s) s) with hlt.stage := .paths }
    else s

/-- The device stays frozen instead of restarting (R483). -/
def staysFrozen (s : State) : Bool :=
  s.fld rHltCtrl 0 1 == 0 || s.hlt.cause == 6 ||
    decide (s.fld rHltCtrl 20 4 ≤ (s.hlt.recent.filter fun x => decide (s.clock.now < x + sec 600)).length)

/-- DUMP_PATHS_DONE: the dump has gone to the partner and straight to flash where it must; the device restarts through steps 4 and 5 of R81, or
stays frozen (R482, R483). -/
def execDumpPathsDone (t : Time) (s : State) : Outcome State Fault Refusal :=
  onInst true <|
    let s := s.arrive t
    if !s.hlt.frozen || s.hlt.stage != .paths then s
    else
      let s1 : State := { s with
        hlt.partnerSent := s.fld rHltCtrl 2 1 == 1 && s.pair.links != 0
        hlt.stage := .done }
      let s2 := if s.hlt.cause = 5 ∨ s.fld rHltCtrl 1 1 = 1 then putFlashDump (dumpOf s) s1 else s1
      if staysFrozen s then s2 else resetDone s2

/-- A chip that no longer counts the sender as its partner takes its dump (R482). -/
def takesDump (s : State) : Bool := s.isthmusUp && s.memoryUp && s.pair.links != 0 &&
  (s.pair.state == .detached || s.pair.state == .taking || (s.pair.state == .active && (s.pair.partnerLost || s.pair.following.isSome)))

/-- HLT_PARTNER_DUMP: a partner's dump is stored in a partner slot (R482). -/
def execHltPartnerDump (t : Time) (d : DumpHdr) (s : State) : Outcome State Fault Refusal :=
  onInst true <|
    let s := s.arrive t
    if takesDump s then occurs eHltPartnerDump (putDump false d s) else s

/-- An own DRAM slot holds dump `d`. -/
def ownHolds (s : State) (d : DumpHdr) : Bool := s.hlt.dumps.any fun x => decide (x.1 < 8) && x.2.serial == d.serial && x.2.time == d.time

/-- DUMP_FLASH_COPY: after release an own slot is copied into flash; at a start a flash dump that no own slot holds is copied back (R482). -/
def execDumpFlashCopy (t : Time) (slot : Nat) (toFlash ok : Bool) (s : State) : Outcome State Fault Refusal :=
  onInst true <|
    let s := s.arrive t
    if !s.controlUp then s
    else if toFlash then
      (match (if slot < 8 then afind s.hlt.dumps slot else none) with
      | none => s
      | some d =>
        if !s.inService || s.hlt.flashDumps.any (fun x => x.2.serial == d.serial && x.2.time == d.time) then s
        else if ok then putFlashDump d s
        else bump cHltDumpFlashFail 0 s)
    else match afind s.hlt.flashDumps slot with
      | none => s
      | some d => if !s.memoryUp || !ok || ownHolds s d then s else putDump true d s

/-! ### The recorder's cursor (R475, R476) -/

/-- Word `k` of the record of sequence number `q`; 0 outside EVR_OLDEST to EVR_HEAD − 1 (R476). -/
def recordWord (s : State) (q k : Nat) : Word := match s.evr.records.find? fun r => r.seq == q with
  | some r => r.word k
  | none => 0

/-- Set the engines' cursor; one below EVR_OLDEST moves up to it (R476). -/
def setCursor (q : Nat) (s : State) : State :=
  if q < s.evr.oldest then bumpBy cEvrCursorLost 0 (s.evr.oldest - q) { s with evr.cursor := s.evr.oldest }
  else { s with evr.cursor := q }

/-- EVR_CURSOR_WRITE: a write of EVR_CURSOR (R476). -/
def execEvrCursorWrite (t : Time) (a : Agent) (q : Nat) (s : State) : Outcome State Fault Refusal :=
  onInst true <|
    let s := s.arrive t
    if writes a && !s.hlt.frozen && !s.start.porstLow then setCursor (q % 2 ^ 48) s else s

/-- EVR_DATA7_READ: a read of EVR_DATA7 returns the last word at the cursor; an engine's advances the cursor by 1 (R3, R476). -/
def execEvrData7Read (t : Time) (a : Agent) (s : State) : Outcome State Fault Refusal :=
  onInst true <|
    let s := s.arrive t
    if s.start.porstLow then s
    else
      let s1 := s.out (.readData a 0x4170003C (recordWord s s.evr.cursor 7))
      if writes a then { s1 with evr.cursor := (s.evr.cursor + 1) % 2 ^ 48 } else s1

/-! ### Temperature (R523) -/

/-- GLB_OVERTEMP: GLB_TEMP has risen to +110 °C (R523). -/
def execGlbOvertemp (t : Time) (s : State) : Outcome State Fault Refusal :=
  onInst true <|
    let s := s.arrive t
    if s.hlt.overArmed && decide (110 * 16 ≤ s.hlt.temp) && !s.start.porstLow then
      degraded 0 0 (eventCode eGlbOvertemp) 2 (occurs eGlbOvertemp { s with hlt.overArmed := false })
    else s

/-- GLB_THERMAL_TRIP: the comparator of the Always-on island sees +120 °C: FATAL, and the restart waits for the device to cool (R523). -/
def execGlbThermalTrip (t : Time) (s : State) : Outcome State Fault Refusal :=
  onInst true <|
    let s := s.arrive t
    if s.start.porstLow then s
    else raiseFatal ⟨1, 0, eventCode eGlbThermalTrip, 0⟩ (occurs eGlbThermalTrip { s with start.holdUntilCool := true })

/-- A reset that nothing holds any more ends, and the warm start begins (R81, R523). -/
def leaveReset (s : State) : State :=
  if s.start.held && !s.start.warmLow && !s.start.holdUntilCool && !s.start.porstLow then warmBegin s else s

/-- GLB_TEMP_UPDATE: each 1 ms GLB_TEMP takes a new value in 1/16 °C; below +105 °C GLB_OVERTEMP is armed again, and at +100 °C or less a
restart that waited goes on (R523). -/
def execGlbTempUpdate (t : Time) (tj : Int) (s : State) : Outcome State Fault Refusal :=
  onInst (decide (-32768 ≤ tj ∧ tj < 32768)) <|
    let s := s.arrive t
    if s.start.phase = .p0 ∨ s.start.phase = .p1 then s
    else leaveReset { s with
      hlt.temp := tj
      hlt.overArmed := s.hlt.overArmed || decide (tj < 105 * 16)
      start.holdUntilCool := s.start.holdUntilCool && decide (100 * 16 < tj) }

end Sys2Proof.Machine
end

