-- ==== Sys2Proof/Machine/Delivery.lean ====
section
/-! DEFINITION. What crosses a strait when its destination becomes ready: the arrivals that waited in its source FIFO are taken in their order
(01_architecture.md, R35, R37). -/

namespace Sys2Proof.Machine

open Host

/-- The state after an arrival that was taken. -/
def taken (s : State) : Outcome State Fault Refusal → State
  | .next t => t
  | _ => s

/-- An arrival that waited in a source FIFO is taken as if it came now. Only these commands ever wait (Straits.lean). -/
def crossStrait (c : Instr) (s : State) : State := match c with
  | .keyLookup t g => taken s (execKeyLookup t g s)
  | .keyPayloadBlock t g => taken s (execKeyPayloadBlock t g s)
  | .keyFrameEnd t g fcs mic n => taken s (execKeyFrameEnd t g fcs mic n s)
  | .keyCounterUpdate t e n d => taken s (execKeyCounterUpdate t e n d s)
  | .keyProtect t b => taken s (execKeyProtect t b s)
  | .candidateOpen t g => taken s (execCandidateOpen t g s)
  | .candidateVerdicts t g f => taken s (execCandidateVerdicts t g f s)
  | .calSnippet t x => taken s (execCalSnippet t x s)
  | .txStartCommand t b => taken s (execTxStartCommand t b s)
  | .ackRelease t g => taken s (execAckRelease t g s)
  | .errorReport t r l => taken s (execErrorReport t r l s)
  | _ => s

/-- FIFO `n` empties in order, if its destination is ready. -/
def straitRun (n : Nat) (s : State) : State :=
  if s.ready (straitRow (n / 8)).dst then (s.fifo n).foldl (fun s c => crossStrait c s) { s with straits := adel s.straits n } else s

/-- Every FIFO whose destination is ready empties. -/
def straitsRun (s : State) : State := (s.straits.map fun x => x.1).foldl (fun s n => straitRun n s) s

end Sys2Proof.Machine
end

