-- ==== Sys2Proof/Machine/Package.lean ====
section
/-! DEFINITION. Supplies, package and ball map (18_electrical_and_package.md, R499, R500, R506, R507, R516 to R520; R31). They fix what
stands outside the digital state; no command changes them. -/

namespace Sys2Proof

/-! ### Supplies (R499, R500) -/

/-- The eight supplies. -/
inductive Supply where
  | vddCore | vddSram | vddAo | vddSds | vddhSds | vddqDdr | vddIo18 | vddAna18
  deriving DecidableEq, Repr

/-- The operating range in µV and the maximum current in mA (R499). -/
def Supply.operating : Supply → Nat × Nat × Nat
  | .vddCore => (727500, 772500, 43200)
  | .vddSram => (824500, 875500, 4000)
  | .vddAo => (776000, 824000, 500)
  | .vddSds => (873000, 927000, 6700)
  | .vddhSds => (1140000, 1260000, 1700)
  | .vddqDdr => (1067000, 1133000, 1800)
  | .vddIo18 => (1710000, 1890000, 170)
  | .vddAna18 => (1746000, 1854000, 830)

/-- The absolute maximum of a supply in µV; the minimum is −300,000 (R500). -/
def Supply.maximum : Supply → Int
  | .vddCore => 850000
  | .vddSram | .vddAo => 950000
  | .vddSds => 1000000
  | .vddhSds | .vddqDdr => 1350000
  | .vddIo18 | .vddAna18 => 2100000

/-- Voltage `v` in µV lies in the operating range (R499). -/
def Supply.good (x : Supply) (v : Int) : Bool := decide ((x.operating.1 : Int) ≤ v ∧ v ≤ x.operating.2.1)

/-- Voltage `v` in µV stresses the device beyond its ratings (R500). -/
def Supply.destroys (x : Supply) (v : Int) : Bool := decide (v < -300000 ∨ x.maximum < v)

/-- Below 0.70 V on VDD_AO the Always-on island holds itself in reset (R504). -/
def aoHoldsReset (v : Int) : Bool := decide (v < 700000)

/-! ### Reset pulses and clocks (R506, R507) -/

/-- A WARMRST_N pulse of `n` Always-on cycles is ignored as a glitch (R506). -/
def warmGlitch (n : Nat) : Bool := decide (n ≤ 3)

/-- REFCLK in Hz. -/
def refclk : Nat := 40960000

/-- SDSCLK in Hz: it stands to REFCLK as 15,625 to 4,096 (R507). -/
def sdsclk : Nat := refclk * 15625 / 4096

/-! ### The ball map (R516 to R520) -/

/-- The names of the 46 ball rows in order (R31). -/
def ballRows : List String :=
  ["A", "B", "C", "D", "E", "F", "G", "H", "J", "K", "L", "M", "N", "P", "T", "U", "V", "W", "Y"] ++
  ["AA", "AB", "AC", "AD", "AE", "AF", "AG", "AH", "AJ", "AK", "AL", "AM", "AN", "AP", "AT", "AU", "AV", "AW", "AY"] ++
  ["BA", "BB", "BC", "BD", "BE", "BF", "BG", "BH"]

/-- What a ball carries: ground, a supply, or a signal of a bus with its index. -/
inductive Ball where
  | vss
  | supply (x : Supply)
  | signal (name : String) (index : Nat)
  deriving DecidableEq, Repr

/-- The P or N ball of pair `n` of a bus. -/
def pairBall (bus : String) (negative : Bool) (n : Nat) : Ball := .signal (bus ++ (if negative then "N" else "P")) n

/-- The serial pairs of row columns 7 upwards: pair `first + k` at columns 7 + 2k and 8 + 2k, for `count` pairs (R518). -/
def serialRow (bus : String) (first count col : Nat) : Ball :=
  if 7 ≤ col ∧ col < 7 + 2 * count then pairBall bus (col % 2 == 0) (first + (col - 7) / 2) else .vss

/-- Rows BG and BE: eight Ethernet pairs and four Isthmus pairs (R518). -/
def southSerial (eth ist : String) (col : Nat) : Ball :=
  if 25 ≤ col ∧ col ≤ 32 then pairBall ist (col % 2 == 0) ((col - 25) / 2) else serialRow eth 0 8 col

/-- The analogue pairs: pair n at columns 35 + 3n and 36 + 3n (R518). -/
def analogueRow (bus : String) (col : Nat) : Ball :=
  if 35 ≤ col ∧ (col - 35) % 3 < 2 ∧ (col - 35) / 3 < 4 then pairBall bus ((col - 35) % 3 == 1) ((col - 35) / 3) else .vss

/-- A byte-lane tile of subchannel `s` and lane `b`, at tile row `r` and relative column `c` from 0 (R519). -/
def laneTile (ch : String) (s b r c : Nat) : Ball :=
  let q := 40 * s + 8 * b
  let dq (k : Nat) : Ball := .signal (ch ++ "_DQ") (q + k)
  let row := match r with
    | 0 => [dq 0, dq 1, .vss, dq 2, dq 3, .supply .vddqDdr]
    | 1 => [.vss, .signal (ch ++ "_DQSP") (5 * s + b), .signal (ch ++ "_DQSN") (5 * s + b), .vss, .supply .vddqDdr, .vss]
    | _ => [dq 4, dq 5, .vss, dq 6, dq 7, .supply .vddqDdr]
  row.getD c .vss

/-- The command tile of subchannel `s`, whose 36 positions count from 1 row by row (R519). -/
def commandTile (ch : String) (s p : Nat) : Ball :=
  let k := (p - 1) - (p - 1) / 3
  let name (x : String) : String := ch ++ "_" ++ x ++ (if s = 0 then "0" else "1")
  if p % 3 = 0 then .vss
  else if k < 2 then .signal (name "CK" ++ (if k = 0 then "P" else "N")) 0
  else if k < 4 then .signal (name "CS" ++ "_N") (k - 2)
  else if k < 18 then .signal (name "CA") (k - 4)
  else if k = 18 then .signal (name "ALERT" ++ "_N") 0
  else .supply .vddqDdr

/-- A DDR region at `row` from 0 below row N and relative column `c` from 0, the outer tile first (R519). -/
def ddrBall (ch : String) (row c : Nat) : Ball :=
  let s := c / 6
  if row / 3 < 5 then laneTile ch s (row / 3) (row % 3) (c % 6) else commandTile ch s ((row - 15) * 6 + c % 6 + 1)

/-- The signals of row AT from column 13 (R520). -/
def rowAt : List (String × Nat) :=
  (List.range 8).map (fun k => ("XSPI_DQ", k)) ++ [("XSPI_DQS", 0), ("XSPI_CLK", 0), ("XSPI_CS0_N", 0), ("XSPI_CS1_N", 0)] ++
  [("XSPI_RESET_N", 0), ("MGT_SCL", 0), ("MGT_SDA", 0), ("TCK", 0), ("TMS", 0), ("TDI", 0), ("TDO", 0), ("TRST_N", 0)] ++
  [("PPS_IN", 0), ("PPS_OUT", 0)]

/-- The signals of row AU from column 13 (R520). -/
def rowAu : List (String × Nat) :=
  [("PORST_N", 0), ("WARMRST_N", 0), ("READY", 0), ("FATAL_N", 0), ("ALERT_N", 0), ("TOKEN_A", 0), ("TOKEN_B", 0), ("PAIR_ROLE", 0)] ++
  [("BOOT_SEL", 0), ("BOOT_SEL", 1), ("REFCLK_P", 0), ("REFCLK_N", 0), ("SDSCLK_P", 2), ("SDSCLK_N", 2), ("SDSCLK_P", 3)] ++
  [("SDSCLK_N", 3), ("DDRA_RESET_N", 0), ("DDRA_ZQ", 0), ("DDRB_RESET_N", 0), ("DDRB_ZQ", 0)]

/-- A ball of the list at column 13 and after. -/
def listedBall (l : List (String × Nat)) (col : Nat) : Ball :=
  if 13 ≤ col then (match l[col - 13]? with
    | some x => .signal x.1 x.2
    | none => .vss) else .vss

/-- The ball of `row`, counted from A = 1, and `col`, from 1 (R517 to R520). -/
def ballAt (row col : Nat) : Ball :=
  if 13 ≤ row ∧ row ≤ 33 then
    (if col ≤ 12 then ddrBall "DDRA" (row - 13) (col - 1)
    else if 41 ≤ col then ddrBall "DDRB" (row - 13) (46 - col)
    else if 35 ≤ col then ddrBall "DDRB" (row - 13) (6 + (40 - col))
    else if col = 13 ∨ col = 34 then (if row % 2 = 1 then .supply .vddSram else .vss)
    else if (row + col) % 2 = 0 then .supply .vddCore else .vss)
  else match row with
    | 2 => serialRow "FH_TX" 0 16 col
    | 4 => serialRow "FH_RX" 0 16 col
    | 6 => serialRow "FH_TX" 16 16 col
    | 8 => serialRow "FH_RX" 16 16 col
    | 10 => if col = 21 ∨ col = 25 then .signal "SDSCLK_P" ((col - 21) / 4) else if col = 22 ∨ col = 26 then .signal "SDSCLK_N" ((col - 22) / 4)
      else .vss
    | 11 => .supply .vddSds
    | 12 => if col % 2 = 1 then .supply .vddhSds else .vss
    | 34 => listedBall rowAt col
    | 35 => listedBall rowAu col
    | 37 => if 13 ≤ col ∧ col ≤ 24 then .supply .vddIo18 else if 25 ≤ col ∧ col ≤ 28 then .supply .vddAo else .vss
    | 39 => analogueRow "ANA_DAC" col
    | 40 => if col ≤ 33 ∧ col % 2 = 1 then .supply .vddhSds else if 35 ≤ col then .supply .vddAna18 else .vss
    | 41 => if col ≤ 34 then .supply .vddSds else analogueRow "ANA_ADC" col
    | 43 => southSerial "ETH_RX" "IST_RX" col
    | 45 => southSerial "ETH_TX" "IST_TX" col
    | _ => .vss

end Sys2Proof
end

