-- ==== Sys2Proof/Machine/Views.lean ====
section
/-! DEFINITION. What every register reads as: the status registers follow from the rest of State (the cards of every chapter), the
others hold a setting or a count (17_register_map.md, R486 to R490). -/

namespace Sys2Proof.Machine

open Host

/-! ### Parts of words -/

/-- A signed value in `w` bits. -/
def fromInt (w : Nat) (x : Int) : Nat := (x % (2 : Int) ^ w).toNat

/-- Bits 31:0 or bits 63:32 of a 64-bit quantity. -/
def half64 (hi : Bool) (v : Nat) : Nat := if hi then v / 2 ^ 32 % 2 ^ 32 else v % 2 ^ 32

/-- One bit per number of `l` for which `p` holds. -/
def bitsOf (l : List Nat) (p : Nat → Bool) : Nat := l.foldl (fun a k => if p k then a + 2 ^ k else a) 0

/-- The layout of QUAY_WM (R447). -/
def Wm.view (w : Wm) : Nat := w.above.toNat + w.crossed.toNat * 2 + w.count % 256 * 2 ^ 8

/-! ### Start, clocks and identity (02, 17) -/

/-- BOOT_STATUS.PHASE. -/
def Phase.code : Phase → Nat
  | .p0 => 0
  | .p1 => 1
  | .p2 => 2
  | .p3 => 3
  | .p4 => 4
  | .p5 => 5
  | .p6 => 6
  | .p7 => 7
  | .p8 => 8
  | .p9 => 9
  | .hold => 14
  | .halted => 15

/-- BOOT_STATUS. -/
def bootStatus (s : State) : Nat :=
  let x := s.start
  x.phase.code + x.slot.toNat * 2 ^ 4 + (x.bootSel == 2).toNat * 2 ^ 5 + x.warm.toNat * 2 ^ 6 + x.fallback.toNat * 2 ^ 7 +
    x.failCode % 256 * 2 ^ 8 + x.ddrA.toNat * 2 ^ 16 + x.ddrB.toNat * 2 ^ 17 + x.bootSel.toNat * 2 ^ 18 +
    x.pairRole.toNat * 2 ^ 20 + x.retained.toNat * 2 ^ 21 + x.confirmed.toNat * 2 ^ 22 + x.otherEmpty.toNat * 2 ^ 23 +
    x.readErr.toNat * 2 ^ 24

/-- The JTAG IDCODE: version, part number, manufacturer identity and 1 (R8, R525). -/
def jtagIdcode : Word := 0x2#4 ++ 0x4850#16 ++ 0x5AD#11 ++ 1#1

/-- Views of GLB. -/
def viewGlb (s : State) (o : Nat) : Nat :=
  if o = 0 then 0x24850100
  else if o = 4 then (s.start.phase == .p9).toNat + s.pins.ready.toNat * 2 + s.hlt.frozen.toNat * 4 + (alertLow s).toNat * 8 +
    s.start.islands.toNat * 2 ^ 4 + pairCode s.pair.state * 2 ^ 12
  else if o = 0x20 then fromInt 16 s.hlt.temp
  else if s.start.fuseLoaded then (fuseWord s ((o - 0x10) / 4)).toNat else 0

/-- FUSE_STATUS. -/
def viewFuse (s : State) : Nat :=
  s.start.fuseLoaded.toNat + (fuseWord s 28).toNat / 4 % 2 * 2 + (fuseWord s 28).toNat / 2 % 2 * 4 + (fuseWord s 28).toNat % 2 * 8 +
    (fuseWord s 129).toNat % 16 * 2 ^ 4 + (fuseWord s 129).toNat / 16 % 16 * 2 ^ 8 + rollbackCount s * 2 ^ 12

/-- Views of BOOT. -/
def viewBoot (s : State) (o : Nat) : Nat :=
  if o = 0x40 then bootStatus s
  else if o = 0x44 then s.start.prevFail % 256 + s.start.prevSlot.toNat * 2 ^ 8
  else if o = 0x48 then (imageGen s).toNat
  else if o = 0x4C then s.start.failRecord.toNat
  else if o = 0x54 then s.start.persistOld % 2 ^ 16 + s.start.persistNew % 2 ^ 16 * 2 ^ 16
  else s.start.devpub.toNat / 2 ^ (32 * (15 - (o - 0x80) / 4)) % 2 ^ 32

/-- CLK_STATUS. -/
def viewClk (s : State) : Nat :=
  s.start.refOk.toNat + bitsOf [1, 2, 3, 4, 5, 6, 7] (pllLocked s) + bitsOf [0, 1, 2, 3] (sdsPresent s) * 2 ^ 8

/-! ### Fronthaul, channeliser, lanes, transmission and calibration (03 to 08) -/

/-- FH_PORT_STATUS.STATE. -/
def FhState.code : FhState → Nat
  | .down => 0
  | .blockLock => 1
  | .frameLock => 2
  | .delay => 3
  | .time => 4
  | .map => 5
  | .up => 6
  | .recover => 7
  | .fault => 8
  | .loop => 9

/-- Views of FH for port `p`. -/
def viewFh (s : State) (p o : Nat) : Nat :=
  let q := s.port p
  if o = 4 then q.state.code + q.grantSent.toNat * 2 ^ 4 + (q.headStatus.getLsbD 15).toNat * 2 ^ 5 +
    (q.headStatus.getLsbD 14).toNat * 2 ^ 6 + q.adopted.toNat * 2 ^ 7 + q.rxEn.toNat * 2 ^ 8 + q.txEn.toNat * 2 ^ 16 +
    q.cause % 256 * 2 ^ 24
  else if o = 8 then q.rtt % 2 ^ 32
  else if o = 0xC then q.rxLag % 2 ^ 32
  else if q.adopted then fromInt 32 q.offset else 0

/-- The unit with the use that `p` asks for on a stream. -/
def unitWith (s : State) (p : UnitUse → Bool) : Option Nat := (s.chn.units.find? fun x => p (unitNow s x.1 x.2)).map fun x => x.1

/-- The live unit of stream `st`: one that is leaving serves until its boundary (R159). -/
def liveUnit (s : State) (st : Nat) : Option Nat :=
  (unitWith s fun u => match u with | .leaving n _ _ => n == st | _ => false).or
    (unitWith s fun u => match u with | .live n _ => n == st | _ => false)

/-- CHN_STREAM_STATUS of stream `st`. -/
def viewStream (s : State) (st : Nat) : Nat :=
  (liveUnit s st).getD 0 +
    (unitWith s fun u => match u with | .retiring n _ _ => n == st | _ => false).getD 0xFF * 2 ^ 8 + liveGen s st % 256 * 2 ^ 16 +
    (s.chn.valid.contains st).toNat * 2 ^ 24 +
    (s.chn.changes.any fun c => streamHead s st == some c.head && c.sAt.isSome).toNat * 2 ^ 25

/-- CHN_UNIT_STATUS. -/
def viewUnits (s : State) : Nat :=
  (freeUnits s).length + (s.chn.units.filter fun x => match unitNow s x.1 x.2 with | .retiring _ _ _ => true | _ => false).length * 2 ^ 8 +
    (s.chn.units.filter fun x => x.2 == .failed).length * 2 ^ 16

/-- The code of a lane's state (R162). -/
def LaneState.code : LaneState → Nat
  | .free => 0
  | .lookback => 1
  | .preamble => 2
  | .header => 3
  | .payload => 4
  | .waitCancel => 5
  | .rerun => 6
  | .exporting => 7
  | .test => 8

/-- LANE_INSPECT. -/
def viewInspect (s : State) : Nat :=
  let l := s.fld rLaneInspectSel 0 12
  let x := s.laneAt l
  let lead := (s.groupOf x.group).any fun g => g.members.contains l && leadOf s g == l
  x.state.code + x.gen % 256 * 2 ^ 4 + x.group % 4096 * 2 ^ 12 + lead.toNat * 2 ^ 24 + x.context.isSome.toNat * 2 ^ 25 +
    (isRetired s 3 l).toNat * 2 ^ 26

/-- Views of LANE. -/
def viewLane (s : State) (o : Nat) : Nat :=
  if o = 0x10 then lanesBusy s + s.lane.contexts.length * 2 ^ 13 + reruns s * 2 ^ 22 else viewInspect s

/-- Views of TXM. -/
def viewTxm (s : State) (o : Nat) : Nat :=
  if o = 4 then s.txm.running.length + (s.hlt.retired.filter fun r => r.kind == 5).length * 2 ^ 9
  else
    let l := s.txm.running.filter fun x => x.2.booking.stream == (o - 0x10004) / 0x400
    l.length + min 0xFFFF (l.foldl (fun n x => n + x.2.booking.share) 0) * 2 ^ 16

/-- Views of CAL for head `h`. -/
def viewCal (s : State) (h o : Nat) : Nat :=
  let c := s.headCal h
  if o = 4 then c.rxGen % 256 + c.txGen % 256 * 2 ^ 8 + c.aligned.toNat * 2 ^ 16 + c.pending.toNat * 2 ^ 17 + c.inherited.toNat * 2 ^ 18
  else if o = 8 then fromInt 16 c.rx.gain + fromInt 16 c.tx.gain * 2 ^ 16
  else if o = 0xC then fromInt 16 c.rx.dcI + fromInt 16 c.rx.dcQ * 2 ^ 16
  else if o = 0x10 then fromInt 16 c.rx.iqGain + fromInt 16 c.rx.iqPhase * 2 ^ 16
  else if o = 0x14 then fromInt 16 c.tx.iqGain + fromInt 16 c.tx.iqPhase * 2 ^ 16
  else if o = 0x18 then fromInt 32 c.rx.lo
  else if o = 0x1C then fromInt 32 c.rx.sco
  else if o = 0x20 then fromInt 32 c.tx.lo
  else if o = 0x24 then fromInt 32 c.rx.dly
  else if o = 0x28 then fromInt 32 c.tx.dly
  else fromInt 12 ((afind c.rx.aphase ((o - 0x44) / 4 + 1)).getD 0)

/-! ### Schedule and time (09) -/

/-- The ASN of the current slot, 0 before the schedule starts (R243). -/
def asnNow (s : State) : Nat := if s.sch.started then s.asnAt s.clock.now else 0

/-- Views of SCH. -/
def viewSch (s : State) (o : Nat) : Nat :=
  if o = 0x20 then asnNow s % 2 ^ 32
  else if o = 0x24 then asnNow s / 2 ^ 32 % 256 + s.sch.started.toNat * 2 ^ 8
  else if o = 0x30 then s.sch.epoch
  else if o = 0x34 then s.sch.lastSlew % 2 ^ 32
  else bitsOf (List.range 16) (fun n => (s.nbr n).silent) + bitsOf (List.range 16) (fun n => (s.nbr n).reclaimed) * 2 ^ 16

/-- Views of TIME. OFFSET is in ns, saturating. -/
def viewTime (s : State) (o : Nat) : Nat :=
  if o = 4 then s.timer.source % 8 + (timeLocked s).toNat * 2 ^ 3 + s.timer.slewing.toNat * 2 ^ 4 +
    fromInt 16 (max (-32768) (min 32767 (s.timer.offset / 16))) * 2 ^ 16
  else if o = 0x10 ∨ o = 0x14 then half64 (o == 0x14) s.clock.now
  else half64 (o == 0x24) s.timer.ppsEdge

/-! ### Packet plane, keys, journal and Ferry (10 to 12) -/

/-- The stages of the trie below its first that a prefix of `len` bits reaches (R344). -/
def trieStages (len : Nat) : Nat := (len - 16 + 7) / 8

/-- The nodes of the trie's shared pool that its prefixes use: one per stage below the first and leading bits (R344). -/
def trieNodes (entries : List Nat) : Nat :=
  ((entries.flatMap fun e =>
    let len := e / 2 ^ 56 % 256
    (List.range (trieStages len)).map fun k => (k, e / 2 ^ (64 + 128 - 16 - 8 * k))).eraseDups).length

/-- Views of FWD. -/
def viewFwd (s : State) (o : Nat) : Nat :=
  if o = 0x1000C then s.fwd.seeds.1.toNat
  else if o = 0x10010 then s.fwd.seeds.2.toNat
  else if o = 0x10024 then s.fwd.nodes.length + (s.fwd.nodes.any fun x => !x.2.place.inTable).toNat * 2 ^ 23 +
    s.fwd.rehash.toNat * 2 ^ 24 + ((s.clamp 70).holder == 9).toNat * 2 ^ 25
  else if o = 0x10028 then overflowUsed s
  else if o = 0x1002C then min 0xFFFF (trieNodes ((s.entries tFwdTrie).map fun x => x.2)) + (underTest s 10 0).toNat * 2 ^ 16
  else tokensOf s (o / 0x400)

/-- KEY_ID of the newest NETWORK_KEK: the live one of highest GENERATION, 0 if there is none. -/
def netKekId (s : State) : Nat :=
  ((s.key.keys.filter fun x => x.2.plain.cls == 4 && x.2.status == .live).foldl
    (fun (b : Nat × Nat) x => if b.2 < x.2.gen + 1 then (x.2.plain.id, x.2.gen + 1) else b) (0, 0)).1

/-- Views of KEY. -/
def viewKey (s : State) (o : Nat) : Nat :=
  if o = 0x10 then s.key.cache.length + (pinnedSlots s).length + (pinnedSlots s).length * 2 ^ 17 + netKekId s % 16 * 2 ^ 28
  else if o = 0x14 then s.key.queue.length + (underTest s 8 0).toNat * 2 ^ 9 + s.key.rewrap.isSome.toNat * 2 ^ 10
  else if o = 0x18 then (match s.key.rewrap with
    | none => 0
    | some r => r.index % 2 ^ 23 + r.fromId % 16 * 2 ^ 24 + r.toId % 16 * 2 ^ 28)
  else s.key.pairState % 4 + s.key.received.toNat * 4 + s.key.conflict.toNat * 8

/-- Views of JRN. -/
def viewJrn (s : State) (o : Nat) : Nat :=
  if o = 0x38 then owedCount s + ringPct s * 2 ^ 13 + s.dl.sync.toNat * 2 ^ 20
  else if o = 0x20 ∨ o = 0x24 then half64 (o == 0x24) s.jrn.nextJsn
  else if o = 0x28 ∨ o = 0x2C then half64 (o == 0x2C) s.jrn.ackJsn
  else if o = 0x30 ∨ o = 0x34 then half64 (o == 0x34) s.dl.nextDsn
  else half64 (o == 0x44) s.jrn.tokenRel

/-- Views of FRY. -/
def viewFry (s : State) (o : Nat) : Nat :=
  if o = 0x20 then s.fry.state % 4 + s.fry.endpoint % 4 * 2 ^ 2 + s.fry.port % 8 * 2 ^ 4 + s.fry.peerLost.toNat * 2 ^ 7
  else s.fry.session % 2 ^ 32

/-! ### Dovetail, updates, memory, quays, health and engines (13 to 16) -/

/-- Views of PAIR. -/
def viewPair (s : State) (o : Nat) : Nat :=
  let p := s.pair
  if o = 0x10 then pairCode p.state + p.driving.toNat * 2 ^ 4 + p.ownLow.toNat * 2 ^ 5 + p.partnerLow.toNat * 2 ^ 6 + p.links.toNat * 2 ^ 7 +
    p.partnerLost.toNat * 2 ^ 9 + p.orphan.toNat * 2 ^ 10 + p.handover.isSome.toNat * 2 ^ 11
  else if o = 0x14 then p.epoch % 2 ^ 32
  else if o = 0x18 then p.phase % 8 + p.progress % 128 * 2 ^ 3
  else half64 (o == 0x24) ((p.handover.map fun h => h.th).getD 0)

/-- Views of UPD for a campaign. -/
def viewCamp (s : State) (c o : Nat) : Nat :=
  let l := s.prog.filter fun x => x.2.campaign == c
  if o = 4 then l.length
  else if o = 8 then (l.filter fun x => x.2.state == 3).length
  else match afind s.camps c with
    | none => 0
    | some k => k.state.code + k.round % 256 * 2 ^ 3 + k.cursor % 2 ^ 18 * 2 ^ 11

/-- Views of UPD. -/
def viewUpd (s : State) (o : Nat) : Nat :=
  let u := s.upd
  if o = 0x20 then u.state.code + u.actState % 16 * 2 ^ 4 + u.failCode % 256 * 2 ^ 8 + u.okA.toNat * 2 ^ 16 + u.okB.toNat * 2 ^ 17 +
    u.target.toNat * 2 ^ 18
  else if o = 0x24 then (u.manifest.map fun m => m.updateId.toNat).getD 0
  else if o = 0x28 then
    let total := (u.manifest.map piecesOf).getD 0
    ((List.range total).filter fun p => pieceHeld s p).length + total % 2 ^ 14 * 2 ^ 16
  else if o < 0x800 then bitsOf (List.range 32) fun k => pieceHeld s (32 * ((o - 0x400) / 4) + k)
  else viewCamp s ((o - 0x10000) / 0x400) (o % 0x400)

/-- Views of MEM. -/
def viewMem (s : State) (o : Nat) : Nat :=
  if o = 8 then s.msys.chA.cap % 256 + s.msys.chB.cap % 256 * 2 ^ 8 + min 255 (interleaved s / 2 ^ 28) * 2 ^ 16 +
    s.msys.chA.ok.toNat * 2 ^ 24 + s.msys.chB.ok.toNat * 2 ^ 25
  else
    let d := s.dmaCh ((o - 0x1000C) / 0x400)
    d.state % 4 + d.error % 8 * 2 ^ 2

/-- Word `k` of the head read word of a quay (R444). -/
def headWord (q : Quay) (k : Nat) : Word := match q.items with
  | [] => 0
  | i :: _ => i.words.getD (8 * q.read + k) 0

/-- QUAY_RD_TAG (R444, R446). -/
def headTag (q : Quay) : Nat := match q.items with
  | [] => 2 ^ 9
  | i :: _ =>
    let last := decide (i.readWords ≤ q.read + 1)
    (q.read == 0).toNat + last.toNat * 2 + (if last then i.octets - 32 * q.read else 32) % 64 * 2 ^ 2 + i.poison.toNat * 2 ^ 8

/-- Views of QUAY for quay `q`. -/
def viewQuay (s : State) (q o : Nat) : Nat :=
  let k := s.quay q
  if o = 0xC then min k.words (s.fldAt rQuayCfg q 0 17) + min 32767 k.items.length * 2 ^ 17
  else if o = 0x10 then k.wm.view
  else if o = 0x40 then (k.claim != 0).toNat
  else if o = 0x80 then headTag k
  else (headWord k ((o - 0x60) / 4)).toNat

/-- HLT_FRAME, HLT_FRAME_COUNT and HLT_FRAME_ARG (R458). -/
def viewFrame (s : State) (o : Nat) : Nat := match s.hlt.frames with
  | [] => 0
  | f :: _ =>
    if o = 0x10 then f.unit % 2 ^ 16 + f.code % 256 * 2 ^ 16 + f.rank % 8 * 2 ^ 24 + f.taken.toNat * 2 ^ 27
    else if o = 0x14 then f.count % 2 ^ 32
    else f.arg % 2 ^ 32

/-- HLT_DUMP_STATUS (R482). -/
def viewDump (s : State) : Nat :=
  s.hlt.lastSlot % 8 + s.hlt.multiple.toNat * 2 ^ 3 + s.hlt.partnerSent.toNat * 2 ^ 4 + s.hlt.flashCopied.toNat * 2 ^ 5 +
    min 255 (s.hlt.recent.filter fun x => decide (s.clock.now < x + sec 600)).length * 2 ^ 8 +
    bitsOf (List.range 8) (fun k => (afind s.hlt.dumps (8 + k)).isSome) * 2 ^ 16

/-- Views of HLT. -/
def viewHlt (s : State) (o : Nat) : Nat :=
  let h := s.hlt
  if o = 4 then h.frames.length + h.queue.length * 2 ^ 2 + h.coal.length * 2 ^ 7
  else if o = 8 then h.cause % 256 + h.causeUnit % 2 ^ 16 * 2 ^ 8 + h.causeCode % 256 * 2 ^ 24
  else if o < 0x20 then viewFrame s o
  else if o = 0x24 then hltAlert s
  else if o = 0x34 then (match h.test with
    | none => 0
    | some j => j.kind % 256 + j.inst % 4096 * 2 ^ 8 + 2 ^ 20 + j.preemptRun % 2 ^ 11 * 2 ^ 21)
  else if o = 0x48 then viewDump s
  else if o < 0x400 then ((afind h.wms ((o - 0x204) / 8)).getD {}).view
  else
    let c := s.clamp ((o - 0x400) / 4)
    c.holder % 256 + min 255 c.waiting.length * 2 ^ 8

/-- Views of EVR (R476). -/
def viewEvr (s : State) (o : Nat) : Nat :=
  if o = 0 ∨ o = 4 then half64 (o == 4) (s.evr.head % 2 ^ 48)
  else if o = 8 ∨ o = 0xC then half64 (o == 0xC) (s.evr.oldest % 2 ^ 48)
  else if o = 0x10 ∨ o = 0x14 then half64 (o == 0x14) s.evr.cursor
  else (recordWord s s.evr.cursor ((o - 0x20) / 4)).toNat

/-- ENG_STATUS. -/
def viewEng (s : State) : Nat :=
  bitsOf (List.range 12) (fun e => (s.engine e).running) + bitsOf (List.range 12) (fun e => (s.engine e).fired) * 2 ^ 12

/-- What the status register at offset `o` of block `b` shows. -/
def viewOf (s : State) (b o : Nat) : Nat := match b with
  | 0 => viewGlb s o
  | 1 => viewFuse s
  | 2 => viewBoot s o
  | 3 => viewClk s
  | 4 => viewFh s (o / 0x400) (o % 0x400)
  | 6 => if o < 0x20000 then viewStream s (o / 0x400) else viewUnits s
  | 8 => viewLane s o
  | 9 => viewTxm s o
  | 10 => viewCal s (o / 0x400) (o % 0x400)
  | 11 => viewSch s o
  | 12 => viewTime s o
  | 13 => s.fwd.seen.length
  | 14 => viewFwd s o
  | 15 => viewKey s o
  | 16 => viewJrn s o
  | 17 => viewFry s o
  | 18 => viewPair s o
  | 19 => viewUpd s o
  | 20 => viewMem s o
  | 21 => viewQuay s (o / 0x400) (o % 0x400)
  | 22 => viewHlt s o
  | 23 => viewEvr s o
  | 24 => viewEng s
  | _ => 0

/-! ### Which registers there are (R486 to R488) -/

/-- What stands at an offset of a block (R488). -/
inductive Place where
  | card (c : Card)
  | counter
  | common
  | diagnostic (k : Nat)
  | aperture
  | none
  deriving DecidableEq, Repr

/-- The diagnostic registers of block `b`: what its count leaves after the cards, the two common registers and the counters. -/
def diagnostics (b : Nat) : Nat :=
  blockRegs b - ((cardsOf b).foldl (fun n c => n + c.cnt) 0 + 2 + ((counters.filter fun c => c.block == b).foldl (fun n c => n + c.cnt) 0))

/-- A counter stands at offset `o` of block `b`. -/
def counterAt (b o : Nat) : Bool := counters.any fun c =>
  c.block == b && decide (c.off ≤ o) && (o - c.off) % 0x400 == 0 && decide ((o - c.off) / 0x400 < c.cnt)

/-- What stands at the aligned address `a`. -/
def placeAt (a : Nat) : Place :=
  if a < 0x40000000 ∨ 0x41900000 ≤ a then .none
  else
    let b := (blockOf a).1
    let o := (blockOf a).2
    match cardAt o (cardsOf b) with
    | some c => .card c
    | none =>
      if o = 0xFFF00 ∨ o = 0xFFF04 then .common
      else if counterAt b o then .counter
      else if (b = 1 ∧ 0x1000 ≤ o ∧ o ≤ 0x13FC) ∨ (b = 23 ∧ 0x40000 ≤ o ∧ o < 0x80000) then .aperture
      else if 0xF0000 ≤ o ∧ o % 4 = 0 ∧ (o - 0xF0000) / 4 < diagnostics b then .diagnostic ((o - 0xF0000) / 4)
      else .none

/-- The island that holds the register at `a`; the Always-on parts of HLT are those of R492. -/
def islandOf (a : Nat) : Nat :=
  if a = rHltFatalCause ∨ a = rHltDumpStatus ∨ a = rHltMgtCfg then 0 else blockIsland (blockOf a).1

/-- The island of the register at `a` is held in reset (R489). A freeze holds no island in reset (R480). -/
def islandHeld (s : State) (a : Nat) : Bool := s.start.porstLow || !s.start.islands.getLsbD (islandOf a)

/-- The value of the register at the aligned address `a`, before the rule for a reader (R487 to R489). -/
def regValue (s : State) (a : Nat) : Word :=
  let b := (blockOf a).1
  let o := (blockOf a).2
  match placeAt a with
  | .card c =>
    if c.view then BitVec.ofNat 32 (viewOf s b o)
    else if a = rFuseProg then s.reg a ||| (if s.start.fuseBusy.isSome then 0x40000000 else 0)
    else s.reg a &&& ~~~ BitVec.ofNat 32 c.wo
  | .counter => s.reg a
  | .common => if o = 0xFFF00 then BitVec.ofNat 32 (cfgErrWord s b) else BitVec.ofNat 32 (blockRegs b + b * 2 ^ 16)
  | .diagnostic k => Config.diagnostic b k
  | .aperture => if b = 1 then fuseWord s ((o - 0x1000) / 4) else
      (match s.evr.records.find? fun r => r.seq % 8192 == (o - 0x40000) / 32 with
      | some r => r.word (o % 32 / 4)
      | none => 0)
  | .none => 0

/-- What a read of the register at `a` shows: 0 while its island is held in reset (R489). -/
def regShown (s : State) (a : Nat) : Word := if islandHeld s a then 0 else regValue s a

/-! ### The dump aperture (R478, R481) -/

/-- One bit of CRC-32 of IEEE 802.3, reflected. -/
def crc32Bit (c : BitVec 32) (b : Bool) : BitVec 32 :=
  if c.getLsbD 0 != b then (c >>> 1) ^^^ 0xEDB88320 else c >>> 1

/-- CRC-32 of IEEE 802.3 over octets. -/
def crc32Ieee (l : List Byte) : Word :=
  ~~~ (l.foldl (fun c b => (List.range 8).foldl (fun c i => crc32Bit c (b.getLsbD i)) c) 0xFFFFFFFF)

/-- The `n` octets of `v`, most significant first. -/
def bigOctets (n v : Nat) : List Byte := (List.range n).map fun k => BitVec.ofNat 8 (v / 2 ^ (8 * (n - 1 - k)))

/-- The sections of a dump with their lengths in KiB, in the order of R481. -/
def dumpSections : List (Nat × Nat) :=
  [(1, 48), (2, 24), (3, 256), (4, 16), (5, 2112), (6, 2048), (7, 1024), (8, 512), (9, 2052), (10, 64), (11, 512), (12, 2048)]

/-- The header of a dump up to its CRC (R481). -/
def dumpBody (d : DumpHdr) : List Byte :=
  bigOctets 4 0x4E594450 ++ bigOctets 2 1 ++ bigOctets 2 12 ++ bigOctets 4 10977280 ++ bigOctets 1 d.cause ++ bigOctets 1 d.code ++
    bigOctets 2 d.unit ++ bigOctets 16 d.serial.toNat ++ bigOctets 8 d.time ++ bigOctets 4 d.gen.toNat ++ bigOctets 4 d.epoch ++
    bigOctets 8 d.buildId.toNat ++ bigOctets 8 (d.evrHead % 2 ^ 48) ++ bigOctets 1 d.role ++ bigOctets 1 d.multiple.toNat ++
    List.replicate 58 0

/-- Octet `k` of section 3: slot q mod 8,192 holds the record of sequence number q, as EVR_RECORD does; a slot without one is 0 (R476,
R481). -/
def eventOctet (d : DumpHdr) (k : Nat) : Byte := match d.events.find? fun r => r.seq % 8192 == k / 32 with
  | some r => (r.word (k % 32 / 4)).extractLsb' (8 * (k % 4)) 8
  | none => 0

/-- Where section 3 begins in a dump. -/
def eventSection : Nat := 4096 + 72 * 1024

/-- Octet `k` of a dump: the header, the section table and section 3 are R481's; of the other sections, whose insides it does not lay out, the
octets are free. -/
def dumpOctet (d : DumpHdr) (k : Nat) : Byte :=
  if k < 124 then (dumpBody d).getD k 0
  else if k < 128 then (bigOctets 4 (crc32Ieee (dumpBody d)).toNat).getD (k - 124) 0
  else if k < 320 ∧ (k - 128) % 16 < 12 then
    let n := (k - 128) / 16
    let at' := 4096 + (dumpSections.take n).foldl (fun a x => a + x.2 * 1024) 0
    let x := dumpSections.getD n (0, 0)
    (bigOctets 2 x.1 ++ bigOctets 2 0 ++ bigOctets 4 at' ++ bigOctets 4 (x.2 * 1024)).getD ((k - 128) % 16) 0
  else if k < 320 ∧ (k - 128) / 16 = 2 then
    (bigOctets 4 (crc32Ieee ((List.range 262144).map (eventOctet d))).toNat).getD ((k - 128) % 16 - 12) 0
  else if 320 ≤ k ∧ k < 4096 then 0
  else if eventSection ≤ k ∧ k < eventSection + 262144 then eventOctet d (k - eventSection)
  else Config.dumpByte d.time k

/-- The word at octet `o` of the dump region: the slot's dump, or DRAM where the slot holds none (R478, R482). -/
def dumpWord (s : State) (o : Nat) : Word := match afind s.hlt.dumps (o / 2 ^ 24) with
  | some d =>
    let k := o % 2 ^ 24
    dumpOctet d (k + 3) ++ dumpOctet d (k + 2) ++ dumpOctet d (k + 1) ++ dumpOctet d k
  | none => s.word (dramBase + s.base rHltDumpBaseLo rHltDumpBaseHi + o)

/-! ### Interrupts (R432) -/

/-- Interrupt source `n` is asserted: a block's, a quay's complete item for an engine or watermark, a DMA channel's, and the health
unit's top frame while it is not taken (R459), and the comparator. The doorbells of protocol engines have no register in the spec. -/
def irqAsserted (s : State) (n : Nat) : Bool :=
  if n ≤ 24 ∨ (96 ≤ n ∧ n ≤ 103) then s.msys.irq.contains n
  else if 32 ≤ n ∧ n ≤ 95 then
    let k := s.quay (n - 32)
    (decide (s.fldAt rQuayCfg2 (n - 32) 17 5 ≤ 11) && !k.items.isEmpty) || k.wm.above
  else if n = 104 then (match s.hlt.frames with
    | [] => false
    | f :: _ => !f.taken)
  else n == 120 && s.msys.irq.contains 120

/-- The sources that core `k` of the control cluster sees: asserted, routed to it and not masked; a shadow core takes none (R432, R433). -/
def irqsOf (s : State) (k : Nat) : List Nat := (List.range 128).filter fun n =>
  !shadow s k && irqAsserted s n && (s.reg (rEngIrqRoute + 4 * n)).getLsbD k && s.fld (rEngIrqRoute + 4 * n) 4 3 != 0

/-- The quays of protocol engine `k`'s 16 local sources, in the order of ENG_PE_IRQMAP, those that are enabled (R432). -/
def peQuays (s : State) (k : Nat) : List Nat := (List.range 16).filterMap fun j =>
  let r := rEngPeIrqmap0 + 4 * (j / 4) + k * 0x400
  if s.fld r (8 * (j % 4) + 7) 1 = 1 then some (s.fld r (8 * (j % 4)) 6) else none

/-- The quays among them that assert their local source, and whether the engine's comparator does (R432). -/
def peSources (s : State) (k : Nat) : List Nat × Bool :=
  ((peQuays s k).filter fun q => irqAsserted s (32 + q), s.msys.irq.contains (128 + k))

end Sys2Proof.Machine
end

