-- ==== Sys2Proof/Machine/Registers.lean ====
section
/-! DEFINITION. Access to the registers: reads by every agent, the management window and MGMT-READ, and the effect of a write
(17_register_map.md, R488 to R493; 16_health.md, R478; R3; R328). -/

namespace Sys2Proof.Machine

open Host

/-! ### Pairs of halves (R490) -/

/-- The LO registers of the 64-bit quantities, with how many instances each has. -/
def loRegisters : List (Nat × Nat) :=
  [(rLaneSpillBaseLo, 1), (rSchCellBaseLo, 1), (rSchAsnLo, 1), (rSchAsnEpochLo, 1), (rTimeNowLo, 1), (rTimePpsLo, 1), (rFwdNtBaseLo, 1),
   (rFwdRbBaseLo, 1), (rKeyBlobBaseLo, 1), (rJrnRingBaseLo, 1), (rJrnDlBaseLo, 1), (rJrnEui64Lo, 1), (rJrnNextJsnLo, 1), (rJrnAckJsnLo, 1),
   (rJrnNextDsnLo, 1), (rJrnTokenRelLo, 1), (rPairHandoverLo, 1), (rUpdCampBaseLo, 1), (rUpdProgBaseLo, 1), (rMemDmaHeadLo, 8),
   (rQuayOvfBaseLo, 1), (rHltDumpBaseLo, 1), (rEvrHeadLo, 1), (rEvrOldestLo, 1), (rEvrCursorLo, 1), (rEngCoreVecLo, 1)]

/-- `a` is a LO register. -/
def isLo (a : Nat) : Bool := loRegisters.any fun x => (List.range x.2).any fun i => x.1 + i * 0x400 == a

/-- `a` is a HI register, which lies just above its LO register. -/
def isHi (a : Nat) : Bool := decide (4 ≤ a) && isLo (a - 4)

/-- The half that agent `g` has latched for the HI register `a`. -/
def latched (s : State) (g : Agent) (a : Nat) : Option Word := (s.latches.find? fun x => x.1 == g && x.2.1 == a).map fun x => x.2.2

/-- A read of LO latches HI for the agent that reads it. -/
def latch (g : Agent) (lo : Nat) (s : State) : State :=
  { s with latches := (g, lo + 4, regShown s (lo + 4)) :: s.latches.filter fun x => !(x.1 == g && x.2.1 == lo + 4) }

/-! ### Reads (R489, R490) -/

/-- The management window and MGMT-READ (R3, R328). -/
def isWindow : Agent → Bool
  | .mgt | .mgmtRead => true
  | _ => false

/-- What stands at `a` may be read, as its card says; a write-only register reads as 0 (R489). -/
def readHeld (g : Agent) (a : Nat) (s : State) : Word × State :=
  if islandHeld s a then (0, s)
  else if isLo a then (regValue s a, latch g a s)
  else if isHi a then ((latched s g a).getD (regValue s a), s)
  else if a = 0x4170003C ∧ writes g then (regValue s a, { s with evr.cursor := (s.evr.cursor + 1) % 2 ^ 48 })
  else (regValue s a, s)

/-- A 32-bit read of the control-space address `a` by agent `g` (R489). -/
def readAs (g : Agent) (a : Nat) (s : State) : Word × State :=
  if a % 4 ≠ 0 then (0, bump cGlbBadAccess 0 s)
  else if placeAt a = .none then (if isWindow g then 0xDEAD0000 else 0, bump cGlbBadAccess 0 s)
  else readHeld g a s

/-- `a` lies in the control space. -/
def inControl (a : Nat) : Bool := decide (0x40000000 ≤ a ∧ a < 0x41900000)

/-- Agent `g` can reach the control space now: nothing answers before PORST_N has risen, the window answers from the end of P0, and the
engines stand still in a freeze (R478, R480). -/
def reaches (s : State) (g : Agent) : Bool :=
  !s.start.porstLow && (if isWindow g then s.start.phase != .p0 || s.start.straps else !s.hlt.frozen)

/-- The octets of an access: 1, 2 or 4 (R489). -/
def accessSize (n : Nat) : Bool := n == 1 || n == 2 || n == 4

/-- A read of `n` octets: an aligned one of 1 or 2 gives the addressed octets of the 32-bit value, an unaligned one 0 (R489). -/
def readSized (g : Agent) (a n : Nat) (s : State) : Word × State :=
  if n = 4 then readAs g a s
  else if a % n ≠ 0 then (0, bump cGlbBadAccess 0 s)
  else
    let r := readAs g (a / 4 * 4) s
    (BitVec.ofNat 32 (r.1.toNat / 2 ^ (8 * (a % 4)) % 2 ^ (8 * n)), r.2)

/-- REGISTER_LO_READ: an agent reads a register; LO latches HI for it (R489, R490). -/
def execRegisterLoRead (t : Time) (g : Agent) (a : Word) (n : Nat) (s : State) : Outcome State Fault Refusal :=
  onInst (accessSize n) <|
    let s := s.arrive t
    if !reaches s g || !inControl a.toNat then s
    else
      let r := readSized g a.toNat n s
      r.2.out (.readData g a.toNat r.1)

/-! ### The window (R478, R328) -/

/-- One word read through the window at address `a`, and whether the window serves that address. -/
def windowRead (g : Agent) (a : Nat) (s : State) : Bool × Word × State :=
  if 0x50000000 ≤ a ∧ a ≤ 0x5FFFFFFF then
    (if a % 4 ≠ 0 then (true, 0, bump cGlbBadAccess 0 s)
    else (true, if s.start.islands.getLsbD 6 then dumpWord s (a - 0x50000000) else 0, s))
  else if inControl a then
    let r := readAs g a s
    (a % 4 ≠ 0 || placeAt a != .none, r.1, r.2)
  else (false, 0xDEAD0000, s)

/-- `n` consecutive words from address `a`. -/
def windowWords (g : Agent) : Nat → Nat → State → List Word × State
  | 0, _, s => ([], s)
  | n + 1, a, s =>
    let r := windowRead g a s
    let s1 := if g == .mgmtRead && !r.1 then bump cFryReadRefuse 0 r.2.2 else r.2.2
    let l := windowWords g n ((a + 4) % 2 ^ 32) s1
    (r.2.1 :: l.1, l.2)

/-- The words that a request asks for, in order. -/
def readAll : List (Word × Nat) → State → List Word × State
  | [], s => ([], s)
  | x :: r, s =>
    let l := windowWords .mgmtRead x.2 x.1.toNat s
    let m := readAll r l.2
    (l.1 ++ m.1, m.2)

/-- FERRY_MGMT_READ: a MGMT-READ request is answered with the words read; it changes no state but the counts of what it is refused
(R325, R328). -/
def execFerryMgmtRead (t : Time) (f : FerryFrame) (s : State) : Outcome State Fault Refusal :=
  onInst true <|
    let r := ferryRx 6 f (s.arrive t)
    match r.1.map readsRead with
    | none => r.2
    | some none => bump cFryBadFormat 0 r.2
    | some (some (req, reads)) =>
      let l := readAll reads (frameHeard f r.2)
      ferryPacket 6 2 (wordsOctets req l.1) (l.2.out (.mgmtRead req l.1))

/-- The number that four octets spell, the most significant first. -/
def fromBig (l : List Byte) : Nat := l.foldl (fun n b => n * 256 + b.toNat) 0

/-- MGT_I2C_WRITE: a write carries four octets of read address; every further octet is rejected and counted (R3, R478). With fewer than
four, those that come replace the leading ones. -/
def execMgtI2cWrite (t : Time) (l : List Byte) (s : State) : Outcome State Fault Refusal :=
  onInst true <|
    let s := s.arrive t
    if !reaches s .mgt then s
    else
      let n := min 4 l.length
      let keep := s.hlt.mgtAddr % 2 ^ (8 * (4 - n))
      bumpBy cMgtWriteReject 0 (l.length - 4) { s with hlt.mgtAddr := fromBig (l.take 4) * 2 ^ (8 * (4 - n)) + keep }

/-- MGT_I2C_READ: a read returns words from the read address, which advances by 4 per word (R478). -/
def execMgtI2cRead (t : Time) (n : Nat) (s : State) : Outcome State Fault Refusal :=
  onInst true <|
    let s := s.arrive t
    if !reaches s .mgt then s
    else
      let l := windowWords .mgt n s.hlt.mgtAddr s
      { l.2.out (.mgtData l.1) with hlt.mgtAddr := (s.hlt.mgtAddr + 4 * n) % 2 ^ 32 }

/-! ### Writes (R489, R490, R493) -/

/-- The loader may write an RWL register: it applies records, before release (R25, R63, R489). -/
def unlocked (s : State) (g : Agent) : Bool := g == .loader && (s.start.phase == .p4 || s.start.phase == .p5)

/-- The bits of `c` that agent `g` may set. -/
def openBits (s : State) (g : Agent) (c : Card) : Nat := c.rw + (if unlocked s g then c.rwl else 0)

/-- The register at `a` after a write of `v`, where the bits of `m` may be set. -/
def merged (s : State) (a m : Nat) (v : Word) : Word := (s.reg a &&& ~~~ BitVec.ofNat 32 m) ||| (v &&& BitVec.ofNat 32 m)

/-- A half of a locked pair is written: both halves take effect once both have come, in either order (R490). -/
def writeHalf (a other : Nat) (v : Word) (s : State) : State := match afind s.halves other with
  | some w => { (s.setReg a v).setReg other w with halves := adel (adel s.halves a) other }
  | none => { s with halves := aput s.halves a v }

/-- The setting that a write leaves in the register at `a`. -/
def settle' (g : Agent) (a : Nat) (c : Card) (v : Word) (s : State) : State :=
  let w := merged s a (openBits s g c) v
  if c.rwl ≠ 0 ∧ unlocked s g ∧ isLo a then writeHalf a (a + 4) w s
  else if c.rwl ≠ 0 ∧ unlocked s g ∧ isHi a then writeHalf a (a - 4) w s
  else s.setReg a w

/-- A write that leaves locked bits as they stand is counted: always where the register is locked whole, and where it holds other fields
too only if a locked field would change (R489). -/
def lockedWrite (s : State) (g : Agent) (a : Nat) (c : Card) (v : Word) : Bool :=
  c.rwl != 0 && !unlocked s g && (c.rw + c.wo == 0 || (s.reg a ^^^ v) &&& BitVec.ofNat 32 c.rwl != 0)

/-- What a write to an instance of the window registers of quay `q` does (R444 to R449). -/
def writeQuay (g : Agent) (q o : Nat) (v : Word) (s : State) : State :=
  if o = 8 then (if v.getLsbD 0 && s.packetUp then flushQuay q s else s)
  else if o = 0x40 then asProducer g q (fun s => (claimQuay q v.toNat s).2) s
  else if o = 0x44 then asProducer g q (putWord q v 4 true false) s
  else if 0x48 ≤ o ∧ o ≤ 0x54 then asProducer g q (putWord q v ((o - 0x48) / 4 + 1) true true) s
  else if o = 0x58 then (if v.getLsbD 0 then asProducer g q (poisonItem q) s else s)
  else if o = 0x84 then
    let s1 := if v.getLsbD 0 then asConsumer g q (takeWord q none) s else s
    if v.getLsbD 1 then asConsumer g q (dropItem q) s1 else s1
  else s

/-- EVR_CURSOR with one half replaced. -/
def cursorHalf (s : State) (hi : Bool) (v : Word) : Nat :=
  if hi then s.evr.cursor % 2 ^ 32 + v.toNat % 2 ^ 16 * 2 ^ 32 else s.evr.cursor / 2 ^ 32 * 2 ^ 32 + v.toNat

/-- FUSE_PROG may programme this bit now: a control core asks in service, nothing is being programmed, and the bit is the lowest
unprogrammed one of ROLLBACK, or a slot of KEY_HASH_REVOKE (FUSE_PROG's card). -/
def fuseAllowed (s : State) (a : Agent) (bit : Nat) (revoke : Bool) : Bool :=
  (match a with | .engine e => decide (e < 4) | _ => false) && s.start.phase == .p9 && s.start.fuseBusy.isNone &&
    (if revoke then decide (bit < 4) else decide (bit < 64) && bit == rollbackCount s)

/-- A write of GO to FUSE_PROG (R60, R417). -/
def fuseGo (a : Agent) (bit : Nat) (revoke : Bool) (s : State) : State :=
  if fuseAllowed s a bit revoke then { s with start.fuseBusy := some (if revoke then (129, 4 + bit) else (130 + bit / 32, bit % 32)) }
  else bump cFuseProgRefuse 0 s

/-- What a write does beside the setting it leaves: the command bits of the cards. -/
def writeEffect (g : Agent) (a : Nat) (v : Word) (s : State) : State :=
  let b := (blockOf a).1
  let o := (blockOf a).2
  if b = 12 ∧ o = 0x18 then setRate v.toInt s
  else if b = 1 ∧ o = 4 then (if v.getLsbD 31 then fuseGo g (v.toNat % 64) (v.getLsbD 6) s else s)
  else if b = 20 ∧ 0x10000 ≤ o ∧ o % 0x400 = 0 then
    let s1 := if v.getLsbD 0 then dmaStart g ((o - 0x10000) / 0x400) s else s
    if v.getLsbD 1 then dmaStop g ((o - 0x10000) / 0x400) s1 else s1
  else if b = 21 then writeQuay g (o / 0x400) (o % 0x400) v s
  else if b = 22 ∧ o = 0x1C then
    let s1 := if v.getLsbD 0 then frameTake g s else s
    if v.getLsbD 1 then frameDone g (v.extractLsb' 2 2) s1 else s1
  else if b = 23 ∧ (o = 0x10 ∨ o = 0x14) then setCursor (cursorHalf s (o == 0x14) v) s
  else if b = 24 ∧ 0x10000 ≤ o ∧ o % 0x400 = 0 then (if v.getLsbD 31 then wdogKick ((o - 0x10000) / 0x400) s else s)
  else s

/-- A write to the card `c` at `a`. FH_PORT_CTRL and ANA_PORT_CTRL hand their LOOP on (R114). -/
def writeCard (g : Agent) (a : Nat) (c : Card) (v : Word) (s : State) : State :=
  if c.rwl + c.rw + c.wo = 0 then s
  else
    let s1 := if lockedWrite s g a c v then bump cGlbLockedWrite 0 s else s
    let b := (blockOf a).1
    let o := (blockOf a).2
    let s2 :=
      if b = 4 ∧ o % 0x400 = 0 then
        fhLoop (o / 0x400) (v.extractLsb' 1 2) (s1.setReg a (merged s1 a (if unlocked s1 g then c.rwl else 0) v))
      else if b = 5 ∧ o % 0x400 = 0 then
        anaLoop (o / 0x400) (v.extractLsb' 6 2) (s1.setReg a (merged s1 a (if unlocked s1 g then c.rwl else 0) v))
      else if c.view then writeEffect g a v s1
      else writeEffect g a v (settle' g a c v s1)
    refreshCfg b s2

/-- A 32-bit write of `v` to the control-space address `a` by agent `g` (R489). -/
def writeReg (g : Agent) (a : Nat) (v : Word) (s : State) : State :=
  if a % 4 ≠ 0 then bump cGlbBadAccess 0 s
  else match placeAt a with
    | .none => bump cGlbBadAccess 0 s
    | .card c => if islandHeld s a then s else writeCard g a c v s
    | _ => s

end Sys2Proof.Machine
end

