-- ==== Sys2Proof/Machine/Start.lean ====
section
/-! DEFINITION. The start sequencer from the reset pins to the end of P6 (02_start_up.md, R51 to R86; R292, R293, R329, R335, R409,
R431, R504). The records of an image stand in Records.lean. -/

namespace Sys2Proof.Machine

open Host

/-! ### Halting and falling back (R55, R77, R85) -/

/-- The device halts with a failure code: every engine is held in reset, and the outputs are as in P0 (R55, R85). -/
def halt (code : Nat) (s : State) : State :=
  { s with
    start.phase := .halted
    start.failCode := code
    start.waiting := none
    msys.engines := s.msys.engines.map fun x => (x.1, { x.2 with running := false })
    pins.ready := false
    pins.ethOn := false }

/-- The islands but Always-on, and Memory while it is kept trained, are reset for the second image; what the failed one wrote to DRAM is
discarded: where DRAM was retained, it is again what it was before the main section was applied (R77). A channel that is lost stays so with
the Memory island (R464). -/
def fallReset (keep : Bool) (s : State) : State :=
  let dram := s.start.retained
  let old := s.before.getD ⟨s.mem, s.tables, s.fwd⟩
  { ({} : State) with
    regs := s.regs.filter fun x => keptRegister x.1 || (keep && (blockOf x.1).1 == 20)
    tables := if dram then old.tables.filter fun x => x.1 / 2 ^ 32 == tSchCell else []
    mem := if dram then old.mem.filter fun x => decide (dramBase ≤ x.1) else []
    start := s.start
    clock := if s.start.warm then { s.clock with warmRate := some (s.clock.warmRate.getD (rateNow s)) } else {}
    hlt := { s.hlt.retain dram with ddrOne := keep && s.hlt.ddrOne }
    evr := s.evr
    jrn := s.jrn.retain dram
    dl := s.dl.retain dram
    fwd := old.fwd.retain dram
    pair := { partnerLow := s.pair.partnerLow, partnerHighAt := s.pair.partnerHighAt }
    straits := alwaysOnStraits s
    upd := s.upd.retain dram
    camps := if dram then s.camps else []
    prog := if dram then s.prog else []
    key := { root := s.key.root, devKek := s.key.devKek }
    flash := s.flash
    msys := if keep then { chA := s.msys.chA, chB := s.msys.chB } else {}
    sent := s.sent
    free := s.free
    pending := s.pending }

/-- The image under way fails with `code`: the second candidate is checked, or the device halts (R77). BOOT_STATUS_PREV keeps the code of
the first image (R85). -/
def imageFail (code : Nat) (s : State) : State := match s.start.second with
  | none => halt code (if s.start.slot = s.start.prevSlot then { s with start.prevFail := code } else s)
  | some b =>
    let s1 : State := { s with
      start.failCode := code
      start.prevFail := code
      start.slot := b
      start.second := none
      start.image := none
      start.confirmed := false
      start.waiting := none
      start.notes := [] }
    if s.start.phase = .p3 then s1
    else
      let keep := s.start.phase != .p4
      let s2 := fallReset keep s1
      refreshCfg 3 (releaseIslands { s2 with
        start.phase := .p3
        start.kept := keep
        start.pllLost := 0 })

/-! ### What each start reads from flash (R293, R329, R409) -/

/-- The plaintext that stands for a key whose record holds none. -/
def noPlain (r : KeyRec) : KeyPlain := ⟨r.cls, 0, 0, r.id, r.gen, true, 0, 0⟩

/-- The winner of a key takes effect in the vault: a key, or its revocation or retirement, or a counter ceiling (R293). -/
def loadRec (r : KeyRec) (s : State) : State :=
  if r.kind = 2 ∨ r.kind = 3 then
    let k : VKey := ⟨noPlain r, r.gen, if r.kind = 2 then .revoked else .retired, r.parent, r.gen⟩
    { s with key.keys := aput s.key.keys (keyNo r.cls r.id) k }
  else
    let s1 := applyRec r s
    if r.kind ≠ 4 then s1
    else if r.cls = 9 then s1
    else setGroupTx r.id r.value r.value s1

/-- A copy that lacks the winner `r` has it appended, and the repair is counted (R293). -/
def repairCopy (b : Bool) (r : KeyRec) (s : State) : State :=
  let j := journalOf s b
  if j.lost || j.records.any (fun x => x.complete && sameKey x r && !newerRec r x) then s
  else bump cKeyJournalRepair 0 (journalAppend b r s)

/-- A key journal copy whose flash device cannot be read is lost (R293). -/
def copyState (b lost : Bool) (s : State) : State :=
  let s1 : State := if b then { s with flash.jrnB.lost := lost } else { s with flash.jrnA.lost := lost }
  if lost then degraded 15 (if b then 15 else 14) 0xF0 4 s1
  else bumpBy cKeyJournalCrc 0 ((journalOf s b).records.filter fun r => !r.complete).length s1

/-- The records of the copies that can be read. -/
def readableRecords (s : State) : List KeyRec :=
  (if s.flash.jrnA.lost then [] else s.flash.jrnA.records) ++ (if s.flash.jrnB.lost then [] else s.flash.jrnB.records)

/-- The vault reads both key journal copies, repairs them and takes the winners, key-encryption keys first (R293). -/
def keyStart (s : State) : State :=
  let s1 := copyState true s.start.errB (copyState false s.start.errA s)
  let w := newest (readableRecords s1)
  let s2 := w.foldl (fun s r => repairCopy true r (repairCopy false r s)) s1
  (w.filter (fun r => r.cls == 4) ++ w.filter fun r => r.cls != 4).foldl (fun s r => loadRec r s) s2

/-- Without retained DRAM the journal resumes at its ceiling, and hash seeds are drawn (R329, R335). -/
def coldStart (s : State) : State :=
  let n := s.flash.jsnCeiling.getD 1
  { s with
    jrn.nextJsn := n
    jrn.ackJsn := n - 1
    jrn.sentTo := n - 1
    fwd.seeds := (Config.random s.free, Config.random (s.free + 1))
    free := s.free + 2 }

/-- The update manager reads both staging headers: the devices that answer are in use. Where both headers are good but different, the one on CS0
wins and the other region is erased and rewritten; a region without a header, too, is written anew. Without a good header the own update is in
state NONE, and else in the one that the later STATE word marks (R409, R411). -/
def stagingStart (s : State) : State :=
  let a := !s.start.errA
  let b := !s.start.errB
  let m := ((if a then s.upd.headA else none).orElse fun _ => if b then s.upd.headB else none)
  let sameA := s.upd.headA == m
  let sameB := s.upd.headB == m
  let u : Upd := { s.upd with
    okA := a
    okB := b
    manifest := m
    headA := if a then m else s.upd.headA
    wordA := if a && !sameA then 0xFFFFFFFF else s.upd.wordA
    heldA := if a && !sameA then [] else s.upd.heldA
    cipherA := if a && !sameA then [] else s.upd.cipherA
    headB := if b then m else s.upd.headB
    wordB := if b && !sameB then 0xFFFFFFFF else s.upd.wordB
    heldB := if b && !sameB then [] else s.upd.heldB
    cipherB := if b && !sameB then [] else s.upd.cipherB }
  let s1 : State := { s with upd := u }
  { s1 with upd.state := if m.isNone then .none else stateOfWord (stagingWord s1) }

/-- The islands of the phase leave reset, and what waited for them crosses its straits (R35, R51). -/
def openIslands (s : State) : State := straitsRun (releaseIslands s)

/-! ### The ends of P4 to P6 (R51, R71, R77, R431) -/

/-- The engines that may start: every one but the shadow of a checked pair (R433). -/
def engines (s : State) : List Nat := (List.range 12).filter fun e => !shadow s e

/-- P6 ends once every engine has set its bit, the shadow's bit together with its partner's (R51, R431). -/
def p6Advance (s : State) : State :=
  if s.start.phase = .p6 ∧ s.fld rBootEngineReady 0 12 = 0xFFF then p7Check { s with start.phase := .p7 } else s

/-- P6 begins: BOOT_ENGINE_READY is cleared, and the engines leave reset (R86, R431). -/
def enterP6 (s : State) : State :=
  let s1 : State := { s.setReg rBootEngineReady 0 with start.phase := .p6 }
  p6Advance ((engines s).foldl (fun s e => releaseEngine e s) s1)

/-- The records of the image: those of the early section, and both sections'. -/
def earlyCount (s : State) : Nat := (s.start.image.map fun h => h.earlyCount).getD 0

/-- The records of both sections. -/
def recordCount (s : State) : Nat := (s.start.image.map fun h => h.earlyCount + h.mainCount).getD 0

/-- The last record has completed: nothing is polled, and no KEY_BLOB waits for its journals. -/
def recordsIdle (s : State) : Bool := s.start.waiting.isNone && !(s.key.jobs.any fun j => j.cause == .blob)

/-- P5 ends once the last record of the main section has been applied and every island works (R51, R87). -/
def p5Advance (s : State) : State :=
  if s.start.phase = .p5 ∧ recordCount s ≤ s.start.record ∧ recordsIdle s ∧ s.start.islands = 0xFF then enterP6 s else s

/-- What the main section of a first image may not spoil (R77). -/
def saveBefore (s : State) : State :=
  if s.start.retained && s.start.second.isSome then { s with before := some ⟨s.mem, s.tables, s.fwd⟩ } else { s with before := none }

/-- P5 begins: the remaining islands leave reset; device time runs on from the end of P4 (R51, R236). -/
def enterP5 (s0 : State) : State :=
  let s := saveBefore s0
  let s1 := openIslands { s with
    start.phase := .p5
    start.selfRefresh := false
    clock.running := true
    clock.warmRate := none }
  let s2 := stagingStart (keyStart s1)
  p5Advance (if s2.start.retained then s2 else coldStart s2)

/-- The fields of MEM_CTRL on which training depends: RATE, RANKS, WIDTH and DENSITY (R77). -/
def trainFields (s : State) : Nat := s.fld rMemCtrl 0 7

/-- P4 of a second image that leaves those fields alone is not repeated; otherwise the Memory island is reset and trains in full (R77). -/
def p4Advance (s : State) : State :=
  if s.start.phase = .p4 ∧ s.start.kept ∧ earlyCount s ≤ s.start.record ∧ s.start.waiting.isNone then
    if trainFields s = s.start.trainCfg then enterP5 s
    else { s with
      start.kept := false
      start.ddrA := false
      start.ddrB := false
      hlt.ddrOne := false
      msys.chA := {}
      msys.chB := {} }
  else s

/-- A register polled by a WAIT_UNTIL holds its value: the record is done (R73). -/
def pollWait (s : State) : State := match s.start.waiting with
  | none => s
  | some w =>
    if regShown s w.address.toNat &&& w.mask = w.value then { s with
      start.waiting := none
      start.record := s.start.record + 1 }
    else s

/-- What has become due in the start meanwhile. -/
def startPoll (s : State) : State := p6Advance (p5Advance (p4Advance (pollWait s)))

/-- Nothing happens in the start: power-on reset, a reset in hand, or a device held in it. -/
def startStill (s : State) : Bool := s.start.porstLow || s.start.resetting || s.start.held || s.start.zeroising

/-! ### The reset pins (R51, R81, R83, R504) -/

/-- The power-on reset begins: the own token line is released with everything else (R83, R367). -/
def powerDown (s : State) : State :=
  powerReset (if s.pair.driving then s.out (.tokenLine false) else s)

/-- The power-on reset ends once neither PORST_N nor VDD_AO asks for it: P0 begins (R51). -/
def powerUp (s : State) : State :=
  if s.start.pinLow || s.start.aoLow || !s.start.porstLow then s
  else { s with
    start.porstLow := false
    start.phase := .p0
    start.islands := 1 }

/-- PORST_N_RISE: the rising edge of PORST_N starts P0 of a cold start (R51). -/
def execPorstNRise (t : Time) (s : State) : Outcome State Fault Refusal :=
  onInst true (powerUp { s.arrive t with start.pinLow := false })

/-- PORST_N_FALL: every island resets and nothing is retained (R83). -/
def execPorstNFall (t : Time) (s : State) : Outcome State Fault Refusal :=
  onInst true (powerDown { s.arrive t with start.pinLow := true })

/-- VDD_AO_LOW: below 0.70 V the Always-on island holds itself in reset as if PORST_N were low (R504). -/
def execVddAoLow (t : Time) (s : State) : Outcome State Fault Refusal :=
  onInst true (powerDown { s.arrive t with start.aoLow := true })

/-- VDD_AO_RESTORED: the Always-on island holds itself in reset no longer (R504). -/
def execVddAoRestored (t : Time) (s : State) : Outcome State Fault Refusal :=
  onInst true (powerUp { s.arrive t with start.aoLow := false })

/-- A zeroised device needs PORST_N to start again (R296). -/
def needsPower (s : State) : Bool := s.key.zeroised

/-- WARMRST_N_FALL: steps 1 and 2 of R81. In a freeze the token is already released and the candidates are lost with it (R309, R480). -/
def execWarmrstNFall (t : Time) (s : State) : Outcome State Fault Refusal :=
  onInst true <|
    let s := { s.arrive t with start.warmLow := true }
    if startStill s || needsPower s then s
    else if s.hlt.frozen then { s with start.resetting := true }
    else warmEnter s

/-- WARM_RESET_DRAIN_DONE: both channels hold the staging contents and are in self-refresh; every island but Always-on is reset
(steps 3 to 5 of R81). -/
def execWarmResetDrainDone (t : Time) (s : State) : Outcome State Fault Refusal :=
  onInst true <|
    let s := s.arrive t
    if s.start.resetting && !s.start.porstLow then resetDone { s with start.drained := true } else s

/-- WARMRST_N_RISE: the internal reset ends, at once or when step 4 is complete (R81). -/
def execWarmrstNRise (t : Time) (s : State) : Outcome State Fault Refusal :=
  onInst true (leaveReset { s.arrive t with start.warmLow := false })

/-! ### P0 to P2 (R51, R57 to R62) -/

/-- REFCLK_STABLE: REFCLK has been counted stable; the straps are latched, once after power-on, and P0 ends (R51, R57). -/
def execRefclkStable (t : Time) (pairRole : Bool) (bootSel : BitVec 2) (s : State) : Outcome State Fault Refusal :=
  onInst true <|
    let s := s.arrive t
    if startStill s || s.start.phase != .p0 then s
    else if s.start.straps then { s with
      start.refOk := true
      start.phase := .p1 }
    else { s with
      start.refOk := true
      start.straps := true
      start.pairRole := pairRole
      start.bootSel := bootSel
      start.phase := .p1 }

/-- FUSE_LOAD_DONE: the fuse array is in the shadow; corrected words are counted, and a double-bit error halts the start (R59). Words 129
to 131 carry no check. -/
def execFuseLoadDone (t : Time) (single : List Nat) (double : Bool) (s : State) : Outcome State Fault Refusal :=
  onInst true <|
    let s := s.arrive t
    if startStill s || s.start.phase != .p1 then s
    else
      let s1 := bumpBy cFuseCorrected 0 (single.filter fun w => decide (w < 129 ∨ 131 < w ∧ w < 256)).length s
      if double then halt 0x01 s1
      else openIslands { s1 with
        start.shadow := s.start.fuses
        start.fuseLoaded := true
        start.pufTries := 0
        start.phase := .p2 }

/-- The header of slot `b`, where it can be read and passes check 1: the slot is a candidate (R77). In recovery only slot A is one. -/
def candidateOf (s : State) (b : Bool) : Option ImageHdr :=
  if s.start.bootSel = 2 ∧ b then none
  else match slotRead s b with
    | .read h _ _ => if magicOk h then some h else none
    | .failed => none

/-- SELECT of R77: the candidates in order of GENERATION, A before B on a tie. -/
def selectImage (s : State) : State :=
  let errA := slotRead s false == .failed
  let errB := s.start.bootSel != 2 && slotRead s true == .failed
  let s1 : State := { s with
    start.phase := .p3
    start.errA := errA
    start.errB := errB
    start.readErr := errA || errB
    start.otherEmpty := false
    start.fallback := false
    start.prevFail := 0
    start.failRecord := 0xFFFFFFFF
    start.image := none
    start.confirmed := false
    start.kept := false
    start.second := none }
  match candidateOf s false, candidateOf s true with
  | none, none => halt 0x10 (openIslands s1)
  | some _, none => { s1 with start.slot := false, start.prevSlot := false, start.otherEmpty := true }
  | none, some _ => { s1 with start.slot := true, start.prevSlot := true, start.otherEmpty := true }
  | some a, some b =>
    let first := decide (a.generation < b.generation)
    { s1 with start.slot := first, start.prevSlot := first, start.second := some (!first) }

/-- P2 ends: the device stops in HOLD for provisioning, or selects an image (R57, R60). -/
def endP2 (s : State) : State :=
  if (fuseWord s 129).toNat % 16 = 0 then openIslands { s with start.phase := .hold, start.failCode := 0x03 }
  else if s.start.bootSel = 3 then openIslands { s with start.phase := .hold }
  else openIslands (selectImage s)

/-- PUF_ATTEMPT_DONE: the root is rebuilt; where SHA-256 of it matches PUF_CHECK the vault derives the device-own keys, or another attempt
follows, and the third failure halts the start (R61, R62, R269). The operands give the root that the PUF yields and what the two slots' headers
and status sectors then read as; bits that the device has programmed are read so (R68). -/
def execPufAttemptDone (t : Time) (root : BitVec 256) (slotA slotB : SlotRead) (s : State) : Outcome State Fault Refusal :=
  onInst true <|
    let s := s.arrive t
    if startStill s || s.start.phase != .p2 || !s.islandUp 5 then s
    else if pufCheck root ≠ fuseWord s 96 then
      let s1 := bump cBootPufRetry 0 { s with start.pufTries := s.start.pufTries + 1 }
      if 3 ≤ s1.start.pufTries then halt 0x02 s1 else s1
    else endP2 { s with
      start.devpub := publicOf (transportKey (serialOf s) root)
      start.slotA := heldSlot s.flash.statusA slotA
      start.slotB := heldSlot s.flash.statusB slotB
      flash.statusA := heldStatus s.flash.statusA slotA
      flash.statusB := heldStatus s.flash.statusB slotB
      key.root := some root
      key.devKek := some (deviceKek (serialOf s) root) }

/-! ### P3: the checks of an image (R68, R76) -/

/-- The bits of ATTEMPTS at 0 (R68). -/
def attemptsUsed (w : Word) : Nat := 32 - onesOf w 32

/-- Check 6 of R76: confirmed, or attempts left and BOOT_SEL not 0b01; a recovery start does not look at attempts (R57, R68). -/
def attemptsOk (s : State) (confirm attempts : Word) : Bool :=
  confirm == 0 || s.start.bootSel == 2 || (s.start.bootSel != 1 && decide (attemptsUsed attempts < 3))

/-- What P3 finds of the image in the slot under way: the failure code of the first check that fails (R76). -/
def imageCheck (s : State) (h : ImageHdr) (confirm attempts : Word) (keyHashOk signatureOk : Bool) (readError : Option Nat)
    (flashSize oldest : Nat) : Option Nat :=
  firstFail readError 1 [(0x10, magicOk h), (0x11, headerOk h flashSize), (0x12, keySlotLive s h.keySlot && keyHashOk),
    (0x13, signatureOk), (0x14, decide (rollbackCount s ≤ h.securityVersion)), (0x15, attemptsOk s confirm attempts),
    (0x17, decide (h.persistFormatMin ≤ oldest))]

/-- The image is valid: an unconfirmed one uses an attempt in a normal start, and P4 begins with its early section (R68, R71, R77). -/
def imageStart (h : ImageHdr) (confirm attempts : Word) (s : State) : State :=
  let uses := confirm != 0 && (s.start.bootSel == 0 || s.start.bootSel == 1)
  let s1 := if uses then setStatus s.start.slot h confirm (attempts &&& (attempts - 1)) s else s
  p4Advance (refreshCfg 3 (openIslands { s1 with
    start.image := some h
    flash.reclaimed := min s.flash.reclaimed h.persistFormat
    start.confirmed := confirm == 0
    start.fallback := s.start.prevFail != 0
    start.record := 0
    start.phase := .p4 }))

/-- IMAGE_CHECK_DONE: the checks of one image end (R76, R77). No area of a reclaimed format is left to be found (R78, R80). -/
def execImageCheckDone (t : Time) (keyHashOk signatureOk : Bool) (readError : Option Nat) (flashSize oldest newest : Nat)
    (s : State) : Outcome State Fault Refusal :=
  onInst true <|
    let s := s.arrive t
    if startStill s || s.start.phase != .p3 || !s.islandUp 3 then s
    else match slotRead s s.start.slot with
      | .failed => imageFail 0x16 s
      | .read h confirm attempts =>
        let old := max oldest s.flash.reclaimed
        let s1 : State := { s with
          start.persistOld := old
          start.persistNew := newest
          start.flashSize := flashSize }
        match imageCheck s h confirm attempts keyHashOk signatureOk readError flashSize old with
        | some code => imageFail code s1
        | none => imageStart h confirm attempts s1

/-! ### P4: DDR5 training (R84, R441, R464) -/

/-- A channel after training. -/
def trainedCh (ok : Bool) (cap : Nat) : DdrCh := { ok := ok, cap := if ok then cap else 0, trained := ok }

/-- One channel is lost: failure code DDR_TRAIN_ONE, a DEGRADED error and HLT_ALERT (R84, R464, R496). -/
def trainOne (chB : Bool) (s : State) : State :=
  degraded 20 chB.toNat 0xF0 4 { s with
    start.failCode := 0x20
    hlt.ddrOne := true }

/-- DDR_TRAIN_DONE: both channels trained, one lost, or both lost (R84). -/
def execDdrTrainDone (t : Time) (okA okB : Bool) (capA capB : Nat) (s : State) : Outcome State Fault Refusal :=
  onInst true <|
    let s := pollWait (s.arrive t)
    if startStill s || s.start.phase != .p4 || s.start.kept || !s.islandUp 6 || decide (s.start.record < earlyCount s) ||
      s.start.waiting.isSome then s
    else
      let s1 : State := { s with
        msys.chA := trainedCh okA capA
        msys.chB := trainedCh okB capB
        start.ddrA := okA
        start.ddrB := okB
        start.trainCfg := trainFields s
        start.savedTrain := s.start.savedTrain || okA || okB }
      if !okA && !okB then halt 0x21 s1
      else enterP5 (refreshCfg 20 (if okA && okB then s1 else trainOne okA s1))

/-! ### P6 (R86, R431) and the bounds (R51, R87) -/

/-- Engine `e` sets its bit in BOOT_ENGINE_READY; the shadow of a checked pair is set with its partner (R431). -/
def engineReady (e : Nat) (s : State) : State :=
  s.setReg rBootEngineReady (s.reg rBootEngineReady ||| BitVec.ofNat 32 (bitsOf (coreAndShadow s e) fun _ => true))

/-- BOOT_ENGINE_READY_WRITE: an engine that has started writes its bit (R86, R431). -/
def execBootEngineReadyWrite (t : Time) (e : Nat) (s : State) : Outcome State Fault Refusal :=
  onInst (e < 12) <|
    let s := startPoll (s.arrive t)
    if startStill s || s.hlt.frozen || !(s.engine e).running then s else p6Advance (engineReady e s)

/-- ENGINE_TIMEOUT: the bound of P6 expires before every engine is ready (R431). -/
def execEngineTimeout (t : Time) (s : State) : Outcome State Fault Refusal :=
  onInst true <|
    let s := startPoll (s.arrive t)
    if !startStill s && s.start.phase == .p6 then imageFail 0x40 s else s

/-- The failure code of a phase that does not end within its bound (R73, R85, R87). P0, P7 and P8 have none. -/
def boundFail (s : State) : State := match s.start.phase with
  | .p1 => halt 0x01 s
  | .p2 => halt 0x02 s
  | .p3 => imageFail 0x16 s
  | .p4 => if s.start.waiting.isSome then imageFail 0x32 { s with start.failRecord := BitVec.ofNat 32 s.start.record } else halt 0x21 s
  | .p5 => imageFail 0x32 (if s.start.waiting.isSome then { s with start.failRecord := BitVec.ofNat 32 s.start.record } else s)
  | .p6 => imageFail 0x40 s
  | _ => s

/-- PHASE_BOUND_EXPIRE: a phase does not end within its bound (R51, R87). -/
def execPhaseBoundExpire (t : Time) (s : State) : Outcome State Fault Refusal :=
  onInst true <|
    let s := startPoll (s.arrive t)
    if startStill s then s else boundFail s

end Sys2Proof.Machine
end

