-- ==== Sys2Proof/Machine/Records.lean ====
section
/-! DEFINITION. The records of the configuration image (02_start_up.md, R71 to R79; the tables of every chapter, R248, R343, R344,
R349; KEY_BLOB against the key journal, R75). -/

namespace Sys2Proof.Machine

open Host

/-! ### One record (R71 to R73) -/

/-- A record may be applied now: the one before it has completed, and its section has one left (R71). -/
def recordDue (s : State) : Bool :=
  recordsIdle s && ((s.start.phase == .p4 && decide (s.start.record < earlyCount s)) ||
    (s.start.phase == .p5 && decide (s.start.record < recordCount s)))

/-- The record under way has completed, unless it polls; a section that is done ends its phase. -/
def recordDone (s : State) : State :=
  if s.start.waiting.isSome then s
  else p5Advance (p4Advance { s with start.record := s.start.record + 1 })

/-- The record under way fails the image with `code` (R73, R77). -/
def recordFail (code : Nat) (s : State) : State :=
  imageFail code { s with start.failRecord := BitVec.ofNat 32 s.start.record }

/-- A record is skipped and counted (R72, R75). -/
def recordSkip (s : State) : State := recordDone (bump cBootRecSkip 0 s)

/-- The early section may hold only REG_WRITE, REG_FIELD, WAIT_UNTIL and CHECK (R71). -/
def earlyType (n : Nat) : Bool := n == 1 || n == 2 || n == 6 || n == 7

/-- The record of TYPE `own` with header `h` is met; `f` gives a failure code or what the record leaves. A TYPE that the loader does not
know is skipped if OPTIONAL; a COLD_ONLY record is skipped at a warm start, a KEY_BLOB never (R72, R73, R75, R82). -/
def record (own : Nat) (h : RecHdr) (f : State → Option Nat × State) (s0 : State) : State :=
  let s := startPoll s0
  if startStill s || !recordDue s || (decide (1 ≤ h.type ∧ h.type ≤ 8) && h.type != own) then s
  else if !h.inside || !h.sameHash then recordFail 0x30 s
  else if h.type = 0 ∨ 8 < h.type then (if h.optional then recordSkip s else recordFail 0x30 s)
  else if !h.bodyOk then recordFail 0x30 s
  else if s.start.phase == .p4 && !earlyType own then recordFail 0x30 s
  else if h.coldOnly && s.start.warm && own != 5 then recordSkip s
  else match f s with
    | (some code, s1) => recordFail code s1
    | (none, s1) => recordDone s1

/-! ### Registers (R73) -/

/-- The blocks that a record of the section under way may address (R71). -/
def sectionBlock (s : State) (a : Nat) : Bool :=
  inControl a && (s.start.phase != .p4 || [0, 3, 20].contains (blockOf a).1)

/-- A record may write to `a`: the register there is not RO, ROS or WO. An offset without a register is left to R489. -/
def writable (s : State) (a : Nat) : Bool := sectionBlock s a && (a % 4 != 0 || match placeAt a with
  | .card c => c.rwl + c.rw != 0
  | .none => true
  | _ => false)

/-- Write every value in order, up to the first address that may not be written. -/
def writeAll : List (Word × Word) → State → Option Nat × State
  | [], s => (none, s)
  | x :: r, s => if writable s x.1.toNat then writeAll r (writeReg .loader x.1.toNat x.2 s) else (some 0x31, s)

/-- REG_WRITE: writes each VALUE to its register in order (R73). -/
def execRegWrite (t : Time) (h : RecHdr) (writes : List (Word × Word)) (s : State) : Outcome State Fault Refusal :=
  onInst true (record 1 h (writeAll writes) (s.arrive t))

/-- REG_FIELD: replaces the bits of MASK (R73). -/
def execRegField (t : Time) (h : RecHdr) (address mask value : Word) (s : State) : Outcome State Fault Refusal :=
  onInst true (record 2 h (fun s =>
    writeAll [(address, (regShown s address.toNat &&& ~~~mask) ||| (value &&& mask))] s) (s.arrive t))

/-- WAIT_UNTIL: polls a register until it holds VALUE under MASK (R73). DESIGN CHOICE: an ADDRESS outside the 25 blocks fails with
REC_ADDRESS in the main section too, where R73 gives no code (see the log). -/
def execWaitUntil (t : Time) (h : RecHdr) (address mask value : Word) (timeout : Nat) (s : State) : Outcome State Fault Refusal :=
  onInst true (record 6 h (fun s =>
    if !sectionBlock s address.toNat then (some 0x31, s)
    else if regShown s address.toNat &&& mask = value then (none, s)
    else (none, { s with start.waiting := some ⟨address, mask, value, s.clock.now + us timeout⟩ })) (s.arrive t))

/-- WAIT_UNTIL_TIMEOUT: the polling reaches TIMEOUT, or the bound of its phase (R73). -/
def execWaitUntilTimeout (t : Time) (s : State) : Outcome State Fault Refusal :=
  onInst true <|
    let s := startPoll (s.arrive t)
    if startStill s || s.start.waiting.isNone then s else recordFail 0x32 s

/-- The comparisons of CHECK; none for an OP above 3 (R73). -/
def checkHolds (op : Nat) (a b : Word) : Option Bool := match op with
  | 0 => some (a == b)
  | 1 => some (a != b)
  | 2 => some (decide (a ≤ b))
  | 3 => some (decide (b ≤ a))
  | _ => none

/-- CHECK: fails the image unless the comparison holds (R73). DESIGN CHOICE: an ADDRESS outside the 25 blocks fails with REC_ADDRESS, as for
WAIT_UNTIL (see the log). -/
def execCheck (t : Time) (h : RecHdr) (address mask value : Word) (op : Nat) (s : State) : Outcome State Fault Refusal :=
  onInst true (record 7 h (fun s =>
    if 3 < op then (some 0x30, s)
    else if !sectionBlock s address.toNat then (some 0x31, s)
    else
      let r := readAs .loader address.toNat s
      if checkHolds op (r.1 &&& mask) value = some true then (none, r.2) else (some 0x33, r.2)) (s.arrive t))

/-! ### Memory (R73, R427, R429) -/

/-- Where a MEM_LOAD puts its data: a failure code, or the physical address (R73). -/
def loadPlace (s : State) (target index address n : Nat) : Nat ⊕ Nat :=
  if 3 ≤ target ∨ (target ≠ 1 ∧ index ≠ 0) then .inl 0x30
  else if target = 0 then (if inDram s address n then .inr (dramBase + address) else .inl 0x31)
  else if target = 1 then
    (if 7 < index ∨ 0x40000 < address + n then .inl 0x31 else .inr (0x20000000 + index * 0x100000 + address))
  else if sramSize s < address + n then .inl 0x31
  else .inr (0x10000000 + address)

/-- MEM_LOAD: copies data to DRAM, a protocol engine's local memory or the L2 SRAM window (R73). -/
def execMemLoad (t : Time) (h : RecHdr) (target index address : Nat) (data : List Byte) (s : State) : Outcome State Fault Refusal :=
  onInst true (record 3 h (fun s => match loadPlace s target index address data.length with
    | .inl code => (some code, s)
    | .inr a => (none, s.setBytes a data)) (s.arrive t))

/-! ### Tables (R73, R248, R343, R344, R349) -/

/-- Write consecutive entries of a table. -/
def setEntries (id : Nat) : Nat → List Nat → State → State
  | _, [], s => s
  | i, e :: r, s => setEntries id (i + 1) r (s.setEntry id i e)

/-- The values of `l` never fall. -/
def notFalling : List Nat → Bool
  | a :: b :: r => decide (a ≤ b) && notFalling (b :: r)
  | _ => true

/-- The cells in use of each slotframe stand in non-decreasing SLOT_OFFSET (R248). -/
def cellsOrdered (s : State) : Bool :=
  (List.range 32).all fun f =>
    notFalling ((s.entries tSchCell).filterMap fun x =>
      let c := cellOf x.2
      if c.kind != 0 && c.slotframe == f then some c.offset else none)

/-- How many leading bits of the 128-bit mask `m` are ones, if no other bit is (R343). -/
def maskLength (m : Nat) : Option Nat := (List.range 129).find? fun n => m == 2 ^ 128 - 2 ^ (128 - n)

/-- The prefix length of a TCAM entry, where its mask has the form of R343. -/
def tcamPrefix (e : Nat) : Option Nat :=
  let ipv4 := e / 2 ^ 316 % 16 == 2
  match maskLength (e / 2 ^ 32 % 2 ^ 128) with
  | none => none
  | some n => if !ipv4 then some n else if n < 96 then none else some (n - 96)

/-- Every loaded TCAM entry has a mask of R343, and the prefix lengths never rise. -/
def tcamOrdered (s : State) : Bool :=
  let l := (s.entries tFwdTcam).map fun x => tcamPrefix x.2
  l.all (fun x => x.isSome) && notFalling (l.map fun x => x.getD 0).reverse

/-- The trie's pool of 32,768 nodes holds every prefix (R344). -/
def trieFits (s : State) : Bool := decide (trieNodes ((s.entries tFwdTrie).map fun x => x.2) ≤ 32768)

/-- The owner of the table takes what has been loaded. -/
def tableTaken (id : Nat) (s : State) : Bool :=
  if id = tSchCell then cellsOrdered s else if id = tFwdTcam then tcamOrdered s else if id = tFwdTrie then trieFits s else true

/-- What a FWD_NODE entry sets in a node entry (R349). -/
def nodeFrom (e : Nat) (n : Node) : Node :=
  { n with
    role := e / 2 ^ 39 % 4
    static := e / 2 ^ 38 % 2 == 1
    pan := BitVec.ofNat 16 (e / 2 ^ 16)
    txPower := toSigned 8 (e / 2 ^ 8 % 256) }

/-- One FWD_NODE entry at position `i` creates or updates its node entry, or is refused (R333, R340, R349). -/
def nodeLoad (i e : Nat) (s : State) : Option State :=
  let eui : Eui := BitVec.ofNat 64 (e / 2 ^ 64)
  if e = 0 then some s
  else if e / 2 ^ 41 % 2 ^ 23 ≠ i then none
  else
    let s1 : State := { s with fwd.fixed := if s.fwd.fixed.contains i then s.fwd.fixed else i :: s.fwd.fixed }
    match s.indexOf eui, s.nodeAt i with
    | some j, _ => if j = i then some (s1.modNode i (nodeFrom e)) else none
    | none, some _ => none
    | none, none => (rebuildPlace s eui).map fun p => putNode i (nodeFrom e (freshNode s1 eui 0 p)) s1

/-- Consecutive FWD_NODE entries. -/
def nodesLoad : Nat → List Nat → State → Option State
  | _, [], s => some s
  | i, e :: r, s => (nodeLoad i e s).bind (nodesLoad (i + 1) r)

/-- The streams of every head after FH_POOL has been loaded: those of the analogue ports are valid at once (R105). -/
def poolLoaded (s : State) : State := (List.range 36).foldl (fun s h => refreshStreams h s) s

/-- What a TABLE_LOAD leaves, or REC_TABLE; BLOCK_CFG_ERR of the table's block is evaluated (R73, R493). -/
def tableLoad (id size first : Nat) (l : List Nat) (s : State) : Option Nat × State := match tableShape id with
  | none => (some 0x35, s)
  | some (n, count) =>
    if size ≠ n ∨ count < first + l.length then (some 0x35, s)
    else
      let l1 := l.map fun e => e % 2 ^ (8 * n)
      let s1 := setEntries id first l1 s
      if !tableTaken id s1 then (some 0x35, s)
      else match (if id = tFwdNode then nodesLoad first l1 s1 else some (if id = tFhPool then poolLoaded s1 else s1)) with
        | none => (some 0x35, s)
        | some s2 => (none, refreshCfg (id / 256) s2)

/-- TABLE_LOAD: writes entries into a hardware table, or its owner refuses them (R73). -/
def execTableLoad (t : Time) (h : RecHdr) (id size first : Nat) (l : List Nat) (s : State) : Outcome State Fault Refusal :=
  onInst true (record 4 h (tableLoad id size first l) (s.arrive t))

/-! ### Keys (R75) -/

/-- The winner of a key in the journals that can be read. -/
def winnerOf (s : State) (cls id : Nat) : Option KeyRec :=
  (newest (readableRecords s)).find? fun r => r.cls == cls && r.id == id && r.kind != 4

/-- What a KEY_BLOB of this plaintext comes to: a failure, a skip (none) or the record to install (R75). -/
def blobResult (s : State) (p : KeyPlain) : Option Nat ⊕ Option KeyRec :=
  let install : Option Nat ⊕ Option KeyRec := .inr (some (keyRec p 0))
  match winnerOf s p.cls p.id with
  | none => install
  | some r =>
    if r.gen < p.gen then install
    else if p.gen < r.gen ∨ r.plain = none ∨ r.plain = some p then .inr none
    else .inl (some 0x34)

/-- The plaintext of a KEY_BLOB: under the device KEK, or under the key that the ephemeral public key shares with the transport key (R75). -/
def blobPlain (s : State) (wrap : Nat) (ephemeral blob : BitVec 512) : Option KeyPlain :=
  if wrap = 0 then s.key.devKek.bind fun k => unwrapBlob k blob
  else s.key.root.bind fun r => (transportWrap (transportKey (serialOf s) r) ephemeral).bind fun k => unwrapBlob k blob

/-- KEY_BLOB: installs a persistent key, is skipped, or fails the image (R75). -/
def execKeyBlob (t : Time) (h : RecHdr) (cls wrap id : Nat) (ephemeral blob : BitVec 512) (s : State) : Outcome State Fault Refusal :=
  onInst true (record 5 h (fun s =>
    if 1 < wrap then (some 0x30, s)
    else match blobPlain s wrap ephemeral blob with
    | none => (some 0x34, s)
    | some p =>
      if !persistent cls || !keyIdOk cls id || p.cls != cls || p.id != id || !plainOk p 0 then (some 0x34, s)
      else match blobResult s p with
        | .inl c => (c, s)
        | .inr none => (none, bump cBootRecSkip 0 s)
        | .inr (some r) => (none, addJob .blob r s)) (s.arrive t))

/-! ### Persistent formats (R79) -/

/-- FORMAT_NOTE: declares a new area for a new format of a persistent region (R79). -/
def execFormatNote (t : Time) (h : RecHdr) (region oldFormat newFormat newOffset newLength oldOffset oldLength : Nat) (s : State) :
    Outcome State Fault Refusal :=
  onInst true (record 8 h (fun s =>
    let len := ((s.start.image.bind fun h => h.layout[region]?).map fun x => x.2).getD 0
    if (region = 1 ∨ region = 2 ∨ region = 3) ∧ newOffset + newLength ≤ len ∧
        (newOffset + newLength ≤ oldOffset ∨ oldOffset + oldLength ≤ newOffset) then
      (none, { s with start.notes := s.start.notes ++ [⟨region, oldFormat, newFormat, newOffset, newLength⟩] })
    else (some 0x30, s)) (s.arrive t))

end Sys2Proof.Machine
end

