-- ==== Sys2Proof/Machine/Service.lean ====
section
/-! DEFINITION. P7 to P9 and what the Always-on island does in service: link-up, release, clocks, fuses, zeroisation and register
writes (02_start_up.md, R60, R63, R65, R87; 11, R314; 14, R416; 10, R296; 17, R489). -/

namespace Sys2Proof.Machine

open Host

/-! ### P7 (R65) -/

/-- FH_LINKUP_TIMEOUT: P7 reaches 50 ms; each enabled port that is not up is counted once (R65). -/
def execFhLinkupTimeout (t : Time) (s : State) : Outcome State Fault Refusal :=
  onInst true <|
    let s := startPoll (s.arrive t)
    if startStill s || s.start.phase != .p7 || s.start.linkDone then s
    else endP7 (((List.range 32).filter fun p => s.fldAt rFhPortCtrl p 0 1 == 1 && (s.port p).state != .up).foldl
      (fun s p => bump cFhLinkupTimeout p s) s)

/-! ### Recovery of the journal (R284, R309, R314) -/

/-- One entry of the recovered ring: without a good copy, or never decided, it becomes VOID and keeps its JSN (R314). -/
def recoverEntry (bad : List Nat) (e : Entry) (s : State) : State :=
  if bad.contains e.hdr.jsn then bump cJrnRecoverBad 0 (voidEntry e.hdr.jsn s)
  else if e.state = .staged then voidEntry e.hdr.jsn s
  else s

/-- FC_HWM of the nodes is raised to the counters of the accepted entries (R284). -/
def recoverHwm (s : State) : State :=
  (s.jrn.entries.filter fun e => e.state == .accepted).foldl (fun s e => raiseHwm e.hdr.node e.hdr.counter e.hdr.digest s) s

/-- The ring is recovered at a warm start with RETAINED; `bad` names the entries with no good copy (R314). -/
def recover (bad : List Nat) (s : State) : State :=
  if !s.start.retained then s
  else
    let s1 := settleOwed s.jrn.tokenRel (s.jrn.entries.foldl (fun s e => recoverEntry bad e s) s)
    recoverHwm { s1 with jrn.nextJsn := s1.jrn.entries.foldl (fun n e => max n (e.hdr.jsn + 1)) (max s1.jrn.nextJsn (s1.jrn.ackJsn + 1)) }

/-! ### Release (R63, R77, R370, R416, R464, R496) -/

/-- What the start reports at release: a fall-back in HLT_ALERT, and slot headers that could not be read (R77, R464, R496). -/
def startReports (s : State) : State :=
  let s1 : State := { s with hlt.fallback := s.hlt.fallback || s.start.fallback }
  let s2 := if s.start.errA then degraded 19 0 0xF0 2 s1 else s1
  if s.start.errB then degraded 19 1 0xF0 2 s2 else s2

/-- An activation after its restart: a fall-back from the activated slot ends it REFUSED with staging VERIFIED; a new image runs
unconfirmed (R412, R416). -/
def activationStart (s : State) : State :=
  if s.upd.state ≠ .activated then s
  else if s.start.fallback && s.start.prevSlot == s.upd.target then
    let s1 := occurs eUpdFallback { s with upd.state := .verified }
    (match s.upd.act with
    | some a => if pairMode s then s1 else endItem a.dsn .refused { s1 with upd.act := none }
    | none => s1)
  else if s.start.confirmed || !(s.upd.manifest.any fun m => m.generation == imageGen s) then { s with upd.state := .verified }
  else s

/-- The role at P9 (R370): a solo device becomes active alone, and a chip that meets its partner's line low does not drive its own. -/
def releaseRole (s : State) : State :=
  if !pairMode s then raiseEpoch s.flash.epochCeiling { s with pair.state := .solo }
  else if s.pair.state = .active ∧ s.pair.partnerLow then detach s
  else s

/-- The chip serves: it holds the token and READY is high (R63); what the ring retains goes on (R314, R315, R319). -/
def serve (s : State) : State :=
  if s.leads then
    let s1 := serveActive (driveLine s)
    { (if s1.start.retained then resumeItems s1 else s1) with pins.ready := true }
  else if s.pair.state = .standby then { s with pins.ready := true }
  else s

/-- The device may be released: P7, and P8 where it is not skipped, have ended, and every island works (R51, R87). An EXCLUDED chip is
released too, with READY low (R370). -/
def releasable (s : State) : Bool :=
  s.start.linkDone && (s.start.phase == .p7 || s.start.phase == .p8) && s.start.islands == 0xFF

/-- RELEASE: at P9 the device locks RWL registers, enables Ethernet, takes the token if active or solo, sets grant and raises READY, once
the journal has been recovered (R63, R314). -/
def execRelease (t : Time) (badCopies : List Nat) (s : State) : Outcome State Fault Refusal :=
  onInst true <|
    let s := startPoll (s.arrive t)
    if startStill s || !releasable s then s
    else
      let s1 : State := { recover badCopies s with
        start.phase := .p9
        start.reachedP9 := true
        before := none
        hlt.armed := true
        sch.released := s.clock.now
        pins.ethOn := true }
      startReports (activationStart (serve (releaseRole s1)))

/-! ### Clocks (R87, R507) -/

/-- PLL_LOCK_LOSS: after P9 a clock generator that loses lock raises FATAL with the island as its ARG; before it the island's phase does not end (R87). -/
def execPllLockLoss (t : Time) (island : Nat) (s : State) : Outcome State Fault Refusal :=
  onInst (decide (1 ≤ island ∧ island ≤ 7)) <|
    let s := s.arrive t
    if s.start.porstLow then s
    else
      let s1 : State := { s with start.pllLost := s.start.pllLost ||| BitVec.ofNat 8 (2 ^ island) }
      if s.start.phase = .p9 then raiseFatal ⟨1, 3 * 2048, 0xFF, island⟩ s1 else s1

/-- The fronthaul ports that SDSCLK input `k` serves (R507). -/
def sdsPorts (k : Nat) : List Nat := if k < 2 then (List.range 16).map fun p => 16 * k + p else []

/-- SDSCLK_LOSS: an input stops toggling. After release a loss of an enabled one is a DEGRADED error, and the ports it serves lose
block lock and leave UP (R87, R103). -/
def execSdsclkLoss (t : Time) (k : Nat) (s : State) : Outcome State Fault Refusal :=
  onInst (k < 4) <|
    let s := s.arrive t
    if s.start.sdsLost.getLsbD k then s
    else
      let s1 : State := { s with start.sdsLost := s.start.sdsLost ||| BitVec.ofNat 4 (2 ^ k) }
      if s.start.porstLow || s.start.phase != .p9 || s.fld rClkCtrl k 1 == 0 then s1
      else
        let s2 := (sdsPorts k).foldl (fun s p => blockLost p s) (degraded 3 0 cClkSdsLoss.code 2 (bump cClkSdsLoss 0 s1))
        if k = 2 ∧ s2.packetUp then choosePath { s2 with fry.links := 0 } else s2

/-- SDSCLK_RETURN: an input toggles again; before P9 an island that waited for it leaves reset (R87). -/
def execSdsclkReturn (t : Time) (k : Nat) (s : State) : Outcome State Fault Refusal :=
  onInst (k < 4) <|
    let s := s.arrive t
    let s1 : State := { s with start.sdsLost := s.start.sdsLost &&& ~~~ BitVec.ofNat 4 (2 ^ k) }
    if startStill s || s.start.phase == .p9 then s1 else startPoll (openIslands s1)

/-! ### Fuses (R58, R60, R417) -/

/-- FUSE_PROG_GO: programming of a ROLLBACK or KEY_HASH_REVOKE bit starts, or is refused and counted (R60). -/
def execFuseProgGo (t : Time) (a : Agent) (bit : Nat) (revoke : Bool) (s : State) : Outcome State Fault Refusal :=
  onInst (bit < 64) <|
    let s := s.arrive t
    if !reaches s a then s
    else fuseGo a bit revoke (s.setReg rFuseProg (BitVec.ofNat 32 (bit + revoke.toNat * 64)))

/-- FUSE_PROG_DONE: programming ends, and FUSE_STATUS shows it (R60). -/
def execFuseProgDone (t : Time) (s : State) : Outcome State Fault Refusal :=
  onInst true <|
    let s := s.arrive t
    match s.start.fuseBusy with
    | none => s
    | some (w, b) => blowFuse w (BitVec.ofNat 32 (2 ^ b)) { s with start.fuseBusy := none }

/-- A bit that R58 marks as programmed by the customer, and that KEYHASH_LOCK does not hold. -/
def jtagField (s : State) (w b : Nat) : Bool :=
  let locked := (fuseWord s 28).getLsbD 2
  (w == 28 && decide (b < 3)) || (decide (97 ≤ w ∧ w ≤ 128) && !locked) || (w == 129 && ((decide (b < 4) && !locked) || decide (4 ≤ b ∧ b < 8)))

/-- JTAG_FUSE_PROGRAM: in HOLD a field that is neither locked nor programmed; any other attempt is refused and counted (R60). DESIGN CHOICE:
'already programmed' is judged of the bit, so that the free bits of a partly programmed field can still be programmed (see the log). -/
def execJtagFuseProgram (t : Time) (w b : Nat) (s : State) : Outcome State Fault Refusal :=
  onInst (decide (w < 256) && decide (b < 32)) <|
    let s := s.arrive t
    if s.start.porstLow then s
    else if s.start.phase = .hold ∧ !s.start.zeroising ∧ jtagField s w b ∧ !(fuseWord s w).getLsbD b then
      blowFuse w (BitVec.ofNat 32 (2 ^ b)) s
    else bump cFuseProgRefuse 0 s

/-! ### Zeroisation (R296) -/

/-- JTAG_ZEROISE: a zeroising instruction is loaded and held while the vault zeroises the Key island (R296). -/
def execJtagZeroise (t : Time) (s : State) : Outcome State Fault Refusal :=
  onInst true <|
    let s := s.arrive t
    if s.start.porstLow then s else { s with start.zeroising := true }

/-- ZEROISE_DONE: nothing of the Key island is left; from P9 FATAL with cause KEY_ZEROISE, before it HALTED (R296). -/
def execZeroiseDone (t : Time) (s : State) : Outcome State Fault Refusal :=
  onInst true <|
    let s := s.arrive t
    if !s.start.zeroising then s
    else
      let s1 : State := { s with
        start.zeroising := false
        start.devpub := 0
        key := { zeroised := true } }
      if s.start.phase = .p9 then fatalBy 6 (15 * 2048) s1
      else halt 0x04 { s1 with
        start.resetting := false
        start.held := false }

/-! ### Register writes (R489) -/

/-- REGISTER_WRITE: a write takes effect as the card says, or is ignored and counted under the access rules; BLOCK_CFG_ERR is evaluated
again (R489, R493); one of fewer than 4 octets is ignored and counted. A write to a register whose command bits have rows of their own does what those rows do. -/
def execRegisterWrite (t : Time) (g : Agent) (a v : Word) (n : Nat) (s : State) : Outcome State Fault Refusal :=
  onInst (accessSize n) <|
    let s := startPoll (s.arrive t)
    if !reaches s g || !writes g || !inControl a.toNat then s
    else if n ≠ 4 then bump cGlbBadAccess 0 s
    else
      let s1 := writeReg g a.toNat v s
      if a.toNat = rBootEngineReady then p6Advance s1 else s1

end Sys2Proof.Machine
end

