-- ==== Sys2Proof/Machine/Dispatch.lean ====
section
/-! DEFINITION. One arm per command: its meaning, a direct call (spec/opcode_table.json). -/

namespace Sys2Proof.Machine

open Sys2Proof

/-- The effect of a command on everything but the queue. -/
def exec (i : Instr) (s : State) : Host.Outcome State Fault Refusal :=
  match i with
  -- Start, reset and image
  | .porstNRise t => Sys2Proof.Machine.execPorstNRise t s
  | .porstNFall t => Sys2Proof.Machine.execPorstNFall t s
  | .vddAoLow t => Sys2Proof.Machine.execVddAoLow t s
  | .warmrstNFall t => Sys2Proof.Machine.execWarmrstNFall t s
  | .warmResetDrainDone t => Sys2Proof.Machine.execWarmResetDrainDone t s
  | .refclkStable t pairRole bootSel => Sys2Proof.Machine.execRefclkStable t pairRole bootSel s
  | .fuseLoadDone t single double => Sys2Proof.Machine.execFuseLoadDone t single double s
  | .pufAttemptDone t root slotA slotB => Sys2Proof.Machine.execPufAttemptDone t root slotA slotB s
  | .imageCheckDone t keyHashOk signatureOk readError flashSize oldest newest => Sys2Proof.Machine.execImageCheckDone t keyHashOk signatureOk readError flashSize oldest newest s
  | .ddrTrainDone t okA okB capA capB => Sys2Proof.Machine.execDdrTrainDone t okA okB capA capB s
  | .regWrite t hdr writes => Sys2Proof.Machine.execRegWrite t hdr writes s
  | .regField t hdr address mask value => Sys2Proof.Machine.execRegField t hdr address mask value s
  | .memLoad t hdr target index address data => Sys2Proof.Machine.execMemLoad t hdr target index address data s
  | .tableLoad t hdr tableId entrySize firstIndex entries => Sys2Proof.Machine.execTableLoad t hdr tableId entrySize firstIndex entries s
  | .keyBlob t hdr cls wrap id ephemeral blob => Sys2Proof.Machine.execKeyBlob t hdr cls wrap id ephemeral blob s
  | .waitUntil t hdr address mask value timeout => Sys2Proof.Machine.execWaitUntil t hdr address mask value timeout s
  | .waitUntilTimeout t => Sys2Proof.Machine.execWaitUntilTimeout t s
  | .check t hdr address mask value op => Sys2Proof.Machine.execCheck t hdr address mask value op s
  | .formatNote t hdr region oldFormat newFormat newOffset newLength oldOffset oldLength => Sys2Proof.Machine.execFormatNote t hdr region oldFormat newFormat newOffset newLength oldOffset oldLength s
  | .bootEngineReadyWrite t engine => Sys2Proof.Machine.execBootEngineReadyWrite t engine s
  | .engineTimeout t => Sys2Proof.Machine.execEngineTimeout t s
  | .phaseBoundExpire t => Sys2Proof.Machine.execPhaseBoundExpire t s
  | .fhLinkupTimeout t => Sys2Proof.Machine.execFhLinkupTimeout t s
  | .pairAbsent t partnerLow => Sys2Proof.Machine.execPairAbsent t partnerLow s
  | .release t badCopies => Sys2Proof.Machine.execRelease t badCopies s
  | .pllLockLoss t island => Sys2Proof.Machine.execPllLockLoss t island s
  | .sdsclkLoss t k => Sys2Proof.Machine.execSdsclkLoss t k s
  | .fuseProgGo t agent bit revoke => Sys2Proof.Machine.execFuseProgGo t agent bit revoke s
  | .fuseProgDone t => Sys2Proof.Machine.execFuseProgDone t s
  | .jtagFuseProgram t word bit => Sys2Proof.Machine.execJtagFuseProgram t word bit s
  | .jtagZeroise t => Sys2Proof.Machine.execJtagZeroise t s
  | .zeroiseDone t => Sys2Proof.Machine.execZeroiseDone t s
  | .confirmRetryCheck t otherValid step2Ok step3Ok => Sys2Proof.Machine.execConfirmRetryCheck t otherValid step2Ok step3Ok s
  -- Fronthaul and analogue ports
  | .fhSignalDetect t port => Sys2Proof.Machine.execFhSignalDetect t port s
  | .fhBlockLock t port headers => Sys2Proof.Machine.execFhBlockLock t port headers s
  | .fhBlockLockTimeout t port => Sys2Proof.Machine.execFhBlockLockTimeout t port s
  | .fhControlBlockRx t port syncGood block => Sys2Proof.Machine.execFhControlBlockRx t port syncGood block s
  | .fhSuperframeRx t port rxTime arrivals => Sys2Proof.Machine.execFhSuperframeRx t port rxTime arrivals s
  | .fhFrameTx t port groups => Sys2Proof.Machine.execFhFrameTx t port groups s
  | .fhTimeTimeout t port => Sys2Proof.Machine.execFhTimeTimeout t port s
  | .fhRecoverTimeout t port => Sys2Proof.Machine.execFhRecoverTimeout t port s
  | .fhFaultTimeout t port => Sys2Proof.Machine.execFhFaultTimeout t port s
  | .fhMbxReply t port => Sys2Proof.Machine.execFhMbxReply t port s
  | .fhMbxTimeout t port => Sys2Proof.Machine.execFhMbxTimeout t port s
  | .fhLoopWrite t port loop => Sys2Proof.Machine.execFhLoopWrite t port loop s
  | .anaLoopWrite t port loop => Sys2Proof.Machine.execAnaLoopWrite t port loop s
  | .poolEntry t dsn => Sys2Proof.Machine.execPoolEntry t dsn s
  -- Channeliser and search
  | .chnGenRequest t head => Sys2Proof.Machine.execChnGenRequest t head s
  | .chnUnitStart t head => Sys2Proof.Machine.execChnUnitStart t head s
  | .chnSwitchPoint t head => Sys2Proof.Machine.execChnSwitchPoint t head s
  | .chnRetireExpire t unit => Sys2Proof.Machine.execChnRetireExpire t unit s
  | .noiseFloorRise t stream bin powers => Sys2Proof.Machine.execNoiseFloorRise t stream bin powers s
  | .detection t h => Sys2Proof.Machine.execDetection t h s
  | .detRecordIssue t stream => Sys2Proof.Machine.execDetRecordIssue t stream s
  | .detMaskExpire t stream maskIndex metrics => Sys2Proof.Machine.execDetMaskExpire t stream maskIndex metrics s
  -- Lanes
  | .laneAssign t => Sys2Proof.Machine.execLaneAssign t s
  | .laneCaughtUp t lane => Sys2Proof.Machine.execLaneCaughtUp t lane s
  | .laneSyncFound t lane word snr position => Sys2Proof.Machine.execLaneSyncFound t lane word snr position s
  | .lanePreambleLost t lane below => Sys2Proof.Machine.execLanePreambleLost t lane below s
  | .laneHeaderCheck t group bits hcsOk members summary => Sys2Proof.Machine.execLaneHeaderCheck t group bits hcsOk members summary s
  | .laneAddressPoint t lane fields => Sys2Proof.Machine.execLaneAddressPoint t lane fields s
  | .laneFrameEnd t lane fcsOk endTime => Sys2Proof.Machine.execLaneFrameEnd t lane fcsOk endTime s
  | .laneReconstruction t context stronger => Sys2Proof.Machine.execLaneReconstruction t context stronger s
  | .laneRerunEnd t lane fcsOk => Sys2Proof.Machine.execLaneRerunEnd t lane fcsOk s
  | .laneSpillOverrun t context => Sys2Proof.Machine.execLaneSpillOverrun t context s
  | .laneInputInvalid t lane => Sys2Proof.Machine.execLaneInputInvalid t lane s
  | .laneExportDone t lane body => Sys2Proof.Machine.execLaneExportDone t lane body s
  -- Schedule, transmission and acknowledgement
  | .slotBoundary t => Sys2Proof.Machine.execSlotBoundary t s
  | .slotframeBoundary t slotframe => Sys2Proof.Machine.execSlotframeBoundary t slotframe s
  | .scheduleStart t => Sys2Proof.Machine.execScheduleStart t s
  | .txStartCommand t booking => Sys2Proof.Machine.execTxStartCommand t booking s
  | .ackRelease t group => Sys2Proof.Machine.execAckRelease t group s
  | .ackLeft t group => Sys2Proof.Machine.execAckLeft t group s
  | .txEnd t modulator overflows => Sys2Proof.Machine.execTxEnd t modulator overflows s
  | .maskMonitorEval t stream spectra => Sys2Proof.Machine.execMaskMonitorEval t stream spectra s
  | .beaconRewrite t beacon => Sys2Proof.Machine.execBeaconRewrite t beacon s
  -- Calibration
  | .calSnippet t snippet => Sys2Proof.Machine.execCalSnippet t snippet s
  | .calStreamBlock t head sums saturated clipped => Sys2Proof.Machine.execCalStreamBlock t head sums saturated clipped s
  | .calGainUpdate t head => Sys2Proof.Machine.execCalGainUpdate t head s
  | .calDelaySolve t => Sys2Proof.Machine.execCalDelaySolve t s
  | .calGenRequest t head transmit => Sys2Proof.Machine.execCalGenRequest t head transmit s
  | .calSweepStart t head => Sys2Proof.Machine.execCalSweepStart t head s
  | .calSweepDone t head measured => Sys2Proof.Machine.execCalSweepDone t head measured s
  | .calRecordWrite t utc => Sys2Proof.Machine.execCalRecordWrite t utc s
  | .calRestore t utcNow => Sys2Proof.Machine.execCalRestore t utcNow s
  -- Timekeeper and neighbours
  | .ptpSync t msg => Sys2Proof.Machine.execPtpSync t msg s
  | .ptpFollowUp t msg => Sys2Proof.Machine.execPtpFollowUp t msg s
  | .ptpDelayResp t msg => Sys2Proof.Machine.execPtpDelayResp t msg s
  | .ptpAnnounce t msg => Sys2Proof.Machine.execPtpAnnounce t msg s
  | .ppsInEdge t => Sys2Proof.Machine.execPpsInEdge t s
  | .ppsEdgeMissing t => Sys2Proof.Machine.execPpsEdgeMissing t s
  | .ppsOutPulse t => Sys2Proof.Machine.execPpsOutPulse t s
  | .ppsOutFall t => Sys2Proof.Machine.execPpsOutFall t s
  | .timeComparator t engine => Sys2Proof.Machine.execTimeComparator t engine s
  | .nbrBeaconHeard t neighbour asn start => Sys2Proof.Machine.execNbrBeaconHeard t neighbour asn start s
  | .nbrBeaconMissed t neighbour => Sys2Proof.Machine.execNbrBeaconMissed t neighbour s
  | .nbrHoldoffExpire t neighbour => Sys2Proof.Machine.execNbrHoldoffExpire t neighbour s
  -- Keys
  | .keyLookup t group => Sys2Proof.Machine.execKeyLookup t group s
  | .keyUnwrapDone t => Sys2Proof.Machine.execKeyUnwrapDone t s
  | .keyPayloadBlock t group => Sys2Proof.Machine.execKeyPayloadBlock t group s
  | .keyFrameEnd t group fcsOk frame blocks => Sys2Proof.Machine.execKeyFrameEnd t group fcsOk frame blocks s
  | .keyCounterUpdate t node counter digest => Sys2Proof.Machine.execKeyCounterUpdate t node counter digest s
  | .keyProtect t booking => Sys2Proof.Machine.execKeyProtect t booking s
  | .counterCeilingWrite t => Sys2Proof.Machine.execCounterCeilingWrite t s
  | .keyLoad t dsn => Sys2Proof.Machine.execKeyLoad t dsn s
  | .keyRevoke t dsn => Sys2Proof.Machine.execKeyRevoke t dsn s
  | .keyRetire t dsn => Sys2Proof.Machine.execKeyRetire t dsn s
  | .keyRewrap t dsn => Sys2Proof.Machine.execKeyRewrap t dsn s
  | .keyRewrapWalkDone t => Sys2Proof.Machine.execKeyRewrapWalkDone t s
  | .keyJournalWriteDone t ok => Sys2Proof.Machine.execKeyJournalWriteDone t ok s
  | .keyJournalCompact t copyB => Sys2Proof.Machine.execKeyJournalCompact t copyB s
  | .keyEntropyFail t => Sys2Proof.Machine.execKeyEntropyFail t s
  | .jigLaneDrained t => Sys2Proof.Machine.execJigLaneDrained t s
  -- Acceptance and journal
  | .candidateOpen t group => Sys2Proof.Machine.execCandidateOpen t group s
  | .candidateVerdicts t group frame => Sys2Proof.Machine.execCandidateVerdicts t group frame s
  | .candidateStaged t group roomA roomB => Sys2Proof.Machine.execCandidateStaged t group roomA roomB s
  | .candidateDeadline t group => Sys2Proof.Machine.execCandidateDeadline t group s
  | .owedReleaseMissed t jsn => Sys2Proof.Machine.execOwedReleaseMissed t jsn s
  | .standbyCandidateTimeout t group => Sys2Proof.Machine.execStandbyCandidateTimeout t group s
  | .standbyOwedAssume t jsn => Sys2Proof.Machine.execStandbyOwedAssume t jsn s
  | .dedupExpire t => Sys2Proof.Machine.execDedupExpire t s
  -- Nodes, learning and forwarding
  | .learnEvent t node ports => Sys2Proof.Machine.execLearnEvent t node ports s
  | .newSenderAdmit t group node ports => Sys2Proof.Machine.execNewSenderAdmit t group node ports s
  | .learnWindowClose t node => Sys2Proof.Machine.execLearnWindowClose t node s
  | .nodeEntryCreate t node => Sys2Proof.Machine.execNodeEntryCreate t node s
  | .nodeInsert t node moves => Sys2Proof.Machine.execNodeInsert t node moves s
  | .learnFallback t node => Sys2Proof.Machine.execLearnFallback t node s
  | .rehashStart t => Sys2Proof.Machine.execRehashStart t s
  | .rehashDone t slots => Sys2Proof.Machine.execRehashDone t slots s
  | .agerVisit t index stamp => Sys2Proof.Machine.execAgerVisit t index stamp s
  | .homePortRehome t node => Sys2Proof.Machine.execHomePortRehome t node s
  | .forwardPacket t packet => Sys2Proof.Machine.execForwardPacket t packet s
  | .transitExpire t position => Sys2Proof.Machine.execTransitExpire t position s
  | .seenExpire t => Sys2Proof.Machine.execSeenExpire t s
  -- Ferry
  | .ferryDownlink t frame => Sys2Proof.Machine.execFerryDownlink t frame s
  | .dlItemExpiry t dsn => Sys2Proof.Machine.execDlItemExpiry t dsn s
  | .nodeEnhancedAck t node micGood nack airTime => Sys2Proof.Machine.execNodeEnhancedAck t node micGood nack airTime s
  | .ferryMgmtCmd t frame => Sys2Proof.Machine.execFerryMgmtCmd t frame s
  | .clearCounters t dsn => Sys2Proof.Machine.execClearCounters t dsn s
  | .clearSticky t dsn => Sys2Proof.Machine.execClearSticky t dsn s
  | .eventClear t dsn => Sys2Proof.Machine.execEventClear t dsn s
  | .keyItem t dsn => Sys2Proof.Machine.execKeyItem t dsn s
  | .ferryUlAck t frame => Sys2Proof.Machine.execFerryUlAck t frame s
  | .ferryUplinkSend t count => Sys2Proof.Machine.execFerryUplinkSend t count s
  | .ferryUlRto t => Sys2Proof.Machine.execFerryUlRto t s
  | .ferryHeartbeat t frame => Sys2Proof.Machine.execFerryHeartbeat t frame s
  | .ferryHeartbeatTx t => Sys2Proof.Machine.execFerryHeartbeatTx t s
  | .ferryPeerLost t => Sys2Proof.Machine.execFerryPeerLost t s
  | .ferrySessionOpen t => Sys2Proof.Machine.execFerrySessionOpen t s
  | .ferryRekey t => Sys2Proof.Machine.execFerryRekey t s
  | .ferryOldKeysExpire t => Sys2Proof.Machine.execFerryOldKeysExpire t s
  | .ferryMgmtRead t frame => Sys2Proof.Machine.execFerryMgmtRead t frame s
  | .neighbourAdvertisementTx t => Sys2Proof.Machine.execNeighbourAdvertisementTx t s
  | .neighbourSolicitation t port target => Sys2Proof.Machine.execNeighbourSolicitation t port target s
  | .echoRequest t port target => Sys2Proof.Machine.execEchoRequest t port target s
  | .ethLinkChange t port up => Sys2Proof.Machine.execEthLinkChange t port up s
  -- Dovetail
  | .tokenPartnerReleased t => Sys2Proof.Machine.execTokenPartnerReleased t s
  | .tokenTie t => Sys2Proof.Machine.execTokenTie t s
  | .ownLineFault t => Sys2Proof.Machine.execOwnLineFault t s
  | .takeTime t partnerLow => Sys2Proof.Machine.execTakeTime t partnerLow s
  | .headFollowCheck t port => Sys2Proof.Machine.execHeadFollowCheck t port s
  | .payloadRecord t hdr group blocks => Sys2Proof.Machine.execPayloadRecord t hdr group blocks s
  | .entryRecord t hdr group entry => Sys2Proof.Machine.execEntryRecord t hdr group entry s
  | .ackBookRecord t hdr book => Sys2Proof.Machine.execAckBookRecord t hdr book s
  | .voidRecord t hdr jsn => Sys2Proof.Machine.execVoidRecord t hdr jsn s
  | .dlRecord t hdr body => Sys2Proof.Machine.execDlRecord t hdr body s
  | .ceilingRecord t hdr body => Sys2Proof.Machine.execCeilingRecord t hdr body s
  | .ackPointRecord t hdr ackJsn => Sys2Proof.Machine.execAckPointRecord t hdr ackJsn s
  | .sessionRecord t hdr session packetCeiling inboundHigh nonceD nonceH => Sys2Proof.Machine.execSessionRecord t hdr session packetCeiling inboundHigh nonceD nonceH s
  | .scheduleRecord t hdr body => Sys2Proof.Machine.execScheduleRecord t hdr body s
  | .keyRecord t hdr body => Sys2Proof.Machine.execKeyRecord t hdr body s
  | .nodeRecord t hdr create node index relay pan bulk => Sys2Proof.Machine.execNodeRecord t hdr create node index relay pan bulk s
  | .campaignRecord t hdr body => Sys2Proof.Machine.execCampaignRecord t hdr body s
  | .timeRecord t hdr partnerTime => Sys2Proof.Machine.execTimeRecord t hdr partnerTime s
  | .commitRecord t hdr committed ok => Sys2Proof.Machine.execCommitRecord t hdr committed ok s
  | .fitnessRecord t hdr body => Sys2Proof.Machine.execFitnessRecord t hdr body s
  | .fitnessTx t => Sys2Proof.Machine.execFitnessTx t s
  | .digestRecord t hdr ranges => Sys2Proof.Machine.execDigestRecord t hdr ranges s
  | .rangeRecord t hdr body => Sys2Proof.Machine.execRangeRecord t hdr body s
  | .handoverRecord t hdr th newEpoch => Sys2Proof.Machine.execHandoverRecord t hdr th newEpoch s
  | .releasedRecord t hdr lastMseq => Sys2Proof.Machine.execReleasedRecord t hdr lastMseq s
  | .pairingRecord t hdr body => Sys2Proof.Machine.execPairingRecord t hdr body s
  | .keepaliveRecord t hdr => Sys2Proof.Machine.execKeepaliveRecord t hdr s
  | .keepaliveTx t link => Sys2Proof.Machine.execKeepaliveTx t link s
  | .isthmusLinkUp t link => Sys2Proof.Machine.execIsthmusLinkUp t link s
  | .isthmusLinkLoss t link lane => Sys2Proof.Machine.execIsthmusLinkLoss t link lane s
  | .pairPartnerLost t => Sys2Proof.Machine.execPairPartnerLost t s
  | .pairDetached t => Sys2Proof.Machine.execPairDetached t s
  | .pairMseqGap t => Sys2Proof.Machine.execPairMseqGap t s
  | .pairGiveUp t => Sys2Proof.Machine.execPairGiveUp t s
  | .digestPeriodTick t => Sys2Proof.Machine.execDigestPeriodTick t s
  | .resyncPhaseDone t phase => Sys2Proof.Machine.execResyncPhaseDone t phase s
  | .pairResync t => Sys2Proof.Machine.execPairResync t s
  | .pairResyncSlow t => Sys2Proof.Machine.execPairResyncSlow t s
  | .handover t dsn => Sys2Proof.Machine.execHandover t dsn s
  | .resync t dsn => Sys2Proof.Machine.execResync t dsn s
  | .handoverTime t => Sys2Proof.Machine.execHandoverTime t s
  -- Updates and campaigns
  | .updBegin t dsn => Sys2Proof.Machine.execUpdBegin t dsn s
  | .updPart t dsn => Sys2Proof.Machine.execUpdPart t dsn s
  | .updAbort t dsn => Sys2Proof.Machine.execUpdAbort t dsn s
  | .pieceWrite t piece copyB ok => Sys2Proof.Machine.execPieceWrite t piece copyB ok s
  | .updVerifyDone t => Sys2Proof.Machine.execUpdVerifyDone t s
  | .updActivate t dsn partnerVerified => Sys2Proof.Machine.execUpdActivate t dsn partnerVerified s
  | .updActivateCopyDone t ok => Sys2Proof.Machine.execUpdActivateCopyDone t ok s
  | .actTimeout t => Sys2Proof.Machine.execActTimeout t s
  | .updConfirm t dsn step1Ok otherValid step2Ok step3Ok => Sys2Proof.Machine.execUpdConfirm t dsn step1Ok otherValid step2Ok step3Ok s
  | .confirmHold t step1Ok otherValid step2Ok step3Ok => Sys2Proof.Machine.execConfirmHold t step1Ok otherValid step2Ok step3Ok s
  | .updRevert t dsn => Sys2Proof.Machine.execUpdRevert t dsn s
  | .updRevokeSlot t dsn otherValid => Sys2Proof.Machine.execUpdRevokeSlot t dsn otherValid s
  | .pieceRequest t request => Sys2Proof.Machine.execPieceRequest t request s
  | .piecePartFrame t source part => Sys2Proof.Machine.execPiecePartFrame t source part s
  | .campDefine t dsn => Sys2Proof.Machine.execCampDefine t dsn s
  | .campData t dsn => Sys2Proof.Machine.execCampData t dsn s
  | .campMembers t dsn => Sys2Proof.Machine.execCampMembers t dsn s
  | .campStart t dsn => Sys2Proof.Machine.execCampStart t dsn s
  | .campPause t dsn => Sys2Proof.Machine.execCampPause t dsn s
  | .campEnd t dsn => Sys2Proof.Machine.execCampEnd t dsn s
  | .campWindowOpen t campaign => Sys2Proof.Machine.execCampWindowOpen t campaign s
  -- Quays, DMA, memory and engines
  | .quayClaim t agent quay octets => Sys2Proof.Machine.execQuayClaim t agent quay octets s
  | .quayWrWord t agent quay word parityGood => Sys2Proof.Machine.execQuayWrWord t agent quay word parityGood s
  | .quayWrEnd t agent quay word octets parityGood => Sys2Proof.Machine.execQuayWrEnd t agent quay word octets parityGood s
  | .quayWrPoison t agent quay => Sys2Proof.Machine.execQuayWrPoison t agent quay s
  | .quayRdNext t agent quay badBank => Sys2Proof.Machine.execQuayRdNext t agent quay badBank s
  | .quayRdDrop t agent quay => Sys2Proof.Machine.execQuayRdDrop t agent quay s
  | .quayFlush t agent quay => Sys2Proof.Machine.execQuayFlush t agent quay s
  | .dmaStart t agent channel => Sys2Proof.Machine.execDmaStart t agent channel s
  | .dmaStop t agent channel => Sys2Proof.Machine.execDmaStop t agent channel s
  | .dmaDescriptorDone t channel poisonAt => Sys2Proof.Machine.execDmaDescriptorDone t channel poisonAt s
  | .eccError t address channelB uncorrectable byDma => Sys2Proof.Machine.execEccError t address channelB uncorrectable byDma s
  | .scrubPatrol t corrected => Sys2Proof.Machine.execScrubPatrol t corrected s
  | .ddrTrainingLoss t channelB => Sys2Proof.Machine.execDdrTrainingLoss t channelB s
  | .ddrRetrainDone t channelB ok => Sys2Proof.Machine.execDdrRetrainDone t channelB ok s
  | .engWdogKick t engine => Sys2Proof.Machine.execEngWdogKick t engine s
  | .engWdogExpire t engine => Sys2Proof.Machine.execEngWdogExpire t engine s
  | .engLockstep t pair23 => Sys2Proof.Machine.execEngLockstep t pair23 s
  -- Health
  | .errorReport t report lost => Sys2Proof.Machine.execErrorReport t report lost s
  | .coalesceWindowClose t unit code => Sys2Proof.Machine.execCoalesceWindowClose t unit code s
  | .handlerTake t agent => Sys2Proof.Machine.execHandlerTake t agent s
  | .handlerDone t agent outcome => Sys2Proof.Machine.execHandlerDone t agent outcome s
  | .handlerTimeout t => Sys2Proof.Machine.execHandlerTimeout t s
  | .handlerException t core => Sys2Proof.Machine.execHandlerException t core s
  | .jigSweepStart t => Sys2Proof.Machine.execJigSweepStart t s
  | .jigTestStart t kind inst => Sys2Proof.Machine.execJigTestStart t kind inst s
  | .jigDetWarmupDone t => Sys2Proof.Machine.execJigDetWarmupDone t s
  | .jigPreempt t => Sys2Proof.Machine.execJigPreempt t s
  | .jigTestDone t result => Sys2Proof.Machine.execJigTestDone t result s
  | .jigRun t dsn => Sys2Proof.Machine.execJigRun t dsn s
  | .jigPort t dsn => Sys2Proof.Machine.execJigPort t dsn s
  | .fhRetrain t dsn => Sys2Proof.Machine.execFhRetrain t dsn s
  | .dumpRelease t dsn => Sys2Proof.Machine.execDumpRelease t dsn s
  | .clampRequest t activity clamp => Sys2Proof.Machine.execClampRequest t activity clamp s
  | .clampRelease t activity clamp => Sys2Proof.Machine.execClampRelease t activity clamp s
  | .clampWaitExpire t activity clamp => Sys2Proof.Machine.execClampWaitExpire t activity clamp s
  | .fatal t cause => Sys2Proof.Machine.execFatal t cause s
  | .fatalStagingDrained t => Sys2Proof.Machine.execFatalStagingDrained t s
  | .dumpWritten t => Sys2Proof.Machine.execDumpWritten t s
  | .dumpPathsDone t => Sys2Proof.Machine.execDumpPathsDone t s
  | .hltPartnerDump t header => Sys2Proof.Machine.execHltPartnerDump t header s
  | .dumpFlashCopy t slot toFlash ok => Sys2Proof.Machine.execDumpFlashCopy t slot toFlash ok s
  | .evrCursorWrite t agent seq => Sys2Proof.Machine.execEvrCursorWrite t agent seq s
  | .evrData7Read t agent => Sys2Proof.Machine.execEvrData7Read t agent s
  | .mgtI2cWrite t octets => Sys2Proof.Machine.execMgtI2cWrite t octets s
  | .mgtI2cRead t words => Sys2Proof.Machine.execMgtI2cRead t words s
  | .registerLoRead t agent address octets => Sys2Proof.Machine.execRegisterLoRead t agent address octets s
  | .registerWrite t agent address value octets => Sys2Proof.Machine.execRegisterWrite t agent address value octets s
  | .glbOvertemp t => Sys2Proof.Machine.execGlbOvertemp t s
  | .glbThermalTrip t => Sys2Proof.Machine.execGlbThermalTrip t s
  | .warmrstNRise t => Sys2Proof.Machine.execWarmrstNRise t s
  | .vddAoRestored t => Sys2Proof.Machine.execVddAoRestored t s
  | .fhLossOfSignal t port => Sys2Proof.Machine.execFhLossOfSignal t port s
  | .ptpSourceLost t => Sys2Proof.Machine.execPtpSourceLost t s
  | .glbTempUpdate t tj => Sys2Proof.Machine.execGlbTempUpdate t tj s
  | .sdsclkReturn t k => Sys2Proof.Machine.execSdsclkReturn t k s

end Sys2Proof.Machine
end

