-- ==== Sys2Proof/Machine/Tick.lean ====
section
/-! DEFINITION. What an empty queue lets happen: device time counts (R236). -/

namespace Sys2Proof.Machine

/-- The clock after one Slot cycle of 1 ns: 16 units, adjusted by TIME_RATE in 2^-32 of the increment (R236). A clock that does not run yet,
or that a freeze has stopped (R480), stands. DESIGN CHOICE, log entry 2. -/
def clockTick (s : State) : State :=
  if s.clock.running && !s.hlt.frozen then
    let q := s.clock.frac + 2 ^ 32 + s.clock.warmRate.getD (rateNow s)
    { s with clock.now := s.clock.now + (q / 2 ^ 28).toNat, clock.frac := q % 2 ^ 28 }
  else s

/-- One Slot cycle of 1 ns passes: device time counts, and what waits in the start for a condition that now holds goes on (R51, R73).
DESIGN CHOICE, log entry 2. -/
def tick (s : State) : State := if s.hlt.frozen || startStill s then clockTick s else startPoll (clockTick s)

end Sys2Proof.Machine
end

