-- ==== Sys2Proof/WellFormed.lean ====
section
/-! DEFINITION. The commands that name only instances that the spec says exist: ports, heads, lanes, groups, channels, quays, engines,
links and indices within their ranges. A command outside these bounds is no event of the hardware. -/

namespace Sys2Proof

open Machine

/-- The command names only instances that exist. -/
def Instr.wf (i : Instr) : Bool :=
  match i with
  -- Start, reset and image
  | .porstNRise _ => true
  | .porstNFall _ => true
  | .vddAoLow _ => true
  | .warmrstNFall _ => true
  | .warmResetDrainDone _ => true
  | .refclkStable _ _ _ => true
  | .fuseLoadDone _ _ _ => true
  | .pufAttemptDone _ _ _ _ => true
  | .imageCheckDone _ _ _ _ _ _ _ => true
  | .ddrTrainDone _ _ _ _ _ => true
  | .regWrite _ _ _ => true
  | .regField _ _ _ _ _ => true
  | .memLoad _ _ _ _ _ _ => true
  | .tableLoad _ _ _ _ _ _ => true
  | .keyBlob _ _ _ _ _ _ _ => true
  | .waitUntil _ _ _ _ _ _ => true
  | .waitUntilTimeout _ => true
  | .check _ _ _ _ _ _ => true
  | .formatNote _ _ _ _ _ _ _ _ _ => true
  | .bootEngineReadyWrite _ engine => decide (engine < 12)
  | .engineTimeout _ => true
  | .phaseBoundExpire _ => true
  | .fhLinkupTimeout _ => true
  | .pairAbsent _ _ => true
  | .release _ _ => true
  | .pllLockLoss _ island => decide (1 ≤ island ∧ island ≤ 7)
  | .sdsclkLoss _ k => decide (k < 4)
  | .fuseProgGo _ _ bit _ => decide (bit < 64)
  | .fuseProgDone _ => true
  | .jtagFuseProgram _ word bit => decide (word < 256) && decide (bit < 32)
  | .jtagZeroise _ => true
  | .zeroiseDone _ => true
  | .confirmRetryCheck _ _ _ _ => true
  -- Fronthaul and analogue ports
  | .fhSignalDetect _ port => decide (port < 32)
  | .fhBlockLock _ port _ => decide (port < 32)
  | .fhBlockLockTimeout _ port => decide (port < 32)
  | .fhControlBlockRx _ port _ _ => decide (port < 32)
  | .fhSuperframeRx _ port _ _ => decide (port < 32)
  | .fhFrameTx _ port _ => decide (port < 32)
  | .fhTimeTimeout _ port => decide (port < 32)
  | .fhRecoverTimeout _ port => decide (port < 32)
  | .fhFaultTimeout _ port => decide (port < 32)
  | .fhMbxReply _ port => decide (port < 32)
  | .fhMbxTimeout _ port => decide (port < 32)
  | .fhLoopWrite _ port _ => decide (port < 32)
  | .anaLoopWrite _ port _ => decide (port < 4)
  | .poolEntry _ _ => true
  -- Channeliser and search
  | .chnGenRequest _ head => decide (head < 36)
  | .chnUnitStart _ head => decide (head < 36)
  | .chnSwitchPoint _ head => decide (head < 36)
  | .chnRetireExpire _ unit => decide (unit < 144)
  | .noiseFloorRise _ stream bin _ => decide (stream < 128) && decide (bin < 128)
  | .detection _ h => decide (h.stream < 128) && decide (h.bin < 128) && decide (h.slot < 12)
  | .detRecordIssue _ stream => decide (stream < 128)
  | .detMaskExpire _ stream _ _ => decide (stream < 128)
  -- Lanes
  | .laneAssign _ => true
  | .laneCaughtUp _ lane => decide (lane < 4096)
  | .laneSyncFound _ lane _ _ _ => decide (lane < 4096)
  | .lanePreambleLost _ lane _ => decide (lane < 4096)
  | .laneHeaderCheck _ group _ _ _ _ => decide (group < 4096)
  | .laneAddressPoint _ lane _ => decide (lane < 4096)
  | .laneFrameEnd _ lane _ _ => decide (lane < 4096)
  | .laneReconstruction _ context stronger => decide (context < 256) && decide (stronger < 4096)
  | .laneRerunEnd _ lane _ => decide (lane < 4096)
  | .laneSpillOverrun _ context => decide (context < 256)
  | .laneInputInvalid _ lane => decide (lane < 4096)
  | .laneExportDone _ lane _ => decide (lane < 4096)
  -- Schedule, transmission and acknowledgement
  | .slotBoundary _ => true
  | .slotframeBoundary _ slotframe => decide (slotframe < 32)
  | .scheduleStart _ => true
  | .txStartCommand _ _ => true
  | .ackRelease _ group => decide (group < 8192)
  | .ackLeft _ group => decide (group < 8192)
  | .txEnd _ modulator _ => decide (modulator < 256)
  | .maskMonitorEval _ stream spectra => decide (stream < 72) && spectra.length == 4 && spectra.all fun x => x.length == 1024
  | .beaconRewrite _ beacon => decide (beacon < 64)
  -- Calibration
  | .calSnippet _ _ => true
  | .calStreamBlock _ head _ _ _ => decide (head < 36)
  | .calGainUpdate _ head => decide (head < 36)
  | .calDelaySolve _ => true
  | .calGenRequest _ head _ => decide (head < 36)
  | .calSweepStart _ head => decide (head < 36)
  | .calSweepDone _ head _ => decide (head < 36)
  | .calRecordWrite _ _ => true
  | .calRestore _ _ => true
  -- Timekeeper and neighbours
  | .ptpSync _ msg => decide (msg.port < 8)
  | .ptpFollowUp _ msg => decide (msg.port < 8)
  | .ptpDelayResp _ msg => decide (msg.port < 8)
  | .ptpAnnounce _ msg => decide (msg.port < 8)
  | .ppsInEdge _ => true
  | .ppsEdgeMissing _ => true
  | .ppsOutPulse _ => true
  | .ppsOutFall _ => true
  | .timeComparator _ engine => engine.all fun k => decide (k < 8)
  | .nbrBeaconHeard _ neighbour _ _ => decide (neighbour < 16)
  | .nbrBeaconMissed _ neighbour => decide (neighbour < 16)
  | .nbrHoldoffExpire _ neighbour => decide (neighbour < 16)
  -- Keys
  | .keyLookup _ group => decide (group < 4096)
  | .keyUnwrapDone _ => true
  | .keyPayloadBlock _ group => decide (group < 4096)
  | .keyFrameEnd _ group _ _ _ => decide (group < 4096)
  | .keyCounterUpdate _ _ _ _ => true
  | .keyProtect _ _ => true
  | .counterCeilingWrite _ => true
  | .keyLoad _ _ => true
  | .keyRevoke _ _ => true
  | .keyRetire _ _ => true
  | .keyRewrap _ _ => true
  | .keyRewrapWalkDone _ => true
  | .keyJournalWriteDone _ _ => true
  | .keyJournalCompact _ _ => true
  | .keyEntropyFail _ => true
  | .jigLaneDrained _ => true
  -- Acceptance and journal
  | .candidateOpen _ group => decide (group < 4096)
  | .candidateVerdicts _ group _ => decide (group < 4096)
  | .candidateStaged _ group _ _ => decide (group < 4096)
  | .candidateDeadline _ group => decide (group < 8192)
  | .owedReleaseMissed _ _ => true
  | .standbyCandidateTimeout _ group => decide (group < 4096)
  | .standbyOwedAssume _ _ => true
  | .dedupExpire _ => true
  -- Nodes, learning and forwarding
  | .learnEvent _ _ ports => ports.all fun x => decide (x.1 < 36)
  | .newSenderAdmit _ group _ ports => decide (group < 4096) && ports.all fun x => decide (x.1 < 36)
  | .learnWindowClose _ _ => true
  | .nodeEntryCreate _ _ => true
  | .nodeInsert _ _ _ => true
  | .learnFallback _ _ => true
  | .rehashStart _ => true
  | .rehashDone _ _ => true
  | .agerVisit _ index _ => decide (index < nodeMax)
  | .homePortRehome _ _ => true
  | .forwardPacket _ packet => packet.fromMesh || decide (packet.port < 8)
  | .transitExpire _ _ => true
  | .seenExpire _ => true
  -- Ferry
  | .ferryDownlink _ _ => true
  | .dlItemExpiry _ _ => true
  | .nodeEnhancedAck _ _ _ _ _ => true
  | .ferryMgmtCmd _ _ => true
  | .clearCounters _ _ => true
  | .clearSticky _ _ => true
  | .eventClear _ _ => true
  | .keyItem _ _ => true
  | .ferryUlAck _ _ => true
  | .ferryUplinkSend _ _ => true
  | .ferryUlRto _ => true
  | .ferryHeartbeat _ _ => true
  | .ferryHeartbeatTx _ => true
  | .ferryPeerLost _ => true
  | .ferrySessionOpen _ => true
  | .ferryRekey _ => true
  | .ferryOldKeysExpire _ => true
  | .ferryMgmtRead _ _ => true
  | .neighbourAdvertisementTx _ => true
  | .neighbourSolicitation _ port _ => decide (port < 8)
  | .echoRequest _ port _ => decide (port < 8)
  | .ethLinkChange _ port _ => decide (port < 8)
  -- Dovetail
  | .tokenPartnerReleased _ => true
  | .tokenTie _ => true
  | .ownLineFault _ => true
  | .takeTime _ _ => true
  | .headFollowCheck _ port => decide (port < 32)
  | .payloadRecord _ hdr group _ => decide (hdr.link < 2) && decide (group < 4096)
  | .entryRecord _ hdr group _ => decide (hdr.link < 2) && decide (group < 4096)
  | .ackBookRecord _ hdr _ => decide (hdr.link < 2)
  | .voidRecord _ hdr _ => decide (hdr.link < 2)
  | .dlRecord _ hdr _ => decide (hdr.link < 2)
  | .ceilingRecord _ hdr _ => decide (hdr.link < 2)
  | .ackPointRecord _ hdr _ => decide (hdr.link < 2)
  | .sessionRecord _ hdr _ _ _ _ _ => decide (hdr.link < 2)
  | .scheduleRecord _ hdr _ => decide (hdr.link < 2)
  | .keyRecord _ hdr _ => decide (hdr.link < 2)
  | .nodeRecord _ hdr _ _ index _ _ _ => decide (hdr.link < 2) && decide (index < nodeMax)
  | .campaignRecord _ hdr _ => decide (hdr.link < 2)
  | .timeRecord _ hdr _ => decide (hdr.link < 2)
  | .commitRecord _ hdr _ _ => decide (hdr.link < 2)
  | .fitnessRecord _ hdr _ => decide (hdr.link < 2)
  | .fitnessTx _ => true
  | .digestRecord _ hdr _ => decide (hdr.link < 2)
  | .rangeRecord _ hdr _ => decide (hdr.link < 2)
  | .handoverRecord _ hdr _ _ => decide (hdr.link < 2)
  | .releasedRecord _ hdr _ => decide (hdr.link < 2)
  | .pairingRecord _ hdr _ => decide (hdr.link < 2)
  | .keepaliveRecord _ hdr => decide (hdr.link < 2)
  | .keepaliveTx _ link => decide (link < 2)
  | .isthmusLinkUp _ link => decide (link < 2)
  | .isthmusLinkLoss _ link _ => decide (link < 2)
  | .pairPartnerLost _ => true
  | .pairDetached _ => true
  | .pairMseqGap _ => true
  | .pairGiveUp _ => true
  | .digestPeriodTick _ => true
  | .resyncPhaseDone _ phase => decide (1 ≤ phase) && decide (phase ≤ 6)
  | .pairResync _ => true
  | .pairResyncSlow _ => true
  | .handover _ _ => true
  | .resync _ _ => true
  | .handoverTime _ => true
  -- Updates and campaigns
  | .updBegin _ _ => true
  | .updPart _ _ => true
  | .updAbort _ _ => true
  | .pieceWrite _ _ _ _ => true
  | .updVerifyDone _ => true
  | .updActivate _ _ _ => true
  | .updActivateCopyDone _ _ => true
  | .actTimeout _ => true
  | .updConfirm _ _ _ _ _ _ => true
  | .confirmHold _ _ _ _ _ => true
  | .updRevert _ _ => true
  | .updRevokeSlot _ _ _ => true
  | .pieceRequest _ request => decide (request.port < 36)
  | .piecePartFrame _ _ _ => true
  | .campDefine _ _ => true
  | .campData _ _ => true
  | .campMembers _ _ => true
  | .campStart _ _ => true
  | .campPause _ _ => true
  | .campEnd _ _ => true
  | .campWindowOpen _ campaign => decide (campaign < 64)
  -- Quays, DMA, memory and engines
  | .quayClaim _ _ quay _ => decide (quay < 64)
  | .quayWrWord _ _ quay _ _ => decide (quay < 64)
  | .quayWrEnd _ _ quay _ octets _ => decide (quay < 64) && decide (1 ≤ octets ∧ octets ≤ 4)
  | .quayWrPoison _ _ quay => decide (quay < 64)
  | .quayRdNext _ _ quay badBank => decide (quay < 64) && badBank.all (fun b => decide (b < 33))
  | .quayRdDrop _ _ quay => decide (quay < 64)
  | .quayFlush _ _ quay => decide (quay < 64)
  | .dmaStart _ _ channel => decide (channel < 8)
  | .dmaStop _ _ channel => decide (channel < 8)
  | .dmaDescriptorDone _ channel _ => decide (channel < 8)
  | .eccError _ address _ _ _ => decide (address < 2 ^ 36)
  | .scrubPatrol _ _ => true
  | .ddrTrainingLoss _ _ => true
  | .ddrRetrainDone _ _ _ => true
  | .engWdogKick _ engine => decide (engine < 12)
  | .engWdogExpire _ engine => decide (engine < 12)
  | .engLockstep _ _ => true
  -- Health
  | .errorReport _ report _ => decide (report.unit < 25 * 2048)
  | .coalesceWindowClose _ _ _ => true
  | .handlerTake _ _ => true
  | .handlerDone _ _ _ => true
  | .handlerTimeout _ => true
  | .handlerException _ core => decide (core < 4)
  | .jigSweepStart _ => true
  | .jigTestStart _ kind inst => decide (1 ≤ kind ∧ inst < jigCount kind)
  | .jigDetWarmupDone _ => true
  | .jigPreempt _ => true
  | .jigTestDone _ _ => true
  | .jigRun _ _ => true
  | .jigPort _ _ => true
  | .fhRetrain _ _ => true
  | .dumpRelease _ _ => true
  | .clampRequest _ _ clamp => decide (clamp < 74)
  | .clampRelease _ _ clamp => decide (clamp < 74)
  | .clampWaitExpire _ _ clamp => decide (clamp < 74)
  | .fatal _ cause => decide (1 ≤ cause.cause ∧ cause.cause ≤ 12)
  | .fatalStagingDrained _ => true
  | .dumpWritten _ => true
  | .dumpPathsDone _ => true
  | .hltPartnerDump _ _ => true
  | .dumpFlashCopy _ _ _ _ => true
  | .evrCursorWrite _ _ _ => true
  | .evrData7Read _ _ => true
  | .mgtI2cWrite _ _ => true
  | .mgtI2cRead _ _ => true
  | .registerLoRead _ _ _ octets => octets == 1 || octets == 2 || octets == 4
  | .registerWrite _ _ _ _ octets => octets == 1 || octets == 2 || octets == 4
  | .glbOvertemp _ => true
  | .glbThermalTrip _ => true
  | .warmrstNRise _ => true
  | .vddAoRestored _ => true
  | .fhLossOfSignal _ port => decide (port < 32)
  | .ptpSourceLost _ => true
  | .glbTempUpdate _ tj => decide (-32768 ≤ tj ∧ tj < 32768)
  | .sdsclkReturn _ k => decide (k < 4)

end Sys2Proof
end

