-- ==== Sys2Proof/Safety.lean ====
section
/-! DEFINITION. What a safe run is, in the terms that the statements use: every step answers a next state, the memory stays in its
canonical form, programmed fuses stay programmed, and commands leave the queue of waiting commands alone. -/

namespace Sys2Proof.Machine

open Sys2Proof

/-- Every bit that is programmed in the fuses of `a` is programmed in those of `b`: a fuse is programmed once and for all (R58, R60). -/
def fusesKept (a b : State) : Prop := ∀ w k : Nat,
  (sget (fun _ => (0 : Word)) a.start.fuses w).getLsbD k = true → (sget (fun _ => (0 : Word)) b.start.fuses w).getLsbD k = true

/-- Nothing that a run must not break is broken: the memory is in its canonical form, and so is what a warm start keeps of it for a second
image (R77). -/
def Inv (s : State) : Prop := Memory.wf s.mem ∧ ∀ b, s.before = some b → Memory.wf b.mem

/-- What only a few commands may change: the memory and what a warm start keeps of it, the fuses and the queue. -/
structure Anchor where
  mem     : List Host.Cell
  before  : Option Before
  fuses   : List (Nat × Word)
  pending : List Instr
  deriving DecidableEq, Repr

/-- The memory, what is kept of it, the fuses and the queue of a state. -/
def State.anchor (s : State) : Anchor := ⟨s.mem, s.before, s.start.fuses, s.pending⟩

/-- The commands that may write or clear memory: the end of a DMA descriptor, the records and bounds of a start, and what resets the
device or takes its power; and CAMP_DATA (R71, R73, R81, R419, R450). -/
def mayWriteMemory (c : Instr) : Bool := match c with
  | .dmaDescriptorDone .. | .campData .. | .dumpPathsDone .. | .warmResetDrainDone .. | .imageCheckDone .. | .engineTimeout .. | .phaseBoundExpire ..
  | .regWrite .. | .regField .. | .waitUntil .. | .waitUntilTimeout .. | .check .. | .memLoad .. | .tableLoad .. | .keyBlob ..
  | .formatNote .. | .porstNRise .. | .porstNFall .. | .vddAoLow .. | .vddAoRestored .. => true
  | _ => false

/-- A record of TYPE `own` with header `h` is applied now, neither refused nor skipped, and its section has another one after it (R71,
R72, R82). -/
def recordRuns (own : Nat) (h : RecHdr) (s : State) : Bool :=
  !startStill s && recordDue s && (h.type == own) && h.inside && h.sameHash && h.bodyOk && (decide (1 ≤ own) && decide (own ≤ 8)) &&
    (s.start.phase == .p5 || earlyType own) && (!(h.coldOnly && s.start.warm) || own == 5) &&
    decide (s.start.record + 1 < if s.start.phase = .p4 then earlyCount s else recordCount s)

/-- The journal entries by KIND, DSN, OUTCOME and CAUSE (R312, R317). -/
def outcomes (s : State) : List (Nat × Nat × Nat × Nat) :=
  s.jrn.entries.map fun e => (e.hdr.kind, e.hdr.dsn, e.hdr.outcome, e.hdr.cause)

/-- The packet of TYPE `type` that the session of `s` sends next, to endpoint `e` from port `p` (R322). -/
def nextPacket (e p type flags : Nat) (body : Octets) (s : State) : Output :=
  .ferry e p (sealPacket s.fry.txKey ⟨1, type, flags, s.fry.session, s.fry.txNo + 1⟩ body)

/-- A good copy of a record comes in its turn: on a link that is UP, of a pairing that stands, with no record waiting, no take begun, and
not of the bulk copy (R376, R377, R380). -/
def inTurn (h : MirrorHdr) (s : State) : Prop :=
  h.link < 2 ∧ s.isthmusUp = true ∧ s.pair.links.getLsbD h.link = true ∧ h.tagGood = true ∧ s.pair.paired = true ∧
    s.pair.waiting = [] ∧ h.mseq = s.pair.nextIn ∧ s.pair.sensed = none ∧ h.bulk = false

/-- From `s` to `u` the record has been taken in its turn: the next MSEQ is expected, and link and partner count as heard (R373, R380). -/
def takenIn (h : MirrorHdr) (s u : State) : Prop :=
  u.pair.nextIn = h.mseq + 1 ∧ u.pair.lastGood = u.clock.now ∧ afind u.pair.linkHeard h.link = some u.clock.now ∧
    u.pair.state = s.pair.state

/-- A record that asks for it is answered by a COMMIT; what left before stays (R378). -/
def answered (h : MirrorHdr) (s u : State) : Prop :=
  u.sent = (if h.commitReq then [.record false false (s.pair.mseqOut + 1) u.pair.epoch (.commit h.mseq true)] else []) ++ s.sent

/-- A solo device carries out command CODE `c`, the only item of its downlink ring, with DSN `d` (R316, R319, R326). -/
def soloCommand (s : State) (d c : Nat) : Prop :=
  s.carries d c = true ∧ s.pair.state = .solo ∧ s.dl.reorder = [] ∧ s.dl.nextDsn = d ∧ ∃ r, s.dl.recs = [r] ∧ r.item.dsn = d

/-- A FATAL freezes the device from `s`: it is in service and not frozen, and the FATAL latch is armed (R479, R480). -/
def freezable (s : State) : Prop := s.start.phase = .p9 ∧ s.hlt.frozen = false ∧ s.hlt.armed = true

/-- From `s` to `u` a FATAL of cause `c` has been latched: the device is frozen, its token is released and READY is low; memory and node
table stand (R46, R479, R480). -/
def frozenBy (c : Nat) (s u : State) : Prop :=
  u.hlt.frozen = true ∧ u.hlt.cause = c ∧ u.hlt.armed = false ∧ u.hlt.fatalTime = u.clock.now ∧ u.hlt.stage = .draining ∧
    u.pair.driving = false ∧ u.pins.ready = false ∧ u.mem = s.mem

end Sys2Proof.Machine
end

