-- ==== Sys2Proof/Certificates/Slice0/Obligations.lean ====
section
/-! DEFINITION. The statements for the provers. Where a statement says `exec c s = .next u`, command `c` completes in state `s` and
leaves `u`; an equation `u = { s with … }` is the frame: every component of State that it does not name is unchanged. -/

open Sys2Proof Sys2Proof.Machine Host

/-- The reset pins and the supply of the Always-on island (R51, R81, R83, R504): what each edge does, and what it leaves. PORST_N and
VDD_AO reset everything but the fuses and the flash devices; WARMRST_N begins the warm reset, whose islands reset once DRAM is safe. -/
def Obligations.ResetPinsAct : Prop :=
  (∀ (t : Time) (s : State), s.start.porstLow = true → s.start.aoLow = false →
    ∃ u, exec (.porstNRise t) s = .next u ∧ u.start.phase = .p0 ∧ u.start.islands = 1 ∧ u.start.porstLow = false ∧
      u = { s with clock := u.clock, hlt := u.hlt, start := u.start }) ∧
  (∀ (t : Time) (s : State), s.start.porstLow = true → s.start.pinLow = false →
    ∃ u, exec (.vddAoRestored t) s = .next u ∧ u.start.phase = .p0 ∧ u.start.islands = 1 ∧ u.start.porstLow = false ∧
      u = { s with clock := u.clock, hlt := u.hlt, start := u.start }) ∧
  (∀ (t : Time) (s : State), ∃ u, exec (.porstNFall t) s = .next u ∧ u.start.pinLow = true ∧ u.start.porstLow = true ∧
    u.start.fuses = s.start.fuses ∧ u.flash.jrnA.records = s.flash.jrnA.records ∧
    u.flash.jrnB.records = s.flash.jrnB.records ∧ u.regs = [] ∧ u.tables = [] ∧ u.mem = [] ∧ u.jrn = {} ∧ u.pair = {} ∧
    u.pending = s.pending) ∧
  (∀ (t : Time) (s : State), ∃ u, exec (.vddAoLow t) s = .next u ∧ u.start.aoLow = true ∧ u.start.porstLow = true ∧
    u.start.fuses = s.start.fuses ∧ u.flash.jrnA.records = s.flash.jrnA.records ∧
    u.flash.jrnB.records = s.flash.jrnB.records ∧ u.regs = [] ∧ u.tables = [] ∧ u.mem = [] ∧ u.jrn = {} ∧ u.pair = {} ∧
    u.pending = s.pending) ∧
  (∀ (t : Time) (s : State), startStill s = false → s.key.zeroised = false → s.hlt.frozen = false → s.pair.driving = true →
    ∃ u, exec (.warmrstNFall t) s = .next u ∧ u.start.resetting = true ∧ u.start.warmLow = true ∧ u.pair.driving = false ∧
      u.pair.paired = false ∧ u.pins.ready = false ∧ u.pins.ethOn = false ∧ u.mem = s.mem) ∧
  (∀ (t : Time) (s : State), s.start.resetting = true → s.start.porstLow = false → s.start.warmLow = false →
    s.start.holdUntilCool = false → s.start.fuseLoaded = true →
    ∃ u, exec (.warmResetDrainDone t) s = .next u ∧ u.start.phase = .p2 ∧ u.start.warm = true ∧ u.start.resetting = false ∧
      u.start.retained = (s.start.reachedP9 && s.start.savedTrain) ∧
      u.pair = { partnerLow := s.pair.partnerLow, partnerHighAt := s.pair.partnerHighAt } ∧ u.fh = [] ∧ u.pending = s.pending) ∧
  (∀ (t : Time) (s : State), s.start.held = true → s.start.porstLow = false → s.start.resetting = false →
    s.start.holdUntilCool = false → s.start.fuseLoaded = true →
    ∃ u, exec (.warmrstNRise t) s = .next u ∧ u.start.held = false ∧ u.start.warmLow = false ∧ u.start.phase = .p2 ∧
      u = { s with clock := u.clock, hlt := u.hlt, start := u.start })

/-- P0 to P4 of the start (R51, R57, R59, R61, R76, R77, R84): the straps are latched once, the fuse array reaches the shadow or halts the
start, the root is rebuilt and the images are ordered by GENERATION, an image that passes its checks opens P4 while one that fails gives
way to the other, and DDR5 training ends P4, on one channel with DDR_TRAIN_ONE, or halts the start. -/
def Obligations.StartPhases : Prop :=
  (∀ (t : Time) (role : Bool) (sel : BitVec 2) (s : State), startStill s = false → s.start.phase = .p0 → s.start.straps = false →
    ∃ u, exec (.refclkStable t role sel) s = .next u ∧ u.start.phase = .p1 ∧ u.start.straps = true ∧ u.start.refOk = true ∧
      u.start.pairRole = role ∧ u.start.bootSel = sel ∧ u = { s with clock := u.clock, hlt := u.hlt, start := u.start }) ∧
  (∀ (t : Time) (single : List Nat) (s : State), startStill s = false → s.start.phase = .p1 → s.straits = [] →
    ∃ u, exec (.fuseLoadDone t single false) s = .next u ∧ u.start.phase = .p2 ∧ u.start.fuseLoaded = true ∧
      u.start.shadow = s.start.fuses ∧ u = { s with clock := u.clock, hlt := u.hlt, start := u.start, regs := u.regs }) ∧
  (∀ (t : Time) (single : List Nat) (s : State), startStill s = false → s.start.phase = .p1 →
    ∃ u, exec (.fuseLoadDone t single true) s = .next u ∧ u.start.phase = .halted ∧ u.start.failCode = 0x01) ∧
  (∀ (t : Time) (root : BitVec 256) (a b : ImageHdr) (ca aa cb ab : Word) (s : State), startStill s = false → s.start.phase = .p2 →
    s.islandUp 5 = true → pufCheck root = fuseWord s 96 → (fuseWord s 129).toNat % 16 ≠ 0 → s.start.bootSel = 0 → s.straits = [] → magicOk a = true → magicOk b = true →
    ∃ u, exec (.pufAttemptDone t root (.read a ca aa) (.read b cb ab)) s = .next u ∧ u.start.phase = .p3 ∧
      u.start.devpub = publicOf (transportKey (serialOf s) root) ∧ u.key.root = some root ∧
      u.key.devKek = some (deviceKek (serialOf s) root) ∧ u.start.slot = decide (a.generation < b.generation) ∧
      u.start.second = some (!decide (a.generation < b.generation)) ∧
      u = { s with clock := u.clock, hlt := u.hlt, start := u.start, key := u.key, flash := u.flash }) ∧
  (∀ (t : Time) (root : BitVec 256) (a b : SlotRead) (s : State), startStill s = false → s.start.phase = .p2 →
    s.islandUp 5 = true → pufCheck root ≠ fuseWord s 96 →
    ∃ u, exec (.pufAttemptDone t root a b) s = .next u ∧ u.count cBootPufRetry 0 = min 0xFFFFFFFF (s.count cBootPufRetry 0 + 1) ∧
      u.key.root = s.key.root ∧ (s.start.pufTries < 2 → u.start.phase = .p2) ∧
      (2 ≤ s.start.pufTries → u.start.phase = .halted ∧ u.start.failCode = 0x02)) ∧
  (∀ (t : Time) (keyOk sigOk : Bool) (err : Option Nat) (size oldest newest : Nat) (h : ImageHdr) (c a : Word) (s : State),
    startStill s = false → s.start.phase = .p3 → s.islandUp 3 = true → s.start.kept = false →
    slotRead s s.start.slot = .read h c a → imageCheck s h c a keyOk sigOk err size (max oldest s.flash.reclaimed) = none →
    ∃ u, exec (.imageCheckDone t keyOk sigOk err size oldest newest) s = .next u ∧ u.start.phase = .p4 ∧ u.start.image = some h ∧
      u.start.confirmed = (c == 0) ∧ u.start.record = 0 ∧ u.start.flashSize = size ∧ u.start.persistOld = max oldest s.flash.reclaimed ∧
      u.start.persistNew = newest ∧ u.mem = s.mem ∧ u.regs = s.regs ∧ u.tables = s.tables ∧ u.key = s.key ∧ u.pair = s.pair) ∧
  (∀ (t : Time) (keyOk sigOk : Bool) (err : Option Nat) (size oldest newest code : Nat) (h : ImageHdr) (c a : Word) (b : Bool)
    (s : State), startStill s = false → s.start.phase = .p3 → s.islandUp 3 = true → s.start.second = some b →
    slotRead s s.start.slot = .read h c a → imageCheck s h c a keyOk sigOk err size (max oldest s.flash.reclaimed) = some code →
    ∃ u, exec (.imageCheckDone t keyOk sigOk err size oldest newest) s = .next u ∧ u.start.phase = .p3 ∧ u.start.slot = b ∧
      u.start.second = none ∧ u.start.failCode = code ∧ u.start.prevFail = code) ∧
  (∀ (t : Time) (okA okB : Bool) (capA capB : Nat) (s : State), startStill s = false → s.start.phase = .p4 → s.start.kept = false →
    s.islandUp 6 = true → earlyCount s ≤ s.start.record → s.start.waiting = none → (okA || okB) = true →
    ∃ u, exec (.ddrTrainDone t okA okB capA capB) s = .next u ∧ u.msys.chA.ok = okA ∧ u.msys.chB.ok = okB ∧ u.clock.running = true ∧
      (¬(okA = true ∧ okB = true) → u.start.failCode = 0x20 ∧ u.hlt.ddrOne = true)) ∧
  (∀ (t : Time) (capA capB : Nat) (s : State), startStill s = false → s.start.phase = .p4 → s.start.kept = false →
    s.islandUp 6 = true → earlyCount s ≤ s.start.record → s.start.waiting = none →
    ∃ u, exec (.ddrTrainDone t false false capA capB) s = .next u ∧ u.start.phase = .halted ∧ u.start.failCode = 0x21)


/-- The records of the configuration image (R71, R72, R73, R75, R79, R82): what each leaves when it is applied and another one follows in
its section; the first address that refuses a write, a failed comparison and an unknown TYPE fail the image or are skipped. -/
def Obligations.ImageRecordsAct : Prop :=
  (∀ (t : Time) (h : RecHdr) (w : List (Word × Word)) (s : State), recordRuns 1 h s = true →
    (∀ x ∈ w, writable s x.1.toNat = true) →
    ∃ u, exec (.regWrite t h w) s = .next u ∧ u.start.record = s.start.record + 1 ∧
      u.regs = (w.foldl (fun s x => writeReg .loader x.1.toNat x.2 s) (s.arrive t)).regs ∧ u.mem = s.mem ∧ u.flash = s.flash ∧
      u.key = s.key) ∧
  (∀ (t : Time) (h : RecHdr) (a m v : Word) (s : State), recordRuns 2 h s = true → writable s a.toNat = true →
    ∃ u, exec (.regField t h a m v) s = .next u ∧ u.start.record = s.start.record + 1 ∧
      u.regs = (writeReg .loader a.toNat ((regShown (s.arrive t) a.toNat &&& ~~~m) ||| (v &&& m)) (s.arrive t)).regs ∧
      u.mem = s.mem ∧ u.flash = s.flash ∧ u.key = s.key) ∧
  (∀ (t : Time) (h : RecHdr) (target index a p : Nat) (l : List Byte) (s : State), recordRuns 3 h s = true →
    loadPlace s target index a l.length = .inr p →
    ∃ u, exec (.memLoad t h target index a l) s = .next u ∧
      (∀ k, (hk : k < l.length) → u.byte (p + k) = l[k]) ∧
      (∀ c, c < p ∨ p + l.length ≤ c → u.byte c = s.byte c) ∧
      u = { s with clock := u.clock, hlt := u.hlt, mem := u.mem, start.record := s.start.record + 1 }) ∧
  (∀ (t : Time) (h : RecHdr) (id size first n : Nat) (l : List Nat) (s : State), recordRuns 4 h s = true →
    tableShape id = some (size, n) → first + l.length ≤ n → id ≠ tFwdNode →
    tableTaken id (setEntries id first (l.map fun e => e % 2 ^ (8 * size)) (s.arrive t)) = true →
    ∃ u, exec (.tableLoad t h id size first l) s = .next u ∧ u.start.record = s.start.record + 1 ∧
      (∀ k, (hk : k < l.length) → u.entry id (first + k) = l[k] % 2 ^ (8 * size)) ∧ u.mem = s.mem ∧ u.key = s.key) ∧
  (∀ (t : Time) (h : RecHdr) (wrap id : Nat) (ephemeral blob : BitVec 512) (p : KeyPlain) (r : KeyRec) (s : State), recordRuns 5 h s = true →
    wrap ≤ 1 → blobPlain s wrap ephemeral blob = some p →
    persistent p.cls = true → keyIdOk p.cls id = true → p.id = id → plainOk p 0 = true → blobResult s p = .inr (some r) →
    ∃ u, exec (.keyBlob t h p.cls wrap id ephemeral blob) s = .next u ∧ u.start.record = s.start.record + 1 ∧
      u = { s with clock := u.clock, hlt := u.hlt, regs := u.regs, key := { s.key with jobs := u.key.jobs }, start := u.start } ∧
      u.key.jobs.map (fun j => (j.cause, j.record)) = s.key.jobs.map (fun j => (j.cause, j.record)) ++ [(KeyCause.blob, r)]) ∧
  (∀ (t : Time) (h : RecHdr) (a m v : Word) (timeout : Nat) (s : State), recordRuns 6 h s = true →
    sectionBlock s a.toNat = true →
    ∃ u, exec (.waitUntil t h a m v timeout) s = .next u ∧
      (regShown (s.arrive t) a.toNat &&& m = v → u.start.waiting = none ∧ u.start.record = s.start.record + 1) ∧
      (regShown (s.arrive t) a.toNat &&& m ≠ v →
        u.start.waiting = some ⟨a, m, v, (s.arrive t).clock.now + us timeout⟩ ∧ u.start.record = s.start.record) ∧
      u = { s with clock := u.clock, hlt := u.hlt, start := u.start }) ∧
  (∀ (t : Time) (h : RecHdr) (a m v : Word) (op : Nat) (s : State), recordRuns 7 h s = true → sectionBlock s a.toNat = true → op ≤ 3 →
    checkHolds op ((readAs .loader a.toNat (s.arrive t)).1 &&& m) v = some true →
    ∃ u, exec (.check t h a m v op) s = .next u ∧ u.start.record = s.start.record + 1 ∧ u.mem = s.mem ∧ u.key = s.key) ∧
  (∀ (t : Time) (h : RecHdr) (region oldF newF newO newL oldO oldL : Nat) (g : ImageHdr) (x : Nat × Nat) (s : State),
    recordRuns 8 h s = true → s.start.image = some g → g.layout[region]? = some x → (region = 1 ∨ region = 2 ∨ region = 3) →
    newO + newL ≤ x.2 → (newO + newL ≤ oldO ∨ oldO + oldL ≤ newO) →
    ∃ u, exec (.formatNote t h region oldF newF newO newL oldO oldL) s = .next u ∧ u.start.record = s.start.record + 1 ∧
      u.start.notes = s.start.notes ++ [⟨region, oldF, newF, newO, newL⟩] ∧
      u = { s with clock := u.clock, hlt := u.hlt, start := { s.start with record := u.start.record, notes := u.start.notes } }) ∧
  (∀ (t : Time) (h : RecHdr) (w : List (Word × Word)) (s : State), recordRuns 8 { h with type := 8 } s = true → 8 < h.type →
    h.inside = true → h.sameHash = true → h.optional = true →
    ∃ u, exec (.regWrite t h w) s = .next u ∧ u.start.record = s.start.record + 1 ∧
      u.count cBootRecSkip 0 = min 0xFFFFFFFF (s.count cBootRecSkip 0 + 1) ∧
      u = { s with clock := u.clock, hlt := u.hlt, regs := u.regs, start.record := u.start.record }) ∧
  (∀ (t : Time) (s : State) (w : Waiting) (b : Bool), startStill s = false → s.start.phase = .p5 → s.start.waiting = some w →
    startPoll (s.arrive t) = s.arrive t → s.start.second = some b →
    ∃ u, exec (.waitUntilTimeout t) s = .next u ∧ u.start.phase = .p3 ∧ u.start.slot = b ∧ u.start.failCode = 0x32 ∧
      u.start.failRecord = BitVec.ofNat 32 s.start.record ∧ u.start.waiting = none)

/-- The rest of the start (R51, R63, R64, R65, R73, R77, R86, R87, R431): BOOT_ENGINE_READY and its bound, the bounds of the phases, the
ends of P7 and P8, and the release of a solo device that retains nothing. The failure code 0x21 of P4 is DESIGN CHOICE (log entry 13). -/
def Obligations.StartEnds : Prop :=
  (∀ (t : Time) (e : Nat) (s : State), e < 12 → startPoll (s.arrive t) = s.arrive t → startStill s = false → s.hlt.frozen = false →
    (s.engine e).running = true → s.start.phase = .p6 → (engineReady e (s.arrive t)).fld rBootEngineReady 0 12 ≠ 0xFFF →
    ∃ u, exec (.bootEngineReadyWrite t e) s = .next u ∧
      u.reg rBootEngineReady = s.reg rBootEngineReady ||| BitVec.ofNat 32 (bitsOf (coreAndShadow s e) fun _ => true) ∧
      u = { s with clock := u.clock, hlt := u.hlt, regs := u.regs }) ∧
  (∀ (t : Time) (b : Bool) (s : State), startPoll (s.arrive t) = s.arrive t → startStill s = false → s.start.phase = .p6 →
    s.start.second = some b →
    ∃ u, exec (.engineTimeout t) s = .next u ∧ u.start.phase = .p3 ∧ u.start.slot = b ∧ u.start.second = none ∧
      u.start.failCode = 0x40 ∧ u.msys.engines = []) ∧
  (∀ (t : Time) (s : State), startPoll (s.arrive t) = s.arrive t → startStill s = false → s.start.phase = .p6 →
    s.start.second = none →
    ∃ u, exec (.engineTimeout t) s = .next u ∧ u.start.phase = .halted ∧ u.start.failCode = 0x40 ∧ u.pins.ready = false ∧
      ∀ x ∈ u.msys.engines, x.2.running = false) ∧
  (∀ (t : Time) (s : State), startPoll (s.arrive t) = s.arrive t → startStill s = false →
    ∃ u, exec (.phaseBoundExpire t) s = .next u ∧
      (s.start.phase = .p1 → u.start.phase = .halted ∧ u.start.failCode = 0x01) ∧
      (s.start.phase = .p2 → u.start.phase = .halted ∧ u.start.failCode = 0x02) ∧
      (s.start.phase = .p3 → s.start.second = none → u.start.phase = .halted ∧ u.start.failCode = 0x16) ∧
      (s.start.phase = .p4 → s.start.waiting = none → u.start.phase = .halted ∧ u.start.failCode = 0x21) ∧
      (s.start.phase = .p5 → s.start.second = none → u.start.phase = .halted ∧ u.start.failCode = 0x32) ∧
      (s.start.phase = .p6 → s.start.second = none → u.start.phase = .halted ∧ u.start.failCode = 0x40)) ∧
  (∀ (t : Time) (s : State), startPoll (s.arrive t) = s.arrive t → startStill s = false → s.start.phase = .p7 →
    s.start.linkDone = false →
    ∃ u, exec (.fhLinkupTimeout t) s = .next u ∧
      (pairMode s = false → u.start.linkDone = true ∧ u.start.phase = .p7) ∧ (pairMode s = true → u.start.phase = .p8) ∧
      u = { s with clock := u.clock, hlt := u.hlt, start := u.start, regs := u.regs }) ∧
  (∀ (t : Time) (low : Bool) (s : State), s.start.phase = .p8 → s.pair.state = .unpaired → s.start.linkDone = false →
    ∃ u, exec (.pairAbsent t low) s = .next u ∧ u.start.linkDone = true ∧ u.pair.absent = true ∧
      u.pair.partnerLow = low ∧ (low = true → u.pair.state = .detached) ∧ (low = false → u.pair.state = .active)) ∧
  (∀ (t : Time) (low : Bool) (s : State), s.start.phase = .p8 → s.pair.state = .excluded → s.start.linkDone = false →
    ∃ u, exec (.pairAbsent t low) s = .next u ∧ u.start.linkDone = true ∧
      u = { s with clock := u.clock, hlt := u.hlt, start := { s.start with linkDone := true } }) ∧
  (∀ (t : Time) (s : State), startPoll (s.arrive t) = s.arrive t → startStill s = false → releasable s = true → s.start.retained = false →
    pairMode s = false → s.upd.state ≠ .activated → s.start.errA = false → s.start.errB = false →
    ∃ u, exec (.release t []) s = .next u ∧ u.start.phase = .p9 ∧ u.start.reachedP9 = true ∧ u.pins.ethOn = true ∧
      u.pins.ready = true ∧ u.pair.state = .solo ∧ u.holdsToken = true ∧ u.hlt.armed = true ∧
      u.sch.released = (s.arrive t).clock.now ∧ u.fry.adverts = 3 ∧ u.mem = s.mem ∧ u.flash = { s.flash with epochCeiling := u.flash.epochCeiling })

/-- Clocks, fuses and zeroisation (R58, R60, R78, R87, R296, R417, R480, R507): a clock generator that loses lock raises FATAL after P9
and holds its island before; the SDSCLK inputs; the fuses that FUSE_PROG and JTAG may programme, and the attempts that are refused; the
zeroised Key island; the confirmation steps that are retried. -/
def Obligations.ClocksAndFuses : Prop :=
  (∀ (t : Time) (i : Nat) (s : State), 1 ≤ i → i ≤ 7 → s.start.porstLow = false →
    ∃ u, exec (.pllLockLoss t i) s = .next u ∧ u.start.pllLost.getLsbD i = true ∧
      (s.start.phase = .p9 → s.hlt.frozen = false → s.hlt.armed = true →
        u.hlt.frozen = true ∧ u.hlt.cause = 1 ∧ u.hlt.causeUnit = 3 * 2048 ∧ u.pins.ready = false) ∧
      (s.start.phase ≠ .p9 → u = { s with clock := u.clock, hlt := u.hlt, start := { s.start with pllLost := u.start.pllLost } })) ∧
  (∀ (t : Time) (k : Nat) (s : State), k < 4 → s.start.sdsLost.getLsbD k = false → s.start.phase ≠ .p9 →
    ∃ u, exec (.sdsclkLoss t k) s = .next u ∧ u.start.sdsLost = s.start.sdsLost ||| BitVec.ofNat 4 (2 ^ k) ∧
      u = { s with clock := u.clock, hlt := u.hlt, start := { s.start with sdsLost := u.start.sdsLost } }) ∧
  (∀ (t : Time) (k : Nat) (s : State), k < 4 → s.start.sdsLost.getLsbD k = false → s.start.phase = .p9 → s.start.porstLow = false →
    s.fld rClkCtrl k 1 = 1 →
    ∃ u, exec (.sdsclkLoss t k) s = .next u ∧ u.start.sdsLost = s.start.sdsLost ||| BitVec.ofNat 4 (2 ^ k) ∧ u.mem = s.mem ∧
      u.key = s.key ∧ u.upd = s.upd) ∧
  (∀ (t : Time) (k : Nat) (s : State), k < 4 → startStill s = true ∨ s.start.phase = .p9 →
    ∃ u, exec (.sdsclkReturn t k) s = .next u ∧ u.start.sdsLost = s.start.sdsLost &&& ~~~BitVec.ofNat 4 (2 ^ k) ∧
      u = { s with clock := u.clock, hlt := u.hlt, start := { s.start with sdsLost := u.start.sdsLost } }) ∧
  (∀ (t : Time) (e bit : Nat) (revoke : Bool) (s : State), bit < 64 → s.start.porstLow = false → s.hlt.frozen = false → e < 4 →
    s.start.phase = .p9 → s.start.fuseBusy = none → (if revoke then bit < 4 else bit = rollbackCount s) →
    ∃ u, exec (.fuseProgGo t (.engine e) bit revoke) s = .next u ∧
      u.start.fuseBusy = some (if revoke then (129, 4 + bit) else (130 + bit / 32, bit % 32)) ∧
      u.reg rFuseProg = BitVec.ofNat 32 (bit + revoke.toNat * 64) ∧
      u = { s with clock := u.clock, hlt := u.hlt, regs := u.regs, start := { s.start with fuseBusy := u.start.fuseBusy } }) ∧
  (∀ (t : Time) (e bit : Nat) (revoke : Bool) (s : State), bit < 64 → s.start.porstLow = false → s.hlt.frozen = false →
    s.start.fuseBusy.isSome = true →
    ∃ u, exec (.fuseProgGo t (.engine e) bit revoke) s = .next u ∧
      u.count cFuseProgRefuse 0 = min 0xFFFFFFFF (s.count cFuseProgRefuse 0 + 1) ∧
      u = { s with clock := u.clock, hlt := u.hlt, regs := u.regs }) ∧
  (∀ (t : Time) (w b : Nat) (s : State), s.start.fuseBusy = some (w, b) →
    ∃ u, exec (.fuseProgDone t) s = .next u ∧ u.start.fuseBusy = none ∧
      sget (fun _ => (0 : Word)) u.start.fuses w = sget (fun _ => (0 : Word)) s.start.fuses w ||| BitVec.ofNat 32 (2 ^ b) ∧
      (∀ n, n ≠ w → sget (fun _ => (0 : Word)) u.start.fuses n = sget (fun _ => (0 : Word)) s.start.fuses n) ∧
      u = { s with clock := u.clock, hlt := u.hlt, start := u.start } ∧
      u.start = { s.start with fuseBusy := none, fuses := u.start.fuses, shadow := u.start.shadow }) ∧
  (∀ (t : Time) (w b : Nat) (s : State), w < 256 → b < 32 → s.start.porstLow = false → s.start.phase = .hold →
    s.start.zeroising = false → jtagField s w b = true → (fuseWord s w).getLsbD b = false →
    ∃ u, exec (.jtagFuseProgram t w b) s = .next u ∧
      sget (fun _ => (0 : Word)) u.start.fuses w = sget (fun _ => (0 : Word)) s.start.fuses w ||| BitVec.ofNat 32 (2 ^ b) ∧
      u = { s with clock := u.clock, hlt := u.hlt, start := { s.start with fuses := u.start.fuses, shadow := u.start.shadow } }) ∧
  (∀ (t : Time) (w b : Nat) (s : State), w < 256 → b < 32 → s.start.porstLow = false → s.start.phase ≠ .hold →
    ∃ u, exec (.jtagFuseProgram t w b) s = .next u ∧
      u.count cFuseProgRefuse 0 = min 0xFFFFFFFF (s.count cFuseProgRefuse 0 + 1) ∧ u.start.fuses = s.start.fuses ∧
      u = { s with clock := u.clock, hlt := u.hlt, regs := u.regs }) ∧
  (∀ (t : Time) (s : State), s.start.porstLow = false →
    ∃ u, exec (.jtagZeroise t) s = .next u ∧ u.start.zeroising = true ∧
      u = { s with clock := u.clock, hlt := u.hlt, start := { s.start with zeroising := true } }) ∧
  (∀ (t : Time) (s : State), s.start.zeroising = true →
    ∃ u, exec (.zeroiseDone t) s = .next u ∧ u.key.zeroised = true ∧ u.key.keys = [] ∧ u.key.root = none ∧ u.key.devKek = none ∧ u.start.devpub = 0 ∧
      (s.start.phase = .p9 → s.hlt.frozen = false → s.hlt.armed = true →
        u.hlt.frozen = true ∧ u.hlt.cause = 6 ∧ u.hlt.causeUnit = 15 * 2048) ∧
      (s.start.phase ≠ .p9 → u.start.phase = .halted ∧ u.start.failCode = 0x04)) ∧
  (∀ (t : Time) (other : Bool) (s : State), s.inService = true → s.start.confirmed = true → s.start.image.isSome = true →
    s.pair.state = .solo →
    ∃ u, exec (.confirmRetryCheck t other true true) s = .next u ∧ u.start.fuses = (rollbackUp (s.arrive t)).start.fuses ∧
      u.mem = s.mem ∧ u.regs = s.regs)

/-- The line of a fronthaul port (R88, R93, R103, R104): DOWN, BLOCK_LOCK, FRAME_LOCK, DELAY, UP, RECOVER and FAULT, what moves a port
between them, and that every other port stands. -/
def Obligations.FronthaulLine : Prop :=
  (∀ (t : Time) (p : Nat) (s : State), p < 32 → s.portRuns p = true → (s.port p).state = .down → s.clamp p = {} →
    (s.port p).retryAt ≤ (s.arrive t).clock.now → (s.hlt.jigPort.any fun x => x.2 == p) = false →
    ∃ u, exec (.fhSignalDetect t p) s = .next u ∧ (u.port p).state = .blockLock ∧ (u.port p).signal = true ∧
      (u.port p).since = (s.arrive t).clock.now ∧ (u.clamp p).holder = 3 ∧ (∀ q, q ≠ p → u.port q = s.port q) ∧
      u = { s with clock := u.clock, hlt := u.hlt, fh := u.fh }) ∧
  (∀ (t : Time) (p : Nat) (l : List (BitVec 2)) (s : State), p < 32 → s.portRuns p = true → (s.port p).state = .blockLock →
    (s.port p).blockLock = false → (s.port p).hdrRun + l.length = 64 → (∀ h ∈ l, syncValid h = true) → l ≠ [] → (s.clamp p).waiting = [] →
    ∃ u, exec (.fhBlockLock t p l) s = .next u ∧ (u.port p).state = .frameLock ∧ (u.port p).blockLock = true ∧
      (u.port p).since = (s.arrive t).clock.now ∧ (s.clamp p = { holder := 3 } → u.clamp p = {}) ∧
      (∀ q, q ≠ p → u.port q = s.port q) ∧ u = { s with clock := u.clock, hlt := u.hlt, fh := u.fh }) ∧
  (∀ (t : Time) (p : Nat) (h : BitVec 2) (s : State), p < 32 → s.portRuns p = true → (s.port p).blockLock = false →
    syncValid h = false →
    ∃ u, exec (.fhBlockLock t p [h]) s = .next u ∧ u.port p = { s.port p with hdrRun := 0 } ∧
      (∀ q, q ≠ p → u.port q = s.port q) ∧ u = { s with clock := u.clock, hlt := u.hlt, fh := u.fh }) ∧
  (∀ (t : Time) (p : Nat) (l : List (BitVec 2)) (s : State), p < 32 → s.portRuns p = true → (s.port p).state = .up →
    (s.port p).blockLock = true → (s.port p).hdrBad + l.length = 16 → (s.port p).hdrSeen + l.length ≤ 64 →
    (∀ h ∈ l, syncValid h = false) → l ≠ [] →
    ∃ u, exec (.fhBlockLock t p l) s = .next u ∧ (u.port p).state = .recover ∧ (u.port p).blockLock = false ∧
      (u.port p).frameLock = false ∧ (u.port p).samplesOk = false ∧ (∀ q, q ≠ p → u.port q = s.port q) ∧ u.mem = s.mem ∧
      u.key = s.key ∧ u.cal = s.cal) ∧
  (∀ (t : Time) (p : Nat) (l : List (BitVec 2)) (s : State), p < 32 → s.portRuns p = true → (s.port p).state ≠ .up →
    (s.port p).blockLock = true → (s.port p).hdrBad + l.length = 16 → (s.port p).hdrSeen + l.length ≤ 64 →
    (∀ h ∈ l, syncValid h = false) → l ≠ [] →
    ∃ u, exec (.fhBlockLock t p l) s = .next u ∧ (u.port p).state = (s.port p).state ∧ (u.port p).blockLock = false ∧
      (u.port p).frameLock = false ∧ (∀ q, q ≠ p → u.port q = s.port q) ∧ u = { s with clock := u.clock, hlt := u.hlt, fh := u.fh }) ∧
  (∀ (t : Time) (p : Nat) (s : State), p < 32 → (s.port p).state = .blockLock →
    (s.port p).since + ms 10 ≤ (s.arrive t).clock.now →
    ∃ u, exec (.fhBlockLockTimeout t p) s = .next u ∧ (u.port p).state = .down ∧ (u.port p).fromDown = true ∧
      (u.port p).blockLock = false ∧ u.count cFhTrainFail p = min 0xFFFFFFFF (s.count cFhTrainFail p + 1) ∧
      (∀ q, q ≠ p → u.port q = s.port q) ∧ u.mem = s.mem) ∧
  (∀ (t : Time) (p : Nat) (w : BitVec 64) (s : State), p < 32 → s.portRuns p = true → (s.port p).blockLock = true →
    cbGood true w = true → cbField w 50 4 % 2 = 0 → (s.port p).state ≠ .frameLock →
    ∃ u, exec (.fhControlBlockRx t p true w) s = .next u ∧ (u.port p).headStatus = BitVec.ofNat 32 (cbField w 10 32) ∧
      (u.port p).badRun = 0 ∧ (u.port p).goodRun = (s.port p).goodRun + 1 ∧ (u.port p).state = (s.port p).state ∧
      (∀ q, q ≠ p → u.port q = s.port q) ∧ u = { s with clock := u.clock, hlt := u.hlt, fh := u.fh, regs := u.regs }) ∧
  (∀ (t : Time) (p : Nat) (w : BitVec 64) (s : State), p < 32 → s.portRuns p = true → (s.port p).blockLock = true →
    cbGood true w = true → cbField w 50 4 % 2 = 0 → (s.port p).state = .frameLock → 3 ≤ (s.port p).goodRun → cbField w 56 8 = 0x5A →
    ∃ u, exec (.fhControlBlockRx t p true w) s = .next u ∧ (u.port p).state = .delay ∧ (u.port p).frameLock = true ∧
      (u.port p).rtts = [] ∧ (∀ q, q ≠ p → u.port q = s.port q) ∧
      u = { s with clock := u.clock, hlt := u.hlt, fh := u.fh, regs := u.regs }) ∧
  (∀ (t : Time) (p : Nat) (w : BitVec 64) (s : State), p < 32 → s.portRuns p = true → (s.port p).blockLock = true →
    (s.port p).frameLock = true → w.truncate 8 ≠ crc8 w → (s.port p).badRun < 3 →
    ∃ u, exec (.fhControlBlockRx t p true w) s = .next u ∧ (u.port p).badRun = (s.port p).badRun + 1 ∧
      u.count cFhCbCrc p = min 0xFFFFFFFF (s.count cFhCbCrc p + 1) ∧ (u.port p).frameLock = true ∧
      (∀ q, q ≠ p → u.port q = s.port q) ∧ u = { s with clock := u.clock, hlt := u.hlt, fh := u.fh, regs := u.regs }) ∧
  (∀ (t : Time) (p : Nat) (s : State), p < 32 → (s.port p).state = .recover → (s.port p).since + sec 1 ≤ (s.arrive t).clock.now →
    ∃ u, exec (.fhRecoverTimeout t p) s = .next u ∧ (u.port p).state = .down ∧ (∀ q, q ≠ p → u.port q = s.port q) ∧
      u.mem = s.mem ∧ u.regs = s.regs) ∧
  (∀ (t : Time) (p : Nat) (s : State), p < 32 → (s.port p).state = .fault → (s.port p).since + sec 1 ≤ (s.arrive t).clock.now →
    ∃ u, exec (.fhFaultTimeout t p) s = .next u ∧ (u.port p).state = .down ∧ (∀ q, q ≠ p → u.port q = s.port q) ∧
      u.mem = s.mem ∧ u.regs = s.regs) ∧
  (∀ (t : Time) (p : Nat) (s : State), p < 32 → (s.port p).state = .up →
    ∃ u, exec (.fhLossOfSignal t p) s = .next u ∧ (u.port p).state = .recover ∧ (u.port p).signal = false ∧
      (u.port p).blockLock = false ∧ (u.port p).frameLock = false ∧ (∀ q, q ≠ p → u.port q = s.port q) ∧ u.mem = s.mem ∧
      u.key = s.key)

/-- Times, frames and the mailbox of a fronthaul port, and its loopback (R89, R92, R94, R96, R99, R103, R105, R106, R107, R114). -/
def Obligations.FronthaulTraffic : Prop :=
  (∀ (t : Time) (p : Nat) (rx : Time) (arrivals : List Time) (s : State), p < 32 → s.portRuns p = true →
    (s.port p).frameLock = true → (s.port p).state = .time → (s.port p).timeMode = .loaded →
    (s.port p).timeSeen = true → headTimeOk (s.arrive t) p rx = true →
    ∃ u, exec (.fhSuperframeRx t p rx arrivals) s = .next u ∧ (u.port p).state = .map ∧
      (u.port p).rxLag = rxLagOf (s.port p) arrivals ∧ (u.port p).counts = [] ∧
      ((u.port p).mbx.map fun c => (c.op, c.address)) = some (2, 1) ∧ (∀ q, q ≠ p → u.port q = s.port q) ∧
      u = { s with clock := u.clock, hlt := u.hlt, fh := u.fh, regs := u.regs }) ∧
  (∀ (t : Time) (p : Nat) (groups : List (List Word)) (s : State), p < 32 → s.portRuns p = true → (s.port p).state ≠ .down →
    (s.port p).state ≠ .fault → s.hlt.frozen = false →
    ∃ u, exec (.fhFrameTx t p groups) s = .next u ∧ (u.port p).frameNo = ((s.port p).frameNo + 1) % 16 ∧
      (u.port p).grantSent = ((s.port p).state == .up && (s.arrive t).grants && (s.port p).epochSent == some s.pair.epoch) ∧
      (∀ q, q ≠ p → u.port q = s.port q) ∧ u.sent.length = s.sent.length + 1 ∧
      u = { s with clock := u.clock, hlt := u.hlt, fh := u.fh, pool := u.pool, sent := u.sent }) ∧
  (∀ (t : Time) (p : Nat) (groups : List (List Word)) (s : State), p < 32 → s.hlt.frozen = true → s.fldAt rFhPortCtrl p 0 1 = 1 →
    s.start.islands.getLsbD 1 = true → (s.port p).state ≠ .down → (s.port p).state ≠ .fault →
    ∃ u, exec (.fhFrameTx t p groups) s = .next u ∧ u.sent = .fhFrame p (frozenFrame (s.arrive t) p) :: s.sent ∧
      u = { s with clock := u.clock, hlt := u.hlt, sent := u.sent }) ∧
  (∀ (t : Time) (p : Nat) (s : State), p < 32 → (s.port p).state = .time → (s.port p).since + ms 10 ≤ (s.arrive t).clock.now →
    ∃ u, exec (.fhTimeTimeout t p) s = .next u ∧ (u.port p).state = .fault ∧ (u.port p).cause = 3 ∧
      (∀ q, q ≠ p → u.port q = s.port q) ∧ u = { s with clock := u.clock, hlt := u.hlt, fh := u.fh }) ∧
  (∀ (t : Time) (p : Nat) (hdr : Word) (c : MbxCmd) (s : State), p < 32 → s.sampleUp = true → (s.port p).mbx = some c → c.op = 3 →
    (s.port p).mbxIn = [hdr] → hdr.toNat / 2 ^ 24 = 3 → hdr.toNat / 2 ^ 16 % 256 = c.seq →
    ∃ u, exec (.fhMbxReply t p) s = .next u ∧ (u.port p).mbx = none ∧ (u.port p).mbxIn = [] ∧
      (u.port p).timeMode = (if hdr.toNat % 2 ^ 16 = 0 then .loaded else .adopting) ∧ (∀ q, q ≠ p → u.port q = s.port q) ∧
      u = { s with clock := u.clock, hlt := u.hlt, fh := u.fh }) ∧
  (∀ (t : Time) (p : Nat) (c : MbxCmd) (x : Time) (s : State), p < 32 → s.sampleUp = true → (s.port p).mbx = some c →
    c.sentAt = some x → x + ms 1 ≤ (s.arrive t).clock.now → (s.port p).state ≠ .up →
    ∃ u, exec (.fhMbxTimeout t p) s = .next u ∧ u.count cFhMbxTimeout p = min 0xFFFFFFFF (s.count cFhMbxTimeout p + 1) ∧
      (c.timeouts < 3 → (u.port p).mbx.map (fun d => (d.op, d.seq, d.address, d.timeouts, d.sentAt)) = some (c.op, c.seq, c.address, c.timeouts + 1, none) ∧
        (c.op ≠ 3 → (u.port p).mbxOut = mbxHeader c.op c.seq c.address :: c.words) ∧ (u.port p).state = (s.port p).state) ∧
      (3 ≤ c.timeouts → (u.port p).state = .fault ∧ (u.port p).cause = 5 ∧ (u.port p).mbx = none) ∧
      (∀ q, q ≠ p → u.port q = s.port q) ∧ u = { s with clock := u.clock, hlt := u.hlt, fh := u.fh, regs := u.regs }) ∧
  (∀ (t : Time) (p : Nat) (loop : BitVec 2) (s : State), p < 32 → s.sampleUp = true → loop ≠ 0 → (s.clamp p).holder = 1 →
    s.fldAt rFhPortCtrl p 0 1 = 1 →
    ∃ u, exec (.fhLoopWrite t p loop) s = .next u ∧ (u.port p).state = .loop ∧ (u.port p).samplesOk = false ∧ u.mem = s.mem ∧
      u.key = s.key) ∧
  (∀ (t : Time) (p : Nat) (loop : BitVec 2) (s : State), p < 32 → s.sampleUp = true → loop ≠ 0 → (s.clamp p).holder ≠ 1 →
    ∃ u, exec (.fhLoopWrite t p loop) s = .next u ∧ u.count cFhLoopRefuse p = min 0xFFFFFFFF (s.count cFhLoopRefuse p + 1) ∧
      u = { s with clock := u.clock, hlt := u.hlt, regs := u.regs }) ∧
  (∀ (t : Time) (p : Nat) (s : State), p < 32 → s.sampleUp = true → (s.port p).state = .loop →
    ∃ u, exec (.fhLoopWrite t p 0) s = .next u ∧ (u.port p).state = .down ∧ (∀ q, q ≠ p → u.port q = s.port q) ∧ u.mem = s.mem) ∧
  (∀ (t : Time) (p : Nat) (s : State), p < 4 → s.sampleUp = true →
    ∃ u, exec (.anaLoopWrite t p 0) s = .next u ∧ u.fldAt rAnaPortCtrl p 6 2 = 0 ∧ u.mem = s.mem ∧ u.key = s.key ∧
      u.fh = s.fh) ∧
  (∀ (t : Time) (p : Nat) (loop : BitVec 2) (s : State), p < 4 → s.sampleUp = true → loop ≠ 0 → (s.clamp (32 + p)).holder ≠ 1 →
    ∃ u, exec (.anaLoopWrite t p loop) s = .next u ∧ u.count cAnaLoopRefuse p = min 0xFFFFFFFF (s.count cAnaLoopRefuse p + 1) ∧
      u = { s with clock := u.clock, hlt := u.hlt, regs := u.regs }) ∧
  (∀ (t : Time) (d st p : Nat) (e : Word) (a : List Byte) (s : State), s.argsOf d 5 = some a → s.sampleUp = true → s.pool = [] →
    octetAt a 0 = st → st < 128 → BitVec.ofNat 32 (beAt a 4 4) = e → entryPort e.toNat = some p → (s.port p).state = .up →
    ∃ u, exec (.poolEntry t d) s = .next u ∧ u.entry tFhPool st = e.toNat % 2 ^ 31 ∧ ¬ st ∈ u.chn.valid ∧
      (u.pool.map fun r => (r.stream, r.entry, r.dsn, r.since, r.begun)) = [(st, e, d, (s.arrive t).clock.now, true)] ∧
      (∃ r ∈ u.pool, ⟨p, 0, 0, false⟩ ∈ r.waits) ∧ u.mem = s.mem ∧ u.dl = s.dl)

/-- The channeliser's generations, the noise floor and the detections (R140, R141, R142, R148, R150, R152, R153, R154, R155, R158): a
generation change claims units or waits and is counted; at S the new units are live; a detection opens a window, merges or is masked; a
window gives one record, and its mask ends. -/
def Obligations.ChanneliserAndSearch : Prop :=
  (∀ (t : Time) (h : Nat) (s : State), h < 36 → s.sampleUp = true → calWantsChange h s = true → s.chn.changes = [] →
    (validStreams s h).length ≤ (freeUnits (s.arrive t)).length → s.hlt.test = none →
    ∃ u, exec (.chnGenRequest t h) s = .next u ∧
      u.chn.changes.map (fun c => (c.head, c.gen, c.begun)) = [(h, (calRxGen h s + 1) % 256, false)] ∧
      (∀ c ∈ u.chn.changes, c.sAt.isSome = true) ∧ u.chn.valid = s.chn.valid ∧
      u = { s with clock := u.clock, hlt := u.hlt, chn := u.chn }) ∧
  (∀ (t : Time) (h : Nat) (s : State), h < 36 → s.sampleUp = true → calWantsChange h s = true → s.chn.changes = [] →
    (freeUnits (s.arrive t)).length < (validStreams s h).length →
    ∃ u, exec (.chnGenRequest t h) s = .next u ∧
      u.chn.changes.map (fun c => (c.head, c.gen, c.sAt)) = [(h, (calRxGen h s + 1) % 256, none)] ∧ u.chn.units = (retireIdle (s.arrive t)).chn.units ∧
      u.count cChnGenDefer 0 = min 0xFFFFFFFF (s.count cChnGenDefer 0 + 1) ∧
      u = { s with clock := u.clock, hlt := u.hlt, chn := u.chn, regs := u.regs }) ∧
  (∀ (t : Time) (h k g look : Nat) (a ask : Time) (s : State), h < 36 → changeOf s h = some ⟨k, g, some a, look, false, ask⟩ →
    a ≤ (s.arrive t).clock.now + samples (1536 + look) → s.sampleUp = true →
    ∃ u, exec (.chnUnitStart t h) s = .next u ∧ (u.headCal h).frozen = some (s.headCal h).cand ∧
      (∀ c ∈ u.chn.changes, c.head = h → c.begun = true) ∧ u.chn.valid = s.chn.valid ∧
      u = { s with clock := u.clock, hlt := u.hlt, chn := u.chn, cal := u.cal }) ∧
  (∀ (t : Time) (h k g look : Nat) (a ask : Time) (s : State), h < 36 → changeOf s h = some ⟨k, g, some a, look, true, ask⟩ →
    a ≤ (s.arrive t).clock.now → s.sampleUp = true →
    ∃ u, exec (.chnSwitchPoint t h) s = .next u ∧ calRxGen h u = g ∧ (u.headCal h).pending = false ∧
      (u.headCal h).rx = (s.headCal h).frozen.getD (s.headCal h).cand ∧ u.chn.valid = s.chn.valid ∧ u.mem = s.mem ∧ u.lane = s.lane ∧
      u.det = s.det) ∧
  (∀ (t : Time) (n st g : Nat) (since : Time) (s : State), n < 144 → s.unit n = .retiring st g since →
    since + sec 6 ≤ (s.arrive t).clock.now → s.sampleUp = true → s.chn.changes = [] →
    (s.lane.lanes.filter fun x => laneOn st g x.2 && (laneReads x.2.state || x.2.state == .exporting)) = [] →
    ∃ u, exec (.chnRetireExpire t n) s = .next u ∧ u.unit n = .free ∧ (∀ m, m ≠ n → u.unit m = (retireIdle (s.arrive t)).unit m) ∧
      u = { s with clock := u.clock, hlt := u.hlt, chn := u.chn }) ∧
  (∀ (t : Time) (st b : Nat) (s : State), st < 128 → b < 128 → s.sampleUp = true → binsValid (s.arrive t) st = true →
    (sget floorReset s.det.floors (st * 128 + b)).2 + us 819200 ≤ (s.arrive t).clock.now →
    ∃ u, exec (.noiseFloorRise t st b []) s = .next u ∧
      sget floorReset u.det.floors (st * 128 + b) =
        (floorRise (sget floorReset s.det.floors (st * 128 + b)).1, (s.arrive t).clock.now) ∧
      u = { s with clock := u.clock, hlt := u.hlt, det := { s.det with floors := u.det.floors } }) ∧
  (∀ (t : Time) (st b p : Nat) (s : State), st < 128 → b < 128 → s.sampleUp = true → binsValid (s.arrive t) st = true →
    s.tail st + 50000 ≤ (s.arrive t).clock.now → (floorSample (sget floorReset s.det.floors (st * 128 + b)).1 p).2 = true →
    ∃ u, exec (.noiseFloorRise t st b [p]) s = .next u ∧
      sget floorReset u.det.floors (st * 128 + b) =
        ((floorSample (sget floorReset s.det.floors (st * 128 + b)).1 p).1, (s.arrive t).clock.now) ∧
      u = { s with clock := u.clock, hlt := u.hlt, det := { s.det with floors := u.det.floors } }) ∧
  (∀ (t : Time) (h : Hypothesis) (d : Detection) (s : State), h.stream < 128 → h.bin < 128 → h.slot < 12 → s.sampleUp = true →
    d = detectionOf (s.arrive t) h → binsValid (s.arrive t) h.stream = true → slotOn s h.stream h.slot = true →
    sliceWorks s h.stream = true → h.freq.natAbs ≤ 80000 + 1000 * window s h.slot → threshold s h.slot ≤ d.metric →
    ∃ u, exec (.detection t h) s = .next u ∧
      (s.det.windows.find? (fun w => sameIdentity s w.best d && sameTime s w.best d) = none →
        s.det.masks.find? (fun m => sameIdentity s m.det d) = none →
        u.det.windows = s.det.windows ++ [⟨d, (genOf (s.arrive t) h).1, 0, false, false, (s.arrive t).clock.now⟩] ∧ u.regs = s.regs) ∧
      (((s.det.windows.find? fun w => sameIdentity s w.best d && sameTime s w.best d).isSome) = true →
        u.count cDetMerged d.stream = min 0xFFFFFFFF (s.count cDetMerged d.stream + 1) ∧
        u.det.windows.length = s.det.windows.length) ∧
      u = { s with clock := u.clock, hlt := u.hlt, det := u.det, regs := u.regs, lane := u.lane }) ∧
  (∀ (t : Time) (st : Nat) (w : MergeWin) (s : State), st < 128 → s.det.windows.find? (fun w => w.best.stream == st) = some w →
    w.since + 98 ≤ (s.arrive t).clock.now → s.sampleUp = true → s.det.fifo.length < 1024 →
    ∃ u, exec (.detRecordIssue t st) s = .next u ∧ u.det.windows = s.det.windows.erase w ∧ u.det.seq = (s.det.seq + 1) % 2 ^ 32 ∧
      u.det.fifo = s.det.fifo ++ [⟨w.best, slotMode s w.best.slot, w.gen, w.redetect, w.family, w.merged, s.det.seq⟩] ∧
      ⟨w.best, s.det.seq, (s.arrive t).clock.now⟩ ∈ u.det.masks ∧ u = { s with clock := u.clock, hlt := u.hlt, det := u.det, regs := u.regs }) ∧
  (∀ (t : Time) (st : Nat) (w : MergeWin) (s : State), st < 128 → s.det.windows.find? (fun w => w.best.stream == st) = some w →
    w.since + 98 ≤ (s.arrive t).clock.now → s.sampleUp = true → 1024 ≤ s.det.fifo.length → spareWarming s (st / 4) = false →
    ∃ u, exec (.detRecordIssue t st) s = .next u ∧ u.det.windows = s.det.windows.erase w ∧ u.det.fifo = s.det.fifo ∧
      u.count cDetRecordOvf 0 = min 0xFFFFFFFF (s.count cDetRecordOvf 0 + 1) ∧
      u = { s with clock := u.clock, hlt := u.hlt, det := u.det, regs := u.regs }) ∧
  (∀ (t : Time) (st i : Nat) (m : Mask) (s : State), st < 128 → (s.det.masks.filter fun m => m.det.stream == st)[i]? = some m →
    s.sampleUp = true → m.last + 4 * segPeriod (slotMode s m.det.slot) ≤ (s.arrive t).clock.now →
    ∃ u, exec (.detMaskExpire t st i []) s = .next u ∧ u.det.masks = s.det.masks.erase m ∧
      u = { s with clock := u.clock, hlt := u.hlt, det := { s.det with masks := u.det.masks } }) ∧
  (∀ (t : Time) (st i n : Nat) (m : Mask) (s : State), st < 128 → (s.det.masks.filter fun m => m.det.stream == st)[i]? = some m →
    s.sampleUp = true → threshold s m.det.slot ≤ n + 12 →
    ∃ u, exec (.detMaskExpire t st i [((s.arrive t).clock.now, n)]) s = .next u ∧
      { m with last := max m.last (s.arrive t).clock.now } ∈ u.det.masks ∧ u.det.masks.length = s.det.masks.length ∧
      u = { s with clock := u.clock, hlt := u.hlt, det := { s.det with masks := u.det.masks } }) ∧
  (∀ (t : Time) (j : JigTest) (s : State), s.hlt.test = some j → j.kind = 1 → s.sampleUp = true → j.due ≤ (s.arrive t).clock.now →
    ∃ u, exec (.jigDetWarmupDone t) s = .next u ∧
      (j.warm = 1 → u.det.spareFor = some j.inst ∧ u.hlt.test = some { j with warm := 2, due := (s.arrive t).clock.now + us 2500 } ∧
        u = { s with clock := u.clock, hlt := u.hlt, det := { s.det with spareFor := u.det.spareFor } }) ∧
      (j.warm = 3 → j.dsn = none → u.det.spareFor = none ∧ u.hlt.test = none ∧
        u = { s with clock := u.clock, hlt := u.hlt, det := { s.det with spareFor := u.det.spareFor } }))

/-- The lanes (R163, R164, R165, R166, R167, R168, R169, R173, R177, R178, R179, R180, R181, R183): how a record reaches a lane, how a lane
goes through its frame and what each end leaves. The clauses take a group of one member and no cancellation in hand where they say so. -/
def Obligations.LanesDecode : Prop :=
  (∀ (t : Time) (r : DetRecord) (rest : List DetRecord) (l : Nat) (s : State), s.det.fifo = r :: rest → s.sampleUp = true →
    freeLane s = some l → s.lane.lanes = [] → s.lane.groups = [] →
    ∃ u, exec (.laneAssign t) s = .next u ∧ u.det.fifo = rest ∧ (u.laneAt l).state = .lookback ∧ (u.laneAt l).record = some r ∧
      (u.laneAt l).quality = r.det.metric ∧ (u.laneAt l).group = l ∧ u.groupOf l = some { members := [l] } ∧
      u = { s with clock := u.clock, hlt := u.hlt, det := { s.det with fifo := rest }, lane := u.lane }) ∧
  (∀ (t : Time) (r : DetRecord) (rest : List DetRecord) (s : State), s.det.fifo = r :: rest → s.sampleUp = true →
    freeLane s = none → s.hlt.test = none → evictee s = none →
    ∃ u, exec (.laneAssign t) s = .next u ∧ u.det.fifo = rest ∧ u.count cLaneNoLane 0 = min 0xFFFFFFFF (s.count cLaneNoLane 0 + 1) ∧
      u = { s with clock := u.clock, hlt := u.hlt, det := { s.det with fifo := rest }, regs := u.regs }) ∧
  (∀ (t : Time) (l : Nat) (s : State), l < 4096 → (s.laneAt l).state = .lookback → s.sampleUp = true →
    ∃ u, exec (.laneCaughtUp t l) s = .next u ∧ u.laneAt l = { s.laneAt l with state := .preamble } ∧
      (∀ k, k ≠ l → u.laneAt k = s.laneAt k) ∧
      u = { s with clock := u.clock, hlt := u.hlt, lane := { s.lane with lanes := u.lane.lanes } }) ∧
  (∀ (t : Time) (l : Nat) (w : Word) (snr : Int) (pos : Time) (r : DetRecord) (x : Group) (s : State), l < 4096 →
    (s.laneAt l).state = .preamble → s.sampleUp = true → s.groupOf (s.laneAt l).group = some x → x.members = [l] →
    (s.laneAt l).record = some r →
    syncOk (formatOf r.mode) (Config.sfdValues (sfdMode s r.det.stream r.mode)) w ((pos : Int) - syncPredicted r) = true →
    ∃ u, exec (.laneSyncFound t l w snr pos) s = .next u ∧
      u.laneAt l = { s.laneAt l with state := .header, quality := snr, sync := some pos } ∧
      (∀ k, k ≠ l → u.laneAt k = s.laneAt k) ∧
      u = { s with clock := u.clock, hlt := u.hlt, lane := { s.lane with lanes := u.lane.lanes } }) ∧
  (∀ (t : Time) (l : Nat) (w : Word) (snr : Int) (pos : Time) (r : DetRecord) (v : Nat) (s : State), l < 4096 →
    (s.laneAt l).record = some r → formatOf r.mode = .deep v → 3 < bitErrors w deepSyncWord 32 →
    ∃ u, exec (.laneSyncFound t l w snr pos) s = .next u ∧ u = { s with clock := u.clock, hlt := u.hlt }) ∧
  (∀ (t : Time) (l below : Nat) (x : Group) (s : State), l < 4096 → 4 ≤ below → (s.laneAt l).state = .preamble → s.sampleUp = true →
    (s.laneAt l).context = none → s.lane.contexts = [] → s.groupOf (s.laneAt l).group = some x → x.passed = false →
    ∃ u, exec (.lanePreambleLost t l below) s = .next u ∧ u.laneAt l = {} ∧ (∀ k, k ≠ l → u.laneAt k = s.laneAt k) ∧
      u.count cLaneHdrFail 0 = min 0xFFFFFFFF (s.count cLaneHdrFail 0 + 1) ∧
      u = { s with clock := u.clock, hlt := u.hlt, lane := u.lane, chn := u.chn, regs := u.regs }) ∧
  (∀ (t : Time) (g l : Nat) (w : Word) (hcs : Bool) (ms : List MemberCheck) (sm : Summary) (x : Group) (s : State), g < 4096 →
    s.groupOf g = some x → x.passed = false → x.members = [l] → s.sampleUp = true → (s.laneAt l).state = .header →
    headerResult (formatOf (s.laneAt l).mode) w hcs = .pass →
    ∃ u, exec (.laneHeaderCheck t g w hcs ms sm) s = .next u ∧
      u.laneAt l = { s.laneAt l with state := .payload, endTime := some (sm.endTimes.getD 0 0) } ∧
      (u.groupOf g).map (fun y => (y.members, y.passed, y.summary)) = 
        some ([l], true, some { sm with length := headerLength (formatOf (s.laneAt l).mode) w }) ∧
      u.sent = .headerSummary g :: s.sent ∧ u = { s with clock := u.clock, hlt := u.hlt, lane := u.lane, sent := u.sent }) ∧
  (∀ (t : Time) (g l : Nat) (w : Word) (hcs : Bool) (ms : List MemberCheck) (sm : Summary) (x : Group) (s : State), g < 4096 →
    s.groupOf g = some x → headerResult (formatOf (s.laneAt l).mode) w hcs ≠ .pass → x.passed = false → x.members = [l] → s.sampleUp = true → (s.laneAt l).state = .header → (s.laneAt l).group = g →
    (s.laneAt l).context = none → s.lane.contexts = [] →
    ∃ u, exec (.laneHeaderCheck t g w hcs ms sm) s = .next u ∧ u.laneAt l = {} ∧
      (headerResult (formatOf (s.laneAt l).mode) w hcs = .fail →
        u.count cLaneHdrFail 0 = min 0xFFFFFFFF (s.count cLaneHdrFail 0 + 1)) ∧
      (headerResult (formatOf (s.laneAt l).mode) w hcs = .modeSwitch →
        u.count cLanePhrUnsupported 0 = min 0xFFFFFFFF (s.count cLanePhrUnsupported 0 + 1)) ∧
      u = { s with clock := u.clock, hlt := u.hlt, lane := u.lane, chn := u.chn, regs := u.regs }) ∧
  (∀ (t : Time) (l : Nat) (f : LookupFields) (x : Group) (s : State), l < 4096 → (s.laneAt l).state = .payload → s.sampleUp = true →
    s.groupOf (s.laneAt l).group = some x → leadOf s x = l → x.lookup = none →
    ∃ u, exec (.laneAddressPoint t l f) s = .next u ∧
      u.groupOf (s.laneAt l).group = some { x with lookup := some f, version := f.version == 2 } ∧
      u.sent = .keyLookup (s.laneAt l).group :: s.sent ∧ u.lane.lanes = s.lane.lanes ∧
      u = { s with clock := u.clock, hlt := u.hlt, lane := u.lane, sent := u.sent }) ∧
  (∀ (t : Time) (l : Nat) (e : Time) (x : Group) (s : State), l < 4096 → (s.laneAt l).state = .payload → s.sampleUp = true →
    (s.laneAt l).context = none → s.lane.contexts = [] → s.groupOf (s.laneAt l).group = some x → x.members = [l] → x.version = true →
    x.reported = false → x.late = false → e + rxPipe (s.laneAt l).mode ≤ (s.arrive t).clock.now →
    ∃ u, exec (.laneFrameEnd t l true e) s = .next u ∧ u.laneAt l = { s.laneAt l with state := .exporting, endTime := some e } ∧
      (u.groupOf (s.laneAt l).group).map (fun y => (y.reported, y.fcsOk)) = some (true, true) ∧
      u.count cLaneFramesOk 0 = min 0xFFFFFFFF (s.count cLaneFramesOk 0 + 1) ∧
      u.sent = .frameEnd ⟨(s.laneAt l).group, (s.laneAt l).mode, true, x.rerun, ((x.summary.map fun m => m.length).getD 0),
        [endMember s l e]⟩ :: s.sent ∧
      u = { s with clock := u.clock, hlt := u.hlt, lane := u.lane, regs := u.regs, sent := u.sent, jrn := u.jrn }) ∧
  (∀ (t : Time) (l : Nat) (e : Time) (x : Group) (s : State), l < 4096 → (s.laneAt l).state = .payload → s.sampleUp = true →
    (s.laneAt l).context = none → s.lane.contexts = [] → s.groupOf (s.laneAt l).group = some x → x.members = [l] → x.passed = true →
    x.reported = false → e + rxPipe (s.laneAt l).mode ≤ (s.arrive t).clock.now →
    ∃ u, exec (.laneFrameEnd t l false e) s = .next u ∧ u.laneAt l = {} ∧
      u.count cLaneFcsFail 0 = min 0xFFFFFFFF (s.count cLaneFcsFail 0 + 1)) ∧
  (∀ (t : Time) (k l : Nat) (c : Context) (s : State), k < 256 → l < 4096 → afind s.lane.contexts k = some c →
    c.stronger = [(l, .good)] → s.sampleUp = true → (s.laneAt c.owner).state = .waitCancel → (s.laneAt c.owner).context = some k →
    reruns s < 16 →
    ∃ u, exec (.laneReconstruction t k l) s = .next u ∧ u.laneAt c.owner = { s.laneAt c.owner with state := .rerun, rerun := true } ∧
      afind u.lane.contexts k = some { c with stronger := [(l, .subtracted)] } ∧
      u = { s with clock := u.clock, hlt := u.hlt, lane := u.lane }) ∧
  (∀ (t : Time) (l : Nat) (x : Group) (s : State), l < 4096 → (s.laneAt l).state = .rerun → s.sampleUp = true →
    (s.laneAt l).context = none → s.lane.contexts = [] → s.lane.waiting = [] → s.groupOf (s.laneAt l).group = some x →
    x.members = [l] → x.reported = false → x.version = true → (s.laneAt l).rerunDone = false →
    ∃ u, exec (.laneRerunEnd t l true) s = .next u ∧ u.laneAt l = { s.laneAt l with state := .exporting } ∧
      (u.groupOf (s.laneAt l).group).map (fun y => (y.rerun, y.reported, y.fcsOk)) = some (true, true, true) ∧
      u.count cLaneRerunOk 0 = min 0xFFFFFFFF (s.count cLaneRerunOk 0 + 1) ∧
      u = { s with clock := u.clock, hlt := u.hlt, lane := u.lane, regs := u.regs, sent := u.sent, jrn := u.jrn }) ∧
  (∀ (t : Time) (k : Nat) (c : Context) (s : State), k < 256 → afind s.lane.contexts k = some c → s.sampleUp = true →
    spillLimit s ≤ spilled (s.arrive t) c →
    ∃ u, exec (.laneSpillOverrun t k) s = .next u ∧ afind u.lane.contexts k = none ∧ (u.laneAt c.owner).context = none ∧
      u.count cLaneSpillOverrun 0 = min 0xFFFFFFFF (s.count cLaneSpillOverrun 0 + 1) ∧
      u = { s with clock := u.clock, hlt := u.hlt, lane := u.lane, regs := u.regs }) ∧
  (∀ (t : Time) (l : Nat) (x : Group) (s : State), l < 4096 → laneReads (s.laneAt l).state = true → s.sampleUp = true →
    (s.laneAt l).context = none → s.lane.contexts = [] → s.groupOf (s.laneAt l).group = some x → x.members = [l] → x.passed = false →
    x.reported = false → inputValid (s.arrive t) (s.laneAt l).det.stream = false →
    ∃ u, exec (.laneInputInvalid t l) s = .next u ∧ u.laneAt l = {} ∧ (∀ k, k ≠ l → u.laneAt k = s.laneAt k) ∧
      u.count cLaneInputInvalid 0 = min 0xFFFFFFFF (s.count cLaneInputInvalid 0 + 1) ∧
      u = { s with clock := u.clock, hlt := u.hlt, lane := u.lane, chn := u.chn, regs := u.regs }) ∧
  (∀ (t : Time) (l : Nat) (b : SnippetBody) (x : Group) (s : State), l < 4096 → (s.laneAt l).state = .exporting → s.sampleUp = true →
    s.groupOf (s.laneAt l).group = some x → x.reported = true → s.fld rLaneCtrl 31 1 = 0 →
    ∃ u, exec (.laneExportDone t l b) s = .next u ∧ u.laneAt l = {} ∧ (∀ k, k ≠ l → u.laneAt k = s.laneAt k) ∧
      u = { s with clock := u.clock, hlt := u.hlt, lane := u.lane, chn := u.chn }) ∧
  (∀ (t : Time) (l n : Nat) (b : SnippetBody) (ws : List Word) (x : Group) (s : State), l < 4096 → (s.laneAt l).state = .exporting →
    s.sampleUp = true → s.groupOf (s.laneAt l).group = some x → x.reported = true → s.fld rLaneCtrl 31 1 = 1 →
    ws = snippetWords (s.arrive t) l b → n = 4 * ws.length →
    ∃ u, exec (.laneExportDone t l b) s = .next u ∧ u.laneAt l = {} ∧ (∀ k, k ≠ l → u.laneAt k = s.laneAt k) ∧
      u.msys = (hardwareItem (s.fld rLaneCtrl 16 6) ws n (s.arrive t)).2.msys ∧
      u.sent = (if (hardwareItem (s.fld rLaneCtrl 16 6) ws n (s.arrive t)).1 then [.snippet l (s.laneAt l).group] else []) ++ s.sent ∧
      ((hardwareItem (s.fld rLaneCtrl 16 6) ws n (s.arrive t)).1 = false →
        u.count cLaneSnippetDrop 0 = min 0xFFFFFFFF (s.count cLaneSnippetDrop 0 + 1)) ∧
      u = { s with clock := u.clock, hlt := u.hlt, lane := u.lane, chn := u.chn, msys := u.msys, regs := u.regs, sent := u.sent })

/-- The slot scheduler and transmission (R187, R195, R196, R200, R201, R207, R242, R243, R244, R249, R252, R255, R258, R264, R308): what each
command does when its moment has come. -/
def Obligations.SlotsAndTransmission : Prop :=
  (∀ (t : Time) (m : Nat) (s : State), s.slotUp = true → s.sch.started = true → s.slotLen ≠ 0 → s.asnAt (s.arrive t).clock.now = m →
    s.sch.slot < m →
    ∃ u, exec (.slotBoundary t) s = .next u ∧ u.sch.slot = m ∧
      (s.leads = true → u = { bookSlot (m + 1) (guards (m + 2) (countSkips (m + 2) (reopenItems { s.arrive t with
        sch := { s.sch with slot := m, lastSlew := if s.timer.slewing then m % 2 ^ 32 else s.sch.lastSlew } }))) with hlt := u.hlt }) ∧
      (s.leads = false → u.txm.bookings = s.txm.bookings ∧
        u = { s with clock := u.clock, hlt := u.hlt, sch := u.sch, dl := u.dl, txm := u.txm })) ∧
  (∀ (t : Time) (k : Nat) (c : SchedChange) (s : State), k < 32 → s.slotUp = true → s.sch.started = true → (slotframeOf s k).valid = true →
    (slotframeOf s k).length ≠ 0 → s.asnAt (s.arrive t).clock.now % (slotframeOf s k).length = 0 → s.sch.changes = [c] →
    c.effective ≤ s.asnAt (s.arrive t).clock.now → s.leads = false →
    ∃ u, exec (.slotframeBoundary t k) s = .next u ∧ u.sch = { s.sch with changes := [], epoch := c.epoch } ∧
      u.tables = (applyChange c { s.arrive t with sch := { s.sch with changes := [] } }).tables ∧
      u = { s with clock := u.clock, hlt := u.hlt, sch := u.sch, tables := u.tables, cal := u.cal, cfgErr := u.cfgErr, msys := u.msys }) ∧
  (∀ (t : Time) (s : State), s.slotUp = true → s.start.phase = .p9 → s.sch.started = false → s.slotLen ≠ 0 →
    mayStart (s.arrive t) (s.asnAt (s.arrive t).clock.now) = true →
    (s.arrive t).clock.now < s.slotStart (s.asnAt (s.arrive t).clock.now) + ns 1 →
    ∃ u, exec (.scheduleStart t) s = .next u ∧ u.sch = { s.sch with started := true, slot := s.asnAt (s.arrive t).clock.now - 1, startAsn := some (s.asnAt (s.arrive t).clock.now) } ∧
      u = { s with clock := u.clock, hlt := u.hlt, sch := u.sch, pair := u.pair, sent := u.sent }) ∧
  (∀ (t : Time) (s : State), s.slotUp = true → s.start.phase = .p9 → s.sch.started = false → s.pair.state ≠ .standby →
    s.timer.everLocked = false → (s.arrive t).clock.now < s.sch.released + sec 10 →
    ∃ u, exec (.scheduleStart t) s = .next u ∧ u = { s with clock := u.clock, hlt := u.hlt }) ∧
  (∀ (t : Time) (id m b : Nat) (y : BeaconTmpl) (k : Booking) (s : State), afind s.txm.beacons b = some y →
    rewritten s b k = true → streamUsable s k.stream = true → bookingOf s id = some k → k.use = .beacon b → k.ready = true → s.sampleUp = true →
    s.holdsToken = true → s.txm.running.any (fun x => x.2.booking.id == id) = false → (s.arrive t).clock.now + txPrep ≤ k.leave →
    freeModulator s = some m → underTest s 5 m = false →
    ∃ u, exec (.txStartCommand t id) s = .next u ∧ afind u.txm.running m = some ⟨k, (txGenFor s k).1, (txGenFor s k).2⟩ ∧
      u.sent = .txIes m [y.octets] :: .txStart m k.stream k.use k.start :: s.sent ∧ u.txm.bookings = s.txm.bookings ∧
      u = { s with clock := u.clock, hlt := u.hlt, txm := u.txm, cal := u.cal, sent := u.sent }) ∧
  (∀ (t : Time) (id b : Nat) (k : Booking) (s : State), rewritten s b k = false → bookingOf s id = some k → k.use = .beacon b → k.id = id →
    s.sampleUp = true → s.holdsToken = true → s.txm.running.any (fun x => x.2.booking.id == id) = false →
    ∃ u, exec (.txStartCommand t id) s = .next u ∧ u.txm.bookings = s.txm.bookings.filter (fun x => x.id != id) ∧
      u.count cSchBeaconSkip 0 = min 0xFFFFFFFF (s.count cSchBeaconSkip 0 + 1) ∧
      u.txm.running = s.txm.running ∧ u = { s with clock := u.clock, hlt := u.hlt, txm := u.txm, regs := u.regs }) ∧
  (∀ (t : Time) (id b : Nat) (k : Booking) (s : State), rewritten s b k = true → bookingOf s id = some k → k.use = .beacon b → k.id = id → s.sampleUp = true →
    s.holdsToken = true → s.txm.running.any (fun x => x.2.booking.id == id) = false → k.leave < (s.arrive t).clock.now + txPrep →
    ∃ u, exec (.txStartCommand t id) s = .next u ∧ u.txm.bookings = s.txm.bookings.filter (fun x => x.id != id) ∧
      u.count cTxmLateRelease 0 = min 0xFFFFFFFF (s.count cTxmLateRelease 0 + 1) ∧
      u.txm.running = s.txm.running ∧ u = { s with clock := u.clock, hlt := u.hlt, txm := u.txm, regs := u.regs }) ∧
  (∀ (t : Time) (g : Nat) (a : AckTmpl) (k : Booking) (s : State), g < 8192 → afind s.txm.acks g = some a → bookingOf s a.booking = some k →
    a.armed = true → k.ready = true → s.slotUp = true → s.holdsToken = true → a.released = false → s.sampleUp = true → (s.arrive t).clock.now + txPrep ≤ k.leave →
    ∃ u, exec (.ackRelease t g) s = .next u ∧ afind u.txm.acks g = some { a with released := true } ∧
      u = { s with clock := u.clock, hlt := u.hlt, txm := { s.txm with acks := u.txm.acks } }) ∧
  (∀ (t : Time) (g : Nat) (a : AckTmpl) (k : Booking) (s : State), g < 8192 → afind s.txm.acks g = some a → bookingOf s a.booking = some k →
    a.armed = true → k.ready = true → s.slotUp = true → s.holdsToken = true → a.released = false → s.sampleUp = true → k.leave < (s.arrive t).clock.now + txPrep →
    ∃ u, exec (.ackRelease t g) s = .next u ∧ u.txm = s.txm ∧ u.count cTxmLateRelease 0 = min 0xFFFFFFFF (s.count cTxmLateRelease 0 + 1) ∧
      u = { s with clock := u.clock, hlt := u.hlt, regs := u.regs }) ∧
  (∀ (t : Time) (g m : Nat) (a : AckTmpl) (k : Booking) (e : Entry) (s : State), g < 8192 → afind s.txm.acks g = some a →
    bookingOf s a.booking = some k → k.use = .ack g → freeModulator s = some m → underTest s 5 m = false → a.released = true →
    s.holdsToken = true → s.sampleUp = true → streamUsable s k.stream = true → k.leave ≤ (s.arrive t).clock.now → s.indexOf a.node = none →
    s.jrn.entries = [e] → e.group = g → e.state = .owed → e.mirrored = false → e.frame = none →
    ∃ u, exec (.ackLeft t g) s = .next u ∧ afind u.txm.acks g = none ∧ afind u.txm.running m = some ⟨k, (txGenFor s k).1, (txGenFor s k).2⟩ ∧
      u.jrn.entries = [{ e with state := .accepted }] ∧ u.sent = .txIes m [a.octets] :: .txStart m k.stream k.use k.start :: s.sent) ∧
  (∀ (t : Time) (m n : Nat) (r : Running) (s : State), m < 256 → afind s.txm.running m = some r → s.sampleUp = true →
    ∃ u, exec (.txEnd t m n) s = .next u ∧ afind u.txm.running m = none ∧
      u.txm.bookings = s.txm.bookings.filter (fun x => x.id != r.booking.id) ∧
      (r.booking.stream < 64 → u.regs = s.regs) ∧
      (64 ≤ r.booking.stream → r.booking.stream < 72 →
        u.count cAnaDucOvf ((r.booking.stream - 64) / 2) = min 0xFFFFFFFF (s.count cAnaDucOvf ((r.booking.stream - 64) / 2) + n)) ∧
      u = { s with clock := u.clock, hlt := u.hlt, regs := u.regs, txm := { s.txm with running := u.txm.running, bookings := u.txm.bookings } }) ∧
  (∀ (t : Time) (st m bin b : Nat) (l : List (List Nat)) (r : Running) (s : State), st < 72 →
    maskBreaks (txCentre s st) (onStream s st) l = [(m, bin)] → afind s.txm.running m = some r → s.fld rTxmCtrl 0 1 = 1 →
    r.booking.stream = st → r.booking.use = .beacon b → s.sampleUp = true → s.txm.mutes = [] →
    ∃ u, exec (.maskMonitorEval t st l) s = .next u ∧ afind u.txm.running m = none ∧
      u.txm.bookings = s.txm.bookings.filter (fun x => x.id != r.booking.id) ∧ u.txm.mutes = [(m, (s.arrive t).clock.now)] ∧
      u.sent = .txCut m st :: s.sent ∧ u.hlt.retired = s.hlt.retired) ∧
  (∀ (t : Time) (b : Nat) (k : Booking) (s : State), b < 64 → s.slotUp = true → s.leads = true → s.upd.manifest = none →
    nextBeacon s b = some k →
    ∃ u, exec (.beaconRewrite t b) s = .next u ∧
      ((afind u.txm.beacons b).map fun y => (y.written, y.asn)) = some ((s.arrive t).clock.now, s.asnAt k.start) ∧
      u.txm.bookings = s.txm.bookings.map (fun x => if x.id = k.id then { x with ready := false } else x) ∧
      u = { s with clock := u.clock, hlt := u.hlt, txm := u.txm })

/-- The calibration commands (R213, R214, R215, R218, R219, R221, R222, R225, R227, R228, R229, R232): what each estimate becomes. -/
def Obligations.CalibrationEstimates : Prop :=
  (∀ (t : Time) (q i : Nat) (y : QItem) (r : List QItem) (h : SnippetHdr) (x : Snippet) (g : RxSet) (s : State), s.sampleUp = true →
    s.packetUp = true → s.fld rLaneCtrl 16 6 = q → consumes s .hardware q = true → (s.quay q).items = y :: r → y.poison = false →
    snippetRead y.words = h → h.rerun = false → rxSetOf (s.headCal h.head) h.gen = some g → x.own = false → x.snr < 24 →
    s.indexOf x.node = some i →
    ∃ u, exec (.calSnippet t x) s = .next u ∧ u.count cCalSnippets 0 = min 0xFFFFFFFF (s.count cCalSnippets 0 + 1) ∧
      (u.quay q).items = r ∧
      afind u.cal.carriers x.node.toNat = some (aput ((afind s.cal.carriers x.node.toNat).getD []) h.head
        (inTenthPpb x.freqObs (snippetCarrier s h).toNat + g.lo - (s.headCal h.head).cand.lo)) ∧
      u = { s with clock := u.clock, hlt := u.hlt, regs := u.regs, cal := u.cal, fwd := u.fwd, msys := u.msys }) ∧
  (∀ (t : Time) (q : Nat) (y : QItem) (r : List QItem) (h : SnippetHdr) (x : Snippet) (s : State), s.sampleUp = true →
    s.packetUp = true → s.fld rLaneCtrl 16 6 = q → consumes s .hardware q = true → (s.quay q).items = y :: r → y.poison = false →
    snippetRead y.words = h → h.rerun = false → rxSetOf (s.headCal h.head) h.gen = none →
    ∃ u, exec (.calSnippet t x) s = .next u ∧ u.count cCalSnippetStale 0 = min 0xFFFFFFFF (s.count cCalSnippetStale 0 + 1) ∧
      (u.quay q).items = r ∧ u = { s with clock := u.clock, hlt := u.hlt, regs := u.regs, msys := u.msys }) ∧
  (∀ (t : Time) (h : Nat) (b : BlockSums) (s : State), h < 32 → s.sampleUp = true → calEnabled s h = true → b.count ≠ 0 →
    ∃ u, exec (.calStreamBlock t h b [] 0) s = .next u ∧
      u.headCal h = { s.headCal h with cand := { (s.headCal h).cand with
        dcI := clampTo 4096 (ewma 8 (s.headCal h).cand.dcI (rdiv b.i b.count)), dcQ := clampTo 4096 (ewma 8 (s.headCal h).cand.dcQ (rdiv b.q b.count)),
        iqGain := clampTo 300 (ewma 16 (s.headCal h).cand.iqGain (iqGainOf b)), iqPhase := clampTo 1000 (ewma 16 (s.headCal h).cand.iqPhase (Config.iqPhaseOf (rdiv b.iq b.count) (rdiv b.ii b.count) (rdiv b.qq b.count))) } } ∧
      u = { s with clock := u.clock, hlt := u.hlt, cal := u.cal }) ∧
  (∀ (t : Time) (h st n : Nat) (b : BlockSums) (s : State), h < 32 → s.sampleUp = true → b.count = 0 → st < 128 → streamHead s st = some h →
    ∃ u, exec (.calStreamBlock t h b [(st, n)] 0) s = .next u ∧ u.count cChnSat st = min 0xFFFFFFFF (s.count cChnSat st + n) ∧
      u = { s with clock := u.clock, hlt := u.hlt, regs := u.regs }) ∧
  (∀ (t : Time) (h : Nat) (s : State), h < 36 → s.sampleUp = true → calEnabled s h = true → validStreams s h ≠ [] →
    ∃ u, exec (.calGainUpdate t h) s = .next u ∧
      u.headCal h = { s.headCal h with cand := { (s.headCal h).cand with
        gain := clampTo 400 (ewma 8 (s.headCal h).cand.gain ((s.headCal h).rx.gain + 5 * s.signedAt rCalNoise 0 0 16 - floorMedian s h)) } } ∧
      u = { s with clock := u.clock, hlt := u.hlt, cal := u.cal }) ∧
  (∀ (t : Time) (d : List (Nat × Nat × Int)) (hs : List Nat) (s : State), s.sampleUp = true → s.cal.solvedAt = none → delayMeans s = d →
    solveSets d = [hs] → (solveSet hs d).2 ≤ 64 * 64 * (d.filter fun x => hs.contains x.1 && hs.contains x.2.1).length →
    (d.all fun x => hs.contains x.1 && hs.contains x.2.1) = true → ((solveSet hs d).1.map fun v => v.1).Nodup →
    ∃ u, exec (.calDelaySolve t) s = .next u ∧ u.cal.solvedAt = some (s.arrive t).clock.now ∧ u.cal.pairs = [] ∧
      (∀ v ∈ (solveSet hs d).1, (u.headCal v.1).cand.dly = (s.headCal v.1).baseRx + v.2.1 ∧ (u.headCal v.1).txCand.dly = (s.headCal v.1).baseTx + v.2.2 ∧ (u.headCal v.1).rx = (s.headCal v.1).rx) ∧
      u = { s with clock := u.clock, hlt := u.hlt, cal := u.cal }) ∧
  (∀ (t : Time) (d : List (Nat × Nat × Int)) (hs : List Nat) (s : State), s.sampleUp = true → s.cal.solvedAt = none → delayMeans s = d →
    solveSets d = [hs] → 64 * 64 * (d.filter fun x => hs.contains x.1 && hs.contains x.2.1).length < (solveSet hs d).2 →
    (d.all fun x => hs.contains x.1 && hs.contains x.2.1) = true →
    ∃ u, exec (.calDelaySolve t) s = .next u ∧ u.count cCalSolveFail 0 = min 0xFFFFFFFF (s.count cCalSolveFail 0 + 1) ∧
      u.cal = { s.cal with solvedAt := some (s.arrive t).clock.now, pairs := [] } ∧
      u = { s with clock := u.clock, hlt := u.hlt, regs := u.regs, cal := u.cal }) ∧
  (∀ (t : Time) (h : Nat) (s : State), h < 36 → s.sampleUp = true → s.headUp h = true → rxMoved h (s.headCal h) = true →
    genDue (s.arrive t) (s.headCal h).lastRx = true → (s.headCal h).pending = false →
    ∃ u, exec (.calGenRequest t h false) s = .next u ∧ u.headCal h = { s.headCal h with pending := true } ∧
      u = { s with clock := u.clock, hlt := u.hlt, cal := u.cal }) ∧
  (∀ (t : Time) (h : Nat) (s : State), h < 36 → s.sampleUp = true → s.headUp h = true → txMoved (s.headCal h) = true →
    genDue (s.arrive t) (s.headCal h).lastTx = true →
    ∃ u, exec (.calGenRequest t h true) s = .next u ∧ (u.headCal h).tx = (s.headCal h).txCand ∧
      (u.headCal h).txGen = ((s.headCal h).txGen + 1) % 256 ∧
      u.count cCalGenChange 0 = min 0xFFFFFFFF (s.count cCalGenChange 0 + 1) ∧
      u = { s with clock := u.clock, hlt := u.hlt, cal := u.cal, txm := u.txm, regs := u.regs }) ∧
  (∀ (t : Time) (h c : Nat) (cs : List Nat) (s : State), h < 36 → s.sampleUp = true → s.leads = true → s.fldAt rCalHeadCtrl h 3 1 = 1 →
    (s.headCal h).sweeping = false → (s.headCal h).sweepAt = none → s.clamp h = {} → sweepChannels s h = c :: cs →
    s.sch.started = true → ((List.range 36).any fun j => sweepHears s h j) = true → txRefusal (s.arrive t) (sweepReq (s.arrive t) h c) = none →
    ∃ u, exec (.calSweepStart t h) s = .next u ∧ u.headCal h = { s.headCal h with sweeping := true } ∧ (u.clamp h).holder = 2 ∧
      (∃ x ∈ u.txm.bookings, x.use = .sweep h ∧ x.ready = true ∧ x.channel = c ∧ x.start = (sweepReq (s.arrive t) h c).start) ∧
      u = { s with clock := u.clock, hlt := u.hlt, cal := u.cal, txm := u.txm, regs := u.regs }) ∧
  (∀ (t : Time) (h : Nat) (s : State), h < 36 → s.sampleUp = true → s.leads = true → s.fldAt rCalHeadCtrl h 3 1 = 1 →
    (s.headCal h).sweeping = false → (s.headCal h).sweepAt = none → s.clamp h = {} → s.sch.started = false →
    ∃ u, exec (.calSweepStart t h) s = .next u ∧ (u.headCal h).sweepAt = some ((s.arrive t).clock.now + sec 3600) ∧
      u.count cCalSweepSkip 0 = min 0xFFFFFFFF (s.count cCalSweepSkip 0 + 1) ∧ u.txm = s.txm ∧
      u = { s with clock := u.clock, hlt := u.hlt, cal := u.cal, regs := u.regs }) ∧
  (∀ (t : Time) (h j : Nat) (g p : Int) (s : State), h < 36 → s.sampleUp = true → (s.headCal h).sweeping = true → s.pair.state = .solo →
    sweepHears s h j = true →
    ∃ u, exec (.calSweepDone t h [(j, g, p)]) s = .next u ∧
      u.headCal h = { s.headCal h with sweeping := false, sweepAt := some ((s.arrive t).clock.now + sec (3600 * s.fld rCalCtrl 16 8)), txCand := { (s.headCal h).txCand with iqGain := g, iqPhase := p } } ∧
      u = { s with clock := u.clock, hlt := u.hlt, cal := u.cal }) ∧
  (∀ (t : Time) (h : Nat) (s : State), h < 36 → s.sampleUp = true → (s.headCal h).sweeping = true →
    ∃ u, exec (.calSweepDone t h []) s = .next u ∧ (u.headCal h).sweeping = false ∧ (u.headCal h).txCand = (s.headCal h).txCand ∧
      u.count cCalSweepSkip 0 = min 0xFFFFFFFF (s.count cCalSweepSkip 0 + 1) ∧
      u = { s with clock := u.clock, hlt := u.hlt, cal := u.cal, regs := u.regs }) ∧
  (∀ (t : Time) (utc h : Nat) (c : HeadCal) (i : Word) (s : State), s.sampleUp = true → s.cal.heads = [(h, c)] → headIdOf s h = some i →
    c.recordAt = none → s.flash.calRecords = [] → s.timer.source = 3 →
    ∃ u, exec (.calRecordWrite t utc) s = .next u ∧ u.flash.calRecords = [⟨h, i, utc, c.rx, c.tx⟩] ∧
      (u.headCal h).recordAt = some (s.arrive t).clock.now ∧
      u = { s with clock := u.clock, hlt := u.hlt, cal := u.cal, flash := u.flash }) ∧
  (∀ (t : Time) (utc : Nat) (r : CalRecord) (s : State), s.cal.restored = false → s.sampleUp = true → s.start.phase = .p9 →
    s.timer.source = 3 → s.flash.calRecords = [r] → headIdOf s r.head = some r.headId → r.utc ≠ 0 → utc ≤ r.utc + 604800 →
    ∃ u, exec (.calRestore t utc) s = .next u ∧ u.cal.restored = true ∧ (u.headCal r.head).pending = true ∧
      (u.headCal r.head).tx = { r.tx with dly := (s.headCal r.head).txCand.dly } ∧
      u = { s with clock := u.clock, hlt := u.hlt, cal := u.cal, txm := u.txm, regs := u.regs }) ∧
  (∀ (t : Time) (utc : Nat) (r : CalRecord) (s : State), s.cal.restored = false → s.sampleUp = true → s.start.phase = .p9 →
    s.timer.source = 3 → s.flash.calRecords = [r] → r.utc + 604800 < utc →
    ∃ u, exec (.calRestore t utc) s = .next u ∧ u.cal = { s.cal with restored := true } ∧
      u.count cCalRestoreReject 0 = min 0xFFFFFFFF (s.count cCalRestoreReject 0 + 1) ∧
      u = { s with clock := u.clock, hlt := u.hlt, cal := u.cal, regs := u.regs })

/-- The timekeeper's commands (R237, R239, R240, R260, R261, R262, R432). A source's new state is `Source.measure` of the offset it gave;
the clauses on measurements are about a device that may no longer step its time (R238). -/
def Obligations.TimekeeperCommands : Prop :=
  (∀ (t : Time) (m : PtpMsg) (s : State), m.port < 8 → (ptpTaken m (s.arrive t)).1 = true → bestMaster s = some m.source → m.twoStep = true →
    ∃ u, exec (.ptpSync t m) s = .next u ∧
      u = { s with clock := u.clock, hlt := u.hlt, timer := { s.timer with ptpSync := some (m.sequence, m.arrival) } }) ∧
  (∀ (t : Time) (m : PtpMsg) (s : State), m.port < 8 → (ptpTaken m (s.arrive t)).1 = true → bestMaster s = some m.source → m.twoStep = false →
    mayStep s = false →
    ∃ u, exec (.ptpSync t m) s = .next u ∧
      u.timer.ptp = s.timer.ptp.measure (ptpStamp m.arrival - m.origin - s.timer.ptpDelay) false ∧ u.timer.ptpPair = some (m.origin, ptpStamp m.arrival) ∧
      u = { s with clock := u.clock, hlt := u.hlt, timer := u.timer, regs := u.regs, evr := u.evr, sch := u.sch, free := u.free }) ∧
  (∀ (t : Time) (m : PtpMsg) (a : Int) (s : State), m.port < 8 → (ptpTaken m (s.arrive t)).1 = true →
    bestMaster s = some m.source → s.timer.ptpSync = some (m.sequence, a) → mayStep s = false →
    ∃ u, exec (.ptpFollowUp t m) s = .next u ∧ u.timer.ptp = s.timer.ptp.measure (ptpStamp a - m.origin - s.timer.ptpDelay) false ∧
      u.timer.ptpSync = none ∧ u.timer.ptpPair = some (m.origin, ptpStamp a) ∧
      u = { s with clock := u.clock, hlt := u.hlt, timer := u.timer, regs := u.regs, evr := u.evr, sch := u.sch, free := u.free }) ∧
  (∀ (t : Time) (m : PtpMsg) (o a : Int) (s : State), m.port < 8 → (ptpTaken m (s.arrive t)).1 = true →
    bestMaster s = some m.source → s.timer.ptpPair = some (o, a) →
    ∃ u, exec (.ptpDelayResp t m) s = .next u ∧
      u = { s with clock := u.clock, hlt := u.hlt, timer := { s.timer with ptpDelay := ((a - o) + (m.origin - ptpStamp m.arrival)) / 2 } }) ∧
  (∀ (t : Time) (m : PtpMsg) (s : State), m.port < 8 → (ptpTaken m (s.arrive t)).1 = true →
    ∃ u, exec (.ptpAnnounce t m) s = .next u ∧
      u.timer = { s.timer with ptpHeard := true, masters := aput s.timer.masters m.source m.dataset, ptpSync := u.timer.ptpSync, ptpPair := u.timer.ptpPair } ∧
      (bestMaster u = bestMaster s → u.timer.ptpSync = s.timer.ptpSync ∧ u.timer.ptpPair = s.timer.ptpPair) ∧
      (bestMaster u ≠ bestMaster s → u.timer.ptpSync = none ∧ u.timer.ptpPair = none) ∧
      u = { s with clock := u.clock, hlt := u.hlt, timer := u.timer }) ∧
  (∀ (t : Time) (m : PtpMsg) (s : State), m.port < 8 → s.fld rTimeCtrl 2 1 = 1 → m.port = s.fld rTimeCtrl 3 3 → s.slotUp = true →
    m.domain ≠ s.fld rTimeCtrl 16 8 →
    ∃ u, exec (.ptpAnnounce t m) s = .next u ∧ u.count cTimePtpDiscard 0 = min 0xFFFFFFFF (s.count cTimePtpDiscard 0 + 1) ∧
      u = { s with clock := u.clock, hlt := u.hlt, regs := u.regs }) ∧
  (∀ (t : Time) (s : State), s.slotUp = true →
    ∃ u, exec (.ptpSourceLost t) s = .next u ∧ u.timer.ptp = {} ∧ u.timer.masters = ((bestMaster s).map (adel s.timer.masters)).getD [] ∧
      u.timer.ptpHeard = !u.timer.masters.isEmpty ∧ u.timer.ptpPair = none ∧
      u.timer.nbr = s.timer.nbr ∧ u.timer.pps = s.timer.pps ∧
      u = { s with clock := u.clock, hlt := u.hlt, timer := u.timer, regs := u.regs, evr := u.evr, free := u.free }) ∧
  (∀ (t : Time) (s : State), s.slotUp = true → s.fld rTimeCtrl 1 1 = 1 → timeLocked s = false → mayStep s = false →
    ∃ u, exec (.ppsInEdge t) s = .next u ∧ u.timer.ppsEdge = (s.arrive t).clock.now / 16 * 16 ∧ u.timer.ppsBad = 0 ∧
      u.timer.pps = s.timer.pps.measure (secondPhase ((s.arrive t).clock.now / 16 * 16)) false ∧
      u = { s with clock := u.clock, hlt := u.hlt, timer := u.timer, regs := u.regs, evr := u.evr, sch := u.sch, free := u.free }) ∧
  (∀ (t : Time) (s : State), s.slotUp = true → s.fld rTimeCtrl 1 1 = 1 → timeLocked s = true →
    16000000 < (secondPhase ((s.arrive t).clock.now / 16 * 16)).natAbs → s.timer.ppsBad < 2 →
    ∃ u, exec (.ppsInEdge t) s = .next u ∧ u.timer = { s.timer with ppsEdge := (s.arrive t).clock.now / 16 * 16, ppsBad := s.timer.ppsBad + 1 } ∧
      u.count cTimePpsReject 0 = min 0xFFFFFFFF (s.count cTimePpsReject 0 + 1) ∧
      u = { s with clock := u.clock, hlt := u.hlt, timer := u.timer, regs := u.regs }) ∧
  (∀ (t : Time) (s : State), s.slotUp = true → s.fld rTimeCtrl 1 1 = 1 →
    ∃ u, exec (.ppsEdgeMissing t) s = .next u ∧ (s.timer.ppsBad < 2 → u.timer = { s.timer with ppsBad := s.timer.ppsBad + 1 }) ∧
      (2 ≤ s.timer.ppsBad → u.timer.pps = {}) ∧
      u = { s with clock := u.clock, hlt := u.hlt, timer := u.timer, regs := u.regs, evr := u.evr, free := u.free }) ∧
  (∀ (t : Time) (s : State), s.slotUp = true → s.start.phase = .p9 → s.timer.everLocked = true → (secondPhase (s.arrive t).clock.now).natAbs ≤ 32 →
    ∃ u, exec (.ppsOutPulse t) s = .next u ∧ u.pins.ppsOut = true ∧
      u = { s with clock := u.clock, hlt := u.hlt, pins := { s.pins with ppsOut := true }, timer := { s.timer with outHigh := some (s.arrive t).clock.now } }) ∧
  (∀ (t a : Time) (s : State), s.slotUp = true → s.timer.outHigh = some a → a + ms 100 ≤ (s.arrive t).clock.now →
    ∃ u, exec (.ppsOutFall t) s = .next u ∧
      u = { s with clock := u.clock, hlt := u.hlt, pins := { s.pins with ppsOut := false }, timer := { s.timer with outHigh := none } }) ∧
  (∀ (t : Time) (e : Option Nat) (s : State), (e.all fun k => decide (k < 8)) = true → s.controlUp = true → s.clock.running = true →
    ∃ u, exec (.timeComparator t e) s = .next u ∧ u.sent = .comparator e :: s.sent ∧
      (e.map fun k => 128 + k).getD 120 ∈ u.msys.irq ∧ u = { s with clock := u.clock, hlt := u.hlt, msys := { s.msys with irq := u.msys.irq }, sent := u.sent }) ∧
  (∀ (t : Time) (n a asn : Nat) (start : Time) (s : State), n < 16 → s.slotUp = true → nbrUsed s n = true →
    beaconSlot s n start = some a → asn ≠ a → (s.nbr n).silent = false →
    ∃ u, exec (.nbrBeaconHeard t n asn start) s = .next u ∧
      u.nbr n = { s.nbr n with missed := 0, last := some a, silent := false, reclaimed := false } ∧ u.timer = s.timer) ∧
  (∀ (t : Time) (n a : Nat) (start : Time) (s : State), n < 16 → s.slotUp = true → nbrUsed s n = true →
    beaconSlot s n start = some a → (s.nbr n).silent = false → nbrAlign s n = true →
    mayStep s = false → s.fld rTimeCtrl 0 1 ≠ 0 → s.timer.nbrOffsets = [] →
    ∃ u, exec (.nbrBeaconHeard t n a start) s = .next u ∧
      u.nbr n = { s.nbr n with missed := 0, last := some a, silent := false, reclaimed := false } ∧
      u.timer.nbr = s.timer.nbr.measure ((start : Int) - toSigned 32 (octetField 24 (s.entry tSchNbr n) 16 0 32) * 16 - expectedAt s a) false) ∧
  (∀ (t : Time) (n a : Nat) (s : State), n < 16 → s.slotUp = true → nbrUsed s n = true → (s.nbr n).missed < 2 →
    beaconPassed (s.arrive t) n = some a →
    ∃ u, exec (.nbrBeaconMissed t n) s = .next u ∧ u.nbr n = { s.nbr n with missed := (s.nbr n).missed + 1, last := some a } ∧
      u.count cSchNbrMiss 0 = min 0xFFFFFFFF (s.count cSchNbrMiss 0 + 1) ∧
      u = { s with clock := u.clock, hlt := u.hlt, sch := u.sch, regs := u.regs }) ∧
  (∀ (t : Time) (n a : Nat) (s : State), n < 16 → s.slotUp = true → nbrUsed s n = true → (s.nbr n).missed = 2 → (s.nbr n).silent = false →
    beaconPassed (s.arrive t) n = some a →
    ∃ u, exec (.nbrBeaconMissed t n) s = .next u ∧ u.nbr n = { s.nbr n with missed := 3, last := some a, silent := true, since := (s.arrive t).clock.now }) ∧
  (∀ (t : Time) (n : Nat) (s : State), n < 16 → s.slotUp = true → s.leads = true → (s.nbr n).silent = true →
    (s.nbr n).since + sec (s.fld rSchNbrCtrl 0 12) ≤ (s.arrive t).clock.now →
    ∃ u, exec (.nbrHoldoffExpire t n) s = .next u ∧ u.nbr n = { s.nbr n with reclaimed := true } ∧
      u = { s with clock := u.clock, hlt := u.hlt, sch := u.sch })

/-- The key vault (R270, R272, R276, R277, R278, R281, R282, R283, R286, R287, R288, R289, R292, R293, R294), on a solo chip where the
clause says so: look-up, unwrap, verdict, protection, counters, key-load items, rotation and the key journal. -/
def Obligations.KeyVault : Prop :=
  (∀ (t : Time) (g i : Nat) (x : Group) (f : LookupFields) (e : Eui) (n : Node) (c : CacheSlot) (s : State), g < 4096 →
    s.groupOf g = some x → x.version = true → x.lookup = some f → afind s.key.ctxs g = none → s.keyUp = true → f.level ≠ 0 → f.level ≠ 4 →
    s.fld rKeyCtrl 0 3 ≤ f.level → f.suppress = false → f.kim = 0 → f.source = some e → s.nodeOf e = some (i, n) →
    n.sec.blobValid = true → s.key.cache.find? (fun x => x.node == e) = some c → kekGen s c.kek ≤ c.parentGen →
    ∃ u, exec (.keyLookup t g) s = .next u ∧
      (afind u.key.ctxs g).map (fun k => (k.bound, k.cached, k.failed)) = some (some (.node e), true, none) ∧
      u.count cKeyHit 0 = min 0xFFFFFFFF (s.count cKeyHit 0 + 1) ∧
      u = { s with clock := u.clock, hlt := u.hlt, key := u.key, regs := u.regs }) ∧
  (∀ (t : Time) (g : Nat) (x : Group) (f : LookupFields) (s : State), g < 4096 → s.groupOf g = some x → x.version = true → x.lookup = some f →
    afind s.key.ctxs g = none → s.keyUp = true → (f.level = 0 ∨ f.level = 4 ∨ f.level < s.fld rKeyCtrl 0 3 ∨ f.suppress = true) →
    ∃ u, exec (.keyLookup t g) s = .next u ∧ (afind u.key.ctxs g).map (fun k => (k.bound, k.failed)) = some (none, some .level) ∧
      u = { s with clock := u.clock, hlt := u.hlt, key := u.key }) ∧
  (∀ (t : Time) (g : Nat) (x : Group) (s : State), g < 4096 → s.groupOf g = some x → x.version = false →
    ∃ u, exec (.keyLookup t g) s = .next u ∧ u = { s with clock := u.clock, hlt := u.hlt }) ∧
  (∀ (t : Time) (cls id : Nat) (s : State), s.keyUp = true → unwrapHead s = some (.renew cls id) → cls ≠ 9 → s.key.rewrap = none →
    ∃ u, exec (.keyUnwrapDone t) s = .next u ∧ u.key.queue = s.key.queue.erase (.renew cls id) ∧
      afind u.key.keys (keyNo cls id) = (afind s.key.keys (keyNo cls id)).map (fun k =>
        { k with status := if k.status = .waiting then .live else k.status, parentGen := kekGen s k.parent }) ∧
      u = { s with clock := u.clock, hlt := u.hlt, key := u.key }) ∧
  (∀ (t : Time) (g : Nat) (c : KeyCtx) (s : State), g < 4096 → afind s.key.ctxs g = some c → s.keyUp = true → c.bound = none →
    c.waiting = true → c.marker = none →
    ∃ u, exec (.keyPayloadBlock t g) s = .next u ∧ afind u.key.ctxs g = some { c with got := c.got + 1, blocks := min 132 (c.blocks + 1) } ∧
      u = { s with clock := u.clock, hlt := u.hlt, key := u.key }) ∧
  (∀ (t : Time) (g n : Nat) (fcs : Bool) (f : SealedFrame) (c : KeyCtx) (s : State), g < 4096 → afind s.key.ctxs g = some c →
    s.keyUp = true → c.marker = none →
    ∃ u, exec (.keyFrameEnd t g fcs f n) s = .next u ∧
      (c.waiting = true ∨ c.got < n → afind u.key.ctxs g = some { c with marker := some (fcs, f, n) } ∧ u.sent = s.sent) ∧
      (c.waiting = false → n ≤ c.got → afind u.key.ctxs g = none ∧ u.sent = .verdict g (verdictOf s c f) :: s.sent) ∧
      u = { s with clock := u.clock, hlt := u.hlt, key := u.key, jrn := u.jrn, regs := u.regs, sent := u.sent }) ∧
  (∀ (t : Time) (e : Eui) (i c : Nat) (d : Word) (n : Node) (s : State), s.keyUp = true → s.nodeOf e = some (i, n) →
    ∃ u, exec (.keyCounterUpdate t e c d) s = .next u ∧
      (n.sec.fcHwm < c → u.nodeAt i = (s.nodeAt i).map (fun n => { n with sec := { n.sec with fcHwm := c }, lastDigest := d })) ∧
      (c ≤ n.sec.fcHwm → u.fwd = s.fwd) ∧ u = { s with clock := u.clock, hlt := u.hlt, fwd := u.fwd }) ∧
  (∀ (t : Time) (id k : Nat) (b : Booking) (s : State), bookingOf s id = some b → b.ready = false → s.keyUp = true →
    protKey s b = some (.group k) → useKey 5 k (s.arrive t) = (.good, s.arrive t) → (groupTxOf s k).1 < 0xFFFFFFFF →
    (groupTxOf s k).1 < (groupTxOf s k).2 → b.id = id →
    ∃ u, exec (.keyProtect t id) s = .next u ∧ groupTxOf u k = ((groupTxOf s k).1 + 1, (groupTxOf s k).2) ∧
      u.txm.bookings = s.txm.bookings.map (fun x => if x.id = id then { x with ready := true } else x) ∧
      u.count cKeyHit 0 = min 0xFFFFFFFF (s.count cKeyHit 0 + 1) ∧
      u = { s with clock := u.clock, hlt := u.hlt, key := u.key, txm := u.txm, regs := u.regs }) ∧
  (∀ (t : Time) (s : State), s.keyUp = true → s.key.ceilingDue = true → s.key.groupTx = [] → s.pair.state = .solo →
    ∃ u, exec (.counterCeilingWrite t) s = .next u ∧ u.key.ceilingDue = false ∧
      u.key.nodeCeiling = max s.key.nodeCeiling (s.fwd.nodes.foldl (fun m x => max m x.2.sec.txFc) 0 + 65536) ∧
      u.flash.jrnA = s.flash.jrnA.append (ceilRec 9 0 (s.fwd.nodes.foldl (fun m x => max m x.2.sec.txFc) 0 + 65536)) ∧
      u.flash.jrnB = s.flash.jrnB.append (ceilRec 9 0 (s.fwd.nodes.foldl (fun m x => max m x.2.sec.txFc) 0 + 65536)) ∧
      u = { s with clock := u.clock, hlt := u.hlt, key := u.key, flash := u.flash }) ∧
  (∀ (t : Time) (d : Nat) (it : KeyItem) (a : List Byte) (s : State), s.argsOf d 1 = some a → keyItemRead a = it →
    s.key.queue.length < 256 → s.key.queue.contains (.load d) = false → s.keyUp = true → s.leads = true → afind s.key.items d = none → it.op = 1 → (persistent it.cls = true ∨ it.cls = 9) →
    ∃ u, exec (.keyItem t d) s = .next u ∧ afind u.key.items d = some it ∧ u.key.queue = s.key.queue ++ [.load d] ∧
      u = { s with clock := u.clock, hlt := u.hlt, key := u.key }) ∧
  (∀ (t : Time) (d : Nat) (it : KeyItem) (p : KeyPlain) (s : State), itemOf s d 1 = some it → plainOk p 0 = true → it.cls ≠ 9 →
    underKek s it.kekId it.blob = some p → kekLive s it.kekId = true → p.cls = it.cls → p.id = it.keyId → keyIdOk p.cls p.id = true → p.gen ≠ 0 → loadCheck s p = .stored →
    s.pair.state = .solo →
    ∃ u, exec (.keyLoad t d) s = .next u ∧ u.key.keys = s.key.keys ∧ u.key.queue = s.key.queue.erase (.load d) ∧
      u.key.jobs.map (fun j => (j.cause, j.record)) =
        s.key.jobs.map (fun j => (j.cause, j.record)) ++ [(.item d, keyRec p (if p.cls ≤ 4 then 0 else it.kekId))] ∧
      u = { s with clock := u.clock, hlt := u.hlt, key := u.key, regs := u.regs }) ∧
  (∀ (t : Time) (d : Nat) (it : KeyItem) (k : VKey) (s : State), itemOf s d 2 = some it → it.cls ≠ 9 → keyAt s it.cls it.keyId = some k →
    (k.status = .live ∨ k.status = .waiting) → s.pair.state = .solo →
    ∃ u, exec (.keyRevoke t d) s = .next u ∧ u.key.keys = s.key.keys ∧ u.key.jobs.map (fun j => (j.cause, j.record)) =
        s.key.jobs.map (fun j => (j.cause, j.record)) ++ [(.item d, ⟨0, it.cls, 2, it.keyId, k.gen + 1, 0, k.parent, none, true⟩)] ∧
      u = { s with clock := u.clock, hlt := u.hlt, key := u.key, regs := u.regs }) ∧
  (∀ (t : Time) (d : Nat) (it : KeyItem) (k : VKey) (s : State), itemOf s d 3 = some it → it.cls ≠ 9 → it.cls ≠ 4 →
    keyAt s it.cls it.keyId = some k → k.status ≠ .retired → s.pair.state = .solo →
    ∃ u, exec (.keyRetire t d) s = .next u ∧ u.key.keys = s.key.keys ∧ u.key.jobs.map (fun j => (j.cause, j.record)) =
        s.key.jobs.map (fun j => (j.cause, j.record)) ++ [(.item d, ⟨0, it.cls, 3, it.keyId, k.gen, 0, k.parent, none, true⟩)] ∧
      u = { s with clock := u.clock, hlt := u.hlt, key := u.key, regs := u.regs }) ∧
  (∀ (t : Time) (d : Nat) (it : KeyItem) (s : State), itemOf s d 4 = some it → kekLive s (it.keyId % 16) = true →
    kekLive s (it.keyId / 16 % 16) = true → it.keyId % 16 ≠ it.keyId / 16 % 16 → s.key.rewrap = none → s.dl.nextDsn ≠ d →
    s.dl.reorder = [] → s.pair.state = .solo → s.clamp 69 = {} →
    ∃ u, exec (.keyRewrap t d) s = .next u ∧
      u.key.rewrap.map (fun w => (w.fromId, w.toId, w.dsn)) = some (it.keyId % 16, it.keyId / 16 % 16, d) ∧
      (u.clamp 69).holder = 6 ∧ u.fwd = s.fwd) ∧
  (∀ (t : Time) (w : Rewrap) (s : State), s.keyUp = true → s.key.rewrap = some w → s.key.queue.any (fun r => prio r == 5) = false →
    ∃ u, exec (.keyRewrapWalkDone t) s = .next u ∧ u.key.rewrap = none ∧ u.key.keys = s.key.keys ∧ u.key.queue = s.key.queue ∧
      u.fwd = s.fwd) ∧
  (∀ (t : Time) (j : KeyJob) (r : List KeyJob) (s : State), s.keyUp = true → s.key.jobs = j :: r → j.copyB = false →
    (s.clamp 72).holder = 14 → s.flash.jrnB.lost = false →
    ∃ u, exec (.keyJournalWriteDone t true) s = .next u ∧ u.flash.jrnA = s.flash.jrnA.append j.record ∧
      u.flash.jrnB = s.flash.jrnB ∧ u.key.keys = s.key.keys ∧ u.key.jobs = { j with copyB := true } :: r) ∧
  (∀ (t : Time) (j : KeyJob) (s : State), s.keyUp = true → s.key.jobs = [j] → j.copyB = true → j.cause = .pairing →
    (s.clamp 73).holder = 14 → s.flash.jrnB.lost = false →
    ∃ u, exec (.keyJournalWriteDone t true) s = .next u ∧ u.flash.jrnB = s.flash.jrnB.append j.record ∧ u.key.jobs = [] ∧
      u.key.received = true) ∧
  (∀ (t : Time) (s : State), s.keyUp = true → s.flash.jrnA.lost = false → 3072 ≤ s.flash.jrnA.records.length →
    ∃ u, exec (.keyJournalCompact t false) s = .next u ∧ u.flash.jrnA.half = !s.flash.jrnA.half ∧
      u.flash.jrnA.records.length = (newest s.flash.jrnA.records).length ∧ u.flash.jrnB = s.flash.jrnB ∧
      u = { s with clock := u.clock, hlt := u.hlt, flash := u.flash }) ∧
  (∀ (t : Time) (s : State), s.keyUp = true → s.start.phase = .p9 → s.hlt.frozen = false →
    ∃ u, exec (.keyEntropyFail t) s = .next u ∧ u.hlt.frozen = true ∧ u.pins.ready = false) ∧
  (∀ (t : Time) (l : Nat) (j : JigTest) (s : State), s.key.draining = some l → s.hlt.test = some j → s.keyUp = true → j.warm = 1 →
    s.key.ctxs.any (fun x => x.2.lane == l) = false →
    ∃ u, exec (.jigLaneDrained t) s = .next u ∧ u.hlt.test = some { j with warm := 2, due := (s.arrive t).clock.now + us 500 } ∧ u = { s with clock := u.clock, hlt := u.hlt })

/-- The commit sequencer (R255, R298, R299, R300, R301, R302, R303, R304, R308, R311), mostly on a solo chip with one candidate or
entry in hand: opening, the checks, staging, deadlines, a missed release and the standby's timers. -/
def Obligations.CommitSequencer : Prop :=
  (∀ (t : Time) (g : Nat) (x : Group) (sm : Summary) (s : State), g < 4096 → s.groupOf g = some x → x.summary = some sm →
    s.cand g = none → x.reported = false → s.slotUp = true → sm.ackReq = false →
    ∃ u, exec (.candidateOpen t g) s = .next u ∧ u.cand g = some { ackReq := false } ∧
      u = { s with clock := u.clock, hlt := u.hlt, jrn := u.jrn }) ∧
  (∀ (t : Time) (g : Nat) (x : Group) (sm : Summary) (s : State), g < 4096 → s.groupOf g = some x → x.summary = some sm →
    s.cand g = none → x.reported = false → s.slotUp = true → sm.ackReq = true → s.leads = true → s.sch.started = false →
    ∃ u, exec (.candidateOpen t g) s = .next u ∧ u.cand g = some { ackReq := true, refused := true } ∧
      u.count cSchAckRefuse 0 = min 0xFFFFFFFF (s.count cSchAckRefuse 0 + 1) ∧
      u = { s with clock := u.clock, hlt := u.hlt, jrn := u.jrn, regs := u.regs }) ∧
  (∀ (t : Time) (g : Nat) (c : Cand) (f : FrameInfo) (s : State), g < 4096 → s.cand g = some c → c.state = .open →
    c.endEvent.isSome = true → c.verdict = some .okNew → s.slotUp = true → f.kind = .data → f.source ≠ s.ownEui → s.leads = true →
    markOf s f.source = none → piecePart s f = false → s.jrn.cands = [(g, c)] → c.ackReq = false → ringRoom s f = true →
    s.pair.state = .solo →
    ∃ u, exec (.candidateVerdicts t g f) s = .next u ∧
      u.cand g = some { c with state := .stage, frame := some f, order := s.jrn.order + 1 } ∧
      u = { s with clock := u.clock, hlt := u.hlt, jrn := u.jrn }) ∧
  (∀ (t : Time) (g : Nat) (c : Cand) (f : FrameInfo) (s : State), g < 4096 → s.cand g = some c → c.state = .open →
    c.endEvent.isSome = true → c.verdict = some .micFail → s.slotUp = true → f.kind = .data → f.source ≠ s.ownEui →
    ∃ u, exec (.candidateVerdicts t g f) s = .next u ∧ u.cand g = none ∧ u.jrn.entries = s.jrn.entries) ∧
  (∀ (t : Time) (g : Nat) (c : Cand) (f : FrameInfo) (s : State), g < 4096 → s.jrn.cands = [(g, c)] → c.state = .stage →
    c.frame = some f → c.deadline = none → c.ackReq = false → s.slotUp = true → s.pair.state = .solo → s.jrn.entries = [] →
    ∃ u, exec (.candidateStaged t g true true) s = .next u ∧ u.cand g = none ∧ u.jrn.nextJsn = s.jrn.nextJsn + 1 ∧
      u.jrn.entries.map (fun e => (e.hdr, e.state)) = [(hdrOf s c f s.jrn.nextJsn, .accepted)]) ∧
  (∀ (t : Time) (g : Nat) (c : Cand) (f : FrameInfo) (s : State), g < 4096 → s.jrn.cands = [(g, c)] → c.state = .stage →
    c.frame = some f → c.deadline = some (s.arrive t).clock.now → c.ackReq = true → s.slotUp = true → s.pair.state = .solo →
    s.jrn.entries = [] →
    ∃ u, exec (.candidateStaged t g true true) s = .next u ∧ u.cand g = none ∧
      u.jrn.entries.map (fun e => (e.hdr, e.state, e.group)) = [(hdrOf s c f s.jrn.nextJsn, .owed, g)] ∧
      afind u.txm.acks g = (afind s.txm.acks g).map (fun a => { a with armed := true })) ∧
  (∀ (t d : Time) (g : Nat) (c : Cand) (s : State), g < 4096 → s.cand g = some c → c.state = .open → c.frame = none → c.rerun = false →
    c.deadline = some d → d ≤ (s.arrive t).clock.now → s.leads = true → s.slotUp = true →
    ∃ u, exec (.candidateDeadline t g) s = .next u ∧ u.cand g = none ∧ u.jrn.entries = s.jrn.entries) ∧
  (∀ (t : Time) (j : Nat) (e : Entry) (s : State), s.jrn.entries = [e] → e.hdr.jsn = j → e.state = .owed → e.mirrored = false →
    s.slotUp = true → e.leave + us 1 ≤ (s.arrive t).clock.now → s.pair.state = .solo →
    ∃ u, exec (.owedReleaseMissed t j) s = .next u ∧ u.jrn.entries = [{ e with state := .void, waits := false, frame := none, hdr := { e.hdr with kind := 2, length := 0, endTime := (s.arrive t).clock.now } }]) ∧
  (∀ (t d : Time) (g : Nat) (c : Cand) (s : State), g < 4096 → s.cand g = some c → c.state = .held → c.ackReq = true →
    c.deadline = some d → d ≤ (s.arrive t).clock.now → s.leads = false → s.slotUp = true →
    ∃ u, exec (.standbyCandidateTimeout t g) s = .next u ∧ u.cand g = none ∧ u.jrn.entries = s.jrn.entries) ∧
  (∀ (t : Time) (j : Nat) (e : Entry) (s : State), s.jrn.entries = [e] → e.hdr.jsn = j → e.state = .owed → e.mirrored = true →
    s.leads = false → s.slotUp = true → e.leave + us 1 + partnerTimeout s ≤ (s.arrive t).clock.now →
    ∃ u, exec (.standbyOwedAssume t j) s = .next u ∧ u.jrn.entries = [{ e with state := .accepted }]) ∧
  (∀ (t : Time) (s : State), s.slotUp = true →
    ∃ u, exec (.dedupExpire t) s = .next u ∧
      u.jrn.dedup = s.jrn.dedup.filter (fun d => decide ((s.arrive t).clock.now < d.since + sec (s.fld rJrnCtrl 0 10))) ∧
      u = { s with clock := u.clock, hlt := u.hlt, jrn := { s.jrn with dedup := u.jrn.dedup } })

/-- The packet plane's nodes (R332, R333, R334, R337, R340, R341, R350, R351, R353, R355, R356, R357): learning, creation, insertion, the
rehash, ageing and rehoming. -/
def Obligations.NodeTable : Prop :=
  (∀ (t : Time) (e : Eui) (p i : Nat) (l : Int) (n : Node) (s : State), p < 36 → s.packetUp = true → s.indexOf e = some i →
    s.nodeAt i = some n →
    ∃ u, exec (.learnEvent t e [(p, l)]) s = .next u ∧
      (u.nodeAt i).map (fun m => m.heard) = some (heardPut (s.arrive t).second p (qualityOf s l) n.heard) ∧
      u.fwd.windows.any (fun w => w.node == e) = true ∧ u = { s with clock := u.clock, hlt := u.hlt, fwd := u.fwd }) ∧
  (∀ (t : Time) (g p : Nat) (l : Int) (e : Eui) (c : KeyCtx) (s : State), g < 4096 → p < 36 → afind s.key.ctxs g = some c →
    c.fields.kim = 1 → c.fields.source = some e → c.bound.isSome = true → s.indexOf e = none → s.packetUp = true →
    s.fwd.newcomers = [] → hasToken (s.arrive t) p = true → s.fwd.windows = [] →
    ∃ u, exec (.newSenderAdmit t g e [(p, l)]) s = .next u ∧
      u.fwd.newcomers.map (fun m => (m.node, m.group, m.reserve, m.accepted)) = [(e, g, some p, false)] ∧
      afind u.fwd.buckets p = some (budget (s.arrive t) p - sec 1, (s.arrive t).clock.now) ∧
      u = { s with clock := u.clock, hlt := u.hlt, fwd := u.fwd }) ∧
  (∀ (t : Time) (g p : Nat) (l : Int) (e : Eui) (c : KeyCtx) (s : State), g < 4096 → p < 36 → afind s.key.ctxs g = some c →
    c.fields.kim = 1 → c.fields.source = some e → c.bound.isSome = true → s.indexOf e = none → s.packetUp = true →
    s.fwd.newcomers = [] → hasToken (s.arrive t) p = false → policyFlood s p = false →
    ∃ u, exec (.newSenderAdmit t g e [(p, l)]) s = .next u ∧
      (afind u.key.ctxs g).map (fun k => (k.bound, k.failed)) = some (none, some .noKey) ∧
      u.count cFwdLearnDrop 0 = min 0xFFFFFFFF (s.count cFwdLearnDrop 0 + 1) ∧
      u = { s with clock := u.clock, hlt := u.hlt, key := u.key, regs := u.regs }) ∧
  (∀ (t : Time) (e : Eui) (p : Nat) (q : Int) (w : LearnWin) (s : State), s.fwd.windows = [w] → w.node = e → w.isNew = true →
    w.ports = [(p, q)] → w.reserve = some p → s.packetUp = true → w.opened + us (s.fld rFwdCtrl 0 12) ≤ (s.arrive t).clock.now →
    ∃ u, exec (.learnWindowClose t e) s = .next u ∧ u.fwd.windows = [] ∧
      u.fwd.newcomers = s.fwd.newcomers.map (fun m => if m.node = e then { m with home := some p, decided := true, reserve := none } else m) ∧
      u = { s with clock := u.clock, hlt := u.hlt, fwd := u.fwd }) ∧
  (∀ (t : Time) (e : Eui) (i : Nat) (m : NewSender) (s : State),
    s.fwd.newcomers.find? (fun m => m.node == e && m.accepted && m.index.isNone) = some m → s.packetUp = true → s.leads = true →
    freeIndexOf s = some i →
    ∃ u, exec (.nodeEntryCreate t e) s = .next u ∧ u.sent = .learnCreate e i :: s.sent ∧
      u.fwd.newcomers = s.fwd.newcomers.map (fun m => if m.node = e then { m with index := some i, since := (s.arrive t).clock.now } else m) ∧
      u = { s with clock := u.clock, hlt := u.hlt, fwd := u.fwd, sent := u.sent, free := u.free }) ∧
  (∀ (t : Time) (e : Eui) (i k : Nat) (moves : List (Nat × Nat)) (n : Node) (s : State), s.packetUp = true → s.nodeOf e = some (i, n) →
    n.place.inTable = false → rebuildOpen s = false → (makeRoom e moves s).1 = some k →
    ∃ u, exec (.nodeInsert t e moves) s = .next u ∧
      u.nodeAt i = ((makeRoom e moves s).2.nodeAt i).map (fun n => { n with place := .table k, failed := false }) ∧
      u = { s with clock := u.clock, hlt := u.hlt, fwd := u.fwd }) ∧
  (∀ (t : Time) (e : Eui) (i : Nat) (moves : List (Nat × Nat)) (n : Node) (s : State), s.packetUp = true → s.nodeOf e = some (i, n) →
    n.place.inTable = false → rebuildOpen s = false → (makeRoom e moves s).1 = none →
    ∃ u, exec (.nodeInsert t e moves) s = .next u ∧ u.count cFwdInsertFail 0 = min 0xFFFFFFFF (s.count cFwdInsertFail 0 + 1) ∧
      u.nodeAt i = ((makeRoom e moves s).2.nodeAt i).map (fun n => { n with failed := true }) ∧
      u = { s with clock := u.clock, hlt := u.hlt, fwd := u.fwd, regs := u.regs }) ∧
  (∀ (t : Time) (e : Eui) (i k : Nat) (moves : List (Nat × Nat)) (m : NewSender) (s : State), s.packetUp = true → s.nodeOf e = none →
    (makeRoom e moves s).1 = some k →
    s.fwd.newcomers = [m] → m.node = e → m.index = some i → rebuildOpen s = false → s.fwd.windows = [] → m.events = [] →
    m.home = some 3 → s.pair.state = .solo →
    ∃ u, exec (.nodeInsert t e moves) s = .next u ∧
      (u.nodeAt i).map (fun n => (n.eui, n.pan, n.homePort, n.unhomed, n.sec.fcHwm, n.place)) =
        some (e, m.pan, 3, false, m.counter, .table k) ∧ u.fwd.newcomers = [] ∧
      u = { s with clock := u.clock, hlt := u.hlt, fwd := u.fwd }) ∧
  (∀ (t : Time) (e : Eui) (i : Nat) (m : NewSender) (p : NodePlace) (s : State), s.packetUp = true → s.fwd.newcomers = [m] → m.node = e →
    m.index = some i → m.since + ms 2 ≤ (s.arrive t).clock.now → s.clamp 70 = {} → rebuildPlace s e = some p → s.fwd.windows = [] →
    m.events = [] → m.home = some 3 → s.pair.state = .solo →
    ∃ u, exec (.learnFallback t e) s = .next u ∧
      (u.nodeAt i).map (fun n => (n.eui, n.homePort, n.place)) = some (e, 3, p) ∧ u.fwd.newcomers = [] ∧ u.clamp 70 = {}) ∧
  (∀ (t : Time) (s : State), s.fwd.rehash = false → s.packetUp = true → s.fld rFwdCtrl2 19 8 * 16 < failedCount s → s.clamp 70 = {} →
    ∃ u, exec (.rehashStart t) s = .next u ∧ u.fwd.rehash = true ∧ (u.clamp 70).holder = 8 ∧ u.mem = s.mem ∧ u.key = s.key) ∧
  (∀ (t : Time) (slots : List (Nat × Nat)) (l : List (Nat × Node)) (s : State), s.fwd.rehash = true → s.packetUp = true →
    reinsert s.fwd.seeds slots s.fwd.nodes [] = some l →
    ∃ u, exec (.rehashDone t slots) s = .next u ∧ u.fwd = { s.fwd with rehash := false, rbSeeds := none, nodes := l } ∧
      u = { s with clock := u.clock, hlt := u.hlt, fwd := u.fwd }) ∧
  (∀ (t : Time) (i stamp : Nat) (n : Node) (s : State), i < nodeMax → s.nodeAt i = some n → s.packetUp = true →
    ((s.arrive t).second + 2 ^ 32 - stamp % 2 ^ 32) % 2 ^ 32 < s.fld rFwdAge 0 9 * 3600 →
    ∃ u, exec (.agerVisit t i stamp) s = .next u ∧ u.nodeAt i = some { n with heard := n.heard.filter fun h => decide (((s.arrive t).second + 2 ^ 32 - h.last) % 2 ^ 32 ≤ s.fld rFwdAge 9 11 * 60) } ∧
      u = { s with clock := u.clock, hlt := u.hlt, fwd := u.fwd }) ∧
  (∀ (t : Time) (i stamp : Nat) (n : Node) (s : State), i < nodeMax → s.nodeAt i = some n → s.packetUp = true →
    s.fld rFwdAge 0 9 * 3600 ≤ ((s.arrive t).second + 2 ^ 32 - stamp % 2 ^ 32) % 2 ^ 32 → n.ageStamp = stamp → n.static = false →
    n.sec.blobValid = false → cellRefs s i = 0 → afind s.prog i = none → s.pair.state = .solo →
    ∃ u, exec (.agerVisit t i stamp) s = .next u ∧ u.nodeAt i = none ∧
      u.count cFwdAgedEntry 0 = min 0xFFFFFFFF (s.count cFwdAgedEntry 0 + 1)) ∧
  (∀ (t : Time) (e : Eui) (i : Nat) (n : Node) (s : State), s.nodeOf e = some (i, n) → n.unhomed = false → s.headUp n.homePort = false →
    s.packetUp = true → n.heard = [] →
    ∃ u, exec (.homePortRehome t e) s = .next u ∧
      u.nodeAt i = (s.nodeAt i).map (fun n => { n with unhomed := true, challenger := none }) ∧
      u.count cFwdHomeLost 0 = min 0xFFFFFFFF (s.count cFwdHomeLost 0 + 1) ∧
      u = { s with clock := u.clock, hlt := u.hlt, fwd := u.fwd, regs := u.regs }) ∧
  (∀ (t : Time) (e : Eui) (i p : Nat) (n : Node) (h : Heard) (s : State), s.nodeOf e = some (i, n) → n.unhomed = false →
    s.headUp n.homePort = false → s.packetUp = true → n.heard = [h] → h.port = p → p ≠ n.homePort → s.headUp p = true →
    hasToken (s.arrive t) p = true →
    ∃ u, exec (.homePortRehome t e) s = .next u ∧
      u.nodeAt i = (s.nodeAt i).map (fun n => { n with homePort := p, challenger := none }) ∧
      u = { s with clock := u.clock, hlt := u.hlt, fwd := u.fwd })

/-- Forwarding and the seen cache (R342, R345, R346, R347, R348, R362): a packet takes what its route says; best-effort packets and
seen-cache entries expire. -/
def Obligations.Forwarding : Prop :=
  (∀ (t : Time) (p : Packet) (r h : Nat) (s : State), p.fromMesh = true → s.packetUp = true → forwardable p s = true →
    routeFor s p = some r → r / 2 ^ 29 = 3 → 1 < p.hopLimit → h = s.entry tFwdNexthop (r / 2 ^ 16 % 2 ^ 12) →
    s.fry.links.getLsbD (h / 2 ^ 120) = true → frameLength (h / 2 ^ 96 % 2 ^ 16) p.octets.length ≤ 9216 →
    ∃ u, exec (.forwardPacket t p) s = .next u ∧
      u.sent = .forwarded (h / 2 ^ 120) (h / 2 ^ 96 % 2 ^ 16) (h / 2 ^ 48 % 2 ^ 48) p.sentOn :: s.sent ∧
      u = { s with clock := u.clock, hlt := u.hlt, fwd := { s.fwd with toForward := s.fwd.toForward.erase (p.source, p.digest) }, sent := u.sent }) ∧
  (∀ (t : Time) (p : Packet) (r : Nat) (s : State), p.fromMesh = true → s.packetUp = true → forwardable p s = true →
    routeFor s p = some r → r / 2 ^ 29 = 2 → 1 < p.hopLimit → p.meshLength ≤ p.psduMax →
    ∃ u, exec (.forwardPacket t p) s = .next u ∧
      u.fwd.transit.map (fun x => (x.dest, x.length)) =
        s.fwd.transit.map (fun x => (x.dest, x.length)) ++ [(p.dst.setWidth 64 ^^^ 0x0200000000000000, p.meshLength)] ∧
      u.fwd.toForward = s.fwd.toForward.erase (p.source, p.digest) ∧
      u = { s with clock := u.clock, hlt := u.hlt, fwd := u.fwd }) ∧
  (∀ (t : Time) (p : Packet) (s : State), p.fromMesh = true → s.packetUp = true → forwardable p s = true → routeFor s p = none →
    ∃ u, exec (.forwardPacket t p) s = .next u ∧ u.count cFwdNoRoute 0 = min 0xFFFFFFFF (s.count cFwdNoRoute 0 + 1) ∧
      u = { s with clock := u.clock, hlt := u.hlt, fwd := { s.fwd with toForward := s.fwd.toForward.erase (p.source, p.digest) }, regs := u.regs }) ∧
  (∀ (t : Time) (p : Packet) (s : State), p.fromMesh = true → forwardable p s = false →
    ∃ u, exec (.forwardPacket t p) s = .next u ∧ u = { s with clock := u.clock, hlt := u.hlt }) ∧
  (∀ (t : Time) (k : Nat) (p : Transit) (s : State), s.fwd.transit[k]? = some p → s.packetUp = true →
    p.since + sec (s.fld rFwdCtrl2 27 5 * 10) ≤ (s.arrive t).clock.now → p.flood = false → s.txm.bookings = [] →
    ∃ u, exec (.transitExpire t k) s = .next u ∧ u.fwd = { s.fwd with transit := s.fwd.transit.eraseIdx k } ∧
      u.count cFwdTransitExpire 0 = min 0xFFFFFFFF (s.count cFwdTransitExpire 0 + 1) ∧
      u = { s with clock := u.clock, hlt := u.hlt, fwd := u.fwd, regs := u.regs }) ∧
  (∀ (t : Time) (s : State), s.packetUp = true →
    ∃ u, exec (.seenExpire t) s = .next u ∧
      u.fwd.seen = s.fwd.seen.filter (fun x => decide ((s.arrive t).clock.now < x.2.2 + sec (s.fld rFldCtrl 8 12))) ∧
      u = { s with clock := u.clock, hlt := u.hlt, fwd := { s.fwd with seen := u.fwd.seen } })

/-- Downlink items and the device's own records (R315, R316, R317, R319, R326, R477, R494), mostly on a solo chip. `outcomes` lists the
journal entries by KIND, DSN, OUTCOME and CAUSE. -/
def Obligations.DownlinkItems : Prop :=
  (∀ (t : Time) (f : FerryFrame) (b : Octets) (it : DlItem) (x : List Byte) (s : State), (ferryRx 3 f (s.arrive t)).1 = some b → itemsRead b = some [it] →
    s.dl.sync = false → it.dsn = s.dl.nextDsn → dlOf s it.dsn = none → s.pair.state = .solo → s.fry.session ≠ 0 → dlOpen s < 131072 →
    it.formOk = true → it.body = .node x → s.dl.reorder = [] → s.fld rFryWindow 21 11 ≠ 0 →
    ∃ u, exec (.ferryDownlink t f) s = .next u ∧ u.dl.nextDsn = s.dl.nextDsn + 1 ∧ u.dl.reorder = [] ∧
      u.dl.recs = s.dl.recs ++ [{ item := it, since := (s.arrive t).clock.now, state := .waiting }] ∧
      u.sent = nextPacket u.fry.endpoint u.fry.port 4 0 (natToOs 8 it.dsn) s :: .dlAck it.dsn :: s.sent ∧
      u = { s with clock := u.clock, hlt := u.hlt, dl := u.dl, sent := u.sent, fry := u.fry, fwd := u.fwd, regs := u.regs, evr := u.evr, free := u.free }) ∧
  (∀ (t : Time) (f : FerryFrame) (b : Octets) (it : DlItem) (s : State), (ferryRx 3 f (s.arrive t)).1 = some b → itemsRead b = some [it] →
    s.dl.sync = false → it.dsn < s.dl.nextDsn → dlOf s it.dsn = none → s.pair.state = .solo → s.fry.session ≠ 0 →
    ∃ u, exec (.ferryDownlink t f) s = .next u ∧ u.dl = s.dl ∧ u.count cFryDlDup 0 = min 0xFFFFFFFF (s.count cFryDlDup 0 + 1) ∧
      u.sent = nextPacket u.fry.endpoint u.fry.port 4 0 (natToOs 8 (s.dl.nextDsn - 1)) s :: .dlAck (s.dl.nextDsn - 1) :: s.sent ∧
      u = { s with clock := u.clock, hlt := u.hlt, sent := u.sent, fry := u.fry, regs := u.regs, evr := u.evr, free := u.free }) ∧
  (∀ (t : Time) (f : FerryFrame) (b : Octets) (it : DlItem) (s : State), (ferryRx 3 f (s.arrive t)).1 = some b → itemsRead b = some [it] →
    s.dl.sync = false → s.dl.nextDsn < it.dsn → it.dsn < s.dl.nextDsn + s.fld rFryWindow 21 11 → s.dl.reorder = [] →
    ∃ u, exec (.ferryDownlink t f) s = .next u ∧ u.dl = { s.dl with reorder := [it] } ∧ u.sent = s.sent ∧
      u = { s with clock := u.clock, hlt := u.hlt, dl := u.dl, fry := u.fry, regs := u.regs, evr := u.evr, free := u.free }) ∧
  (∀ (t : Time) (f : FerryFrame) (b : Octets) (it : DlItem) (s : State), (ferryRx 3 f (s.arrive t)).1 = some b → itemsRead b = some [it] →
    s.dl.sync = false → s.dl.nextDsn + s.fld rFryWindow 21 11 ≤ it.dsn →
    ∃ u, exec (.ferryDownlink t f) s = .next u ∧ u.count cFryDlGap 0 = min 0xFFFFFFFF (s.count cFryDlGap 0 + 1) ∧ u.sent = s.sent ∧
      u = { s with clock := u.clock, hlt := u.hlt, fry := u.fry, regs := u.regs, evr := u.evr, free := u.free }) ∧
  (∀ (t : Time) (f : FerryFrame) (b : Octets) (it : DlItem) (c : Nat) (x : List Byte) (s : State), (ferryRx 7 f (s.arrive t)).1 = some b →
    itemsRead b = some [it] → s.dl.sync = false → it.dsn = s.dl.nextDsn → dlOf s it.dsn = none → s.pair.state = .solo → dlOpen s < 131072 →
    it.formOk = true → it.body = .command c x → knownCode c = true → s.dl.reorder = [] → s.fld rFryWindow 21 11 ≠ 0 →
    ∃ u, exec (.ferryMgmtCmd t f) s = .next u ∧ u.sent = s.sent ∧
      u.dl = { s.dl with recs := s.dl.recs ++ [{ item := it, since := (s.arrive t).clock.now, state := .carrying }] } ∧
      u = { s with clock := u.clock, hlt := u.hlt, dl := u.dl, fry := u.fry, regs := u.regs, evr := u.evr, free := u.free }) ∧
  (∀ (t : Time) (f : FerryFrame) (b : Octets) (it : DlItem) (s : State), (ferryRx 7 f (s.arrive t)).1 = some b → itemsRead b = some [it] → it.kind ≠ 3 →
    ∃ u, exec (.ferryMgmtCmd t f) s = .next u ∧ u.count cFryBadFormat 0 = min 0xFFFFFFFF (s.count cFryBadFormat 0 + 1) ∧
      u = { s with clock := u.clock, hlt := u.hlt, fry := { s.fry with rx := u.fry.rx, old := u.fry.old }, regs := u.regs }) ∧
  (∀ (t : Time) (d : Nat) (x : List Byte) (r : DlRec) (s : State), s.dl.recs = [r] → r.item.dsn = d → r.item.body = .node x → r.state = .waiting →
    r.done = none → s.pair.state = .solo → s.slotUp = true → r.since + sec r.item.expiry ≤ (s.arrive t).clock.now →
    s.nodeOf r.item.dest = none →
    ∃ u, exec (.dlItemExpiry t d) s = .next u ∧ outcomes u = outcomes s ++ [(3, d, 2, 0x11)] ∧
      (dlOf u d).map (fun r => r.state) = some .ended ∧
      u = { s with clock := u.clock, hlt := u.hlt, dl := u.dl, jrn := u.jrn, flash := u.flash, fwd := u.fwd }) ∧
  (∀ (t x air : Time) (e : Eui) (nack : Bool) (r : DlRec) (d : List Byte) (s : State), s.dl.recs = [r] → r.item.dest = e → r.done = none →
    r.item.body = .node d → r.state = .begun x → x ≤ air + us (g0 s) → air ≤ x + us (g0 s) → s.pair.state = .solo → s.slotUp = true →
    ∃ u, exec (.nodeEnhancedAck t e true nack air) s = .next u ∧
      outcomes u = outcomes s ++ [(3, r.item.dsn, if nack then 3 else 1, if nack then 1 else 0)] ∧ u.dl.recs = [{ r with state := .ended, done := some (if nack then 3 else 1, if nack then 1 else 0) }] ∧
      u = { s with clock := u.clock, hlt := u.hlt, dl := u.dl, jrn := u.jrn, flash := u.flash }) ∧
  (∀ (t air : Time) (e : Eui) (nack : Bool) (s : State), s.dl.recs = [] → s.slotUp = true →
    ∃ u, exec (.nodeEnhancedAck t e true nack air) s = .next u ∧
      u.count cJrnAckUnmatched 0 = min 0xFFFFFFFF (s.count cJrnAckUnmatched 0 + 1) ∧
      u = { s with clock := u.clock, hlt := u.hlt, regs := u.regs }) ∧
  (∀ (t : Time) (d b : Nat) (a : List Byte) (r : DlRec) (s : State), s.argsOf d 2 = some a → blockArg (octetAt a 0) = some (some b) → s.dl.recs = [r] → r.item.dsn = d → s.pair.state = .solo →
    s.dl.reorder = [] → b ≠ 23 →
    ∃ u, exec (.clearCounters t d) s = .next u ∧ outcomes u = outcomes s ++ [(3, d, 1, 0)] ∧
      (counters.all fun c => c.block != b || (List.range c.cnt).all fun i => u.count c i == 0) = true ∧
      u = { s with clock := u.clock, hlt := u.hlt, dl := u.dl, jrn := u.jrn, flash := u.flash, regs := u.regs, evr := u.evr, fry := u.fry, sent := u.sent }) ∧
  (∀ (t : Time) (d : Nat) (a : List Byte) (r : DlRec) (s : State), s.argsOf d 3 = some a → octetAt a 0 = 21 → s.dl.recs = [r] → r.item.dsn = d → s.pair.state = .solo →
    s.dl.reorder = [] →
    ∃ u, exec (.clearSticky t d) s = .next u ∧ outcomes u = outcomes s ++ [(3, d, 1, 0)] ∧
      u.msys.quays = s.msys.quays.map (fun x => (x.1, { x.2 with wm := { x.2.wm with crossed := false, count := 0 } })) ∧
      u = { s with clock := u.clock, hlt := u.hlt, dl := u.dl, jrn := u.jrn, flash := u.flash, regs := u.regs, evr := u.evr, fry := u.fry, sent := u.sent, msys := { s.msys with quays := u.msys.quays } }) ∧
  (∀ (t : Time) (d : Nat) (r : DlRec) (s : State), s.carries d 4 = true → s.dl.recs = [r] → r.item.dsn = d → s.pair.state = .solo →
    s.dl.reorder = [] → fifoNow (s.arrive t) < 64 →
    ∃ u, exec (.eventClear t d) s = .next u ∧ outcomes u = outcomes s ++ [(3, d, 1, 0)] ∧ u.evr.oldest = s.evr.head ∧
      u.evr.records.map (fun e => (e.kind, e.count, e.arg0, e.arg1, e.seq)) = [(5, s.evr.records.length, d % 2 ^ 32, d / 2 ^ 32 % 2 ^ 32, s.evr.head)] ∧
      u = { s with clock := u.clock, hlt := u.hlt, dl := u.dl, jrn := u.jrn, flash := u.flash, evr := u.evr, fry := u.fry, sent := u.sent })

/-- The Ferry session, its packets and its links (R310, R320, R321, R322, R323, R324, R325, R327, R329). `nextPacket` is the packet that the
session sends next, `ferryArrives` the header of a packet that reaches the active or solo chip on a frame that meets R320. -/
def Obligations.FerrySession : Prop :=
  (∀ (t : Time) (f : FerryFrame) (h : FerryHead) (b : Octets) (x : BitVec 128 × BitVec 128) (s : State), (ferryArrives [8] f (s.arrive t)).1 = some h →
    s.fry.session ≠ 0 → h.session = s.fry.session → openPacket s.fry.rx.key (ofBytes f.payload) = some b → s.fry.rx.fresh h.packetNo = true →
    h.version = 1 → h.flags = 0 → heartbeatRead false b = some x →
    ∃ u, exec (.ferryHeartbeat t f) s = .next u ∧ u.fry.rx.high = max s.fry.rx.high h.packetNo ∧ u.fry.peerLost = false ∧
      u.fry.lastHeard = (s.arrive t).clock.now ∧ u.fry.session = s.fry.session ∧
      u = { s with clock := u.clock, hlt := u.hlt, fry := u.fry, regs := u.regs, evr := u.evr, free := u.free }) ∧
  (∀ (t : Time) (f : FerryFrame) (h : FerryHead) (b : Octets) (s : State), (ferryArrives [8] f (s.arrive t)).1 = some h →
    s.fry.session ≠ 0 → h.session = s.fry.session → openPacket s.fry.rx.key (ofBytes f.payload) = some b → s.fry.rx.fresh h.packetNo = false → h.flags % 2 = 0 →
    ∃ u, exec (.ferryHeartbeat t f) s = .next u ∧ u.count cFryReplay 0 = min 0xFFFFFFFF (s.count cFryReplay 0 + 1) ∧
      u = { s with clock := u.clock, hlt := u.hlt, regs := u.regs }) ∧
  (∀ (t : Time) (f : FerryFrame) (h : FerryHead) (s : State), (ferryArrives [8] f (s.arrive t)).1 = some h →
    s.fry.session ≠ 0 → h.session = s.fry.session → openPacket s.fry.rx.key (ofBytes f.payload) = none → h.flags % 2 = 0 →
    ∃ u, exec (.ferryHeartbeat t f) s = .next u ∧ u.count cFryAuthFail 0 = min 0xFFFFFFFF (s.count cFryAuthFail 0 + 1) ∧
      u = { s with clock := u.clock, hlt := u.hlt, regs := u.regs }) ∧
  (∀ (t : Time) (f : FerryFrame) (s : State), (ferryHeadRead (ofBytes f.payload)).type = 8 → s.packetUp = true → inTable s f = false →
    ∃ u, exec (.ferryHeartbeat t f) s = .next u ∧ u.count cFryRxDiscard 0 = min 0xFFFFFFFF (s.count cFryRxDiscard 0 + 1) ∧
      u = { s with clock := u.clock, hlt := u.hlt, regs := u.regs }) ∧
  (∀ (t : Time) (f : FerryFrame) (h : FerryHead) (k : VKey) (b : Octets) (n m : BitVec 128) (s : State), (ferryArrives [8] f (s.arrive t)).1 = some h →
    h.version = 1 → h.flags = 3 → keyAt s 6 0 = some k → openPacket (openingKey k.plain.key) (ofBytes f.payload) = some b →
    heartbeatRead true b = some (n, m) → s.fry.state = 1 → h.session = s.fry.lastUsed → n = s.fry.nonceD → s.pair.state = .solo →
    ∃ u, exec (.ferryHeartbeat t f) s = .next u ∧ u.fry.state = 2 ∧ u.fry.session = s.fry.lastUsed ∧ u.fry.txNo = 0 ∧
      u.fry.txKey ++ u.fry.rx.key = sessionKeys k.plain.key n m s.fry.lastUsed ∧
      u.fry.rx.session = s.fry.lastUsed ∧ u.fry.rx.high = 0 ∧ u.fry.rx.seen = [] ∧ u.fry.nonceH = m ∧
      u.fry.old = (if s.fry.session = 0 then none else some (s.fry.rx, (s.arrive t).clock.now)) ∧
      u = { s with clock := u.clock, hlt := u.hlt, fry := u.fry, regs := u.regs, evr := u.evr, free := u.free }) ∧
  (∀ (t : Time) (s : State), ferryMay s = true → s.fry.hbAt + hbInterval s ≤ (s.arrive t).clock.now → s.pair.state = .solo →
    s.fry.txNo + 1 < s.fry.txCeiling →
    ∃ u, exec (.ferryHeartbeatTx t) s = .next u ∧
      u.sent = .heartbeat false s.fry.session 2 s.pair.epoch (baseJsn s) s.jrn.nextJsn s.jrn.ackJsn s.dl.nextDsn ::
        nextPacket s.fry.endpoint s.fry.port 8 0 (heartbeatOctets 2 s.pair.epoch (baseJsn s) s.jrn.nextJsn s.jrn.ackJsn s.dl.nextDsn) s :: s.sent ∧
      u.fry = { s.fry with hbAt := (s.arrive t).clock.now, txNo := s.fry.txNo + 1 } ∧
      u = { s with clock := u.clock, hlt := u.hlt, fry := u.fry, sent := u.sent }) ∧
  (∀ (t : Time) (s : State), ferryUp s = true → s.fry.peerLost = false → s.fry.lastHeard + 10 * hbInterval s ≤ (s.arrive t).clock.now →
    endpoints s = [s.fry.endpoint] →
    ∃ u, exec (.ferryPeerLost t) s = .next u ∧ u.fry = { s.fry with peerLost := true } ∧
      u = { s with clock := u.clock, hlt := u.hlt, fry := u.fry, regs := u.regs, evr := u.evr, free := s.free + 2 }) ∧
  (∀ (t : Time) (k : VKey) (s : State), ferryUp s = true → s.fry.advertised = true → s.fry.session = 0 → keyAt s 6 0 = some k →
    k.status = .live → stale s k = false → s.pair.state = .solo →
    ∃ u, exec (.ferrySessionOpen t) s = .next u ∧ u.fry.lastUsed = s.fry.lastUsed + 1 ∧ u.fry.state = 1 ∧ u.fry.nonceD = Config.nonce s.free ∧
      u.sent = .heartbeat true (s.fry.lastUsed + 1) 2 s.pair.epoch (baseJsn s) s.jrn.nextJsn s.jrn.ackJsn s.dl.nextDsn ::
        .ferry s.fry.endpoint s.fry.port (sealPacket (openingKey k.plain.key) ⟨1, 8, 1, s.fry.lastUsed + 1, Config.openPacketNo (s.free + 1)⟩
          (heartbeatBody s ++ octetsOf (Config.nonce s.free) ++ octetsOf (0 : BitVec 128))) :: s.sent ∧
      u = { s with clock := u.clock, hlt := u.hlt, fry := u.fry, sent := u.sent, free := s.free + 2 }) ∧
  (∀ (t : Time) (k : VKey) (s : State), ferryMay s = true → s.fry.opened + sec (s.fld rFryCtrl 16 8 * 3600) ≤ (s.arrive t).clock.now →
    keyAt s 6 0 = some k → k.status = .live → stale s k = false → s.pair.state = .solo →
    ∃ u, exec (.ferryRekey t) s = .next u ∧ u.fry.lastUsed = s.fry.lastUsed + 1 ∧ u.fry.state = 1 ∧ u.fry.session = s.fry.session ∧
      u.sent.head? = some (.heartbeat true (s.fry.lastUsed + 1) 2 s.pair.epoch (baseJsn s) s.jrn.nextJsn s.jrn.ackJsn s.dl.nextDsn) ∧
      u = { s with clock := u.clock, hlt := u.hlt, fry := u.fry, sent := u.sent, free := s.free + 2 }) ∧
  (∀ (t : Time) (w : RxWin) (x : Time) (s : State), s.fry.old = some (w, x) → x + sec 10 ≤ (s.arrive t).clock.now →
    ∃ u, exec (.ferryOldKeysExpire t) s = .next u ∧ u = { s with clock := u.clock, hlt := u.hlt, fry := { s.fry with old := none } }) ∧
  (∀ (t : Time) (f : FerryFrame) (b : Octets) (j : Nat) (s : State), (ferryRx 2 f (s.arrive t)).1 = some b → ulAckRead b = some j → j < s.jrn.nextJsn → s.jrn.ackJsn < j →
    s.pair.state = .solo →
    ∃ u, exec (.ferryUlAck t f) s = .next u ∧ u.jrn.ackJsn = j ∧
      u.jrn.entries = s.jrn.entries.filter (fun e => decide (j < e.hdr.jsn) || e.state == .owed || e.state == .staged) ∧
      u = { s with clock := u.clock, hlt := u.hlt, fry := u.fry, jrn := u.jrn, upd := { s.upd with ackMoved := true }, regs := u.regs, evr := u.evr, free := u.free }) ∧
  (∀ (t : Time) (n : Nat) (e : Entry) (s : State), ferryMay s = true → s.jrn.entries = [e] → e.hdr.jsn = s.jrn.sentTo + 1 →
    e.state = .accepted → s.jrn.sentTo < s.jrn.ackJsn + s.fld rFryWindow 0 21 → 0 < n → s.pair.state = .solo →
    ∃ u, exec (.ferryUplinkSend t n) s = .next u ∧
      u.sent = .uplink (e.hdr.kind == 3) e.hdr.jsn e.hdr.jsn ::
        nextPacket s.fry.endpoint s.fry.port (if e.hdr.kind = 3 then 5 else 1) 0 (entriesOctets [e]) s :: s.sent ∧
      u.jrn.sentTo = s.jrn.sentTo + 1 ∧ u.fry.txNo = s.fry.txNo + 1 ∧ u.jrn.entries = s.jrn.entries ∧
      u = { s with clock := u.clock, hlt := u.hlt, fry := u.fry, jrn := u.jrn, sent := u.sent }) ∧
  (∀ (t : Time) (e : Entry) (s : State), ferryMay s = true → s.jrn.entries = [e] → s.jrn.ackJsn < e.hdr.jsn → e.hdr.jsn ≤ s.jrn.sentTo →
    s.jrn.ackAt + ms (s.fld rFryCtrl 0 8) ≤ (s.arrive t).clock.now → s.pair.state = .solo →
    ∃ u, exec (.ferryUlRto t) s = .next u ∧
      u.sent = .uplink (e.hdr.kind == 3) e.hdr.jsn e.hdr.jsn ::
        nextPacket s.fry.endpoint s.fry.port (if e.hdr.kind = 3 then 5 else 1) 0 (entriesOctets [e]) s :: s.sent ∧
      u.count cFryUlRetx 0 = min 0xFFFFFFFF (s.count cFryUlRetx 0 + 1) ∧ u.jrn = { s.jrn with ackAt := (s.arrive t).clock.now } ∧
      u = { s with clock := u.clock, hlt := u.hlt, fry := u.fry, jrn := u.jrn, sent := u.sent, regs := u.regs }) ∧
  (∀ (t : Time) (s : State), s.fry.adverts ≠ 0 → s.leads = true → s.packetUp = true → s.fry.advertAt ≤ (s.arrive t).clock.now →
    ∃ u, exec (.neighbourAdvertisementTx t) s = .next u ∧
      u.sent = (ferryPorts s).reverse.map (fun p => .neighbourAdvertisement p true) ++ s.sent ∧
      u.fry = { s.fry with adverts := s.fry.adverts - 1, advertAt := s.fry.advertAt + sec 1, advertised := true } ∧
      u = { s with clock := u.clock, hlt := u.hlt, fry := u.fry, sent := u.sent }) ∧
  (∀ (t : Time) (p : Nat) (s : State), p < 8 → reachesUs s p (fryAddr s) = true →
    ∃ u, exec (.neighbourSolicitation t p (fryAddr s)) s = .next u ∧
      u = { s with clock := u.clock, hlt := u.hlt, sent := .neighbourAdvertisement p false :: s.sent }) ∧
  (∀ (t : Time) (p : Nat) (s : State), p < 8 → reachesUs s p (fryAddr s) = true →
    ∃ u, exec (.echoRequest t p (fryAddr s)) s = .next u ∧ u = { s with clock := u.clock, hlt := u.hlt, sent := .echoReply p :: s.sent }) ∧
  (∀ (t : Time) (p : Nat) (up : Bool) (s : State), p < 8 → octetField 32 (s.entry tFryPort p) 0 30 2 ≠ 0 → s.packetUp = true →
    ∃ u, exec (.ethLinkChange t p up) s = .next u ∧ (∀ q, q < 8 → u.fry.links.getLsbD q = if q = p then up else s.fry.links.getLsbD q) ∧
      u = { s with clock := u.clock, hlt := u.hlt, fry := u.fry, regs := u.regs, evr := u.evr, free := u.free })

/-- A MGMT-READ request is answered, RESPONSE set, with its REQ_ID and the words read (R325, R328); one that asks for nothing reads nothing. -/
def Obligations.ManagementReads : Prop :=
  (∀ (t : Time) (f : FerryFrame) (b : Octets) (r : Word) (l : List (Word × Nat)) (s : State), (ferryRx 6 f (s.arrive t)).1 = some b →
    readsRead b = some (r, l) →
    ∃ u, exec (.ferryMgmtRead t f) s = .next u ∧
      u.sent.contains (.mgmtRead r (readAll l (frameHeard f (ferryRx 6 f (s.arrive t)).2)).1) = true ∧
      (readAll l (frameHeard f (ferryRx 6 f (s.arrive t)).2)).1.length = (l.map fun x => x.2).sum ∧
      u.dl = s.dl ∧ u.jrn = s.jrn ∧ u.key = s.key ∧ u.txm = s.txm ∧ u.lane = s.lane ∧ u.upd = s.upd ∧ u.camps = s.camps) ∧
  (∀ (t : Time) (f : FerryFrame) (b : Octets) (r a : Word) (s : State), (ferryRx 6 f (s.arrive t)).1 = some b →
    readsRead b = some (r, [(a, 1)]) → a.toNat < 0x40000000 → s.pair.state = .solo → s.fry.session ≠ 0 →
    ∃ u, exec (.ferryMgmtRead t f) s = .next u ∧
      u.sent = nextPacket u.fry.endpoint u.fry.port 6 2 (wordsOctets r [0xDEAD0000]) s :: .mgmtRead r [0xDEAD0000] :: s.sent ∧
      u.count cFryReadRefuse 0 = min 0xFFFFFFFF (s.count cFryReadRefuse 0 + 1) ∧
      u = { s with clock := u.clock, hlt := u.hlt, fry := u.fry, sent := u.sent, regs := u.regs, evr := u.evr, free := u.free }) ∧
  (∀ (t : Time) (f : FerryFrame) (b : Octets) (s : State), (ferryRx 6 f (s.arrive t)).1 = some b → readsRead b = none →
    ∃ u, exec (.ferryMgmtRead t f) s = .next u ∧ u.count cFryBadFormat 0 = min 0xFFFFFFFF (s.count cFryBadFormat 0 + 1) ∧ u.sent = s.sent ∧
      u = { s with clock := u.clock, hlt := u.hlt, fry := { s.fry with rx := u.fry.rx, old := u.fry.old }, regs := u.regs })

/-- The mirror records of the active on its standby (R209, R283, R302, R309, R310, R316, R327, R361, R365, R378, R380, R396): a record that
comes in its turn takes effect, and where it asks for a COMMIT one leaves. -/
def Obligations.MirrorRecords : Prop :=
  (∀ (t : Time) (h : MirrorHdr) (g n : Nat) (s : State), inTurn h s → s.pair.state = .standby → g < 4096 →
    ∃ u, exec (.payloadRecord t h g n) s = .next u ∧ takenIn h s u ∧
      afind u.jrn.payloads g = some ((afind s.jrn.payloads g).getD 0 + n) ∧
      u = { s with clock := u.clock, hlt := u.hlt, pair := u.pair, jrn := { s.jrn with payloads := u.jrn.payloads } }) ∧
  (∀ (t : Time) (h : MirrorHdr) (g : Nat) (e : EntryHdr) (s : State), inTurn h s → s.pair.state = .standby → g < 4096 → e.kind = 1 →
    e.ackReq = true → entryOf s e.jsn = none → s.jrn.cands = [] →
    ∃ u, exec (.entryRecord t h g e) s = .next u ∧ takenIn h s u ∧ answered h s u ∧
      u.jrn.entries = s.jrn.entries ++ [{ hdr := e, state := .owed, group := 4096 + g, mirrored := true, leave := ((bookOf s g).map fun b => b.leaveTime).getD 0, deadline := ((bookOf s g).map fun b => b.deadline).getD 0 }] ∧
      u.jrn.nextJsn = max s.jrn.nextJsn (e.jsn + 1) ∧
      u = { s with clock := u.clock, hlt := u.hlt, pair := u.pair, jrn := u.jrn, sent := u.sent }) ∧
  (∀ (t : Time) (h : MirrorHdr) (g : Nat) (e : EntryHdr) (s : State), inTurn h s → s.pair.state = .standby → g < 4096 → e.kind = 2 →
    entryOf s e.jsn = none →
    ∃ u, exec (.entryRecord t h g e) s = .next u ∧ takenIn h s u ∧ answered h s u ∧
      u.jrn.entries = s.jrn.entries ++ [{ hdr := e, state := .void, mirrored := true }] ∧
      u = { s with clock := u.clock, hlt := u.hlt, pair := u.pair, jrn := u.jrn, sent := u.sent }) ∧
  (∀ (t : Time) (h : MirrorHdr) (b : AckBook) (s : State), inTurn h s → s.pair.state = .standby →
    ∃ u, exec (.ackBookRecord t h b) s = .next u ∧ takenIn h s u ∧
      u.jrn.books = (s.jrn.books.filter fun x => x.group != b.group) ++ [b] ∧
      u = { s with clock := u.clock, hlt := u.hlt, pair := u.pair, jrn := { s.jrn with books := u.jrn.books }, cal := u.cal, txm := { s.txm with accounts := u.txm.accounts } }) ∧
  (∀ (t : Time) (h : MirrorHdr) (j : Nat) (e : Entry) (s : State), inTurn h s → s.pair.state = .standby → entryOf s j = some e →
    e.mirrored = true → s.groupOf e.group = none → afind s.txm.acks e.group = none →
    ∃ u, exec (.voidRecord t h j) s = .next u ∧ takenIn h s u ∧ answered h s u ∧
      u.jrn.entries = s.jrn.entries.map (fun e => if e.hdr.jsn = j then { e with state := .void, waits := false, frame := none, hdr := { e.hdr with kind := 2, length := 0, endTime := u.clock.now } } else e) ∧
      u.count cJrnVoid 0 = min 0xFFFFFFFF (s.count cJrnVoid 0 + 1) ∧
      u = { s with clock := u.clock, hlt := u.hlt, pair := u.pair, jrn := u.jrn, sent := u.sent, regs := u.regs }) ∧
  (∀ (t : Time) (h : MirrorHdr) (d : Nat) (x : Time) (s : State), inTurn h s → s.pair.state = .standby →
    ∃ u, exec (.dlRecord t h (.begun d x)) s = .next u ∧ takenIn h s u ∧ answered h s u ∧
      u.dl.recs = s.dl.recs.map (fun r => if r.item.dsn = d then (if r.state = .waiting then { r with state := .begun x } else r) else r) ∧
      u = { s with clock := u.clock, hlt := u.hlt, pair := u.pair, dl := u.dl, sent := u.sent }) ∧
  (∀ (t : Time) (h : MirrorHdr) (e : Eui) (i v f c : Nat) (n : Node) (s : State), inTurn h s → s.pair.state = .standby →
    s.indexOf e = some i → s.nodeAt i = some n →
    ∃ u, exec (.ceilingRecord t h ⟨[(e, v)], some f, some c⟩) s = .next u ∧ takenIn h s u ∧
      u.nodeAt i = some { n with sec := { n.sec with txFc := max n.sec.txFc v } } ∧
      u.fwd.floodCeiling = max s.fwd.floodCeiling f ∧ u.flash.epochCeiling = max s.flash.epochCeiling c ∧
      u = { s with clock := u.clock, hlt := u.hlt, pair := u.pair, fwd := u.fwd, flash := { s.flash with epochCeiling := u.flash.epochCeiling } }) ∧
  (∀ (t : Time) (h : MirrorHdr) (j : Nat) (s : State), inTurn h s → s.pair.state = .standby → s.jrn.ackJsn < j →
    ∃ u, exec (.ackPointRecord t h j) s = .next u ∧ takenIn h s u ∧ u.jrn.ackJsn = j ∧
      u.jrn.entries = s.jrn.entries.filter (fun e => decide (j < e.hdr.jsn) || e.state == .owed || e.state == .staged) ∧
      u = { s with clock := u.clock, hlt := u.hlt, pair := u.pair, jrn := u.jrn }) ∧
  (∀ (t : Time) (h : MirrorHdr) (n c w : Nat) (a b : BitVec 128) (s : State), inTurn h s → s.pair.state = .standby →
    ∃ u, exec (.sessionRecord t h n c w a b) s = .next u ∧ takenIn h s u ∧ u.fry.session = n ∧ u.fry.nonceD = a ∧ u.fry.nonceH = b ∧
      u.fry.txCeiling = c ∧ u.fry.rx.high = w ∧
      u.fry.txKey ++ u.fry.rx.key = sessionKeys (persistentKey s 6 0) a b n ∧ u = { s with clock := u.clock, hlt := u.hlt, pair := u.pair, fry := u.fry }) ∧
  (∀ (t : Time) (h : MirrorHdr) (c : SchedChange) (s : State), inTurn h s → s.pair.state = .standby →
    ∃ u, exec (.scheduleRecord t h c) s = .next u ∧ takenIn h s u ∧ u.sch.changes = s.sch.changes ++ [c] ∧
      u.sch.startAsn = (c.start.orElse fun _ => s.sch.startAsn) ∧
      u = { s with clock := u.clock, hlt := u.hlt, pair := u.pair, sch := { s.sch with changes := u.sch.changes, startAsn := u.sch.startAsn } }) ∧
  (∀ (t : Time) (h : MirrorHdr) (id v : Nat) (s : State), inTurn h s → s.pair.state = .standby →
    ∃ u, exec (.keyRecord t h (.ceiling 9 id v)) s = .next u ∧ takenIn h s u ∧ answered h s u ∧
      u.key.nodeCeiling = max s.key.nodeCeiling v ∧
      u = { s with clock := u.clock, hlt := u.hlt, pair := u.pair, key := u.key, flash := u.flash, sent := u.sent }) ∧
  (∀ (t : Time) (h : MirrorHdr) (e : Eui) (i : Nat) (relay : Bool) (pan : BitVec 16) (p : NodePlace) (s : State), inTurn h s → s.pair.state = .standby →
    i < nodeMax → s.indexOf e = none → anyPlace s e = some p →
    ∃ u, exec (.nodeRecord t h true e i relay pan none) s = .next u ∧ takenIn h s u ∧
      (u.nodeAt i).map (fun n => (n.eui, n.pan, n.role, n.place)) = some (e, pan, relay.toNat, p) ∧
      u = { s with clock := u.clock, hlt := u.hlt, pair := u.pair, fwd := { s.fwd with nodes := u.fwd.nodes } }) ∧
  (∀ (t : Time) (h : MirrorHdr) (c r k : Nat) (x : Camp) (s : State), inTurn h s → s.pair.state = .standby → afind s.camps c = some x →
    ∃ u, exec (.campaignRecord t h (.checkpoint c r k 3)) s = .next u ∧ takenIn h s u ∧ answered h s u ∧
      afind u.camps c = some { x with round := r, cursor := k, state := .running } ∧
      u = { s with clock := u.clock, hlt := u.hlt, pair := u.pair, camps := u.camps, sent := u.sent }) ∧
  (∀ (t : Time) (h : MirrorHdr) (p : Time) (s : State), inTurn h s → s.pair.state = .standby → s.timer.stepped = true →
    ∃ u, exec (.timeRecord t h p) s = .next u ∧ takenIn h s u ∧ u.timer.offset = (u.clock.now : Int) - p ∧
      u = { s with clock := u.clock, hlt := u.hlt, pair := u.pair, timer := u.timer, sch := u.sch, regs := u.regs, free := u.free }) ∧
  (∀ (t : Time) (h : MirrorHdr) (th : Time) (e : Nat) (s : State), inTurn h s → s.pair.state = .standby →
    ∃ u, exec (.handoverRecord t h th e) s = .next u ∧ takenIn h s u ∧ answered h s u ∧
      u.pair.handover = some ⟨th, e, none, false, true⟩ ∧
      u = { s with clock := u.clock, hlt := u.hlt, pair := u.pair, sent := u.sent }) ∧
  (∀ (t : Time) (h : MirrorHdr) (m : Nat) (s : State), inTurn h s → s.pair.state = .standby →
    ∃ u, exec (.releasedRecord t h m) s = .next u ∧ takenIn h s u ∧ u.pair.released = true ∧
      u = { s with clock := u.clock, hlt := u.hlt, pair := u.pair })

/-- The records that either chip takes, and those that are not taken (R373, R377, R378, R380, R381, R390, R391). -/
def Obligations.PairRecords : Prop :=
  (∀ (t : Time) (h : MirrorHdr) (s : State), inTurn h s →
    ∃ u, exec (.keepaliveRecord t h) s = .next u ∧ takenIn h s u ∧ u = { s with clock := u.clock, hlt := u.hlt, pair := u.pair }) ∧
  (∀ (t : Time) (h : MirrorHdr) (m j : Nat) (ok : Bool) (s : State), inTurn h s → s.pair.state = .active →
    afind s.pair.awaits m = some (.void j) →
    ∃ u, exec (.commitRecord t h m ok) s = .next u ∧ takenIn h s u ∧ u.pair.awaits = adel s.pair.awaits m ∧
      u.jrn.entries = s.jrn.entries.map (fun e => if e.hdr.jsn = j then { e with waits := false } else e) ∧
      u = { s with clock := u.clock, hlt := u.hlt, pair := u.pair, jrn := u.jrn }) ∧
  (∀ (t : Time) (h : MirrorHdr) (f : Fitness) (s : State), inTurn h s →
    ∃ u, exec (.fitnessRecord t h f) s = .next u ∧ takenIn h s u ∧ u.pair.fitness = some f ∧
      u = { s with clock := u.clock, hlt := u.hlt, pair := u.pair }) ∧
  (∀ (t : Time) (h : MirrorHdr) (r : Nat) (l : List (Nat × BitVec 64)) (s : State), inTurn h s → s.pair.state = .standby →
    digestsDiffer l s.pair.digest = [r] → s.pair.differ.contains r = true → s.pair.asked.contains r = false →
    ∃ u, exec (.digestRecord t h l) s = .next u ∧ takenIn h s u ∧ u.pair.differ = [r] ∧ u.pair.asked = s.pair.asked ++ [r] ∧
      u.sent = .record false false (s.pair.mseqOut + 1) u.pair.epoch (.range (.request r)) :: s.sent ∧
      u = { s with clock := u.clock, hlt := u.hlt, pair := u.pair, sent := u.sent }) ∧
  (∀ (t : Time) (h : MirrorHdr) (r : Nat) (l : List (Nat × BitVec 64)) (s : State), inTurn h s → s.pair.state = .standby →
    digestsDiffer l s.pair.digest = [r] → s.pair.differ.contains r = false →
    ∃ u, exec (.digestRecord t h l) s = .next u ∧ takenIn h s u ∧ u.pair.differ = [r] ∧ u.pair.asked = s.pair.asked ∧
      u = { s with clock := u.clock, hlt := u.hlt, pair := u.pair }) ∧
  (∀ (t : Time) (h : MirrorHdr) (r : Nat) (s : State), inTurn h s → s.pair.state = .active →
    ∃ u, exec (.rangeRecord t h (.request r)) s = .next u ∧ takenIn h s u ∧
      u.sent = .record false false (s.pair.mseqOut + 1) u.pair.epoch (.range (.reply r (rangeEntries s r))) :: s.sent ∧
      u = { s with clock := u.clock, hlt := u.hlt, pair := u.pair, sent := u.sent }) ∧
  (∀ (t : Time) (h : MirrorHdr) (r : Nat) (x : RangeEntry) (n : Node) (s : State), inTurn h s → s.pair.state = .standby →
    s.pair.asked.contains r = true → s.nodeAt x.index = some n →
    ∃ u, exec (.rangeRecord t h (.reply r [x])) s = .next u ∧ takenIn h s u ∧
      u.nodeAt x.index = some { n with homePort := x.homePort, unhomed := x.unhomed, parent := if x.parentValid then some x.parent else none, role := x.relay.toNat } ∧
      u.count cPairDigestMismatch 0 = min 0xFFFFFFFF (s.count cPairDigestMismatch 0 + 1) ∧
      u = { s with clock := u.clock, hlt := u.hlt, pair := u.pair, fwd := { s.fwd with nodes := u.fwd.nodes }, regs := u.regs }) ∧
  (∀ (t : Time) (h : MirrorHdr) (s : State), h.link < 2 → s.isthmusUp = true → s.pair.links.getLsbD h.link = true → h.tagGood = false →
    ∃ u, exec (.keepaliveRecord t h) s = .next u ∧ u.count cPairIsthmusAuth 0 = min 0xFFFFFFFF (s.count cPairIsthmusAuth 0 + 1) ∧
      u = { s with clock := u.clock, hlt := u.hlt, regs := u.regs }) ∧
  (∀ (t : Time) (h : MirrorHdr) (s : State), h.link < 2 → s.isthmusUp = true → s.pair.links.getLsbD h.link = true → h.tagGood = true →
    s.pair.paired = true → h.mseq < s.pair.nextIn →
    ∃ u, exec (.keepaliveRecord t h) s = .next u ∧ u.count cPairSecondCopy 0 = min 0xFFFFFFFF (s.count cPairSecondCopy 0 + 1) ∧
      u.pair.lastGood = u.clock.now ∧ u = { s with clock := u.clock, hlt := u.hlt, pair := u.pair, regs := u.regs })

/-- The token line (R309, R369, R370, R371, R383, R387, R388, R396): a released line starts a take, a tie and a fault of the own line end
in a release, and a take drives the line or is aborted. -/
def Obligations.TokenLine : Prop :=
  (∀ (t : Time) (s : State), s.inService = true → s.pair.state = .standby → s.pair.handover = none →
    ∃ u, exec (.tokenPartnerReleased t) s = .next u ∧ u.pair.state = .taking ∧ u.pair.sensed = some u.clock.now ∧
      u.pair.epoch = s.pair.epoch + 1 ∧ u.pair.takeAt = u.clock.now + ns 13880 ∧ u.pair.partnerLow = false ∧ u.pair.orphanTake = false ∧
      u = { s with clock := u.clock, hlt := u.hlt, pair := u.pair }) ∧
  (∀ (t : Time) (h : Handover) (s : State), s.inService = true → s.pair.state = .standby → s.pair.handover = some h →
    s.pair.released = true →
    ∃ u, exec (.tokenPartnerReleased t) s = .next u ∧ u.pair.state = .taking ∧ u.pair.epoch = max h.epoch (s.pair.epoch + 1) ∧
      u.pair.takeAt = u.clock.now + us 1 ∧ u = { s with clock := u.clock, hlt := u.hlt, pair := u.pair }) ∧
  (∀ (t : Time) (s : State), s.inService = true → (s.pair.state = .resync ∨ s.pair.state = .detached) →
    ∃ u, exec (.tokenPartnerReleased t) s = .next u ∧ u.pair.state = .taking ∧ u.pair.orphanTake = true ∧
      u.pair.epoch = max s.pair.epoch s.flash.epochCeiling + 1 ∧ u.pair.takeAt = u.clock.now + ns 13880 ∧
      u = { s with clock := u.clock, hlt := u.hlt, pair := u.pair }) ∧
  (∀ (t : Time) (s : State), s.pair.driving = true → s.pair.state ≠ .solo → s.start.pairRole = false →
    ∃ u, exec (.tokenTie t) s = .next u ∧ u.pair.partnerLow = true ∧ u.pair.driving = true ∧
      u = { s with clock := u.clock, hlt := u.hlt, pair := { s.pair with partnerLow := true } }) ∧
  (∀ (t : Time) (s : State), s.pair.driving = true → s.pair.state ≠ .solo → s.start.pairRole = true →
    ∃ u, exec (.tokenTie t) s = .next u ∧ u.pair.driving = false ∧ u.pair.state = .detached ∧ u.pair.partnerLow = true ∧
      u.pair.paired = false ∧ u.mem = s.mem) ∧
  (∀ (t : Time) (s : State), s.pair.driving = true →
    ∃ u, exec (.ownLineFault t) s = .next u ∧ u.pair.driving = false ∧ u.pair.ownLow = false ∧ u.pair.state = .standby ∧ u.mem = s.mem) ∧
  (∀ (t : Time) (s : State), s.pair.state = .taking → s.pair.takeAt ≤ (s.arrive t).clock.now → s.inService = true →
    ∃ u, exec (.takeTime t true) s = .next u ∧ u.pair.state = .detached ∧ u.pair.driving = s.pair.driving ∧ u.pair.partnerLow = true ∧
      u.mem = s.mem) ∧
  (∀ (t : Time) (s : State), s.pair.state = .taking → s.pair.takeAt ≤ (s.arrive t).clock.now → s.inService = true →
    ∃ u, exec (.takeTime t false) s = .next u ∧ u.pair.state = .active ∧
      (u.hlt.frozen = false → u.pair.driving = true ∧ u.pair.ownLow = true) ∧
      u.pair.driveAt = u.clock.now ∧ u.pair.orphan = s.pair.orphanTake ∧ u.fry.adverts = 3 ∧ u.mem = s.mem)

/-- After the take the new active checks the heads on the ports that were UP (R386). -/
def Obligations.HeadsFollowTake : Prop :=
  (∀ (t : Time) (s : State), s.pair.state = .taking → s.pair.takeAt ≤ (s.arrive t).clock.now → s.inService = true →
    ∃ u, exec (.takeTime t false) s = .next u ∧
      u.pair.following = some (u.clock.now, (List.range 32).filter fun p => (s.port p).state == .up)) ∧
  (∀ (t : Time) (p : Nat) (t0 : Time) (l : List Nat) (s : State), p < 32 → s.pair.following = some (t0, l) → p ∈ l →
    s.controlUp = true → s.pair.state = .active → t0 + us 100 + (s.port p).rtt ≤ (s.arrive t).clock.now → (s.port p).state = .up →
    (s.port p).headStatus.getLsbD 15 = false → fifoNow (s.arrive t) < 64 →
    ∃ u, exec (.headFollowCheck t p) s = .next u ∧
      u.count cPairHeadNotFollowing 0 = min 0xFFFFFFFF (s.count cPairHeadNotFollowing 0 + 1) ∧
      (u.evr.records.getLast?).map (fun r => (r.event, r.arg0, r.time)) = some (ePairHeadStray, p, u.clock.now) ∧
      u = { s with clock := u.clock, hlt := u.hlt, pair := { s.pair with following := some (t0, l.filter fun x => x != p) }, regs := u.regs, evr := u.evr }) ∧
  (∀ (t : Time) (p : Nat) (t0 : Time) (l : List Nat) (s : State), p < 32 → s.pair.following = some (t0, l) → p ∈ l →
    s.controlUp = true → s.pair.state = .active → t0 + us 100 + (s.port p).rtt ≤ (s.arrive t).clock.now →
    (s.port p).headStatus.getLsbD 15 = true →
    ∃ u, exec (.headFollowCheck t p) s = .next u ∧
      u = { s with clock := u.clock, hlt := u.hlt, pair := { s.pair with following := some (t0, l.filter fun x => x != p) } })

/-- Pairing, the links, and the loss of the partner (R290, R370, R373, R376, R380, R381, R382). -/
def Obligations.LinksAndPartner : Prop :=
  (∀ (t : Time) (l : Nat) (s : State), l < 2 → s.isthmusUp = true → s.pair.links.getLsbD l = true → s.pair.paired = false →
    (afind s.pair.linkSent l).getD 0 + isthmus 256 ≤ (s.arrive t).clock.now →
    ∃ u, exec (.keepaliveTx t l) s = .next u ∧ u.sent = .keepalive l :: s.sent ∧ afind u.pair.linkSent l = some u.clock.now ∧
      u = { s with clock := u.clock, hlt := u.hlt, pair := { s.pair with linkSent := u.pair.linkSent }, sent := u.sent }) ∧
  (∀ (t : Time) (l : Nat) (s : State), l < 2 → s.isthmusUp = true → s.pair.links.getLsbD l = true → s.pair.paired = true →
    (afind s.pair.linkSent l).getD 0 + isthmus 256 ≤ (s.arrive t).clock.now →
    ∃ u, exec (.keepaliveTx t l) s = .next u ∧ u.sent = .record false false (s.pair.mseqOut + 1) s.pair.epoch .keepalive :: s.sent ∧
      u.pair.mseqOut = s.pair.mseqOut + 1 ∧ u = { s with clock := u.clock, hlt := u.hlt, pair := u.pair, sent := u.sent }) ∧
  (∀ (t : Time) (l : Nat) (s : State), l < 2 → s.isthmusUp = true → pairMode s = true → s.pair.links.getLsbD l = false → s.pair.paired = true →
    ∃ u, exec (.isthmusLinkUp t l) s = .next u ∧ u.pair.links = s.pair.links ||| BitVec.ofNat 2 (2 ^ l) ∧
      afind u.pair.linkHeard l = some u.clock.now ∧ u = { s with clock := u.clock, hlt := u.hlt, pair := u.pair }) ∧
  (∀ (t : Time) (l : Nat) (s : State), l < 2 → pairMode s = false → ∃ u, exec (.isthmusLinkUp t l) s = .next u ∧ u.pair.links = s.pair.links ∧
      u = { s with clock := u.clock, hlt := u.hlt }) ∧
  (∀ (t : Time) (l : Nat) (lane : Bool) (s : State), l < 2 → s.isthmusUp = true → s.pair.links.getLsbD l = true →
    (lane = true ∨ (afind s.pair.linkHeard l).getD 0 + isthmus 1024 ≤ (s.arrive t).clock.now) →
    ∃ u, exec (.isthmusLinkLoss t l lane) s = .next u ∧ u.pair.links = s.pair.links &&& ~~~ BitVec.ofNat 2 (2 ^ l) ∧
      u.count cPairLinkLoss 0 = min 0xFFFFFFFF (s.count cPairLinkLoss 0 + 1) ∧
      u = { s with clock := u.clock, hlt := u.hlt, pair := { s.pair with links := u.pair.links }, regs := u.regs }) ∧
  (∀ (t : Time) (s : State), s.mirrors = true → s.pair.lastGood + partnerTimeout s ≤ (s.arrive t).clock.now →
    ∃ u, exec (.pairPartnerLost t) s = .next u ∧ u.pair.partnerLost = true ∧ u.pair.paired = false ∧ u.pair.state = .active ∧
      u.pair.handover = none ∧ u.pair.cutIn = false ∧ u.mem = s.mem) ∧
  (∀ (t : Time) (s : State), (s.pair.state = .standby ∨ s.pair.state = .resync) → s.isthmusUp = true →
    s.pair.lastGood + partnerTimeout s / 2 ≤ (s.arrive t).clock.now →
    ∃ u, exec (.pairDetached t) s = .next u ∧ u.pair.state = .detached ∧ u.pair.paired = false ∧ u.pair.handover = none ∧
      u.pair.driving = s.pair.driving ∧ u.jrn = s.jrn ∧ u.mem = s.mem) ∧
  (∀ (t : Time) (g : Time) (s : State), (s.pair.state = .standby ∨ s.pair.state = .resync) → s.isthmusUp = true →
    s.pair.gapSince = some g → g + partnerTimeout s / 2 ≤ (s.arrive t).clock.now →
    ∃ u, exec (.pairMseqGap t) s = .next u ∧ u.pair.state = .detached ∧ u.pair.paired = false ∧ u.pair.waiting = [] ∧
      u.jrn = s.jrn ∧ u.mem = s.mem) ∧
  (∀ (t : Time) (h : MirrorHdr) (x : Hello) (s : State), h.link < 2 → mayPair s = true → s.pair.state ≠ .taking →
    s.pair.links.getLsbD h.link = true → s.pair.paired = false → s.key.pairState = 1 → s.key.hello = none → x.hmacGood = true →
    formatsFit s x = true → keyConflict s x = false →
    ∃ u, exec (.pairingRecord t h (.hello x)) s = .next u ∧ u.key.hello = some x ∧ u.key.pairState = 1 ∧
      u.sent = .record false false 0 s.pair.epoch (.pairing (.confirm true)) :: s.sent ∧
      u = { s with clock := u.clock, hlt := u.hlt, pair := u.pair, key := u.key, sent := u.sent }) ∧
  (∀ (t : Time) (h : MirrorHdr) (x : Hello) (s : State), h.link < 2 → mayPair s = true → s.pair.state = .detached →
    s.pair.links.getLsbD h.link = true → s.pair.paired = false → s.key.pairState = 1 → s.key.hello = some x →
    ∃ u, exec (.pairingRecord t h (.confirm true)) s = .next u ∧ u.pair.state = .resync ∧ u.pair.paired = true ∧
      u.key.pairState = 2 ∧ u.key.pairKey = some (pairKeyWith s x) ∧ u.pair.nextIn = 1 ∧ u.jrn.entries = [] ∧ u.mem = s.mem)

/-- Fitness, digests, planned handover and resynchronisation (R309, R390, R391, R392, R393, R395, R396). -/
def Obligations.HandoverAndResync : Prop :=
  (∀ (t : Time) (s : State), s.pair.paired = true → s.isthmusUp = true → s.pair.fitnessAt + ms 1 ≤ (s.arrive t).clock.now →
    ∃ u, exec (.fitnessTx t) s = .next u ∧ 
      u.sent = (if s.mirrors then [.record false false (s.pair.mseqOut + 2) s.pair.epoch (.time u.clock.now)] else []) ++
        .record false false (s.pair.mseqOut + 1) s.pair.epoch (.fitness (ownFitness (s.arrive t))) :: s.sent ∧
      u.pair.fitnessAt = u.clock.now ∧ u.pair.mseqOut = s.pair.mseqOut + (if s.mirrors then 2 else 1) ∧
      u = { s with clock := u.clock, hlt := u.hlt, pair := u.pair, sent := u.sent }) ∧
  (∀ (t : Time) (s : State), s.mirrors = true → s.packetUp = true →
    s.pair.digestAt + sec (s.fld rPairCtrl 8 8) ≤ (s.arrive t).clock.now →
    ∃ u, exec (.digestPeriodTick t) s = .next u ∧ 
      u.sent = .record false false (s.pair.mseqOut + 1) s.pair.epoch (.digest (ownDigest s)) :: s.sent ∧
      u = { s with clock := u.clock, hlt := u.hlt, sent := u.sent, pair := { s.pair with digestAt := u.clock.now, digest := ownDigest s, mseqOut := s.pair.mseqOut + 1 } }) ∧
  (∀ (t : Time) (g : Time) (s : State), s.pair.giveUp = some g → s.fld rPairCtrl 22 1 = 1 → partnerStandby s = true →
    s.pair.handover = none → giveUpDue s = true → g + sec (s.fld rPairCtrl2 0 8) ≤ (s.arrive t).clock.now →
    s.pair.lastChange + sec 600 ≤ (s.arrive t).clock.now →
    ∃ u, exec (.pairGiveUp t) s = .next u ∧ u.pair.giveUp = none ∧
      u.pair.handover.map (fun h => (h.epoch, h.dsn, h.own, h.commit)) = some (s.pair.epoch + 1, none, true, false) ∧
      u.sent = .record false s.pair.cutIn (s.pair.mseqOut + 1) s.pair.epoch (.handover ((u.pair.handover.map fun h => h.th).getD 0) (s.pair.epoch + 1)) :: s.sent ∧
      u.count cPairGiveUp 0 = min 0xFFFFFFFF (s.count cPairGiveUp 0 + 1) ∧ u.jrn = s.jrn ∧ u.mem = s.mem) ∧
  (∀ (t : Time) (p : Nat) (s : State), (p = 1 ∨ p = 2 ∨ p = 6) → resyncing s = true → s.pair.phasesDone.contains p = false →
    phaseOver (s.arrive t) p = true →
    ∃ u, exec (.resyncPhaseDone t p) s = .next u ∧
      u = { s with clock := u.clock, hlt := u.hlt, pair := { s.pair with phasesDone := s.pair.phasesDone ++ [p], phase := nextPhase (s.pair.phasesDone ++ [p]) } }) ∧
  (∀ (t : Time) (p : Nat) (s : State), (p = 3 ∨ p = 6) → phaseOver (s.arrive t) p = false →
    ∃ u, exec (.resyncPhaseDone t p) s = .next u ∧ u = { s with clock := u.clock, hlt := u.hlt }) ∧
  (∀ (t : Time) (s : State), resyncing s = true → s.pair.phasesDone.contains 4 = false →
    ∃ u, exec (.resyncPhaseDone t 4) s = .next u ∧
      u = { s with clock := u.clock, hlt := u.hlt, pair := { s.pair with phasesDone := s.pair.phasesDone ++ [4], phase := nextPhase (s.pair.phasesDone ++ [4]), progress := 100, cutIn := true } }) ∧
  (∀ (t : Time) (s : State), s.pair.state = .resync → s.pair.paired = true → s.pair.phase ≠ 0 →
    (∀ p ∈ [1, 2, 3, 4, 5, 6], s.pair.phasesDone.contains p = true) →
    ∃ u, exec (.pairResync t) s = .next u ∧ u.pair.state = .standby ∧ u.pair.phase = 0 ∧ u.pins.ready = (s.start.phase == .p9) ∧ u.jrn = s.jrn ∧
      u.mem = s.mem) ∧
  (∀ (t : Time) (s : State), s.pair.state = .active → s.pair.paired = true → s.pair.phase ≠ 0 →
    (∀ p ∈ [1, 2, 3, 4, 5, 6], s.pair.phasesDone.contains p = true) → s.upd.actState = 0 → s.dl.recs = [] →
    ∃ u, exec (.pairResync t) s = .next u ∧
      u = { s with clock := u.clock, hlt := u.hlt, pair := { s.pair with phase := 0, partnerLost := false, absent := false } }) ∧
  (∀ (t : Time) (s : State), s.pair.state = .active → resyncing s = true → s.pair.slow = false →
    s.pair.resyncAt + sec 60 ≤ (s.arrive t).clock.now →
    ∃ u, exec (.pairResyncSlow t) s = .next u ∧ u.pair = { s.pair with slow := true } ∧
      u = { s with clock := u.clock, hlt := u.hlt, pair := u.pair, evr := u.evr, regs := u.regs, free := u.free }) ∧
  (∀ (t : Time) (d : Nat) (s : State), freshCommand s d 0x201 = true → s.dl.nextDsn = d → partnerStandby s = true →
    s.pair.handover = none → s.dl.reorder = [] → s.fry.txNo + 1 < s.fry.txCeiling →
    ∃ u, exec (.handover t d) s = .next u ∧ u.dl.nextDsn = d + 1 ∧
      u.pair.handover.map (fun h => (h.epoch, h.dsn, h.own, h.commit)) = some (s.pair.epoch + 1, some d, true, false) ∧
      u.sent = .record false s.pair.cutIn (s.pair.mseqOut + 1) s.pair.epoch (.handover ((u.pair.handover.map fun h => h.th).getD 0) (s.pair.epoch + 1)) ::
        (if s.fry.session = 0 then [] else [nextPacket s.fry.endpoint s.fry.port 4 0 (natToOs 8 d) s]) ++ .dlAck d :: s.sent ∧
      u = { s with clock := u.clock, hlt := u.hlt, pair := u.pair, dl := { s.dl with nextDsn := d + 1 }, fry := u.fry, sent := u.sent }) ∧
  (∀ (t : Time) (d : Nat) (s : State), freshCommand s d 0x202 = true → s.pair.state = .standby →
    ∃ u, exec (.resync t d) s = .next u ∧ u.pair.state = .detached ∧ u.pair.paired = false ∧ u.jrn = s.jrn ∧ u.mem = s.mem) ∧
  (∀ (t : Time) (h : Handover) (s : State), s.pair.handover = some h → h.own = true → h.commit = true → s.mirrors = true →
    h.th ≤ (s.arrive t).clock.now → s.pair.driving = true → s.upd.actState = 0 →
    ∃ u, exec (.handoverTime t) s = .next u ∧ u.pair.state = .standby ∧ u.pair.driving = false ∧ u.pins.ready = true ∧
      u.mem = s.mem)

/-- The own update (R400 to R406, R408, R410): its manifest, its parts and pieces, and its verification. -/
def Obligations.UpdateInStaging : Prop :=
  (∀ (t : Time) (d : Nat) (a : List Byte) (m : Manifest) (s : State), soloCommand s d 0x101 → s.argsOf d 0x101 = some a → m = manifestRead a →
    beginRefused s m = false → s.upd.manifest ≠ some m →
    ∃ u, exec (.updBegin t d) s = .next u ∧ outcomes u = outcomes s ++ [(3, d, 1, 0)] ∧ u.upd.manifest = some m ∧
      u.upd.state = .receiving ∧ (s.upd.okA = true → u.upd.heldA = []) ∧ (s.upd.okB = true → u.upd.heldB = []) ∧ (s.upd.okA = true → u.upd.headA = some m) ∧
      (s.upd.okB = true → u.upd.headB = some m) ∧
      u = { s with clock := u.clock, hlt := u.hlt, dl := u.dl, jrn := u.jrn, flash := u.flash, fry := u.fry, sent := u.sent, upd := u.upd }) ∧
  (∀ (t : Time) (d : Nat) (a : List Byte) (s : State), soloCommand s d 0x101 → s.argsOf d 0x101 = some a → beginRefused s (manifestRead a) = true →
    ∃ u, exec (.updBegin t d) s = .next u ∧ outcomes u = outcomes s ++ [(3, d, 3, 2)] ∧
      u = { s with clock := u.clock, hlt := u.hlt, dl := u.dl, jrn := u.jrn, flash := u.flash, fry := u.fry, sent := u.sent }) ∧
  (∀ (t : Time) (d : Nat) (s : State), soloCommand s d 0x103 → s.upd.state ≠ .activating → s.upd.state ≠ .activated →
    ∃ u, exec (.updAbort t d) s = .next u ∧ outcomes u = outcomes s ++ [(3, d, 1, 0)] ∧ u.upd.manifest = none ∧ u.upd.state = .none ∧
      (s.upd.okA = true → u.upd.heldA = []) ∧ (s.upd.okB = true → u.upd.heldB = []) ∧
      u = { s with clock := u.clock, hlt := u.hlt, dl := u.dl, jrn := u.jrn, flash := u.flash, fry := u.fry, sent := u.sent, upd := u.upd }) ∧
  (∀ (t : Time) (d : Nat) (a : List Byte) (p : Part) (m : Manifest) (s : State), soloCommand s d 0x102 → s.argsOf d 0x102 = some a →
    p = updPartRead a → p.part < 8 →
    s.upd.manifest = some m → p.updateId = m.updateId → p.piece < piecesOf m → pieceHeld s p.piece = false → s.upd.buffers = [] →
    ∃ u, exec (.updPart t d) s = .next u ∧ outcomes u = outcomes s ++ [(3, d, 1, 0)] ∧
      u.upd = { s.upd with buffers := [⟨p.piece, [(p.part, p.data)], if p.part = 7 then p.tag else 0, u.clock.now, false⟩] } ∧
      u = { s with clock := u.clock, hlt := u.hlt, dl := u.dl, jrn := u.jrn, flash := u.flash, fry := u.fry, sent := u.sent, upd := u.upd }) ∧
  (∀ (t : Time) (e : Eui) (p : Part) (m : Manifest) (s : State), s.leads = true → s.controlUp = true →
    (List.range 16).any (fun n => nbrUsed s n && nbrEui s n == e) = true → p.lengthOk = true → p.part < 8 →
    s.upd.manifest = some m → p.updateId = m.updateId → p.piece < piecesOf m → pieceHeld s p.piece = false → s.upd.buffers = [] →
    ∃ u, exec (.piecePartFrame t e p) s = .next u ∧ u.count cUpdMeshParts 0 = min 0xFFFFFFFF (s.count cUpdMeshParts 0 + 1) ∧
      u.upd = { s.upd with buffers := [⟨p.piece, [(p.part, p.data)], if p.part = 7 then p.tag else 0, u.clock.now, true⟩] } ∧
      u = { s with clock := u.clock, hlt := u.hlt, regs := u.regs, upd := u.upd }) ∧
  (∀ (t : Time) (r : PieceRequest) (k : Nat) (s : State), r.port < 36 → s.leads = true → s.controlUp = true → s.fld rUpdCtrl 2 1 = 1 →
    (List.range 16).any (fun n => nbrUsed s n && nbrEui s n == r.neighbour) = true →
    s.upd.manifest.any (fun m => m.updateId == r.updateId) = true → k < 64 → r.want = [k] → pieceHeld s (r.first + k) = true →
    1 ≤ s.fld rUpdCtrl2 8 4 → s.upd.served = [] →
    ∃ u, exec (.pieceRequest t r) s = .next u ∧
      u.upd = { s.upd with served := (List.range 8).map fun n => ⟨r.neighbour, r.port, r.first + k, n⟩ } ∧
      u = { s with clock := u.clock, hlt := u.hlt, upd := u.upd }) ∧
  (∀ (t : Time) (p : Nat) (copyB : Bool) (j : PieceJob) (s : State), s.upd.jobs = [j] → j.piece = p → j.doneA = copyB →
    (s.clamp (flashClamp copyB)).holder = 12 → s.controlUp = true →
    ∃ u, exec (.pieceWrite t p copyB true) s = .next u ∧ afind (if copyB then u.upd.heldB else u.upd.heldA) p = some j.tag ∧
      afind (if copyB then u.upd.cipherB else u.upd.cipherA) p = some j.cipher ∧
      u = { s with clock := u.clock, hlt := u.hlt, regs := u.regs, upd := u.upd }) ∧
  (∀ (t : Time) (p : Nat) (j : PieceJob) (s : State), s.upd.jobs = [j] → j.piece = p → j.doneA = false →
    (s.clamp (flashClamp false)).holder = 12 → s.controlUp = true → s.upd.failsA = 0 →
    ∃ u, exec (.pieceWrite t p false false) s = .next u ∧ u.upd.failsA = 1 ∧ u.upd.heldA = s.upd.heldA ∧
      u = { s with clock := u.clock, hlt := u.hlt, regs := u.regs, upd := u.upd }) ∧
  (∀ (t : Time) (m : Manifest) (s : State), s.upd.state = .complete → s.controlUp = true → s.upd.manifest = some m → updVerdict s m = 0 →
    ∃ u, exec (.updVerifyDone t) s = .next u ∧ u.upd = { s.upd with state := .verified, wordA := u.upd.wordA, wordB := u.upd.wordB } ∧
      (s.upd.okA = true → u.upd.wordA = s.upd.wordA &&& ~~~2#32) ∧
      u = { s with clock := u.clock, hlt := u.hlt, regs := u.regs, evr := u.evr, free := u.free, upd := u.upd }) ∧
  (∀ (t : Time) (m : Manifest) (s : State), s.upd.state = .complete → s.controlUp = true → s.upd.manifest = some m → updVerdict s m ≠ 0 →
    ∃ u, exec (.updVerifyDone t) s = .next u ∧ u.upd = { s.upd with state := .failed, failCode := updVerdict s m, wordA := u.upd.wordA, wordB := u.upd.wordB } ∧
      (s.upd.okA = true → u.upd.wordA = s.upd.wordA &&& ~~~16#32) ∧
      u = { s with clock := u.clock, hlt := u.hlt, regs := u.regs, evr := u.evr, free := u.free, upd := u.upd })

/-- Activation, confirmation, reversion and revocation on a solo device (R78, R411, R412, R414, R415, R417). -/
def Obligations.ActivateAndConfirm : Prop :=
  (∀ (t : Time) (d : Nat) (ok : Bool) (s : State), soloCommand s d 0x104 → activateOk s ok = true → s.clamp (flashClamp !s.start.slot) = {} →
    ∃ u, exec (.updActivate t d ok) s = .next u ∧ u.upd.state = .activating ∧ u.upd.act = some ⟨d, false⟩ ∧
      u.upd.target = !s.start.slot ∧ (u.clamp (flashClamp !s.start.slot)).holder = 13 ∧ u.dl.nextDsn = d + 1 ∧
      u = { s with clock := u.clock, hlt := u.hlt, dl := u.dl, fry := u.fry, sent := u.sent, upd := u.upd }) ∧
  (∀ (t : Time) (s : State), s.controlUp = true → s.upd.state = .activating → (s.clamp (flashClamp s.upd.target)).holder = 13 →
    ∃ u, exec (.updActivateCopyDone t true) s = .next u ∧ u.upd.state = .activated ∧ u.start.resetting = true ∧ u.pins.ready = false ∧
      u.pair.driving = false ∧ u.mem = s.mem) ∧
  (∀ (t : Time) (s : State), s.controlUp = true → s.pair.state = .active → s.upd.state = .none → s.upd.actState = 1 →
    ∃ u, exec (.updActivateCopyDone t true) s = .next u ∧ u.upd.actState = 2 ∧ u.upd.since = u.clock.now ∧
      u = { s with clock := u.clock, hlt := u.hlt, pair := u.pair, sent := u.sent, upd := u.upd }) ∧
  (∀ (t : Time) (s : State), s.pair.state = .active → s.controlUp = true → s.upd.actState = 2 → s.upd.act = none →
    s.upd.since + sec (s.fld rUpdCtrl 24 8 * 10) ≤ (s.arrive t).clock.now →
    ∃ u, exec (.actTimeout t) s = .next u ∧ u.upd.actState = 0 ∧ u.upd.act = none ∧
      u = { s with clock := u.clock, hlt := u.hlt, pair := u.pair, sent := u.sent, upd := u.upd, regs := u.regs, evr := u.evr, free := u.free }) ∧
  (∀ (t : Time) (d : Nat) (s : State), soloCommand s d 0x105 → unconfirmed s = true → s.upd.act = none → s.upd.actState = 0 →
    s.upd.manifest = none →
    ∃ u, exec (.updConfirm t d true true true true) s = .next u ∧ u.start.confirmed = true ∧
      outcomes u = outcomes s ++ [(3, d, 1, 0)] ∧
      u = { s with clock := u.clock, hlt := u.hlt, dl := u.dl, jrn := u.jrn, flash := u.flash, fry := u.fry, sent := u.sent, start := u.start, upd := u.upd, regs := u.regs, evr := u.evr, free := u.free }) ∧
  (∀ (t : Time) (s : State), confirmDue (s.arrive t) = true → s.pair.state = .solo → unconfirmed s = true → s.upd.act = none →
    s.upd.actState = 0 → s.upd.manifest = none →
    ∃ u, exec (.confirmHold t true true true true) s = .next u ∧ u.start.confirmed = true ∧
      u = { s with clock := u.clock, hlt := u.hlt, flash := u.flash, start := u.start, upd := u.upd, regs := u.regs, evr := u.evr, free := u.free }) ∧
  (∀ (t : Time) (d : Nat) (h : ImageHdr) (c w : Word) (s : State), soloCommand s d 0x106 → unconfirmed s = true → s.start.slot = false →
    s.start.slotA = .read h c w →
    ∃ u, exec (.updRevert t d) s = .next u ∧ u.start.slotA = .read h c 0 ∧ u.start.resetting = true ∧ u.pins.ready = false ∧
      u.pair.driving = false ∧ u.mem = s.mem) ∧
  (∀ (t : Time) (d n : Nat) (a : List Byte) (o : Bool) (s : State), soloCommand s d 0x107 → s.argsOf d 0x107 = some a → octetAt a 0 = n → n < 4 →
    slotInUse s n o = false → s.upd.state ≠ .verified →
    (List.range 4).filter (keySlotLive s) ≠ [n] →
    ∃ u, exec (.updRevokeSlot t d o) s = .next u ∧ (fuseWord u 129).getLsbD (4 + n) = true ∧ keySlotLive u n = false ∧
      outcomes u = outcomes s ++ [(3, d, 1, 0)] ∧
      u = { s with clock := u.clock, hlt := u.hlt, dl := u.dl, jrn := u.jrn, flash := u.flash, fry := u.fry, sent := u.sent, start := { s.start with fuses := u.start.fuses, shadow := u.start.shadow } })

/-- Node campaigns on a solo device (R418, R419, R423). -/
def Obligations.Campaigns : Prop :=
  (∀ (t : Time) (d b : Nat) (a : List Byte) (x : CampDef) (s : State), soloCommand s d 0x110 → s.argsOf d 0x110 = some a → x = campDefRead a → campPlace s (fragsOf x * 64) = some b →
    campDefOk x = true → afind s.camps x.campaign = none → (keyAt s 5 x.keyId).any (fun k => k.status == .live) = true →
    ∃ u, exec (.campDefine t d) s = .next u ∧ outcomes u = outcomes s ++ [(3, d, 1, 0)] ∧
      (afind u.camps x.campaign).map (fun k => (k.defn, k.state, k.base, k.size, k.frags)) = some (x, .loading, b, fragsOf x * 64, []) ∧
      u = { s with clock := u.clock, hlt := u.hlt, dl := u.dl, jrn := u.jrn, flash := u.flash, fry := u.fry, sent := u.sent, camps := u.camps }) ∧
  (∀ (t : Time) (d c f : Nat) (a : List Byte) (k : Camp) (s : State), soloCommand s d 0x111 → s.argsOf d 0x111 = some a → octetAt a 0 = c →
    octetAt a 1 = 1 → beAt a 4 4 = f → afind s.camps c = some k → k.state = .loading → k.frags = [] → f < fragsOf k.defn → 2 ≤ fragsOf k.defn →
    ∃ u, exec (.campData t d) s = .next u ∧ outcomes u = outcomes s ++ [(3, d, 1, 0)] ∧
      afind u.camps c = some { k with frags := [f] } ∧ u.mem = (s.setBytes (fragAddress s k f) ((a.drop 8).take 64)).mem ∧
      u = { s with mem := u.mem, clock := u.clock, hlt := u.hlt, dl := u.dl, jrn := u.jrn, flash := u.flash, fry := u.fry, sent := u.sent, camps := u.camps }) ∧
  (∀ (t : Time) (d c : Nat) (a : List Byte) (k : Camp) (s : State), soloCommand s d 0x111 → s.argsOf d 0x111 = some a → octetAt a 0 = c →
    octetAt a 1 = 1 → beAt a 4 4 = 0 → afind s.camps c = some k → k.state = .loading → k.frags = [] → fragsOf k.defn = 1 →
    ∃ u, exec (.campData t d) s = .next u ∧ outcomes u = outcomes s ++ [(3, d, 1, 0)] ∧
      u.mem = (s.setBytes (fragAddress s k 0) ((a.drop 8).take 64)).mem ∧
      afind u.camps c = some { k with frags := [0], state := if campDigestOk u k then .ready else .failed } ∧
      u = { s with mem := u.mem, clock := u.clock, hlt := u.hlt, dl := u.dl, jrn := u.jrn, flash := u.flash, fry := u.fry, sent := u.sent, camps := u.camps, regs := u.regs, evr := u.evr, free := u.free }) ∧
  (∀ (t : Time) (d c i : Nat) (a : List Byte) (e : Eui) (k : Camp) (s : State), soloCommand s d 0x112 → s.argsOf d 0x112 = some a →
    octetAt a 0 = c → membersRead a = [e] → afind s.camps c = some k → k.state = .ready →
    s.indexOf e = some i → afind s.prog i = none →
    ∃ u, exec (.campMembers t d) s = .next u ∧ outcomes u = outcomes s ++ [(3, d, 1, 0)] ∧
      afind u.prog i = some ⟨c, 1, 0, 0, [], 0⟩ ∧
      u = { s with clock := u.clock, hlt := u.hlt, dl := u.dl, jrn := u.jrn, flash := u.flash, fry := u.fry, sent := u.sent, prog := u.prog }) ∧
  (∀ (t : Time) (d c : Nat) (a : List Byte) (k : Camp) (s : State), soloCommand s d 0x113 → s.argsOf d 0x113 = some a → octetAt a 0 = c → afind s.camps c = some k →
    (k.state = .ready ∨ k.state = .paused) →
    ∃ u, exec (.campStart t d) s = .next u ∧ outcomes u = outcomes s ++ [(3, d, 1, 0)] ∧
      afind u.camps c = some { k with state := .running } ∧
      u = { s with clock := u.clock, hlt := u.hlt, dl := u.dl, jrn := u.jrn, flash := u.flash, fry := u.fry, sent := u.sent, camps := u.camps }) ∧
  (∀ (t : Time) (d c : Nat) (a : List Byte) (k : Camp) (s : State), soloCommand s d 0x114 → s.argsOf d 0x114 = some a → octetAt a 0 = c → afind s.camps c = some k → k.state = .running →
    s.txm.bookings = [] →
    ∃ u, exec (.campPause t d) s = .next u ∧ outcomes u = outcomes s ++ [(3, d, 1, 0)] ∧
      afind u.camps c = some { k with state := .paused } ∧ u.fwd.floods = s.fwd.floods.filter (fun f => f.camp != some c) ∧
      u = { s with clock := u.clock, hlt := u.hlt, dl := u.dl, jrn := u.jrn, flash := u.flash, fry := u.fry, sent := u.sent, camps := u.camps, fwd := { s.fwd with floods := u.fwd.floods } }) ∧
  (∀ (t : Time) (d c : Nat) (a : List Byte) (k : Camp) (s : State), soloCommand s d 0x115 → s.argsOf d 0x115 = some a → octetAt a 0 = c → afind s.camps c = some k → s.txm.bookings = [] →
    ∃ u, exec (.campEnd t d) s = .next u ∧ outcomes u = outcomes s ++ [(3, d, 1, 0)] ∧ u.camps = adel s.camps c ∧
      u.prog = s.prog.filter (fun x => x.2.campaign != c) ∧
      u = { s with clock := u.clock, hlt := u.hlt, dl := u.dl, jrn := u.jrn, flash := u.flash, fry := u.fry, sent := u.sent, camps := u.camps, prog := u.prog, fwd := { s.fwd with floods := u.fwd.floods } }) ∧
  (∀ (t : Time) (c : Nat) (k : Camp) (s : State), c < 64 → afind s.camps c = some k → k.state = .running → s.leads = true →
    s.controlUp = true → windowOpen k.defn (s.arrive t).clock.now = true → k.opened = none → k.list = [] → k.repairs = [] →
    s.fwd.floods = [] → k.round = 0 → 1 ≤ k.defn.maxRounds → (i : Nat) → (p : ProgRec) → s.prog = [(i, p)] → p.campaign = c →
    p.active 1 = true → p.haveUntil < fragsOf k.defn →
    ∃ u, exec (.campWindowOpen t c) s = .next u ∧
      (afind u.camps c).map (fun k => (k.round, k.cursor, k.state, k.list)) = some (1, 0, .running, List.range (fragsOf k.defn)) ∧
      u = { s with clock := u.clock, hlt := u.hlt, camps := u.camps })

/-- The quays (R443, R444, R445, R446, R448, R449): a claim, the words of an item, poison, delivery, drop-remainder and flush. -/
def Obligations.QuayItems : Prop :=
  (∀ (t : Time) (a : Agent) (q n : Nat) (s : State), q < 64 → s.packetUp = true → produces s a q = true → (s.quay q).opened = none →
    1 ≤ n → n ≤ 16384 → quayUsed s q - (s.quay q).claim + readWordsOf n ≤ quayCap s q →
    ∃ u, exec (.quayClaim t a q n) s = .next u ∧ u.quay q = { s.quay q with claim := (n + 31) / 32, wm := (u.quay q).wm } ∧
      (∀ k, k ≠ q → u.quay k = s.quay k) ∧
      u = { s with clock := u.clock, hlt := u.hlt, msys := { s.msys with quays := u.msys.quays } }) ∧
  (∀ (t : Time) (a : Agent) (q n : Nat) (s : State), q < 64 → s.packetUp = true → produces s a q = true → (s.quay q).opened = none →
    quayCap s q < quayUsed s q - (s.quay q).claim + readWordsOf n →
    ∃ u, exec (.quayClaim t a q n) s = .next u ∧ u.count cQuayClaimRefuse q = min 0xFFFFFFFF (s.count cQuayClaimRefuse q + 1) ∧
      u = { s with clock := u.clock, hlt := u.hlt, regs := u.regs }) ∧
  (∀ (t : Time) (a : Agent) (q : Nat) (w : Word) (s : State), q < 64 → s.packetUp = true → produces s a q = true →
    (s.quay q).opened = none → 1 ≤ (s.quay q).claim →
    ∃ u, exec (.quayWrWord t a q w true) s = .next u ∧
      u.quay q = { s.quay q with opened := some ⟨[w], 4, false, false⟩, wm := (u.quay q).wm } ∧ (∀ k, k ≠ q → u.quay k = s.quay k) ∧
      u = { s with clock := u.clock, hlt := u.hlt, msys := { s.msys with quays := u.msys.quays } }) ∧
  (∀ (t : Time) (a : Agent) (q n : Nat) (w : Word) (o : QItem) (s : State), q < 64 → 1 ≤ n → n ≤ 4 → s.packetUp = true →
    produces s a q = true → (s.quay q).opened = some o → o.dropped = false → o.words.length + 1 ≤ (s.quay q).claim * 8 →
    ∃ u, exec (.quayWrEnd t a q w n true) s = .next u ∧
      u.quay q = { s.quay q with items := (s.quay q).items ++ [{ o with words := o.words ++ [if n < 4 then BitVec.ofNat 32 (w.toNat % 2 ^ (8 * n)) else w], octets := o.octets + n }], claim := 0, opened := none, wm := (u.quay q).wm } ∧
      (∀ k, k ≠ q → u.quay k = s.quay k) ∧
      u = { s with clock := u.clock, hlt := u.hlt, msys := { s.msys with quays := u.msys.quays } }) ∧
  (∀ (t : Time) (a : Agent) (q : Nat) (o : QItem) (s : State), q < 64 → s.packetUp = true → produces s a q = true →
    (s.quay q).opened = some o →
    ∃ u, exec (.quayWrPoison t a q) s = .next u ∧
      u.quay q = { s.quay q with opened := some { o with poison := true }, wm := (u.quay q).wm } ∧ (∀ k, k ≠ q → u.quay k = s.quay k) ∧
      u = { s with clock := u.clock, hlt := u.hlt, msys := { s.msys with quays := u.msys.quays } }) ∧
  (∀ (t : Time) (a : Agent) (q : Nat) (i : QItem) (r : List QItem) (s : State), q < 64 → s.packetUp = true → consumes s a q = true →
    (s.quay q).items = i :: r → i.poison = false → i.readWords ≤ (s.quay q).read + 1 →
    ∃ u, exec (.quayRdNext t a q none) s = .next u ∧
      u.quay q = { s.quay q with items := r, read := 0, begun := false, wm := (u.quay q).wm } ∧ (∀ k, k ≠ q → u.quay k = s.quay k) ∧
      u = { s with clock := u.clock, hlt := u.hlt, msys := { s.msys with quays := u.msys.quays } }) ∧
  (∀ (t : Time) (a : Agent) (q : Nat) (i : QItem) (r : List QItem) (s : State), q < 64 → s.packetUp = true → consumes s a q = true →
    (s.quay q).items = i :: r → i.poison = false → (s.quay q).read + 1 < i.readWords →
    ∃ u, exec (.quayRdNext t a q none) s = .next u ∧
      u.quay q = { s.quay q with read := (s.quay q).read + 1, begun := true, wm := (u.quay q).wm } ∧ (∀ k, k ≠ q → u.quay k = s.quay k) ∧
      u = { s with clock := u.clock, hlt := u.hlt, msys := { s.msys with quays := u.msys.quays } }) ∧
  (∀ (t : Time) (a : Agent) (q : Nat) (i : QItem) (r : List QItem) (s : State), q < 64 → s.packetUp = true → consumes s a q = true →
    (s.quay q).items = i :: r → i.poison = false →
    ∃ u, exec (.quayRdDrop t a q) s = .next u ∧
      u.quay q = { s.quay q with items := r, read := 0, begun := false, wm := (u.quay q).wm } ∧ (∀ k, k ≠ q → u.quay k = s.quay k) ∧
      u.count cQuayRemainderDrop q = min 0xFFFFFFFF (s.count cQuayRemainderDrop q + 1) ∧
      u = { s with clock := u.clock, hlt := u.hlt, regs := u.regs, msys := { s.msys with quays := u.msys.quays } }) ∧
  (∀ (t : Time) (a : Agent) (q : Nat) (s : State), q < 64 → s.packetUp = true → writes a = true → (s.quay q).begun = false →
    (s.quay q).opened = none →
    ∃ u, exec (.quayFlush t a q) s = .next u ∧ u.quay q = { s.quay q with items := [], wm := (u.quay q).wm } ∧
      (∀ k, k ≠ q → u.quay k = s.quay k) ∧
      u.count cQuayFlushItems q = min 0xFFFFFFFF (s.count cQuayFlushItems q + (s.quay q).items.length) ∧
      u = { s with clock := u.clock, hlt := u.hlt, regs := u.regs, msys := { s.msys with quays := u.msys.quays } })

/-- DMA (R450, R451): a chain starts and stops, a descriptor that copies DRAM to DRAM moves its octets and changes no other byte but the
first and the last word of its own, and a descriptor with a bad address ends in error. -/
def Obligations.DmaChannels : Prop :=
  (∀ (t : Time) (a : Agent) (c h : Nat) (s : State), c < 8 → s.memoryUp = true → writes a = true → (s.dmaCh c).state ≠ 1 →
    h = (s.reg (rMemDmaHeadLo + c * 0x400)).toNat / 32 * 32 + (s.reg (rMemDmaHeadHi + c * 0x400)).toNat * 2 ^ 32 →
    ∃ u, exec (.dmaStart t a c) s = .next u ∧
      u.dmaCh c = { state := if (descriptorAt s h).valid then 1 else 0, error := 0, desc := h, stop := false, stallAt := none } ∧
      (∀ k, k ≠ c → u.dmaCh k = s.dmaCh k) ∧ u = { s with clock := u.clock, hlt := u.hlt, msys := u.msys }) ∧
  (∀ (t : Time) (a : Agent) (c : Nat) (s : State), c < 8 → s.memoryUp = true → writes a = true → (s.dmaCh c).state = 1 →
    ∃ u, exec (.dmaStop t a c) s = .next u ∧ u.dmaCh c = { s.dmaCh c with stop := true } ∧ (∀ k, k ≠ c → u.dmaCh k = s.dmaCh k) ∧
      u = { s with clock := u.clock, hlt := u.hlt, msys := { s.msys with dma := u.msys.dma } }) ∧
  (∀ (t : Time) (c a b n D : Nat) (d : Descriptor) (s : State), c < 8 → s.memoryUp = true → (s.dmaCh c).state = 1 →
    D = dramBase + (s.dmaCh c).desc → descriptorAt s (s.dmaCh c).desc = d → d.src = (0, a) → d.dst = (0, b) → d.length = n →
    d.last = true → d.irq = false → dmaPlacesOk s d = true →
    ∃ u, exec (.dmaDescriptorDone t c none) s = .next u ∧ (u.dmaCh c).state = 0 ∧
      (∀ k, k < n → (dramBase + b + k < D ∨ D + 32 ≤ dramBase + b + k) → u.byte (dramBase + b + k) = s.byte (dramBase + a + k)) ∧
      (∀ x, (x < dramBase + b ∨ dramBase + b + n ≤ x) → (x < D ∨ D + 32 ≤ x) → u.byte x = s.byte x) ∧
      u = { s with clock := u.clock, hlt := u.hlt, mem := u.mem, msys := { s.msys with dma := u.msys.dma } }) ∧
  (∀ (t : Time) (c : Nat) (p : Option Nat) (s : State), c < 8 → s.memoryUp = true → (s.dmaCh c).state = 1 →
    dmaPlacesOk s (descriptorAt s (s.dmaCh c).desc) = false →
    ∃ u, exec (.dmaDescriptorDone t c p) s = .next u ∧ (u.dmaCh c).state = 2 ∧ (u.dmaCh c).error = 2 ∧
      (∀ x, (x < dramBase + (s.dmaCh c).desc ∨ dramBase + (s.dmaCh c).desc + 32 ≤ x) → u.byte x = s.byte x))

/-- DRAM and the engines (R433, R434, R439, R441, R461): corrected and uncorrectable errors, training, watchdogs and lockstep. -/
def Obligations.MemoryAndEngines : Prop :=
  (∀ (t : Time) (a : Nat) (chB byDma : Bool) (s : State), a < 2 ^ 36 → s.memoryUp = true →
    (dramHomes s a).any (fun h => h.1 == chB) = true →
    ∃ u, exec (.eccError t a chB false byDma) s = .next u ∧
      u.count cMemEccCorrected 0 = min 0xFFFFFFFF (s.count cMemEccCorrected 0 + 1) ∧
      u = { s with clock := u.clock, hlt := u.hlt, regs := u.regs }) ∧
  (∀ (t : Time) (a : Nat) (chB hard byDma : Bool) (s : State), a < 2 ^ 36 → (dramHomes s a).any (fun h => h.1 == chB) = false →
    ∃ u, exec (.eccError t a chB hard byDma) s = .next u ∧ u = { s with clock := u.clock, hlt := u.hlt }) ∧
  (∀ (t : Time) (a : Nat) (chB byDma : Bool) (s : State), a < 2 ^ 36 → s.memoryUp = true → (s.ddr chB).ok = true →
    (s.ddr !chB).ok = true → inMirror s a 1 = true → (s.ddr chB).errors = [] →
    ∃ u, exec (.eccError t a chB true byDma) s = .next u ∧ u.ddr chB = { s.ddr chB with errors := [u.clock.now] } ∧
      u.count cMemEccUncorrected 0 = min 0xFFFFFFFF (s.count cMemEccUncorrected 0 + 1) ∧
      u.count cMemMirrorRepair 0 = min 0xFFFFFFFF (s.count cMemMirrorRepair 0 + 1) ∧
      u = { s with clock := u.clock, hlt := u.hlt, regs := u.regs, msys := u.msys }) ∧
  (∀ (t : Time) (n : Nat) (s : State), s.memoryUp = true →
    ∃ u, exec (.scrubPatrol t n) s = .next u ∧ u.count cMemEccCorrected 0 = min 0xFFFFFFFF (s.count cMemEccCorrected 0 + n) ∧
      u = { s with clock := u.clock, hlt := u.hlt, regs := u.regs }) ∧
  (∀ (t : Time) (chB : Bool) (s : State), s.memoryUp = true → (s.ddr chB).ok = true → (s.ddr chB).trained = true → s.clamp 71 = {} →
    ∃ u, exec (.ddrTrainingLoss t chB) s = .next u ∧ u.ddr chB = { s.ddr chB with trained := false, tries := 0 } ∧
      (u.clamp 71).holder = 10 ∧ u = { s with clock := u.clock, hlt := u.hlt, msys := u.msys }) ∧
  (∀ (t : Time) (chB : Bool) (s : State), s.memoryUp = true → (s.ddr chB).ok = true → (s.ddr chB).trained = false →
    s.clamp 71 = { holder := 10, waiting := [] } → (s.ddr !chB).trained = true →
    ∃ u, exec (.ddrRetrainDone t chB true) s = .next u ∧ u.ddr chB = { s.ddr chB with trained := true, tries := 0 } ∧ u.clamp 71 = {} ∧
      u.count cMemRetrain 0 = min 0xFFFFFFFF (s.count cMemRetrain 0 + 1) ∧
      u = { s with clock := u.clock, hlt := u.hlt, regs := u.regs, msys := u.msys }) ∧
  (∀ (t : Time) (e : Nat) (s : State), e < 12 → s.controlUp = true → (s.engine e).running = true → shadow s e = false →
    ∃ u, exec (.engWdogKick t e) s = .next u ∧ u.engine e = { s.engine e with kick := u.clock.now } ∧
      (∀ k, k ≠ e → u.engine k = s.engine k) ∧
      u = { s with clock := u.clock, hlt := u.hlt, msys := { s.msys with engines := u.msys.engines } }) ∧
  (∀ (t : Time) (e : Nat) (s : State), e < 12 → s.controlUp = true → (s.engine e).running = true → shadow s e = false →
    handlerCore s e = false → (s.engine e).expiry = none → (s.engine e).kick + ms (s.fldAt rEngWdog e 0 8) ≤ (s.arrive t).clock.now →
    s.hlt.coal = [] → s.hlt.frames = [] → s.hlt.queue = [] →
    ∃ u, exec (.engWdogExpire t e) s = .next u ∧ (u.engine e).running = false ∧ (u.engine e).expiry = some u.clock.now ∧
      u.count cEngWdogExpire 0 = min 0xFFFFFFFF (s.count cEngWdogExpire 0 + 1) ∧ u.hlt.degraded = true ∧
      u.hlt.frames.map (fun f => (f.unit, f.rank)) = [(24 * 2048 + e, 3)] ∧
      u = { s with clock := u.clock, hlt := u.hlt, regs := u.regs, evr := u.evr, free := u.free, msys := { s.msys with engines := u.msys.engines } }) ∧
  (∀ (t : Time) (s : State), s.controlUp = true → shadow s 1 = true → (s.engine 0).running = true → freezable s →
    ∃ u, exec (.engLockstep t false) s = .next u ∧ frozenBy 2 s u)

/-- The coalescer's windows and the handler stack (R455, R458, R459, R460). -/
def Obligations.HandlerStack : Prop :=
  (∀ (t : Time) (e : CoalEntry) (s : State), s.hlt.coal = [e] → s.controlUp = true →
    e.opened + ms (s.fld rHltCoal 0 7 * 100) ≤ (s.arrive t).clock.now → fifoNow (s.arrive t) < 64 →
    ∃ u, exec (.coalesceWindowClose t e.unit e.code) s = .next u ∧ u.hlt.coal = [] ∧
      (u.evr.records.getLast?).map (fun x => (x.kind, x.unit, x.code, x.count)) = some (2, e.unit, e.code, e.count) ∧
      u = { s with clock := u.clock, hlt := u.hlt, regs := u.regs, evr := u.evr }) ∧
  (∀ (t : Time) (a : Agent) (f : HFrame) (r : List HFrame) (s : State), s.hlt.frames = f :: r → s.controlUp = true → writes a = true →
    ∃ u, exec (.handlerTake t a) s = .next u ∧ u.hlt.frames = { f with taken := true } :: r ∧
      u = { s with clock := u.clock, hlt := u.hlt }) ∧
  (∀ (t : Time) (a : Agent) (f : HFrame) (s : State), s.hlt.frames = [f] → s.hlt.queue = [] → s.controlUp = true → writes a = true →
    f.unit / 2048 ≠ 24 → fifoNow (s.arrive t) < 64 →
    ∃ u, exec (.handlerDone t a 0) s = .next u ∧ u.hlt.frames = [] ∧
      (u.evr.records.getLast?).map (fun x => (x.kind, x.unit, x.code, x.count)) = some (4, f.unit, f.code, f.count) ∧
      u = { s with clock := u.clock, hlt := u.hlt, regs := u.regs, evr := u.evr, free := u.free }) ∧
  (∀ (t : Time) (a : Agent) (f : HFrame) (r : List HFrame) (s : State), s.hlt.frames = f :: r → s.controlUp = true → writes a = true →
    freezable s →
    ∃ u, exec (.handlerDone t a 2) s = .next u ∧ frozenBy 8 s u) ∧
  (∀ (t : Time) (f : HFrame) (r : List HFrame) (s : State), s.hlt.frames = f :: r → s.controlUp = true → freezable s →
    ms (s.fld rHltCtrl 12 8) ≤ f.onTop + ((s.arrive t).clock.now - f.since) →
    ∃ u, exec (.handlerTimeout t) s = .next u ∧ frozenBy 9 s u) ∧
  (∀ (t : Time) (c : Nat) (f : HFrame) (r : List HFrame) (s : State), c < 4 → s.hlt.frames = f :: r → f.taken = true →
    s.controlUp = true → handlerCore s c = true → freezable s →
    ∃ u, exec (.handlerException t c) s = .next u ∧ frozenBy 8 s u)

/-- The jig and the maintenance commands (R465, R466, R467, R468, R470, R484). -/
def Obligations.JigAndMaintenance : Prop :=
  (∀ (t : Time) (s : State), s.inService = true → s.fld rHltJigCtrl 0 1 = 1 → s.hlt.lastSweep = none →
    ∃ u, exec (.jigSweepStart t) s = .next u ∧ u.hlt.lastSweep = some u.clock.now ∧ u = { s with clock := u.clock, hlt := u.hlt }) ∧
  (∀ (t : Time) (s : State), s.inService = true → s.hlt.test = none → s.fld rHltJigCtrl 0 1 = 1 → s.hlt.lastSweep.isSome = true →
    ∃ u, exec (.jigTestStart t 9 0) s = .next u ∧ u.hlt.test = some ⟨9, 0, 0, false, 0, none, none, u.clock.now + jigTime 9⟩ ∧
      u = { s with clock := u.clock, hlt := u.hlt }) ∧
  (∀ (t : Time) (l : Nat) (s : State), l < 4096 → s.inService = true → s.hlt.test = none → s.fld rHltJigCtrl 0 1 = 1 →
    s.hlt.lastSweep.isSome = true → (s.laneAt l).state = .free → 41 < lanesFree s →
    ∃ u, exec (.jigTestStart t 3 l) s = .next u ∧ u.hlt.test = some ⟨3, l, 0, false, 0, none, none, u.clock.now + jigTime 3⟩ ∧ (u.laneAt l).state = .test ∧
      u = { s with clock := u.clock, hlt := u.hlt, lane := u.lane }) ∧
  (∀ (t : Time) (j : JigTest) (s : State), s.hlt.test = some j → s.controlUp = true → j.again = false → j.warm ≠ 9 →
    (j.kind = 8 ∨ j.kind = 10 ∨ j.kind = 11) → j.preemptRun < 1000 →
    ∃ u, exec (.jigPreempt t) s = .next u ∧ u.hlt.test = some { j with preemptRun := j.preemptRun + 1 } ∧
      u.count cHltJigPreempt 0 = min 0xFFFFFFFF (s.count cHltJigPreempt 0 + 1) ∧
      u = { s with clock := u.clock, hlt := u.hlt, regs := u.regs }) ∧
  (∀ (t d : Time) (r : JigResult) (s : State), s.hlt.test = some ⟨9, 0, 0, false, 0, none, none, d⟩ → jigVerdict r = 0 → d ≤ (s.arrive t).clock.now → s.controlUp = true → s.hlt.jigPort = none →
    s.hlt.retired = [] → s.chn.changes = [] →
    ∃ u, exec (.jigTestDone t r) s = .next u ∧ u.hlt.test = none ∧ u.hlt.retired = [] ∧
      u = { s with clock := u.clock, hlt := u.hlt, regs := u.regs, evr := u.evr }) ∧
  (∀ (t : Time) (d : Nat) (a : List Byte) (s : State), soloCommand s d 0x302 → s.argsOf d 0x302 = some a → octetAt a 0 = 9 → beAt a 1 2 = 0 → s.inService = true → s.hlt.test = none →
    ∃ u, exec (.jigRun t d) s = .next u ∧ u.hlt.test = some ⟨9, 0, 0, false, 0, some d, none, u.clock.now + jigTime 9⟩ ∧ u.dl.nextDsn = d + 1 ∧
      u = { s with clock := u.clock, hlt := u.hlt, dl := u.dl, fry := u.fry, sent := u.sent }) ∧
  (∀ (t : Time) (d h : Nat) (a : List Byte) (s : State), soloCommand s d 0x303 → s.argsOf d 0x303 = some a → octetAt a 0 = h → s.inService = true → s.hlt.test = none → 32 ≤ h → h < 36 →
    s.headUp h = false → s.clamp h = {} →
    ∃ u, exec (.jigPort t d) s = .next u ∧ u.hlt.test = some ⟨13, h, 0, false, 0, some d, none, u.clock.now + jigTime 13⟩ ∧ u.hlt.jigPort = some (d, h) ∧
      (u.clamp h).holder = 1 ∧ u.dl.nextDsn = d + 1 ∧ u = { s with clock := u.clock, hlt := u.hlt, dl := u.dl, fry := u.fry, sent := u.sent }) ∧
  (∀ (t : Time) (d p : Nat) (a : List Byte) (s : State), soloCommand s d 0x304 → s.argsOf d 0x304 = some a → octetAt a 0 = p → p < 32 → (s.port p).state ≠ .up →
    ∃ u, exec (.fhRetrain t d) s = .next u ∧ (u.port p).state = .down ∧ (∀ k, k ≠ p → u.port k = s.port k) ∧
      outcomes u = outcomes s ++ [(3, d, 1, 0)] ∧ u.mem = s.mem) ∧
  (∀ (t : Time) (d slot : Nat) (a : List Byte) (s : State), soloCommand s d 0x301 → s.argsOf d 0x301 = some a → octetAt a 0 = slot → slot < 16 →
    ∃ u, exec (.dumpRelease t d) s = .next u ∧ u.hlt.dumps = s.hlt.dumps.filter (fun x => !(x.1 == slot)) ∧
      outcomes u = outcomes s ++ [(3, d, 1, 0)] ∧
      u = { s with clock := u.clock, hlt := u.hlt, dl := u.dl, jrn := u.jrn, flash := u.flash, fry := u.fry, sent := u.sent })

/-- The clamps (R471, R472): a free one is granted, a held one makes an activity wait, the oldest waiter takes what is released, and a wait
that runs out is skipped. -/
def Obligations.Clamps : Prop :=
  (∀ (t : Time) (a n : Nat) (s : State), n < 74 → clampOf a n = true → s.memoryUp = true → s.clamp n = {} →
    ∃ u, exec (.clampRequest t a n) s = .next u ∧ u.clamp n = { holder := a, waiting := [] } ∧ (∀ k, k ≠ n → u.clamp k = s.clamp k) ∧
      u = { s with clock := u.clock, hlt := u.hlt }) ∧
  (∀ (t : Time) (a b n : Nat) (s : State), n < 74 → clampOf a n = true → s.memoryUp = true → b ≠ 0 → b ≠ a →
    s.clamp n = { holder := b, waiting := [] } →
    ∃ u, exec (.clampRequest t a n) s = .next u ∧ u.clamp n = { holder := b, waiting := [(a, u.clock.now)] } ∧
      u.count cHltClampWait 0 = min 0xFFFFFFFF (s.count cHltClampWait 0 + 1) ∧ (∀ k, k ≠ n → u.clamp k = s.clamp k) ∧
      u = { s with clock := u.clock, hlt := u.hlt, regs := u.regs }) ∧
  (∀ (t : Time) (a b n : Nat) (x : Time) (r : List (Nat × Time)) (s : State), n < 74 → clampOf a n = true → s.memoryUp = true →
    s.clamp n = { holder := a, waiting := (b, x) :: r } → (∀ w ∈ (b, x) :: r, w.1 ≠ a) →
    ∃ u, exec (.clampRelease t a n) s = .next u ∧ u.clamp n = { holder := b, waiting := r } ∧ (∀ k, k ≠ n → u.clamp k = s.clamp k) ∧
      u = { s with clock := u.clock, hlt := u.hlt }) ∧
  (∀ (t : Time) (b n : Nat) (x : Time) (s : State), n < 36 → s.memoryUp = true → b ≠ 3 → b ≠ 0 →
    s.clamp n = { holder := b, waiting := [(3, x)] } → x + sec 1 ≤ (s.arrive t).clock.now →
    ∃ u, exec (.clampWaitExpire t 3 n) s = .next u ∧ u.clamp n = { holder := b, waiting := [] } ∧
      u.count cHltClampSkip 0 = min 0xFFFFFFFF (s.count cHltClampSkip 0 + 1) ∧ (∀ k, k ≠ n → u.clamp k = s.clamp k) ∧
      (u.port n).retryAt = u.clock.now + sec 1 ∧ (∀ k, k ≠ n → u.port k = s.port k) ∧
      u = { s with clock := u.clock, hlt := u.hlt, regs := u.regs, fh := u.fh })

/-- FATAL, the freeze and the dumps (R479, R480, R482, R483). -/
def Obligations.FatalAndDumps : Prop :=
  (∀ (t : Time) (c : FatalCause) (s : State), 1 ≤ c.cause → c.cause ≤ 12 → s.start.porstLow = false → freezable s →
    ∃ u, exec (.fatal t c) s = .next u ∧ frozenBy c.cause s u ∧ (u.hlt.causeUnit, u.hlt.causeCode, u.hlt.causeArg) = (c.unit, if c.cause = 1 then c.code else 0, c.arg)) ∧
  (∀ (t : Time) (c : FatalCause) (s : State), 1 ≤ c.cause → c.cause ≤ 12 → s.start.porstLow = false → s.hlt.frozen = true →
    s.hlt.armed = false →
    ∃ u, exec (.fatal t c) s = .next u ∧ u.hlt = { s.hlt with multiple := true } ∧ u = { s with clock := u.clock, hlt := u.hlt }) ∧
  (∀ (t : Time) (s : State), s.hlt.frozen = true → s.hlt.stage = .draining → s.hlt.cause ≠ 6 → s.clamp 71 = {} →
    ∃ u, exec (.fatalStagingDrained t) s = .next u ∧ u.hlt.stage = .dumping ∧ (u.clamp 71).holder = 11 ∧ u.start.drained = true ∧
      u = { s with clock := u.clock, hlt := u.hlt, start := { s.start with drained := true } }) ∧
  (∀ (t : Time) (s : State), s.hlt.frozen = true → s.hlt.stage = .dumping → s.clamp 71 = { holder := 11, waiting := [] } →
    s.hlt.dumps = [] →
    ∃ u, exec (.dumpWritten t) s = .next u ∧ u.hlt.stage = .paths ∧ u.hlt.dumps = [(0, dumpOf s)] ∧ u.clamp 71 = {} ∧
      u = { s with clock := u.clock, hlt := u.hlt }) ∧
  (∀ (t : Time) (s : State), s.hlt.frozen = true → s.hlt.stage = .paths → staysFrozen s = true → s.hlt.cause ≠ 5 →
    s.fld rHltCtrl 1 1 = 0 →
    ∃ u, exec (.dumpPathsDone t) s = .next u ∧ u.hlt.stage = .done ∧ u.hlt.frozen = true ∧ u = { s with clock := u.clock, hlt := u.hlt }) ∧
  (∀ (t : Time) (s : State), s.hlt.frozen = true → s.hlt.stage = .paths → staysFrozen s = false → s.hlt.cause ≠ 5 →
    s.fld rHltCtrl 1 1 = 0 → s.start.warmLow = false → s.start.holdUntilCool = false → s.start.fuseLoaded = true →
    ∃ u, exec (.dumpPathsDone t) s = .next u ∧ u.start.phase = .p2 ∧ u.start.warm = true ∧ u.hlt.frozen = false ∧
      u.evr = s.evr ∧ u.hlt.cause = s.hlt.cause) ∧
  (∀ (t : Time) (d : DumpHdr) (s : State), takesDump s = true → s.hlt.dumps = [] →
    ∃ u, exec (.hltPartnerDump t d) s = .next u ∧ u.hlt.dumps = [(8, d)] ∧
      u = { s with clock := u.clock, hlt := u.hlt, regs := u.regs, evr := u.evr, free := u.free }) ∧
  (∀ (t : Time) (slot : Nat) (d : DumpHdr) (s : State), slot < 8 → s.controlUp = true → s.inService = true →
    afind s.hlt.dumps slot = some d → s.hlt.flashDumps = [] → 1 ≤ flashSlots s →
    ∃ u, exec (.dumpFlashCopy t slot true true) s = .next u ∧ u.hlt.flashDumps = [(0, d)] ∧ u.hlt.flashCopied = true ∧
      u = { s with clock := u.clock, hlt := u.hlt }) ∧
  (∀ (t : Time) (slot : Nat) (d : DumpHdr) (s : State), slot < 8 → s.controlUp = true → s.inService = true →
    afind s.hlt.dumps slot = some d → s.hlt.flashDumps = [] →
    ∃ u, exec (.dumpFlashCopy t slot true false) s = .next u ∧ u.hlt.flashDumps = [] ∧
      u.count cHltDumpFlashFail 0 = min 0xFFFFFFFF (s.count cHltDumpFlashFail 0 + 1) ∧
      u = { s with clock := u.clock, hlt := u.hlt, regs := u.regs }) ∧
  (∀ (t : Time) (slot : Nat) (d : DumpHdr) (s : State), s.controlUp = true → s.memoryUp = true → afind s.hlt.flashDumps slot = some d →
    s.hlt.dumps = [] →
    ∃ u, exec (.dumpFlashCopy t slot false true) s = .next u ∧ u.hlt.dumps = [(0, d)] ∧ u = { s with clock := u.clock, hlt := u.hlt })

/-- The event recorder's cursor, the management window and the registers (R3, R476, R478, R489, R490). -/
def Obligations.WindowAndRegisters : Prop :=
  (∀ (t : Time) (a : Agent) (q : Nat) (s : State), writes a = true → s.hlt.frozen = false → s.start.porstLow = false →
    s.evr.oldest ≤ q → q < 2 ^ 48 →
    ∃ u, exec (.evrCursorWrite t a q) s = .next u ∧ u = { s with clock := u.clock, hlt := u.hlt, evr := { s.evr with cursor := q } }) ∧
  (∀ (t : Time) (a : Agent) (q : Nat) (s : State), writes a = true → s.hlt.frozen = false → s.start.porstLow = false →
    q < s.evr.oldest → q < 2 ^ 48 →
    ∃ u, exec (.evrCursorWrite t a q) s = .next u ∧
      u.count cEvrCursorLost 0 = min 0xFFFFFFFF (s.count cEvrCursorLost 0 + (s.evr.oldest - q)) ∧
      u = { s with clock := u.clock, hlt := u.hlt, regs := u.regs, evr := { s.evr with cursor := s.evr.oldest } }) ∧
  (∀ (t : Time) (a : Agent) (s : State), s.start.porstLow = false →
    ∃ u, exec (.evrData7Read t a) s = .next u ∧ u.sent = .readData a 0x4170003C (recordWord s s.evr.cursor 7) :: s.sent ∧
      u = { s with clock := u.clock, hlt := u.hlt, sent := u.sent, evr := { s.evr with cursor := if writes a then (s.evr.cursor + 1) % 2 ^ 48 else s.evr.cursor } }) ∧
  (∀ (t : Time) (a b c d : Byte) (r : List Byte) (s : State), reaches s .mgt = true →
    ∃ u, exec (.mgtI2cWrite t (a :: b :: c :: d :: r)) s = .next u ∧ u.hlt.mgtAddr = (a ++ b ++ c ++ d).toNat ∧
      u.count cMgtWriteReject 0 = min 0xFFFFFFFF (s.count cMgtWriteReject 0 + r.length) ∧
      u = { s with clock := u.clock, hlt := u.hlt, regs := u.regs }) ∧
  (∀ (t : Time) (s : State), reaches s .mgt = true → inControl s.hlt.mgtAddr = true → s.hlt.mgtAddr % 4 = 0 →
    placeAt s.hlt.mgtAddr ≠ .none → islandHeld s s.hlt.mgtAddr = false → isLo s.hlt.mgtAddr = false → isHi s.hlt.mgtAddr = false →
    ∃ u, exec (.mgtI2cRead t 1) s = .next u ∧ u.sent = .mgtData [regValue (s.arrive t) s.hlt.mgtAddr] :: s.sent ∧
      u.hlt.mgtAddr = (s.hlt.mgtAddr + 4) % 2 ^ 32 ∧ u = { s with clock := u.clock, hlt := u.hlt, sent := u.sent }) ∧
  (∀ (t : Time) (g : Agent) (a : Word) (s : State), reaches s g = true → inControl a.toNat = true → a.toNat % 4 = 0 →
    placeAt a.toNat ≠ .none → islandHeld s a.toNat = false → isLo a.toNat = true →
    ∃ u, exec (.registerLoRead t g a 4) s = .next u ∧ u.sent = .readData g a.toNat (regValue (s.arrive t) a.toNat) :: s.sent ∧
      latched u g (a.toNat + 4) = some (regShown (s.arrive t) (a.toNat + 4)) ∧
      u = { s with clock := u.clock, hlt := u.hlt, sent := u.sent, latches := u.latches }) ∧
  (∀ (t : Time) (g : Agent) (a w : Word) (s : State), reaches s g = true → inControl a.toNat = true → a.toNat % 4 = 0 →
    placeAt a.toNat ≠ .none → islandHeld s a.toNat = false → isLo a.toNat = false → isHi a.toNat = true →
    latched s g a.toNat = some w →
    ∃ u, exec (.registerLoRead t g a 4) s = .next u ∧ u.sent = .readData g a.toNat w :: s.sent ∧
      u = { s with clock := u.clock, hlt := u.hlt, sent := u.sent }) ∧
  (∀ (t : Time) (g : Agent) (a : Word) (n : Nat) (s : State), (n = 1 ∨ n = 2) → a.toNat % n = 0 → reaches s g = true → inControl a.toNat = true →
    (match placeAt (a.toNat / 4 * 4) with | .card _ => true | _ => false) = true → islandHeld s (a.toNat / 4 * 4) = false →
    isLo (a.toNat / 4 * 4) = false → isHi (a.toNat / 4 * 4) = false → a.toNat / 4 * 4 ≠ 0x4170003C →
    ∃ u, exec (.registerLoRead t g a n) s = .next u ∧
      u.sent = .readData g a.toNat (BitVec.ofNat 32 ((regValue (s.arrive t) (a.toNat / 4 * 4)).toNat / 2 ^ (8 * (a.toNat % 4)) % 2 ^ (8 * n))) :: s.sent ∧
      u = { s with clock := u.clock, hlt := u.hlt, sent := u.sent }) ∧
  (∀ (t : Time) (g : Agent) (a : Word) (n : Nat) (s : State), (n = 2 ∨ n = 4) → a.toNat % n ≠ 0 → reaches s g = true → inControl a.toNat = true →
    ∃ u, exec (.registerLoRead t g a n) s = .next u ∧ u.sent = .readData g a.toNat 0 :: s.sent ∧
      u.count cGlbBadAccess 0 = min 0xFFFFFFFF (s.count cGlbBadAccess 0 + 1) ∧
      u = { s with clock := u.clock, hlt := u.hlt, sent := u.sent, regs := u.regs }) ∧
  (∀ (t : Time) (e : Nat) (a v : Word) (c : Card) (s : State), s.start.phase = .p9 → s.start.waiting = none → reaches s (.engine e) = true →
    inControl a.toNat = true → a.toNat % 4 = 0 → placeAt a.toNat = .card c → islandHeld s a.toNat = false → c.view = false →
    c.rwl = 0 → c.rw ≠ 0 → (blockOf a.toNat).1 = 24 →
    ∃ u, exec (.registerWrite t (.engine e) a v 4) s = .next u ∧ u.reg a.toNat = merged s a.toNat c.rw v ∧
      (∀ b, b ≠ a.toNat → u.reg b = s.reg b) ∧
      u = { s with clock := u.clock, hlt := u.hlt, regs := u.regs, cfgErr := u.cfgErr, msys := u.msys }) ∧
  (∀ (t : Time) (e : Nat) (a v : Word) (n : Nat) (s : State), s.start.phase = .p9 → s.start.waiting = none → reaches s (.engine e) = true → inControl a.toNat = true →
    ((n = 4 ∧ a.toNat % 4 ≠ 0) ∨ n = 1 ∨ n = 2) →
    ∃ u, exec (.registerWrite t (.engine e) a v n) s = .next u ∧ u.count cGlbBadAccess 0 = min 0xFFFFFFFF (s.count cGlbBadAccess 0 + 1) ∧
      u = { s with clock := u.clock, hlt := u.hlt, regs := u.regs })

/-- The device's temperature (R523). -/
def Obligations.Temperature : Prop :=
  (∀ (t : Time) (s : State), s.hlt.overArmed = true → 110 * 16 ≤ s.hlt.temp → s.start.porstLow = false → s.hlt.frames = [] → s.hlt.queue = [] →
    ∃ u, exec (.glbOvertemp t) s = .next u ∧ u.hlt.overArmed = false ∧ u.hlt.degraded = true ∧
      u = { s with clock := u.clock, hlt := u.hlt, regs := u.regs, evr := u.evr, free := u.free }) ∧
  (∀ (t : Time) (s : State), s.start.porstLow = false → freezable s →
    ∃ u, exec (.glbThermalTrip t) s = .next u ∧ frozenBy 1 s u ∧ u.start.holdUntilCool = true) ∧
  (∀ (t : Time) (tj : Int) (s : State), -32768 ≤ tj → tj < 32768 → s.start.phase ≠ .p0 → s.start.phase ≠ .p1 → s.start.held = false →
    ∃ u, exec (.glbTempUpdate t tj) s = .next u ∧ u.hlt.temp = tj ∧ u.hlt.overArmed = (s.hlt.overArmed || decide (tj < 105 * 16)) ∧
      u.start.holdUntilCool = (s.start.holdUntilCool && decide (100 * 16 < tj)) ∧
      u = { s with clock := u.clock, hlt := u.hlt, start := { s.start with holdUntilCool := u.start.holdUntilCool } })

/-- The room of the coalescer (R456): at most 960 entries of DROPPED keys, 1,024 in all; a report that finds none is dropped and counted, and
a DEGRADED one among them still shows. -/
def Obligations.CoalescerRoom : Prop :=
  (∀ (t : Time) (r : Report) (s : State), r.unit < 25 * 2048 → s.controlUp = true → r.degraded = false →
    (∀ e ∈ s.hlt.coal, ¬(e.unit = r.unit ∧ e.code = r.code)) → 960 ≤ (s.hlt.coal.filter fun e => !e.degraded).length →
    ∃ u, exec (.errorReport t r .none) s = .next u ∧ u.hlt.coal = s.hlt.coal ∧ u.hlt.frames = s.hlt.frames ∧
      u.count cHltCoalesceOvf 0 = min 0xFFFFFFFF (s.count cHltCoalesceOvf 0 + 1) ∧
      u = { s with clock := u.clock, hlt := u.hlt, regs := u.regs }) ∧
  (∀ (t : Time) (r : Report) (s : State), r.unit < 25 * 2048 → s.controlUp = true → r.degraded = true →
    (∀ e ∈ s.hlt.coal, ¬(e.unit = r.unit ∧ e.code = r.code)) → 1024 ≤ s.hlt.coal.length →
    ∃ u, exec (.errorReport t r .none) s = .next u ∧ u.hlt.coal = s.hlt.coal ∧ u.hlt.frames = s.hlt.frames ∧ u.hlt.degraded = true ∧
      u.count cHltCoalesceOvf 0 = min 0xFFFFFFFF (s.count cHltCoalesceOvf 0 + 1) ∧
      u = { s with clock := u.clock, hlt := u.hlt, regs := u.regs }) ∧
  (∀ (t : Time) (r : Report) (s : State), r.unit < 25 * 2048 → s.controlUp = true → r.degraded = true → r.rank = 0 →
    (∀ e ∈ s.hlt.coal, ¬(e.unit = r.unit ∧ e.code = r.code)) → s.hlt.coal.length < 1024 →
    ∃ u, exec (.errorReport t r .none) s = .next u ∧ u.hlt.degraded = true ∧
      u.hlt.coal = s.hlt.coal ++ [⟨r.unit, r.code, true, 0, r.arg, 1, u.clock.now, false⟩] ∧
      u = { s with clock := u.clock, hlt := u.hlt, regs := u.regs, evr := u.evr }) ∧
  (∀ (t : Time) (r : Report) (s : State), r.unit < 25 * 2048 → s.controlUp = true → r.degraded = false → r.rank = 0 →
    (∀ e ∈ s.hlt.coal, ¬(e.unit = r.unit ∧ e.code = r.code)) → s.hlt.coal.length < 1024 →
    (s.hlt.coal.filter fun e => !e.degraded).length < 960 →
    ∃ u, exec (.errorReport t r .none) s = .next u ∧
      u.hlt.coal = s.hlt.coal ++ [⟨r.unit, r.code, false, 0, r.arg, 1, u.clock.now, false⟩] ∧
      u = { s with clock := u.clock, hlt := u.hlt, regs := u.regs, evr := u.evr })

/-- Escalation (R457): a DROPPED entry whose COUNT reaches HLT_COAL.ESCALATE, 512 after reset, passes once to the handler stack as DEGRADED at
rank 2, writes a record of KIND ESCALATE (3), counts in HLT_ESCALATE, and stays open. -/
def Obligations.DroppedEntryEscalates : Prop :=
  State.reset.fld rHltCoal 8 16 = 512 ∧
  (∀ (t : Time) (r : Report) (e : CoalEntry) (s : State), r.unit < 25 * 2048 → s.controlUp = true → r.degraded = false →
    s.hlt.coal = [e] → e.unit = r.unit → e.code = r.code → e.degraded = false → e.escalated = false → e.count < 0xFFFFFFFF →
    s.fld rHltCoal 8 16 = e.count + 1 → s.hlt.frames = [] → s.hlt.queue = [] → fifoNow (s.arrive t) < 64 →
    ∃ u, exec (.errorReport t r .none) s = .next u ∧ u.hlt.coal = [{ e with count := e.count + 1, escalated := true }] ∧
      u.hlt.frames.map (fun f => (f.unit, f.code, f.rank)) = [(r.unit, r.code, 2)] ∧ u.hlt.degraded = true ∧
      (u.evr.records.getLast?).map (fun x => (x.kind, x.unit, x.code, x.rank)) = some (3, r.unit, r.code, 2) ∧
      u.count cHltEscalate 0 = min 0xFFFFFFFF (s.count cHltEscalate 0 + 1) ∧
      u = { s with clock := u.clock, hlt := u.hlt, regs := u.regs, evr := u.evr }) ∧
  (∀ (t : Time) (r : Report) (e : CoalEntry) (s : State), r.unit < 25 * 2048 → s.controlUp = true → r.degraded = false →
    s.hlt.coal = [e] → e.unit = r.unit → e.code = r.code → e.escalated = true →
    ∃ u, exec (.errorReport t r .none) s = .next u ∧ u.hlt.coal = [{ e with count := min 0xFFFFFFFF (e.count + 1) }] ∧
      u.hlt.frames = s.hlt.frames ∧ u = { s with clock := u.clock, hlt := u.hlt, regs := u.regs })

/-- A report waits in its strait while the Control island is not ready (R35, R38), and a bundle that a full or corrupt strait lost is lost to its
candidate, its acknowledgement or its context (R39, R40). -/
def Obligations.StraitsHoldAndLose : Prop :=
  (∀ (t : Time) (r : Report) (s : State), r.unit < 25 * 2048 → s.controlUp = false → s.ready 3 = false →
    s.islandUp (blockIsland (r.unit / 2048)) = true → blockIsland (r.unit / 2048) ≠ 3 →
    ∃ u, exec (.errorReport t r .none) s = .next u ∧
      u.fifo (straitOf (toControl (blockIsland (r.unit / 2048))) 0) = s.fifo (straitOf (toControl (blockIsland (r.unit / 2048))) 0) ++ [.errorReport t r .none] ∧
      u = { s with clock := u.clock, hlt := u.hlt, straits := u.straits }) ∧
  (∀ (t : Time) (r : Report) (g : Nat) (a : AckTmpl) (s : State), r.unit / 2048 = cHltStraitParity.block → r.code = cHltStraitParity.code → r.degraded = false →
    s.controlUp = true → afind s.txm.acks g = some a →
    ∃ u, exec (.errorReport t r (.release g)) s = .next u ∧ afind u.txm.acks g = some { a with released := false } ∧
      s.count cHltStraitParity 0 ≤ u.count cHltStraitParity 0 ∧
      u = { s with clock := u.clock, hlt := u.hlt, regs := u.regs, evr := u.evr, txm := { s.txm with acks := u.txm.acks } }) ∧
  (∀ (t : Time) (r : Report) (g : Nat) (x : Cand) (s : State), r.unit / 2048 = cHltStraitParity.block →
    (r.code = cHltStraitParity.code ∨ r.code = cHltStraitFull.code) → r.degraded = false → s.controlUp = true →
    afind s.jrn.cands g = some x → x.state ≠ .mirror →
    ∃ u, exec (.errorReport t r (.candidate g)) s = .next u ∧ afind u.jrn.cands g = none ∧ u.jrn.entries = s.jrn.entries ∧
      afind u.txm.acks g = none ∧ u.dl = s.dl ∧ u.mem = s.mem) ∧
  (∀ (t : Time) (r : Report) (k : Nat) (x : Context) (s : State), r.unit / 2048 = cLaneSpillDrop.block → r.code = cLaneSpillDrop.code → r.degraded = false →
    s.controlUp = true → afind s.lane.contexts k = some x →
    ∃ u, exec (.errorReport t r (.spill k)) s = .next u ∧ afind u.lane.contexts k = none ∧ (u.laneAt x.owner).context = none ∧
      (u.laneAt x.owner).state = (s.laneAt x.owner).state ∧
      u = { s with clock := u.clock, hlt := u.hlt, regs := u.regs, evr := u.evr, lane := { s.lane with lanes := u.lane.lanes, contexts := u.lane.contexts, waiting := u.lane.waiting } })

/-- A step runs the command at the front of the queue on the state with the queue's rest; an empty queue lets one Slot cycle pass, the
model's own choice (log entry 2). -/
def Obligations.StepRunsFrontCommand : Prop :=
  (∀ (c : Instr) (s : State), step { s with pending := c :: s.pending } = exec c s) ∧
  (∀ (c : Instr) (r : List Instr) (s : State), s.pending = c :: r → step s = exec c { s with pending := r }) ∧
  (∀ s : State, s.pending = [] → step s = .next (tick s))

/-- A command is carried out exactly where it names instances that exist; elsewhere it is the fault noSuchInstance, the model's own (log
entry 4). No command is refused. -/
def Obligations.EveryNamedInstanceCompletes : Prop :=
  ∀ (c : Instr) (s : State),
    (c.wf = true → ∃ t, exec c s = .next t) ∧ (c.wf = false → exec c s = .fault .noSuchInstance)

/-- Right after reset the memory is in its canonical form, nothing waits, the counters stand at 0, and no output is driven. -/
def Obligations.ResetState : Prop :=
  Inv State.reset ∧ State.reset.pending = [] ∧ State.reset.mem = [] ∧ State.reset.start.porstLow = true ∧
    State.reset.pair.driving = false ∧ State.reset.sent = [] ∧
    (∀ c ∈ counters, ∀ i < c.cnt, State.reset.count c i = 0) ∧
    (State.reset.reg rKeyCtrl).toNat = 0x3205 ∧ (State.reset.reg rPairCtrl).toNat = 0x02480A0A

/-- Every step keeps the memory in its canonical form. -/
def Obligations.StepKeepsInvariant : Prop := ∀ s t : State, Inv s → step s = .next t → Inv t

/-- A command leaves the queue of waiting commands alone. -/
def Obligations.CommandsLeaveQueueAlone : Prop :=
  ∀ (c : Instr) (s t : State), exec c s = .next t → t.pending = s.pending

/-- What is programmed in the fuses stays programmed, whatever step is taken (R58, R60). -/
def Obligations.FusesStayProgrammed : Prop := ∀ s t : State, step s = .next t → fusesKept s t

/-- Only a DMA descriptor, the records and phases of a start, and a reset may change memory: any other command leaves every byte as it
was. -/
def Obligations.OnlyNamedCommandsWriteMemory : Prop :=
  ∀ (c : Instr) (s t : State), mayWriteMemory c = false → exec c s = .next t → ∀ a, t.byte a = s.byte a
end

