-- ==== Sys2Proof/Laws/Anchor.lean ====
section
/-! SUPPORT. What leaves the memory, the fuses and the queue alone: the rules by which the lemma of each operation follows. -/

namespace Sys2Proof.Machine

open Sys2Proof Host

@[simp] theorem anchor_mk regs' halves' latches' tables' mem' cfgErr' start' pins' clock' hlt' evr' fh' pool' chn' det' lane' txm' cal' timer' sch' key' flash' jrn' dl' fry' fwd' pair' upd' camps' prog' msys' before' straits' sent' free' pending' : (State.mk regs' halves' latches' tables' mem' cfgErr' start' pins' clock' hlt' evr' fh' pool' chn' det' lane' txm' cal' timer' sch' key' flash' jrn' dl' fry' fwd' pair' upd' camps' prog' msys' before' straits' sent' free' pending').anchor = ⟨mem', before', start'.fuses, pending'⟩ := by
  rw [State.anchor]

@[simp] theorem anchor_eta (s : State) : (⟨s.mem, s.before, s.start.fuses, s.pending⟩ : Anchor) = s.anchor := by
  rw [State.anchor]

@[simp] theorem anchor_ite (c : Prop) [Decidable c] (a b : State) :
    (if c then a else b).anchor = if c then a.anchor else b.anchor := apply_ite _ _ _ _

theorem anchor_foldl {α : Type} (f : State → α → State) (h : ∀ s x, (f s x).anchor = s.anchor) (l : List α) (s : State) :
    (l.foldl f s).anchor = s.anchor := by
  induction l generalizing s with
  | nil => rfl
  | cons a r ih => rw [List.foldl_cons, ih, h]

theorem anchor_elim {α : Type} (o : Option α) (a t : State) (f : α → State) (h0 : a.anchor = t.anchor)
    (h : ∀ x, (f x).anchor = t.anchor) : (o.elim a f).anchor = t.anchor := by
  cases o with
  | none => exact h0
  | some x => exact h x

theorem anchor_map_getD {α : Type} (o : Option α) (a t : State) (f : α → State) (h0 : a.anchor = t.anchor)
    (h : ∀ x, (f x).anchor = t.anchor) : ((o.map f).getD a).anchor = t.anchor := by
  cases o with
  | none => exact h0
  | some x => exact h x

end Sys2Proof.Machine
end

