-- ==== Sys2Proof/Laws/AnchorOps.lean ====
section
/-! SUPPORT. The operations of Machine/Ops.lean that leave the memory, the fuses and the queue alone, one lemma each. -/

set_option linter.unusedSimpArgs false
set_option linter.unusedTactic false

namespace Sys2Proof.Machine
open Sys2Proof Host

@[simp] theorem arrive_anchor (s : State) (t : Time) : (State.arrive s t).anchor = s.anchor := by
  unfold State.arrive
  split <;> simp only [anchor_mk, anchor_eta]

@[simp] theorem setReg_anchor (s : State) (a : Nat) (v : Word) : (State.setReg s a v).anchor = s.anchor := by simp only [State.setReg, anchor_mk, anchor_eta]

@[simp] theorem setFldAt_anchor (s : State) (a i lo w v : Nat) : (State.setFldAt s a i lo w v).anchor = s.anchor := by simp only [State.setFldAt, anchor_mk, anchor_eta, setReg_anchor]

@[simp] theorem bumpBy_anchor (c : Counter) (i n : Nat) (s : State) : (bumpBy c i n s).anchor = s.anchor := by simp only [bumpBy, anchor_mk, anchor_eta, setReg_anchor]

@[simp] theorem bump_anchor (c : Counter) (i : Nat) (s : State) : (bump c i s).anchor = s.anchor := by simp only [bump, anchor_mk, anchor_eta, bumpBy_anchor]

@[simp] theorem setEntry_anchor (s : State) (id i v : Nat) : (State.setEntry s id i v).anchor = s.anchor := by simp only [State.setEntry, anchor_mk, anchor_eta]

@[simp] theorem drawn_anchor (s : State) : (State.drawn s).anchor = s.anchor := by simp only [State.drawn, anchor_mk, anchor_eta]

@[simp] theorem out_anchor (s : State) (o : Output) : (State.out s o).anchor = s.anchor := by simp only [State.out, anchor_mk, anchor_eta]

@[simp] theorem evrPush_anchor (r : EvRecord) (s : State) : (evrPush r s).anchor = s.anchor := by
  unfold evrPush
  repeat' first
    | (simp only [anchor_mk, anchor_eta, bump_anchor]; done)
    | split

@[simp] theorem event_anchor (e a0 a1 : Nat) (s : State) : (event e a0 a1 s).anchor = s.anchor := by simp only [event, anchor_mk, anchor_eta, evrPush_anchor]

@[simp] theorem occurs_anchor (e : Nat) (s : State) : (occurs e s).anchor = s.anchor := by simp only [occurs, anchor_mk, anchor_eta, event_anchor]

end Sys2Proof.Machine
end

