-- ==== Sys2Proof/Laws/AnchorOperands.lean ====
section
/-! SUPPORT. The operations of Machine/Operands.lean that leave the memory, the fuses and the queue alone, one lemma each. -/

set_option linter.unusedSimpArgs false
set_option linter.unusedTactic false

namespace Sys2Proof.Machine
open Sys2Proof Host

@[simp] theorem setPort_anchor (s : State) (p : Nat) (q : FhPort) : (State.setPort s p q).anchor = s.anchor := by simp only [State.setPort, anchor_mk, anchor_eta]

@[simp] theorem modPort_anchor (s : State) (p : Nat) (f : FhPort → FhPort) : (State.modPort s p f).anchor = s.anchor := by simp only [State.modPort, anchor_mk, anchor_eta, setPort_anchor]

@[simp] theorem modCal_anchor (s : State) (h : Nat) (f : HeadCal → HeadCal) : (State.modCal s h f).anchor = s.anchor := by simp only [State.modCal, anchor_mk, anchor_eta]

@[simp] theorem setUnit_anchor (s : State) (u : Nat) (x : UnitUse) : (State.setUnit s u x).anchor = s.anchor := by simp only [State.setUnit, anchor_mk, anchor_eta]

@[simp] theorem setLane_anchor (s : State) (l : Nat) (x : Lane) : (State.setLane s l x).anchor = s.anchor := by simp only [State.setLane, anchor_mk, anchor_eta]

@[simp] theorem modLane_anchor (s : State) (l : Nat) (f : Lane → Lane) : (State.modLane s l f).anchor = s.anchor := by simp only [State.modLane, anchor_mk, anchor_eta, setLane_anchor]

@[simp] theorem setCellBit_anchor (i bit : Nat) (v : Bool) (s : State) : (setCellBit i bit v s).anchor = s.anchor := by
  unfold setCellBit
  repeat' first
    | with_reducible rfl
    | (simp only [anchor_mk, anchor_eta, anchor_ite, ite_self, implies_true, setEntry_anchor]; done)

@[simp] theorem modNode_anchor (s : State) (i : Nat) (f : Node → Node) : (State.modNode s i f).anchor = s.anchor := by simp only [State.modNode, anchor_mk, anchor_eta]

@[simp] theorem modGroup_anchor (s : State) (g : Nat) (f : Group → Group) : (State.modGroup s g f).anchor = s.anchor := by simp only [State.modGroup, anchor_mk, anchor_eta]

end Sys2Proof.Machine
end

