-- ==== Sys2Proof/Laws/AnchorBooking.lean ====
section
/-! SUPPORT. The operations of Machine/Booking.lean that leave the memory, the fuses and the queue alone, one lemma each. -/

set_option linter.unusedSimpArgs false
set_option linter.unusedTactic false

namespace Sys2Proof.Machine
open Sys2Proof Host

@[simp] theorem accountAdd_anchor (key b a : Nat) (s : State) : (accountAdd key b a s).anchor = s.anchor := by simp only [accountAdd, anchor_mk, anchor_eta]

@[simp] theorem accountSub_anchor (key b a : Nat) (s : State) : (accountSub key b a s).anchor = s.anchor := by simp only [accountSub, anchor_mk, anchor_eta]

@[simp] theorem charge_anchor (c h : Nat) (a : Time) (airtime : Nat) (camp : Bool) (s : State) : (charge c h a airtime camp s).anchor = s.anchor := by
  unfold charge
  repeat' first
    | with_reducible rfl
    | (simp only [anchor_mk, anchor_eta, anchor_ite, ite_self, implies_true, accountAdd_anchor]; done)
    | simp only [anchor_mk, anchor_eta, anchor_ite, ite_self, implies_true, accountAdd_anchor]
    | refine (anchor_foldl _ (fun _ _ => ?_) _ _).trans ?_

@[simp] theorem refund_anchor (b : Booking) (s : State) : (refund b s).anchor = s.anchor := by
  unfold refund
  repeat' first
    | with_reducible rfl
    | (simp only [anchor_mk, anchor_eta, anchor_ite, ite_self, implies_true, accountSub_anchor]; done)
    | simp only [anchor_mk, anchor_eta, anchor_ite, ite_self, implies_true, accountSub_anchor]
    | refine (anchor_foldl _ (fun _ _ => ?_) _ _).trans ?_

@[simp] theorem countRefusal_anchor (r : TxRefusal) (s : State) : (countRefusal r s).anchor = s.anchor := by
  unfold countRefusal
  split <;> simp only [anchor_mk, anchor_eta, bump_anchor]

@[simp] theorem logMirrored_anchor (h channel : Nat) (start : Time) (gain : Int) (profile : Nat) (s : State) : (logMirrored h channel start gain profile s).anchor = s.anchor := by simp only [logMirrored, anchor_mk, anchor_eta, modCal_anchor]

@[simp] theorem bookNow_anchor (q : TxReq) (s : State) : (bookNow q s).2.anchor = s.anchor := by
  unfold bookNow
  split <;> simp only [anchor_mk, anchor_eta, bump_anchor, charge_anchor]

theorem bookNow_anchor_of {q : TxReq} {s : State} {o_ : Nat} {u_ : State} (h_ : bookNow q s = (o_, u_)) : u_.anchor = s.anchor := by
  rw [← bookNow_anchor q s, h_]

@[simp] theorem admitTx_anchor (q : TxReq) (s : State) : (admitTx q s).2.anchor = s.anchor := by
  unfold admitTx
  split <;> simp only [anchor_mk, anchor_eta, bookNow_anchor, countRefusal_anchor]

theorem admitTx_anchor_of {q : TxReq} {s : State} {o_ : Option Nat} {u_ : State} (h_ : admitTx q s = (o_, u_)) : u_.anchor = s.anchor := by
  rw [← admitTx_anchor q s, h_]

@[simp] theorem unbook_anchor (id : Nat) (s : State) : (unbook id s).anchor = s.anchor := by
  unfold unbook
  split <;> simp only [anchor_mk, anchor_eta, bump_anchor, refund_anchor]

@[simp] theorem closeBooking_anchor (id : Nat) (s : State) : (closeBooking id s).anchor = s.anchor := by simp only [closeBooking, anchor_mk, anchor_eta]

@[simp] theorem cutAll_anchor (s : State) : (cutAll s).anchor = s.anchor := by
  unfold cutAll
  repeat' first
    | with_reducible rfl
    | (simp only [anchor_mk, anchor_eta, anchor_ite, ite_self, implies_true, bump_anchor, closeBooking_anchor, out_anchor]; done)
    | simp only [anchor_mk, anchor_eta, anchor_ite, ite_self, implies_true, bump_anchor, closeBooking_anchor, out_anchor]
    | refine (anchor_foldl _ (fun _ _ => ?_) _ _).trans ?_

@[simp] theorem modDl_anchor (d : Nat) (f : DlRec → DlRec) (s : State) : (modDl d f s).anchor = s.anchor := by simp only [modDl, anchor_mk, anchor_eta]

@[simp] theorem backToWait_anchor (u : TxUse) (s : State) : (backToWait u s).anchor = s.anchor := by
  unfold backToWait
  split <;> simp only [anchor_mk, anchor_eta, modDl_anchor]

@[simp] theorem cancelTx_anchor (b : Booking) (s : State) : (cancelTx b s).anchor = s.anchor := by simp only [cancelTx, anchor_mk, anchor_eta, backToWait_anchor, unbook_anchor]

@[simp] theorem deferItem_anchor (d : Nat) (s : State) : (deferItem d s).anchor = s.anchor := by simp only [deferItem, anchor_mk, anchor_eta, bump_anchor]

@[simp] theorem deferTx_anchor (b : Booking) (s : State) : (deferTx b s).anchor = s.anchor := by
  unfold deferTx
  split <;> simp only [anchor_mk, anchor_eta, bump_anchor, cancelTx_anchor, deferItem_anchor]

@[simp] theorem queueNotice_anchor (node action cell : Nat) (s : State) : (queueNotice node action cell s).anchor = s.anchor := by simp only [queueNotice, anchor_mk, anchor_eta]

@[simp] theorem toResync_anchor (i : Nat) (s : State) : (toResync i s).anchor = s.anchor := by
  unfold toResync
  repeat' first
    | (simp only [anchor_mk, anchor_eta, queueNotice_anchor]; done)
    | split

@[simp] theorem ackClip_anchor (sm : Summary) (start : Time) (s : State) : (ackClip sm start s).anchor = s.anchor := by
  unfold ackClip
  repeat' first
    | with_reducible rfl
    | (simp only [anchor_mk, anchor_eta, anchor_ite, ite_self, implies_true, bump_anchor, toResync_anchor]; done)
    | simp only [anchor_mk, anchor_eta, anchor_ite, ite_self, implies_true, bump_anchor, toResync_anchor]
    | refine (anchor_foldl _ (fun _ _ => ?_) _ _).trans ?_
    | refine anchor_elim _ _ _ _ ?_ (fun _ => ?_)
    | split

@[simp] theorem bookAckAt_anchor (g : Nat) (sm : Summary) (m : Nat × Time × Int) (s : State) : (bookAckAt g sm m s).2.anchor = s.anchor := by
  unfold bookAckAt
  repeat' first
    | with_reducible rfl
    | (simp only [anchor_mk, anchor_eta, anchor_ite, ite_self, implies_true, ackClip_anchor, admitTx_anchor]; done)
    | simp only [anchor_mk, anchor_eta, anchor_ite, ite_self, implies_true, ackClip_anchor, admitTx_anchor]
    | refine (anchor_foldl _ (fun _ _ => ?_) _ _).trans ?_
    | refine anchor_elim _ _ _ _ ?_ (fun _ => ?_)
    | split
    | refine (admitTx_anchor_of (by assumption)).trans ?_

theorem bookAckAt_anchor_of {g : Nat} {sm : Summary} {m : Nat × Time × Int} {s : State} {o_ : Option AckTmpl} {u_ : State} (h_ : bookAckAt g sm m s = (o_, u_)) : u_.anchor = s.anchor := by
  rw [← bookAckAt_anchor g sm m s, h_]

@[simp] theorem bookAckAmong_anchor (g : Nat) (sm : Summary) (s : State) (l : List (Nat × Time × Int)) :
    (bookAckAmong g sm s l).2.anchor = s.anchor := by
  induction l generalizing s with
  | nil => simp only [bookAckAmong, bump_anchor]
  | cons m r ih =>
    rw [bookAckAmong]
    split
    · next h => simp only [bump_anchor, bookAckAt_anchor_of h]
    · next h => rw [ih, bookAckAt_anchor_of h]

theorem bookAckAmong_anchor_of {g : Nat} {sm : Summary} {s : State} {l : List (Nat × Time × Int)} {o : Option AckTmpl} {u : State}
    (h : bookAckAmong g sm s l = (o, u)) : u.anchor = s.anchor := by
  rw [← bookAckAmong_anchor g sm s l, h]

@[simp] theorem bookAck_anchor (g : Nat) (x : Group) (sm : Summary) (s : State) : (bookAck g x sm s).2.anchor = s.anchor := by
  unfold bookAck
  repeat' first
    | with_reducible rfl
    | (simp only [anchor_mk, anchor_eta, anchor_ite, ite_self, implies_true, bookAckAmong_anchor, bookAckAt_anchor, bump_anchor]; done)
    | simp only [anchor_mk, anchor_eta, anchor_ite, ite_self, implies_true, bookAckAmong_anchor, bookAckAt_anchor, bump_anchor]
    | refine (anchor_foldl _ (fun _ _ => ?_) _ _).trans ?_
    | refine anchor_elim _ _ _ _ ?_ (fun _ => ?_)
    | split
    | refine (bookAckAt_anchor_of (by assumption)).trans ?_

theorem bookAck_anchor_of {g : Nat} {x : Group} {sm : Summary} {s : State} {o_ : Option AckTmpl} {u_ : State} (h_ : bookAck g x sm s = (o_, u_)) : u_.anchor = s.anchor := by
  rw [← bookAck_anchor g x sm s, h_]

@[simp] theorem dropAck_anchor (g : Nat) (s : State) : (dropAck g s).anchor = s.anchor := by
  unfold dropAck
  split <;> simp only [anchor_mk, anchor_eta, unbook_anchor]

@[simp] theorem groupSettle_anchor (g : Nat) (s : State) : (groupSettle g s).anchor = s.anchor := by
  unfold groupSettle
  repeat' first
    | (simp only [anchor_mk, anchor_eta]; done)
    | split

end Sys2Proof.Machine
end

