-- ==== Sys2Proof/Laws/AnchorFlags.lean ====
section
/-! SUPPORT. The operations of Machine/Flags.lean that leave the memory, the fuses and the queue alone, one lemma each. -/

set_option linter.unusedSimpArgs false
set_option linter.unusedTactic false

namespace Sys2Proof.Machine
open Sys2Proof Host

@[simp] theorem settle_anchor (s : State) : (settle s).anchor = s.anchor := by
  unfold settle
  split <;> simp only [anchor_mk, anchor_eta]

end Sys2Proof.Machine
end

