-- ==== Sys2Proof/Laws/AnchorMesh.lean ====
section
/-! SUPPORT. The operations of Machine/Mesh.lean that leave the memory, the fuses and the queue alone, one lemma each. -/

set_option linter.unusedSimpArgs false
set_option linter.unusedTactic false

namespace Sys2Proof.Machine
open Sys2Proof Host

@[simp] theorem hit_anchor (e : Eui) (s : State) : (hit e s).anchor = s.anchor := by
  unfold hit
  split <;> simp only [anchor_mk, anchor_eta, modNode_anchor]

@[simp] theorem setBudget_anchor (p v : Nat) (s : State) : (setBudget p v s).anchor = s.anchor := by simp only [setBudget, anchor_mk, anchor_eta]

@[simp] theorem spendToken_anchor (p : Nat) (s : State) : (spendToken p s).anchor = s.anchor := by simp only [spendToken, anchor_mk, anchor_eta, setBudget_anchor]

@[simp] theorem giveToken_anchor (p : Nat) (s : State) : (giveToken p s).anchor = s.anchor := by simp only [giveToken, anchor_mk, anchor_eta, setBudget_anchor]

@[simp] theorem newcomerGone_anchor (g : Nat) (s : State) : (newcomerGone g s).anchor = s.anchor := by
  unfold newcomerGone
  repeat' first
    | (simp only [anchor_mk, anchor_eta, giveToken_anchor]; done)
    | split

@[simp] theorem setLink_anchor (child parent : Eui) (s : State) : (setLink child parent s).anchor = s.anchor := by
  unfold setLink
  repeat' first
    | (simp only [anchor_mk, anchor_eta, bump_anchor, modNode_anchor]; done)
    | split

@[simp] theorem setLinks_anchor (s : State) (l : List Eui) : (setLinks s l).anchor = s.anchor := by
  induction l generalizing s with
  | nil => rw [setLinks]
  | cons a r ih =>
    cases r with
    | nil => rw [setLinks]; split <;> simp only [modNode_anchor]
    | cons b r => rw [setLinks, ih, setLink_anchor]

@[simp] theorem learnRoute_anchor (h : MeshHdr) (s : State) : (learnRoute h s).anchor = s.anchor := by
  unfold learnRoute
  repeat' first
    | (simp only [anchor_mk, anchor_eta, bump_anchor, setLinks_anchor]; done)
    | split

@[simp] theorem seenInsert_anchor (o : Eui) (f : Nat) (s : State) : (seenInsert o f s).anchor = s.anchor := by
  unfold seenInsert
  split <;> simp only [anchor_mk, anchor_eta, bump_anchor]

@[simp] theorem queueFlood_anchor (dsn : Option Nat) (pan : BitVec 16) (o : Eui) (fid ttl len sq : Nat) (s : State) : (queueFlood dsn pan o fid ttl len sq s).anchor = s.anchor := by simp only [queueFlood, anchor_mk, anchor_eta]

@[simp] theorem floodSeen_anchor (h : MeshHdr) (pan : BitVec 16) (len : Nat) (s : State) : (floodSeen h pan len s).anchor = s.anchor := by
  unfold floodSeen
  repeat' first
    | (simp only [anchor_mk, anchor_eta, bump_anchor, queueFlood_anchor, seenInsert_anchor]; done)
    | split

@[simp] theorem campSettle_anchor (c : Nat) (s : State) : (campSettle c s).anchor = s.anchor := by
  unfold campSettle
  repeat' first
    | (simp only [anchor_mk, anchor_eta, occurs_anchor]; done)
    | split

@[simp] theorem progressReport_anchor (i : Nat) (r : Progress) (s : State) : (progressReport i r s).anchor = s.anchor := by
  unfold progressReport
  repeat' first
    | (simp only [anchor_mk, anchor_eta, bump_anchor, campSettle_anchor]; done)
    | split

@[simp] theorem framePlane_anchor (f : FrameInfo) (s : State) : (framePlane f s).anchor = s.anchor := by
  unfold framePlane
  repeat' first
    | with_reducible rfl
    | (simp only [anchor_mk, anchor_eta, anchor_ite, ite_self, implies_true, bump_anchor, floodSeen_anchor, learnRoute_anchor, modNode_anchor, progressReport_anchor]; done)
    | simp only [anchor_mk, anchor_eta, anchor_ite, ite_self, implies_true, bump_anchor, floodSeen_anchor, learnRoute_anchor, modNode_anchor, progressReport_anchor]
    | refine (anchor_foldl _ (fun _ _ => ?_) _ _).trans ?_
    | refine anchor_elim _ _ _ _ ?_ (fun _ => ?_)
    | split

end Sys2Proof.Machine
end

