-- ==== Sys2Proof/Laws/AnchorRoles.lean ====
section
/-! SUPPORT. The operations of Machine/Roles.lean that leave the memory, the fuses and the queue alone, one lemma each. -/

set_option linter.unusedSimpArgs false
set_option linter.unusedTactic false

namespace Sys2Proof.Machine
open Sys2Proof Host

@[simp] theorem driveLine_anchor (s : State) : (driveLine s).anchor = s.anchor := by simp only [driveLine, anchor_mk, anchor_eta, out_anchor]

@[simp] theorem emitAs_anchor (bulk : Bool) (body : Body) (await : Option Await) (s : State) : (emitAs bulk body await s).anchor = s.anchor := by
  unfold emitAs
  repeat' first
    | (simp only [anchor_mk, anchor_eta, out_anchor]; done)
    | split

@[simp] theorem emit_anchor (body : Body) (await : Option Await) (s : State) : (emit body await s).anchor = s.anchor := by simp only [emit, anchor_mk, anchor_eta, emitAs_anchor]

@[simp] theorem mirror_anchor (body : Body) (await : Option Await) (s : State) : (mirror body await s).anchor = s.anchor := by
  unfold mirror
  split <;> simp only [anchor_mk, anchor_eta, emit_anchor]

@[simp] theorem ferryPacket_anchor (ty : Nat) (flags : Nat) (body : Octets) (s : State) : (ferryPacket ty flags body s).anchor = s.anchor := by
  unfold ferryPacket
  repeat' first
    | with_reducible rfl
    | (simp only [anchor_mk, anchor_eta, anchor_ite, ite_self, implies_true, mirror_anchor, out_anchor]; done)

@[simp] theorem raiseHwm_anchor (e : Eui) (c : Nat) (d : Word) (s : State) : (raiseHwm e c d s).anchor = s.anchor := by
  unfold raiseHwm
  repeat' first
    | (simp only [anchor_mk, anchor_eta, modNode_anchor]; done)
    | split

@[simp] theorem dedupAdd_anchor (h : EntryHdr) (s : State) : (dedupAdd h s).anchor = s.anchor := by simp only [dedupAdd, anchor_mk, anchor_eta]

@[simp] theorem modEntry_anchor (j : Nat) (f : Entry → Entry) (s : State) : (modEntry j f s).anchor = s.anchor := by simp only [modEntry, anchor_mk, anchor_eta]

@[simp] theorem acceptEntry_anchor (j : Nat) (s : State) : (acceptEntry j s).anchor = s.anchor := by
  unfold acceptEntry
  repeat' first
    | (simp only [anchor_mk, anchor_eta, bump_anchor, dedupAdd_anchor, framePlane_anchor, hit_anchor, modEntry_anchor, raiseHwm_anchor]; done)
    | split

@[simp] theorem voidEntry_anchor (j : Nat) (s : State) : (voidEntry j s).anchor = s.anchor := by
  unfold voidEntry
  repeat' first
    | (simp only [anchor_mk, anchor_eta, bump_anchor, dropAck_anchor, groupSettle_anchor, mirror_anchor, modEntry_anchor, newcomerGone_anchor]; done)
    | split

@[simp] theorem takeJsn_anchor (s : State) : (takeJsn s).2.anchor = s.anchor := by simp only [takeJsn, anchor_mk, anchor_eta]

theorem takeJsn_anchor_of {s : State} {o_ : Nat} {u_ : State} (h_ : takeJsn s = (o_, u_)) : u_.anchor = s.anchor := by
  rw [← takeJsn_anchor s, h_]

@[simp] theorem outcomeEntry_anchor (r : DlRec) (outcome cause : Nat) (s : State) : (outcomeEntry r outcome cause s).anchor = s.anchor := by simp only [outcomeEntry, anchor_mk, anchor_eta, mirror_anchor, takeJsn_anchor]

@[simp] theorem reportItem_anchor (r : DlRec) (s : State) : (reportItem r s).anchor = s.anchor := by
  unfold reportItem
  split <;> simp only [anchor_mk, anchor_eta, modDl_anchor, outcomeEntry_anchor]

@[simp] theorem reportFlow_anchor (it : DlItem) (s : State) : (reportFlow it s).anchor = s.anchor := by
  unfold reportFlow
  repeat' first
    | with_reducible rfl
    | (simp only [anchor_mk, anchor_eta, anchor_ite, ite_self, implies_true, reportItem_anchor]; done)
    | simp only [anchor_mk, anchor_eta, anchor_ite, ite_self, implies_true, reportItem_anchor]
    | refine (anchor_foldl _ (fun _ _ => ?_) _ _).trans ?_

@[simp] theorem endItem_anchor (d : Nat) (e : Ending) (s : State) : (endItem d e s).anchor = s.anchor := by
  unfold endItem
  repeat' first
    | (simp only [anchor_mk, anchor_eta, modDl_anchor, reportFlow_anchor]; done)
    | split

@[simp] theorem dlAdvance_anchor (d : Nat) (s : State) : (dlAdvance d s).anchor = s.anchor := by
  unfold dlAdvance
  repeat' first
    | (simp only [anchor_mk, anchor_eta, ferryPacket_anchor, out_anchor]; done)
    | split

@[simp] theorem takeFloodId_anchor (s : State) : (takeFloodId s).2.anchor = s.anchor := by
  unfold takeFloodId
  repeat' first
    | with_reducible rfl
    | (simp only [anchor_mk, anchor_eta, anchor_ite, ite_self, implies_true, mirror_anchor]; done)

theorem takeFloodId_anchor_of {s : State} {o_ : Nat} {u_ : State} (h_ : takeFloodId s = (o_, u_)) : u_.anchor = s.anchor := by
  rw [← takeFloodId_anchor s, h_]

@[simp] theorem takeSequence_anchor (s : State) : (takeSequence s).2.anchor = s.anchor := by simp only [takeSequence, anchor_mk, anchor_eta]

theorem takeSequence_anchor_of {s : State} {o_ : Nat} {u_ : State} (h_ : takeSequence s = (o_, u_)) : u_.anchor = s.anchor := by
  rw [← takeSequence_anchor s, h_]

@[simp] theorem ownFlood_anchor (dsn : Option Nat) (pan : BitVec 16) (ttl len : Nat) (s : State) : (ownFlood dsn pan ttl len s).anchor = s.anchor := by simp only [ownFlood, anchor_mk, anchor_eta, queueFlood_anchor, seenInsert_anchor, takeFloodId_anchor, takeSequence_anchor]

@[simp] theorem dlCommitted_anchor (d : Nat) (s : State) : (dlCommitted d s).anchor = s.anchor := by
  unfold dlCommitted
  repeat' first
    | (simp only [anchor_mk, anchor_eta, dlAdvance_anchor, endItem_anchor, hit_anchor, modDl_anchor, ownFlood_anchor]; done)
    | split

@[simp] theorem dlAccept_anchor (it : DlItem) (s : State) : (dlAccept it s).anchor = s.anchor := by
  unfold dlAccept
  repeat' first
    | (simp only [anchor_mk, anchor_eta, bump_anchor, dlCommitted_anchor, mirror_anchor]; done)
    | split

@[simp] theorem dlDrain_anchor (n : Nat) (s : State) : (dlDrain n s).anchor = s.anchor := by
  induction n generalizing s with
  | zero => rw [dlDrain]
  | succ n ih =>
    rw [dlDrain]
    split
    · with_reducible rfl
    · split
      · with_reducible rfl
      · simp only [ih, dlAccept_anchor, anchor_mk, anchor_eta]

@[simp] theorem dlTaken_anchor (d : Nat) (s : State) : (dlTaken d s).anchor = s.anchor := by
  unfold dlTaken
  split <;> simp only [anchor_mk, anchor_eta, dlAdvance_anchor, dlDrain_anchor]

@[simp] theorem finish_anchor (d : Nat) (e : Ending) (s : State) : (finish d e s).anchor = s.anchor := by simp only [finish, anchor_mk, anchor_eta, dlTaken_anchor, endItem_anchor]

@[simp] theorem settleOwed_anchor (t : Time) (s : State) : (settleOwed t s).anchor = s.anchor := by
  unfold settleOwed
  repeat' first
    | with_reducible rfl
    | (simp only [anchor_mk, anchor_eta, anchor_ite, ite_self, implies_true, acceptEntry_anchor, voidEntry_anchor]; done)
    | simp only [anchor_mk, anchor_eta, anchor_ite, ite_self, implies_true, acceptEntry_anchor, voidEntry_anchor]
    | refine (anchor_foldl _ (fun _ _ => ?_) _ _).trans ?_

@[simp] theorem shadowCands_anchor (s : State) : (shadowCands s).anchor = s.anchor := by
  unfold shadowCands
  repeat' first
    | with_reducible rfl
    | (simp only [anchor_mk, anchor_eta, anchor_ite, ite_self, implies_true, unbook_anchor]; done)
    | simp only [anchor_mk, anchor_eta, anchor_ite, ite_self, implies_true, unbook_anchor]
    | refine (anchor_foldl _ (fun _ _ => ?_) _ _).trans ?_
    | refine anchor_elim _ _ _ _ ?_ (fun _ => ?_)
    | split

@[simp] theorem releaseToken_anchor (why : ReleaseBy) (s : State) : (releaseToken why s).anchor = s.anchor := by
  unfold releaseToken
  repeat' first
    | (simp only [anchor_mk, anchor_eta, cutAll_anchor, out_anchor, settleOwed_anchor, shadowCands_anchor]; done)
    | split

end Sys2Proof.Machine
end

