-- ==== Sys2Proof/Laws/AnchorReports.lean ====
section
/-! SUPPORT. The operations of Machine/Reports.lean that leave the memory, the fuses and the queue alone, one lemma each. -/

set_option linter.unusedSimpArgs false
set_option linter.unusedTactic false

namespace Sys2Proof.Machine
open Sys2Proof Host

@[simp] theorem setClamp_anchor (s : State) (n : Nat) (c : Clamp) : (State.setClamp s n c).anchor = s.anchor := by simp only [State.setClamp, anchor_mk, anchor_eta]

@[simp] theorem askClamp_anchor (act n : Nat) (s : State) : (askClamp act n s).2.anchor = s.anchor := by
  unfold askClamp
  repeat' first
    | with_reducible rfl
    | (simp only [anchor_mk, anchor_eta, anchor_ite, ite_self, implies_true, bump_anchor, setClamp_anchor]; done)
    | simp only [anchor_mk, anchor_eta, anchor_ite, ite_self, implies_true, bump_anchor, setClamp_anchor]
    | refine (anchor_foldl _ (fun _ _ => ?_) _ _).trans ?_
    | refine anchor_elim _ _ _ _ ?_ (fun _ => ?_)
    | split

theorem askClamp_anchor_of {act : Nat} {n : Nat} {s : State} {o_ : Bool} {u_ : State} (h_ : askClamp act n s = (o_, u_)) : u_.anchor = s.anchor := by
  rw [← askClamp_anchor act n s, h_]

@[simp] theorem freeClampOf_anchor (act n : Nat) (s : State) : (freeClampOf act n s).anchor = s.anchor := by
  unfold freeClampOf
  repeat' first
    | with_reducible rfl
    | (simp only [anchor_mk, anchor_eta, anchor_ite, ite_self, implies_true, setClamp_anchor]; done)
    | simp only [anchor_mk, anchor_eta, anchor_ite, ite_self, implies_true, setClamp_anchor]
    | refine (anchor_foldl _ (fun _ _ => ?_) _ _).trans ?_
    | refine anchor_elim _ _ _ _ ?_ (fun _ => ?_)
    | split

@[simp] theorem latchFatal_anchor (c : FatalCause) (s : State) : (latchFatal c s).anchor = s.anchor := by
  unfold latchFatal
  split <;> simp only [anchor_mk, anchor_eta]

@[simp] theorem raiseFatal_anchor (c : FatalCause) (s : State) : (raiseFatal c s).anchor = s.anchor := by
  unfold raiseFatal
  repeat' first
    | (simp only [anchor_mk, anchor_eta, latchFatal_anchor, releaseToken_anchor]; done)
    | split

@[simp] theorem fatalBy_anchor (cause unit : Nat) (s : State) : (fatalBy cause unit s).anchor = s.anchor := by simp only [fatalBy, anchor_mk, anchor_eta, raiseFatal_anchor]

@[simp] theorem pushFrame_anchor (f : HFrame) (s : State) : (pushFrame f s).anchor = s.anchor := by simp only [pushFrame, anchor_mk, anchor_eta]

@[simp] theorem placeNew_anchor (f : HFrame) (s : State) : (placeNew f s).anchor = s.anchor := by
  unfold placeNew
  repeat' first
    | (simp only [anchor_mk, anchor_eta, bump_anchor, fatalBy_anchor, pushFrame_anchor]; done)
    | split

@[simp] theorem placeFrame_anchor (unit code rank arg : Nat) (s : State) : (placeFrame unit code rank arg s).anchor = s.anchor := by
  unfold placeFrame
  repeat' first
    | with_reducible rfl
    | (simp only [anchor_mk, anchor_eta, anchor_ite, ite_self, implies_true, bump_anchor, placeNew_anchor]; done)
    | simp only [anchor_mk, anchor_eta, anchor_ite, ite_self, implies_true, bump_anchor, placeNew_anchor]
    | refine (anchor_foldl _ (fun _ _ => ?_) _ _).trans ?_
    | refine anchor_elim _ _ _ _ ?_ (fun _ => ?_)
    | split

@[simp] theorem errRecord_anchor (kind unit code cls rank cnt a0 a1 : Nat) (s : State) : (errRecord kind unit code cls rank cnt a0 a1 s).anchor = s.anchor := by simp only [errRecord, anchor_mk, anchor_eta, evrPush_anchor]

@[simp] theorem report_anchor (r : Report) (s : State) : (report r s).anchor = s.anchor := by
  unfold report
  repeat' first
    | with_reducible rfl
    | (simp only [anchor_mk, anchor_eta, anchor_ite, ite_self, implies_true, bump_anchor, errRecord_anchor, placeFrame_anchor]; done)
    | simp only [anchor_mk, anchor_eta, anchor_ite, ite_self, implies_true, bump_anchor, errRecord_anchor, placeFrame_anchor]
    | refine (anchor_foldl _ (fun _ _ => ?_) _ _).trans ?_
    | refine anchor_elim _ _ _ _ ?_ (fun _ => ?_)
    | split

@[simp] theorem degraded_anchor (block inst code rank : Nat) (s : State) : (degraded block inst code rank s).anchor = s.anchor := by simp only [degraded, anchor_mk, anchor_eta, report_anchor]

@[simp] theorem degradedArg_anchor (block inst code arg : Nat) (s : State) : (degradedArg block inst code arg s).anchor = s.anchor := by simp only [degradedArg, anchor_mk, anchor_eta, report_anchor]

@[simp] theorem droppedArg_anchor (block inst code rank arg : Nat) (s : State) : (droppedArg block inst code rank arg s).anchor = s.anchor := by simp only [droppedArg, anchor_mk, anchor_eta, report_anchor]

@[simp] theorem dropped_anchor (block inst code rank : Nat) (s : State) : (dropped block inst code rank s).anchor = s.anchor := by simp only [dropped, anchor_mk, anchor_eta, droppedArg_anchor]

@[simp] theorem jigUnclamp_anchor (kind inst : Nat) (s : State) : (jigUnclamp kind inst s).anchor = s.anchor := by
  unfold jigUnclamp
  split <;> simp only [anchor_mk, anchor_eta, freeClampOf_anchor]

@[simp] theorem jigRecord_anchor (kind inst v : Nat) (s : State) : (jigRecord kind inst v s).anchor = s.anchor := by
  unfold jigRecord
  split <;> simp only [anchor_mk, anchor_eta, bump_anchor, errRecord_anchor]

@[simp] theorem jigFinish_anchor (s : State) : (jigFinish s).anchor = s.anchor := by
  unfold jigFinish
  repeat' first
    | (simp only [anchor_mk, anchor_eta, endItem_anchor, jigUnclamp_anchor]; done)
    | split

@[simp] theorem jigPreempted_anchor (lost : Bool) (s : State) : (jigPreempted lost s).anchor = s.anchor := by
  unfold jigPreempted
  repeat' first
    | (simp only [anchor_mk, anchor_eta, bump_anchor, jigFinish_anchor, jigRecord_anchor]; done)
    | split

@[simp] theorem jigYield_anchor (s : State) : (jigYield s).anchor = s.anchor := by simp only [jigYield, anchor_mk, anchor_eta, jigPreempted_anchor]

end Sys2Proof.Machine
end

