-- ==== Sys2Proof/Laws/AnchorQuayOps.lean ====
section
/-! SUPPORT. The operations of Machine/QuayOps.lean that leave the memory, the fuses and the queue alone, one lemma each. -/

set_option linter.unusedSimpArgs false
set_option linter.unusedTactic false

namespace Sys2Proof.Machine
open Sys2Proof Host

@[simp] theorem setQuay_anchor (q : Nat) (k : Quay) (s : State) : (setQuay q k s).anchor = s.anchor := by simp only [setQuay, anchor_mk, anchor_eta]

@[simp] theorem protocolErr_anchor (q : Nat) (s : State) : (protocolErr q s).anchor = s.anchor := by simp only [protocolErr, anchor_mk, anchor_eta, bump_anchor, dropped_anchor, setQuay_anchor]

@[simp] theorem claimQuay_anchor (q n : Nat) (s : State) : (claimQuay q n s).2.anchor = s.anchor := by
  unfold claimQuay
  repeat' first
    | with_reducible rfl
    | (simp only [anchor_mk, anchor_eta, anchor_ite, ite_self, implies_true, bump_anchor, protocolErr_anchor, setQuay_anchor]; done)
    | simp only [anchor_mk, anchor_eta, anchor_ite, ite_self, implies_true, bump_anchor, protocolErr_anchor, setQuay_anchor]
    | refine (anchor_foldl _ (fun _ _ => ?_) _ _).trans ?_
    | refine anchor_elim _ _ _ _ ?_ (fun _ => ?_)
    | split

theorem claimQuay_anchor_of {q : Nat} {n : Nat} {s : State} {o_ : Bool} {u_ : State} (h_ : claimQuay q n s = (o_, u_)) : u_.anchor = s.anchor := by
  rw [← claimQuay_anchor q n s, h_]

@[simp] theorem putWord_anchor (q : Nat) (w : Word) (n : Nat) (parityGood last : Bool) (s : State) : (putWord q w n parityGood last s).anchor = s.anchor := by
  unfold putWord
  repeat' first
    | with_reducible rfl
    | (simp only [anchor_mk, anchor_eta, anchor_ite, ite_self, implies_true, bump_anchor, protocolErr_anchor, setQuay_anchor]; done)

@[simp] theorem putWords_anchor (q : Nat) (l : List Word) (n : Nat) (s : State) : (putWords q l n s).anchor = s.anchor := by
  induction l generalizing s with
  | nil => rw [putWords]
  | cons w r ih =>
    cases r with
    | nil => rw [putWords, putWord_anchor]
    | cons w2 r => rw [putWords, ih, putWord_anchor]; exact fun h => by cases h

@[simp] theorem hardwareItem_anchor (q : Nat) (ws : List Word) (n : Nat) (s : State) : (hardwareItem q ws n s).2.anchor = s.anchor := by
  unfold hardwareItem
  repeat' first
    | with_reducible rfl
    | (simp only [anchor_mk, anchor_eta, anchor_ite, ite_self, implies_true, bump_anchor, claimQuay_anchor, putWords_anchor]; done)
    | simp only [anchor_mk, anchor_eta, anchor_ite, ite_self, implies_true, bump_anchor, claimQuay_anchor, putWords_anchor]
    | refine (anchor_foldl _ (fun _ _ => ?_) _ _).trans ?_
    | refine anchor_elim _ _ _ _ ?_ (fun _ => ?_)
    | split
    | refine (claimQuay_anchor_of (by assumption)).trans ?_

theorem hardwareItem_anchor_of {q : Nat} {ws : List Word} {n : Nat} {s : State} {o_ : Bool} {u_ : State} (h_ : hardwareItem q ws n s = (o_, u_)) : u_.anchor = s.anchor := by
  rw [← hardwareItem_anchor q ws n s, h_]

@[simp] theorem beginItem_anchor (q : Nat) (i : QItem) (s : State) : (beginItem q i s).anchor = s.anchor := by
  unfold beginItem
  split <;> simp only [anchor_mk, anchor_eta, bump_anchor]

@[simp] theorem hardwareTake_anchor (q : Nat) (s : State) : (hardwareTake q s).2.anchor = s.anchor := by
  unfold hardwareTake
  repeat' first
    | (simp only [anchor_mk, anchor_eta, beginItem_anchor, setQuay_anchor]; done)
    | split

theorem hardwareTake_anchor_of {q : Nat} {s : State} {o_ : Option (List Word)} {u_ : State} (h_ : hardwareTake q s = (o_, u_)) : u_.anchor = s.anchor := by
  rw [← hardwareTake_anchor q s, h_]

end Sys2Proof.Machine
end

