-- ==== Sys2Proof/Laws/AnchorHeads.lean ====
section
/-! SUPPORT. The operations of Machine/Heads.lean that leave the memory, the fuses and the queue alone, one lemma each. -/

set_option linter.unusedSimpArgs false
set_option linter.unusedTactic false

namespace Sys2Proof.Machine
open Sys2Proof Host

@[simp] theorem calFreeze_anchor (h : Nat) (s : State) : (calFreeze h s).anchor = s.anchor := by simp only [calFreeze, anchor_mk, anchor_eta, modCal_anchor]

@[simp] theorem calSwitched_anchor (h g : Nat) (s : State) : (calSwitched h g s).anchor = s.anchor := by simp only [calSwitched, anchor_mk, anchor_eta, bump_anchor, modCal_anchor]

@[simp] theorem relatch_anchor (s : State) : (relatch s).anchor = s.anchor := by simp only [relatch, anchor_mk, anchor_eta]

@[simp] theorem calTxSwitch_anchor (h : Nat) (s : State) : (calTxSwitch h s).anchor = s.anchor := by simp only [calTxSwitch, anchor_mk, anchor_eta, bump_anchor, modCal_anchor, relatch_anchor]

@[simp] theorem calPortUp_anchor (h : Nat) (up down : Int) (fr : Nat) (s : State) : (calPortUp h up down fr s).anchor = s.anchor := by
  unfold calPortUp
  repeat' first
    | with_reducible rfl
    | (simp only [anchor_mk, anchor_eta, anchor_ite, ite_self, implies_true, calTxSwitch_anchor, modCal_anchor]; done)

@[simp] theorem retireIdle_anchor (s : State) : (retireIdle s).anchor = s.anchor := by simp only [retireIdle, anchor_mk, anchor_eta]

theorem claimUnits_anchor {c : GenChange} {s u : State} (h : claimUnits c s = some u) : u.anchor = s.anchor := by
  unfold claimUnits at h
  dsimp only at h
  split at h
  · rw [← Option.some.inj h]
    simp only [anchor_mk, anchor_eta]
    exact anchor_foldl _ (fun _ _ => by simp only [setUnit_anchor]) _ _
  · exact absurd h (by simp)

@[simp] theorem chnServeList_anchor (s : State) (l : List GenChange) : (chnServeList s l).anchor = s.anchor := by
  induction l generalizing s with
  | nil => rw [chnServeList]
  | cons c r ih =>
    rw [chnServeList]
    split
    · exact ih s
    · split
      · next h => rw [ih, claimUnits_anchor h]
      · with_reducible rfl

@[simp] theorem chnServe_anchor (s : State) : (chnServe s).anchor = s.anchor := by simp only [chnServe, anchor_mk, anchor_eta, chnServeList_anchor, retireIdle_anchor]

@[simp] theorem streamGone_anchor (st : Nat) (s : State) : (streamGone st s).anchor = s.anchor := by
  unfold streamGone
  repeat' first
    | (simp only [anchor_mk, anchor_eta, bump_anchor, chnServe_anchor]; done)
    | split

@[simp] theorem takeUnit_anchor (x : UnitUse) (s : State) : (takeUnit x s).anchor = s.anchor := by
  unfold takeUnit
  split <;> simp only [anchor_mk, anchor_eta, setUnit_anchor]

@[simp] theorem streamBack_anchor (st : Nat) (s : State) : (streamBack st s).anchor = s.anchor := by
  unfold streamBack
  repeat' first
    | with_reducible rfl
    | (simp only [anchor_mk, anchor_eta, anchor_ite, ite_self, implies_true, takeUnit_anchor]; done)
    | simp only [anchor_mk, anchor_eta, anchor_ite, ite_self, implies_true, takeUnit_anchor]
    | refine (anchor_foldl _ (fun _ _ => ?_) _ _).trans ?_
    | refine anchor_elim _ _ _ _ ?_ (fun _ => ?_)
    | split

@[simp] theorem refreshStreams_anchor (h : Nat) (s : State) : (refreshStreams h s).anchor = s.anchor := by
  unfold refreshStreams
  repeat' first
    | with_reducible rfl
    | (simp only [anchor_mk, anchor_eta, anchor_ite, ite_self, implies_true, streamBack_anchor, streamGone_anchor]; done)
    | simp only [anchor_mk, anchor_eta, anchor_ite, ite_self, implies_true, streamBack_anchor, streamGone_anchor]
    | refine (anchor_foldl _ (fun _ _ => ?_) _ _).trans ?_

@[simp] theorem lateMerge_anchor (seq : Nat) (fam : Bool) (s : State) : (lateMerge seq fam s).anchor = s.anchor := by simp only [lateMerge, anchor_mk, anchor_eta]

@[simp] theorem mirrorBook_anchor (g : Nat) (a : AckTmpl) (s : State) : (mirrorBook g a s).anchor = s.anchor := by
  unfold mirrorBook
  split <;> simp only [anchor_mk, anchor_eta, mirror_anchor]

@[simp] theorem rebookAck_anchor (g : Nat) (s : State) : (rebookAck g s).anchor = s.anchor := by
  unfold rebookAck
  repeat' first
    | with_reducible rfl
    | (simp only [anchor_mk, anchor_eta, anchor_ite, ite_self, implies_true, bookAckAmong_anchor, mirrorBook_anchor, unbook_anchor, voidEntry_anchor]; done)
    | simp only [anchor_mk, anchor_eta, anchor_ite, ite_self, implies_true, bookAckAmong_anchor, mirrorBook_anchor, unbook_anchor, voidEntry_anchor]
    | refine (anchor_foldl _ (fun _ _ => ?_) _ _).trans ?_
    | refine anchor_elim _ _ _ _ ?_ (fun _ => ?_)
    | split
    | refine (bookAckAmong_anchor_of (by assumption)).trans ?_

@[simp] theorem portLeftUp_anchor (h : Nat) (s : State) : (portLeftUp h s).anchor = s.anchor := by
  unfold portLeftUp
  repeat' first
    | with_reducible rfl
    | (simp only [anchor_mk, anchor_eta, anchor_ite, ite_self, implies_true, deferTx_anchor, rebookAck_anchor, refreshStreams_anchor]; done)
    | simp only [anchor_mk, anchor_eta, anchor_ite, ite_self, implies_true, deferTx_anchor, rebookAck_anchor, refreshStreams_anchor]
    | refine (anchor_foldl _ (fun _ _ => ?_) _ _).trans ?_

@[simp] theorem calAbandon_anchor (h : Nat) (s : State) : (calAbandon h s).anchor = s.anchor := by
  unfold calAbandon
  repeat' first
    | with_reducible rfl
    | (simp only [anchor_mk, anchor_eta, anchor_ite, ite_self, implies_true, chnServe_anchor, modCal_anchor]; done)
    | simp only [anchor_mk, anchor_eta, anchor_ite, ite_self, implies_true, chnServe_anchor, modCal_anchor]
    | refine (anchor_foldl _ (fun _ _ => ?_) _ _).trans ?_
    | refine anchor_elim _ _ _ _ ?_ (fun _ => ?_)
    | split

@[simp] theorem candidateClose_anchor (g : Nat) (s : State) : (candidateClose g s).anchor = s.anchor := by simp only [candidateClose, anchor_mk, anchor_eta, dropAck_anchor, groupSettle_anchor, newcomerGone_anchor]

@[simp] theorem endP7_anchor (s : State) : (endP7 s).anchor = s.anchor := by
  unfold endP7
  repeat' first
    | (simp only [anchor_mk, anchor_eta]; done)
    | split

@[simp] theorem p7Check_anchor (s : State) : (p7Check s).anchor = s.anchor := by
  unfold p7Check
  split <;> simp only [anchor_mk, anchor_eta, endP7_anchor]

end Sys2Proof.Machine
end

