-- ==== Sys2Proof/Laws/AnchorStraits.lean ====
section
/-! SUPPORT. The operations of Machine/Straits.lean that leave the memory, the fuses and the queue alone, one lemma each. -/

set_option linter.unusedSimpArgs false
set_option linter.unusedTactic false

namespace Sys2Proof.Machine
open Sys2Proof Host

@[simp] theorem dropCtx_anchor (g : Nat) (s : State) : (dropCtx g s).anchor = s.anchor := by
  unfold dropCtx
  repeat' first
    | (simp only [anchor_mk, anchor_eta]; done)
    | split

@[simp] theorem refuseCand_anchor (g : Nat) (s0 : State) : (refuseCand g s0).anchor = s0.anchor := by
  unfold refuseCand
  repeat' first
    | with_reducible rfl
    | (simp only [anchor_mk, anchor_eta, anchor_ite, ite_self, implies_true, candidateClose_anchor, dropCtx_anchor, voidEntry_anchor]; done)
    | simp only [anchor_mk, anchor_eta, anchor_ite, ite_self, implies_true, candidateClose_anchor, dropCtx_anchor, voidEntry_anchor]
    | refine (anchor_foldl _ (fun _ _ => ?_) _ _).trans ?_
    | refine anchor_elim _ _ _ _ ?_ (fun _ => ?_)
    | split

@[simp] theorem straitHold_anchor (k i : Nat) (g : Option Nat) (c : Instr) (s : State) : (straitHold k i g c s).anchor = s.anchor := by
  unfold straitHold
  repeat' first
    | with_reducible rfl
    | (simp only [anchor_mk, anchor_eta, anchor_ite, ite_self, implies_true, bump_anchor, refuseCand_anchor]; done)
    | simp only [anchor_mk, anchor_eta, anchor_ite, ite_self, implies_true, bump_anchor, refuseCand_anchor]
    | refine (anchor_foldl _ (fun _ _ => ?_) _ _).trans ?_
    | refine anchor_elim _ _ _ _ ?_ (fun _ => ?_)
    | split

end Sys2Proof.Machine
end

