-- ==== Sys2Proof/Laws/AnchorSupported.lean ====
section
/-! SUPPORT. The operations of Machine/Supported.lean that leave the memory, the fuses and the queue alone, one lemma each. -/

set_option linter.unusedSimpArgs false
set_option linter.unusedTactic false

namespace Sys2Proof.Machine
open Sys2Proof Host

@[simp] theorem setIrq_anchor (n : Nat) (on : Bool) (s : State) : (setIrq n on s).anchor = s.anchor := by simp only [setIrq, anchor_mk, anchor_eta]

@[simp] theorem refreshOne_anchor (n : Nat) (s : State) : (refreshOne n s).anchor = s.anchor := by
  unfold refreshOne
  repeat' first
    | with_reducible rfl
    | (simp only [anchor_mk, anchor_eta, anchor_ite, ite_self, implies_true, setIrq_anchor]; done)

@[simp] theorem refreshCfg_anchor (n : Nat) (s : State) : (refreshCfg n s).anchor = s.anchor := by
  unfold refreshCfg
  repeat' first
    | with_reducible rfl
    | (simp only [anchor_mk, anchor_eta, anchor_ite, ite_self, implies_true, refreshOne_anchor]; done)
    | simp only [anchor_mk, anchor_eta, anchor_ite, ite_self, implies_true, refreshOne_anchor]
    | refine (anchor_foldl _ (fun _ _ => ?_) _ _).trans ?_

end Sys2Proof.Machine
end

