-- ==== Sys2Proof/Laws/AnchorFronthaul.lean ====
section
/-! SUPPORT. The operations of Machine/Fronthaul.lean that leave the memory, the fuses and the queue alone, one lemma each. -/

set_option linter.unusedSimpArgs false
set_option linter.unusedTactic false

namespace Sys2Proof.Machine
open Sys2Proof Host

@[simp] theorem fhTo_anchor (p : Nat) (st : FhState) (s : State) : (fhTo p st s).anchor = s.anchor := by simp only [fhTo, anchor_mk, anchor_eta, modPort_anchor]

@[simp] theorem fhExit_anchor (p : Nat) (f : State → State) (s : State) (h : ∀ s, (f s).anchor = s.anchor) :
    (fhExit p f s).anchor = s.anchor := by
  unfold fhExit
  simp only [h, anchor_ite, bump_anchor, portLeftUp_anchor, ite_self]

@[simp] theorem fhFault_anchor (p cause : Nat) (s : State) : (fhFault p cause s).anchor = s.anchor := by
  unfold fhFault
  repeat' first
    | with_reducible rfl
    | (simp only [anchor_mk, anchor_eta, anchor_ite, ite_self, implies_true, fhExit_anchor, modPort_anchor]; done)

@[simp] theorem poolEnd_anchor (r : Remap) (s : State) : (poolEnd r s).anchor = s.anchor := by
  unfold poolEnd
  repeat' first
    | with_reducible rfl
    | (simp only [anchor_mk, anchor_eta, anchor_ite, ite_self, implies_true, bumpBy_anchor, finish_anchor, refreshCfg_anchor, refreshStreams_anchor, setEntry_anchor]; done)
    | simp only [anchor_mk, anchor_eta, anchor_ite, ite_self, implies_true, bumpBy_anchor, finish_anchor, refreshCfg_anchor, refreshStreams_anchor, setEntry_anchor]
    | refine (anchor_foldl _ (fun _ _ => ?_) _ _).trans ?_
    | refine anchor_elim _ _ _ _ ?_ (fun _ => ?_)
    | refine anchor_map_getD _ _ _ _ ?_ (fun _ => ?_)
    | split

@[simp] theorem poolBegin_anchor (r : Remap) (s : State) : (poolBegin r s).2.anchor = s.anchor := by simp only [poolBegin, anchor_mk, anchor_eta, setEntry_anchor, streamGone_anchor]

theorem poolBegin_anchor_of {r : Remap} {s : State} {o_ : Remap} {u_ : State} (h_ : poolBegin r s = (o_, u_)) : u_.anchor = s.anchor := by
  rw [← poolBegin_anchor r s, h_]

@[simp] theorem poolGo_anchor (l : List Remap) (s : State) : (poolGo l s).anchor = s.anchor := by
  induction l generalizing s with
  | nil => simp only [poolGo, anchor_mk, anchor_eta]
  | cons r rest ih =>
    simp only [poolGo]
    split
    · simp only [ih, poolEnd_anchor, anchor_mk, anchor_eta, poolBegin_anchor]
    · simp only [anchor_mk, anchor_eta, poolBegin_anchor]

@[simp] theorem poolUnwait_anchor (p : Nat) (s : State) : (poolUnwait p s).anchor = s.anchor := by
  unfold poolUnwait
  repeat' first
    | with_reducible rfl
    | (simp only [anchor_mk, anchor_eta, anchor_ite, ite_self, implies_true, poolEnd_anchor, poolGo_anchor]; done)
    | simp only [anchor_mk, anchor_eta, anchor_ite, ite_self, implies_true, poolEnd_anchor, poolGo_anchor]
    | refine (anchor_foldl _ (fun _ _ => ?_) _ _).trans ?_
    | refine anchor_elim _ _ _ _ ?_ (fun _ => ?_)
    | refine anchor_map_getD _ _ _ _ ?_ (fun _ => ?_)
    | split

@[simp] theorem poolSent_anchor (p n sf : Nat) (s : State) : (poolSent p n sf s).anchor = s.anchor := by
  unfold poolSent
  split <;> simp only [anchor_mk, anchor_eta]

@[simp] theorem poolLo_anchor (p : Nat) (s : State) : (poolLo p s).anchor = s.anchor := by
  unfold poolLo
  split <;> simp only [anchor_mk, anchor_eta]

@[simp] theorem fhDown_anchor (p : Nat) (s : State) : (fhDown p s).anchor = s.anchor := by
  unfold fhDown
  repeat' first
    | with_reducible rfl
    | (simp only [anchor_mk, anchor_eta, anchor_ite, ite_self, implies_true, calAbandon_anchor, fhExit_anchor, freeClampOf_anchor, modPort_anchor, poolUnwait_anchor]; done)

@[simp] theorem fhLeaveUp_anchor (p : Nat) (s : State) : (fhLeaveUp p s).anchor = s.anchor := by
  unfold fhLeaveUp
  repeat' first
    | with_reducible rfl
    | (simp only [anchor_mk, anchor_eta, anchor_ite, ite_self, implies_true, fhExit_anchor, fhTo_anchor, modPort_anchor]; done)

@[simp] theorem fhMail_anchor (p op address : Nat) (words : List Word) (s : State) : (fhMail p op address words s).anchor = s.anchor := by simp only [fhMail, anchor_mk, anchor_eta, modPort_anchor]

@[simp] theorem fhBeginTime_anchor (p : Nat) (s : State) : (fhBeginTime p s).anchor = s.anchor := by
  unfold fhBeginTime
  repeat' first
    | with_reducible rfl
    | (simp only [anchor_mk, anchor_eta, anchor_ite, ite_self, implies_true, fhMail_anchor, fhTo_anchor, modPort_anchor]; done)

@[simp] theorem fhBeginMap_anchor (p : Nat) (s : State) : (fhBeginMap p s).anchor = s.anchor := by simp only [fhBeginMap, anchor_mk, anchor_eta, fhMail_anchor, fhTo_anchor, modPort_anchor]

@[simp] theorem fhNextTodo_anchor (p : Nat) (s : State) : (fhNextTodo p s).anchor = s.anchor := by
  unfold fhNextTodo
  split <;> simp only [anchor_mk, anchor_eta, fhMail_anchor, modPort_anchor]

@[simp] theorem fhEnterUp_anchor (p : Nat) (s : State) : (fhEnterUp p s).anchor = s.anchor := by
  unfold fhEnterUp
  repeat' first
    | with_reducible rfl
    | (simp only [anchor_mk, anchor_eta, anchor_ite, ite_self, implies_true, calPortUp_anchor, fhTo_anchor, modPort_anchor, p7Check_anchor, refreshStreams_anchor]; done)

@[simp] theorem fhEchoCheck_anchor (p : Nat) (s : State) : (fhEchoCheck p s).anchor = s.anchor := by
  unfold fhEchoCheck
  repeat' first
    | with_reducible rfl
    | (simp only [anchor_mk, anchor_eta, anchor_ite, ite_self, implies_true, fhEnterUp_anchor, fhFault_anchor, modPort_anchor, poolUnwait_anchor]; done)
    | simp only [anchor_mk, anchor_eta, anchor_ite, ite_self, implies_true, fhEnterUp_anchor, fhFault_anchor, modPort_anchor, poolUnwait_anchor]
    | refine (anchor_foldl _ (fun _ _ => ?_) _ _).trans ?_
    | refine anchor_elim _ _ _ _ ?_ (fun _ => ?_)
    | refine anchor_map_getD _ _ _ _ ?_ (fun _ => ?_)
    | split

@[simp] theorem blockLost_anchor (p : Nat) (s : State) : (blockLost p s).anchor = s.anchor := by
  unfold blockLost
  split <;> simp only [anchor_mk, anchor_eta, fhLeaveUp_anchor, modPort_anchor]

@[simp] theorem hdrTake_anchor (p : Nat) (h : BitVec 2) (s : State) : (hdrTake p h s).anchor = s.anchor := by
  unfold hdrTake
  repeat' first
    | with_reducible rfl
    | (simp only [anchor_mk, anchor_eta, anchor_ite, ite_self, implies_true, blockLost_anchor, fhTo_anchor, freeClampOf_anchor, setPort_anchor]; done)

@[simp] theorem fhTakeFields_anchor (p : Nat) (w : BitVec 64) (s : State) : (fhTakeFields p w s).anchor = s.anchor := by
  unfold fhTakeFields
  repeat' first
    | with_reducible rfl
    | (simp only [anchor_mk, anchor_eta, anchor_ite, ite_self, implies_true, bump_anchor, fhEchoCheck_anchor, modPort_anchor, poolLo_anchor]; done)
    | simp only [anchor_mk, anchor_eta, anchor_ite, ite_self, implies_true, bump_anchor, fhEchoCheck_anchor, modPort_anchor, poolLo_anchor]
    | refine (anchor_foldl _ (fun _ _ => ?_) _ _).trans ?_
    | refine anchor_elim _ _ _ _ ?_ (fun _ => ?_)
    | refine anchor_map_getD _ _ _ _ ?_ (fun _ => ?_)
    | split

@[simp] theorem fhMeasure_anchor (p : Nat) (rxTime : Time) (s : State) : (fhMeasure p rxTime s).anchor = s.anchor := by
  unfold fhMeasure
  repeat' first
    | with_reducible rfl
    | (simp only [anchor_mk, anchor_eta, anchor_ite, ite_self, implies_true, bump_anchor, fhBeginTime_anchor, fhFault_anchor, modPort_anchor]; done)
    | simp only [anchor_mk, anchor_eta, anchor_ite, ite_self, implies_true, bump_anchor, fhBeginTime_anchor, fhFault_anchor, modPort_anchor]
    | refine (anchor_foldl _ (fun _ _ => ?_) _ _).trans ?_
    | refine anchor_elim _ _ _ _ ?_ (fun _ => ?_)
    | refine anchor_map_getD _ _ _ _ ?_ (fun _ => ?_)
    | split

@[simp] theorem fhCheck_anchor (p : Nat) (s : State) : (fhCheck p s).2.anchor = s.anchor := by simp only [fhCheck, anchor_mk, anchor_eta, bumpBy_anchor, modPort_anchor]

theorem fhCheck_anchor_of {p : Nat} {s : State} {o_ : FrameCheck} {u_ : State} (h_ : fhCheck p s = (o_, u_)) : u_.anchor = s.anchor := by
  rw [← fhCheck_anchor p s, h_]

@[simp] theorem fhSamples_anchor (p : Nat) (c : FrameCheck) (s : State) : (fhSamples p c s).anchor = s.anchor := by
  unfold fhSamples
  repeat' first
    | (simp only [anchor_mk, anchor_eta, modPort_anchor, refreshStreams_anchor]; done)
    | split

@[simp] theorem fhSend_anchor (p : Nat) (blocks : List Block) (s : State) : (fhSend p blocks s).anchor = s.anchor := by
  unfold fhSend
  split <;> simp only [anchor_mk, anchor_eta, out_anchor]

@[simp] theorem fhReply_anchor (p : Nat) (c : MbxCmd) (ok : Bool) (v : Word) (s : State) : (fhReply p c ok v s).anchor = s.anchor := by
  unfold fhReply
  repeat' first
    | (simp only [anchor_mk, anchor_eta, fhFault_anchor, fhMail_anchor, fhNextTodo_anchor, modPort_anchor]; done)
    | split

@[simp] theorem fhLoop_anchor (p : Nat) (loop : BitVec 2) (s : State) : (fhLoop p loop s).anchor = s.anchor := by
  unfold fhLoop
  repeat' first
    | with_reducible rfl
    | (simp only [anchor_mk, anchor_eta, anchor_ite, ite_self, implies_true, bump_anchor, fhDown_anchor, fhExit_anchor, fhTo_anchor, modPort_anchor, setFldAt_anchor]; done)

@[simp] theorem anaLoop_anchor (p : Nat) (loop : BitVec 2) (s : State) : (anaLoop p loop s).anchor = s.anchor := by
  unfold anaLoop
  repeat' first
    | (simp only [anchor_mk, anchor_eta, bump_anchor, portLeftUp_anchor, refreshStreams_anchor, setFldAt_anchor]; done)
    | split

end Sys2Proof.Machine
end

