-- ==== Sys2Proof/Laws/AnchorLanes.lean ====
section
/-! SUPPORT. The operations of Machine/Lanes.lean that leave the memory, the fuses and the queue alone, one lemma each. -/

set_option linter.unusedSimpArgs false
set_option linter.unusedTactic false

namespace Sys2Proof.Machine
open Sys2Proof Host

@[simp] theorem foundGroup_anchor (l : Nat) (s : State) : (foundGroup l s).anchor = s.anchor := by
  unfold foundGroup
  split <;> simp only [anchor_mk, anchor_eta, bump_anchor, modLane_anchor, setLane_anchor]

@[simp] theorem frameEnd_anchor (g : Nat) (ok : Bool) (s : State) : (frameEnd g ok s).anchor = s.anchor := by
  unfold frameEnd
  repeat' first
    | with_reducible rfl
    | (simp only [anchor_mk, anchor_eta, anchor_ite, ite_self, implies_true, bump_anchor, candidateClose_anchor, modGroup_anchor, out_anchor]; done)

@[simp] theorem groupFinish_anchor (g : Nat) (ok : Bool) (s : State) : (groupFinish g ok s).anchor = s.anchor := by
  unfold groupFinish
  split <;> simp only [anchor_mk, anchor_eta, bump_anchor, frameEnd_anchor]

@[simp] theorem groupEmpty_anchor (g : Nat) (s : State) : (groupEmpty g s).anchor = s.anchor := by
  unfold groupEmpty
  repeat' first
    | (simp only [anchor_mk, anchor_eta, frameEnd_anchor, groupFinish_anchor, groupSettle_anchor]; done)
    | split

@[simp] theorem leaveGroup_anchor (l : Nat) (s : State) : (leaveGroup l s).anchor = s.anchor := by simp only [leaveGroup, anchor_mk, anchor_eta, modGroup_anchor]

@[simp] theorem ctxRelease_anchor (k : Nat) (s : State) : (ctxRelease k s).anchor = s.anchor := by
  unfold ctxRelease
  split <;> simp only [anchor_mk, anchor_eta, modLane_anchor]

@[simp] theorem ctxDrop_anchor (l : Nat) (s : State) : (ctxDrop l s).anchor = s.anchor := by
  unfold ctxDrop
  split <;> simp only [anchor_mk, anchor_eta, ctxRelease_anchor]

@[simp] theorem laneFree_anchor (l : Nat) (s : State) : (laneFree l s).anchor = s.anchor := by simp only [laneFree, anchor_mk, anchor_eta, chnServe_anchor, retireIdle_anchor, setLane_anchor]

@[simp] theorem rerunDue_anchor (l : Nat) (s : State) : (rerunDue l s).anchor = s.anchor := by
  unfold rerunDue
  repeat' first
    | (simp only [anchor_mk, anchor_eta, bump_anchor, modLane_anchor]; done)
    | split

@[simp] theorem rerunNext_anchor (s : State) : (rerunNext s).anchor = s.anchor := by
  unfold rerunNext
  repeat' first
    | (simp only [anchor_mk, anchor_eta, modLane_anchor]; done)
    | split

@[simp] theorem ctxLearn_anchor (l : Nat) (ok : Bool) (s : State) : (ctxLearn l ok s).anchor = s.anchor := by simp only [ctxLearn, anchor_mk, anchor_eta]

@[simp] theorem collisionLost_anchor (l : Nat) (s : State) : (collisionLost l s).anchor = s.anchor := by simp only [collisionLost, anchor_mk, anchor_eta, bump_anchor, ctxDrop_anchor, ctxLearn_anchor, groupEmpty_anchor, laneFree_anchor, leaveGroup_anchor, rerunNext_anchor]

@[simp] theorem loseAll_anchor (n : Nat) (s : State) : (loseAll n s).anchor = s.anchor := by
  induction n generalizing s with
  | zero => rw [loseAll]
  | succ n ih =>
    rw [loseAll]
    split
    · with_reducible rfl
    · rw [ih, collisionLost_anchor]

@[simp] theorem strongerEnded_anchor (l : Nat) (ok : Bool) (s : State) : (strongerEnded l ok s).anchor = s.anchor := by
  unfold strongerEnded
  repeat' first
    | with_reducible rfl
    | (simp only [anchor_mk, anchor_eta, anchor_ite, ite_self, implies_true, ctxLearn_anchor, loseAll_anchor, rerunDue_anchor]; done)
    | simp only [anchor_mk, anchor_eta, anchor_ite, ite_self, implies_true, ctxLearn_anchor, loseAll_anchor, rerunDue_anchor]
    | refine (anchor_foldl _ (fun _ _ => ?_) _ _).trans ?_

@[simp] theorem laneLost_anchor (l : Nat) (s : State) : (laneLost l s).anchor = s.anchor := by simp only [laneLost, anchor_mk, anchor_eta, ctxDrop_anchor, groupEmpty_anchor, laneFree_anchor, leaveGroup_anchor, strongerEnded_anchor]

@[simp] theorem groupRules_anchor (l : Nat) (r : DetRecord) (s : State) : (groupRules l r s).anchor = s.anchor := by
  unfold groupRules
  repeat' first
    | with_reducible rfl
    | (simp only [anchor_mk, anchor_eta, anchor_ite, ite_self, implies_true, bump_anchor, foundGroup_anchor, laneLost_anchor, modLane_anchor, setLane_anchor]; done)
    | simp only [anchor_mk, anchor_eta, anchor_ite, ite_self, implies_true, bump_anchor, foundGroup_anchor, laneLost_anchor, modLane_anchor, setLane_anchor]
    | refine (anchor_foldl _ (fun _ _ => ?_) _ _).trans ?_
    | refine anchor_elim _ _ _ _ ?_ (fun _ => ?_)
    | refine anchor_map_getD _ _ _ _ ?_ (fun _ => ?_)
    | split

@[simp] theorem ctxYield_anchor (s : State) : (ctxYield s).anchor = s.anchor := by
  unfold ctxYield
  split <;> simp only [anchor_mk, anchor_eta, jigYield_anchor]

@[simp] theorem addStronger_anchor (w l : Nat) (overlap : Time) (s : State) : (addStronger w l overlap s).anchor = s.anchor := by
  unfold addStronger
  repeat' first
    | with_reducible rfl
    | (simp only [anchor_mk, anchor_eta, anchor_ite, ite_self, implies_true, bump_anchor, ctxYield_anchor, modLane_anchor]; done)
    | simp only [anchor_mk, anchor_eta, anchor_ite, ite_self, implies_true, bump_anchor, ctxYield_anchor, modLane_anchor]
    | refine (anchor_foldl _ (fun _ _ => ?_) _ _).trans ?_
    | refine anchor_elim _ _ _ _ ?_ (fun _ => ?_)
    | refine anchor_map_getD _ _ _ _ ?_ (fun _ => ?_)
    | split

@[simp] theorem captureRules_anchor (l : Nat) (r : DetRecord) (s : State) : (captureRules l r s).anchor = s.anchor := by
  unfold captureRules
  repeat' first
    | with_reducible rfl
    | (simp only [anchor_mk, anchor_eta, anchor_ite, ite_self, implies_true, addStronger_anchor]; done)
    | simp only [anchor_mk, anchor_eta, anchor_ite, ite_self, implies_true, addStronger_anchor]
    | refine (anchor_foldl _ (fun _ _ => ?_) _ _).trans ?_

@[simp] theorem laneStart_anchor (l : Nat) (r : DetRecord) (s : State) : (laneStart l r s).anchor = s.anchor := by
  unfold laneStart
  repeat' first
    | with_reducible rfl
    | (simp only [anchor_mk, anchor_eta, anchor_ite, ite_self, implies_true, captureRules_anchor, groupRules_anchor, setLane_anchor]; done)

@[simp] theorem syncEject_anchor (l : Nat) (s : State) : (syncEject l s).anchor = s.anchor := by
  unfold syncEject
  repeat' first
    | with_reducible rfl
    | (simp only [anchor_mk, anchor_eta, anchor_ite, ite_self, implies_true, bump_anchor, foundGroup_anchor, leaveGroup_anchor]; done)
    | simp only [anchor_mk, anchor_eta, anchor_ite, ite_self, implies_true, bump_anchor, foundGroup_anchor, leaveGroup_anchor]
    | refine (anchor_foldl _ (fun _ _ => ?_) _ _).trans ?_
    | refine anchor_elim _ _ _ _ ?_ (fun _ => ?_)
    | refine anchor_map_getD _ _ _ _ ?_ (fun _ => ?_)
    | split

@[simp] theorem groupPass_anchor (g : Nat) (keep : List Nat) (sm : Summary) (s : State) : (groupPass g keep sm s).anchor = s.anchor := by
  unfold groupPass
  repeat' first
    | with_reducible rfl
    | (simp only [anchor_mk, anchor_eta, anchor_ite, ite_self, implies_true, modGroup_anchor, modLane_anchor, out_anchor]; done)
    | simp only [anchor_mk, anchor_eta, anchor_ite, ite_self, implies_true, modGroup_anchor, modLane_anchor, out_anchor]
    | refine (anchor_foldl _ (fun _ _ => ?_) _ _).trans ?_

@[simp] theorem ejectMember_anchor (l : Nat) (s : State) : (ejectMember l s).anchor = s.anchor := by simp only [ejectMember, anchor_mk, anchor_eta, bump_anchor, foundGroup_anchor, leaveGroup_anchor]

@[simp] theorem groupDecoded_anchor (g : Nat) (s : State) : (groupDecoded g s).anchor = s.anchor := by
  unfold groupDecoded
  repeat' first
    | (simp only [anchor_mk, anchor_eta, groupFinish_anchor]; done)
    | split

@[simp] theorem memberEnded_anchor (l : Nat) (e : Time) (s : State) : (memberEnded l e s).anchor = s.anchor := by simp only [memberEnded, anchor_mk, anchor_eta, modGroup_anchor, modLane_anchor]

@[simp] theorem ctxStop_anchor (l : Nat) (s : State) : (ctxStop l s).anchor = s.anchor := by
  unfold ctxStop
  split <;> simp only [anchor_mk, anchor_eta]

@[simp] theorem rerunDecoded_anchor (g : Nat) (ok : Bool) (s : State) : (rerunDecoded g ok s).anchor = s.anchor := by
  unfold rerunDecoded
  repeat' first
    | with_reducible rfl
    | (simp only [anchor_mk, anchor_eta, anchor_ite, ite_self, implies_true, bump_anchor, collisionLost_anchor, ctxDrop_anchor, groupDecoded_anchor, loseAll_anchor, modGroup_anchor, modLane_anchor, strongerEnded_anchor]; done)
    | simp only [anchor_mk, anchor_eta, anchor_ite, ite_self, implies_true, bump_anchor, collisionLost_anchor, ctxDrop_anchor, groupDecoded_anchor, loseAll_anchor, modGroup_anchor, modLane_anchor, strongerEnded_anchor]
    | refine (anchor_foldl _ (fun _ _ => ?_) _ _).trans ?_
    | refine anchor_elim _ _ _ _ ?_ (fun _ => ?_)
    | refine anchor_map_getD _ _ _ _ ?_ (fun _ => ?_)
    | split

@[simp] theorem spillDrop_anchor (k : Nat) (s : State) : (spillDrop k s).anchor = s.anchor := by
  unfold spillDrop
  split <;> simp only [anchor_mk, anchor_eta, ctxRelease_anchor]

@[simp] theorem sendSnippet_anchor (l : Nat) (b : SnippetBody) (s : State) : (sendSnippet l b s).anchor = s.anchor := by
  unfold sendSnippet
  repeat' first
    | with_reducible rfl
    | (simp only [anchor_mk, anchor_eta, anchor_ite, ite_self, implies_true, bump_anchor, hardwareItem_anchor, out_anchor]; done)
    | simp only [anchor_mk, anchor_eta, anchor_ite, ite_self, implies_true, bump_anchor, hardwareItem_anchor, out_anchor]
    | refine (anchor_foldl _ (fun _ _ => ?_) _ _).trans ?_
    | refine anchor_elim _ _ _ _ ?_ (fun _ => ?_)
    | refine anchor_map_getD _ _ _ _ ?_ (fun _ => ?_)
    | split
    | refine (hardwareItem_anchor_of (by assumption)).trans ?_

end Sys2Proof.Machine
end

