-- ==== Sys2Proof/Laws/AnchorTransmit.lean ====
section
/-! SUPPORT. The operations of Machine/Transmit.lean that leave the memory, the fuses and the queue alone, one lemma each. -/

set_option linter.unusedSimpArgs false
set_option linter.unusedTactic false

namespace Sys2Proof.Machine
open Sys2Proof Host

@[simp] theorem noticesBegin_anchor (mine : List Notice) (s : State) : (noticesBegin mine s).anchor = s.anchor := by simp only [noticesBegin, anchor_mk, anchor_eta]

@[simp] theorem modFlood_anchor (id : Nat) (f : Flood → Flood) (s : State) : (modFlood id f s).anchor = s.anchor := by simp only [modFlood, anchor_mk, anchor_eta]

@[simp] theorem floodSettle_anchor (id : Nat) (s : State) : (floodSettle id s).anchor = s.anchor := by
  unfold floodSettle
  repeat' first
    | (simp only [anchor_mk, anchor_eta, endItem_anchor]; done)
    | split

@[simp] theorem repairTaken_anchor (c i : Nat) (s : State) : (repairTaken c i s).anchor = s.anchor := by simp only [repairTaken, anchor_mk, anchor_eta]

@[simp] theorem campRoundEnd_anchor (c : Nat) (s : State) : (campRoundEnd c s).anchor = s.anchor := by
  unfold campRoundEnd
  repeat' first
    | (simp only [anchor_mk, anchor_eta, occurs_anchor]; done)
    | split

@[simp] theorem beginUse_anchor (b : Booking) (s : State) : (beginUse b s).anchor = s.anchor := by
  unfold beginUse
  repeat' first
    | with_reducible rfl
    | (simp only [anchor_mk, anchor_eta, anchor_ite, ite_self, implies_true, bump_anchor, campRoundEnd_anchor, floodSettle_anchor, hit_anchor, mirror_anchor, modDl_anchor, modFlood_anchor, noticesBegin_anchor, out_anchor, repairTaken_anchor]; done)
    | simp only [anchor_mk, anchor_eta, anchor_ite, ite_self, implies_true, bump_anchor, campRoundEnd_anchor, floodSettle_anchor, hit_anchor, mirror_anchor, modDl_anchor, modFlood_anchor, noticesBegin_anchor, out_anchor, repairTaken_anchor]
    | refine (anchor_foldl _ (fun _ _ => ?_) _ _).trans ?_
    | refine anchor_elim _ _ _ _ ?_ (fun _ => ?_)
    | refine anchor_map_getD _ _ _ _ ?_ (fun _ => ?_)
    | split

@[simp] theorem routeIes_anchor (i : Nat) (s : State) : (routeIes i s).2.anchor = s.anchor := by
  unfold routeIes
  split <;> simp only [anchor_mk, anchor_eta, takeSequence_anchor]

theorem routeIes_anchor_of {i : Nat} {s : State} {o_ : List (List Byte)} {u_ : State} (h_ : routeIes i s = (o_, u_)) : u_.anchor = s.anchor := by
  rw [← routeIes_anchor i s, h_]

@[simp] theorem frameIes_anchor (s : State) (b : Booking) : (frameIes s b).2.anchor = s.anchor := by
  unfold frameIes
  repeat' first
    | (simp only [anchor_mk, anchor_eta, routeIes_anchor]; done)
    | split

theorem frameIes_anchor_of {s : State} {b : Booking} {o_ : List (List Byte)} {u_ : State} (h_ : frameIes s b = (o_, u_)) : u_.anchor = s.anchor := by
  rw [← frameIes_anchor s b, h_]

@[simp] theorem startTx_anchor (m : Nat) (b : Booking) (s : State) : (startTx m b s).anchor = s.anchor := by
  unfold startTx
  repeat' first
    | with_reducible rfl
    | (simp only [anchor_mk, anchor_eta, anchor_ite, ite_self, implies_true, beginUse_anchor, frameIes_anchor, jigYield_anchor, modCal_anchor, out_anchor]; done)

@[simp] theorem muteOne_anchor (st m k : Nat) (s : State) : (muteOne st m k s).anchor = s.anchor := by
  unfold muteOne
  repeat' first
    | with_reducible rfl
    | (simp only [anchor_mk, anchor_eta, anchor_ite, ite_self, implies_true, bump_anchor, closeBooking_anchor, degraded_anchor, event_anchor, modDl_anchor, out_anchor]; done)
    | simp only [anchor_mk, anchor_eta, anchor_ite, ite_self, implies_true, bump_anchor, closeBooking_anchor, degraded_anchor, event_anchor, modDl_anchor, out_anchor]
    | refine (anchor_foldl _ (fun _ _ => ?_) _ _).trans ?_
    | refine anchor_elim _ _ _ _ ?_ (fun _ => ?_)
    | refine anchor_map_getD _ _ _ _ ?_ (fun _ => ?_)
    | split

end Sys2Proof.Machine
end

