-- ==== Sys2Proof/Laws/AnchorCalibration.lean ====
section
/-! SUPPORT. The operations of Machine/Calibration.lean that leave the memory, the fuses and the queue alone, one lemma each. -/

set_option linter.unusedSimpArgs false
set_option linter.unusedTactic false

namespace Sys2Proof.Machine
open Sys2Proof Host

@[simp] theorem loLevel_anchor (s : State) : (loLevel s).anchor = s.anchor := by
  unfold loLevel
  repeat' first
    | with_reducible rfl
    | (simp only [anchor_mk, anchor_eta, anchor_ite, ite_self, implies_true, modCal_anchor]; done)
    | simp only [anchor_mk, anchor_eta, anchor_ite, ite_self, implies_true, modCal_anchor]
    | refine (anchor_foldl _ (fun _ _ => ?_) _ _).trans ?_
    | refine anchor_elim _ _ _ _ ?_ (fun _ => ?_)
    | refine anchor_map_getD _ _ _ _ ?_ (fun _ => ?_)
    | split

@[simp] theorem txGainLevel_anchor (s : State) : (txGainLevel s).anchor = s.anchor := by
  unfold txGainLevel
  repeat' first
    | with_reducible rfl
    | (simp only [anchor_mk, anchor_eta, anchor_ite, ite_self, implies_true, modCal_anchor]; done)
    | simp only [anchor_mk, anchor_eta, anchor_ite, ite_self, implies_true, modCal_anchor]
    | refine (anchor_foldl _ (fun _ _ => ?_) _ _).trans ?_

@[simp] theorem loObserve_anchor (h : Nat) (node : Nat) (v : Int) (s : State) : (loObserve h node v s).anchor = s.anchor := by
  unfold loObserve
  repeat' first
    | with_reducible rfl
    | (simp only [anchor_mk, anchor_eta, anchor_ite, ite_self, implies_true, bump_anchor, loLevel_anchor, modCal_anchor]; done)

@[simp] theorem aphaseObserve_anchor (h k node : Nat) (v : Int) (s : State) : (aphaseObserve h k node v s).anchor = s.anchor := by
  unfold aphaseObserve
  repeat' first
    | with_reducible rfl
    | (simp only [anchor_mk, anchor_eta, anchor_ite, ite_self, implies_true, bump_anchor, modCal_anchor]; done)

@[simp] theorem pathPhase_anchor (x : PathPhase) (s : State) : (pathPhase x s).anchor = s.anchor := by
  unfold pathPhase
  repeat' first
    | with_reducible rfl
    | (simp only [anchor_mk, anchor_eta, anchor_ite, ite_self, implies_true, aphaseObserve_anchor]; done)
    | simp only [anchor_mk, anchor_eta, anchor_ite, ite_self, implies_true, aphaseObserve_anchor]
    | refine (anchor_foldl _ (fun _ _ => ?_) _ _).trans ?_
    | refine anchor_elim _ _ _ _ ?_ (fun _ => ?_)
    | refine anchor_map_getD _ _ _ _ ?_ (fun _ => ?_)
    | split

@[simp] theorem txObserve_anchor (h : Nat) (lo gain : Option Int) (s : State) : (txObserve h lo gain s).anchor = s.anchor := by
  unfold txObserve
  repeat' first
    | with_reducible rfl
    | (simp only [anchor_mk, anchor_eta, anchor_ite, ite_self, implies_true, bumpBy_anchor, modCal_anchor, txGainLevel_anchor]; done)

@[simp] theorem loopback_anchor (i : Nat) (l : TxLogged) (h : SnippetHdr) (first : Int) (x : Snippet) (set : RxSet) (s : State) : (loopback i l h first x set s).anchor = s.anchor := by simp only [loopback, anchor_mk, anchor_eta, modCal_anchor, txObserve_anchor]

@[simp] theorem nodeEstimate_anchor (h : SnippetHdr) (x : Snippet) (set : RxSet) (s : State) :
    (nodeEstimate h x set s).anchor = s.anchor := by
  unfold nodeEstimate
  cases s.indexOf x.node with
  | none => with_reducible rfl
  | some i =>
    refine (modNode_anchor _ _ _).trans ?_
    exact anchor_eta s

@[simp] theorem useSnippet_anchor (h : SnippetHdr) (x : Snippet) (set : RxSet) (s : State) : (useSnippet h x set s).anchor = s.anchor := by
  unfold useSnippet
  repeat' first
    | with_reducible rfl
    | (simp only [anchor_mk, anchor_eta, anchor_ite, ite_self, implies_true, bump_anchor, loObserve_anchor, loopback_anchor, nodeEstimate_anchor, pathPhase_anchor]; done)
    | simp only [anchor_mk, anchor_eta, anchor_ite, ite_self, implies_true, bump_anchor, loObserve_anchor, loopback_anchor, nodeEstimate_anchor, pathPhase_anchor]
    | refine (anchor_foldl _ (fun _ _ => ?_) _ _).trans ?_
    | refine anchor_elim _ _ _ _ ?_ (fun _ => ?_)
    | refine anchor_map_getD _ _ _ _ ?_ (fun _ => ?_)
    | split

@[simp] theorem solveHead_anchor (h : Nat) (rx tx : Int) (s : State) : (solveHead h rx tx s).anchor = s.anchor := by simp only [solveHead, anchor_mk, anchor_eta, modCal_anchor]

@[simp] theorem applySolution_anchor (d : List (Nat × Nat × Int)) (hs : List Nat) (s : State) : (applySolution d hs s).anchor = s.anchor := by
  unfold applySolution
  repeat' first
    | with_reducible rfl
    | (simp only [anchor_mk, anchor_eta, anchor_ite, ite_self, implies_true, bump_anchor, solveHead_anchor]; done)
    | simp only [anchor_mk, anchor_eta, anchor_ite, ite_self, implies_true, bump_anchor, solveHead_anchor]
    | refine (anchor_foldl _ (fun _ _ => ?_) _ _).trans ?_
    | refine anchor_elim _ _ _ _ ?_ (fun _ => ?_)
    | refine anchor_map_getD _ _ _ _ ?_ (fun _ => ?_)
    | split

@[simp] theorem sweepSkip_anchor (h : Nat) (s : State) : (sweepSkip h s).anchor = s.anchor := by simp only [sweepSkip, anchor_mk, anchor_eta, bump_anchor, freeClampOf_anchor, modCal_anchor]

@[simp] theorem calLoad_anchor (r : CalRecord) (s : State) : (calLoad r s).anchor = s.anchor := by simp only [calLoad, anchor_mk, anchor_eta, bump_anchor, calTxSwitch_anchor, modCal_anchor]

end Sys2Proof.Machine
end

