-- ==== Sys2Proof/Laws/AnchorTime.lean ====
section
/-! SUPPORT. The operations of Machine/Time.lean that leave the memory, the fuses and the queue alone, one lemma each. -/

set_option linter.unusedSimpArgs false
set_option linter.unusedTactic false

namespace Sys2Proof.Machine
open Sys2Proof Host

@[simp] theorem setRate_anchor (r : Int) (s : State) : (setRate r s).anchor = s.anchor := by simp only [setRate, anchor_mk, anchor_eta, setReg_anchor]

@[simp] theorem refreshSource_anchor (s : State) : (refreshSource s).anchor = s.anchor := by
  unfold refreshSource
  repeat' first
    | with_reducible rfl
    | (simp only [anchor_mk, anchor_eta, anchor_ite, ite_self, implies_true, bump_anchor, occurs_anchor, setRate_anchor]; done)

@[simp] theorem slewTo_anchor (lim : Nat) (off : Int) (s : State) : (slewTo lim off s).anchor = s.anchor := by
  unfold slewTo
  repeat' first
    | (simp only [anchor_mk, anchor_eta, drawn_anchor, setRate_anchor]; done)
    | split

@[simp] theorem slew_anchor (off : Int) (s : State) : (slew off s).anchor = s.anchor := by simp only [slew, anchor_mk, anchor_eta, slewTo_anchor]

@[simp] theorem measure_anchor (n : Nat) (off : Int) (s : State) : (measure n off s).anchor = s.anchor := by
  unfold measure
  repeat' first
    | with_reducible rfl
    | (simp only [anchor_mk, anchor_eta, anchor_ite, ite_self, implies_true, refreshSource_anchor, slew_anchor]; done)

@[simp] theorem sourceLost_anchor (n : Nat) (s : State) : (sourceLost n s).anchor = s.anchor := by simp only [sourceLost, anchor_mk, anchor_eta, refreshSource_anchor]

@[simp] theorem ptpTaken_anchor (m : PtpMsg) (s : State) : (ptpTaken m s).2.anchor = s.anchor := by
  unfold ptpTaken
  repeat' first
    | (simp only [anchor_mk, anchor_eta, bump_anchor]; done)
    | split

theorem ptpTaken_anchor_of {m : PtpMsg} {s : State} {o_ : Bool} {u_ : State} (h_ : ptpTaken m s = (o_, u_)) : u_.anchor = s.anchor := by
  rw [← ptpTaken_anchor m s, h_]

@[simp] theorem ptpOffset_anchor (origin arrival : Int) (s : State) : (ptpOffset origin arrival s).anchor = s.anchor := by simp only [ptpOffset, anchor_mk, anchor_eta, measure_anchor]

@[simp] theorem ppsBad_anchor (s : State) : (ppsBad s).anchor = s.anchor := by
  unfold ppsBad
  split <;> simp only [anchor_mk, anchor_eta, sourceLost_anchor]

@[simp] theorem setNbr_anchor (s : State) (n : Nat) (x : Nbr) : (State.setNbr s n x).anchor = s.anchor := by simp only [State.setNbr, anchor_mk, anchor_eta]

end Sys2Proof.Machine
end

