-- ==== Sys2Proof/Laws/AnchorSchedule.lean ====
section
/-! SUPPORT. The operations of Machine/Schedule.lean that leave the memory, the fuses and the queue alone, one lemma each. -/

set_option linter.unusedSimpArgs false
set_option linter.unusedTactic false

namespace Sys2Proof.Machine
open Sys2Proof Host

@[simp] theorem countSkips_anchor (n : Nat) (s : State) : (countSkips n s).anchor = s.anchor := by simp only [countSkips, anchor_mk, anchor_eta, bumpBy_anchor]

@[simp] theorem schedChanged_anchor (idx : Nat) (s : State) : (schedChanged idx s).anchor = s.anchor := by simp only [schedChanged, anchor_mk, anchor_eta, mirror_anchor]

@[simp] theorem withdrawCell_anchor (idx : Nat) (c : Cell) (s : State) : (withdrawCell idx c s).anchor = s.anchor := by
  unfold withdrawCell
  repeat' first
    | with_reducible rfl
    | (simp only [anchor_mk, anchor_eta, anchor_ite, ite_self, implies_true, bump_anchor, occurs_anchor, queueNotice_anchor, schedChanged_anchor, setCellBit_anchor, toResync_anchor]; done)
    | simp only [anchor_mk, anchor_eta, anchor_ite, ite_self, implies_true, bump_anchor, occurs_anchor, queueNotice_anchor, schedChanged_anchor, setCellBit_anchor, toResync_anchor]
    | refine (anchor_foldl _ (fun _ _ => ?_) _ _).trans ?_

@[simp] theorem guards_anchor (n : Nat) (s : State) : (guards n s).anchor = s.anchor := by
  unfold guards
  repeat' first
    | with_reducible rfl
    | (simp only [anchor_mk, anchor_eta, anchor_ite, ite_self, implies_true, withdrawCell_anchor]; done)
    | simp only [anchor_mk, anchor_eta, anchor_ite, ite_self, implies_true, withdrawCell_anchor]
    | refine (anchor_foldl _ (fun _ _ => ?_) _ _).trans ?_

@[simp] theorem bookOn_anchor (u : TxUse) (h ch : Nat) (start : Time) (len extra : Nat) (power : Nat → Int) (profile cell : Nat) (s : State) : (bookOn u h ch start len extra power profile cell s).2.anchor = s.anchor := by
  unfold bookOn
  repeat' first
    | (simp only [anchor_mk, anchor_eta, admitTx_anchor]; done)
    | split

theorem bookOn_anchor_of {u : TxUse} {h : Nat} {ch : Nat} {start : Time} {len : Nat} {extra : Nat} {power : Nat → Int} {profile : Nat} {cell : Nat} {s : State} {o_ : Option Nat} {u_ : State} (h_ : bookOn u h ch start len extra power profile cell s = (o_, u_)) : u_.anchor = s.anchor := by
  rw [← bookOn_anchor u h ch start len extra power profile cell s, h_]

@[simp] theorem bookBeacon_anchor (n : Nat) (x : Nat × Cell × Slotframe) (s : State) : (bookBeacon n x s).anchor = s.anchor := by
  unfold bookBeacon
  repeat' first
    | with_reducible rfl
    | (simp only [anchor_mk, anchor_eta, anchor_ite, ite_self, implies_true, bookOn_anchor, bump_anchor]; done)
    | simp only [anchor_mk, anchor_eta, anchor_ite, ite_self, implies_true, bookOn_anchor, bump_anchor]
    | refine (anchor_foldl _ (fun _ _ => ?_) _ _).trans ?_
    | refine anchor_elim _ _ _ _ ?_ (fun _ => ?_)
    | refine anchor_map_getD _ _ _ _ ?_ (fun _ => ?_)
    | split
    | refine (bookOn_anchor_of (by assumption)).trans ?_

@[simp] theorem bookAmong_anchor (u : TxUse) (ch : Nat) (start : Time) (len extra : Nat) (power : Nat → Int) (profile cell : Nat)
    (s : State) (l : List Nat) : (bookAmong u ch start len extra power profile cell s l).2.anchor = s.anchor := by
  induction l generalizing s with
  | nil => rw [bookAmong]
  | cons m r ih =>
    rw [bookAmong]
    split
    · next h => exact bookOn_anchor_of h
    · next h => rw [ih, bookOn_anchor_of h]

theorem bookAmong_anchor_of {u : TxUse} {ch : Nat} {start : Time} {len extra : Nat} {power : Nat → Int} {profile cell : Nat}
    {s t : State} {l : List Nat} {o : Option Nat} (h : bookAmong u ch start len extra power profile cell s l = (o, t)) :
    t.anchor = s.anchor := by
  rw [← bookAmong_anchor u ch start len extra power profile cell s l, h]

@[simp] theorem bookItem_anchor (n : Nat) (x : Nat × Cell × Slotframe) (i : Nat) (r : DlRec) (lead : Time) (extra : Nat) (shared : Bool)     (s : State) : (bookItem n x i r lead extra shared s).anchor = s.anchor := by
  unfold bookItem
  repeat' first
    | with_reducible rfl
    | (simp only [anchor_mk, anchor_eta, anchor_ite, ite_self, implies_true, bookAmong_anchor, bookOn_anchor, bump_anchor, deferItem_anchor, modDl_anchor]; done)
    | simp only [anchor_mk, anchor_eta, anchor_ite, ite_self, implies_true, bookAmong_anchor, bookOn_anchor, bump_anchor, deferItem_anchor, modDl_anchor]
    | refine (anchor_foldl _ (fun _ _ => ?_) _ _).trans ?_
    | refine anchor_elim _ _ _ _ ?_ (fun _ => ?_)
    | refine anchor_map_getD _ _ _ _ ?_ (fun _ => ?_)
    | split
    | refine (bookAmong_anchor_of (by assumption)).trans ?_
    | refine (bookOn_anchor_of (by assumption)).trans ?_

@[simp] theorem bookCamp_anchor (u : TxUse) (share h ch : Nat) (start : Time) (len : Nat) (power : Nat → Int) (profile cell : Nat) (s : State) : (bookCamp u share h ch start len power profile cell s).2.anchor = s.anchor := by
  unfold bookCamp
  repeat' first
    | with_reducible rfl
    | (simp only [anchor_mk, anchor_eta, anchor_ite, ite_self, implies_true, bookOn_anchor, bump_anchor]; done)
    | simp only [anchor_mk, anchor_eta, anchor_ite, ite_self, implies_true, bookOn_anchor, bump_anchor]
    | refine (anchor_foldl _ (fun _ _ => ?_) _ _).trans ?_
    | refine anchor_elim _ _ _ _ ?_ (fun _ => ?_)
    | refine anchor_map_getD _ _ _ _ ?_ (fun _ => ?_)
    | split
    | refine (bookOn_anchor_of (by assumption)).trans ?_

theorem bookCamp_anchor_of {u : TxUse} {share : Nat} {h : Nat} {ch : Nat} {start : Time} {len : Nat} {power : Nat → Int} {profile : Nat} {cell : Nat} {s : State} {o_ : Option Nat} {u_ : State} (h_ : bookCamp u share h ch start len power profile cell s = (o_, u_)) : u_.anchor = s.anchor := by
  rw [← bookCamp_anchor u share h ch start len power profile cell s, h_]

@[simp] theorem bookRepair_anchor (n : Nat) (x : Nat × Cell × Slotframe) (i : Nat) (s : State) : (bookRepair n x i s).anchor = s.anchor := by
  unfold bookRepair
  repeat' first
    | with_reducible rfl
    | (simp only [anchor_mk, anchor_eta, anchor_ite, ite_self, implies_true, bookCamp_anchor, bump_anchor]; done)
    | simp only [anchor_mk, anchor_eta, anchor_ite, ite_self, implies_true, bookCamp_anchor, bump_anchor]
    | refine (anchor_foldl _ (fun _ _ => ?_) _ _).trans ?_
    | refine anchor_elim _ _ _ _ ?_ (fun _ => ?_)
    | refine anchor_map_getD _ _ _ _ ?_ (fun _ => ?_)
    | split

@[simp] theorem bookTransit_anchor (n : Nat) (x : Nat × Cell × Slotframe) (i : Nat) (p : Transit) (shared : Bool) (s : State) : (bookTransit n x i p shared s).anchor = s.anchor := by
  unfold bookTransit
  repeat' first
    | with_reducible rfl
    | (simp only [anchor_mk, anchor_eta, anchor_ite, ite_self, implies_true, bookOn_anchor]; done)
    | simp only [anchor_mk, anchor_eta, anchor_ite, ite_self, implies_true, bookOn_anchor]
    | refine (anchor_foldl _ (fun _ _ => ?_) _ _).trans ?_
    | refine anchor_elim _ _ _ _ ?_ (fun _ => ?_)
    | refine anchor_map_getD _ _ _ _ ?_ (fun _ => ?_)
    | split
    | refine (bookOn_anchor_of (by assumption)).trans ?_

@[simp] theorem bookDedicated_anchor (n : Nat) (x : Nat × Cell × Slotframe) (s : State) : (bookDedicated n x s).anchor = s.anchor := by
  unfold bookDedicated
  repeat' first
    | with_reducible rfl
    | (simp only [anchor_mk, anchor_eta, anchor_ite, ite_self, implies_true, bookItem_anchor, bookRepair_anchor, bookTransit_anchor, deferItem_anchor]; done)
    | simp only [anchor_mk, anchor_eta, anchor_ite, ite_self, implies_true, bookItem_anchor, bookRepair_anchor, bookTransit_anchor, deferItem_anchor]
    | refine (anchor_foldl _ (fun _ _ => ?_) _ _).trans ?_
    | refine anchor_elim _ _ _ _ ?_ (fun _ => ?_)
    | refine anchor_map_getD _ _ _ _ ?_ (fun _ => ?_)
    | split

@[simp] theorem bookResync_anchor (n : Nat) (x : Nat × Cell × Slotframe) (s : State) : (bookResync n x s).anchor = s.anchor := by
  unfold bookResync
  repeat' first
    | with_reducible rfl
    | (simp only [anchor_mk, anchor_eta, anchor_ite, ite_self, implies_true, bookItem_anchor, bump_anchor]; done)
    | simp only [anchor_mk, anchor_eta, anchor_ite, ite_self, implies_true, bookItem_anchor, bump_anchor]
    | refine (anchor_foldl _ (fun _ _ => ?_) _ _).trans ?_
    | refine anchor_elim _ _ _ _ ?_ (fun _ => ?_)
    | refine anchor_map_getD _ _ _ _ ?_ (fun _ => ?_)
    | split

@[simp] theorem bookFlood_anchor (n : Nat) (x : Nat × Cell × Slotframe) (f : Flood) (s : State) : (bookFlood n x f s).anchor = s.anchor := by
  unfold bookFlood
  repeat' first
    | with_reducible rfl
    | (simp only [anchor_mk, anchor_eta, anchor_ite, ite_self, implies_true, bookCamp_anchor, bookOn_anchor, bump_anchor, modFlood_anchor]; done)
    | simp only [anchor_mk, anchor_eta, anchor_ite, ite_self, implies_true, bookCamp_anchor, bookOn_anchor, bump_anchor, modFlood_anchor]
    | refine (anchor_foldl _ (fun _ _ => ?_) _ _).trans ?_
    | refine anchor_elim _ _ _ _ ?_ (fun _ => ?_)
    | refine anchor_map_getD _ _ _ _ ?_ (fun _ => ?_)
    | split
    | refine (bookCamp_anchor_of (by assumption)).trans ?_
    | refine (bookOn_anchor_of (by assumption)).trans ?_

@[simp] theorem bookFloods_anchor (n : Nat) (x : Nat × Cell × Slotframe) (best : Bool) (s : State) : (bookFloods n x best s).anchor = s.anchor := by
  unfold bookFloods
  repeat' first
    | with_reducible rfl
    | (simp only [anchor_mk, anchor_eta, anchor_ite, ite_self, implies_true, bookFlood_anchor]; done)
    | simp only [anchor_mk, anchor_eta, anchor_ite, ite_self, implies_true, bookFlood_anchor]
    | refine (anchor_foldl _ (fun _ _ => ?_) _ _).trans ?_

@[simp] theorem campFrame_anchor (c : Nat) (k : Camp) (s : State) : (campFrame c k s).anchor = s.anchor := by
  unfold campFrame
  repeat' first
    | (simp only [anchor_mk, anchor_eta, mirror_anchor, modFlood_anchor, ownFlood_anchor]; done)
    | split

@[simp] theorem campTurn_anchor (n : Nat) (x : Nat × Cell × Slotframe) (c : Nat) (s : State) : (campTurn n x c s).anchor = s.anchor := by
  unfold campTurn
  repeat' first
    | with_reducible rfl
    | (simp only [anchor_mk, anchor_eta, anchor_ite, ite_self, implies_true, bookFlood_anchor, bump_anchor, campFrame_anchor]; done)
    | simp only [anchor_mk, anchor_eta, anchor_ite, ite_self, implies_true, bookFlood_anchor, bump_anchor, campFrame_anchor]
    | refine (anchor_foldl _ (fun _ _ => ?_) _ _).trans ?_
    | refine anchor_elim _ _ _ _ ?_ (fun _ => ?_)
    | refine anchor_map_getD _ _ _ _ ?_ (fun _ => ?_)
    | split

@[simp] theorem bookPiece_anchor (n : Nat) (x : Nat × Cell × Slotframe) (s : State) : (bookPiece n x s).anchor = s.anchor := by
  unfold bookPiece
  split <;> simp only [anchor_mk, anchor_eta, bookCamp_anchor]

@[simp] theorem bookShared_anchor (n : Nat) (x : Nat × Cell × Slotframe) (s : State) : (bookShared n x s).anchor = s.anchor := by
  unfold bookShared
  repeat' first
    | with_reducible rfl
    | (simp only [anchor_mk, anchor_eta, anchor_ite, ite_self, implies_true, bookFloods_anchor, bookPiece_anchor, campTurn_anchor]; done)
    | simp only [anchor_mk, anchor_eta, anchor_ite, ite_self, implies_true, bookFloods_anchor, bookPiece_anchor, campTurn_anchor]
    | refine (anchor_foldl _ (fun _ _ => ?_) _ _).trans ?_

@[simp] theorem bookSharedItem_anchor (n : Nat) (x : Nat × Cell × Slotframe) (s : State) : (bookSharedItem n x s).anchor = s.anchor := by
  unfold bookSharedItem
  repeat' first
    | (simp only [anchor_mk, anchor_eta, bookItem_anchor]; done)
    | split

@[simp] theorem bookBest_anchor (n : Nat) (x : Nat × Cell × Slotframe) (s : State) : (bookBest n x s).anchor = s.anchor := by
  unfold bookBest
  repeat' first
    | with_reducible rfl
    | (simp only [anchor_mk, anchor_eta, anchor_ite, ite_self, implies_true, bookFloods_anchor, bookTransit_anchor]; done)
    | simp only [anchor_mk, anchor_eta, anchor_ite, ite_self, implies_true, bookFloods_anchor, bookTransit_anchor]
    | refine (anchor_foldl _ (fun _ _ => ?_) _ _).trans ?_
    | refine anchor_elim _ _ _ _ ?_ (fun _ => ?_)
    | refine anchor_map_getD _ _ _ _ ?_ (fun _ => ?_)
    | split

@[simp] theorem shadowCharge_anchor (n : Nat) (s : State) : (shadowCharge n s).anchor = s.anchor := by
  unfold shadowCharge
  repeat' first
    | with_reducible rfl
    | (simp only [anchor_mk, anchor_eta, anchor_ite, ite_self, implies_true, charge_anchor, logMirrored_anchor]; done)
    | simp only [anchor_mk, anchor_eta, anchor_ite, ite_self, implies_true, charge_anchor, logMirrored_anchor]
    | refine (anchor_foldl _ (fun _ _ => ?_) _ _).trans ?_
    | refine anchor_elim _ _ _ _ ?_ (fun _ => ?_)
    | refine anchor_map_getD _ _ _ _ ?_ (fun _ => ?_)
    | split

@[simp] theorem reopenItems_anchor (s : State) : (reopenItems s).anchor = s.anchor := by simp only [reopenItems, anchor_mk, anchor_eta]

@[simp] theorem bookSlot_anchor (n : Nat) (s : State) : (bookSlot n s).anchor = s.anchor := by
  unfold bookSlot
  repeat' first
    | with_reducible rfl
    | (simp only [anchor_mk, anchor_eta, anchor_ite, ite_self, implies_true, bookBeacon_anchor, bookBest_anchor, bookDedicated_anchor, bookResync_anchor, bookSharedItem_anchor, bookShared_anchor]; done)
    | simp only [anchor_mk, anchor_eta, anchor_ite, ite_self, implies_true, bookBeacon_anchor, bookBest_anchor, bookDedicated_anchor, bookResync_anchor, bookSharedItem_anchor, bookShared_anchor]
    | refine (anchor_foldl _ (fun _ _ => ?_) _ _).trans ?_

@[simp] theorem reinstateCell_anchor (idx : Nat) (s : State) : (reinstateCell idx s).anchor = s.anchor := by simp only [reinstateCell, anchor_mk, anchor_eta, occurs_anchor, schedChanged_anchor, setCellBit_anchor]

@[simp] theorem leaveResync_anchor (a : Nat) (s : State) : (leaveResync a s).anchor = s.anchor := by simp only [leaveResync, anchor_mk, anchor_eta]

@[simp] theorem checkWithdrawn_anchor (a : Nat) (f : Slotframe) (x : Nat × Cell) (s : State) : (checkWithdrawn a f x s).anchor = s.anchor := by
  unfold checkWithdrawn
  repeat' first
    | with_reducible rfl
    | (simp only [anchor_mk, anchor_eta, anchor_ite, ite_self, implies_true, queueNotice_anchor, reinstateCell_anchor]; done)
    | simp only [anchor_mk, anchor_eta, anchor_ite, ite_self, implies_true, queueNotice_anchor, reinstateCell_anchor]
    | refine (anchor_foldl _ (fun _ _ => ?_) _ _).trans ?_
    | refine anchor_elim _ _ _ _ ?_ (fun _ => ?_)
    | refine anchor_map_getD _ _ _ _ ?_ (fun _ => ?_)
    | split

@[simp] theorem syncReclaimed_anchor (a : Nat) (x : Nat × Cell) (s : State) : (syncReclaimed a x s).anchor = s.anchor := by
  unfold syncReclaimed
  repeat' first
    | with_reducible rfl
    | (simp only [anchor_mk, anchor_eta, anchor_ite, ite_self, implies_true, bump_anchor, cancelTx_anchor, schedChanged_anchor, setCellBit_anchor]; done)
    | simp only [anchor_mk, anchor_eta, anchor_ite, ite_self, implies_true, bump_anchor, cancelTx_anchor, schedChanged_anchor, setCellBit_anchor]
    | refine (anchor_foldl _ (fun _ _ => ?_) _ _).trans ?_
    | refine anchor_elim _ _ _ _ ?_ (fun _ => ?_)
    | refine anchor_map_getD _ _ _ _ ?_ (fun _ => ?_)
    | split

@[simp] theorem applyChange_anchor (c : SchedChange) (s : State) : (applyChange c s).anchor = s.anchor := by
  unfold applyChange
  repeat' first
    | with_reducible rfl
    | (simp only [anchor_mk, anchor_eta, anchor_ite, ite_self, implies_true, modCal_anchor, setEntry_anchor]; done)
    | simp only [anchor_mk, anchor_eta, anchor_ite, ite_self, implies_true, modCal_anchor, setEntry_anchor]
    | refine (anchor_foldl _ (fun _ _ => ?_) _ _).trans ?_

end Sys2Proof.Machine
end

