-- ==== Sys2Proof/Laws/AnchorEntries.lean ====
section
/-! SUPPORT. The operations of Machine/Entries.lean that leave the memory, the fuses and the queue alone, one lemma each. -/

set_option linter.unusedSimpArgs false
set_option linter.unusedTactic false

namespace Sys2Proof.Machine
open Sys2Proof Host

@[simp] theorem putNode_anchor (i : Nat) (n : Node) (s : State) : (putNode i n s).anchor = s.anchor := by simp only [putNode, anchor_mk, anchor_eta, mirror_anchor]

@[simp] theorem allocIndex_anchor (s : State) : (allocIndex s).2.anchor = s.anchor := by
  unfold allocIndex
  split <;> simp only [anchor_mk, anchor_eta, bump_anchor, drawn_anchor]

theorem allocIndex_anchor_of {s : State} {o_ : Option Nat} {u_ : State} (h_ : allocIndex s = (o_, u_)) : u_.anchor = s.anchor := by
  rw [← allocIndex_anchor s, h_]

@[simp] theorem memberLost_anchor (i : Nat) (s : State) : (memberLost i s).anchor = s.anchor := by
  unfold memberLost
  split <;> simp only [anchor_mk, anchor_eta, bump_anchor, campSettle_anchor]

@[simp] theorem deleteNode_anchor (i : Nat) (s0 : State) : (deleteNode i s0).anchor = s0.anchor := by simp only [deleteNode, anchor_mk, anchor_eta, memberLost_anchor, mirror_anchor]

@[simp] theorem ensureNode_anchor (e : Eui) (s : State) : (ensureNode e s).2.anchor = s.anchor := by
  unfold ensureNode
  repeat' first
    | with_reducible rfl
    | (simp only [anchor_mk, anchor_eta, anchor_ite, ite_self, implies_true, allocIndex_anchor, bump_anchor, putNode_anchor]; done)
    | simp only [anchor_mk, anchor_eta, anchor_ite, ite_self, implies_true, allocIndex_anchor, bump_anchor, putNode_anchor]
    | refine (anchor_foldl _ (fun _ _ => ?_) _ _).trans ?_
    | refine anchor_elim _ _ _ _ ?_ (fun _ => ?_)
    | refine anchor_map_getD _ _ _ _ ?_ (fun _ => ?_)
    | split
    | refine (allocIndex_anchor_of (by assumption)).trans ?_

theorem ensureNode_anchor_of {e : Eui} {s : State} {o_ : Option Nat} {u_ : State} (h_ : ensureNode e s = (o_, u_)) : u_.anchor = s.anchor := by
  rw [← ensureNode_anchor e s, h_]

end Sys2Proof.Machine
end

