-- ==== Sys2Proof/Laws/AnchorVault.lean ====
section
/-! SUPPORT. The operations of Machine/Vault.lean that leave the memory, the fuses and the queue alone, one lemma each. -/

set_option linter.unusedSimpArgs false
set_option linter.unusedTactic false

namespace Sys2Proof.Machine
open Sys2Proof Host

@[simp] theorem queueUnwrap_anchor (r : UnwrapReq) (s : State) : (queueUnwrap r s).anchor = s.anchor := by
  unfold queueUnwrap
  split <;> simp only [anchor_mk, anchor_eta]

@[simp] theorem useKey_anchor (cls id : Nat) (s : State) : (useKey cls id s).2.anchor = s.anchor := by
  unfold useKey
  repeat' first
    | (simp only [anchor_mk, anchor_eta, queueUnwrap_anchor]; done)
    | split

theorem useKey_anchor_of {cls : Nat} {id : Nat} {s : State} {o_ : KeyUse} {u_ : State} (h_ : useKey cls id s = (o_, u_)) : u_.anchor = s.anchor := by
  rw [← useKey_anchor cls id s, h_]

@[simp] theorem dropSlot_anchor (e : Eui) (s : State) : (dropSlot e s).anchor = s.anchor := by simp only [dropSlot, anchor_mk, anchor_eta]

@[simp] theorem fillSlot_anchor (e : Eui) (kek : Nat) (p : KeyPlain) (s : State) : (fillSlot e kek p s).2.anchor = s.anchor := by
  unfold fillSlot
  repeat' first
    | with_reducible rfl
    | (simp only [anchor_mk, anchor_eta, anchor_ite, ite_self, implies_true, bump_anchor]; done)
    | simp only [anchor_mk, anchor_eta, anchor_ite, ite_self, implies_true, bump_anchor]
    | refine (anchor_foldl _ (fun _ _ => ?_) _ _).trans ?_
    | refine anchor_elim _ _ _ _ ?_ (fun _ => ?_)
    | refine anchor_map_getD _ _ _ _ ?_ (fun _ => ?_)
    | split

theorem fillSlot_anchor_of {e : Eui} {kek : Nat} {p : KeyPlain} {s : State} {o_ : Bool} {u_ : State} (h_ : fillSlot e kek p s = (o_, u_)) : u_.anchor = s.anchor := by
  rw [← fillSlot_anchor e kek p s, h_]

@[simp] theorem lockSlot_anchor (e : Eui) (up : Bool) (s : State) : (lockSlot e up s).anchor = s.anchor := by
  unfold lockSlot
  split <;> simp only [anchor_mk, anchor_eta]

@[simp] theorem loadNode_anchor (it : KeyItem) (p : KeyPlain) (s : State) : (loadNode it p s).2.anchor = s.anchor := by
  unfold loadNode
  repeat' first
    | with_reducible rfl
    | (simp only [anchor_mk, anchor_eta, anchor_ite, ite_self, implies_true, bump_anchor, dropSlot_anchor, ensureNode_anchor, hit_anchor, modNode_anchor]; done)
    | simp only [anchor_mk, anchor_eta, anchor_ite, ite_self, implies_true, bump_anchor, dropSlot_anchor, ensureNode_anchor, hit_anchor, modNode_anchor]
    | refine (anchor_foldl _ (fun _ _ => ?_) _ _).trans ?_
    | refine anchor_elim _ _ _ _ ?_ (fun _ => ?_)
    | refine anchor_map_getD _ _ _ _ ?_ (fun _ => ?_)
    | split
    | refine (ensureNode_anchor_of (by assumption)).trans ?_

theorem loadNode_anchor_of {it : KeyItem} {p : KeyPlain} {s : State} {o_ : LoadResult} {u_ : State} (h_ : loadNode it p s = (o_, u_)) : u_.anchor = s.anchor := by
  rw [← loadNode_anchor it p s, h_]

@[simp] theorem voidNode_anchor (i : Nat) (raise : Bool) (s : State) : (voidNode i raise s).anchor = s.anchor := by
  unfold voidNode
  split <;> simp only [anchor_mk, anchor_eta, dropSlot_anchor, modNode_anchor]

@[simp] theorem setGroupTx_anchor (id next ceil : Nat) (s : State) : (setGroupTx id next ceil s).anchor = s.anchor := by simp only [setGroupTx, anchor_mk, anchor_eta]

@[simp] theorem journalAppend_anchor (copyB : Bool) (r : KeyRec) (s : State) : (journalAppend copyB r s).anchor = s.anchor := by
  unfold journalAppend
  split <;> simp only [anchor_mk, anchor_eta]

@[simp] theorem applyRec_anchor (r : KeyRec) (s : State) : (applyRec r s).anchor = s.anchor := by
  unfold applyRec
  repeat' first
    | (simp only [anchor_mk, anchor_eta, setGroupTx_anchor]; done)
    | split

@[simp] theorem jobAsk_anchor (s : State) : (jobAsk s).anchor = s.anchor := by
  unfold jobAsk
  split <;> simp only [anchor_mk, anchor_eta, askClamp_anchor]

@[simp] theorem addJob_anchor (c : KeyCause) (r : KeyRec) (s : State) : (addJob c r s).anchor = s.anchor := by
  unfold addJob
  split <;> simp only [anchor_mk, anchor_eta, jobAsk_anchor]

@[simp] theorem commitTo_anchor (m : Nat) (ok : Bool) (s : State) : (commitTo m ok s).anchor = s.anchor := by
  unfold commitTo
  split <;> simp only [anchor_mk, anchor_eta, emit_anchor]

@[simp] theorem notAccepted_anchor (d : Nat) (s : State) : (notAccepted d s).anchor = s.anchor := by simp only [notAccepted, anchor_mk, anchor_eta]

@[simp] theorem endKeyItem_anchor (d : Nat) (e : Ending) (s : State) : (endKeyItem d e s).anchor = s.anchor := by simp only [endKeyItem, anchor_mk, anchor_eta, finish_anchor]

@[simp] theorem keySettle_anchor (d : Nat) (s : State) : (keySettle d s).anchor = s.anchor := by
  unfold keySettle
  repeat' first
    | (simp only [anchor_mk, anchor_eta, endKeyItem_anchor]; done)
    | split

@[simp] theorem jobDone_anchor (j : KeyJob) (ok : Bool) (s : State) : (jobDone j ok s).anchor = s.anchor := by
  unfold jobDone
  repeat' first
    | with_reducible rfl
    | (simp only [anchor_mk, anchor_eta, anchor_ite, ite_self, implies_true, applyRec_anchor, commitTo_anchor, jobAsk_anchor, keySettle_anchor, notAccepted_anchor]; done)
    | simp only [anchor_mk, anchor_eta, anchor_ite, ite_self, implies_true, applyRec_anchor, commitTo_anchor, jobAsk_anchor, keySettle_anchor, notAccepted_anchor]
    | refine (anchor_foldl _ (fun _ _ => ?_) _ _).trans ?_
    | refine anchor_elim _ _ _ _ ?_ (fun _ => ?_)
    | refine anchor_map_getD _ _ _ _ ?_ (fun _ => ?_)
    | split

@[simp] theorem programRecord_anchor (copyB : Bool) (r : KeyRec) (s : State) : (programRecord copyB r s).anchor = s.anchor := by
  unfold programRecord
  repeat' first
    | with_reducible rfl
    | (simp only [anchor_mk, anchor_eta, anchor_ite, ite_self, implies_true, journalAppend_anchor, out_anchor]; done)
    | simp only [anchor_mk, anchor_eta, anchor_ite, ite_self, implies_true, journalAppend_anchor, out_anchor]
    | refine (anchor_foldl _ (fun _ _ => ?_) _ _).trans ?_
    | refine anchor_elim _ _ _ _ ?_ (fun _ => ?_)
    | refine anchor_map_getD _ _ _ _ ?_ (fun _ => ?_)
    | split

@[simp] theorem jobWritten_anchor (ok : Bool) (s : State) : (jobWritten ok s).anchor = s.anchor := by
  unfold jobWritten
  repeat' first
    | with_reducible rfl
    | (simp only [anchor_mk, anchor_eta, anchor_ite, ite_self, implies_true, degraded_anchor, freeClampOf_anchor, jobAsk_anchor, jobDone_anchor, programRecord_anchor]; done)
    | simp only [anchor_mk, anchor_eta, anchor_ite, ite_self, implies_true, degraded_anchor, freeClampOf_anchor, jobAsk_anchor, jobDone_anchor, programRecord_anchor]
    | refine (anchor_foldl _ (fun _ _ => ?_) _ _).trans ?_
    | refine anchor_elim _ _ _ _ ?_ (fun _ => ?_)
    | refine anchor_map_getD _ _ _ _ ?_ (fun _ => ?_)
    | split

@[simp] theorem rewrapNext_anchor (i : Nat) (s : State) : (rewrapNext i s).anchor = s.anchor := by
  unfold rewrapNext
  repeat' first
    | (simp only [anchor_mk, anchor_eta, queueUnwrap_anchor]; done)
    | split

@[simp] theorem rewrapPump_anchor (s : State) : (rewrapPump s).anchor = s.anchor := by
  unfold rewrapPump
  repeat' first
    | (simp only [anchor_mk, anchor_eta, rewrapNext_anchor]; done)
    | split

@[simp] theorem rewrapStart_anchor (f t d : Nat) (s : State) : (rewrapStart f t d s).anchor = s.anchor := by
  unfold rewrapStart
  repeat' first
    | with_reducible rfl
    | (simp only [anchor_mk, anchor_eta, anchor_ite, ite_self, implies_true, askClamp_anchor, rewrapNext_anchor]; done)

end Sys2Proof.Machine
end

