-- ==== Sys2Proof/Laws/AnchorKeys.lean ====
section
/-! SUPPORT. The operations of Machine/Keys.lean that leave the memory, the fuses and the queue alone, one lemma each. -/

set_option linter.unusedSimpArgs false
set_option linter.unusedTactic false

namespace Sys2Proof.Machine
open Sys2Proof Host

@[simp] theorem setCtx_anchor (g : Nat) (c : KeyCtx) (s : State) : (setCtx g c s).anchor = s.anchor := by simp only [setCtx, anchor_mk, anchor_eta]

@[simp] theorem deliver_anchor (g : Nat) (c : KeyCtx) (fcs : Bool) (frame : SealedFrame) (s : State) : (deliver g c fcs frame s).anchor = s.anchor := by
  unfold deliver
  repeat' first
    | with_reducible rfl
    | (simp only [anchor_mk, anchor_eta, anchor_ite, ite_self, implies_true, bump_anchor, lockSlot_anchor, out_anchor]; done)
    | simp only [anchor_mk, anchor_eta, anchor_ite, ite_self, implies_true, bump_anchor, lockSlot_anchor, out_anchor]
    | refine (anchor_foldl _ (fun _ _ => ?_) _ _).trans ?_
    | refine anchor_elim _ _ _ _ ?_ (fun _ => ?_)
    | refine anchor_map_getD _ _ _ _ ?_ (fun _ => ?_)
    | split

@[simp] theorem lookupNode_anchor (g : Nat) (c : KeyCtx) (e : Eui) (s : State) : (lookupNode g c e s).anchor = s.anchor := by
  unfold lookupNode
  repeat' first
    | (simp only [anchor_mk, anchor_eta, bump_anchor, dropSlot_anchor, lockSlot_anchor, queueUnwrap_anchor, setCtx_anchor]; done)
    | split

@[simp] theorem lookupGroup_anchor (g : Nat) (c : KeyCtx) (s : State) : (lookupGroup g c s).anchor = s.anchor := by
  unfold lookupGroup
  repeat' first
    | with_reducible rfl
    | (simp only [anchor_mk, anchor_eta, anchor_ite, ite_self, implies_true, bump_anchor, setCtx_anchor, useKey_anchor]; done)
    | simp only [anchor_mk, anchor_eta, anchor_ite, ite_self, implies_true, bump_anchor, setCtx_anchor, useKey_anchor]
    | refine (anchor_foldl _ (fun _ _ => ?_) _ _).trans ?_
    | refine anchor_elim _ _ _ _ ?_ (fun _ => ?_)
    | refine anchor_map_getD _ _ _ _ ?_ (fun _ => ?_)
    | split
    | refine (useKey_anchor_of (by assumption)).trans ?_

@[simp] theorem mirrorBlocks_anchor (g n : Nat) (s : State) : (mirrorBlocks g n s).anchor = s.anchor := by
  induction n generalizing s with
  | zero => rw [mirrorBlocks]
  | succ n ih => rw [mirrorBlocks, ih, mirror_anchor]

@[simp] theorem frameEndTaken_anchor (g : Nat) (c : KeyCtx) (s : State) : (frameEndTaken g c s).anchor = s.anchor := by
  unfold frameEndTaken
  repeat' first
    | (simp only [anchor_mk, anchor_eta, deliver_anchor, setCtx_anchor]; done)
    | split

@[simp] theorem bookingFailed_anchor (b : Booking) (s : State) : (bookingFailed b s).anchor = s.anchor := by
  unfold bookingFailed
  repeat' first
    | with_reducible rfl
    | (simp only [anchor_mk, anchor_eta, anchor_ite, ite_self, implies_true, bump_anchor, cancelTx_anchor, deferItem_anchor, dropAck_anchor, modDl_anchor, voidEntry_anchor]; done)
    | simp only [anchor_mk, anchor_eta, anchor_ite, ite_self, implies_true, bump_anchor, cancelTx_anchor, deferItem_anchor, dropAck_anchor, modDl_anchor, voidEntry_anchor]
    | refine (anchor_foldl _ (fun _ _ => ?_) _ _).trans ?_
    | refine anchor_elim _ _ _ _ ?_ (fun _ => ?_)
    | refine anchor_map_getD _ _ _ _ ?_ (fun _ => ?_)
    | split

@[simp] theorem markReady_anchor (id : Nat) (s : State) : (markReady id s).anchor = s.anchor := by simp only [markReady, anchor_mk, anchor_eta]

@[simp] theorem protected'_anchor (b : Booking) (key : BitVec 256) (c : Nat) (s : State) : (protected' b key c s).anchor = s.anchor := by
  unfold protected'
  split <;> simp only [anchor_mk, anchor_eta, markReady_anchor]

@[simp] theorem protectNode_anchor (b : Booking) (i : Nat) (n : Node) (key : BitVec 256) (s : State) : (protectNode b i n key s).anchor = s.anchor := by
  unfold protectNode
  repeat' first
    | with_reducible rfl
    | (simp only [anchor_mk, anchor_eta, anchor_ite, ite_self, implies_true, bookingFailed_anchor, bump_anchor, mirror_anchor, modDl_anchor, modNode_anchor, protected'_anchor]; done)
    | simp only [anchor_mk, anchor_eta, anchor_ite, ite_self, implies_true, bookingFailed_anchor, bump_anchor, mirror_anchor, modDl_anchor, modNode_anchor, protected'_anchor]
    | refine (anchor_foldl _ (fun _ _ => ?_) _ _).trans ?_
    | refine anchor_elim _ _ _ _ ?_ (fun _ => ?_)
    | refine anchor_map_getD _ _ _ _ ?_ (fun _ => ?_)
    | split

@[simp] theorem protectGroup_anchor (b : Booking) (k : Nat) (s : State) : (protectGroup b k s).anchor = s.anchor := by
  unfold protectGroup
  repeat' first
    | with_reducible rfl
    | (simp only [anchor_mk, anchor_eta, anchor_ite, ite_self, implies_true, bookingFailed_anchor, bump_anchor, protected'_anchor, setGroupTx_anchor]; done)

@[simp] theorem protect_anchor (b : Booking) (s : State) : (protect b s).anchor = s.anchor := by
  unfold protect
  repeat' first
    | with_reducible rfl
    | (simp only [anchor_mk, anchor_eta, anchor_ite, ite_self, implies_true, bookingFailed_anchor, bump_anchor, dropSlot_anchor, markReady_anchor, protectGroup_anchor, protectNode_anchor, queueUnwrap_anchor, useKey_anchor]; done)
    | simp only [anchor_mk, anchor_eta, anchor_ite, ite_self, implies_true, bookingFailed_anchor, bump_anchor, dropSlot_anchor, markReady_anchor, protectGroup_anchor, protectNode_anchor, queueUnwrap_anchor, useKey_anchor]
    | refine (anchor_foldl _ (fun _ _ => ?_) _ _).trans ?_
    | refine anchor_elim _ _ _ _ ?_ (fun _ => ?_)
    | refine anchor_map_getD _ _ _ _ ?_ (fun _ => ?_)
    | split
    | refine (useKey_anchor_of (by assumption)).trans ?_

@[simp] theorem recordCeiling_anchor (cls id v : Nat) (s : State) : (recordCeiling cls id v s).anchor = s.anchor := by simp only [recordCeiling, anchor_mk, anchor_eta, applyRec_anchor, journalAppend_anchor, mirror_anchor]

@[simp] theorem unqueue_anchor (r : UnwrapReq) (s : State) : (unqueue r s).anchor = s.anchor := by simp only [unqueue, anchor_mk, anchor_eta]

@[simp] theorem missDone_anchor (g : Nat) (s : State) : (missDone g s).anchor = s.anchor := by
  unfold missDone
  repeat' first
    | with_reducible rfl
    | (simp only [anchor_mk, anchor_eta, anchor_ite, ite_self, implies_true, fillSlot_anchor, frameEndTaken_anchor, lockSlot_anchor, mirrorBlocks_anchor]; done)
    | simp only [anchor_mk, anchor_eta, anchor_ite, ite_self, implies_true, fillSlot_anchor, frameEndTaken_anchor, lockSlot_anchor, mirrorBlocks_anchor]
    | refine (anchor_foldl _ (fun _ _ => ?_) _ _).trans ?_
    | refine anchor_elim _ _ _ _ ?_ (fun _ => ?_)
    | refine anchor_map_getD _ _ _ _ ?_ (fun _ => ?_)
    | split

@[simp] theorem mirrorKey_anchor (d : Nat) (b : KeyMirror) (s : State) : (mirrorKey d b s).anchor = s.anchor := by simp only [mirrorKey, anchor_mk, anchor_eta, mirror_anchor]

@[simp] theorem voidKey_anchor (d kind : Nat) (it : KeyItem) (s : State) : (voidKey d kind it s).anchor = s.anchor := by
  unfold voidKey
  repeat' first
    | (simp only [anchor_mk, anchor_eta, addJob_anchor, bump_anchor, endKeyItem_anchor, hit_anchor, keySettle_anchor, mirrorKey_anchor, voidNode_anchor]; done)
    | split

end Sys2Proof.Machine
end

