-- ==== Sys2Proof/Laws/AnchorAcceptance.lean ====
section
/-! SUPPORT. The operations of Machine/Acceptance.lean that leave the memory, the fuses and the queue alone, one lemma each. -/

set_option linter.unusedSimpArgs false
set_option linter.unusedTactic false

namespace Sys2Proof.Machine
open Sys2Proof Host

@[simp] theorem modCand_anchor (g : Nat) (f : Cand → Cand) (s : State) : (modCand g f s).anchor = s.anchor := by simp only [modCand, anchor_mk, anchor_eta]

@[simp] theorem candBook_anchor (g : Nat) (x : Group) (sm : Summary) (s : State) : (candBook g x sm s).anchor = s.anchor := by
  unfold candBook
  repeat' first
    | with_reducible rfl
    | (simp only [anchor_mk, anchor_eta, anchor_ite, ite_self, implies_true, bookAck_anchor, mirrorBook_anchor, modCand_anchor]; done)
    | simp only [anchor_mk, anchor_eta, anchor_ite, ite_self, implies_true, bookAck_anchor, mirrorBook_anchor, modCand_anchor]
    | refine (anchor_foldl _ (fun _ _ => ?_) _ _).trans ?_
    | refine anchor_elim _ _ _ _ ?_ (fun _ => ?_)
    | refine anchor_map_getD _ _ _ _ ?_ (fun _ => ?_)
    | split
    | refine (bookAck_anchor_of (by assumption)).trans ?_

@[simp] theorem duplicate_anchor (g : Nat) (c : Cand) (f : FrameInfo) (e : Option Time) (s : State) : (duplicate g c f e s).anchor = s.anchor := by
  unfold duplicate
  repeat' first
    | (simp only [anchor_mk, anchor_eta, bump_anchor, candidateClose_anchor, hit_anchor]; done)
    | split

@[simp] theorem matchCand_anchor (g : Nat) (f : FrameInfo) (x : Entry) (s : State) : (matchCand g f x s).anchor = s.anchor := by
  unfold matchCand
  split <;> simp only [anchor_mk, anchor_eta, bump_anchor, candidateClose_anchor, framePlane_anchor, modEntry_anchor]

@[simp] theorem passCand_anchor (g : Nat) (c : Cand) (f : FrameInfo) (s : State) : (passCand g c f s).anchor = s.anchor := by
  unfold passCand
  repeat' first
    | (simp only [anchor_mk, anchor_eta, modCand_anchor, raiseHwm_anchor]; done)
    | split

@[simp] theorem lastChecks_anchor (g : Nat) (c : Cand) (f : FrameInfo) (s : State) : (lastChecks g c f s).anchor = s.anchor := by
  unfold lastChecks
  repeat' first
    | (simp only [anchor_mk, anchor_eta, bump_anchor, candidateClose_anchor, passCand_anchor]; done)
    | split

@[simp] theorem runChecks_anchor (g : Nat) (s : State) : (runChecks g s).anchor = s.anchor := by
  unfold runChecks
  repeat' first
    | (simp only [anchor_mk, anchor_eta, bump_anchor, candidateClose_anchor, duplicate_anchor, lastChecks_anchor, matchCand_anchor]; done)
    | split

@[simp] theorem recheck_anchor (e : Eui) (s : State) : (recheck e s).anchor = s.anchor := by
  unfold recheck
  repeat' first
    | with_reducible rfl
    | (simp only [anchor_mk, anchor_eta, anchor_ite, ite_self, implies_true, runChecks_anchor]; done)
    | simp only [anchor_mk, anchor_eta, anchor_ite, ite_self, implies_true, runChecks_anchor]
    | refine (anchor_foldl _ (fun _ _ => ?_) _ _).trans ?_

@[simp] theorem decide'_anchor (g j : Nat) (c : Cand) (s : State) : (decide' g j c s).anchor = s.anchor := by
  unfold decide'
  repeat' first
    | (simp only [anchor_mk, anchor_eta, acceptEntry_anchor, groupSettle_anchor, modEntry_anchor, recheck_anchor]; done)
    | split

@[simp] theorem candLate_anchor (g : Nat) (c : Cand) (s : State) : (candLate g c s).anchor = s.anchor := by
  unfold candLate
  repeat' first
    | (simp only [anchor_mk, anchor_eta, bump_anchor, candidateClose_anchor, modGroup_anchor, out_anchor, recheck_anchor]; done)
    | split

@[simp] theorem stageFull_anchor (g : Nat) (f : FrameInfo) (s : State) : (stageFull g f s).anchor = s.anchor := by simp only [stageFull, anchor_mk, anchor_eta, bump_anchor, candidateClose_anchor, recheck_anchor]

@[simp] theorem mirrorLate_anchor (g j : Nat) (c : Cand) (s : State) : (mirrorLate g j c s).anchor = s.anchor := by
  unfold mirrorLate
  split <;> simp only [anchor_mk, anchor_eta, bump_anchor, modEntry_anchor, recheck_anchor, voidEntry_anchor]

@[simp] theorem entryCommitted_anchor (j : Nat) (s : State) : (entryCommitted j s).anchor = s.anchor := by
  unfold entryCommitted
  repeat' first
    | (simp only [anchor_mk, anchor_eta, acceptEntry_anchor, decide'_anchor, mirrorLate_anchor, modEntry_anchor]; done)
    | split

@[simp] theorem soloCommits_anchor (s : State) : (soloCommits s).anchor = s.anchor := by
  unfold soloCommits
  repeat' first
    | with_reducible rfl
    | (simp only [anchor_mk, anchor_eta, anchor_ite, ite_self, implies_true, entryCommitted_anchor]; done)
    | simp only [anchor_mk, anchor_eta, anchor_ite, ite_self, implies_true, entryCommitted_anchor]
    | refine (anchor_foldl _ (fun _ _ => ?_) _ _).trans ?_

@[simp] theorem bookShadow_anchor (g : Nat) (c : Cand) (s : State) : (bookShadow g c s).anchor = s.anchor := by
  unfold bookShadow
  repeat' first
    | (simp only [anchor_mk, anchor_eta, candBook_anchor]; done)
    | split

@[simp] theorem promote_anchor (orphan : Bool) (g : Nat) (s : State) : (promote orphan g s).anchor = s.anchor := by
  unfold promote
  repeat' first
    | (simp only [anchor_mk, anchor_eta, lastChecks_anchor, modCand_anchor, runChecks_anchor]; done)
    | split

@[simp] theorem goLive_anchor (orphan : Bool) (s : State) : (goLive orphan s).anchor = s.anchor := by
  unfold goLive
  repeat' first
    | with_reducible rfl
    | (simp only [anchor_mk, anchor_eta, anchor_ite, ite_self, implies_true, bookShadow_anchor, promote_anchor]; done)
    | simp only [anchor_mk, anchor_eta, anchor_ite, ite_self, implies_true, bookShadow_anchor, promote_anchor]
    | refine (anchor_foldl _ (fun _ _ => ?_) _ _).trans ?_

end Sys2Proof.Machine
end

