-- ==== Sys2Proof/Laws/AnchorNodes.lean ====
section
/-! SUPPORT. The operations of Machine/Nodes.lean that leave the memory, the fuses and the queue alone, one lemma each. -/

set_option linter.unusedSimpArgs false
set_option linter.unusedTactic false

namespace Sys2Proof.Machine
open Sys2Proof Host

@[simp] theorem collect_anchor (e : Eui) (ports : List (Nat × Int)) (isNew : Bool) (reserve : Option Nat) (s : State) : (collect e ports isNew reserve s).anchor = s.anchor := by
  unfold collect
  split <;> simp only [anchor_mk, anchor_eta]

@[simp] theorem learnInto_anchor (i : Nat) (ports : List (Nat × Int)) (s : State) : (learnInto i ports s).anchor = s.anchor := by simp only [learnInto, anchor_mk, anchor_eta, modNode_anchor]

@[simp] theorem closeNew_anchor (w : LearnWin) (s : State) : (closeNew w s).anchor = s.anchor := by
  unfold closeNew
  repeat' first
    | with_reducible rfl
    | (simp only [anchor_mk, anchor_eta, anchor_ite, ite_self, implies_true, giveToken_anchor, spendToken_anchor]; done)
    | simp only [anchor_mk, anchor_eta, anchor_ite, ite_self, implies_true, giveToken_anchor, spendToken_anchor]
    | refine (anchor_foldl _ (fun _ _ => ?_) _ _).trans ?_
    | refine anchor_elim _ _ _ _ ?_ (fun _ => ?_)
    | refine anchor_map_getD _ _ _ _ ?_ (fun _ => ?_)
    | split

@[simp] theorem homeOn_anchor (i p : Nat) (move : Bool) (s : State) : (homeOn i p move s).anchor = s.anchor := by
  unfold homeOn
  repeat' first
    | (simp only [anchor_mk, anchor_eta, bump_anchor, modNode_anchor, spendToken_anchor]; done)
    | split

@[simp] theorem closeOld_anchor (w : LearnWin) (i : Nat) (n : Node) (s : State) : (closeOld w i n s).anchor = s.anchor := by
  unfold closeOld
  repeat' first
    | (simp only [anchor_mk, anchor_eta, hit_anchor, homeOn_anchor]; done)
    | split

@[simp] theorem bornNode_anchor (m : NewSender) (i : Nat) (p : NodePlace) (s : State) : (bornNode m i p s).anchor = s.anchor := by
  unfold bornNode
  repeat' first
    | with_reducible rfl
    | (simp only [anchor_mk, anchor_eta, anchor_ite, ite_self, implies_true, bump_anchor, closeNew_anchor, collect_anchor, learnInto_anchor, putNode_anchor]; done)
    | simp only [anchor_mk, anchor_eta, anchor_ite, ite_self, implies_true, bump_anchor, closeNew_anchor, collect_anchor, learnInto_anchor, putNode_anchor]
    | refine (anchor_foldl _ (fun _ _ => ?_) _ _).trans ?_
    | refine anchor_elim _ _ _ _ ?_ (fun _ => ?_)
    | refine anchor_map_getD _ _ _ _ ?_ (fun _ => ?_)
    | split

@[simp] theorem creationLost_anchor (e : Eui) (s : State) : (creationLost e s).anchor = s.anchor := by simp only [creationLost, anchor_mk, anchor_eta]

@[simp] theorem bornRebuild_anchor (m : NewSender) (i : Nat) (s : State) : (bornRebuild m i s).anchor = s.anchor := by
  unfold bornRebuild
  split <;> simp only [anchor_mk, anchor_eta, bornNode_anchor, bump_anchor, creationLost_anchor]

@[simp] theorem makeRoom_anchor (e : Eui) (moves : List (Nat × Nat)) (s : State) : (makeRoom e moves s).2.anchor = s.anchor := by simp only [makeRoom, anchor_mk, anchor_eta]

theorem makeRoom_anchor_of {e : Eui} {moves : List (Nat × Nat)} {s : State} {o_ : Option Nat} {u_ : State} (h_ : makeRoom e moves s = (o_, u_)) : u_.anchor = s.anchor := by
  rw [← makeRoom_anchor e moves s, h_]

@[simp] theorem addTransit_anchor (flood : Bool) (dest : Eui) (pan : BitVec 16) (len : Nat) (s : State) : (addTransit flood dest pan len s).anchor = s.anchor := by
  unfold addTransit
  split <;> simp only [anchor_mk, anchor_eta, ownFlood_anchor]

@[simp] theorem forwardBy_anchor (p : Packet) (s : State) : (forwardBy p s).anchor = s.anchor := by
  unfold forwardBy
  repeat' first
    | with_reducible rfl
    | (simp only [anchor_mk, anchor_eta, anchor_ite, ite_self, implies_true, addTransit_anchor, bump_anchor, out_anchor]; done)
    | simp only [anchor_mk, anchor_eta, anchor_ite, ite_self, implies_true, addTransit_anchor, bump_anchor, out_anchor]
    | refine (anchor_foldl _ (fun _ _ => ?_) _ _).trans ?_
    | refine anchor_elim _ _ _ _ ?_ (fun _ => ?_)
    | refine anchor_map_getD _ _ _ _ ?_ (fun _ => ?_)
    | split

end Sys2Proof.Machine
end

