-- ==== Sys2Proof/Laws/AnchorFerry.lean ====
section
/-! SUPPORT. The operations of Machine/Ferry.lean that leave the memory, the fuses and the queue alone, one lemma each. -/

set_option linter.unusedSimpArgs false
set_option linter.unusedTactic false

namespace Sys2Proof.Machine
open Sys2Proof Host

@[simp] theorem setPath_anchor (e p : Nat) (s : State) : (setPath e p s).anchor = s.anchor := by
  unfold setPath
  split <;> simp only [anchor_mk, anchor_eta, occurs_anchor]

@[simp] theorem choosePath_anchor (s : State) : (choosePath s).anchor = s.anchor := by simp only [choosePath, anchor_mk, anchor_eta, setPath_anchor]

@[simp] theorem peerHeard_anchor (e : Nat) (s : State) : (peerHeard e s).anchor = s.anchor := by simp only [peerHeard, anchor_mk, anchor_eta, choosePath_anchor]

@[simp] theorem frameHeard_anchor (f : FerryFrame) (s : State) : (frameHeard f s).anchor = s.anchor := by
  unfold frameHeard
  split <;> simp only [anchor_mk, anchor_eta, peerHeard_anchor]

@[simp] theorem ferryArrives_anchor (types : List Nat) (f : FerryFrame) (s : State) : (ferryArrives types f s).2.anchor = s.anchor := by
  unfold ferryArrives
  repeat' first
    | with_reducible rfl
    | (simp only [anchor_mk, anchor_eta, anchor_ite, ite_self, implies_true, bump_anchor]; done)
    | simp only [anchor_mk, anchor_eta, anchor_ite, ite_self, implies_true, bump_anchor]
    | refine (anchor_foldl _ (fun _ _ => ?_) _ _).trans ?_
    | refine anchor_elim _ _ _ _ ?_ (fun _ => ?_)
    | refine anchor_map_getD _ _ _ _ ?_ (fun _ => ?_)
    | split

theorem ferryArrives_anchor_of {types : List Nat} {f : FerryFrame} {s : State} {o_ : Option FerryHead} {u_ : State} (h_ : ferryArrives types f s = (o_, u_)) : u_.anchor = s.anchor := by
  rw [← ferryArrives_anchor types f s, h_]

@[simp] theorem ferryRx_anchor (type : Nat) (f : FerryFrame) (s : State) : (ferryRx type f s).2.anchor = s.anchor := by
  unfold ferryRx
  repeat' first
    | with_reducible rfl
    | (simp only [anchor_mk, anchor_eta, anchor_ite, ite_self, implies_true, bump_anchor, ferryArrives_anchor]; done)
    | simp only [anchor_mk, anchor_eta, anchor_ite, ite_self, implies_true, bump_anchor, ferryArrives_anchor]
    | refine (anchor_foldl _ (fun _ _ => ?_) _ _).trans ?_
    | refine anchor_elim _ _ _ _ ?_ (fun _ => ?_)
    | refine anchor_map_getD _ _ _ _ ?_ (fun _ => ?_)
    | split
    | refine (ferryArrives_anchor_of (by assumption)).trans ?_

theorem ferryRx_anchor_of {type : Nat} {f : FerryFrame} {s : State} {o_ : Option Octets} {u_ : State} (h_ : ferryRx type f s = (o_, u_)) : u_.anchor = s.anchor := by
  rw [← ferryRx_anchor type f s, h_]

@[simp] theorem conflictCheck_anchor (it : DlItem) (s : State) : (conflictCheck it s).anchor = s.anchor := by
  unfold conflictCheck
  split <;> simp only [anchor_mk, anchor_eta, bump_anchor]

@[simp] theorem dlItem_anchor (it : DlItem) (s0 : State) : (dlItem it s0).anchor = s0.anchor := by
  unfold dlItem
  repeat' first
    | with_reducible rfl
    | (simp only [anchor_mk, anchor_eta, anchor_ite, ite_self, implies_true, bump_anchor, conflictCheck_anchor, dlAccept_anchor, dlDrain_anchor, ferryPacket_anchor, out_anchor]; done)

@[simp] theorem stickyCleared_anchor (b : Nat) (s : State) : (stickyCleared b s).anchor = s.anchor := by
  unfold stickyCleared
  repeat' first
    | (simp only [anchor_mk, anchor_eta]; done)
    | split

@[simp] theorem sendEntries_anchor (n : Nat) (l : List Entry) (s : State) : (sendEntries n l s).anchor = s.anchor := by
  induction n generalizing l s with
  | zero => rw [sendEntries]
  | succ n ih =>
    cases l with
    | nil => rw [sendEntries]
    | cons e r => rw [sendEntries, ih]; simp only [out_anchor, ferryPacket_anchor]

@[simp] theorem sendHeartbeat_anchor (isOpen : Bool) (session : Nat) (s : State) : (sendHeartbeat isOpen session s).anchor = s.anchor := by simp only [sendHeartbeat, anchor_mk, anchor_eta, out_anchor]

@[simp] theorem sendOpen_anchor (session : Nat) (s : State) : (sendOpen session s).anchor = s.anchor := by simp only [sendOpen, anchor_mk, anchor_eta, out_anchor]

@[simp] theorem openSession_anchor (s : State) : (openSession s).anchor = s.anchor := by
  unfold openSession
  repeat' first
    | with_reducible rfl
    | (simp only [anchor_mk, anchor_eta, anchor_ite, ite_self, implies_true, bump_anchor, sendHeartbeat_anchor, sendOpen_anchor, useKey_anchor]; done)
    | simp only [anchor_mk, anchor_eta, anchor_ite, ite_self, implies_true, bump_anchor, sendHeartbeat_anchor, sendOpen_anchor, useKey_anchor]
    | refine (anchor_foldl _ (fun _ _ => ?_) _ _).trans ?_
    | refine anchor_elim _ _ _ _ ?_ (fun _ => ?_)
    | refine anchor_map_getD _ _ _ _ ?_ (fun _ => ?_)
    | split
    | refine (useKey_anchor_of (by assumption)).trans ?_

@[simp] theorem sessionOpened_anchor (f : FerryFrame) (nonceH : BitVec 128) (s : State) : (sessionOpened f nonceH s).anchor = s.anchor := by simp only [sessionOpened, anchor_mk, anchor_eta, frameHeard_anchor, mirror_anchor]

end Sys2Proof.Machine
end

