-- ==== Sys2Proof/Laws/AnchorReset.lean ====
section
/-! SUPPORT. The operations of Machine/Reset.lean that leave the memory, the fuses and the queue alone, one lemma each. -/

set_option linter.unusedSimpArgs false
set_option linter.unusedTactic false

namespace Sys2Proof.Machine
open Sys2Proof Host

@[simp] theorem releaseIslands_anchor (s : State) : (releaseIslands s).anchor = s.anchor := by simp only [releaseIslands, anchor_mk, anchor_eta]

@[simp] theorem warmBegin_anchor (s : State) : (warmBegin s).anchor = s.anchor := by
  unfold warmBegin
  split <;> simp only [anchor_mk, anchor_eta, releaseIslands_anchor]

@[simp] theorem dropCand_anchor (g : Nat) (c : Cand) (s : State) : (dropCand g c s).anchor = s.anchor := by
  unfold dropCand
  split <;> simp only [anchor_mk, anchor_eta, bump_anchor, voidEntry_anchor]

@[simp] theorem warmEnter_anchor (s : State) : (warmEnter s).anchor = s.anchor := by
  unfold warmEnter
  repeat' first
    | with_reducible rfl
    | (simp only [anchor_mk, anchor_eta, anchor_ite, ite_self, implies_true, dropCand_anchor, releaseToken_anchor]; done)
    | simp only [anchor_mk, anchor_eta, anchor_ite, ite_self, implies_true, dropCand_anchor, releaseToken_anchor]
    | refine (anchor_foldl _ (fun _ _ => ?_) _ _).trans ?_

end Sys2Proof.Machine
end

