-- ==== Sys2Proof/Laws/AnchorUpgrade.lean ====
section
/-! SUPPORT. The operations of Machine/Upgrade.lean that leave the memory, the fuses and the queue alone, one lemma each. -/

set_option linter.unusedSimpArgs false
set_option linter.unusedTactic false

namespace Sys2Proof.Machine
open Sys2Proof Host

@[simp] theorem setStatus_anchor (b : Bool) (h : ImageHdr) (confirm attempts : Word) (s : State) : (setStatus b h confirm attempts s).anchor = s.anchor := by
  unfold setStatus
  split <;> simp only [anchor_mk, anchor_eta]

@[simp] theorem eraseStatus_anchor (b : Bool) (s : State) : (eraseStatus b s).anchor = s.anchor := by
  unfold eraseStatus
  split <;> simp only [anchor_mk, anchor_eta]

@[simp] theorem stepDone_anchor (n : Nat) (s : State) : (stepDone n s).anchor = s.anchor := by simp only [stepDone, anchor_mk, anchor_eta]

@[simp] theorem pieceAsk_anchor (s : State) : (pieceAsk s).anchor = s.anchor := by
  unfold pieceAsk
  split <;> simp only [anchor_mk, anchor_eta, askClamp_anchor]

@[simp] theorem pieceQueue_anchor (p cipher tag : Nat) (s : State) : (pieceQueue p cipher tag s).anchor = s.anchor := by
  unfold pieceQueue
  repeat' first
    | (simp only [anchor_mk, anchor_eta, pieceAsk_anchor]; done)
    | split

@[simp] theorem completeCheck_anchor (s : State) : (completeCheck s).anchor = s.anchor := by
  unfold completeCheck
  repeat' first
    | (simp only [anchor_mk, anchor_eta, stepDone_anchor]; done)
    | split

@[simp] theorem discardUpdate_anchor (s : State) : (discardUpdate s).anchor = s.anchor := by simp only [discardUpdate, anchor_mk, anchor_eta, freeClampOf_anchor]

@[simp] theorem actTo_anchor (n : Nat) (s : State) : (actTo n s).anchor = s.anchor := by simp only [actTo, anchor_mk, anchor_eta, mirror_anchor]

@[simp] theorem actFail_anchor (s : State) : (actFail s).anchor = s.anchor := by
  unfold actFail
  repeat' first
    | (simp only [anchor_mk, anchor_eta, actTo_anchor, endItem_anchor, occurs_anchor]; done)
    | split

@[simp] theorem beginCopy_anchor (s : State) : (beginCopy s).anchor = s.anchor := by simp only [beginCopy, anchor_mk, anchor_eta, askClamp_anchor, stepDone_anchor]

@[simp] theorem spendAttempts_anchor (s : State) : (spendAttempts s).anchor = s.anchor := by
  unfold spendAttempts
  split <;> simp only [anchor_mk, anchor_eta, setStatus_anchor]

@[simp] theorem actTurn_anchor (revert : Bool) (s : State) : (actTurn revert s).anchor = s.anchor := by
  unfold actTurn
  split <;> simp only [anchor_mk, anchor_eta, beginCopy_anchor, spendAttempts_anchor, warmEnter_anchor]

@[simp] theorem actPartnerLost_anchor (s : State) : (actPartnerLost s).anchor = s.anchor := by
  unfold actPartnerLost
  repeat' first
    | (simp only [anchor_mk, anchor_eta, actTo_anchor]; done)
    | split

@[simp] theorem actTaken_anchor (planned : Bool) (s : State) : (actTaken planned s).anchor = s.anchor := by
  unfold actTaken
  repeat' first
    | (simp only [anchor_mk, anchor_eta, actFail_anchor, actTo_anchor]; done)
    | split

@[simp] theorem copyHold_anchor (s : State) : (copyHold s).anchor = s.anchor := by simp only [copyHold, anchor_mk, anchor_eta, askClamp_anchor, freeClampOf_anchor]

@[simp] theorem copyConfirmed_anchor (s : State) : (copyConfirmed s).anchor = s.anchor := by
  unfold copyConfirmed
  split <;> simp only [anchor_mk, anchor_eta, setStatus_anchor]

@[simp] theorem reclaim_anchor (s : State) : (reclaim s).anchor = s.anchor := by simp only [reclaim, anchor_mk, anchor_eta]

@[simp] theorem actDone_anchor (s : State) : (actDone s).anchor = s.anchor := by
  unfold actDone
  repeat' first
    | (simp only [anchor_mk, anchor_eta, actTo_anchor, endItem_anchor]; done)
    | split

end Sys2Proof.Machine
end

