-- ==== Sys2Proof/Laws/AnchorMirror.lean ====
section
/-! SUPPORT. The operations of Machine/Mirror.lean that leave the memory, the fuses and the queue alone, one lemma each. -/

set_option linter.unusedSimpArgs false
set_option linter.unusedTactic false

namespace Sys2Proof.Machine
open Sys2Proof Host

@[simp] theorem answer_anchor (h : MirrorHdr) (s : State) : (answer h s).anchor = s.anchor := by
  unfold answer
  split <;> simp only [anchor_mk, anchor_eta, commitTo_anchor]

@[simp] theorem applyUplink_anchor (g : Nat) (e : EntryHdr) (s : State) : (applyUplink g e s).anchor = s.anchor := by
  unfold applyUplink
  repeat' first
    | with_reducible rfl
    | (simp only [anchor_mk, anchor_eta, anchor_ite, ite_self, implies_true, acceptEntry_anchor, matchCand_anchor]; done)
    | simp only [anchor_mk, anchor_eta, anchor_ite, ite_self, implies_true, acceptEntry_anchor, matchCand_anchor]
    | refine (anchor_foldl _ (fun _ _ => ?_) _ _).trans ?_
    | refine anchor_elim _ _ _ _ ?_ (fun _ => ?_)
    | refine anchor_map_getD _ _ _ _ ?_ (fun _ => ?_)
    | split

@[simp] theorem applyEntry_anchor (h : MirrorHdr) (g : Nat) (e : EntryHdr) (s0 : State) : (applyEntry h g e s0).anchor = s0.anchor := by
  unfold applyEntry
  repeat' first
    | with_reducible rfl
    | (simp only [anchor_mk, anchor_eta, anchor_ite, ite_self, implies_true, answer_anchor, applyUplink_anchor, dlAdvance_anchor, modDl_anchor]; done)

@[simp] theorem applyAckBook_anchor (b : AckBook) (s : State) : (applyAckBook b s).anchor = s.anchor := by simp only [applyAckBook, anchor_mk, anchor_eta, charge_anchor, logMirrored_anchor]

@[simp] theorem applyDl_anchor (h : MirrorHdr) (b : DlMirror) (s : State) : (applyDl h b s).anchor = s.anchor := by
  unfold applyDl
  repeat' first
    | (simp only [anchor_mk, anchor_eta, answer_anchor, dlCommitted_anchor, modDl_anchor]; done)
    | split

@[simp] theorem applyCeilings_anchor (c : Ceilings) (s : State) : (applyCeilings c s).anchor = s.anchor := by
  unfold applyCeilings
  repeat' first
    | with_reducible rfl
    | (simp only [anchor_mk, anchor_eta, anchor_ite, ite_self, implies_true, modNode_anchor]; done)
    | simp only [anchor_mk, anchor_eta, anchor_ite, ite_self, implies_true, modNode_anchor]
    | refine (anchor_foldl _ (fun _ _ => ?_) _ _).trans ?_
    | refine anchor_elim _ _ _ _ ?_ (fun _ => ?_)
    | refine anchor_map_getD _ _ _ _ ?_ (fun _ => ?_)
    | split

@[simp] theorem applyAckPoint_anchor (j : Nat) (s : State) : (applyAckPoint j s).anchor = s.anchor := by
  unfold applyAckPoint
  split <;> simp only [anchor_mk, anchor_eta]

@[simp] theorem applySession_anchor (n ceiling high : Nat) (nd nh : BitVec 128) (s : State) : (applySession n ceiling high nd nh s).anchor = s.anchor := by simp only [applySession, anchor_mk, anchor_eta]

@[simp] theorem applySchedule_anchor (h : MirrorHdr) (c : SchedChange) (s : State) : (applySchedule h c s).anchor = s.anchor := by
  unfold applySchedule
  repeat' first
    | (simp only [anchor_mk, anchor_eta, applyChange_anchor, refreshCfg_anchor]; done)
    | split

@[simp] theorem keyItemDone_anchor (it : KeyItem) (s : State) : (keyItemDone it s).anchor = s.anchor := by
  unfold keyItemDone
  repeat' first
    | with_reducible rfl
    | (simp only [anchor_mk, anchor_eta, anchor_ite, ite_self, implies_true, dlAdvance_anchor, endItem_anchor]; done)
    | simp only [anchor_mk, anchor_eta, anchor_ite, ite_self, implies_true, dlAdvance_anchor, endItem_anchor]
    | refine (anchor_foldl _ (fun _ _ => ?_) _ _).trans ?_

@[simp] theorem mirrorStore_anchor (h : MirrorHdr) (r : KeyRec) (s : State) : (mirrorStore h r s).anchor = s.anchor := by
  unfold mirrorStore
  split <;> simp only [anchor_mk, anchor_eta, addJob_anchor, applyRec_anchor]

@[simp] theorem applyKeyItem_anchor (h : MirrorHdr) (it : KeyItem) (s : State) : (applyKeyItem h it s).anchor = s.anchor := by
  unfold applyKeyItem
  repeat' first
    | with_reducible rfl
    | (simp only [anchor_mk, anchor_eta, anchor_ite, ite_self, implies_true, answer_anchor, keyItemDone_anchor, loadNode_anchor, mirrorStore_anchor, rewrapStart_anchor, voidNode_anchor]; done)
    | simp only [anchor_mk, anchor_eta, anchor_ite, ite_self, implies_true, answer_anchor, keyItemDone_anchor, loadNode_anchor, mirrorStore_anchor, rewrapStart_anchor, voidNode_anchor]
    | refine (anchor_foldl _ (fun _ _ => ?_) _ _).trans ?_
    | refine anchor_elim _ _ _ _ ?_ (fun _ => ?_)
    | refine anchor_map_getD _ _ _ _ ?_ (fun _ => ?_)
    | split

@[simp] theorem applyKey_anchor (h : MirrorHdr) (b : KeyMirror) (s : State) : (applyKey h b s).anchor = s.anchor := by
  unfold applyKey
  repeat' first
    | (simp only [anchor_mk, anchor_eta, answer_anchor, applyKeyItem_anchor, bump_anchor, commitTo_anchor, mirrorStore_anchor, recordCeiling_anchor]; done)
    | split

@[simp] theorem applyNode_anchor (create : Bool) (e : Eui) (i : Nat) (relay : Bool) (pan : BitVec 16) (b : Option NodeBulk) (s : State) : (applyNode create e i relay pan b s).anchor = s.anchor := by
  unfold applyNode
  repeat' first
    | (simp only [anchor_mk, anchor_eta, bump_anchor, deleteNode_anchor]; done)
    | split

@[simp] theorem applyCampWhole_anchor (d : CampDef) (frags : List Nat) (members : List (Nat × Nat)) (round cursor st : Nat) (s : State) : (applyCampWhole d frags members round cursor st s).anchor = s.anchor := by simp only [applyCampWhole, anchor_mk, anchor_eta]

@[simp] theorem applyTime_anchor (p : Time) (s : State) : (applyTime p s).anchor = s.anchor := by
  unfold applyTime
  split <;> simp only [anchor_mk, anchor_eta, slewTo_anchor]

@[simp] theorem applyDigest_anchor (a : List (Nat × BitVec 64)) (s : State) : (applyDigest a s).anchor = s.anchor := by
  unfold applyDigest
  repeat' first
    | with_reducible rfl
    | (simp only [anchor_mk, anchor_eta, anchor_ite, ite_self, implies_true, emit_anchor]; done)
    | simp only [anchor_mk, anchor_eta, anchor_ite, ite_self, implies_true, emit_anchor]
    | refine (anchor_foldl _ (fun _ _ => ?_) _ _).trans ?_

@[simp] theorem applyRange_anchor (m : RangeMsg) (s : State) : (applyRange m s).anchor = s.anchor := by
  unfold applyRange
  repeat' first
    | with_reducible rfl
    | (simp only [anchor_mk, anchor_eta, anchor_ite, ite_self, implies_true, bump_anchor, emit_anchor, modNode_anchor]; done)
    | simp only [anchor_mk, anchor_eta, anchor_ite, ite_self, implies_true, bump_anchor, emit_anchor, modNode_anchor]
    | refine (anchor_foldl _ (fun _ _ => ?_) _ _).trans ?_
    | refine anchor_elim _ _ _ _ ?_ (fun _ => ?_)
    | refine anchor_map_getD _ _ _ _ ?_ (fun _ => ?_)
    | split

@[simp] theorem applyHandover_anchor (h : MirrorHdr) (th : Time) (e : Nat) (s : State) : (applyHandover h th e s).anchor = s.anchor := by
  unfold applyHandover
  split <;> simp only [anchor_mk, anchor_eta, answer_anchor]

@[simp] theorem applyReleased_anchor (s : State) : (applyReleased s).anchor = s.anchor := by
  unfold applyReleased
  repeat' first
    | (simp only [anchor_mk, anchor_eta]; done)
    | split

@[simp] theorem refreshGiveUp_anchor (s : State) : (refreshGiveUp s).anchor = s.anchor := by simp only [refreshGiveUp, anchor_mk, anchor_eta]

@[simp] theorem heardOn_anchor (l : Nat) (s : State) : (heardOn l s).anchor = s.anchor := by simp only [heardOn, anchor_mk, anchor_eta]

end Sys2Proof.Machine
end

