-- ==== Sys2Proof/Laws/AnchorPair.lean ====
section
/-! SUPPORT. The operations of Machine/Pair.lean that leave the memory, the fuses and the queue alone, one lemma each. -/

set_option linter.unusedSimpArgs false
set_option linter.unusedTactic false

namespace Sys2Proof.Machine
open Sys2Proof Host

@[simp] theorem raiseEpoch_anchor (e : Nat) (s : State) : (raiseEpoch e s).anchor = s.anchor := by
  unfold raiseEpoch
  repeat' first
    | with_reducible rfl
    | (simp only [anchor_mk, anchor_eta, anchor_ite, ite_self, implies_true, mirror_anchor]; done)

@[simp] theorem sendPairing_anchor (m : PairingMsg) (s : State) : (sendPairing m s).anchor = s.anchor := by simp only [sendPairing, anchor_mk, anchor_eta, out_anchor]

@[simp] theorem beginPairing_anchor (s : State) : (beginPairing s).anchor = s.anchor := by
  unfold beginPairing
  repeat' first
    | with_reducible rfl
    | (simp only [anchor_mk, anchor_eta, anchor_ite, ite_self, implies_true, sendPairing_anchor]; done)

@[simp] theorem detach_anchor (s : State) : (detach s).anchor = s.anchor := by simp only [detach, anchor_mk, anchor_eta, beginPairing_anchor, refreshSource_anchor]

@[simp] theorem goAbsent_anchor (s : State) : (goAbsent s).anchor = s.anchor := by
  unfold goAbsent
  split <;> simp only [anchor_mk, anchor_eta, occurs_anchor, raiseEpoch_anchor]

@[simp] theorem pairFail_anchor (e : Nat) (s : State) : (pairFail e s).anchor = s.anchor := by
  unfold pairFail
  repeat' first
    | (simp only [anchor_mk, anchor_eta, goAbsent_anchor, occurs_anchor]; done)
    | split

@[simp] theorem takeHello_anchor (h : Hello) (s0 : State) : (takeHello h s0).anchor = s0.anchor := by
  unfold takeHello
  repeat' first
    | with_reducible rfl
    | (simp only [anchor_mk, anchor_eta, anchor_ite, ite_self, implies_true, beginPairing_anchor, bump_anchor, detach_anchor, pairFail_anchor, sendPairing_anchor]; done)

@[simp] theorem sendKeys_anchor (h : Hello) (s : State) : (sendKeys h s).anchor = s.anchor := by
  unfold sendKeys
  repeat' first
    | with_reducible rfl
    | (simp only [anchor_mk, anchor_eta, anchor_ite, ite_self, implies_true, sendPairing_anchor]; done)
    | simp only [anchor_mk, anchor_eta, anchor_ite, ite_self, implies_true, sendPairing_anchor]
    | refine (anchor_foldl _ (fun _ _ => ?_) _ _).trans ?_

@[simp] theorem bulkWalk_anchor (s : State) : (bulkWalk s).anchor = s.anchor := by
  unfold bulkWalk
  repeat' first
    | with_reducible rfl
    | (simp only [anchor_mk, anchor_eta, anchor_ite, ite_self, implies_true, emitAs_anchor]; done)
    | simp only [anchor_mk, anchor_eta, anchor_ite, ite_self, implies_true, emitAs_anchor]
    | refine (anchor_foldl _ (fun _ _ => ?_) _ _).trans ?_

@[simp] theorem pairedActive_anchor (s : State) : (pairedActive s).anchor = s.anchor := by
  unfold pairedActive
  repeat' first
    | with_reducible rfl
    | (simp only [anchor_mk, anchor_eta, anchor_ite, ite_self, implies_true, actFail_anchor, bulkWalk_anchor]; done)

@[simp] theorem pairedResync_anchor (e : Nat) (s : State) : (pairedResync e s).anchor = s.anchor := by simp only [pairedResync, anchor_mk, anchor_eta]

@[simp] theorem takeConfirm_anchor (s : State) : (takeConfirm s).anchor = s.anchor := by
  unfold takeConfirm
  repeat' first
    | (simp only [anchor_mk, anchor_eta, pairedActive_anchor, pairedResync_anchor, raiseEpoch_anchor, sendKeys_anchor]; done)
    | split

@[simp] theorem cancelHandover_anchor (s : State) : (cancelHandover s).anchor = s.anchor := by
  unfold cancelHandover
  repeat' first
    | (simp only [anchor_mk, anchor_eta, endItem_anchor]; done)
    | split

@[simp] theorem becomeStandby_anchor (s : State) : (becomeStandby s).anchor = s.anchor := by
  unfold becomeStandby
  repeat' first
    | with_reducible rfl
    | (simp only [anchor_mk, anchor_eta, anchor_ite, ite_self, implies_true, cancelTx_anchor, modCand_anchor, modEntry_anchor, refreshSource_anchor]; done)
    | simp only [anchor_mk, anchor_eta, anchor_ite, ite_self, implies_true, cancelTx_anchor, modCand_anchor, modEntry_anchor, refreshSource_anchor]
    | refine (anchor_foldl _ (fun _ _ => ?_) _ _).trans ?_
    | refine anchor_elim _ _ _ _ ?_ (fun _ => ?_)
    | refine anchor_map_getD _ _ _ _ ?_ (fun _ => ?_)
    | split

@[simp] theorem takeOwed_anchor (ts ta : Time) (e : Entry) (s : State) : (takeOwed ts ta e s).anchor = s.anchor := by
  unfold takeOwed
  repeat' first
    | with_reducible rfl
    | (simp only [anchor_mk, anchor_eta, anchor_ite, ite_self, implies_true, acceptEntry_anchor, bookNow_anchor, modEntry_anchor, refund_anchor, voidEntry_anchor]; done)
    | simp only [anchor_mk, anchor_eta, anchor_ite, ite_self, implies_true, acceptEntry_anchor, bookNow_anchor, modEntry_anchor, refund_anchor, voidEntry_anchor]
    | refine (anchor_foldl _ (fun _ _ => ?_) _ _).trans ?_
    | refine anchor_elim _ _ _ _ ?_ (fun _ => ?_)
    | refine anchor_map_getD _ _ _ _ ?_ (fun _ => ?_)
    | split

@[simp] theorem settleTake_anchor (s : State) : (settleTake s).anchor = s.anchor := by
  unfold settleTake
  repeat' first
    | with_reducible rfl
    | (simp only [anchor_mk, anchor_eta, anchor_ite, ite_self, implies_true, acceptEntry_anchor, takeOwed_anchor]; done)
    | simp only [anchor_mk, anchor_eta, anchor_ite, ite_self, implies_true, acceptEntry_anchor, takeOwed_anchor]
    | refine (anchor_foldl _ (fun _ _ => ?_) _ _).trans ?_

@[simp] theorem resumeCeilings_anchor (s : State) : (resumeCeilings s).anchor = s.anchor := by simp only [resumeCeilings, anchor_mk, anchor_eta]

@[simp] theorem orphanJump_anchor (s : State) : (orphanJump s).anchor = s.anchor := by simp only [orphanJump, anchor_mk, anchor_eta]

@[simp] theorem serveActive_anchor (s : State) : (serveActive s).anchor = s.anchor := by simp only [serveActive, anchor_mk, anchor_eta]

@[simp] theorem resumeItems_anchor (s : State) : (resumeItems s).anchor = s.anchor := by
  unfold resumeItems
  repeat' first
    | with_reducible rfl
    | (simp only [anchor_mk, anchor_eta, anchor_ite, ite_self, implies_true, modDl_anchor, ownFlood_anchor, reportFlow_anchor]; done)
    | simp only [anchor_mk, anchor_eta, anchor_ite, ite_self, implies_true, modDl_anchor, ownFlood_anchor, reportFlow_anchor]
    | refine (anchor_foldl _ (fun _ _ => ?_) _ _).trans ?_
    | refine anchor_elim _ _ _ _ ?_ (fun _ => ?_)
    | refine anchor_map_getD _ _ _ _ ?_ (fun _ => ?_)
    | split

@[simp] theorem resumeCamps_anchor (s : State) : (resumeCamps s).anchor = s.anchor := by simp only [resumeCamps, anchor_mk, anchor_eta]

@[simp] theorem endHandover_anchor (planned : Bool) (s : State) : (endHandover planned s).anchor = s.anchor := by
  unfold endHandover
  repeat' first
    | with_reducible rfl
    | (simp only [anchor_mk, anchor_eta, anchor_ite, ite_self, implies_true, endItem_anchor]; done)
    | simp only [anchor_mk, anchor_eta, anchor_ite, ite_self, implies_true, endItem_anchor]
    | refine (anchor_foldl _ (fun _ _ => ?_) _ _).trans ?_

@[simp] theorem startHandover_anchor (dsn : Option Nat) (s : State) : (startHandover dsn s).anchor = s.anchor := by simp only [startHandover, anchor_mk, anchor_eta, mirror_anchor]

@[simp] theorem endResync_anchor (s : State) : (endResync s).anchor = s.anchor := by
  unfold endResync
  repeat' first
    | with_reducible rfl
    | (simp only [anchor_mk, anchor_eta, anchor_ite, ite_self, implies_true, endItem_anchor]; done)
    | simp only [anchor_mk, anchor_eta, anchor_ite, ite_self, implies_true, endItem_anchor]
    | refine (anchor_foldl _ (fun _ _ => ?_) _ _).trans ?_

@[simp] theorem actPartnerUp_anchor (s : State) : (actPartnerUp s).anchor = s.anchor := by
  unfold actPartnerUp
  repeat' first
    | with_reducible rfl
    | (simp only [anchor_mk, anchor_eta, anchor_ite, ite_self, implies_true, actDone_anchor, actFail_anchor, actTo_anchor, startHandover_anchor]; done)

end Sys2Proof.Machine
end

