-- ==== Sys2Proof/Laws/AnchorUpdates.lean ====
section
/-! SUPPORT. The operations of Machine/Updates.lean that leave the memory, the fuses and the queue alone, one lemma each. -/

set_option linter.unusedSimpArgs false
set_option linter.unusedTactic false

namespace Sys2Proof.Machine
open Sys2Proof Host

@[simp] theorem evictBuffer_anchor (s : State) : (evictBuffer s).anchor = s.anchor := by
  unfold evictBuffer
  repeat' first
    | (simp only [anchor_mk, anchor_eta, bump_anchor]; done)
    | split

@[simp] theorem bufferOf_anchor (p : Nat) (s : State) : (bufferOf p s).2.anchor = s.anchor := by
  unfold bufferOf
  split <;> simp only [anchor_mk, anchor_eta, evictBuffer_anchor]

theorem bufferOf_anchor_of {p : Nat} {s : State} {o_ : Assembly} {u_ : State} (h_ : bufferOf p s = (o_, u_)) : u_.anchor = s.anchor := by
  rw [← bufferOf_anchor p s, h_]

@[simp] theorem storePart_anchor (p : Part) (mesh : Bool) (s : State) : (storePart p mesh s).anchor = s.anchor := by
  unfold storePart
  repeat' first
    | with_reducible rfl
    | (simp only [anchor_mk, anchor_eta, anchor_ite, ite_self, implies_true, bufferOf_anchor, bump_anchor, mirror_anchor, pieceQueue_anchor]; done)

@[simp] theorem takePart_anchor (p : Part) (mesh : Bool) (s : State) : (takePart p mesh s).2.anchor = s.anchor := by
  unfold takePart
  repeat' first
    | (simp only [anchor_mk, anchor_eta, bump_anchor, storePart_anchor]; done)
    | split

theorem takePart_anchor_of {p : Part} {mesh : Bool} {s : State} {o_ : Ending} {u_ : State} (h_ : takePart p mesh s = (o_, u_)) : u_.anchor = s.anchor := by
  rw [← takePart_anchor p mesh s, h_]

@[simp] theorem pieceRequest_anchor (b : Nat) (s : State) : (pieceRequest b s).anchor = s.anchor := by
  unfold pieceRequest
  repeat' first
    | (simp only [anchor_mk, anchor_eta, out_anchor]; done)
    | split

@[simp] theorem pieceWriteFailed_anchor (copyB : Bool) (s : State) : (pieceWriteFailed copyB s).anchor = s.anchor := by
  unfold pieceWriteFailed
  repeat' first
    | with_reducible rfl
    | (simp only [anchor_mk, anchor_eta, anchor_ite, ite_self, implies_true, bump_anchor, degraded_anchor]; done)

@[simp] theorem actBegin_anchor (d : Nat) (revert : Bool) (s : State) : (actBegin d revert s).anchor = s.anchor := by simp only [actBegin, anchor_mk, anchor_eta]

@[simp] theorem copyFailed_anchor (s : State) : (copyFailed s).anchor = s.anchor := by
  unfold copyFailed
  split <;> simp only [anchor_mk, anchor_eta, actFail_anchor, freeClampOf_anchor, occurs_anchor]

@[simp] theorem actReplace_anchor (s : State) : (actReplace s).anchor = s.anchor := by
  unfold actReplace
  split <;> simp only [anchor_mk, anchor_eta, endItem_anchor]

@[simp] theorem campLoaded_anchor (c : Nat) (s : State) : (campLoaded c s).anchor = s.anchor := by
  unfold campLoaded
  repeat' first
    | (simp only [anchor_mk, anchor_eta, occurs_anchor]; done)
    | split

@[simp] theorem addMember_anchor (c : Nat) (k : Camp) (e : Eui) (s : State) : (addMember c k e s).anchor = s.anchor := by
  unfold addMember
  repeat' first
    | (simp only [anchor_mk, anchor_eta, bump_anchor]; done)
    | split

@[simp] theorem campStop_anchor (c : Nat) (s : State) : (campStop c s).anchor = s.anchor := by
  unfold campStop
  repeat' first
    | with_reducible rfl
    | (simp only [anchor_mk, anchor_eta, anchor_ite, ite_self, implies_true, unbook_anchor]; done)
    | simp only [anchor_mk, anchor_eta, anchor_ite, ite_self, implies_true, unbook_anchor]
    | refine (anchor_foldl _ (fun _ _ => ?_) _ _).trans ?_

@[simp] theorem roundBegin_anchor (c : Nat) (k : Camp) (s : State) : (roundBegin c k s).anchor = s.anchor := by simp only [roundBegin, anchor_mk, anchor_eta, campSettle_anchor]

end Sys2Proof.Machine
end

