-- ==== Sys2Proof/Laws/AnchorQuays.lean ====
section
/-! SUPPORT. The operations of Machine/Quays.lean that leave the memory, the fuses and the queue alone, one lemma each. -/

set_option linter.unusedSimpArgs false
set_option linter.unusedTactic false

namespace Sys2Proof.Machine
open Sys2Proof Host

@[simp] theorem asProducer_anchor (a : Agent) (q : Nat) (f : State → State) (s : State) (h : ∀ s, (f s).anchor = s.anchor) :
    (asProducer a q f s).anchor = s.anchor := by
  unfold asProducer
  repeat' first
    | with_reducible rfl
    | (simp only [h, bump_anchor]; done)
    | split

@[simp] theorem poisonItem_anchor (q : Nat) (s : State) : (poisonItem q s).anchor = s.anchor := by simp only [poisonItem, anchor_mk, anchor_eta, setQuay_anchor]

@[simp] theorem takeWord_anchor (q : Nat) (badBank : Option Nat) (s : State) : (takeWord q badBank s).anchor = s.anchor := by
  unfold takeWord
  repeat' first
    | with_reducible rfl
    | (simp only [anchor_mk, anchor_eta, anchor_ite, ite_self, implies_true, beginItem_anchor, bump_anchor, droppedArg_anchor, setQuay_anchor]; done)
    | simp only [anchor_mk, anchor_eta, anchor_ite, ite_self, implies_true, beginItem_anchor, bump_anchor, droppedArg_anchor, setQuay_anchor]
    | refine (anchor_foldl _ (fun _ _ => ?_) _ _).trans ?_
    | refine anchor_elim _ _ _ _ ?_ (fun _ => ?_)
    | refine anchor_map_getD _ _ _ _ ?_ (fun _ => ?_)
    | split

@[simp] theorem asConsumer_anchor (a : Agent) (q : Nat) (f : State → State) (s : State) (h : ∀ s, (f s).anchor = s.anchor) :
    (asConsumer a q f s).anchor = s.anchor := by
  unfold asConsumer
  repeat' first
    | with_reducible rfl
    | (simp only [h, bump_anchor]; done)
    | split

@[simp] theorem dropItem_anchor (q : Nat) (s : State) : (dropItem q s).anchor = s.anchor := by
  unfold dropItem
  split <;> simp only [anchor_mk, anchor_eta, beginItem_anchor, bump_anchor, setQuay_anchor]

@[simp] theorem flushQuay_anchor (q : Nat) (s : State) : (flushQuay q s).anchor = s.anchor := by simp only [flushQuay, anchor_mk, anchor_eta, bumpBy_anchor, setQuay_anchor]

end Sys2Proof.Machine
end

