-- ==== Sys2Proof/Laws/AnchorMemory.lean ====
section
/-! SUPPORT. The operations of Machine/Memory.lean that leave the memory, the fuses and the queue alone, one lemma each. -/

set_option linter.unusedSimpArgs false
set_option linter.unusedTactic false

namespace Sys2Proof.Machine
open Sys2Proof Host

@[simp] theorem setDdr_anchor (chB : Bool) (c : DdrCh) (s : State) : (setDdr chB c s).anchor = s.anchor := by
  unfold setDdr
  split <;> simp only [anchor_mk, anchor_eta]

@[simp] theorem channelLost_anchor (chB : Bool) (s : State) : (channelLost chB s).anchor = s.anchor := by simp only [channelLost, anchor_mk, anchor_eta, fatalBy_anchor, refreshCfg_anchor, setDdr_anchor]

@[simp] theorem retrainEnd_anchor (chB ok : Bool) (s : State) : (retrainEnd chB ok s).anchor = s.anchor := by
  unfold retrainEnd
  repeat' first
    | with_reducible rfl
    | (simp only [anchor_mk, anchor_eta, anchor_ite, ite_self, implies_true, askClamp_anchor, bump_anchor, channelLost_anchor, freeClampOf_anchor, setDdr_anchor]; done)

@[simp] theorem setDma_anchor (c : Nat) (d : Dma) (s : State) : (setDma c d s).anchor = s.anchor := by simp only [setDma, anchor_mk, anchor_eta]

@[simp] theorem fetchDesc_anchor (c a : Nat) (s : State) : (fetchDesc c a s).anchor = s.anchor := by simp only [fetchDesc, anchor_mk, anchor_eta, setDma_anchor]

@[simp] theorem dmaIrq_anchor (c : Nat) (s : State) : (dmaIrq c s).anchor = s.anchor := by
  unfold dmaIrq
  split <;> simp only [anchor_mk, anchor_eta, setIrq_anchor]

@[simp] theorem putItem_anchor (q : Nat) (l : List Byte) (poison : Bool) (s : State) : (putItem q l poison s).anchor = s.anchor := by simp only [putItem, anchor_mk, anchor_eta, setQuay_anchor]

@[simp] theorem dmaClaim_anchor (c q n : Nat) (s : State) : (dmaClaim c q n s).2.anchor = s.anchor := by
  unfold dmaClaim
  split <;> simp only [anchor_mk, anchor_eta, bump_anchor, claimQuay_anchor]

theorem dmaClaim_anchor_of {c : Nat} {q : Nat} {n : Nat} {s : State} {o_ : Bool} {u_ : State} (h_ : dmaClaim c q n s = (o_, u_)) : u_.anchor = s.anchor := by
  rw [← dmaClaim_anchor c q n s, h_]

@[simp] theorem dmaStart_anchor (a : Agent) (c : Nat) (s : State) : (dmaStart a c s).anchor = s.anchor := by
  unfold dmaStart
  split <;> simp only [anchor_mk, anchor_eta, fetchDesc_anchor, setDma_anchor, setIrq_anchor]

@[simp] theorem dmaStop_anchor (a : Agent) (c : Nat) (s : State) : (dmaStop a c s).anchor = s.anchor := by
  unfold dmaStop
  split <;> simp only [anchor_mk, anchor_eta, setDma_anchor]

@[simp] theorem setEngine_anchor (e : Nat) (x : Engine) (s : State) : (setEngine e x s).anchor = s.anchor := by simp only [setEngine, anchor_mk, anchor_eta]

@[simp] theorem releaseEngine_anchor (e : Nat) (s : State) : (releaseEngine e s).anchor = s.anchor := by
  unfold releaseEngine
  repeat' first
    | with_reducible rfl
    | (simp only [anchor_mk, anchor_eta, anchor_ite, ite_self, implies_true, setEngine_anchor]; done)
    | simp only [anchor_mk, anchor_eta, anchor_ite, ite_self, implies_true, setEngine_anchor]
    | refine (anchor_foldl _ (fun _ _ => ?_) _ _).trans ?_

@[simp] theorem wdogKick_anchor (e : Nat) (s : State) : (wdogKick e s).anchor = s.anchor := by
  unfold wdogKick
  split <;> simp only [anchor_mk, anchor_eta, setEngine_anchor]

end Sys2Proof.Machine
end

