-- ==== Sys2Proof/Laws/AnchorHealth.lean ====
section
/-! SUPPORT. The operations of Machine/Health.lean that leave the memory, the fuses and the queue alone, one lemma each. -/

set_option linter.unusedSimpArgs false
set_option linter.unusedTactic false

namespace Sys2Proof.Machine
open Sys2Proof Host

@[simp] theorem countReported_anchor (r : Report) (s : State) : (countReported r s).anchor = s.anchor := by
  unfold countReported
  split <;> simp only [anchor_mk, anchor_eta, bump_anchor]

@[simp] theorem releaseLost_anchor (g : Nat) (s : State) : (releaseLost g s).anchor = s.anchor := by simp only [releaseLost, anchor_mk, anchor_eta]

@[simp] theorem straitLoss_anchor (r : Report) (l : LostItem) (s : State) : (straitLoss r l s).anchor = s.anchor := by
  unfold straitLoss
  repeat' first
    | with_reducible rfl
    | (simp only [anchor_mk, anchor_eta, anchor_ite, ite_self, implies_true, refuseCand_anchor, releaseLost_anchor, spillDrop_anchor]; done)
    | simp only [anchor_mk, anchor_eta, anchor_ite, ite_self, implies_true, refuseCand_anchor, releaseLost_anchor, spillDrop_anchor]
    | refine (anchor_foldl _ (fun _ _ => ?_) _ _).trans ?_
    | refine anchor_elim _ _ _ _ ?_ (fun _ => ?_)
    | refine anchor_map_getD _ _ _ _ ?_ (fun _ => ?_)
    | split

@[simp] theorem retireInst_anchor (k i : Nat) (s : State) : (retireInst k i s).anchor = s.anchor := by
  unfold retireInst
  repeat' first
    | (simp only [anchor_mk, anchor_eta, setUnit_anchor]; done)
    | split

@[simp] theorem passInst_anchor (k i : Nat) (s : State) : (passInst k i s).anchor = s.anchor := by
  unfold passInst
  repeat' first
    | (simp only [anchor_mk, anchor_eta, setUnit_anchor]; done)
    | split

@[simp] theorem retireReport_anchor (k i : Nat) (s : State) : (retireReport k i s).anchor = s.anchor := by
  unfold retireReport
  repeat' first
    | (simp only [anchor_mk, anchor_eta, bump_anchor, degradedArg_anchor, degraded_anchor]; done)
    | split

@[simp] theorem frameTake_anchor (a : Agent) (s : State) : (frameTake a s).anchor = s.anchor := by
  unfold frameTake
  repeat' first
    | (simp only [anchor_mk, anchor_eta]; done)
    | split

@[simp] theorem resumeStack_anchor (s : State) : (resumeStack s).anchor = s.anchor := by
  unfold resumeStack
  repeat' first
    | with_reducible rfl
    | (simp only [anchor_mk, anchor_eta, anchor_ite, ite_self, implies_true, pushFrame_anchor]; done)
    | simp only [anchor_mk, anchor_eta, anchor_ite, ite_self, implies_true, pushFrame_anchor]
    | refine (anchor_foldl _ (fun _ _ => ?_) _ _).trans ?_
    | refine anchor_elim _ _ _ _ ?_ (fun _ => ?_)
    | refine anchor_map_getD _ _ _ _ ?_ (fun _ => ?_)
    | split

@[simp] theorem handlerEffect_anchor (f : HFrame) (outcome : Nat) (s : State) : (handlerEffect f outcome s).anchor = s.anchor := by
  unfold handlerEffect
  repeat' first
    | (simp only [anchor_mk, anchor_eta, releaseEngine_anchor, retireInst_anchor]; done)
    | split

@[simp] theorem frameDone_anchor (a : Agent) (o : BitVec 2) (s : State) : (frameDone a o s).anchor = s.anchor := by
  unfold frameDone
  repeat' first
    | (simp only [anchor_mk, anchor_eta, errRecord_anchor, fatalBy_anchor, handlerEffect_anchor, resumeStack_anchor]; done)
    | split

@[simp] theorem jigTake_anchor (k i : Nat) (dsn : Option Nat) (s : State) : (jigTake k i dsn s).anchor = s.anchor := by
  unfold jigTake
  repeat' first
    | with_reducible rfl
    | (simp only [anchor_mk, anchor_eta, anchor_ite, ite_self, implies_true, modLane_anchor, setUnit_anchor]; done)
    | simp only [anchor_mk, anchor_eta, anchor_ite, ite_self, implies_true, modLane_anchor, setUnit_anchor]
    | refine (anchor_foldl _ (fun _ _ => ?_) _ _).trans ?_
    | refine anchor_elim _ _ _ _ ?_ (fun _ => ?_)
    | refine anchor_map_getD _ _ _ _ ?_ (fun _ => ?_)
    | split

@[simp] theorem jigRelease_anchor (j : JigTest) (s : State) : (jigRelease j s).anchor = s.anchor := by
  unfold jigRelease
  repeat' first
    | (simp only [anchor_mk, anchor_eta, setLane_anchor, setUnit_anchor]; done)
    | split

@[simp] theorem jigAsk_anchor (k i : Nat) (dsn : Option Nat) (s : State) : (jigAsk k i dsn s).anchor = s.anchor := by
  unfold jigAsk
  repeat' first
    | with_reducible rfl
    | (simp only [anchor_mk, anchor_eta, anchor_ite, ite_self, implies_true, askClamp_anchor, bump_anchor, jigTake_anchor]; done)
    | simp only [anchor_mk, anchor_eta, anchor_ite, ite_self, implies_true, askClamp_anchor, bump_anchor, jigTake_anchor]
    | refine (anchor_foldl _ (fun _ _ => ?_) _ _).trans ?_
    | refine anchor_elim _ _ _ _ ?_ (fun _ => ?_)
    | refine anchor_map_getD _ _ _ _ ?_ (fun _ => ?_)
    | split

@[simp] theorem jigPortEnd_anchor (s : State) : (jigPortEnd s).anchor = s.anchor := by
  unfold jigPortEnd
  repeat' first
    | (simp only [anchor_mk, anchor_eta, fhDown_anchor, refreshStreams_anchor]; done)
    | split

@[simp] theorem jigOver_anchor (j : JigTest) (s : State) : (jigOver j s).anchor = s.anchor := by simp only [jigOver, anchor_mk, anchor_eta, chnServe_anchor, jigFinish_anchor, jigPortEnd_anchor, jigRelease_anchor]

@[simp] theorem jigFailed_anchor (j : JigTest) (s : State) : (jigFailed j s).anchor = s.anchor := by
  unfold jigFailed
  repeat' first
    | (simp only [anchor_mk, anchor_eta, fatalBy_anchor, jigOver_anchor, retireInst_anchor, retireReport_anchor]; done)
    | split

@[simp] theorem journalSkip_anchor (s : State) : (journalSkip s).anchor = s.anchor := by
  unfold journalSkip
  split <;> simp only [anchor_mk, anchor_eta, jobDone_anchor]

@[simp] theorem clampSkip_anchor (a n : Nat) (s : State) : (clampSkip a n s).anchor = s.anchor := by
  unfold clampSkip
  repeat' first
    | with_reducible rfl
    | (simp only [anchor_mk, anchor_eta, anchor_ite, ite_self, implies_true, bump_anchor, copyFailed_anchor, creationLost_anchor, endKeyItem_anchor, jigFinish_anchor, jigPortEnd_anchor, jigRecord_anchor, journalSkip_anchor, modPort_anchor, pieceAsk_anchor, retrainEnd_anchor, sweepSkip_anchor]; done)
    | simp only [anchor_mk, anchor_eta, anchor_ite, ite_self, implies_true, bump_anchor, copyFailed_anchor, creationLost_anchor, endKeyItem_anchor, jigFinish_anchor, jigPortEnd_anchor, jigRecord_anchor, journalSkip_anchor, modPort_anchor, pieceAsk_anchor, retrainEnd_anchor, sweepSkip_anchor]
    | refine (anchor_foldl _ (fun _ _ => ?_) _ _).trans ?_
    | refine anchor_elim _ _ _ _ ?_ (fun _ => ?_)
    | refine anchor_map_getD _ _ _ _ ?_ (fun _ => ?_)
    | split

end Sys2Proof.Machine
end

