-- ==== Sys2Proof/Laws/AnchorDumps.lean ====
section
/-! SUPPORT. The operations of Machine/Dumps.lean that leave the memory, the fuses and the queue alone, one lemma each. -/

set_option linter.unusedSimpArgs false
set_option linter.unusedTactic false

namespace Sys2Proof.Machine
open Sys2Proof Host

@[simp] theorem putDump_anchor (own : Bool) (d : DumpHdr) (s : State) : (putDump own d s).anchor = s.anchor := by
  unfold putDump
  repeat' first
    | (simp only [anchor_mk, anchor_eta, bump_anchor]; done)
    | split

@[simp] theorem putFlashDump_anchor (d : DumpHdr) (s : State) : (putFlashDump d s).anchor = s.anchor := by
  unfold putFlashDump
  repeat' first
    | (simp only [anchor_mk, anchor_eta, bump_anchor]; done)
    | split

@[simp] theorem setCursor_anchor (q : Nat) (s : State) : (setCursor q s).anchor = s.anchor := by
  unfold setCursor
  split <;> simp only [anchor_mk, anchor_eta, bumpBy_anchor]

@[simp] theorem leaveReset_anchor (s : State) : (leaveReset s).anchor = s.anchor := by
  unfold leaveReset
  split <;> simp only [anchor_mk, anchor_eta, warmBegin_anchor]

end Sys2Proof.Machine
end

