-- ==== Sys2Proof/Laws/AnchorRegisters.lean ====
section
/-! SUPPORT. The operations of Machine/Registers.lean that leave the memory, the fuses and the queue alone, one lemma each. -/

set_option linter.unusedSimpArgs false
set_option linter.unusedTactic false

namespace Sys2Proof.Machine
open Sys2Proof Host

@[simp] theorem latch_anchor (g : Agent) (lo : Nat) (s : State) : (latch g lo s).anchor = s.anchor := by simp only [latch, anchor_mk, anchor_eta]

@[simp] theorem readHeld_anchor (g : Agent) (a : Nat) (s : State) : (readHeld g a s).2.anchor = s.anchor := by
  unfold readHeld
  repeat' first
    | (simp only [anchor_mk, anchor_eta, latch_anchor]; done)
    | split

theorem readHeld_anchor_of {g : Agent} {a : Nat} {s : State} {o_ : Word} {u_ : State} (h_ : readHeld g a s = (o_, u_)) : u_.anchor = s.anchor := by
  rw [← readHeld_anchor g a s, h_]

@[simp] theorem readAs_anchor (g : Agent) (a : Nat) (s : State) : (readAs g a s).2.anchor = s.anchor := by
  unfold readAs
  repeat' first
    | (simp only [anchor_mk, anchor_eta, bump_anchor, readHeld_anchor]; done)
    | split

theorem readAs_anchor_of {g : Agent} {a : Nat} {s : State} {o_ : Word} {u_ : State} (h_ : readAs g a s = (o_, u_)) : u_.anchor = s.anchor := by
  rw [← readAs_anchor g a s, h_]

@[simp] theorem readSized_anchor (g : Agent) (a n : Nat) (s : State) : (readSized g a n s).2.anchor = s.anchor := by
  unfold readSized
  repeat' first
    | (simp only [anchor_mk, anchor_eta, bump_anchor, readAs_anchor]; done)
    | split

theorem readSized_anchor_of {g : Agent} {a : Nat} {n : Nat} {s : State} {o_ : Word} {u_ : State} (h_ : readSized g a n s = (o_, u_)) : u_.anchor = s.anchor := by
  rw [← readSized_anchor g a n s, h_]

@[simp] theorem windowRead_anchor (g : Agent) (a : Nat) (s : State) : (windowRead g a s).2.2.anchor = s.anchor := by
  unfold windowRead
  repeat' first
    | (simp only [anchor_mk, anchor_eta, bump_anchor, readAs_anchor]; done)
    | split

@[simp] theorem windowWords_anchor (g : Agent) (n a : Nat) (s : State) : (windowWords g n a s).2.anchor = s.anchor := by
  induction n generalizing a s with
  | zero => rw [windowWords]
  | succ n ih =>
    rw [windowWords]
    dsimp only
    rw [ih]
    split <;> simp only [bump_anchor, windowRead_anchor]

@[simp] theorem readAll_anchor (l : List (Word × Nat)) (s : State) : (readAll l s).2.anchor = s.anchor := by
  induction l generalizing s with
  | nil => rw [readAll]
  | cons x r ih =>
    rw [readAll]
    dsimp only
    rw [ih, windowWords_anchor]

@[simp] theorem writeHalf_anchor (a other : Nat) (v : Word) (s : State) : (writeHalf a other v s).anchor = s.anchor := by
  unfold writeHalf
  split <;> simp only [anchor_mk, anchor_eta, setReg_anchor]

@[simp] theorem settle'_anchor (g : Agent) (a : Nat) (c : Card) (v : Word) (s : State) : (settle' g a c v s).anchor = s.anchor := by
  unfold settle'
  repeat' first
    | (simp only [anchor_mk, anchor_eta, setReg_anchor, writeHalf_anchor]; done)
    | split

@[simp] theorem writeQuay_anchor (g : Agent) (q o : Nat) (v : Word) (s : State) : (writeQuay g q o v s).anchor = s.anchor := by
  unfold writeQuay
  repeat' first
    | with_reducible rfl
    | (simp only [anchor_mk, anchor_eta, anchor_ite, ite_self, implies_true, asConsumer_anchor, asProducer_anchor, claimQuay_anchor, dropItem_anchor, flushQuay_anchor, poisonItem_anchor, putWord_anchor, takeWord_anchor]; done)

@[simp] theorem fuseGo_anchor (a : Agent) (bit : Nat) (revoke : Bool) (s : State) : (fuseGo a bit revoke s).anchor = s.anchor := by
  unfold fuseGo
  split <;> simp only [anchor_mk, anchor_eta, bump_anchor]

@[simp] theorem writeEffect_anchor (g : Agent) (a : Nat) (v : Word) (s : State) : (writeEffect g a v s).anchor = s.anchor := by
  unfold writeEffect
  repeat' first
    | with_reducible rfl
    | (simp only [anchor_mk, anchor_eta, anchor_ite, ite_self, implies_true, dmaStart_anchor, dmaStop_anchor, frameDone_anchor, frameTake_anchor, fuseGo_anchor, setCursor_anchor, setRate_anchor, wdogKick_anchor, writeQuay_anchor]; done)

@[simp] theorem writeCard_anchor (g : Agent) (a : Nat) (c : Card) (v : Word) (s : State) : (writeCard g a c v s).anchor = s.anchor := by
  unfold writeCard
  repeat' first
    | with_reducible rfl
    | (simp only [anchor_mk, anchor_eta, anchor_ite, ite_self, implies_true, anaLoop_anchor, bump_anchor, fhLoop_anchor, refreshCfg_anchor, setReg_anchor, settle'_anchor, writeEffect_anchor]; done)

@[simp] theorem writeReg_anchor (g : Agent) (a : Nat) (v : Word) (s : State) : (writeReg g a v s).anchor = s.anchor := by
  unfold writeReg
  repeat' first
    | (simp only [anchor_mk, anchor_eta, bump_anchor, writeCard_anchor]; done)
    | split

end Sys2Proof.Machine
end

