-- ==== Sys2Proof/Laws/AnchorDelivery.lean ====
section
/-! SUPPORT. The operations of Machine/Delivery.lean that leave the memory, the fuses and the queue alone, one lemma each. -/

set_option linter.unusedSimpArgs false
set_option linter.unusedTactic false

namespace Sys2Proof.Machine
open Sys2Proof Host

/-- A meaning whose own state keeps the anchor, taken. -/
theorem taken_onInst_anchor (b : Bool) (s u : State) (h : u.anchor = s.anchor) : (taken s (onInst b u)).anchor = s.anchor := by
  unfold onInst
  split
  · rw [taken, settle_anchor, h]
  · rw [taken]; exact fun _ h => by cases h

theorem taken_execKeyLookup_anchor (t : Time) (g : Nat) (s : State) : (taken s (execKeyLookup t g s)).anchor = s.anchor := by
  unfold execKeyLookup
  refine taken_onInst_anchor _ _ _ ?_
  repeat' first
    | with_reducible rfl
    | (simp only [anchor_mk, anchor_eta, anchor_ite, ite_self, implies_true, arrive_anchor, bump_anchor, lookupGroup_anchor, lookupNode_anchor, setCtx_anchor, straitHold_anchor]; done)
    | simp only [anchor_mk, anchor_eta, anchor_ite, ite_self, implies_true, arrive_anchor, bump_anchor, lookupGroup_anchor, lookupNode_anchor, setCtx_anchor, straitHold_anchor]
    | refine (anchor_foldl _ (fun _ _ => ?_) _ _).trans ?_
    | refine anchor_elim _ _ _ _ ?_ (fun _ => ?_)
    | refine anchor_map_getD _ _ _ _ ?_ (fun _ => ?_)
    | split

theorem taken_execKeyPayloadBlock_anchor (t : Time) (g : Nat) (s : State) : (taken s (execKeyPayloadBlock t g s)).anchor = s.anchor := by
  unfold execKeyPayloadBlock
  refine taken_onInst_anchor _ _ _ ?_
  repeat' first
    | with_reducible rfl
    | (simp only [anchor_mk, anchor_eta, anchor_ite, ite_self, implies_true, arrive_anchor, frameEndTaken_anchor, mirrorBlocks_anchor, straitHold_anchor]; done)
    | simp only [anchor_mk, anchor_eta, anchor_ite, ite_self, implies_true, arrive_anchor, frameEndTaken_anchor, mirrorBlocks_anchor, straitHold_anchor]
    | refine (anchor_foldl _ (fun _ _ => ?_) _ _).trans ?_
    | refine anchor_elim _ _ _ _ ?_ (fun _ => ?_)
    | refine anchor_map_getD _ _ _ _ ?_ (fun _ => ?_)
    | split

theorem taken_execKeyFrameEnd_anchor (t : Time) (g : Nat) (fcs : Bool) (frame : SealedFrame) (blocks : Nat) (s : State) : (taken s (execKeyFrameEnd t g fcs frame blocks s)).anchor = s.anchor := by
  unfold execKeyFrameEnd
  refine taken_onInst_anchor _ _ _ ?_
  repeat' first
    | with_reducible rfl
    | (simp only [anchor_mk, anchor_eta, anchor_ite, ite_self, implies_true, arrive_anchor, frameEndTaken_anchor, straitHold_anchor]; done)
    | simp only [anchor_mk, anchor_eta, anchor_ite, ite_self, implies_true, arrive_anchor, frameEndTaken_anchor, straitHold_anchor]
    | refine (anchor_foldl _ (fun _ _ => ?_) _ _).trans ?_
    | refine anchor_elim _ _ _ _ ?_ (fun _ => ?_)
    | refine anchor_map_getD _ _ _ _ ?_ (fun _ => ?_)
    | split

theorem taken_execKeyCounterUpdate_anchor (t : Time) (e : Eui) (counter : Nat) (digest : Word) (s : State) : (taken s (execKeyCounterUpdate t e counter digest s)).anchor = s.anchor := by
  unfold execKeyCounterUpdate
  refine taken_onInst_anchor _ _ _ ?_
  repeat' first
    | with_reducible rfl
    | (simp only [anchor_mk, anchor_eta, anchor_ite, ite_self, implies_true, arrive_anchor, raiseHwm_anchor, straitHold_anchor]; done)

theorem taken_execKeyProtect_anchor (t : Time) (id : Nat) (s : State) : (taken s (execKeyProtect t id s)).anchor = s.anchor := by
  unfold execKeyProtect
  refine taken_onInst_anchor _ _ _ ?_
  repeat' first
    | with_reducible rfl
    | (simp only [anchor_mk, anchor_eta, anchor_ite, ite_self, implies_true, arrive_anchor, protect_anchor, straitHold_anchor]; done)
    | simp only [anchor_mk, anchor_eta, anchor_ite, ite_self, implies_true, arrive_anchor, protect_anchor, straitHold_anchor]
    | refine (anchor_foldl _ (fun _ _ => ?_) _ _).trans ?_
    | refine anchor_elim _ _ _ _ ?_ (fun _ => ?_)
    | refine anchor_map_getD _ _ _ _ ?_ (fun _ => ?_)
    | split

theorem taken_execCandidateOpen_anchor (t : Time) (g : Nat) (s : State) : (taken s (execCandidateOpen t g s)).anchor = s.anchor := by
  unfold execCandidateOpen
  refine taken_onInst_anchor _ _ _ ?_
  repeat' first
    | with_reducible rfl
    | (simp only [anchor_mk, anchor_eta, anchor_ite, ite_self, implies_true, arrive_anchor, candBook_anchor, modCand_anchor, straitHold_anchor]; done)
    | simp only [anchor_mk, anchor_eta, anchor_ite, ite_self, implies_true, arrive_anchor, candBook_anchor, modCand_anchor, straitHold_anchor]
    | refine (anchor_foldl _ (fun _ _ => ?_) _ _).trans ?_
    | refine anchor_elim _ _ _ _ ?_ (fun _ => ?_)
    | refine anchor_map_getD _ _ _ _ ?_ (fun _ => ?_)
    | split

theorem taken_execCandidateVerdicts_anchor (t : Time) (g : Nat) (f : FrameInfo) (s : State) : (taken s (execCandidateVerdicts t g f s)).anchor = s.anchor := by
  unfold execCandidateVerdicts
  refine taken_onInst_anchor _ _ _ ?_
  repeat' first
    | with_reducible rfl
    | (simp only [anchor_mk, anchor_eta, anchor_ite, ite_self, implies_true, arrive_anchor, modCand_anchor, runChecks_anchor, straitHold_anchor]; done)
    | simp only [anchor_mk, anchor_eta, anchor_ite, ite_self, implies_true, arrive_anchor, modCand_anchor, runChecks_anchor, straitHold_anchor]
    | refine (anchor_foldl _ (fun _ _ => ?_) _ _).trans ?_
    | refine anchor_elim _ _ _ _ ?_ (fun _ => ?_)
    | refine anchor_map_getD _ _ _ _ ?_ (fun _ => ?_)
    | split

theorem taken_execCalSnippet_anchor (t : Time) (x : Snippet) (s : State) : (taken s (execCalSnippet t x s)).anchor = s.anchor := by
  unfold execCalSnippet
  refine taken_onInst_anchor _ _ _ ?_
  repeat' first
    | with_reducible rfl
    | (simp only [anchor_mk, anchor_eta, anchor_ite, ite_self, implies_true, arrive_anchor, bump_anchor, hardwareTake_anchor, straitHold_anchor, useSnippet_anchor]; done)
    | simp only [anchor_mk, anchor_eta, anchor_ite, ite_self, implies_true, arrive_anchor, bump_anchor, hardwareTake_anchor, straitHold_anchor, useSnippet_anchor]
    | refine (anchor_foldl _ (fun _ _ => ?_) _ _).trans ?_
    | refine anchor_elim _ _ _ _ ?_ (fun _ => ?_)
    | refine anchor_map_getD _ _ _ _ ?_ (fun _ => ?_)
    | split
    | refine (hardwareTake_anchor_of (by assumption)).trans ?_

theorem taken_execTxStartCommand_anchor (t : Time) (id : Nat) (s : State) : (taken s (execTxStartCommand t id s)).anchor = s.anchor := by
  unfold execTxStartCommand
  refine taken_onInst_anchor _ _ _ ?_
  repeat' first
    | with_reducible rfl
    | (simp only [anchor_mk, anchor_eta, anchor_ite, ite_self, implies_true, arrive_anchor, bump_anchor, cancelTx_anchor, deferTx_anchor, startTx_anchor, straitHold_anchor]; done)
    | simp only [anchor_mk, anchor_eta, anchor_ite, ite_self, implies_true, arrive_anchor, bump_anchor, cancelTx_anchor, deferTx_anchor, startTx_anchor, straitHold_anchor]
    | refine (anchor_foldl _ (fun _ _ => ?_) _ _).trans ?_
    | refine anchor_elim _ _ _ _ ?_ (fun _ => ?_)
    | refine anchor_map_getD _ _ _ _ ?_ (fun _ => ?_)
    | split

theorem taken_execAckRelease_anchor (t : Time) (g : Nat) (s : State) : (taken s (execAckRelease t g s)).anchor = s.anchor := by
  unfold execAckRelease
  refine taken_onInst_anchor _ _ _ ?_
  repeat' first
    | with_reducible rfl
    | (simp only [anchor_mk, anchor_eta, anchor_ite, ite_self, implies_true, arrive_anchor, bump_anchor, straitHold_anchor]; done)
    | simp only [anchor_mk, anchor_eta, anchor_ite, ite_self, implies_true, arrive_anchor, bump_anchor, straitHold_anchor]
    | refine (anchor_foldl _ (fun _ _ => ?_) _ _).trans ?_
    | refine anchor_elim _ _ _ _ ?_ (fun _ => ?_)
    | refine anchor_map_getD _ _ _ _ ?_ (fun _ => ?_)
    | split

theorem taken_execErrorReport_anchor (t : Time) (r : Report) (lost : LostItem) (s : State) : (taken s (execErrorReport t r lost s)).anchor = s.anchor := by
  unfold execErrorReport
  refine taken_onInst_anchor _ _ _ ?_
  repeat' first
    | with_reducible rfl
    | (simp only [anchor_mk, anchor_eta, anchor_ite, ite_self, implies_true, arrive_anchor, countReported_anchor, report_anchor, straitHold_anchor, straitLoss_anchor]; done)

@[simp] theorem crossStrait_anchor (c : Instr) (s : State) : (crossStrait c s).anchor = s.anchor := by
  unfold crossStrait
  split
  · exact taken_execKeyLookup_anchor _ _ _
  · exact taken_execKeyPayloadBlock_anchor _ _ _
  · exact taken_execKeyFrameEnd_anchor _ _ _ _ _ _
  · exact taken_execKeyCounterUpdate_anchor _ _ _ _ _
  · exact taken_execKeyProtect_anchor _ _ _
  · exact taken_execCandidateOpen_anchor _ _ _
  · exact taken_execCandidateVerdicts_anchor _ _ _ _
  · exact taken_execCalSnippet_anchor _ _ _
  · exact taken_execTxStartCommand_anchor _ _ _
  · exact taken_execAckRelease_anchor _ _ _
  · exact taken_execErrorReport_anchor _ _ _ _
  · with_reducible rfl

@[simp] theorem straitRun_anchor (n : Nat) (s : State) : (straitRun n s).anchor = s.anchor := by
  unfold straitRun
  repeat' first
    | with_reducible rfl
    | (simp only [anchor_mk, anchor_eta, anchor_ite, ite_self, implies_true, crossStrait_anchor]; done)
    | simp only [anchor_mk, anchor_eta, anchor_ite, ite_self, implies_true, crossStrait_anchor]
    | refine (anchor_foldl _ (fun _ _ => ?_) _ _).trans ?_
    | refine anchor_elim _ _ _ _ ?_ (fun _ => ?_)
    | refine anchor_map_getD _ _ _ _ ?_ (fun _ => ?_)
    | split

@[simp] theorem straitsRun_anchor (s : State) : (straitsRun s).anchor = s.anchor := by
  unfold straitsRun
  repeat' first
    | with_reducible rfl
    | (simp only [anchor_mk, anchor_eta, anchor_ite, ite_self, implies_true, straitRun_anchor]; done)
    | simp only [anchor_mk, anchor_eta, anchor_ite, ite_self, implies_true, straitRun_anchor]
    | refine (anchor_foldl _ (fun _ _ => ?_) _ _).trans ?_

end Sys2Proof.Machine
end

