-- ==== Sys2Proof/Laws/AnchorStart.lean ====
section
/-! SUPPORT. The operations of Machine/Start.lean that leave the memory, the fuses and the queue alone, one lemma each. -/

set_option linter.unusedSimpArgs false
set_option linter.unusedTactic false

namespace Sys2Proof.Machine
open Sys2Proof Host

@[simp] theorem halt_anchor (code : Nat) (s : State) : (halt code s).anchor = s.anchor := by simp only [halt, anchor_mk, anchor_eta]

@[simp] theorem loadRec_anchor (r : KeyRec) (s : State) : (loadRec r s).anchor = s.anchor := by
  unfold loadRec
  repeat' first
    | (simp only [anchor_mk, anchor_eta, applyRec_anchor, setGroupTx_anchor]; done)
    | split

@[simp] theorem repairCopy_anchor (b : Bool) (r : KeyRec) (s : State) : (repairCopy b r s).anchor = s.anchor := by
  unfold repairCopy
  repeat' first
    | with_reducible rfl
    | (simp only [anchor_mk, anchor_eta, anchor_ite, ite_self, implies_true, bump_anchor, journalAppend_anchor]; done)

@[simp] theorem copyState_anchor (b lost : Bool) (s : State) : (copyState b lost s).anchor = s.anchor := by
  unfold copyState
  repeat' first
    | (simp only [anchor_mk, anchor_eta, bumpBy_anchor, degraded_anchor]; done)
    | split

@[simp] theorem keyStart_anchor (s : State) : (keyStart s).anchor = s.anchor := by
  unfold keyStart
  repeat' first
    | with_reducible rfl
    | (simp only [anchor_mk, anchor_eta, anchor_ite, ite_self, implies_true, copyState_anchor, loadRec_anchor, repairCopy_anchor]; done)
    | simp only [anchor_mk, anchor_eta, anchor_ite, ite_self, implies_true, copyState_anchor, loadRec_anchor, repairCopy_anchor]
    | refine (anchor_foldl _ (fun _ _ => ?_) _ _).trans ?_

@[simp] theorem coldStart_anchor (s : State) : (coldStart s).anchor = s.anchor := by simp only [coldStart, anchor_mk, anchor_eta]

@[simp] theorem stagingStart_anchor (s : State) : (stagingStart s).anchor = s.anchor := by simp only [stagingStart, anchor_mk, anchor_eta]

@[simp] theorem openIslands_anchor (s : State) : (openIslands s).anchor = s.anchor := by simp only [openIslands, anchor_mk, anchor_eta, releaseIslands_anchor, straitsRun_anchor]

@[simp] theorem p6Advance_anchor (s : State) : (p6Advance s).anchor = s.anchor := by
  unfold p6Advance
  split <;> simp only [anchor_mk, anchor_eta, p7Check_anchor]

@[simp] theorem enterP6_anchor (s : State) : (enterP6 s).anchor = s.anchor := by
  unfold enterP6
  repeat' first
    | with_reducible rfl
    | (simp only [anchor_mk, anchor_eta, anchor_ite, ite_self, implies_true, p6Advance_anchor, releaseEngine_anchor, setReg_anchor]; done)
    | simp only [anchor_mk, anchor_eta, anchor_ite, ite_self, implies_true, p6Advance_anchor, releaseEngine_anchor, setReg_anchor]
    | refine (anchor_foldl _ (fun _ _ => ?_) _ _).trans ?_

@[simp] theorem p5Advance_anchor (s : State) : (p5Advance s).anchor = s.anchor := by
  unfold p5Advance
  split <;> simp only [anchor_mk, anchor_eta, enterP6_anchor]

@[simp] theorem pollWait_anchor (s : State) : (pollWait s).anchor = s.anchor := by
  unfold pollWait
  repeat' first
    | (simp only [anchor_mk, anchor_eta]; done)
    | split

@[simp] theorem powerUp_anchor (s : State) : (powerUp s).anchor = s.anchor := by
  unfold powerUp
  split <;> simp only [anchor_mk, anchor_eta]

@[simp] theorem selectImage_anchor (s : State) : (selectImage s).anchor = s.anchor := by
  unfold selectImage
  split <;> simp only [anchor_mk, anchor_eta, halt_anchor, openIslands_anchor]

@[simp] theorem endP2_anchor (s : State) : (endP2 s).anchor = s.anchor := by
  unfold endP2
  repeat' first
    | (simp only [anchor_mk, anchor_eta, openIslands_anchor, selectImage_anchor]; done)
    | split

@[simp] theorem trainOne_anchor (chB : Bool) (s : State) : (trainOne chB s).anchor = s.anchor := by simp only [trainOne, anchor_mk, anchor_eta, degraded_anchor]

@[simp] theorem engineReady_anchor (e : Nat) (s : State) : (engineReady e s).anchor = s.anchor := by simp only [engineReady, anchor_mk, anchor_eta, setReg_anchor]

end Sys2Proof.Machine
end

