-- ==== Sys2Proof/Laws/AnchorRecords.lean ====
section
/-! SUPPORT. The operations of Machine/Records.lean that leave the memory, the fuses and the queue alone, one lemma each. -/

set_option linter.unusedSimpArgs false
set_option linter.unusedTactic false

namespace Sys2Proof.Machine
open Sys2Proof Host

@[simp] theorem writeAll_anchor (l : List (Word × Word)) (s : State) : (writeAll l s).2.anchor = s.anchor := by
  induction l generalizing s with
  | nil => rw [writeAll]
  | cons x r ih =>
    rw [writeAll]
    split
    · rw [ih, writeReg_anchor]
    · with_reducible rfl

@[simp] theorem setEntries_anchor (id i : Nat) (l : List Nat) (s : State) : (setEntries id i l s).anchor = s.anchor := by
  induction l generalizing i s with
  | nil => rw [setEntries]
  | cons x r ih => rw [setEntries, ih, setEntry_anchor]

theorem nodeLoad_anchor {i e : Nat} {s u : State} (h : nodeLoad i e s = some u) : u.anchor = s.anchor := by
  unfold nodeLoad at h
  dsimp only at h
  split at h
  · rw [← Option.some.inj h]
  · split at h
    · exact absurd h (by simp)
    · split at h
      · split at h
        · rw [← Option.some.inj h, modNode_anchor, anchor_mk, anchor_eta]
        · exact absurd h (by simp)
      · exact absurd h (by simp)
      · obtain ⟨p, _, h⟩ := Option.map_eq_some_iff.mp h
        rw [← h, putNode_anchor, anchor_mk, anchor_eta]

theorem nodesLoad_anchor {i : Nat} {l : List Nat} {s u : State} (h : nodesLoad i l s = some u) : u.anchor = s.anchor := by
  induction l generalizing i s with
  | nil =>
    rw [nodesLoad] at h
    rw [← Option.some.inj h]
  | cons e r ih =>
    rw [nodesLoad] at h
    obtain ⟨t, h1, h2⟩ := Option.bind_eq_some_iff.mp h
    rw [ih h2, nodeLoad_anchor h1]

@[simp] theorem poolLoaded_anchor (s : State) : (poolLoaded s).anchor = s.anchor := by
  unfold poolLoaded
  repeat' first
    | with_reducible rfl
    | (simp only [anchor_mk, anchor_eta, anchor_ite, ite_self, implies_true, refreshStreams_anchor]; done)
    | simp only [anchor_mk, anchor_eta, anchor_ite, ite_self, implies_true, refreshStreams_anchor]
    | refine (anchor_foldl _ (fun _ _ => ?_) _ _).trans ?_

@[simp] theorem tableLoad_anchor (id size first : Nat) (l : List Nat) (s : State) : (tableLoad id size first l s).2.anchor = s.anchor := by
  unfold tableLoad
  split
  · with_reducible rfl
  · dsimp only
    split
    · with_reducible rfl
    · split
      · with_reducible rfl
      · split
        · with_reducible rfl
        · next h =>
          rw [refreshCfg_anchor]
          split at h
          · rw [nodesLoad_anchor h, setEntries_anchor]
          · rw [← Option.some.inj h]
            split
            · rw [poolLoaded_anchor, setEntries_anchor]
            · rw [setEntries_anchor]

end Sys2Proof.Machine
end

