-- ==== Sys2Proof/Laws/AnchorService.lean ====
section
/-! SUPPORT. The operations of Machine/Service.lean that leave the memory, the fuses and the queue alone, one lemma each. -/

set_option linter.unusedSimpArgs false
set_option linter.unusedTactic false

namespace Sys2Proof.Machine
open Sys2Proof Host

@[simp] theorem recoverEntry_anchor (bad : List Nat) (e : Entry) (s : State) : (recoverEntry bad e s).anchor = s.anchor := by
  unfold recoverEntry
  repeat' first
    | (simp only [anchor_mk, anchor_eta, bump_anchor, voidEntry_anchor]; done)
    | split

@[simp] theorem recoverHwm_anchor (s : State) : (recoverHwm s).anchor = s.anchor := by
  unfold recoverHwm
  repeat' first
    | with_reducible rfl
    | (simp only [anchor_mk, anchor_eta, anchor_ite, ite_self, implies_true, raiseHwm_anchor]; done)
    | simp only [anchor_mk, anchor_eta, anchor_ite, ite_self, implies_true, raiseHwm_anchor]
    | refine (anchor_foldl _ (fun _ _ => ?_) _ _).trans ?_

@[simp] theorem recover_anchor (bad : List Nat) (s : State) : (recover bad s).anchor = s.anchor := by
  unfold recover
  repeat' first
    | with_reducible rfl
    | (simp only [anchor_mk, anchor_eta, anchor_ite, ite_self, implies_true, recoverEntry_anchor, recoverHwm_anchor, settleOwed_anchor]; done)
    | simp only [anchor_mk, anchor_eta, anchor_ite, ite_self, implies_true, recoverEntry_anchor, recoverHwm_anchor, settleOwed_anchor]
    | refine (anchor_foldl _ (fun _ _ => ?_) _ _).trans ?_
    | refine anchor_elim _ _ _ _ ?_ (fun _ => ?_)
    | refine anchor_map_getD _ _ _ _ ?_ (fun _ => ?_)
    | split

@[simp] theorem startReports_anchor (s : State) : (startReports s).anchor = s.anchor := by
  unfold startReports
  repeat' first
    | (simp only [anchor_mk, anchor_eta, degraded_anchor]; done)
    | split

@[simp] theorem activationStart_anchor (s : State) : (activationStart s).anchor = s.anchor := by
  unfold activationStart
  repeat' first
    | (simp only [anchor_mk, anchor_eta, endItem_anchor, occurs_anchor]; done)
    | split

@[simp] theorem releaseRole_anchor (s : State) : (releaseRole s).anchor = s.anchor := by
  unfold releaseRole
  repeat' first
    | (simp only [anchor_mk, anchor_eta, detach_anchor, raiseEpoch_anchor]; done)
    | split

@[simp] theorem serve_anchor (s : State) : (serve s).anchor = s.anchor := by
  unfold serve
  repeat' first
    | with_reducible rfl
    | (simp only [anchor_mk, anchor_eta, anchor_ite, ite_self, implies_true, driveLine_anchor, resumeItems_anchor, serveActive_anchor]; done)

end Sys2Proof.Machine
end

