-- ==== Sys2Proof/Laws/AnchorTick.lean ====
section
/-! SUPPORT. The operations of Machine/Tick.lean that leave the memory, the fuses and the queue alone, one lemma each. -/

set_option linter.unusedSimpArgs false
set_option linter.unusedTactic false

namespace Sys2Proof.Machine
open Sys2Proof Host

@[simp] theorem clockTick_anchor (s : State) : (clockTick s).anchor = s.anchor := by
  unfold clockTick
  split <;> simp only [anchor_mk, anchor_eta]

end Sys2Proof.Machine
end

