-- ==== Sys2Proof/Laws/Exec.lean ====
section
/-! SUPPORT. What exec does with each command is its meaning: one equation per constructor, to rewrite with. -/

namespace Sys2Proof.Machine

open Sys2Proof

theorem exec_porstNRise t s : exec (.porstNRise t) s = execPorstNRise t s := rfl
theorem exec_porstNFall t s : exec (.porstNFall t) s = execPorstNFall t s := rfl
theorem exec_vddAoLow t s : exec (.vddAoLow t) s = execVddAoLow t s := rfl
theorem exec_warmrstNFall t s : exec (.warmrstNFall t) s = execWarmrstNFall t s := rfl
theorem exec_warmResetDrainDone t s : exec (.warmResetDrainDone t) s = execWarmResetDrainDone t s := rfl
theorem exec_refclkStable t pairRole bootSel s : exec (.refclkStable t pairRole bootSel) s = execRefclkStable t pairRole bootSel s := rfl
theorem exec_fuseLoadDone t single double s : exec (.fuseLoadDone t single double) s = execFuseLoadDone t single double s := rfl
theorem exec_pufAttemptDone t root slotA slotB s : exec (.pufAttemptDone t root slotA slotB) s = execPufAttemptDone t root slotA slotB s := rfl
theorem exec_imageCheckDone t keyHashOk signatureOk readError flashSize oldest newest s : exec (.imageCheckDone t keyHashOk signatureOk readError flashSize oldest newest) s = execImageCheckDone t keyHashOk signatureOk readError flashSize oldest newest s := rfl
theorem exec_ddrTrainDone t okA okB capA capB s : exec (.ddrTrainDone t okA okB capA capB) s = execDdrTrainDone t okA okB capA capB s := rfl
theorem exec_regWrite t hdr writes s : exec (.regWrite t hdr writes) s = execRegWrite t hdr writes s := rfl
theorem exec_regField t hdr address mask value s : exec (.regField t hdr address mask value) s = execRegField t hdr address mask value s := rfl
theorem exec_memLoad t hdr target index address data s : exec (.memLoad t hdr target index address data) s = execMemLoad t hdr target index address data s := rfl
theorem exec_tableLoad t hdr tableId entrySize firstIndex entries s : exec (.tableLoad t hdr tableId entrySize firstIndex entries) s = execTableLoad t hdr tableId entrySize firstIndex entries s := rfl
theorem exec_keyBlob t hdr cls wrap id ephemeral blob s : exec (.keyBlob t hdr cls wrap id ephemeral blob) s = execKeyBlob t hdr cls wrap id ephemeral blob s := rfl
theorem exec_waitUntil t hdr address mask value timeout s : exec (.waitUntil t hdr address mask value timeout) s = execWaitUntil t hdr address mask value timeout s := rfl
theorem exec_waitUntilTimeout t s : exec (.waitUntilTimeout t) s = execWaitUntilTimeout t s := rfl
theorem exec_check t hdr address mask value op s : exec (.check t hdr address mask value op) s = execCheck t hdr address mask value op s := rfl
theorem exec_formatNote t hdr region oldFormat newFormat newOffset newLength oldOffset oldLength s : exec (.formatNote t hdr region oldFormat newFormat newOffset newLength oldOffset oldLength) s = execFormatNote t hdr region oldFormat newFormat newOffset newLength oldOffset oldLength s := rfl
theorem exec_bootEngineReadyWrite t engine s : exec (.bootEngineReadyWrite t engine) s = execBootEngineReadyWrite t engine s := rfl
theorem exec_engineTimeout t s : exec (.engineTimeout t) s = execEngineTimeout t s := rfl
theorem exec_phaseBoundExpire t s : exec (.phaseBoundExpire t) s = execPhaseBoundExpire t s := rfl
theorem exec_fhLinkupTimeout t s : exec (.fhLinkupTimeout t) s = execFhLinkupTimeout t s := rfl
theorem exec_pairAbsent t partnerLow s : exec (.pairAbsent t partnerLow) s = execPairAbsent t partnerLow s := rfl
theorem exec_release t badCopies s : exec (.release t badCopies) s = execRelease t badCopies s := rfl
theorem exec_pllLockLoss t island s : exec (.pllLockLoss t island) s = execPllLockLoss t island s := rfl
theorem exec_sdsclkLoss t k s : exec (.sdsclkLoss t k) s = execSdsclkLoss t k s := rfl
theorem exec_fuseProgGo t agent bit revoke s : exec (.fuseProgGo t agent bit revoke) s = execFuseProgGo t agent bit revoke s := rfl
theorem exec_fuseProgDone t s : exec (.fuseProgDone t) s = execFuseProgDone t s := rfl
theorem exec_jtagFuseProgram t word bit s : exec (.jtagFuseProgram t word bit) s = execJtagFuseProgram t word bit s := rfl
theorem exec_jtagZeroise t s : exec (.jtagZeroise t) s = execJtagZeroise t s := rfl
theorem exec_zeroiseDone t s : exec (.zeroiseDone t) s = execZeroiseDone t s := rfl
theorem exec_confirmRetryCheck t otherValid step2Ok step3Ok s : exec (.confirmRetryCheck t otherValid step2Ok step3Ok) s = execConfirmRetryCheck t otherValid step2Ok step3Ok s := rfl
theorem exec_fhSignalDetect t port s : exec (.fhSignalDetect t port) s = execFhSignalDetect t port s := rfl
theorem exec_fhBlockLock t port headers s : exec (.fhBlockLock t port headers) s = execFhBlockLock t port headers s := rfl
theorem exec_fhBlockLockTimeout t port s : exec (.fhBlockLockTimeout t port) s = execFhBlockLockTimeout t port s := rfl
theorem exec_fhControlBlockRx t port syncGood block s : exec (.fhControlBlockRx t port syncGood block) s = execFhControlBlockRx t port syncGood block s := rfl
theorem exec_fhSuperframeRx t port rxTime arrivals s : exec (.fhSuperframeRx t port rxTime arrivals) s = execFhSuperframeRx t port rxTime arrivals s := rfl
theorem exec_fhFrameTx t port groups s : exec (.fhFrameTx t port groups) s = execFhFrameTx t port groups s := rfl
theorem exec_fhTimeTimeout t port s : exec (.fhTimeTimeout t port) s = execFhTimeTimeout t port s := rfl
theorem exec_fhRecoverTimeout t port s : exec (.fhRecoverTimeout t port) s = execFhRecoverTimeout t port s := rfl
theorem exec_fhFaultTimeout t port s : exec (.fhFaultTimeout t port) s = execFhFaultTimeout t port s := rfl
theorem exec_fhMbxReply t port s : exec (.fhMbxReply t port) s = execFhMbxReply t port s := rfl
theorem exec_fhMbxTimeout t port s : exec (.fhMbxTimeout t port) s = execFhMbxTimeout t port s := rfl
theorem exec_fhLoopWrite t port loop s : exec (.fhLoopWrite t port loop) s = execFhLoopWrite t port loop s := rfl
theorem exec_anaLoopWrite t port loop s : exec (.anaLoopWrite t port loop) s = execAnaLoopWrite t port loop s := rfl
theorem exec_poolEntry t dsn s : exec (.poolEntry t dsn) s = execPoolEntry t dsn s := rfl
theorem exec_chnGenRequest t head s : exec (.chnGenRequest t head) s = execChnGenRequest t head s := rfl
theorem exec_chnUnitStart t head s : exec (.chnUnitStart t head) s = execChnUnitStart t head s := rfl
theorem exec_chnSwitchPoint t head s : exec (.chnSwitchPoint t head) s = execChnSwitchPoint t head s := rfl
theorem exec_chnRetireExpire t unit s : exec (.chnRetireExpire t unit) s = execChnRetireExpire t unit s := rfl
theorem exec_noiseFloorRise t stream bin powers s : exec (.noiseFloorRise t stream bin powers) s = execNoiseFloorRise t stream bin powers s := rfl
theorem exec_detection t h s : exec (.detection t h) s = execDetection t h s := rfl
theorem exec_detRecordIssue t stream s : exec (.detRecordIssue t stream) s = execDetRecordIssue t stream s := rfl
theorem exec_detMaskExpire t stream maskIndex metrics s : exec (.detMaskExpire t stream maskIndex metrics) s = execDetMaskExpire t stream maskIndex metrics s := rfl
theorem exec_laneAssign t s : exec (.laneAssign t) s = execLaneAssign t s := rfl
theorem exec_laneCaughtUp t lane s : exec (.laneCaughtUp t lane) s = execLaneCaughtUp t lane s := rfl
theorem exec_laneSyncFound t lane word snr position s : exec (.laneSyncFound t lane word snr position) s = execLaneSyncFound t lane word snr position s := rfl
theorem exec_lanePreambleLost t lane below s : exec (.lanePreambleLost t lane below) s = execLanePreambleLost t lane below s := rfl
theorem exec_laneHeaderCheck t group bits hcsOk members summary s : exec (.laneHeaderCheck t group bits hcsOk members summary) s = execLaneHeaderCheck t group bits hcsOk members summary s := rfl
theorem exec_laneAddressPoint t lane fields s : exec (.laneAddressPoint t lane fields) s = execLaneAddressPoint t lane fields s := rfl
theorem exec_laneFrameEnd t lane fcsOk endTime s : exec (.laneFrameEnd t lane fcsOk endTime) s = execLaneFrameEnd t lane fcsOk endTime s := rfl
theorem exec_laneReconstruction t context stronger s : exec (.laneReconstruction t context stronger) s = execLaneReconstruction t context stronger s := rfl
theorem exec_laneRerunEnd t lane fcsOk s : exec (.laneRerunEnd t lane fcsOk) s = execLaneRerunEnd t lane fcsOk s := rfl
theorem exec_laneSpillOverrun t context s : exec (.laneSpillOverrun t context) s = execLaneSpillOverrun t context s := rfl
theorem exec_laneInputInvalid t lane s : exec (.laneInputInvalid t lane) s = execLaneInputInvalid t lane s := rfl
theorem exec_laneExportDone t lane body s : exec (.laneExportDone t lane body) s = execLaneExportDone t lane body s := rfl
theorem exec_slotBoundary t s : exec (.slotBoundary t) s = execSlotBoundary t s := rfl
theorem exec_slotframeBoundary t slotframe s : exec (.slotframeBoundary t slotframe) s = execSlotframeBoundary t slotframe s := rfl
theorem exec_scheduleStart t s : exec (.scheduleStart t) s = execScheduleStart t s := rfl
theorem exec_txStartCommand t booking s : exec (.txStartCommand t booking) s = execTxStartCommand t booking s := rfl
theorem exec_ackRelease t group s : exec (.ackRelease t group) s = execAckRelease t group s := rfl
theorem exec_ackLeft t group s : exec (.ackLeft t group) s = execAckLeft t group s := rfl
theorem exec_txEnd t modulator overflows s : exec (.txEnd t modulator overflows) s = execTxEnd t modulator overflows s := rfl
theorem exec_maskMonitorEval t stream spectra s : exec (.maskMonitorEval t stream spectra) s = execMaskMonitorEval t stream spectra s := rfl
theorem exec_beaconRewrite t beacon s : exec (.beaconRewrite t beacon) s = execBeaconRewrite t beacon s := rfl
theorem exec_calSnippet t snippet s : exec (.calSnippet t snippet) s = execCalSnippet t snippet s := rfl
theorem exec_calStreamBlock t head sums saturated clipped s : exec (.calStreamBlock t head sums saturated clipped) s = execCalStreamBlock t head sums saturated clipped s := rfl
theorem exec_calGainUpdate t head s : exec (.calGainUpdate t head) s = execCalGainUpdate t head s := rfl
theorem exec_calDelaySolve t s : exec (.calDelaySolve t) s = execCalDelaySolve t s := rfl
theorem exec_calGenRequest t head transmit s : exec (.calGenRequest t head transmit) s = execCalGenRequest t head transmit s := rfl
theorem exec_calSweepStart t head s : exec (.calSweepStart t head) s = execCalSweepStart t head s := rfl
theorem exec_calSweepDone t head measured s : exec (.calSweepDone t head measured) s = execCalSweepDone t head measured s := rfl
theorem exec_calRecordWrite t utc s : exec (.calRecordWrite t utc) s = execCalRecordWrite t utc s := rfl
theorem exec_calRestore t utcNow s : exec (.calRestore t utcNow) s = execCalRestore t utcNow s := rfl
theorem exec_ptpSync t msg s : exec (.ptpSync t msg) s = execPtpSync t msg s := rfl
theorem exec_ptpFollowUp t msg s : exec (.ptpFollowUp t msg) s = execPtpFollowUp t msg s := rfl
theorem exec_ptpDelayResp t msg s : exec (.ptpDelayResp t msg) s = execPtpDelayResp t msg s := rfl
theorem exec_ptpAnnounce t msg s : exec (.ptpAnnounce t msg) s = execPtpAnnounce t msg s := rfl
theorem exec_ppsInEdge t s : exec (.ppsInEdge t) s = execPpsInEdge t s := rfl
theorem exec_ppsEdgeMissing t s : exec (.ppsEdgeMissing t) s = execPpsEdgeMissing t s := rfl
theorem exec_ppsOutPulse t s : exec (.ppsOutPulse t) s = execPpsOutPulse t s := rfl
theorem exec_ppsOutFall t s : exec (.ppsOutFall t) s = execPpsOutFall t s := rfl
theorem exec_timeComparator t engine s : exec (.timeComparator t engine) s = execTimeComparator t engine s := rfl
theorem exec_nbrBeaconHeard t neighbour asn start s : exec (.nbrBeaconHeard t neighbour asn start) s = execNbrBeaconHeard t neighbour asn start s := rfl
theorem exec_nbrBeaconMissed t neighbour s : exec (.nbrBeaconMissed t neighbour) s = execNbrBeaconMissed t neighbour s := rfl
theorem exec_nbrHoldoffExpire t neighbour s : exec (.nbrHoldoffExpire t neighbour) s = execNbrHoldoffExpire t neighbour s := rfl
theorem exec_keyLookup t group s : exec (.keyLookup t group) s = execKeyLookup t group s := rfl
theorem exec_keyUnwrapDone t s : exec (.keyUnwrapDone t) s = execKeyUnwrapDone t s := rfl
theorem exec_keyPayloadBlock t group s : exec (.keyPayloadBlock t group) s = execKeyPayloadBlock t group s := rfl
theorem exec_keyFrameEnd t group fcsOk frame blocks s : exec (.keyFrameEnd t group fcsOk frame blocks) s = execKeyFrameEnd t group fcsOk frame blocks s := rfl
theorem exec_keyCounterUpdate t node counter digest s : exec (.keyCounterUpdate t node counter digest) s = execKeyCounterUpdate t node counter digest s := rfl
theorem exec_keyProtect t booking s : exec (.keyProtect t booking) s = execKeyProtect t booking s := rfl
theorem exec_counterCeilingWrite t s : exec (.counterCeilingWrite t) s = execCounterCeilingWrite t s := rfl
theorem exec_keyLoad t dsn s : exec (.keyLoad t dsn) s = execKeyLoad t dsn s := rfl
theorem exec_keyRevoke t dsn s : exec (.keyRevoke t dsn) s = execKeyRevoke t dsn s := rfl
theorem exec_keyRetire t dsn s : exec (.keyRetire t dsn) s = execKeyRetire t dsn s := rfl
theorem exec_keyRewrap t dsn s : exec (.keyRewrap t dsn) s = execKeyRewrap t dsn s := rfl
theorem exec_keyRewrapWalkDone t s : exec (.keyRewrapWalkDone t) s = execKeyRewrapWalkDone t s := rfl
theorem exec_keyJournalWriteDone t ok s : exec (.keyJournalWriteDone t ok) s = execKeyJournalWriteDone t ok s := rfl
theorem exec_keyJournalCompact t copyB s : exec (.keyJournalCompact t copyB) s = execKeyJournalCompact t copyB s := rfl
theorem exec_keyEntropyFail t s : exec (.keyEntropyFail t) s = execKeyEntropyFail t s := rfl
theorem exec_jigLaneDrained t s : exec (.jigLaneDrained t) s = execJigLaneDrained t s := rfl
theorem exec_candidateOpen t group s : exec (.candidateOpen t group) s = execCandidateOpen t group s := rfl
theorem exec_candidateVerdicts t group frame s : exec (.candidateVerdicts t group frame) s = execCandidateVerdicts t group frame s := rfl
theorem exec_candidateStaged t group roomA roomB s : exec (.candidateStaged t group roomA roomB) s = execCandidateStaged t group roomA roomB s := rfl
theorem exec_candidateDeadline t group s : exec (.candidateDeadline t group) s = execCandidateDeadline t group s := rfl
theorem exec_owedReleaseMissed t jsn s : exec (.owedReleaseMissed t jsn) s = execOwedReleaseMissed t jsn s := rfl
theorem exec_standbyCandidateTimeout t group s : exec (.standbyCandidateTimeout t group) s = execStandbyCandidateTimeout t group s := rfl
theorem exec_standbyOwedAssume t jsn s : exec (.standbyOwedAssume t jsn) s = execStandbyOwedAssume t jsn s := rfl
theorem exec_dedupExpire t s : exec (.dedupExpire t) s = execDedupExpire t s := rfl
theorem exec_learnEvent t node ports s : exec (.learnEvent t node ports) s = execLearnEvent t node ports s := rfl
theorem exec_newSenderAdmit t group node ports s : exec (.newSenderAdmit t group node ports) s = execNewSenderAdmit t group node ports s := rfl
theorem exec_learnWindowClose t node s : exec (.learnWindowClose t node) s = execLearnWindowClose t node s := rfl
theorem exec_nodeEntryCreate t node s : exec (.nodeEntryCreate t node) s = execNodeEntryCreate t node s := rfl
theorem exec_nodeInsert t node moves s : exec (.nodeInsert t node moves) s = execNodeInsert t node moves s := rfl
theorem exec_learnFallback t node s : exec (.learnFallback t node) s = execLearnFallback t node s := rfl
theorem exec_rehashStart t s : exec (.rehashStart t) s = execRehashStart t s := rfl
theorem exec_rehashDone t slots s : exec (.rehashDone t slots) s = execRehashDone t slots s := rfl
theorem exec_agerVisit t index stamp s : exec (.agerVisit t index stamp) s = execAgerVisit t index stamp s := rfl
theorem exec_homePortRehome t node s : exec (.homePortRehome t node) s = execHomePortRehome t node s := rfl
theorem exec_forwardPacket t packet s : exec (.forwardPacket t packet) s = execForwardPacket t packet s := rfl
theorem exec_transitExpire t position s : exec (.transitExpire t position) s = execTransitExpire t position s := rfl
theorem exec_seenExpire t s : exec (.seenExpire t) s = execSeenExpire t s := rfl
theorem exec_ferryDownlink t frame s : exec (.ferryDownlink t frame) s = execFerryDownlink t frame s := rfl
theorem exec_dlItemExpiry t dsn s : exec (.dlItemExpiry t dsn) s = execDlItemExpiry t dsn s := rfl
theorem exec_nodeEnhancedAck t node micGood nack airTime s : exec (.nodeEnhancedAck t node micGood nack airTime) s = execNodeEnhancedAck t node micGood nack airTime s := rfl
theorem exec_ferryMgmtCmd t frame s : exec (.ferryMgmtCmd t frame) s = execFerryMgmtCmd t frame s := rfl
theorem exec_clearCounters t dsn s : exec (.clearCounters t dsn) s = execClearCounters t dsn s := rfl
theorem exec_clearSticky t dsn s : exec (.clearSticky t dsn) s = execClearSticky t dsn s := rfl
theorem exec_eventClear t dsn s : exec (.eventClear t dsn) s = execEventClear t dsn s := rfl
theorem exec_keyItem t dsn s : exec (.keyItem t dsn) s = execKeyItem t dsn s := rfl
theorem exec_ferryUlAck t frame s : exec (.ferryUlAck t frame) s = execFerryUlAck t frame s := rfl
theorem exec_ferryUplinkSend t count s : exec (.ferryUplinkSend t count) s = execFerryUplinkSend t count s := rfl
theorem exec_ferryUlRto t s : exec (.ferryUlRto t) s = execFerryUlRto t s := rfl
theorem exec_ferryHeartbeat t frame s : exec (.ferryHeartbeat t frame) s = execFerryHeartbeat t frame s := rfl
theorem exec_ferryHeartbeatTx t s : exec (.ferryHeartbeatTx t) s = execFerryHeartbeatTx t s := rfl
theorem exec_ferryPeerLost t s : exec (.ferryPeerLost t) s = execFerryPeerLost t s := rfl
theorem exec_ferrySessionOpen t s : exec (.ferrySessionOpen t) s = execFerrySessionOpen t s := rfl
theorem exec_ferryRekey t s : exec (.ferryRekey t) s = execFerryRekey t s := rfl
theorem exec_ferryOldKeysExpire t s : exec (.ferryOldKeysExpire t) s = execFerryOldKeysExpire t s := rfl
theorem exec_ferryMgmtRead t frame s : exec (.ferryMgmtRead t frame) s = execFerryMgmtRead t frame s := rfl
theorem exec_neighbourAdvertisementTx t s : exec (.neighbourAdvertisementTx t) s = execNeighbourAdvertisementTx t s := rfl
theorem exec_neighbourSolicitation t port target s : exec (.neighbourSolicitation t port target) s = execNeighbourSolicitation t port target s := rfl
theorem exec_echoRequest t port target s : exec (.echoRequest t port target) s = execEchoRequest t port target s := rfl
theorem exec_ethLinkChange t port up s : exec (.ethLinkChange t port up) s = execEthLinkChange t port up s := rfl
theorem exec_tokenPartnerReleased t s : exec (.tokenPartnerReleased t) s = execTokenPartnerReleased t s := rfl
theorem exec_tokenTie t s : exec (.tokenTie t) s = execTokenTie t s := rfl
theorem exec_ownLineFault t s : exec (.ownLineFault t) s = execOwnLineFault t s := rfl
theorem exec_takeTime t partnerLow s : exec (.takeTime t partnerLow) s = execTakeTime t partnerLow s := rfl
theorem exec_headFollowCheck t port s : exec (.headFollowCheck t port) s = execHeadFollowCheck t port s := rfl
theorem exec_payloadRecord t hdr group blocks s : exec (.payloadRecord t hdr group blocks) s = execPayloadRecord t hdr group blocks s := rfl
theorem exec_entryRecord t hdr group entry s : exec (.entryRecord t hdr group entry) s = execEntryRecord t hdr group entry s := rfl
theorem exec_ackBookRecord t hdr book s : exec (.ackBookRecord t hdr book) s = execAckBookRecord t hdr book s := rfl
theorem exec_voidRecord t hdr jsn s : exec (.voidRecord t hdr jsn) s = execVoidRecord t hdr jsn s := rfl
theorem exec_dlRecord t hdr body s : exec (.dlRecord t hdr body) s = execDlRecord t hdr body s := rfl
theorem exec_ceilingRecord t hdr body s : exec (.ceilingRecord t hdr body) s = execCeilingRecord t hdr body s := rfl
theorem exec_ackPointRecord t hdr ackJsn s : exec (.ackPointRecord t hdr ackJsn) s = execAckPointRecord t hdr ackJsn s := rfl
theorem exec_sessionRecord t hdr session packetCeiling inboundHigh nonceD nonceH s : exec (.sessionRecord t hdr session packetCeiling inboundHigh nonceD nonceH) s = execSessionRecord t hdr session packetCeiling inboundHigh nonceD nonceH s := rfl
theorem exec_scheduleRecord t hdr body s : exec (.scheduleRecord t hdr body) s = execScheduleRecord t hdr body s := rfl
theorem exec_keyRecord t hdr body s : exec (.keyRecord t hdr body) s = execKeyRecord t hdr body s := rfl
theorem exec_nodeRecord t hdr create node index relay pan bulk s : exec (.nodeRecord t hdr create node index relay pan bulk) s = execNodeRecord t hdr create node index relay pan bulk s := rfl
theorem exec_campaignRecord t hdr body s : exec (.campaignRecord t hdr body) s = execCampaignRecord t hdr body s := rfl
theorem exec_timeRecord t hdr partnerTime s : exec (.timeRecord t hdr partnerTime) s = execTimeRecord t hdr partnerTime s := rfl
theorem exec_commitRecord t hdr committed ok s : exec (.commitRecord t hdr committed ok) s = execCommitRecord t hdr committed ok s := rfl
theorem exec_fitnessRecord t hdr body s : exec (.fitnessRecord t hdr body) s = execFitnessRecord t hdr body s := rfl
theorem exec_fitnessTx t s : exec (.fitnessTx t) s = execFitnessTx t s := rfl
theorem exec_digestRecord t hdr ranges s : exec (.digestRecord t hdr ranges) s = execDigestRecord t hdr ranges s := rfl
theorem exec_rangeRecord t hdr body s : exec (.rangeRecord t hdr body) s = execRangeRecord t hdr body s := rfl
theorem exec_handoverRecord t hdr th newEpoch s : exec (.handoverRecord t hdr th newEpoch) s = execHandoverRecord t hdr th newEpoch s := rfl
theorem exec_releasedRecord t hdr lastMseq s : exec (.releasedRecord t hdr lastMseq) s = execReleasedRecord t hdr lastMseq s := rfl
theorem exec_pairingRecord t hdr body s : exec (.pairingRecord t hdr body) s = execPairingRecord t hdr body s := rfl
theorem exec_keepaliveRecord t hdr s : exec (.keepaliveRecord t hdr) s = execKeepaliveRecord t hdr s := rfl
theorem exec_keepaliveTx t link s : exec (.keepaliveTx t link) s = execKeepaliveTx t link s := rfl
theorem exec_isthmusLinkUp t link s : exec (.isthmusLinkUp t link) s = execIsthmusLinkUp t link s := rfl
theorem exec_isthmusLinkLoss t link lane s : exec (.isthmusLinkLoss t link lane) s = execIsthmusLinkLoss t link lane s := rfl
theorem exec_pairPartnerLost t s : exec (.pairPartnerLost t) s = execPairPartnerLost t s := rfl
theorem exec_pairDetached t s : exec (.pairDetached t) s = execPairDetached t s := rfl
theorem exec_pairMseqGap t s : exec (.pairMseqGap t) s = execPairMseqGap t s := rfl
theorem exec_pairGiveUp t s : exec (.pairGiveUp t) s = execPairGiveUp t s := rfl
theorem exec_digestPeriodTick t s : exec (.digestPeriodTick t) s = execDigestPeriodTick t s := rfl
theorem exec_resyncPhaseDone t phase s : exec (.resyncPhaseDone t phase) s = execResyncPhaseDone t phase s := rfl
theorem exec_pairResync t s : exec (.pairResync t) s = execPairResync t s := rfl
theorem exec_pairResyncSlow t s : exec (.pairResyncSlow t) s = execPairResyncSlow t s := rfl
theorem exec_handover t dsn s : exec (.handover t dsn) s = execHandover t dsn s := rfl
theorem exec_resync t dsn s : exec (.resync t dsn) s = execResync t dsn s := rfl
theorem exec_handoverTime t s : exec (.handoverTime t) s = execHandoverTime t s := rfl
theorem exec_updBegin t dsn s : exec (.updBegin t dsn) s = execUpdBegin t dsn s := rfl
theorem exec_updPart t dsn s : exec (.updPart t dsn) s = execUpdPart t dsn s := rfl
theorem exec_updAbort t dsn s : exec (.updAbort t dsn) s = execUpdAbort t dsn s := rfl
theorem exec_pieceWrite t piece copyB ok s : exec (.pieceWrite t piece copyB ok) s = execPieceWrite t piece copyB ok s := rfl
theorem exec_updVerifyDone t s : exec (.updVerifyDone t) s = execUpdVerifyDone t s := rfl
theorem exec_updActivate t dsn partnerVerified s : exec (.updActivate t dsn partnerVerified) s = execUpdActivate t dsn partnerVerified s := rfl
theorem exec_updActivateCopyDone t ok s : exec (.updActivateCopyDone t ok) s = execUpdActivateCopyDone t ok s := rfl
theorem exec_actTimeout t s : exec (.actTimeout t) s = execActTimeout t s := rfl
theorem exec_updConfirm t dsn step1Ok otherValid step2Ok step3Ok s : exec (.updConfirm t dsn step1Ok otherValid step2Ok step3Ok) s = execUpdConfirm t dsn step1Ok otherValid step2Ok step3Ok s := rfl
theorem exec_confirmHold t step1Ok otherValid step2Ok step3Ok s : exec (.confirmHold t step1Ok otherValid step2Ok step3Ok) s = execConfirmHold t step1Ok otherValid step2Ok step3Ok s := rfl
theorem exec_updRevert t dsn s : exec (.updRevert t dsn) s = execUpdRevert t dsn s := rfl
theorem exec_updRevokeSlot t dsn otherValid s : exec (.updRevokeSlot t dsn otherValid) s = execUpdRevokeSlot t dsn otherValid s := rfl
theorem exec_pieceRequest t request s : exec (.pieceRequest t request) s = execPieceRequest t request s := rfl
theorem exec_piecePartFrame t source part s : exec (.piecePartFrame t source part) s = execPiecePartFrame t source part s := rfl
theorem exec_campDefine t dsn s : exec (.campDefine t dsn) s = execCampDefine t dsn s := rfl
theorem exec_campData t dsn s : exec (.campData t dsn) s = execCampData t dsn s := rfl
theorem exec_campMembers t dsn s : exec (.campMembers t dsn) s = execCampMembers t dsn s := rfl
theorem exec_campStart t dsn s : exec (.campStart t dsn) s = execCampStart t dsn s := rfl
theorem exec_campPause t dsn s : exec (.campPause t dsn) s = execCampPause t dsn s := rfl
theorem exec_campEnd t dsn s : exec (.campEnd t dsn) s = execCampEnd t dsn s := rfl
theorem exec_campWindowOpen t campaign s : exec (.campWindowOpen t campaign) s = execCampWindowOpen t campaign s := rfl
theorem exec_quayClaim t agent quay octets s : exec (.quayClaim t agent quay octets) s = execQuayClaim t agent quay octets s := rfl
theorem exec_quayWrWord t agent quay word parityGood s : exec (.quayWrWord t agent quay word parityGood) s = execQuayWrWord t agent quay word parityGood s := rfl
theorem exec_quayWrEnd t agent quay word octets parityGood s : exec (.quayWrEnd t agent quay word octets parityGood) s = execQuayWrEnd t agent quay word octets parityGood s := rfl
theorem exec_quayWrPoison t agent quay s : exec (.quayWrPoison t agent quay) s = execQuayWrPoison t agent quay s := rfl
theorem exec_quayRdNext t agent quay badBank s : exec (.quayRdNext t agent quay badBank) s = execQuayRdNext t agent quay badBank s := rfl
theorem exec_quayRdDrop t agent quay s : exec (.quayRdDrop t agent quay) s = execQuayRdDrop t agent quay s := rfl
theorem exec_quayFlush t agent quay s : exec (.quayFlush t agent quay) s = execQuayFlush t agent quay s := rfl
theorem exec_dmaStart t agent channel s : exec (.dmaStart t agent channel) s = execDmaStart t agent channel s := rfl
theorem exec_dmaStop t agent channel s : exec (.dmaStop t agent channel) s = execDmaStop t agent channel s := rfl
theorem exec_dmaDescriptorDone t channel poisonAt s : exec (.dmaDescriptorDone t channel poisonAt) s = execDmaDescriptorDone t channel poisonAt s := rfl
theorem exec_eccError t address channelB uncorrectable byDma s : exec (.eccError t address channelB uncorrectable byDma) s = execEccError t address channelB uncorrectable byDma s := rfl
theorem exec_scrubPatrol t corrected s : exec (.scrubPatrol t corrected) s = execScrubPatrol t corrected s := rfl
theorem exec_ddrTrainingLoss t channelB s : exec (.ddrTrainingLoss t channelB) s = execDdrTrainingLoss t channelB s := rfl
theorem exec_ddrRetrainDone t channelB ok s : exec (.ddrRetrainDone t channelB ok) s = execDdrRetrainDone t channelB ok s := rfl
theorem exec_engWdogKick t engine s : exec (.engWdogKick t engine) s = execEngWdogKick t engine s := rfl
theorem exec_engWdogExpire t engine s : exec (.engWdogExpire t engine) s = execEngWdogExpire t engine s := rfl
theorem exec_engLockstep t pair23 s : exec (.engLockstep t pair23) s = execEngLockstep t pair23 s := rfl
theorem exec_errorReport t report lost s : exec (.errorReport t report lost) s = execErrorReport t report lost s := rfl
theorem exec_coalesceWindowClose t unit code s : exec (.coalesceWindowClose t unit code) s = execCoalesceWindowClose t unit code s := rfl
theorem exec_handlerTake t agent s : exec (.handlerTake t agent) s = execHandlerTake t agent s := rfl
theorem exec_handlerDone t agent outcome s : exec (.handlerDone t agent outcome) s = execHandlerDone t agent outcome s := rfl
theorem exec_handlerTimeout t s : exec (.handlerTimeout t) s = execHandlerTimeout t s := rfl
theorem exec_handlerException t core s : exec (.handlerException t core) s = execHandlerException t core s := rfl
theorem exec_jigSweepStart t s : exec (.jigSweepStart t) s = execJigSweepStart t s := rfl
theorem exec_jigTestStart t kind inst s : exec (.jigTestStart t kind inst) s = execJigTestStart t kind inst s := rfl
theorem exec_jigDetWarmupDone t s : exec (.jigDetWarmupDone t) s = execJigDetWarmupDone t s := rfl
theorem exec_jigPreempt t s : exec (.jigPreempt t) s = execJigPreempt t s := rfl
theorem exec_jigTestDone t result s : exec (.jigTestDone t result) s = execJigTestDone t result s := rfl
theorem exec_jigRun t dsn s : exec (.jigRun t dsn) s = execJigRun t dsn s := rfl
theorem exec_jigPort t dsn s : exec (.jigPort t dsn) s = execJigPort t dsn s := rfl
theorem exec_fhRetrain t dsn s : exec (.fhRetrain t dsn) s = execFhRetrain t dsn s := rfl
theorem exec_dumpRelease t dsn s : exec (.dumpRelease t dsn) s = execDumpRelease t dsn s := rfl
theorem exec_clampRequest t activity clamp s : exec (.clampRequest t activity clamp) s = execClampRequest t activity clamp s := rfl
theorem exec_clampRelease t activity clamp s : exec (.clampRelease t activity clamp) s = execClampRelease t activity clamp s := rfl
theorem exec_clampWaitExpire t activity clamp s : exec (.clampWaitExpire t activity clamp) s = execClampWaitExpire t activity clamp s := rfl
theorem exec_fatal t cause s : exec (.fatal t cause) s = execFatal t cause s := rfl
theorem exec_fatalStagingDrained t s : exec (.fatalStagingDrained t) s = execFatalStagingDrained t s := rfl
theorem exec_dumpWritten t s : exec (.dumpWritten t) s = execDumpWritten t s := rfl
theorem exec_dumpPathsDone t s : exec (.dumpPathsDone t) s = execDumpPathsDone t s := rfl
theorem exec_hltPartnerDump t header s : exec (.hltPartnerDump t header) s = execHltPartnerDump t header s := rfl
theorem exec_dumpFlashCopy t slot toFlash ok s : exec (.dumpFlashCopy t slot toFlash ok) s = execDumpFlashCopy t slot toFlash ok s := rfl
theorem exec_evrCursorWrite t agent seq s : exec (.evrCursorWrite t agent seq) s = execEvrCursorWrite t agent seq s := rfl
theorem exec_evrData7Read t agent s : exec (.evrData7Read t agent) s = execEvrData7Read t agent s := rfl
theorem exec_mgtI2cWrite t octets s : exec (.mgtI2cWrite t octets) s = execMgtI2cWrite t octets s := rfl
theorem exec_mgtI2cRead t words s : exec (.mgtI2cRead t words) s = execMgtI2cRead t words s := rfl
theorem exec_registerLoRead t agent address octets s : exec (.registerLoRead t agent address octets) s = execRegisterLoRead t agent address octets s := rfl
theorem exec_registerWrite t agent address value octets s : exec (.registerWrite t agent address value octets) s = execRegisterWrite t agent address value octets s := rfl
theorem exec_glbOvertemp t s : exec (.glbOvertemp t) s = execGlbOvertemp t s := rfl
theorem exec_glbThermalTrip t s : exec (.glbThermalTrip t) s = execGlbThermalTrip t s := rfl
theorem exec_warmrstNRise t s : exec (.warmrstNRise t) s = execWarmrstNRise t s := rfl
theorem exec_vddAoRestored t s : exec (.vddAoRestored t) s = execVddAoRestored t s := rfl
theorem exec_fhLossOfSignal t port s : exec (.fhLossOfSignal t port) s = execFhLossOfSignal t port s := rfl
theorem exec_ptpSourceLost t s : exec (.ptpSourceLost t) s = execPtpSourceLost t s := rfl
theorem exec_glbTempUpdate t tj s : exec (.glbTempUpdate t tj) s = execGlbTempUpdate t tj s := rfl
theorem exec_sdsclkReturn t k s : exec (.sdsclkReturn t k) s = execSdsclkReturn t k s := rfl

end Sys2Proof.Machine
end

