-- ==== Sys2Proof/Laws/Sparse.lean ====
section
/-! SUPPORT. Sparse data: what was written is read back, every other key stays, and the canonical form is kept. -/

namespace Sys2Proof.Machine

theorem sget_sdel_same {α : Type} (d : Nat → α) (m : List (Nat × α)) (k : Nat) : sget d (sdel m k) k = d k := by
  induction m with
  | nil => rfl
  | cons p r ih =>
    obtain ⟨j, v⟩ := p
    by_cases h : j = k
    · simpa [sdel, List.filter_cons, h] using ih
    · simp only [sdel, List.filter_cons, ne_eq, h, not_false_eq_true, decide_true, if_true, sget]
      exact ih

theorem sget_sdel_other {α : Type} (d : Nat → α) (m : List (Nat × α)) {k j : Nat} (h : j ≠ k) :
    sget d (sdel m k) j = sget d m j := by
  induction m with
  | nil => rfl
  | cons p r ih =>
    obtain ⟨i, v⟩ := p
    by_cases hi : i = k
    · have hj : ¬k = j := fun e => h e.symm
      simpa [sdel, List.filter_cons, hi, sget, hj] using ih
    · simp only [sdel, List.filter_cons, ne_eq, hi, not_false_eq_true, decide_true, if_true, sget]
      by_cases hj : i = j
      · simp [hj]
      · simp only [if_neg hj]; exact ih

theorem sget_sins_same {α : Type} (d : Nat → α) (m : List (Nat × α)) (k : Nat) (v : α) (h : ∀ p ∈ m, p.1 ≠ k) :
    sget d (sins m k v) k = v := by
  induction m with
  | nil => simp [sins, sget]
  | cons p r ih =>
    obtain ⟨j, w⟩ := p
    have hj : j ≠ k := h (j, w) (by simp)
    rw [sins]
    split
    · simp [sget]
    · simp only [sget, if_neg hj]
      exact ih fun q hq => h q (by simp [hq])

theorem sget_sins_other {α : Type} (d : Nat → α) (m : List (Nat × α)) {k j : Nat} (v : α) (h : j ≠ k) :
    sget d (sins m k v) j = sget d m j := by
  induction m with
  | nil => simp [sins, sget, Ne.symm h]
  | cons p r ih =>
    obtain ⟨i, w⟩ := p
    rw [sins]
    split
    · simp [sget, Ne.symm h]
    · simp only [sget]; split
      · rfl
      · exact ih

/-- What was written is read back. -/
@[simp] theorem sget_sset_same {α : Type} [DecidableEq α] (d : Nat → α) (m : List (Nat × α)) (k : Nat) (v : α) :
    sget d (sset d m k v) k = v := by
  unfold sset
  split
  · next h => rw [sget_sdel_same, h]
  · exact sget_sins_same _ _ _ _ fun p hp => by simpa using (List.mem_filter.mp hp).2

/-- Every other key stays. -/
theorem sget_sset_other {α : Type} [DecidableEq α] (d : Nat → α) (m : List (Nat × α)) {k j : Nat} (v : α) (h : j ≠ k) :
    sget d (sset d m k v) j = sget d m j := by
  unfold sset
  split
  · exact sget_sdel_other _ _ h
  · rw [sget_sins_other _ _ _ h, sget_sdel_other _ _ h]

theorem srising_weaken {α : Type} {m : List (Nat × α)} {a b : Nat} (hab : b ≤ a) (h : srising (some a) m = true) :
    srising (some b) m = true := by
  cases m with
  | nil => rfl
  | cons p r =>
    obtain ⟨j, v⟩ := p
    simp only [srising, Bool.and_eq_true, decide_eq_true_eq] at *
    exact ⟨lt_of_le_of_lt hab h.1, h.2⟩

theorem srising_sdel {α : Type} (m : List (Nat × α)) (k : Nat) (lo : Option Nat) (h : srising lo m = true) :
    srising lo (sdel m k) = true := by
  induction m generalizing lo with
  | nil => exact h
  | cons p r ih =>
    obtain ⟨j, v⟩ := p
    simp only [srising, Bool.and_eq_true] at h
    by_cases hj : j = k
    · simp only [sdel, List.filter_cons, ne_eq, hj, not_true_eq_false, decide_false, Bool.false_eq_true, if_false]
      refine ih lo ?_
      cases lo with
      | none =>
        cases r with
        | nil => rfl
        | cons q t => simp only [srising, Bool.and_eq_true, true_and] at h ⊢; exact h.2
      | some l => exact srising_weaken (le_of_lt (by simpa using h.1)) h.2
    · simp only [sdel, List.filter_cons, ne_eq, hj, not_false_eq_true, decide_true, if_true, srising, Bool.and_eq_true]
      exact ⟨h.1, ih _ h.2⟩

theorem srising_sins {α : Type} (m : List (Nat × α)) (k : Nat) (v : α) (lo : Option Nat) (h : srising lo m = true)
    (hk : ∀ p ∈ m, p.1 ≠ k) (hlo : ∀ l, lo = some l → l < k) : srising lo (sins m k v) = true := by
  induction m generalizing lo with
  | nil => cases lo with
    | none => rfl
    | some l => simpa [sins, srising] using hlo l rfl
  | cons p r ih =>
    obtain ⟨j, w⟩ := p
    simp only [srising, Bool.and_eq_true] at h
    rw [sins]
    split
    · next hkj =>
      cases lo with
      | none => simp only [srising, Bool.and_eq_true, decide_eq_true_eq, true_and]; exact ⟨hkj, h.2⟩
      | some l => simp only [srising, Bool.and_eq_true, decide_eq_true_eq]; exact ⟨hlo l rfl, hkj, h.2⟩
    · next hkj =>
      have hne : j ≠ k := hk (j, w) (by simp)
      simp only [srising, Bool.and_eq_true]
      refine ⟨h.1, ih _ h.2 (fun q hq => hk q (by simp [hq])) fun l hl => ?_⟩
      cases hl
      omega

theorem sins_mem {α : Type} {m : List (Nat × α)} {k : Nat} {v : α} {p : Nat × α} (h : p ∈ sins m k v) : p = (k, v) ∨ p ∈ m := by
  induction m with
  | nil => simpa [sins] using h
  | cons q r ih =>
    rw [sins] at h
    split at h
    · simpa using h
    · rcases List.mem_cons.mp h with h | h
      · exact .inr (by simp [h])
      · rcases ih h with h | h
        · exact .inl h
        · exact .inr (by simp [h])

/-- A write keeps the canonical form. -/
theorem scanon_sset {α : Type} [DecidableEq α] (d : Nat → α) (m : List (Nat × α)) (k : Nat) (v : α) (h : scanon d m = true) :
    scanon d (sset d m k v) = true := by
  simp only [scanon, Bool.and_eq_true, List.all_eq_true, decide_eq_true_eq] at h ⊢
  unfold sset
  split
  · exact ⟨srising_sdel _ _ _ h.1, fun p hp => h.2 p (List.mem_filter.mp hp).1⟩
  · next hv =>
    refine ⟨srising_sins _ _ _ _ (srising_sdel _ _ _ h.1) (fun p hp => by simpa using (List.mem_filter.mp hp).2)
      (fun l hl => by cases hl), fun p hp => ?_⟩
    rcases sins_mem hp with hp | hp
    · rw [hp]; exact hv
    · exact h.2 p (List.mem_filter.mp hp).1

theorem scanon_filter {α : Type} [DecidableEq α] (d : Nat → α) (m : List (Nat × α)) (f : Nat × α → Bool) (h : scanon d m = true) :
    scanon d (m.filter f) = true := by
  simp only [scanon, Bool.and_eq_true, List.all_eq_true, decide_eq_true_eq] at h ⊢
  refine ⟨?_, fun p hp => h.2 p (List.mem_filter.mp hp).1⟩
  have key : ∀ (l : List (Nat × α)) (lo : Option Nat), srising lo l = true → srising lo (l.filter f) = true := by
    intro l
    induction l with
    | nil => intro lo h; exact h
    | cons p r ih =>
      obtain ⟨j, v⟩ := p
      intro lo h
      simp only [srising, Bool.and_eq_true] at h
      rw [List.filter_cons]
      split
      · simp only [srising, Bool.and_eq_true]; exact ⟨h.1, ih _ h.2⟩
      · refine ih lo ?_
        cases lo with
        | none =>
          cases r with
          | nil => rfl
          | cons q t => simp only [srising, Bool.and_eq_true, true_and] at h ⊢; exact h.2
        | some l => exact srising_weaken (le_of_lt (by simpa using h.1)) h.2
  exact key m none h.1

theorem afind_adel_same {α : Type} (m : List (Nat × α)) (k : Nat) : afind (adel m k) k = none := by
  induction m with
  | nil => rfl
  | cons p r ih =>
    obtain ⟨j, v⟩ := p
    by_cases h : j = k
    · simpa [adel, List.filter_cons, h] using ih
    · simp only [adel, List.filter_cons, ne_eq, h, not_false_eq_true, decide_true, if_true, afind]
      exact ih

theorem afind_adel_other {α : Type} (m : List (Nat × α)) {k j : Nat} (h : j ≠ k) : afind (adel m k) j = afind m j := by
  induction m with
  | nil => rfl
  | cons p r ih =>
    obtain ⟨i, v⟩ := p
    by_cases hi : i = k
    · have hj : ¬k = j := fun e => h e.symm
      simpa [adel, List.filter_cons, hi, afind, hj] using ih
    · simp only [adel, List.filter_cons, ne_eq, hi, not_false_eq_true, decide_true, if_true, afind]
      by_cases hj : i = j
      · simp [hj]
      · simp only [if_neg hj]; exact ih

theorem afind_sins_same {α : Type} (m : List (Nat × α)) (k : Nat) (v : α) (h : ∀ p ∈ m, p.1 ≠ k) :
    afind (sins m k v) k = some v := by
  induction m with
  | nil => simp [sins, afind]
  | cons p r ih =>
    obtain ⟨j, w⟩ := p
    have hj : j ≠ k := h (j, w) (by simp)
    rw [sins]
    split
    · simp [afind]
    · simp only [afind, if_neg hj]
      exact ih fun q hq => h q (by simp [hq])

theorem afind_sins_other {α : Type} (m : List (Nat × α)) {k j : Nat} (v : α) (h : j ≠ k) : afind (sins m k v) j = afind m j := by
  induction m with
  | nil => simp [sins, afind, Ne.symm h]
  | cons p r ih =>
    obtain ⟨i, w⟩ := p
    rw [sins]
    split
    · simp [afind, Ne.symm h]
    · simp only [afind]; split
      · rfl
      · exact ih

/-- What was put is found. -/
@[simp] theorem afind_aput_same {α : Type} (m : List (Nat × α)) (k : Nat) (v : α) : afind (aput m k v) k = some v :=
  afind_sins_same _ _ _ fun p hp => by simpa using (List.mem_filter.mp hp).2

/-- Every other key stays. -/
theorem afind_aput_other {α : Type} (m : List (Nat × α)) {k j : Nat} (v : α) (h : j ≠ k) : afind (aput m k v) j = afind m j := by
  rw [aput, afind_sins_other _ _ h, afind_adel_other _ h]

/-! ### Registers, counters, tables and memory -/

@[simp] theorem reg_setReg_same (s : State) (a : Nat) (v : Word) : (s.setReg a v).reg a = v := by
  unfold State.setReg State.reg
  exact sget_sset_same _ _ _ _

theorem reg_setReg_other (s : State) {a b : Nat} (v : Word) (h : b ≠ a) : (s.setReg a v).reg b = s.reg b := by
  unfold State.setReg State.reg
  exact sget_sset_other _ _ _ h

/-- A counter counts one, up to 0xFFFF_FFFF (R27). -/
theorem count_bump (c : Counter) (i : Nat) (s : State) : (bump c i s).count c i = min 0xFFFFFFFF (s.count c i + 1) := by
  unfold bump bumpBy State.count
  rw [reg_setReg_same]
  exact Nat.mod_eq_of_lt (by omega)

/-- A counter leaves every other register alone. -/
theorem reg_bump_other (c : Counter) (i : Nat) (s : State) {a : Nat} (h : a ≠ c.addr i) : (bump c i s).reg a = s.reg a := by
  unfold bump bumpBy
  exact reg_setReg_other s _ h

@[simp] theorem entry_setEntry_same (s : State) (id i v : Nat) : (s.setEntry id i v).entry id i = v := by
  unfold State.setEntry State.entry
  exact sget_sset_same _ _ _ _

@[simp] theorem byte_setByte_same (s : State) (a : Nat) (b : Byte) : (s.setByte a b).byte a = b := by
  unfold State.setByte State.byte
  exact sget_sset_same _ _ _ _

theorem byte_setByte_other (s : State) {a c : Nat} (b : Byte) (h : c ≠ a) : (s.setByte a b).byte c = s.byte c := by
  unfold State.setByte State.byte
  exact sget_sset_other _ _ _ h

/-- Consecutive bytes: every byte outside them stays. -/
theorem byte_setBytes_other (s : State) (a c : Nat) (l : List Byte) (h : c < a ∨ a + l.length ≤ c) : (s.setBytes a l).byte c = s.byte c := by
  induction l generalizing s a with
  | nil => rfl
  | cons b r ih =>
    rw [State.setBytes, ih _ _ (by simp only [List.length_cons] at h; omega),
      byte_setByte_other _ _ (by simp only [List.length_cons] at h; omega)]

/-- Consecutive bytes are read back. -/
theorem byte_setBytes_in (s : State) (a k : Nat) (l : List Byte) (h : k < l.length) : (s.setBytes a l).byte (a + k) = l[k] := by
  induction l generalizing s a k with
  | nil => simp at h
  | cons b r ih =>
    rw [State.setBytes]
    cases k with
    | zero =>
      rw [byte_setBytes_other _ _ _ _ (.inl (by omega))]
      simp only [Nat.add_zero, byte_setByte_same, List.getElem_cons_zero]
    | succ k =>
      have := ih (s.setByte a b) (a + 1) k (by simpa using h)
      rw [show a + (k + 1) = a + 1 + k by omega, this, List.getElem_cons_succ]

/-- A write keeps the memory's canonical form. -/
theorem wf_setByte (s : State) (a : Nat) (b : Byte) (h : Memory.wf s.mem) : Memory.wf (s.setByte a b).mem := by
  unfold State.setByte
  exact scanon_sset _ _ _ _ h

theorem wf_setBytes (s : State) (a : Nat) (l : List Byte) (h : Memory.wf s.mem) : Memory.wf (s.setBytes a l).mem := by
  induction l generalizing s a with
  | nil => exact h
  | cons b r ih => rw [State.setBytes]; exact ih _ _ (wf_setByte s a b h)

end Sys2Proof.Machine
end

