-- ==== Sys2Proof/Laws/State.lean ====
section
/-! SUPPORT. What the plainest updates of State leave alone: one lemma per component and update, so that no proof unfolds a record. -/

namespace Sys2Proof.Machine

/-! ### The arrival of a command moves device time only -/

@[simp] theorem arrive_regs (s : State) (t : Time) : (s.arrive t).regs = s.regs := by unfold State.arrive; split <;> rfl
@[simp] theorem arrive_halves (s : State) (t : Time) : (s.arrive t).halves = s.halves := by unfold State.arrive; split <;> rfl
@[simp] theorem arrive_latches (s : State) (t : Time) : (s.arrive t).latches = s.latches := by unfold State.arrive; split <;> rfl
@[simp] theorem arrive_tables (s : State) (t : Time) : (s.arrive t).tables = s.tables := by unfold State.arrive; split <;> rfl
@[simp] theorem arrive_mem (s : State) (t : Time) : (s.arrive t).mem = s.mem := by unfold State.arrive; split <;> rfl
@[simp] theorem arrive_cfgErr (s : State) (t : Time) : (s.arrive t).cfgErr = s.cfgErr := by unfold State.arrive; split <;> rfl
@[simp] theorem arrive_start (s : State) (t : Time) : (s.arrive t).start = s.start := by unfold State.arrive; split <;> rfl
@[simp] theorem arrive_pins (s : State) (t : Time) : (s.arrive t).pins = s.pins := by unfold State.arrive; split <;> rfl
@[simp] theorem arrive_hlt (s : State) (t : Time) : (s.arrive t).hlt = s.hlt := by unfold State.arrive; split <;> rfl
@[simp] theorem arrive_evr (s : State) (t : Time) : (s.arrive t).evr = s.evr := by unfold State.arrive; split <;> rfl
@[simp] theorem arrive_fh (s : State) (t : Time) : (s.arrive t).fh = s.fh := by unfold State.arrive; split <;> rfl
@[simp] theorem arrive_pool (s : State) (t : Time) : (s.arrive t).pool = s.pool := by unfold State.arrive; split <;> rfl
@[simp] theorem arrive_chn (s : State) (t : Time) : (s.arrive t).chn = s.chn := by unfold State.arrive; split <;> rfl
@[simp] theorem arrive_det (s : State) (t : Time) : (s.arrive t).det = s.det := by unfold State.arrive; split <;> rfl
@[simp] theorem arrive_lane (s : State) (t : Time) : (s.arrive t).lane = s.lane := by unfold State.arrive; split <;> rfl
@[simp] theorem arrive_txm (s : State) (t : Time) : (s.arrive t).txm = s.txm := by unfold State.arrive; split <;> rfl
@[simp] theorem arrive_cal (s : State) (t : Time) : (s.arrive t).cal = s.cal := by unfold State.arrive; split <;> rfl
@[simp] theorem arrive_timer (s : State) (t : Time) : (s.arrive t).timer = s.timer := by unfold State.arrive; split <;> rfl
@[simp] theorem arrive_sch (s : State) (t : Time) : (s.arrive t).sch = s.sch := by unfold State.arrive; split <;> rfl
@[simp] theorem arrive_key (s : State) (t : Time) : (s.arrive t).key = s.key := by unfold State.arrive; split <;> rfl
@[simp] theorem arrive_flash (s : State) (t : Time) : (s.arrive t).flash = s.flash := by unfold State.arrive; split <;> rfl
@[simp] theorem arrive_jrn (s : State) (t : Time) : (s.arrive t).jrn = s.jrn := by unfold State.arrive; split <;> rfl
@[simp] theorem arrive_dl (s : State) (t : Time) : (s.arrive t).dl = s.dl := by unfold State.arrive; split <;> rfl
@[simp] theorem arrive_fry (s : State) (t : Time) : (s.arrive t).fry = s.fry := by unfold State.arrive; split <;> rfl
@[simp] theorem arrive_fwd (s : State) (t : Time) : (s.arrive t).fwd = s.fwd := by unfold State.arrive; split <;> rfl
@[simp] theorem arrive_pair (s : State) (t : Time) : (s.arrive t).pair = s.pair := by unfold State.arrive; split <;> rfl
@[simp] theorem arrive_upd (s : State) (t : Time) : (s.arrive t).upd = s.upd := by unfold State.arrive; split <;> rfl
@[simp] theorem arrive_camps (s : State) (t : Time) : (s.arrive t).camps = s.camps := by unfold State.arrive; split <;> rfl
@[simp] theorem arrive_prog (s : State) (t : Time) : (s.arrive t).prog = s.prog := by unfold State.arrive; split <;> rfl
@[simp] theorem arrive_msys (s : State) (t : Time) : (s.arrive t).msys = s.msys := by unfold State.arrive; split <;> rfl
@[simp] theorem arrive_before (s : State) (t : Time) : (s.arrive t).before = s.before := by unfold State.arrive; split <;> rfl
@[simp] theorem arrive_straits (s : State) (t : Time) : (s.arrive t).straits = s.straits := by unfold State.arrive; split <;> rfl
@[simp] theorem arrive_sent (s : State) (t : Time) : (s.arrive t).sent = s.sent := by unfold State.arrive; split <;> rfl
@[simp] theorem arrive_free (s : State) (t : Time) : (s.arrive t).free = s.free := by unfold State.arrive; split <;> rfl
@[simp] theorem arrive_pending (s : State) (t : Time) : (s.arrive t).pending = s.pending := by unfold State.arrive; split <;> rfl

@[simp] theorem arrive_clock_frac (s : State) (t : Time) : (s.arrive t).clock.frac = s.clock.frac := by unfold State.arrive; split <;> rfl
@[simp] theorem arrive_clock_running (s : State) (t : Time) : (s.arrive t).clock.running = s.clock.running := by unfold State.arrive; split <;> rfl
@[simp] theorem arrive_clock_warmRate (s : State) (t : Time) : (s.arrive t).clock.warmRate = s.clock.warmRate := by unfold State.arrive; split <;> rfl

/-! ### The end of a meaning evaluates the general watermarks only -/

@[simp] theorem settle_regs (s : State) : (settle s).regs = s.regs := by unfold settle; split <;> rfl
@[simp] theorem settle_halves (s : State) : (settle s).halves = s.halves := by unfold settle; split <;> rfl
@[simp] theorem settle_latches (s : State) : (settle s).latches = s.latches := by unfold settle; split <;> rfl
@[simp] theorem settle_tables (s : State) : (settle s).tables = s.tables := by unfold settle; split <;> rfl
@[simp] theorem settle_mem (s : State) : (settle s).mem = s.mem := by unfold settle; split <;> rfl
@[simp] theorem settle_cfgErr (s : State) : (settle s).cfgErr = s.cfgErr := by unfold settle; split <;> rfl
@[simp] theorem settle_start (s : State) : (settle s).start = s.start := by unfold settle; split <;> rfl
@[simp] theorem settle_pins (s : State) : (settle s).pins = s.pins := by unfold settle; split <;> rfl
@[simp] theorem settle_clock (s : State) : (settle s).clock = s.clock := by unfold settle; split <;> rfl
@[simp] theorem settle_evr (s : State) : (settle s).evr = s.evr := by unfold settle; split <;> rfl
@[simp] theorem settle_fh (s : State) : (settle s).fh = s.fh := by unfold settle; split <;> rfl
@[simp] theorem settle_pool (s : State) : (settle s).pool = s.pool := by unfold settle; split <;> rfl
@[simp] theorem settle_chn (s : State) : (settle s).chn = s.chn := by unfold settle; split <;> rfl
@[simp] theorem settle_det (s : State) : (settle s).det = s.det := by unfold settle; split <;> rfl
@[simp] theorem settle_lane (s : State) : (settle s).lane = s.lane := by unfold settle; split <;> rfl
@[simp] theorem settle_txm (s : State) : (settle s).txm = s.txm := by unfold settle; split <;> rfl
@[simp] theorem settle_cal (s : State) : (settle s).cal = s.cal := by unfold settle; split <;> rfl
@[simp] theorem settle_timer (s : State) : (settle s).timer = s.timer := by unfold settle; split <;> rfl
@[simp] theorem settle_sch (s : State) : (settle s).sch = s.sch := by unfold settle; split <;> rfl
@[simp] theorem settle_key (s : State) : (settle s).key = s.key := by unfold settle; split <;> rfl
@[simp] theorem settle_flash (s : State) : (settle s).flash = s.flash := by unfold settle; split <;> rfl
@[simp] theorem settle_jrn (s : State) : (settle s).jrn = s.jrn := by unfold settle; split <;> rfl
@[simp] theorem settle_dl (s : State) : (settle s).dl = s.dl := by unfold settle; split <;> rfl
@[simp] theorem settle_fry (s : State) : (settle s).fry = s.fry := by unfold settle; split <;> rfl
@[simp] theorem settle_fwd (s : State) : (settle s).fwd = s.fwd := by unfold settle; split <;> rfl
@[simp] theorem settle_pair (s : State) : (settle s).pair = s.pair := by unfold settle; split <;> rfl
@[simp] theorem settle_upd (s : State) : (settle s).upd = s.upd := by unfold settle; split <;> rfl
@[simp] theorem settle_camps (s : State) : (settle s).camps = s.camps := by unfold settle; split <;> rfl
@[simp] theorem settle_prog (s : State) : (settle s).prog = s.prog := by unfold settle; split <;> rfl
@[simp] theorem settle_msys (s : State) : (settle s).msys = s.msys := by unfold settle; split <;> rfl
@[simp] theorem settle_before (s : State) : (settle s).before = s.before := by unfold settle; split <;> rfl
@[simp] theorem settle_straits (s : State) : (settle s).straits = s.straits := by unfold settle; split <;> rfl
@[simp] theorem settle_sent (s : State) : (settle s).sent = s.sent := by unfold settle; split <;> rfl
@[simp] theorem settle_free (s : State) : (settle s).free = s.free := by unfold settle; split <;> rfl
@[simp] theorem settle_pending (s : State) : (settle s).pending = s.pending := by unfold settle; split <;> rfl

@[simp] theorem settle_hlt_coal (s : State) : (settle s).hlt.coal = s.hlt.coal := by unfold settle; split <;> rfl
@[simp] theorem settle_hlt_frames (s : State) : (settle s).hlt.frames = s.hlt.frames := by unfold settle; split <;> rfl
@[simp] theorem settle_hlt_queue (s : State) : (settle s).hlt.queue = s.hlt.queue := by unfold settle; split <;> rfl
@[simp] theorem settle_hlt_ddrOne (s : State) : (settle s).hlt.ddrOne = s.hlt.ddrOne := by unfold settle; split <;> rfl
@[simp] theorem settle_hlt_fallback (s : State) : (settle s).hlt.fallback = s.hlt.fallback := by unfold settle; split <;> rfl
@[simp] theorem settle_hlt_degraded (s : State) : (settle s).hlt.degraded = s.hlt.degraded := by unfold settle; split <;> rfl
@[simp] theorem settle_hlt_clamps (s : State) : (settle s).hlt.clamps = s.hlt.clamps := by unfold settle; split <;> rfl
@[simp] theorem settle_hlt_test (s : State) : (settle s).hlt.test = s.hlt.test := by unfold settle; split <;> rfl
@[simp] theorem settle_hlt_lastSweep (s : State) : (settle s).hlt.lastSweep = s.hlt.lastSweep := by unfold settle; split <;> rfl
@[simp] theorem settle_hlt_retired (s : State) : (settle s).hlt.retired = s.hlt.retired := by unfold settle; split <;> rfl
@[simp] theorem settle_hlt_jigPort (s : State) : (settle s).hlt.jigPort = s.hlt.jigPort := by unfold settle; split <;> rfl
@[simp] theorem settle_hlt_cause (s : State) : (settle s).hlt.cause = s.hlt.cause := by unfold settle; split <;> rfl
@[simp] theorem settle_hlt_causeUnit (s : State) : (settle s).hlt.causeUnit = s.hlt.causeUnit := by unfold settle; split <;> rfl
@[simp] theorem settle_hlt_causeCode (s : State) : (settle s).hlt.causeCode = s.hlt.causeCode := by unfold settle; split <;> rfl
@[simp] theorem settle_hlt_causeArg (s : State) : (settle s).hlt.causeArg = s.hlt.causeArg := by unfold settle; split <;> rfl
@[simp] theorem settle_hlt_fatalTime (s : State) : (settle s).hlt.fatalTime = s.hlt.fatalTime := by unfold settle; split <;> rfl
@[simp] theorem settle_hlt_armed (s : State) : (settle s).hlt.armed = s.hlt.armed := by unfold settle; split <;> rfl
@[simp] theorem settle_hlt_multiple (s : State) : (settle s).hlt.multiple = s.hlt.multiple := by unfold settle; split <;> rfl
@[simp] theorem settle_hlt_frozen (s : State) : (settle s).hlt.frozen = s.hlt.frozen := by unfold settle; split <;> rfl
@[simp] theorem settle_hlt_stage (s : State) : (settle s).hlt.stage = s.hlt.stage := by unfold settle; split <;> rfl
@[simp] theorem settle_hlt_lastSlot (s : State) : (settle s).hlt.lastSlot = s.hlt.lastSlot := by unfold settle; split <;> rfl
@[simp] theorem settle_hlt_partnerSent (s : State) : (settle s).hlt.partnerSent = s.hlt.partnerSent := by unfold settle; split <;> rfl
@[simp] theorem settle_hlt_flashCopied (s : State) : (settle s).hlt.flashCopied = s.hlt.flashCopied := by unfold settle; split <;> rfl
@[simp] theorem settle_hlt_recent (s : State) : (settle s).hlt.recent = s.hlt.recent := by unfold settle; split <;> rfl
@[simp] theorem settle_hlt_dumps (s : State) : (settle s).hlt.dumps = s.hlt.dumps := by unfold settle; split <;> rfl
@[simp] theorem settle_hlt_flashDumps (s : State) : (settle s).hlt.flashDumps = s.hlt.flashDumps := by unfold settle; split <;> rfl
@[simp] theorem settle_hlt_mgtAddr (s : State) : (settle s).hlt.mgtAddr = s.hlt.mgtAddr := by unfold settle; split <;> rfl
@[simp] theorem settle_hlt_temp (s : State) : (settle s).hlt.temp = s.hlt.temp := by unfold settle; split <;> rfl
@[simp] theorem settle_hlt_overArmed (s : State) : (settle s).hlt.overArmed = s.hlt.overArmed := by unfold settle; split <;> rfl

/-! ### A register -/

@[simp] theorem setReg_halves (s : State) (a : Nat) (v : Word) : (s.setReg a v).halves = s.halves := by unfold State.setReg; rfl
@[simp] theorem setReg_latches (s : State) (a : Nat) (v : Word) : (s.setReg a v).latches = s.latches := by unfold State.setReg; rfl
@[simp] theorem setReg_tables (s : State) (a : Nat) (v : Word) : (s.setReg a v).tables = s.tables := by unfold State.setReg; rfl
@[simp] theorem setReg_mem (s : State) (a : Nat) (v : Word) : (s.setReg a v).mem = s.mem := by unfold State.setReg; rfl
@[simp] theorem setReg_cfgErr (s : State) (a : Nat) (v : Word) : (s.setReg a v).cfgErr = s.cfgErr := by unfold State.setReg; rfl
@[simp] theorem setReg_start (s : State) (a : Nat) (v : Word) : (s.setReg a v).start = s.start := by unfold State.setReg; rfl
@[simp] theorem setReg_pins (s : State) (a : Nat) (v : Word) : (s.setReg a v).pins = s.pins := by unfold State.setReg; rfl
@[simp] theorem setReg_clock (s : State) (a : Nat) (v : Word) : (s.setReg a v).clock = s.clock := by unfold State.setReg; rfl
@[simp] theorem setReg_hlt (s : State) (a : Nat) (v : Word) : (s.setReg a v).hlt = s.hlt := by unfold State.setReg; rfl
@[simp] theorem setReg_evr (s : State) (a : Nat) (v : Word) : (s.setReg a v).evr = s.evr := by unfold State.setReg; rfl
@[simp] theorem setReg_fh (s : State) (a : Nat) (v : Word) : (s.setReg a v).fh = s.fh := by unfold State.setReg; rfl
@[simp] theorem setReg_pool (s : State) (a : Nat) (v : Word) : (s.setReg a v).pool = s.pool := by unfold State.setReg; rfl
@[simp] theorem setReg_chn (s : State) (a : Nat) (v : Word) : (s.setReg a v).chn = s.chn := by unfold State.setReg; rfl
@[simp] theorem setReg_det (s : State) (a : Nat) (v : Word) : (s.setReg a v).det = s.det := by unfold State.setReg; rfl
@[simp] theorem setReg_lane (s : State) (a : Nat) (v : Word) : (s.setReg a v).lane = s.lane := by unfold State.setReg; rfl
@[simp] theorem setReg_txm (s : State) (a : Nat) (v : Word) : (s.setReg a v).txm = s.txm := by unfold State.setReg; rfl
@[simp] theorem setReg_cal (s : State) (a : Nat) (v : Word) : (s.setReg a v).cal = s.cal := by unfold State.setReg; rfl
@[simp] theorem setReg_timer (s : State) (a : Nat) (v : Word) : (s.setReg a v).timer = s.timer := by unfold State.setReg; rfl
@[simp] theorem setReg_sch (s : State) (a : Nat) (v : Word) : (s.setReg a v).sch = s.sch := by unfold State.setReg; rfl
@[simp] theorem setReg_key (s : State) (a : Nat) (v : Word) : (s.setReg a v).key = s.key := by unfold State.setReg; rfl
@[simp] theorem setReg_flash (s : State) (a : Nat) (v : Word) : (s.setReg a v).flash = s.flash := by unfold State.setReg; rfl
@[simp] theorem setReg_jrn (s : State) (a : Nat) (v : Word) : (s.setReg a v).jrn = s.jrn := by unfold State.setReg; rfl
@[simp] theorem setReg_dl (s : State) (a : Nat) (v : Word) : (s.setReg a v).dl = s.dl := by unfold State.setReg; rfl
@[simp] theorem setReg_fry (s : State) (a : Nat) (v : Word) : (s.setReg a v).fry = s.fry := by unfold State.setReg; rfl
@[simp] theorem setReg_fwd (s : State) (a : Nat) (v : Word) : (s.setReg a v).fwd = s.fwd := by unfold State.setReg; rfl
@[simp] theorem setReg_pair (s : State) (a : Nat) (v : Word) : (s.setReg a v).pair = s.pair := by unfold State.setReg; rfl
@[simp] theorem setReg_upd (s : State) (a : Nat) (v : Word) : (s.setReg a v).upd = s.upd := by unfold State.setReg; rfl
@[simp] theorem setReg_camps (s : State) (a : Nat) (v : Word) : (s.setReg a v).camps = s.camps := by unfold State.setReg; rfl
@[simp] theorem setReg_prog (s : State) (a : Nat) (v : Word) : (s.setReg a v).prog = s.prog := by unfold State.setReg; rfl
@[simp] theorem setReg_msys (s : State) (a : Nat) (v : Word) : (s.setReg a v).msys = s.msys := by unfold State.setReg; rfl
@[simp] theorem setReg_before (s : State) (a : Nat) (v : Word) : (s.setReg a v).before = s.before := by unfold State.setReg; rfl
@[simp] theorem setReg_straits (s : State) (a : Nat) (v : Word) : (s.setReg a v).straits = s.straits := by unfold State.setReg; rfl
@[simp] theorem setReg_sent (s : State) (a : Nat) (v : Word) : (s.setReg a v).sent = s.sent := by unfold State.setReg; rfl
@[simp] theorem setReg_free (s : State) (a : Nat) (v : Word) : (s.setReg a v).free = s.free := by unfold State.setReg; rfl
@[simp] theorem setReg_pending (s : State) (a : Nat) (v : Word) : (s.setReg a v).pending = s.pending := by unfold State.setReg; rfl

/-! ### A table entry -/

@[simp] theorem setEntry_regs (s : State) (id i v : Nat) : (s.setEntry id i v).regs = s.regs := by unfold State.setEntry; rfl
@[simp] theorem setEntry_halves (s : State) (id i v : Nat) : (s.setEntry id i v).halves = s.halves := by unfold State.setEntry; rfl
@[simp] theorem setEntry_latches (s : State) (id i v : Nat) : (s.setEntry id i v).latches = s.latches := by unfold State.setEntry; rfl
@[simp] theorem setEntry_mem (s : State) (id i v : Nat) : (s.setEntry id i v).mem = s.mem := by unfold State.setEntry; rfl
@[simp] theorem setEntry_cfgErr (s : State) (id i v : Nat) : (s.setEntry id i v).cfgErr = s.cfgErr := by unfold State.setEntry; rfl
@[simp] theorem setEntry_start (s : State) (id i v : Nat) : (s.setEntry id i v).start = s.start := by unfold State.setEntry; rfl
@[simp] theorem setEntry_pins (s : State) (id i v : Nat) : (s.setEntry id i v).pins = s.pins := by unfold State.setEntry; rfl
@[simp] theorem setEntry_clock (s : State) (id i v : Nat) : (s.setEntry id i v).clock = s.clock := by unfold State.setEntry; rfl
@[simp] theorem setEntry_hlt (s : State) (id i v : Nat) : (s.setEntry id i v).hlt = s.hlt := by unfold State.setEntry; rfl
@[simp] theorem setEntry_evr (s : State) (id i v : Nat) : (s.setEntry id i v).evr = s.evr := by unfold State.setEntry; rfl
@[simp] theorem setEntry_fh (s : State) (id i v : Nat) : (s.setEntry id i v).fh = s.fh := by unfold State.setEntry; rfl
@[simp] theorem setEntry_pool (s : State) (id i v : Nat) : (s.setEntry id i v).pool = s.pool := by unfold State.setEntry; rfl
@[simp] theorem setEntry_chn (s : State) (id i v : Nat) : (s.setEntry id i v).chn = s.chn := by unfold State.setEntry; rfl
@[simp] theorem setEntry_det (s : State) (id i v : Nat) : (s.setEntry id i v).det = s.det := by unfold State.setEntry; rfl
@[simp] theorem setEntry_lane (s : State) (id i v : Nat) : (s.setEntry id i v).lane = s.lane := by unfold State.setEntry; rfl
@[simp] theorem setEntry_txm (s : State) (id i v : Nat) : (s.setEntry id i v).txm = s.txm := by unfold State.setEntry; rfl
@[simp] theorem setEntry_cal (s : State) (id i v : Nat) : (s.setEntry id i v).cal = s.cal := by unfold State.setEntry; rfl
@[simp] theorem setEntry_timer (s : State) (id i v : Nat) : (s.setEntry id i v).timer = s.timer := by unfold State.setEntry; rfl
@[simp] theorem setEntry_sch (s : State) (id i v : Nat) : (s.setEntry id i v).sch = s.sch := by unfold State.setEntry; rfl
@[simp] theorem setEntry_key (s : State) (id i v : Nat) : (s.setEntry id i v).key = s.key := by unfold State.setEntry; rfl
@[simp] theorem setEntry_flash (s : State) (id i v : Nat) : (s.setEntry id i v).flash = s.flash := by unfold State.setEntry; rfl
@[simp] theorem setEntry_jrn (s : State) (id i v : Nat) : (s.setEntry id i v).jrn = s.jrn := by unfold State.setEntry; rfl
@[simp] theorem setEntry_dl (s : State) (id i v : Nat) : (s.setEntry id i v).dl = s.dl := by unfold State.setEntry; rfl
@[simp] theorem setEntry_fry (s : State) (id i v : Nat) : (s.setEntry id i v).fry = s.fry := by unfold State.setEntry; rfl
@[simp] theorem setEntry_fwd (s : State) (id i v : Nat) : (s.setEntry id i v).fwd = s.fwd := by unfold State.setEntry; rfl
@[simp] theorem setEntry_pair (s : State) (id i v : Nat) : (s.setEntry id i v).pair = s.pair := by unfold State.setEntry; rfl
@[simp] theorem setEntry_upd (s : State) (id i v : Nat) : (s.setEntry id i v).upd = s.upd := by unfold State.setEntry; rfl
@[simp] theorem setEntry_camps (s : State) (id i v : Nat) : (s.setEntry id i v).camps = s.camps := by unfold State.setEntry; rfl
@[simp] theorem setEntry_prog (s : State) (id i v : Nat) : (s.setEntry id i v).prog = s.prog := by unfold State.setEntry; rfl
@[simp] theorem setEntry_msys (s : State) (id i v : Nat) : (s.setEntry id i v).msys = s.msys := by unfold State.setEntry; rfl
@[simp] theorem setEntry_before (s : State) (id i v : Nat) : (s.setEntry id i v).before = s.before := by unfold State.setEntry; rfl
@[simp] theorem setEntry_straits (s : State) (id i v : Nat) : (s.setEntry id i v).straits = s.straits := by unfold State.setEntry; rfl
@[simp] theorem setEntry_sent (s : State) (id i v : Nat) : (s.setEntry id i v).sent = s.sent := by unfold State.setEntry; rfl
@[simp] theorem setEntry_free (s : State) (id i v : Nat) : (s.setEntry id i v).free = s.free := by unfold State.setEntry; rfl
@[simp] theorem setEntry_pending (s : State) (id i v : Nat) : (s.setEntry id i v).pending = s.pending := by unfold State.setEntry; rfl

/-! ### A counter -/

@[simp] theorem bumpBy_halves (c : Counter) (i n : Nat) (s : State) : (bumpBy c i n s).halves = s.halves := by unfold bumpBy State.setReg; rfl
@[simp] theorem bumpBy_latches (c : Counter) (i n : Nat) (s : State) : (bumpBy c i n s).latches = s.latches := by unfold bumpBy State.setReg; rfl
@[simp] theorem bumpBy_tables (c : Counter) (i n : Nat) (s : State) : (bumpBy c i n s).tables = s.tables := by unfold bumpBy State.setReg; rfl
@[simp] theorem bumpBy_mem (c : Counter) (i n : Nat) (s : State) : (bumpBy c i n s).mem = s.mem := by unfold bumpBy State.setReg; rfl
@[simp] theorem bumpBy_cfgErr (c : Counter) (i n : Nat) (s : State) : (bumpBy c i n s).cfgErr = s.cfgErr := by unfold bumpBy State.setReg; rfl
@[simp] theorem bumpBy_start (c : Counter) (i n : Nat) (s : State) : (bumpBy c i n s).start = s.start := by unfold bumpBy State.setReg; rfl
@[simp] theorem bumpBy_pins (c : Counter) (i n : Nat) (s : State) : (bumpBy c i n s).pins = s.pins := by unfold bumpBy State.setReg; rfl
@[simp] theorem bumpBy_clock (c : Counter) (i n : Nat) (s : State) : (bumpBy c i n s).clock = s.clock := by unfold bumpBy State.setReg; rfl
@[simp] theorem bumpBy_hlt (c : Counter) (i n : Nat) (s : State) : (bumpBy c i n s).hlt = s.hlt := by unfold bumpBy State.setReg; rfl
@[simp] theorem bumpBy_evr (c : Counter) (i n : Nat) (s : State) : (bumpBy c i n s).evr = s.evr := by unfold bumpBy State.setReg; rfl
@[simp] theorem bumpBy_fh (c : Counter) (i n : Nat) (s : State) : (bumpBy c i n s).fh = s.fh := by unfold bumpBy State.setReg; rfl
@[simp] theorem bumpBy_pool (c : Counter) (i n : Nat) (s : State) : (bumpBy c i n s).pool = s.pool := by unfold bumpBy State.setReg; rfl
@[simp] theorem bumpBy_chn (c : Counter) (i n : Nat) (s : State) : (bumpBy c i n s).chn = s.chn := by unfold bumpBy State.setReg; rfl
@[simp] theorem bumpBy_det (c : Counter) (i n : Nat) (s : State) : (bumpBy c i n s).det = s.det := by unfold bumpBy State.setReg; rfl
@[simp] theorem bumpBy_lane (c : Counter) (i n : Nat) (s : State) : (bumpBy c i n s).lane = s.lane := by unfold bumpBy State.setReg; rfl
@[simp] theorem bumpBy_txm (c : Counter) (i n : Nat) (s : State) : (bumpBy c i n s).txm = s.txm := by unfold bumpBy State.setReg; rfl
@[simp] theorem bumpBy_cal (c : Counter) (i n : Nat) (s : State) : (bumpBy c i n s).cal = s.cal := by unfold bumpBy State.setReg; rfl
@[simp] theorem bumpBy_timer (c : Counter) (i n : Nat) (s : State) : (bumpBy c i n s).timer = s.timer := by unfold bumpBy State.setReg; rfl
@[simp] theorem bumpBy_sch (c : Counter) (i n : Nat) (s : State) : (bumpBy c i n s).sch = s.sch := by unfold bumpBy State.setReg; rfl
@[simp] theorem bumpBy_key (c : Counter) (i n : Nat) (s : State) : (bumpBy c i n s).key = s.key := by unfold bumpBy State.setReg; rfl
@[simp] theorem bumpBy_flash (c : Counter) (i n : Nat) (s : State) : (bumpBy c i n s).flash = s.flash := by unfold bumpBy State.setReg; rfl
@[simp] theorem bumpBy_jrn (c : Counter) (i n : Nat) (s : State) : (bumpBy c i n s).jrn = s.jrn := by unfold bumpBy State.setReg; rfl
@[simp] theorem bumpBy_dl (c : Counter) (i n : Nat) (s : State) : (bumpBy c i n s).dl = s.dl := by unfold bumpBy State.setReg; rfl
@[simp] theorem bumpBy_fry (c : Counter) (i n : Nat) (s : State) : (bumpBy c i n s).fry = s.fry := by unfold bumpBy State.setReg; rfl
@[simp] theorem bumpBy_fwd (c : Counter) (i n : Nat) (s : State) : (bumpBy c i n s).fwd = s.fwd := by unfold bumpBy State.setReg; rfl
@[simp] theorem bumpBy_pair (c : Counter) (i n : Nat) (s : State) : (bumpBy c i n s).pair = s.pair := by unfold bumpBy State.setReg; rfl
@[simp] theorem bumpBy_upd (c : Counter) (i n : Nat) (s : State) : (bumpBy c i n s).upd = s.upd := by unfold bumpBy State.setReg; rfl
@[simp] theorem bumpBy_camps (c : Counter) (i n : Nat) (s : State) : (bumpBy c i n s).camps = s.camps := by unfold bumpBy State.setReg; rfl
@[simp] theorem bumpBy_prog (c : Counter) (i n : Nat) (s : State) : (bumpBy c i n s).prog = s.prog := by unfold bumpBy State.setReg; rfl
@[simp] theorem bumpBy_msys (c : Counter) (i n : Nat) (s : State) : (bumpBy c i n s).msys = s.msys := by unfold bumpBy State.setReg; rfl
@[simp] theorem bumpBy_before (c : Counter) (i n : Nat) (s : State) : (bumpBy c i n s).before = s.before := by unfold bumpBy State.setReg; rfl
@[simp] theorem bumpBy_straits (c : Counter) (i n : Nat) (s : State) : (bumpBy c i n s).straits = s.straits := by unfold bumpBy State.setReg; rfl
@[simp] theorem bumpBy_sent (c : Counter) (i n : Nat) (s : State) : (bumpBy c i n s).sent = s.sent := by unfold bumpBy State.setReg; rfl
@[simp] theorem bumpBy_free (c : Counter) (i n : Nat) (s : State) : (bumpBy c i n s).free = s.free := by unfold bumpBy State.setReg; rfl
@[simp] theorem bumpBy_pending (c : Counter) (i n : Nat) (s : State) : (bumpBy c i n s).pending = s.pending := by unfold bumpBy State.setReg; rfl

/-! ### A counter counts one -/

@[simp] theorem bump_halves (c : Counter) (i : Nat) (s : State) : (bump c i s).halves = s.halves := by unfold bump bumpBy State.setReg; rfl
@[simp] theorem bump_latches (c : Counter) (i : Nat) (s : State) : (bump c i s).latches = s.latches := by unfold bump bumpBy State.setReg; rfl
@[simp] theorem bump_tables (c : Counter) (i : Nat) (s : State) : (bump c i s).tables = s.tables := by unfold bump bumpBy State.setReg; rfl
@[simp] theorem bump_mem (c : Counter) (i : Nat) (s : State) : (bump c i s).mem = s.mem := by unfold bump bumpBy State.setReg; rfl
@[simp] theorem bump_cfgErr (c : Counter) (i : Nat) (s : State) : (bump c i s).cfgErr = s.cfgErr := by unfold bump bumpBy State.setReg; rfl
@[simp] theorem bump_start (c : Counter) (i : Nat) (s : State) : (bump c i s).start = s.start := by unfold bump bumpBy State.setReg; rfl
@[simp] theorem bump_pins (c : Counter) (i : Nat) (s : State) : (bump c i s).pins = s.pins := by unfold bump bumpBy State.setReg; rfl
@[simp] theorem bump_clock (c : Counter) (i : Nat) (s : State) : (bump c i s).clock = s.clock := by unfold bump bumpBy State.setReg; rfl
@[simp] theorem bump_hlt (c : Counter) (i : Nat) (s : State) : (bump c i s).hlt = s.hlt := by unfold bump bumpBy State.setReg; rfl
@[simp] theorem bump_evr (c : Counter) (i : Nat) (s : State) : (bump c i s).evr = s.evr := by unfold bump bumpBy State.setReg; rfl
@[simp] theorem bump_fh (c : Counter) (i : Nat) (s : State) : (bump c i s).fh = s.fh := by unfold bump bumpBy State.setReg; rfl
@[simp] theorem bump_pool (c : Counter) (i : Nat) (s : State) : (bump c i s).pool = s.pool := by unfold bump bumpBy State.setReg; rfl
@[simp] theorem bump_chn (c : Counter) (i : Nat) (s : State) : (bump c i s).chn = s.chn := by unfold bump bumpBy State.setReg; rfl
@[simp] theorem bump_det (c : Counter) (i : Nat) (s : State) : (bump c i s).det = s.det := by unfold bump bumpBy State.setReg; rfl
@[simp] theorem bump_lane (c : Counter) (i : Nat) (s : State) : (bump c i s).lane = s.lane := by unfold bump bumpBy State.setReg; rfl
@[simp] theorem bump_txm (c : Counter) (i : Nat) (s : State) : (bump c i s).txm = s.txm := by unfold bump bumpBy State.setReg; rfl
@[simp] theorem bump_cal (c : Counter) (i : Nat) (s : State) : (bump c i s).cal = s.cal := by unfold bump bumpBy State.setReg; rfl
@[simp] theorem bump_timer (c : Counter) (i : Nat) (s : State) : (bump c i s).timer = s.timer := by unfold bump bumpBy State.setReg; rfl
@[simp] theorem bump_sch (c : Counter) (i : Nat) (s : State) : (bump c i s).sch = s.sch := by unfold bump bumpBy State.setReg; rfl
@[simp] theorem bump_key (c : Counter) (i : Nat) (s : State) : (bump c i s).key = s.key := by unfold bump bumpBy State.setReg; rfl
@[simp] theorem bump_flash (c : Counter) (i : Nat) (s : State) : (bump c i s).flash = s.flash := by unfold bump bumpBy State.setReg; rfl
@[simp] theorem bump_jrn (c : Counter) (i : Nat) (s : State) : (bump c i s).jrn = s.jrn := by unfold bump bumpBy State.setReg; rfl
@[simp] theorem bump_dl (c : Counter) (i : Nat) (s : State) : (bump c i s).dl = s.dl := by unfold bump bumpBy State.setReg; rfl
@[simp] theorem bump_fry (c : Counter) (i : Nat) (s : State) : (bump c i s).fry = s.fry := by unfold bump bumpBy State.setReg; rfl
@[simp] theorem bump_fwd (c : Counter) (i : Nat) (s : State) : (bump c i s).fwd = s.fwd := by unfold bump bumpBy State.setReg; rfl
@[simp] theorem bump_pair (c : Counter) (i : Nat) (s : State) : (bump c i s).pair = s.pair := by unfold bump bumpBy State.setReg; rfl
@[simp] theorem bump_upd (c : Counter) (i : Nat) (s : State) : (bump c i s).upd = s.upd := by unfold bump bumpBy State.setReg; rfl
@[simp] theorem bump_camps (c : Counter) (i : Nat) (s : State) : (bump c i s).camps = s.camps := by unfold bump bumpBy State.setReg; rfl
@[simp] theorem bump_prog (c : Counter) (i : Nat) (s : State) : (bump c i s).prog = s.prog := by unfold bump bumpBy State.setReg; rfl
@[simp] theorem bump_msys (c : Counter) (i : Nat) (s : State) : (bump c i s).msys = s.msys := by unfold bump bumpBy State.setReg; rfl
@[simp] theorem bump_before (c : Counter) (i : Nat) (s : State) : (bump c i s).before = s.before := by unfold bump bumpBy State.setReg; rfl
@[simp] theorem bump_straits (c : Counter) (i : Nat) (s : State) : (bump c i s).straits = s.straits := by unfold bump bumpBy State.setReg; rfl
@[simp] theorem bump_sent (c : Counter) (i : Nat) (s : State) : (bump c i s).sent = s.sent := by unfold bump bumpBy State.setReg; rfl
@[simp] theorem bump_free (c : Counter) (i : Nat) (s : State) : (bump c i s).free = s.free := by unfold bump bumpBy State.setReg; rfl
@[simp] theorem bump_pending (c : Counter) (i : Nat) (s : State) : (bump c i s).pending = s.pending := by unfold bump bumpBy State.setReg; rfl

/-! ### An output -/

@[simp] theorem out_regs (s : State) (o : Output) : (s.out o).regs = s.regs := by unfold State.out; rfl
@[simp] theorem out_halves (s : State) (o : Output) : (s.out o).halves = s.halves := by unfold State.out; rfl
@[simp] theorem out_latches (s : State) (o : Output) : (s.out o).latches = s.latches := by unfold State.out; rfl
@[simp] theorem out_tables (s : State) (o : Output) : (s.out o).tables = s.tables := by unfold State.out; rfl
@[simp] theorem out_mem (s : State) (o : Output) : (s.out o).mem = s.mem := by unfold State.out; rfl
@[simp] theorem out_cfgErr (s : State) (o : Output) : (s.out o).cfgErr = s.cfgErr := by unfold State.out; rfl
@[simp] theorem out_start (s : State) (o : Output) : (s.out o).start = s.start := by unfold State.out; rfl
@[simp] theorem out_pins (s : State) (o : Output) : (s.out o).pins = s.pins := by unfold State.out; rfl
@[simp] theorem out_clock (s : State) (o : Output) : (s.out o).clock = s.clock := by unfold State.out; rfl
@[simp] theorem out_hlt (s : State) (o : Output) : (s.out o).hlt = s.hlt := by unfold State.out; rfl
@[simp] theorem out_evr (s : State) (o : Output) : (s.out o).evr = s.evr := by unfold State.out; rfl
@[simp] theorem out_fh (s : State) (o : Output) : (s.out o).fh = s.fh := by unfold State.out; rfl
@[simp] theorem out_pool (s : State) (o : Output) : (s.out o).pool = s.pool := by unfold State.out; rfl
@[simp] theorem out_chn (s : State) (o : Output) : (s.out o).chn = s.chn := by unfold State.out; rfl
@[simp] theorem out_det (s : State) (o : Output) : (s.out o).det = s.det := by unfold State.out; rfl
@[simp] theorem out_lane (s : State) (o : Output) : (s.out o).lane = s.lane := by unfold State.out; rfl
@[simp] theorem out_txm (s : State) (o : Output) : (s.out o).txm = s.txm := by unfold State.out; rfl
@[simp] theorem out_cal (s : State) (o : Output) : (s.out o).cal = s.cal := by unfold State.out; rfl
@[simp] theorem out_timer (s : State) (o : Output) : (s.out o).timer = s.timer := by unfold State.out; rfl
@[simp] theorem out_sch (s : State) (o : Output) : (s.out o).sch = s.sch := by unfold State.out; rfl
@[simp] theorem out_key (s : State) (o : Output) : (s.out o).key = s.key := by unfold State.out; rfl
@[simp] theorem out_flash (s : State) (o : Output) : (s.out o).flash = s.flash := by unfold State.out; rfl
@[simp] theorem out_jrn (s : State) (o : Output) : (s.out o).jrn = s.jrn := by unfold State.out; rfl
@[simp] theorem out_dl (s : State) (o : Output) : (s.out o).dl = s.dl := by unfold State.out; rfl
@[simp] theorem out_fry (s : State) (o : Output) : (s.out o).fry = s.fry := by unfold State.out; rfl
@[simp] theorem out_fwd (s : State) (o : Output) : (s.out o).fwd = s.fwd := by unfold State.out; rfl
@[simp] theorem out_pair (s : State) (o : Output) : (s.out o).pair = s.pair := by unfold State.out; rfl
@[simp] theorem out_upd (s : State) (o : Output) : (s.out o).upd = s.upd := by unfold State.out; rfl
@[simp] theorem out_camps (s : State) (o : Output) : (s.out o).camps = s.camps := by unfold State.out; rfl
@[simp] theorem out_prog (s : State) (o : Output) : (s.out o).prog = s.prog := by unfold State.out; rfl
@[simp] theorem out_msys (s : State) (o : Output) : (s.out o).msys = s.msys := by unfold State.out; rfl
@[simp] theorem out_before (s : State) (o : Output) : (s.out o).before = s.before := by unfold State.out; rfl
@[simp] theorem out_straits (s : State) (o : Output) : (s.out o).straits = s.straits := by unfold State.out; rfl
@[simp] theorem out_free (s : State) (o : Output) : (s.out o).free = s.free := by unfold State.out; rfl
@[simp] theorem out_pending (s : State) (o : Output) : (s.out o).pending = s.pending := by unfold State.out; rfl

/-! ### A free value is drawn -/

@[simp] theorem drawn_regs (s : State) : (s.drawn).regs = s.regs := by unfold State.drawn; rfl
@[simp] theorem drawn_halves (s : State) : (s.drawn).halves = s.halves := by unfold State.drawn; rfl
@[simp] theorem drawn_latches (s : State) : (s.drawn).latches = s.latches := by unfold State.drawn; rfl
@[simp] theorem drawn_tables (s : State) : (s.drawn).tables = s.tables := by unfold State.drawn; rfl
@[simp] theorem drawn_mem (s : State) : (s.drawn).mem = s.mem := by unfold State.drawn; rfl
@[simp] theorem drawn_cfgErr (s : State) : (s.drawn).cfgErr = s.cfgErr := by unfold State.drawn; rfl
@[simp] theorem drawn_start (s : State) : (s.drawn).start = s.start := by unfold State.drawn; rfl
@[simp] theorem drawn_pins (s : State) : (s.drawn).pins = s.pins := by unfold State.drawn; rfl
@[simp] theorem drawn_clock (s : State) : (s.drawn).clock = s.clock := by unfold State.drawn; rfl
@[simp] theorem drawn_hlt (s : State) : (s.drawn).hlt = s.hlt := by unfold State.drawn; rfl
@[simp] theorem drawn_evr (s : State) : (s.drawn).evr = s.evr := by unfold State.drawn; rfl
@[simp] theorem drawn_fh (s : State) : (s.drawn).fh = s.fh := by unfold State.drawn; rfl
@[simp] theorem drawn_pool (s : State) : (s.drawn).pool = s.pool := by unfold State.drawn; rfl
@[simp] theorem drawn_chn (s : State) : (s.drawn).chn = s.chn := by unfold State.drawn; rfl
@[simp] theorem drawn_det (s : State) : (s.drawn).det = s.det := by unfold State.drawn; rfl
@[simp] theorem drawn_lane (s : State) : (s.drawn).lane = s.lane := by unfold State.drawn; rfl
@[simp] theorem drawn_txm (s : State) : (s.drawn).txm = s.txm := by unfold State.drawn; rfl
@[simp] theorem drawn_cal (s : State) : (s.drawn).cal = s.cal := by unfold State.drawn; rfl
@[simp] theorem drawn_timer (s : State) : (s.drawn).timer = s.timer := by unfold State.drawn; rfl
@[simp] theorem drawn_sch (s : State) : (s.drawn).sch = s.sch := by unfold State.drawn; rfl
@[simp] theorem drawn_key (s : State) : (s.drawn).key = s.key := by unfold State.drawn; rfl
@[simp] theorem drawn_flash (s : State) : (s.drawn).flash = s.flash := by unfold State.drawn; rfl
@[simp] theorem drawn_jrn (s : State) : (s.drawn).jrn = s.jrn := by unfold State.drawn; rfl
@[simp] theorem drawn_dl (s : State) : (s.drawn).dl = s.dl := by unfold State.drawn; rfl
@[simp] theorem drawn_fry (s : State) : (s.drawn).fry = s.fry := by unfold State.drawn; rfl
@[simp] theorem drawn_fwd (s : State) : (s.drawn).fwd = s.fwd := by unfold State.drawn; rfl
@[simp] theorem drawn_pair (s : State) : (s.drawn).pair = s.pair := by unfold State.drawn; rfl
@[simp] theorem drawn_upd (s : State) : (s.drawn).upd = s.upd := by unfold State.drawn; rfl
@[simp] theorem drawn_camps (s : State) : (s.drawn).camps = s.camps := by unfold State.drawn; rfl
@[simp] theorem drawn_prog (s : State) : (s.drawn).prog = s.prog := by unfold State.drawn; rfl
@[simp] theorem drawn_msys (s : State) : (s.drawn).msys = s.msys := by unfold State.drawn; rfl
@[simp] theorem drawn_before (s : State) : (s.drawn).before = s.before := by unfold State.drawn; rfl
@[simp] theorem drawn_straits (s : State) : (s.drawn).straits = s.straits := by unfold State.drawn; rfl
@[simp] theorem drawn_sent (s : State) : (s.drawn).sent = s.sent := by unfold State.drawn; rfl
@[simp] theorem drawn_pending (s : State) : (s.drawn).pending = s.pending := by unfold State.drawn; rfl

/-! ### A byte of memory -/

@[simp] theorem setByte_regs (s : State) (a : Nat) (b : Byte) : (s.setByte a b).regs = s.regs := by unfold State.setByte; rfl
@[simp] theorem setByte_halves (s : State) (a : Nat) (b : Byte) : (s.setByte a b).halves = s.halves := by unfold State.setByte; rfl
@[simp] theorem setByte_latches (s : State) (a : Nat) (b : Byte) : (s.setByte a b).latches = s.latches := by unfold State.setByte; rfl
@[simp] theorem setByte_tables (s : State) (a : Nat) (b : Byte) : (s.setByte a b).tables = s.tables := by unfold State.setByte; rfl
@[simp] theorem setByte_cfgErr (s : State) (a : Nat) (b : Byte) : (s.setByte a b).cfgErr = s.cfgErr := by unfold State.setByte; rfl
@[simp] theorem setByte_start (s : State) (a : Nat) (b : Byte) : (s.setByte a b).start = s.start := by unfold State.setByte; rfl
@[simp] theorem setByte_pins (s : State) (a : Nat) (b : Byte) : (s.setByte a b).pins = s.pins := by unfold State.setByte; rfl
@[simp] theorem setByte_clock (s : State) (a : Nat) (b : Byte) : (s.setByte a b).clock = s.clock := by unfold State.setByte; rfl
@[simp] theorem setByte_hlt (s : State) (a : Nat) (b : Byte) : (s.setByte a b).hlt = s.hlt := by unfold State.setByte; rfl
@[simp] theorem setByte_evr (s : State) (a : Nat) (b : Byte) : (s.setByte a b).evr = s.evr := by unfold State.setByte; rfl
@[simp] theorem setByte_fh (s : State) (a : Nat) (b : Byte) : (s.setByte a b).fh = s.fh := by unfold State.setByte; rfl
@[simp] theorem setByte_pool (s : State) (a : Nat) (b : Byte) : (s.setByte a b).pool = s.pool := by unfold State.setByte; rfl
@[simp] theorem setByte_chn (s : State) (a : Nat) (b : Byte) : (s.setByte a b).chn = s.chn := by unfold State.setByte; rfl
@[simp] theorem setByte_det (s : State) (a : Nat) (b : Byte) : (s.setByte a b).det = s.det := by unfold State.setByte; rfl
@[simp] theorem setByte_lane (s : State) (a : Nat) (b : Byte) : (s.setByte a b).lane = s.lane := by unfold State.setByte; rfl
@[simp] theorem setByte_txm (s : State) (a : Nat) (b : Byte) : (s.setByte a b).txm = s.txm := by unfold State.setByte; rfl
@[simp] theorem setByte_cal (s : State) (a : Nat) (b : Byte) : (s.setByte a b).cal = s.cal := by unfold State.setByte; rfl
@[simp] theorem setByte_timer (s : State) (a : Nat) (b : Byte) : (s.setByte a b).timer = s.timer := by unfold State.setByte; rfl
@[simp] theorem setByte_sch (s : State) (a : Nat) (b : Byte) : (s.setByte a b).sch = s.sch := by unfold State.setByte; rfl
@[simp] theorem setByte_key (s : State) (a : Nat) (b : Byte) : (s.setByte a b).key = s.key := by unfold State.setByte; rfl
@[simp] theorem setByte_flash (s : State) (a : Nat) (b : Byte) : (s.setByte a b).flash = s.flash := by unfold State.setByte; rfl
@[simp] theorem setByte_jrn (s : State) (a : Nat) (b : Byte) : (s.setByte a b).jrn = s.jrn := by unfold State.setByte; rfl
@[simp] theorem setByte_dl (s : State) (a : Nat) (b : Byte) : (s.setByte a b).dl = s.dl := by unfold State.setByte; rfl
@[simp] theorem setByte_fry (s : State) (a : Nat) (b : Byte) : (s.setByte a b).fry = s.fry := by unfold State.setByte; rfl
@[simp] theorem setByte_fwd (s : State) (a : Nat) (b : Byte) : (s.setByte a b).fwd = s.fwd := by unfold State.setByte; rfl
@[simp] theorem setByte_pair (s : State) (a : Nat) (b : Byte) : (s.setByte a b).pair = s.pair := by unfold State.setByte; rfl
@[simp] theorem setByte_upd (s : State) (a : Nat) (b : Byte) : (s.setByte a b).upd = s.upd := by unfold State.setByte; rfl
@[simp] theorem setByte_camps (s : State) (a : Nat) (b : Byte) : (s.setByte a b).camps = s.camps := by unfold State.setByte; rfl
@[simp] theorem setByte_prog (s : State) (a : Nat) (b : Byte) : (s.setByte a b).prog = s.prog := by unfold State.setByte; rfl
@[simp] theorem setByte_msys (s : State) (a : Nat) (b : Byte) : (s.setByte a b).msys = s.msys := by unfold State.setByte; rfl
@[simp] theorem setByte_before (s : State) (a : Nat) (b : Byte) : (s.setByte a b).before = s.before := by unfold State.setByte; rfl
@[simp] theorem setByte_straits (s : State) (a : Nat) (b : Byte) : (s.setByte a b).straits = s.straits := by unfold State.setByte; rfl
@[simp] theorem setByte_sent (s : State) (a : Nat) (b : Byte) : (s.setByte a b).sent = s.sent := by unfold State.setByte; rfl
@[simp] theorem setByte_free (s : State) (a : Nat) (b : Byte) : (s.setByte a b).free = s.free := by unfold State.setByte; rfl
@[simp] theorem setByte_pending (s : State) (a : Nat) (b : Byte) : (s.setByte a b).pending = s.pending := by unfold State.setByte; rfl

end Sys2Proof.Machine
end

