-- ==== Sys2Proof/Tests/Slice0.lean ====
section
/-! SUPPORT. Tests: the well-formedness check refuses an ill-formed command for each of its bounds, worked figures of the spec, and small
states on which commands are seen to act. -/

set_option Elab.async false

namespace Sys2Proof.Tests

open Sys2Proof Machine

theorem test_wf_start_reset_and_image :
    (∀ t, (Instr.bootEngineReadyWrite t 12).wf = false) ∧
    (∀ t, (Instr.pllLockLoss t 0).wf = false) ∧
    (∀ t, (Instr.pllLockLoss t 8).wf = false) ∧
    (∀ t, (Instr.sdsclkLoss t 4).wf = false) ∧
    (∀ t agent revoke, (Instr.fuseProgGo t agent 64 revoke).wf = false) ∧
    (∀ t bit, (Instr.jtagFuseProgram t 256 bit).wf = false) ∧
    (∀ t word, (Instr.jtagFuseProgram t word 32).wf = false) := by
  refine ⟨?_, ?_, ?_, ?_, ?_, ?_, ?_⟩ <;> intros <;> simp_all [Instr.wf]

theorem test_wf_fronthaul_and_analogue_ports_1 :
    (∀ t, (Instr.fhSignalDetect t 32).wf = false) ∧
    (∀ t headers, (Instr.fhBlockLock t 32 headers).wf = false) ∧
    (∀ t, (Instr.fhBlockLockTimeout t 32).wf = false) ∧
    (∀ t syncGood block, (Instr.fhControlBlockRx t 32 syncGood block).wf = false) ∧
    (∀ t rxTime arrivals, (Instr.fhSuperframeRx t 32 rxTime arrivals).wf = false) ∧
    (∀ t groups, (Instr.fhFrameTx t 32 groups).wf = false) ∧
    (∀ t, (Instr.fhTimeTimeout t 32).wf = false) ∧
    (∀ t, (Instr.fhRecoverTimeout t 32).wf = false) ∧
    (∀ t, (Instr.fhFaultTimeout t 32).wf = false) ∧
    (∀ t, (Instr.fhMbxReply t 32).wf = false) ∧
    (∀ t, (Instr.fhMbxTimeout t 32).wf = false) ∧
    (∀ t loop, (Instr.fhLoopWrite t 32 loop).wf = false) := by
  refine ⟨?_, ?_, ?_, ?_, ?_, ?_, ?_, ?_, ?_, ?_, ?_, ?_⟩ <;> intros <;> simp_all [Instr.wf]

theorem test_wf_fronthaul_and_analogue_ports_2 :
    (∀ t loop, (Instr.anaLoopWrite t 4 loop).wf = false) := by
  intros; simp_all [Instr.wf]

theorem test_wf_channeliser_and_search :
    (∀ t, (Instr.chnGenRequest t 36).wf = false) ∧
    (∀ t, (Instr.chnUnitStart t 36).wf = false) ∧
    (∀ t, (Instr.chnSwitchPoint t 36).wf = false) ∧
    (∀ t, (Instr.chnRetireExpire t 144).wf = false) ∧
    (∀ t bin powers, (Instr.noiseFloorRise t 128 bin powers).wf = false) ∧
    (∀ t stream powers, (Instr.noiseFloorRise t stream 128 powers).wf = false) ∧
    (∀ t h, h.stream = 128 → (Instr.detection t h).wf = false) ∧
    (∀ t h, h.bin = 128 → (Instr.detection t h).wf = false) ∧
    (∀ t h, h.slot = 12 → (Instr.detection t h).wf = false) ∧
    (∀ t, (Instr.detRecordIssue t 128).wf = false) ∧
    (∀ t maskIndex metrics, (Instr.detMaskExpire t 128 maskIndex metrics).wf = false) := by
  refine ⟨?_, ?_, ?_, ?_, ?_, ?_, ?_, ?_, ?_, ?_, ?_⟩ <;> intros <;> simp_all [Instr.wf]

theorem test_wf_lanes :
    (∀ t, (Instr.laneCaughtUp t 4096).wf = false) ∧
    (∀ t word snr position, (Instr.laneSyncFound t 4096 word snr position).wf = false) ∧
    (∀ t below, (Instr.lanePreambleLost t 4096 below).wf = false) ∧
    (∀ t bits hcsOk members summary, (Instr.laneHeaderCheck t 4096 bits hcsOk members summary).wf = false) ∧
    (∀ t fields, (Instr.laneAddressPoint t 4096 fields).wf = false) ∧
    (∀ t fcsOk endTime, (Instr.laneFrameEnd t 4096 fcsOk endTime).wf = false) ∧
    (∀ t stronger, (Instr.laneReconstruction t 256 stronger).wf = false) ∧
    (∀ t context, (Instr.laneReconstruction t context 4096).wf = false) ∧
    (∀ t fcsOk, (Instr.laneRerunEnd t 4096 fcsOk).wf = false) ∧
    (∀ t, (Instr.laneSpillOverrun t 256).wf = false) ∧
    (∀ t, (Instr.laneInputInvalid t 4096).wf = false) ∧
    (∀ t body, (Instr.laneExportDone t 4096 body).wf = false) := by
  refine ⟨?_, ?_, ?_, ?_, ?_, ?_, ?_, ?_, ?_, ?_, ?_, ?_⟩ <;> intros <;> simp_all [Instr.wf]

theorem test_wf_schedule_transmission_and_acknowledgement :
    (∀ t, (Instr.slotframeBoundary t 32).wf = false) ∧
    (∀ t, (Instr.ackRelease t 8192).wf = false) ∧
    (∀ t, (Instr.ackLeft t 8192).wf = false) ∧
    (∀ t overflows, (Instr.txEnd t 256 overflows).wf = false) ∧
    (∀ t x, (Instr.maskMonitorEval t 72 x).wf = false) ∧
    (∀ t n, (Instr.maskMonitorEval t n []).wf = false) ∧
    (∀ t n, (Instr.maskMonitorEval t n [[], [], [], []]).wf = false) ∧
    (∀ t, (Instr.beaconRewrite t 64).wf = false) := by
  refine ⟨?_, ?_, ?_, ?_, ?_, ?_, ?_, ?_⟩ <;> intros <;> simp_all [Instr.wf]

theorem test_wf_calibration :
    (∀ t sums saturated clipped, (Instr.calStreamBlock t 36 sums saturated clipped).wf = false) ∧
    (∀ t, (Instr.calGainUpdate t 36).wf = false) ∧
    (∀ t transmit, (Instr.calGenRequest t 36 transmit).wf = false) ∧
    (∀ t, (Instr.calSweepStart t 36).wf = false) ∧
    (∀ t measured, (Instr.calSweepDone t 36 measured).wf = false) := by
  refine ⟨?_, ?_, ?_, ?_, ?_⟩ <;> intros <;> simp_all [Instr.wf]

theorem test_wf_timekeeper_and_neighbours :
    (∀ t msg, msg.port = 8 → (Instr.ptpSync t msg).wf = false) ∧
    (∀ t msg, msg.port = 8 → (Instr.ptpFollowUp t msg).wf = false) ∧
    (∀ t msg, msg.port = 8 → (Instr.ptpDelayResp t msg).wf = false) ∧
    (∀ t msg, msg.port = 8 → (Instr.ptpAnnounce t msg).wf = false) ∧
    (∀ t, (Instr.timeComparator t (some 8)).wf = false) ∧
    (∀ t asn start, (Instr.nbrBeaconHeard t 16 asn start).wf = false) ∧
    (∀ t, (Instr.nbrBeaconMissed t 16).wf = false) ∧
    (∀ t, (Instr.nbrHoldoffExpire t 16).wf = false) := by
  refine ⟨?_, ?_, ?_, ?_, ?_, ?_, ?_, ?_⟩ <;> intros <;> simp_all [Instr.wf]

theorem test_wf_keys :
    (∀ t, (Instr.keyLookup t 4096).wf = false) ∧
    (∀ t, (Instr.keyPayloadBlock t 4096).wf = false) ∧
    (∀ t fcsOk frame blocks, (Instr.keyFrameEnd t 4096 fcsOk frame blocks).wf = false) := by
  refine ⟨?_, ?_, ?_⟩ <;> intros <;> simp_all [Instr.wf]

theorem test_wf_acceptance_and_journal :
    (∀ t, (Instr.candidateOpen t 4096).wf = false) ∧
    (∀ t frame, (Instr.candidateVerdicts t 4096 frame).wf = false) ∧
    (∀ t roomA roomB, (Instr.candidateStaged t 4096 roomA roomB).wf = false) ∧
    (∀ t, (Instr.candidateDeadline t 8192).wf = false) ∧
    (∀ t, (Instr.standbyCandidateTimeout t 4096).wf = false) := by
  refine ⟨?_, ?_, ?_, ?_, ?_⟩ <;> intros <;> simp_all [Instr.wf]

theorem test_wf_nodes_learning_and_forwarding :
    (∀ t e q l, (Instr.learnEvent t e ((36, q) :: l)).wf = false) ∧
    (∀ t e l, (Instr.newSenderAdmit t 4096 e l).wf = false) ∧
    (∀ t g e q l, (Instr.newSenderAdmit t g e ((36, q) :: l)).wf = false) ∧
    (∀ t stamp, (Instr.agerVisit t nodeMax stamp).wf = false) ∧
    (∀ t p, p.fromMesh = false → p.port = 8 → (Instr.forwardPacket t p).wf = false) := by
  refine ⟨?_, ?_, ?_, ?_, ?_⟩ <;> intros <;> simp_all [Instr.wf]

theorem test_wf_ferry :
    (∀ t target, (Instr.neighbourSolicitation t 8 target).wf = false) ∧
    (∀ t target, (Instr.echoRequest t 8 target).wf = false) ∧
    (∀ t up, (Instr.ethLinkChange t 8 up).wf = false) := by
  refine ⟨?_, ?_, ?_⟩ <;> intros <;> simp_all [Instr.wf]

theorem test_wf_dovetail_1 :
    (∀ t, (Instr.headFollowCheck t 32).wf = false) ∧
    (∀ t hdr group blocks, hdr.link = 2 → (Instr.payloadRecord t hdr group blocks).wf = false) ∧
    (∀ t hdr blocks, (Instr.payloadRecord t hdr 4096 blocks).wf = false) ∧
    (∀ t hdr group entry, hdr.link = 2 → (Instr.entryRecord t hdr group entry).wf = false) ∧
    (∀ t hdr entry, (Instr.entryRecord t hdr 4096 entry).wf = false) ∧
    (∀ t hdr book, hdr.link = 2 → (Instr.ackBookRecord t hdr book).wf = false) ∧
    (∀ t hdr jsn, hdr.link = 2 → (Instr.voidRecord t hdr jsn).wf = false) ∧
    (∀ t hdr body, hdr.link = 2 → (Instr.dlRecord t hdr body).wf = false) ∧
    (∀ t hdr body, hdr.link = 2 → (Instr.ceilingRecord t hdr body).wf = false) ∧
    (∀ t hdr ackJsn, hdr.link = 2 → (Instr.ackPointRecord t hdr ackJsn).wf = false) ∧
    (∀ t hdr session packetCeiling inboundHigh nonceD nonceH, hdr.link = 2 → (Instr.sessionRecord t hdr session packetCeiling inboundHigh nonceD nonceH).wf = false) ∧
    (∀ t hdr body, hdr.link = 2 → (Instr.scheduleRecord t hdr body).wf = false) := by
  refine ⟨?_, ?_, ?_, ?_, ?_, ?_, ?_, ?_, ?_, ?_, ?_, ?_⟩ <;> intros <;> simp_all [Instr.wf]

theorem test_wf_dovetail_2 :
    (∀ t hdr body, hdr.link = 2 → (Instr.keyRecord t hdr body).wf = false) ∧
    (∀ t hdr create node index relay pan bulk, hdr.link = 2 → (Instr.nodeRecord t hdr create node index relay pan bulk).wf = false) ∧
    (∀ t hdr create node relay pan bulk, (Instr.nodeRecord t hdr create node nodeMax relay pan bulk).wf = false) ∧
    (∀ t hdr body, hdr.link = 2 → (Instr.campaignRecord t hdr body).wf = false) ∧
    (∀ t hdr partnerTime, hdr.link = 2 → (Instr.timeRecord t hdr partnerTime).wf = false) ∧
    (∀ t hdr committed ok, hdr.link = 2 → (Instr.commitRecord t hdr committed ok).wf = false) ∧
    (∀ t hdr body, hdr.link = 2 → (Instr.fitnessRecord t hdr body).wf = false) ∧
    (∀ t hdr ranges, hdr.link = 2 → (Instr.digestRecord t hdr ranges).wf = false) ∧
    (∀ t hdr body, hdr.link = 2 → (Instr.rangeRecord t hdr body).wf = false) ∧
    (∀ t hdr th newEpoch, hdr.link = 2 → (Instr.handoverRecord t hdr th newEpoch).wf = false) ∧
    (∀ t hdr lastMseq, hdr.link = 2 → (Instr.releasedRecord t hdr lastMseq).wf = false) ∧
    (∀ t hdr body, hdr.link = 2 → (Instr.pairingRecord t hdr body).wf = false) := by
  refine ⟨?_, ?_, ?_, ?_, ?_, ?_, ?_, ?_, ?_, ?_, ?_, ?_⟩ <;> intros <;> simp_all [Instr.wf]

theorem test_wf_dovetail_3 :
    (∀ t hdr, hdr.link = 2 → (Instr.keepaliveRecord t hdr).wf = false) ∧
    (∀ t, (Instr.keepaliveTx t 2).wf = false) ∧
    (∀ t, (Instr.isthmusLinkUp t 2).wf = false) ∧
    (∀ t lane, (Instr.isthmusLinkLoss t 2 lane).wf = false) ∧
    (∀ t, (Instr.resyncPhaseDone t 0).wf = false) ∧
    (∀ t, (Instr.resyncPhaseDone t 7).wf = false) := by
  refine ⟨?_, ?_, ?_, ?_, ?_, ?_⟩ <;> intros <;> simp_all [Instr.wf]

theorem test_wf_updates_and_campaigns :
    (∀ t request, request.port = 36 → (Instr.pieceRequest t request).wf = false) ∧
    (∀ t, (Instr.campWindowOpen t 64).wf = false) := by
  refine ⟨?_, ?_⟩ <;> intros <;> simp_all [Instr.wf]

theorem test_wf_quays_dma_memory_and_engines_1 :
    (∀ t agent octets, (Instr.quayClaim t agent 64 octets).wf = false) ∧
    (∀ t agent word parityGood, (Instr.quayWrWord t agent 64 word parityGood).wf = false) ∧
    (∀ t a w o p, (Instr.quayWrEnd t a 64 w o p).wf = false) ∧
    (∀ t a q w p, (Instr.quayWrEnd t a q w 0 p).wf = false) ∧
    (∀ t a q w p, (Instr.quayWrEnd t a q w 5 p).wf = false) ∧
    (∀ t agent, (Instr.quayWrPoison t agent 64).wf = false) ∧
    (∀ t a b, (Instr.quayRdNext t a 64 b).wf = false) ∧
    (∀ t a q, (Instr.quayRdNext t a q (some 33)).wf = false) ∧
    (∀ t agent, (Instr.quayRdDrop t agent 64).wf = false) ∧
    (∀ t agent, (Instr.quayFlush t agent 64).wf = false) ∧
    (∀ t agent, (Instr.dmaStart t agent 8).wf = false) ∧
    (∀ t agent, (Instr.dmaStop t agent 8).wf = false) := by
  refine ⟨?_, ?_, ?_, ?_, ?_, ?_, ?_, ?_, ?_, ?_, ?_, ?_⟩ <;> intros <;> simp_all [Instr.wf]

theorem test_wf_quays_dma_memory_and_engines_2 :
    (∀ t poisonAt, (Instr.dmaDescriptorDone t 8 poisonAt).wf = false) ∧
    (∀ t channelB uncorrectable byDma, (Instr.eccError t (2 ^ 36) channelB uncorrectable byDma).wf = false) ∧
    (∀ t, (Instr.engWdogKick t 12).wf = false) ∧
    (∀ t, (Instr.engWdogExpire t 12).wf = false) := by
  refine ⟨?_, ?_, ?_, ?_⟩ <;> intros <;> simp_all [Instr.wf]

theorem test_wf_health_1 :
    (∀ t report lost, report.unit = (25 * 2048) → (Instr.errorReport t report lost).wf = false) ∧
    (∀ t, (Instr.handlerException t 4).wf = false) ∧
    (∀ t i, (Instr.jigTestStart t 0 i).wf = false) ∧
    (∀ t, (Instr.jigTestStart t 1 (jigCount 1)).wf = false) ∧
    (∀ t activity, (Instr.clampRequest t activity 74).wf = false) ∧
    (∀ t activity, (Instr.clampRelease t activity 74).wf = false) ∧
    (∀ t activity, (Instr.clampWaitExpire t activity 74).wf = false) ∧
    (∀ t c, c.cause = 0 → (Instr.fatal t c).wf = false) ∧
    (∀ t c, c.cause = 13 → (Instr.fatal t c).wf = false) ∧
    (∀ t a x, (Instr.registerLoRead t a x 3).wf = false) ∧
    (∀ t a x v, (Instr.registerWrite t a x v 0).wf = false) ∧
    (∀ t, (Instr.fhLossOfSignal t 32).wf = false) := by
  refine ⟨?_, ?_, ?_, ?_, ?_, ?_, ?_, ?_, ?_, ?_, ?_, ?_⟩ <;> intros <;> simp_all [Instr.wf]

theorem test_wf_health_2 :
    (∀ t, (Instr.glbTempUpdate t (-32769)).wf = false) ∧
    (∀ t, (Instr.glbTempUpdate t 32768).wf = false) ∧
    (∀ t, (Instr.sdsclkReturn t 4).wf = false) := by
  refine ⟨?_, ?_, ?_⟩ <;> intros <;> simp_all [Instr.wf]

/-- A command that names no instance of the hardware is the fault noSuchInstance. -/
theorem test_no_such_instance (t : Time) : exec (.fhSignalDetect t 32) State.reset = .fault .noSuchInstance := by
  rw [exec_fhSignalDetect, execFhSignalDetect, onInst, if_neg (by decide)]

/-- The queue is empty right after reset. -/
theorem test_reset_queue : State.reset.pending = [] := rfl

/-- The memory's form holds right after reset. -/
theorem test_reset_memory : Memory.wf State.reset.mem := by decide

/-- The report of the worked example of 04_air_formats.md takes 14,208 chips at Deep level 2. -/
theorem test_deep_chips : deepChips 2 40 = 14208 := by decide

/-- The chips laid out for a Deep frame are as many as R128 counts: level 0, five octets. -/
theorem test_deep_frame_chips : (deepFrame 0 true [1, 2, 3, 4, 5]).length = deepChips 0 5 := by decide +kernel

/-- The 63-chip sequence has 32 ones (R123: a maximal sequence). -/
theorem test_m_sequence : (baseSeq.filter id).length = 32 := by decide

/-- FH7 over 17.3 km (03_fronthaul.md): a round trip of 169,600 ns is 84,800 ns each way without an asymmetry. -/
theorem test_one_way : oneWay State.reset 7 (169600 * 16) = (84800 * 16, 84800 * 16) := by decide +kernel

/-- AES-256 of FIPS 197, appendix C.3. -/
theorem test_aes256 : aes (natToOs 32 0x000102030405060708090a0b0c0d0e0f101112131415161718191a1b1c1d1e1f)
    (natToOs 16 0x00112233445566778899aabbccddeeff) = natToOs 16 0x8ea2b7ca516745bfeafc49904b496089 := by decide +kernel

/-- SHA-256 of FIPS 180-4 of the text abc. -/
theorem test_sha256 : sha256 (textOs "abc") =
    natToOs 32 0xba7816bf8f01cfea414140de5dae2223b00361a396177a9cb410ff61f20015ad := by decide +kernel

/-- FH2, FH5 and FH9 of the worked example of 08_calibration.md hear one another and make one set. -/
theorem test_solve_sets : solveSets [(2, 5, 16), (2, 9, 4), (5, 2, 1), (5, 9, -5), (9, 2, 5), (9, 5, 11)] = [[2, 5, 9]] := by decide +kernel

/-! ### States and operands that meet the hypotheses of the statements

Each theorem goes through the clauses of the statement of its name, in order, that have hypotheses. Left out are the clauses whose
hypotheses need an elliptic-curve check, a long run of AES or a table of thousands of rows evaluated, and the like: these were evaluated outside the kernel. -/

/-- A solo device in service: every island runs, device time counts, READY is high. -/
def up : State := { start := { phase := .p9, porstLow := false, pinLow := false, islands := 255, refOk := true, straps := true, fuseLoaded := true, reachedP9 := true, linkDone := true }, pins := { ready := true, ethOn := true }, clock := { now := sec 5000, running := true }, pair := { state := .solo, driving := true, ownLow := true }, dl := { sync := false } }

/-- The device in service with the Dovetail state named. -/
def pairAs (p : Pair) : State := { up with pair := p }

/-- The same with quay 63 given storage. -/
def quayUp : State := { up with regs := [(rQuayCfg + 63 * 0x400, 0x00000040), (rQuayCfg2 + 63 * 0x400, 0)] }

/-- A MGMT-CMD item of the DSN, CODE and arguments named. -/
def cmdItem (dsn code : Nat) (args : List Byte) : DlItem := ⟨dsn, 3, 0, args.length + 4, 6000, 0, 0, beBytes 2 code ++ [0, 0] ++ args⟩

/-- The solo device carries out command 1, of the CODE and arguments named. -/
def soloDoing (code : Nat) (args : List Byte := []) : State := { up with dl := { sync := false, nextDsn := 1, recs := [{ item := cmdItem 1 code args, since := sec 4990, state := .carrying }] } }

/-- An active that is paired with a standby over both links. -/
def paired : Pair := { state := .active, driving := true, ownLow := true, links := 3, paired := true, lastGood := sec 4990, cutIn := true, lastChange := sec 4000 }

/-- A standby of an active over both links. -/
def standby : Pair := { state := .standby, partnerLow := true, links := 3, paired := true, lastGood := sec 4990 }

/-- A campaign definition of two fragments. -/
def campDef : CampDef := ⟨3, 4, 1, 0, 128, 1, 4, 2, 10, 3, 0, 86400, 0⟩

/-- A manifest of one piece. -/
def manifest : Manifest := ⟨9, 4096, 7, 0, 0, 1, 1, 1, 1, 1, 0⟩

/-- A first handler frame. -/
def hframe : HFrame := ⟨5, 6, 2, 1, 0, true, 0, sec 4000⟩

/-- A key in the vault of the class and number named. -/
def liveKey (cls id : Nat) : Nat × VKey := (keyNo cls id, ⟨⟨cls, 16, 0, id, 1, true, 0, 0⟩, 1, .live, 0, 0⟩)

/-- An image header in use. -/
def imageHdr : ImageHdr := ⟨0x4E594346, 1, 256, 4096, 5, 0, 0, 0, 1, 256, 1, 8, 512, 8, 256, 1, 1, [(0x2000000, 0x100000), (0x2100000, 0x100000), (0x2200000, 0x100000), (0x2300000, 0x100000), (0x2400000, 0x2000000)], 0, true⟩

/-- A device in service whose image asks for a pair. -/
def pairUp : State := { up with start := { up.start with image := some { imageHdr with pairMode := 1 }, slot := false } }

/-- The hello of a partner with the same formats and no key. -/
def hello : Hello := ⟨true, true, 0, 0, [], 0, false, 0, up.fld rPairFormat 0 16, up.fld rPairFormat 16 16, 0, 0, true, false, 0, 0⟩

/-- A dump header. -/
def dump : DumpHdr := ⟨0, 1, 0, 0, 0, 0, 0, 0, 0, 0, false, []⟩

/-- A start whose fuses name image key slots 0 and 3. -/
def slotStart : Start := { up.start with fuses := [(129, 9)], shadow := [(129, 9)] }

/-- SCH_ASN_LO. -/
def loAddr : Word := BitVec.ofNat 32 rSchAsnLo

/-- SCH_ASN_HI. -/
def hiAddr : Word := loAddr + 4

/-- A device in the phase of its start that is named, with the image header in use. -/
def starting (p : Phase) : State := { up with start := { up.start with phase := p, linkDone := false, reachedP9 := false, image := some imageHdr, shadow := [(129, 1)] }, pair := {}, pins := {} }

/-- P5, with records on either side of the next one. -/
def loading : State := { starting .p5 with start := { (starting .p5).start with record := 3 } }

/-- A good header of a record of the TYPE named. -/
def recHdr (n : Nat) : RecHdr := ⟨n, true, false, true, true, true⟩

/-- The device in service with fronthaul port 31 as given, which is enabled. -/
def portAs (p : FhPort) : State := { up with fh := [(31, p)], regs := [(rFhPortCtrl + 31 * 0x400, 1)] }

/-- The device in service with one lane of number 4095 in the state named, alone in its group 9. -/
def laneAs (st : LaneState) (g : Group) : State := { up with lane := { lanes := [(4095, { state := st, group := 9 })], groups := [(9, g)] } }

/-- A group of lane 4095 alone. -/
def alone : Group := { members := [4095] }

/-- A detection record of stream 127. -/
def record127 : DetRecord := ⟨⟨127, 5, 0, 60, 7, 8, sec 4999⟩, 0, 2, false, false, 0, 9⟩

/-- A beacon's booking that is ready. -/
def beaconBooking : Booking := ⟨7, .beacon 63, 143, sec 5001, 100, sec 5001, 2, 1, 0, 65536, none, true, 0⟩

/-- The booking of the acknowledgement of group 8191. -/
def ackBooking : Booking := { beaconBooking with use := .ack 8191, stream := 2 }

/-- Its template, armed. -/
def template : AckTmpl := { booking := 7, node := 77, deadline := sec 5001, correction := 0, armed := true }

/-- The schedule runs in slots of 10 ms. -/
def slotted : State := { up with sch := { started := true, slot := 3 }, regs := [(rSchCtrl, 100)] }

/-- Look-up fields of a frame of node 77. -/
def fields : LookupFields := ⟨2, some 77, 1, 0, 0, 5, false, 9⟩

/-- A frame of node 77. -/
def frame : FrameInfo := ⟨.data, 77, 1, [0, 0, 0, 42], 0, List.replicate 40 0, [(0, 5)], [0], 3, [], none, 0⟩

/-- A header summary of a frame of node 77 that asks for an acknowledgement as named. -/
def summary (ack : Bool) : Summary := ⟨ack, 40, [sec 5000], 1, 1, 1, 77⟩

/-- The device as it carries out a key-load item, DSN 1. -/
def loadingKey (it : KeyItem) : State := { up with dl := { sync := false, nextDsn := 1, recs := [{ item := ⟨1, 2, 0, 96, 6000, 0, 0, keyItemOctets it⟩, since := sec 4990, state := .carrying }] }, key := { items := [(1, it)], keys := [liveKey 4 1, liveKey 4 2, liveKey 5 3] } }

/-- An entry of JSN 5 in the state named. -/
def entry5 (st : EntryState) : Entry := ⟨⟨5, 1, 77, 5, 6, true, false, 40, sec 4999, 0, 0, 0, 1, 0, 0, 0, 1, 0, 0⟩, st, 0, 0, 0, false, 0, false, none⟩

/-- A solo device that has node 77 at INDEX 5. -/
def homed : State := { up with fwd := { nodes := [(5, { eui := 77 })] } }

/-- A newcomer, node 77. -/
def newcomer : NewSender := ⟨77, 9, none, some 3, true, true, [], 1, 5, 6, some 5, sec 4999⟩

/-- A context of a frame of node 77 whose key the frame names as a group key. -/
def groupCtx : KeyCtx := { lane := 0, fields := { fields with kim := 1 }, bound := some (.group 1) }

/-- A solo device with a session open. -/
def session : State := { up with fry := { state := 2, session := 5, lastUsed := 5, advertised := true, txCeiling := 100 } }

/-- A PTP message that is taken, two-step or not. -/
def ptpMsg (two : Bool) : PtpMsg := ⟨0, 0, true, true, two, 3, 0, 0, 0, []⟩

/-- A device that takes PTP messages from port 0. -/
def ptpUp : State := { up with regs := [(rTimeCtrl, 4)], timer := { stepped := true } }

/-- A snippet of head 35. -/
def snip : Snippet := ⟨77, false, false, 0, 15, 0, 0, 0, 0⟩

/-- The header of a record that comes in its turn on link 1. -/
def turn : MirrorHdr := ⟨1, 1, 0, true, false, true⟩

/-- DRAM of 16 GiB in service, with a descriptor at 0 that copies 33 octets from 0x1000 to 0x2000 and is the last of its chain. -/
def dramUp : State := ((({ up with msys := { chA := { ok := true, cap := 16 }, dma := [(7, { state := 1 })] } }.setWord dramBase 0xA0000000).setWord (dramBase + 4) 33).setWord (dramBase + 8) 0x1000).setWord (dramBase + 16) 0x2000

/-- Nodes that fill every slot that could take node `e`. -/
def crowded (e : Eui) : List (Nat × Node) := (List.range 16).foldl (fun l j => match freeSlotFor up.fwd.seeds e l with | some k => l ++ [(100 + j, { eui := BitVec.ofNat 64 (1000 + j), place := .table k })] | none => l) []

/-- An IPv6 packet of 60 octets for address 5, from the mesh. -/
def meshPacket : Packet := ⟨true, 0, false, beBytes 4 0x60000000 ++ beBytes 4 0x00143B02 ++ beBytes 16 9 ++ beBytes 16 5 ++ List.replicate 20 0, 60, 100, 77, 6⟩

/-- A solo device with a session open that takes Ferry packets from port 0. -/
def ferrySession : State := { session with tables := [(tFryPort * 2 ^ 32, 2 ^ 254 + 2 ^ 252)] }

/-- The frame of a packet of the head-end, without its checksum. -/
def headFrame (type flags number no : Nat) (key : BitVec 256) (body : Octets) : FerryFrame :=
  let h := (⟨1, type, flags, number, no⟩ : FerryHead).octets
  ⟨0, 200, [], 6, 0, fryAddr up, 17, 0, up.fld rFryUdp 0 16, 0, toBytes (h ++ gcmSeal (octetsOf key) (ferryIv 2 no) h body)⟩

/-- The UDP checksum of a frame that has none. -/
def udpSum (f : FerryFrame) : Nat :=
  let n := 8 + f.payload.length
  65535 - onesSum (octetsOf f.src ++ octetsOf f.dst ++ natToOs 4 n ++ natToOs 4 17 ++ natToOs 2 f.srcPort ++ natToOs 2 f.dstPort ++ natToOs 2 n ++ natToOs 2 0 ++ ofBytes f.payload)

/-- The frame of a packet of the head-end. -/
def fromHead (type flags number no : Nat) (key : BitVec 256) (body : Octets) : FerryFrame :=
  { headFrame type flags number no key body with checksum := udpSum (headFrame type flags number no key body) }

/-- The body of a message with one item. -/
def oneItem (it : DlItem) : Octets := natToOs 2 1 ++ natToOs 2 0 ++ ofBytes it.octets

/-- A NODE item of DSN 1 for node 77. -/
def nodeItem : DlItem := ⟨1, 0, 0, 4, 10, 77, 0, [1, 2, 3, 4]⟩

/-- The heartbeat of a head-end. -/
def beat : Octets := heartbeatOctets 0 0 0 0 0 0

/-- The arguments of UPD_BEGIN. -/
def manifestArgs (m : Manifest) : List Byte :=
  beBytes 4 m.updateId.toNat ++ beBytes 4 m.imageLength ++ beBytes 4 m.generation.toNat ++ beBytes 1 m.securityVersion ++ beBytes 1 m.keySlot ++
    beBytes 1 m.imageKeyId ++ beBytes 1 0 ++ beBytes 2 m.persistFormat ++ beBytes 2 m.persistFormatMin ++ beBytes 2 m.mirrorFormat ++
    beBytes 2 m.mirrorFormatMin ++ beBytes 32 m.digest.toNat

/-- The arguments of UPD_PART. -/
def partArgs (p : Part) : List Byte :=
  beBytes 4 p.updateId.toNat ++ beBytes 2 p.piece ++ beBytes 1 p.part ++ beBytes 1 0 ++ beBytes 512 p.data ++ (if p.part = 7 then beBytes 16 p.tag else [])

/-- The arguments of CAMP_DEFINE. -/
def campArgs (d : CampDef) : List Byte :=
  beBytes 1 d.campaign ++ beBytes 1 d.fragsPerFrame ++ beBytes 2 d.panId.toNat ++ beBytes 4 d.tag.toNat ++ beBytes 4 d.imageLength ++
    beBytes 1 d.keyId ++ beBytes 1 d.ttl ++ beBytes 1 d.maxRounds ++ beBytes 1 d.dutyShare ++ beBytes 2 d.repairLimit ++ beBytes 2 0 ++
    beBytes 4 d.windowStart ++ beBytes 4 d.windowLen ++ beBytes 32 d.digest.toNat

/-- The arguments of CAMP_DATA with one fragment of zeros. -/
def dataArgs (c f : Nat) : List Byte := beBytes 1 c ++ beBytes 1 1 ++ beBytes 2 0 ++ beBytes 4 f ++ List.replicate 64 0

/-- The arguments of CAMP_MEMBERS with one node. -/
def memberArgs (c : Nat) (e : Eui) : List Byte := beBytes 1 c ++ beBytes 1 1 ++ beBytes 2 0 ++ beBytes 8 e.toNat

/-- The public key of the private key 5. -/
def imageKey : Nat × Nat := (ecMul 5 g256).getD (0, 0)

/-- The octets of an image without records, before its signature. -/
def imageBody : Octets :=
  natToOs 4 0x4E594346 ++ natToOs 2 1 ++ natToOs 2 256 ++ natToOs 4 320 ++ natToOs 4 7 ++ natToOs 4 0 ++ natToOs 4 0x00010000 ++ natToOs 4 256 ++ natToOs 4 0 ++
    natToOs 4 256 ++ natToOs 4 0 ++ natToOs 4 0x00010001 ++ natToOs 4 0 ++
    [(0x2000000, 0x100000), (0x2100000, 0x100000), (0x2200000, 0x100000), (0x2300000, 0x100000), (0x2400000, 0x2000000)].flatMap (fun x => natToOs 4 x.1 ++ natToOs 4 x.2) ++
    natToOs 8 0 ++ natToOs 32 0 ++ natToOs 32 imageKey.1 ++ natToOs 32 imageKey.2 ++ natToOs 64 0

/-- Its signature. -/
def imageSign : Octets :=
  let r := ((ecMul 7 g256).getD (0, 0)).1 % n256
  natToOs 32 r ++ natToOs 32 (invMod 7 n256 * ((osToNat (sha256 imageBody) % n256) + r * 5) % n256)

/-- The manifest of that image. -/
def goodManifest : Manifest := { manifest with imageLength := 320, digest := wordOf 256 (sha256 (imageBody ++ imageSign)) }

/-- A device whose staging holds that image. -/
def goodUpdate : State :=
  let h := sha256 (natToOs 32 imageKey.1 ++ natToOs 32 imageKey.2)
  let s : State := { up with start := { up.start with flashSize := 0x8000000, persistOld := 1, shadow := (129, 1) :: (List.range 8).map fun i => (97 + i, wordOf 32 ((h.drop (4 * (7 - i))).take 4)) }, key := { keys := [liveKey 8 1] }, upd := { manifest := some goodManifest, headA := some goodManifest, okA := true, state := .complete } }
  let c := gcmSeal (pieceKey s goodManifest) (pieceIv goodManifest 0) [] (imageBody ++ imageSign ++ List.replicate 3776 0)
  { s with upd := { s.upd with heldA := [(0, osToNat (c.drop 4096))], cipherA := [(0, osToNat (c.take 4096))] } }


theorem met_resetPinsAct :
    (∃ (s : State), s.start.porstLow = true ∧ s.start.aoLow = false) ∧
    (∃ (s : State), s.start.porstLow = true ∧ s.start.pinLow = false) ∧
    (∃ (s : State), startStill s = false ∧ s.key.zeroised = false ∧ s.hlt.frozen = false ∧ s.pair.driving = true) ∧
    (∃ (s : State), s.start.resetting = true ∧ s.start.porstLow = false ∧ s.start.warmLow = false ∧ s.start.holdUntilCool = false ∧
      s.start.fuseLoaded = true) ∧
    (∃ (s : State), s.start.held = true ∧ s.start.porstLow = false ∧ s.start.resetting = false ∧ s.start.holdUntilCool = false ∧
      s.start.fuseLoaded = true) :=
  ⟨⟨State.reset, by decide +kernel, by decide +kernel⟩,
    ⟨{ State.reset with start := { pinLow := false, aoLow := true } }, by decide +kernel, by decide +kernel⟩,
    ⟨up, by decide +kernel, by decide +kernel, by decide +kernel, by decide +kernel⟩,
    ⟨{ up with start := { up.start with resetting := true } }, by decide +kernel, by decide +kernel, by decide +kernel, by decide +kernel,
      by decide +kernel⟩,
    ⟨{ up with start := { up.start with held := true } }, by decide +kernel, by decide +kernel, by decide +kernel, by decide +kernel,
      by decide +kernel⟩⟩

theorem met_startPhases :
    (∃ (s : State), startStill s = false ∧ s.start.phase = .p0 ∧ s.start.straps = false) ∧
    (∃ (s : State), startStill s = false ∧ s.start.phase = .p1 ∧ s.straits = []) ∧
    (∃ (s : State), startStill s = false ∧ s.start.phase = .p1) ∧
    (∃ (root : BitVec 256) (a : ImageHdr) (b : ImageHdr) (s : State), startStill s = false ∧ s.start.phase = .p2 ∧ s.islandUp 5 = true ∧
      pufCheck root = fuseWord s 96 ∧ (fuseWord s 129).toNat % 16 ≠ 0 ∧ s.start.bootSel = 0 ∧ s.straits = [] ∧ magicOk a = true ∧
      magicOk b = true) ∧
    (∃ (root : BitVec 256) (s : State), startStill s = false ∧ s.start.phase = .p2 ∧ s.islandUp 5 = true ∧ pufCheck root ≠ fuseWord s 96) ∧
    (∃ (keyOk : Bool) (sigOk : Bool) (err : Option Nat) (size : Nat) (oldest : Nat) (h : ImageHdr) (c : Word) (a : Word) (s : State),
      startStill s = false ∧ s.start.phase = .p3 ∧ s.islandUp 3 = true ∧ s.start.kept = false ∧ slotRead s s.start.slot = .read h c a ∧
      imageCheck s h c a keyOk sigOk err size (max oldest s.flash.reclaimed) = none) ∧
    (∃ (keyOk : Bool) (sigOk : Bool) (err : Option Nat) (size : Nat) (oldest : Nat) (code : Nat) (h : ImageHdr) (c : Word) (a : Word) (b :
      Bool) (s : State), startStill s = false ∧ s.start.phase = .p3 ∧ s.islandUp 3 = true ∧ s.start.second = some b ∧ slotRead s
      s.start.slot = .read h c a ∧ imageCheck s h c a keyOk sigOk err size (max oldest s.flash.reclaimed) = some code) ∧
    (∃ (okA : Bool) (okB : Bool) (s : State), startStill s = false ∧ s.start.phase = .p4 ∧ s.start.kept = false ∧ s.islandUp 6 = true ∧
      earlyCount s ≤ s.start.record ∧ s.start.waiting = none ∧ (okA || okB) = true) ∧
    (∃ (s : State), startStill s = false ∧ s.start.phase = .p4 ∧ s.start.kept = false ∧ s.islandUp 6 = true ∧ earlyCount s ≤ s.start.record
      ∧ s.start.waiting = none) :=
  ⟨⟨{ starting .p0 with start := { (starting .p0).start with straps := false } }, by decide +kernel, by decide +kernel, by decide +kernel⟩,
    ⟨starting .p1, by decide +kernel, by decide +kernel, by decide +kernel⟩,
    ⟨starting .p1, by decide +kernel, by decide +kernel⟩,
    ⟨5, imageHdr, { imageHdr with generation := 6 },
      { starting .p2 with start := { (starting .p2).start with shadow := [(96, pufCheck 5), (129, 1)] } }, by decide +kernel,
      by decide +kernel, by decide +kernel, by decide +kernel, by decide +kernel, by decide +kernel, by decide +kernel,
      by decide +kernel, by decide +kernel⟩,
    ⟨5, starting .p2, by decide +kernel, by decide +kernel, by decide +kernel, by decide +kernel⟩,
    ⟨true, true, none, 0x8000000, 1, imageHdr, 0, 0,
      { starting .p3 with start := { (starting .p3).start with slotA := .read imageHdr 0 0 } }, by decide +kernel, by decide +kernel,
      by decide +kernel, by decide +kernel, by decide +kernel, by decide +kernel⟩,
    ⟨true, false, none, 0x8000000, 1, 0x13, imageHdr, 0, 0, true,
      { starting .p3 with start := { (starting .p3).start with slotA := .read imageHdr 0 0, second := some true } }, by decide +kernel,
      by decide +kernel, by decide +kernel, by decide +kernel, by decide +kernel, by decide +kernel⟩,
    ⟨true, false, { starting .p4 with start := { (starting .p4).start with record := 1 } }, by decide +kernel, by decide +kernel,
      by decide +kernel, by decide +kernel, by decide +kernel, by decide +kernel, by decide +kernel⟩,
    ⟨{ starting .p4 with start := { (starting .p4).start with record := 1 } }, by decide +kernel, by decide +kernel, by decide +kernel,
      by decide +kernel, by decide +kernel, by decide +kernel⟩⟩

theorem met_imageRecordsAct :
    (∃ (h : RecHdr) (a : Word) (s : State), recordRuns 2 h s = true ∧ writable s a.toNat = true) ∧
    (∃ (h : RecHdr) (target : Nat) (index : Nat) (a : Nat) (p : Nat) (l : List Byte) (s : State), recordRuns 3 h s = true ∧ loadPlace s
      target index a l.length = .inr p) ∧
    (∃ (t : Time) (h : RecHdr) (id : Nat) (size : Nat) (first : Nat) (n : Nat) (l : List Nat) (s : State), recordRuns 4 h s = true ∧
      tableShape id = some (size, n) ∧ first + l.length ≤ n ∧ id ≠ tFwdNode ∧ (tableTaken id (setEntries id first (l.map fun e => e % 2
      ^ (8 * size)) (s.arrive t)) = true)) ∧
    (∃ (h : RecHdr) (a : Word) (s : State), recordRuns 6 h s = true ∧ sectionBlock s a.toNat = true) ∧
    (∃ (t : Time) (h : RecHdr) (a : Word) (m : Word) (v : Word) (op : Nat) (s : State), recordRuns 7 h s = true ∧ sectionBlock s a.toNat =
      true ∧ op ≤ 3 ∧ checkHolds op ((readAs .loader a.toNat (s.arrive t)).1 &&& m) v = some true) ∧
    (∃ (h : RecHdr) (region : Nat) (newO : Nat) (newL : Nat) (oldO : Nat) (oldL : Nat) (g : ImageHdr) (x : Nat × Nat) (s : State),
      recordRuns 8 h s = true ∧ s.start.image = some g ∧ g.layout[region]? = some x ∧ (region = 1 ∨ region = 2 ∨ region = 3) ∧ newO +
      newL ≤ x.2 ∧ (newO + newL ≤ oldO ∨ oldO + oldL ≤ newO)) ∧
    (∃ (h : RecHdr) (s : State), recordRuns 8 { h with type := 8 } s = true ∧ 8 < h.type ∧ h.inside = true ∧ h.sameHash = true ∧ h.optional
      = true) ∧
    (∃ (t : Time) (s : State) (w : Waiting) (b : Bool), startStill s = false ∧ s.start.phase = .p5 ∧ s.start.waiting = some w ∧ startPoll
      (s.arrive t) = s.arrive t ∧ s.start.second = some b) :=
  ⟨⟨recHdr 2, BitVec.ofNat 32 rFwdAge, loading, by decide +kernel, by decide +kernel⟩,
    ⟨recHdr 3, 1, 7, 0x3FFFF, 0x2073FFFF, [5], loading, by decide +kernel, by decide +kernel⟩,
    ⟨0, recHdr 4, 0x0401, 4, 127, 128, [5], loading, by decide +kernel, by decide +kernel, by decide +kernel, by decide +kernel,
      by decide +kernel⟩,
    ⟨recHdr 6, BitVec.ofNat 32 rFwdAge, loading, by decide +kernel, by decide +kernel⟩,
    ⟨0, recHdr 7, BitVec.ofNat 32 rFwdAge, 0, 0, 3, loading, by decide +kernel, by decide +kernel, by decide +kernel, by decide +kernel⟩,
    ⟨recHdr 8, 3, 0, 0x100000, 0x100000, 5, imageHdr, (0x2300000, 0x100000), loading, by decide +kernel, by decide +kernel,
      by decide +kernel, by decide +kernel, by decide +kernel, by decide +kernel⟩,
    ⟨recHdr 9, loading, by decide +kernel, by decide +kernel, by decide +kernel, by decide +kernel, by decide +kernel⟩,
    ⟨0, { loading with start := { loading.start with waiting := some ⟨0, 0, 1, sec 5001⟩, second := some true } }, ⟨0, 0, 1, sec 5001⟩,
      true, by decide +kernel, by decide +kernel, by decide +kernel, by decide +kernel, by decide +kernel⟩⟩

theorem met_startEnds :
    (∃ (t : Time) (e : Nat) (s : State), e < 12 ∧ startPoll (s.arrive t) = s.arrive t ∧ startStill s = false ∧ s.hlt.frozen = false ∧
      (s.engine e).running = true ∧ s.start.phase = .p6 ∧ (engineReady e (s.arrive t)).fld rBootEngineReady 0 12 ≠ 0xFFF) ∧
    (∃ (t : Time) (b : Bool) (s : State), startPoll (s.arrive t) = s.arrive t ∧ startStill s = false ∧ s.start.phase = .p6 ∧ s.start.second
      = some b) ∧
    (∃ (t : Time) (s : State), startPoll (s.arrive t) = s.arrive t ∧ startStill s = false ∧ s.start.phase = .p6 ∧ s.start.second = none) ∧
    (∃ (t : Time) (s : State), startPoll (s.arrive t) = s.arrive t ∧ startStill s = false) ∧
    (∃ (t : Time) (s : State), startPoll (s.arrive t) = s.arrive t ∧ startStill s = false ∧ s.start.phase = .p7 ∧ s.start.linkDone = false) ∧
    (∃ (s : State), s.start.phase = .p8 ∧ s.pair.state = .unpaired ∧ s.start.linkDone = false) ∧
    (∃ (s : State), s.start.phase = .p8 ∧ s.pair.state = .excluded ∧ s.start.linkDone = false) ∧
    (∃ (t : Time) (s : State), startPoll (s.arrive t) = s.arrive t ∧ startStill s = false ∧ releasable s = true ∧ s.start.retained = false
      ∧ pairMode s = false ∧ s.upd.state ≠ .activated ∧ s.start.errA = false ∧ s.start.errB = false) :=
  ⟨⟨0, 11, { starting .p6 with msys := { engines := [(11, { running := true })] } }, by decide +kernel, by decide +kernel,
      by decide +kernel, by decide +kernel, by decide +kernel, by decide +kernel, by decide +kernel⟩,
    ⟨0, true, { starting .p6 with start := { (starting .p6).start with second := some true } }, by decide +kernel, by decide +kernel,
      by decide +kernel, by decide +kernel⟩,
    ⟨0, starting .p6, by decide +kernel, by decide +kernel, by decide +kernel, by decide +kernel⟩,
    ⟨0, starting .p3, by decide +kernel, by decide +kernel⟩,
    ⟨0, starting .p7, by decide +kernel, by decide +kernel, by decide +kernel, by decide +kernel⟩,
    ⟨starting .p8, by decide +kernel, by decide +kernel, by decide +kernel⟩,
    ⟨{ starting .p8 with pair := { state := .excluded } }, by decide +kernel, by decide +kernel, by decide +kernel⟩,
    ⟨0, { starting .p7 with start := { (starting .p7).start with linkDone := true } }, by decide +kernel, by decide +kernel,
      by decide +kernel, by decide +kernel, by decide +kernel, by decide +kernel, by decide +kernel, by decide +kernel⟩⟩

theorem met_clocksAndFuses :
    (∃ (i : Nat) (s : State), 1 ≤ i ∧ i ≤ 7 ∧ s.start.porstLow = false) ∧
    (∃ (k : Nat) (s : State), k < 4 ∧ s.start.sdsLost.getLsbD k = false ∧ s.start.phase ≠ .p9) ∧
    (∃ (k : Nat) (s : State), k < 4 ∧ s.start.sdsLost.getLsbD k = false ∧ s.start.phase = .p9 ∧ s.start.porstLow = false ∧ s.fld rClkCtrl k
      1 = 1) ∧
    (∃ (k : Nat) (s : State), k < 4 ∧ (startStill s = true ∨ s.start.phase = .p9)) ∧
    (∃ (e : Nat) (bit : Nat) (revoke : Bool) (s : State), bit < 64 ∧ s.start.porstLow = false ∧ s.hlt.frozen = false ∧ e < 4 ∧
      s.start.phase = .p9 ∧ s.start.fuseBusy = none ∧ (if revoke then bit < 4 else bit = rollbackCount s)) ∧
    (∃ (bit : Nat) (s : State), bit < 64 ∧ s.start.porstLow = false ∧ s.hlt.frozen = false ∧ s.start.fuseBusy.isSome = true) ∧
    (∃ (w : Nat) (b : Nat) (s : State), s.start.fuseBusy = some (w, b)) ∧
    (∃ (w : Nat) (b : Nat) (s : State), w < 256 ∧ b < 32 ∧ s.start.porstLow = false ∧ s.start.phase = .hold ∧ s.start.zeroising = false ∧
      jtagField s w b = true ∧ (fuseWord s w).getLsbD b = false) ∧
    (∃ (w : Nat) (b : Nat) (s : State), w < 256 ∧ b < 32 ∧ s.start.porstLow = false ∧ s.start.phase ≠ .hold) ∧
    (∃ (s : State), s.start.porstLow = false) ∧
    (∃ (s : State), s.start.zeroising = true) ∧
    (∃ (s : State), s.inService = true ∧ s.start.confirmed = true ∧ s.start.image.isSome = true ∧ s.pair.state = .solo) :=
  ⟨⟨7, up, by decide +kernel, by decide +kernel, by decide +kernel⟩,
    ⟨3, starting .p8, by decide +kernel, by decide +kernel, by decide +kernel⟩,
    ⟨3, { up with regs := [(rClkCtrl, 8)] }, by decide +kernel, by decide +kernel, by decide +kernel, by decide +kernel, by decide +kernel⟩,
    ⟨3, up, by decide +kernel, by decide +kernel⟩,
    ⟨3, 3, true, up, by decide +kernel, by decide +kernel, by decide +kernel, by decide +kernel, by decide +kernel, by decide +kernel,
      by decide +kernel⟩,
    ⟨63, { up with start := { up.start with fuseBusy := some (129, 7) } }, by decide +kernel, by decide +kernel, by decide +kernel,
      by decide +kernel⟩,
    ⟨129, 7, { up with start := { up.start with fuseBusy := some (129, 7) } }, by decide +kernel⟩,
    ⟨129, 7, starting .hold, by decide +kernel, by decide +kernel, by decide +kernel, by decide +kernel, by decide +kernel,
      by decide +kernel, by decide +kernel⟩,
    ⟨255, 31, up, by decide +kernel, by decide +kernel, by decide +kernel, by decide +kernel⟩,
    ⟨up, by decide +kernel⟩,
    ⟨{ up with start := { up.start with zeroising := true } }, by decide +kernel⟩,
    ⟨{ up with start := { up.start with image := some imageHdr, confirmed := true } }, by decide +kernel, by decide +kernel,
      by decide +kernel, by decide +kernel⟩⟩

theorem met_fronthaulLine :
    (∃ (t : Time) (p : Nat) (s : State), p < 32 ∧ s.portRuns p = true ∧ (s.port p).state = .down ∧ s.clamp p = {} ∧ (s.port p).retryAt ≤
      (s.arrive t).clock.now ∧ (s.hlt.jigPort.any fun x => x.2 == p) = false) ∧
    (∃ (p : Nat) (l : List (BitVec 2)) (s : State), p < 32 ∧ s.portRuns p = true ∧ (s.port p).state = .blockLock ∧ (s.port p).blockLock =
      false ∧ (s.port p).hdrRun + l.length = 64 ∧ (∀ h ∈ l, syncValid h = true) ∧ l ≠ [] ∧ (s.clamp p).waiting = []) ∧
    (∃ (p : Nat) (h : BitVec 2) (s : State), p < 32 ∧ s.portRuns p = true ∧ (s.port p).blockLock = false ∧ syncValid h = false) ∧
    (∃ (p : Nat) (l : List (BitVec 2)) (s : State), p < 32 ∧ s.portRuns p = true ∧ (s.port p).state = .up ∧ (s.port p).blockLock = true ∧
      (s.port p).hdrBad + l.length = 16 ∧ (s.port p).hdrSeen + l.length ≤ 64 ∧ (∀ h ∈ l, syncValid h = false) ∧ l ≠ []) ∧
    (∃ (p : Nat) (l : List (BitVec 2)) (s : State), p < 32 ∧ s.portRuns p = true ∧ (s.port p).state ≠ .up ∧ (s.port p).blockLock = true ∧
      (s.port p).hdrBad + l.length = 16 ∧ (s.port p).hdrSeen + l.length ≤ 64 ∧ (∀ h ∈ l, syncValid h = false) ∧ l ≠ []) ∧
    (∃ (t : Time) (p : Nat) (s : State), p < 32 ∧ (s.port p).state = .blockLock ∧ (s.port p).since + ms 10 ≤ (s.arrive t).clock.now) ∧
    (∃ (p : Nat) (w : BitVec 64) (s : State), p < 32 ∧ s.portRuns p = true ∧ (s.port p).blockLock = true ∧ cbGood true w = true ∧ cbField w
      50 4 % 2 = 0 ∧ (s.port p).state ≠ .frameLock) ∧
    (∃ (p : Nat) (w : BitVec 64) (s : State), p < 32 ∧ s.portRuns p = true ∧ (s.port p).blockLock = true ∧ cbGood true w = true ∧ cbField w
      50 4 % 2 = 0 ∧ (s.port p).state = .frameLock ∧ 3 ≤ (s.port p).goodRun ∧ cbField w 56 8 = 0x5A) ∧
    (∃ (p : Nat) (w : BitVec 64) (s : State), p < 32 ∧ s.portRuns p = true ∧ (s.port p).blockLock = true ∧ (s.port p).frameLock = true ∧
      w.truncate 8 ≠ crc8 w ∧ (s.port p).badRun < 3) ∧
    (∃ (t : Time) (p : Nat) (s : State), p < 32 ∧ (s.port p).state = .recover ∧ (s.port p).since + sec 1 ≤ (s.arrive t).clock.now) ∧
    (∃ (t : Time) (p : Nat) (s : State), p < 32 ∧ (s.port p).state = .fault ∧ (s.port p).since + sec 1 ≤ (s.arrive t).clock.now) ∧
    (∃ (p : Nat) (s : State), p < 32 ∧ (s.port p).state = .up) :=
  ⟨⟨0, 31, portAs {}, by decide +kernel, by decide +kernel, by decide +kernel, by decide +kernel, by decide +kernel, by decide +kernel⟩,
    ⟨31, List.replicate 4 1, { portAs { state := .blockLock, hdrRun := 60 } with hlt := { clamps := [(31, { holder := 3 })] } },
      by decide +kernel, by decide +kernel, by decide +kernel, by decide +kernel, by decide +kernel, by decide +kernel,
      by decide +kernel, by decide +kernel⟩,
    ⟨31, 3, portAs { state := .blockLock, hdrRun := 60 }, by decide +kernel, by decide +kernel, by decide +kernel, by decide +kernel⟩,
    ⟨31, List.replicate 6 3, portAs { state := .up, blockLock := true, hdrBad := 10, hdrSeen := 58 }, by decide +kernel, by decide +kernel,
      by decide +kernel, by decide +kernel, by decide +kernel, by decide +kernel, by decide +kernel, by decide +kernel⟩,
    ⟨31, List.replicate 6 0, portAs { state := .delay, blockLock := true, hdrBad := 10, hdrSeen := 58 }, by decide +kernel,
      by decide +kernel, by decide +kernel, by decide +kernel, by decide +kernel, by decide +kernel, by decide +kernel,
      by decide +kernel⟩,
    ⟨0, 31, portAs { state := .blockLock }, by decide +kernel, by decide +kernel, by decide +kernel⟩,
    ⟨31, controlBlock 0x5A false 0 0 0, portAs { state := .up, blockLock := true }, by decide +kernel, by decide +kernel,
      by decide +kernel, by decide +kernel, by decide +kernel, by decide +kernel⟩,
    ⟨31, controlBlock 0x5A false 0 0 0, portAs { state := .frameLock, blockLock := true, goodRun := 3 }, by decide +kernel,
      by decide +kernel, by decide +kernel, by decide +kernel, by decide +kernel, by decide +kernel, by decide +kernel,
      by decide +kernel⟩,
    ⟨31, 1, portAs { state := .up, blockLock := true, frameLock := true, badRun := 2 }, by decide +kernel, by decide +kernel,
      by decide +kernel, by decide +kernel, by decide +kernel, by decide +kernel⟩,
    ⟨0, 31, portAs { state := .recover }, by decide +kernel, by decide +kernel, by decide +kernel⟩,
    ⟨0, 31, portAs { state := .fault }, by decide +kernel, by decide +kernel, by decide +kernel⟩,
    ⟨31, portAs { state := .up }, by decide +kernel, by decide +kernel⟩⟩

theorem met_fronthaulTraffic :
    (∃ (t : Time) (p : Nat) (rx : Time) (s : State), p < 32 ∧ s.portRuns p = true ∧ (s.port p).frameLock = true ∧ (s.port p).state = .time
      ∧ (s.port p).timeMode = .loaded ∧ (s.port p).timeSeen = true ∧ headTimeOk (s.arrive t) p rx = true) ∧
    (∃ (p : Nat) (s : State), p < 32 ∧ s.portRuns p = true ∧ (s.port p).state ≠ .down ∧ (s.port p).state ≠ .fault ∧ s.hlt.frozen = false) ∧
    (∃ (p : Nat) (s : State), p < 32 ∧ s.hlt.frozen = true ∧ s.fldAt rFhPortCtrl p 0 1 = 1 ∧ s.start.islands.getLsbD 1 = true ∧ (s.port
      p).state ≠ .down ∧ (s.port p).state ≠ .fault) ∧
    (∃ (t : Time) (p : Nat) (s : State), p < 32 ∧ (s.port p).state = .time ∧ (s.port p).since + ms 10 ≤ (s.arrive t).clock.now) ∧
    (∃ (p : Nat) (hdr : Word) (c : MbxCmd) (s : State), p < 32 ∧ s.sampleUp = true ∧ (s.port p).mbx = some c ∧ c.op = 3 ∧ (s.port p).mbxIn
      = [hdr] ∧ hdr.toNat / 2 ^ 24 = 3 ∧ hdr.toNat / 2 ^ 16 % 256 = c.seq) ∧
    (∃ (t : Time) (p : Nat) (c : MbxCmd) (x : Time) (s : State), p < 32 ∧ s.sampleUp = true ∧ (s.port p).mbx = some c ∧ c.sentAt = some x ∧
      x + ms 1 ≤ (s.arrive t).clock.now ∧ (s.port p).state ≠ .up) ∧
    (∃ (p : Nat) (loop : BitVec 2) (s : State), p < 32 ∧ s.sampleUp = true ∧ loop ≠ 0 ∧ (s.clamp p).holder = 1 ∧ s.fldAt rFhPortCtrl p 0 1
      = 1) ∧
    (∃ (p : Nat) (loop : BitVec 2) (s : State), p < 32 ∧ s.sampleUp = true ∧ loop ≠ 0 ∧ (s.clamp p).holder ≠ 1) ∧
    (∃ (p : Nat) (s : State), p < 32 ∧ s.sampleUp = true ∧ (s.port p).state = .loop) ∧
    (∃ (p : Nat) (s : State), p < 4 ∧ s.sampleUp = true) ∧
    (∃ (p : Nat) (loop : BitVec 2) (s : State), p < 4 ∧ s.sampleUp = true ∧ loop ≠ 0 ∧ (s.clamp (32 + p)).holder ≠ 1) ∧
    (∃ (d : Nat) (st : Nat) (p : Nat) (e : Word) (a : List Byte) (s : State), s.argsOf d 5 = some a ∧ s.sampleUp = true ∧ s.pool = [] ∧
      octetAt a 0 = st ∧ st < 128 ∧ BitVec.ofNat 32 (beAt a 4 4) = e ∧ entryPort e.toNat = some p ∧ (s.port p).state = .up) :=
  ⟨⟨0, 31, 0, portAs { state := .time, timeMode := .loaded, frameLock := true, counts := [(1, 0), (3, 0)] }, by decide +kernel,
      by decide +kernel, by decide +kernel, by decide +kernel, by decide +kernel, by decide +kernel, by decide +kernel⟩,
    ⟨31, portAs { state := .up }, by decide +kernel, by decide +kernel, by decide +kernel, by decide +kernel, by decide +kernel⟩,
    ⟨31, { portAs { state := .up } with hlt := { frozen := true } }, by decide +kernel, by decide +kernel, by decide +kernel,
      by decide +kernel, by decide +kernel, by decide +kernel⟩,
    ⟨0, 31, portAs { state := .time }, by decide +kernel, by decide +kernel, by decide +kernel⟩,
    ⟨31, 0x03050000, ⟨3, 5, 0, [], 0, none⟩, portAs { state := .map, mbx := some ⟨3, 5, 0, [], 0, none⟩, mbxIn := [0x03050000] },
      by decide +kernel, by decide +kernel, by decide +kernel, by decide +kernel, by decide +kernel, by decide +kernel,
      by decide +kernel⟩,
    ⟨0, 31, ⟨3, 5, 0, [], 0, some (sec 4999)⟩, sec 4999, portAs { state := .map, mbx := some ⟨3, 5, 0, [], 0, some (sec 4999)⟩ },
      by decide +kernel, by decide +kernel, by decide +kernel, by decide +kernel, by decide +kernel, by decide +kernel⟩,
    ⟨31, 3, { portAs {} with hlt := { clamps := [(31, { holder := 1 })] } }, by decide +kernel, by decide +kernel, by decide +kernel,
      by decide +kernel, by decide +kernel⟩,
    ⟨31, 3, up, by decide +kernel, by decide +kernel, by decide +kernel, by decide +kernel⟩,
    ⟨31, portAs { state := .loop }, by decide +kernel, by decide +kernel, by decide +kernel⟩,
    ⟨3, up, by decide +kernel, by decide +kernel⟩,
    ⟨3, 3, up, by decide +kernel, by decide +kernel, by decide +kernel, by decide +kernel⟩,
    ⟨1, 127, 31, 0x9F000000#32, [127, 0, 0, 0, 0x9F, 0, 0, 0],
      { soloDoing 5 [127, 0, 0, 0, 0x9F, 0, 0, 0] with fh := [(31, { state := .up })] }, by decide +kernel, by decide +kernel,
      by decide +kernel, by decide +kernel, by decide +kernel, by decide +kernel, by decide +kernel, by decide +kernel⟩⟩

theorem met_channeliserAndSearch :
    (∃ (t : Time) (h : Nat) (s : State), h < 36 ∧ s.sampleUp = true ∧ calWantsChange h s = true ∧ s.chn.changes = [] ∧ (validStreams s
      h).length ≤ (freeUnits (s.arrive t)).length ∧ s.hlt.test = none) ∧
    (∃ (t : Time) (h : Nat) (s : State), h < 36 ∧ s.sampleUp = true ∧ calWantsChange h s = true ∧ s.chn.changes = [] ∧ (freeUnits (s.arrive
      t)).length < (validStreams s h).length) ∧
    (∃ (t : Time) (h : Nat) (k : Nat) (g : Nat) (look : Nat) (a : Time) (ask : Time) (s : State), h < 36 ∧ changeOf s h = some ⟨k, g, some
      a, look, false, ask⟩ ∧ a ≤ (s.arrive t).clock.now + samples (1536 + look) ∧ s.sampleUp = true) ∧
    (∃ (t : Time) (h : Nat) (k : Nat) (g : Nat) (look : Nat) (a : Time) (ask : Time) (s : State), h < 36 ∧ changeOf s h = some ⟨k, g, some
      a, look, true, ask⟩ ∧ a ≤ (s.arrive t).clock.now ∧ s.sampleUp = true) ∧
    (∃ (t : Time) (n : Nat) (st : Nat) (g : Nat) (since : Time) (s : State), n < 144 ∧ s.unit n = .retiring st g since ∧ since + sec 6 ≤
      (s.arrive t).clock.now ∧ s.sampleUp = true ∧ s.chn.changes = [] ∧ (s.lane.lanes.filter fun x => laneOn st g x.2 && (laneReads
      x.2.state || x.2.state == .exporting)) = []) ∧
    (∃ (t : Time) (st : Nat) (b : Nat) (s : State), st < 128 ∧ b < 128 ∧ s.sampleUp = true ∧ binsValid (s.arrive t) st = true ∧ (sget
      floorReset s.det.floors (st * 128 + b)).2 + us 819200 ≤ (s.arrive t).clock.now) ∧
    (∃ (t : Time) (st : Nat) (b : Nat) (p : Nat) (s : State), st < 128 ∧ b < 128 ∧ s.sampleUp = true ∧ binsValid (s.arrive t) st = true ∧
      s.tail st + 50000 ≤ (s.arrive t).clock.now ∧ (floorSample (sget floorReset s.det.floors (st * 128 + b)).1 p).2 = true) ∧
    (∃ (t : Time) (h : Hypothesis) (d : Detection) (s : State), h.stream < 128 ∧ h.bin < 128 ∧ h.slot < 12 ∧ s.sampleUp = true ∧ d =
      detectionOf (s.arrive t) h ∧ binsValid (s.arrive t) h.stream = true ∧ slotOn s h.stream h.slot = true ∧ sliceWorks s h.stream =
      true ∧ h.freq.natAbs ≤ 80000 + 1000 * window s h.slot ∧ threshold s h.slot ≤ d.metric) ∧
    (∃ (t : Time) (st : Nat) (w : MergeWin) (s : State), st < 128 ∧ (s.det.windows.find? (fun w => w.best.stream == st) = some w) ∧ w.since
      + 98 ≤ (s.arrive t).clock.now ∧ s.sampleUp = true ∧ s.det.fifo.length < 1024) ∧
    (∃ (t : Time) (st : Nat) (w : MergeWin) (s : State), st < 128 ∧ (s.det.windows.find? (fun w => w.best.stream == st) = some w) ∧ w.since
      + 98 ≤ (s.arrive t).clock.now ∧ s.sampleUp = true ∧ 1024 ≤ s.det.fifo.length ∧ spareWarming s (st / 4) = false) ∧
    (∃ (t : Time) (st : Nat) (i : Nat) (m : Mask) (s : State), st < 128 ∧ (s.det.masks.filter fun m => m.det.stream == st)[i]? = some m ∧
      s.sampleUp = true ∧ m.last + 4 * segPeriod (slotMode s m.det.slot) ≤ (s.arrive t).clock.now) ∧
    (∃ (st : Nat) (i : Nat) (n : Nat) (m : Mask) (s : State), st < 128 ∧ (s.det.masks.filter fun m => m.det.stream == st)[i]? = some m ∧
      s.sampleUp = true ∧ threshold s m.det.slot ≤ n + 12) ∧
    (∃ (t : Time) (j : JigTest) (s : State), s.hlt.test = some j ∧ j.kind = 1 ∧ s.sampleUp = true ∧ j.due ≤ (s.arrive t).clock.now) :=
  ⟨⟨0, 35, { up with cal := { heads := [(35, { pending := true })] } }, by decide +kernel, by decide +kernel, by decide +kernel,
      by decide +kernel, by decide +kernel, by decide +kernel⟩,
    ⟨0, 35,
      { up with cal := { heads := [(35, { pending := true })] }, chn := { units := (List.range 144).map fun n => (n, .failed), valid := [1] }, tables := [(tFhPool * 2 ^ 32 + 1, 0xA3000000)] },
      by decide +kernel, by decide +kernel, by decide +kernel, by decide +kernel, by decide +kernel⟩,
    ⟨0, 35, 35, 1, 5, sec 5000, 0, { up with chn := { changes := [⟨35, 1, some (sec 5000), 5, false, 0⟩] } }, by decide +kernel,
      by decide +kernel, by decide +kernel, by decide +kernel⟩,
    ⟨0, 35, 35, 1, 5, sec 5000, 0, { up with chn := { changes := [⟨35, 1, some (sec 5000), 5, true, 0⟩] } }, by decide +kernel,
      by decide +kernel, by decide +kernel, by decide +kernel⟩,
    ⟨0, 143, 4, 1, 0, { up with chn := { units := [(143, .retiring 4 1 0)] } }, by decide +kernel, by decide +kernel, by decide +kernel,
      by decide +kernel, by decide +kernel, by decide +kernel⟩,
    ⟨0, 127, 127, { up with chn := { valid := [127] } }, by decide +kernel, by decide +kernel, by decide +kernel, by decide +kernel,
      by decide +kernel⟩,
    ⟨0, 127, 127, 9, { up with chn := { valid := [127] }, det := { floors := [(127 * 128 + 127, 500000, sec 4999)] } }, by decide +kernel,
      by decide +kernel, by decide +kernel, by decide +kernel, by decide +kernel, by decide +kernel⟩,
    ⟨0, ⟨127, 127, 11, 2 ^ 50, 0, 0, sec 5000⟩, detectionOf
      ({ up with chn := { valid := [127] }, regs := [(rDetSlotCtrl + 11 * 0x400, 1), (rDetStreamMask + 127 * 0x400, 0x800)] }.arrive 0)
      ⟨127, 127, 11, 2 ^ 50, 0, 0, sec 5000⟩,
      { up with chn := { valid := [127] }, regs := [(rDetSlotCtrl + 11 * 0x400, 1), (rDetStreamMask + 127 * 0x400, 0x800)] },
      by decide +kernel, by decide +kernel, by decide +kernel, by decide +kernel, by decide +kernel, by decide +kernel,
      by decide +kernel, by decide +kernel, by decide +kernel, by decide +kernel⟩,
    ⟨0, 127, ⟨record127.det, 2, 0, false, false, 0⟩, { up with det := { windows := [⟨record127.det, 2, 0, false, false, 0⟩] } },
      by decide +kernel, by decide +kernel, by decide +kernel, by decide +kernel, by decide +kernel⟩,
    ⟨0, 127, ⟨record127.det, 2, 0, false, false, 0⟩,
      { up with det := { windows := [⟨record127.det, 2, 0, false, false, 0⟩], fifo := List.replicate 1024 record127 } },
      by decide +kernel, by decide +kernel, by decide +kernel, by decide +kernel, by decide +kernel, by decide +kernel⟩,
    ⟨0, 127, 0, ⟨record127.det, 3, 0⟩, { up with det := { masks := [⟨record127.det, 3, 0⟩] } }, by decide +kernel, by decide +kernel,
      by decide +kernel, by decide +kernel⟩,
    ⟨127, 0, 4095, ⟨record127.det, 3, 0⟩, { up with det := { masks := [⟨record127.det, 3, 0⟩] } }, by decide +kernel, by decide +kernel,
      by decide +kernel, by decide +kernel⟩,
    ⟨0, ⟨1, 0, 0, false, 1, none, none, 0⟩, { up with hlt := { test := some ⟨1, 0, 0, false, 1, none, none, 0⟩ } }, by decide +kernel,
      by decide +kernel, by decide +kernel, by decide +kernel⟩⟩

theorem met_lanesDecode :
    (∃ (r : DetRecord) (rest : List DetRecord) (l : Nat) (s : State), s.det.fifo = r :: rest ∧ s.sampleUp = true ∧ freeLane s = some l ∧
      s.lane.lanes = [] ∧ s.lane.groups = []) ∧
    (∃ (l : Nat) (s : State), l < 4096 ∧ (s.laneAt l).state = .lookback ∧ s.sampleUp = true) ∧
    (∃ (l : Nat) (w : Word) (pos : Time) (r : DetRecord) (x : Group) (s : State), l < 4096 ∧ (s.laneAt l).state = .preamble ∧ s.sampleUp =
      true ∧ s.groupOf (s.laneAt l).group = some x ∧ x.members = [l] ∧ (s.laneAt l).record = some r ∧ syncOk (formatOf r.mode)
      (Config.sfdValues (sfdMode s r.det.stream r.mode)) w ((pos : Int) - syncPredicted r) = true) ∧
    (∃ (l : Nat) (w : Word) (r : DetRecord) (v : Nat) (s : State), l < 4096 ∧ (s.laneAt l).record = some r ∧ formatOf r.mode = .deep v ∧ 3
      < bitErrors w deepSyncWord 32) ∧
    (∃ (l : Nat) (below : Nat) (x : Group) (s : State), l < 4096 ∧ 4 ≤ below ∧ (s.laneAt l).state = .preamble ∧ s.sampleUp = true ∧
      (s.laneAt l).context = none ∧ s.lane.contexts = [] ∧ s.groupOf (s.laneAt l).group = some x ∧ x.passed = false) ∧
    (∃ (g : Nat) (l : Nat) (w : Word) (hcs : Bool) (x : Group) (s : State), g < 4096 ∧ s.groupOf g = some x ∧ x.passed = false ∧ x.members
      = [l] ∧ s.sampleUp = true ∧ (s.laneAt l).state = .header ∧ headerResult (formatOf (s.laneAt l).mode) w hcs = .pass) ∧
    (∃ (g : Nat) (l : Nat) (w : Word) (hcs : Bool) (x : Group) (s : State), g < 4096 ∧ s.groupOf g = some x ∧ headerResult (formatOf
      (s.laneAt l).mode) w hcs ≠ .pass ∧ x.passed = false ∧ x.members = [l] ∧ s.sampleUp = true ∧ (s.laneAt l).state = .header ∧
      (s.laneAt l).group = g ∧ (s.laneAt l).context = none ∧ s.lane.contexts = []) ∧
    (∃ (l : Nat) (x : Group) (s : State), l < 4096 ∧ (s.laneAt l).state = .payload ∧ s.sampleUp = true ∧ s.groupOf (s.laneAt l).group =
      some x ∧ leadOf s x = l ∧ x.lookup = none) ∧
    (∃ (t : Time) (l : Nat) (e : Time) (x : Group) (s : State), l < 4096 ∧ (s.laneAt l).state = .payload ∧ s.sampleUp = true ∧ (s.laneAt
      l).context = none ∧ s.lane.contexts = [] ∧ s.groupOf (s.laneAt l).group = some x ∧ x.members = [l] ∧ x.version = true ∧
      x.reported = false ∧ x.late = false ∧ e + rxPipe (s.laneAt l).mode ≤ (s.arrive t).clock.now) ∧
    (∃ (t : Time) (l : Nat) (e : Time) (x : Group) (s : State), l < 4096 ∧ (s.laneAt l).state = .payload ∧ s.sampleUp = true ∧ (s.laneAt
      l).context = none ∧ s.lane.contexts = [] ∧ s.groupOf (s.laneAt l).group = some x ∧ x.members = [l] ∧ x.passed = true ∧ x.reported
      = false ∧ e + rxPipe (s.laneAt l).mode ≤ (s.arrive t).clock.now) ∧
    (∃ (k : Nat) (l : Nat) (c : Context) (s : State), k < 256 ∧ l < 4096 ∧ afind s.lane.contexts k = some c ∧ c.stronger = [(l, .good)] ∧
      s.sampleUp = true ∧ (s.laneAt c.owner).state = .waitCancel ∧ (s.laneAt c.owner).context = some k ∧ reruns s < 16) ∧
    (∃ (l : Nat) (x : Group) (s : State), l < 4096 ∧ (s.laneAt l).state = .rerun ∧ s.sampleUp = true ∧ (s.laneAt l).context = none ∧
      s.lane.contexts = [] ∧ s.lane.waiting = [] ∧ s.groupOf (s.laneAt l).group = some x ∧ x.members = [l] ∧ x.reported = false ∧
      x.version = true ∧ (s.laneAt l).rerunDone = false) ∧
    (∃ (t : Time) (k : Nat) (c : Context) (s : State), k < 256 ∧ afind s.lane.contexts k = some c ∧ s.sampleUp = true ∧ spillLimit s ≤
      spilled (s.arrive t) c) ∧
    (∃ (t : Time) (l : Nat) (x : Group) (s : State), l < 4096 ∧ laneReads (s.laneAt l).state = true ∧ s.sampleUp = true ∧ (s.laneAt
      l).context = none ∧ s.lane.contexts = [] ∧ s.groupOf (s.laneAt l).group = some x ∧ x.members = [l] ∧ x.passed = false ∧
      x.reported = false ∧ inputValid (s.arrive t) (s.laneAt l).det.stream = false) ∧
    (∃ (l : Nat) (x : Group) (s : State), l < 4096 ∧ (s.laneAt l).state = .exporting ∧ s.sampleUp = true ∧ s.groupOf (s.laneAt l).group =
      some x ∧ x.reported = true ∧ s.fld rLaneCtrl 31 1 = 0) ∧
    (∃ (t : Time) (l : Nat) (n : Nat) (b : SnippetBody) (ws : List Word) (x : Group) (s : State), l < 4096 ∧ (s.laneAt l).state =
      .exporting ∧ s.sampleUp = true ∧ s.groupOf (s.laneAt l).group = some x ∧ x.reported = true ∧ s.fld rLaneCtrl 31 1 = 1 ∧ ws =
      snippetWords (s.arrive t) l b ∧ n = 4 * ws.length) :=
  ⟨⟨record127, [], 0, { up with det := { fifo := [record127] } }, by decide +kernel, by decide +kernel, by decide +kernel,
      by decide +kernel, by decide +kernel⟩,
    ⟨4095, laneAs .lookback alone, by decide +kernel, by decide +kernel, by decide +kernel⟩,
    ⟨4095, deepSyncWord, (syncPredicted { record127 with mode := 10 }), { record127 with mode := 10 }, alone,
      { laneAs .preamble alone with lane := { lanes := [(4095, { state := .preamble, group := 9, record := some { record127 with mode := 10 } })], groups := [(9, alone)] } },
      by decide +kernel, by decide +kernel, by decide +kernel, by decide +kernel, by decide +kernel, by decide +kernel,
      by decide +kernel⟩,
    ⟨4095, 0, { record127 with mode := 10 }, 0,
      { laneAs .preamble alone with lane := { lanes := [(4095, { state := .preamble, group := 9, record := some { record127 with mode := 10 } })], groups := [(9, alone)] } },
      by decide +kernel, by decide +kernel, by decide +kernel, by decide +kernel⟩,
    ⟨4095, 4, alone, laneAs .preamble alone, by decide +kernel, by decide +kernel, by decide +kernel, by decide +kernel, by decide +kernel,
      by decide +kernel, by decide +kernel, by decide +kernel⟩,
    ⟨9, 4095, 20, true, alone, laneAs .header alone, by decide +kernel, by decide +kernel, by decide +kernel, by decide +kernel,
      by decide +kernel, by decide +kernel, by decide +kernel⟩,
    ⟨9, 4095, 0x8014, true, alone, laneAs .header alone, by decide +kernel, by decide +kernel, by decide +kernel, by decide +kernel,
      by decide +kernel, by decide +kernel, by decide +kernel, by decide +kernel, by decide +kernel, by decide +kernel⟩,
    ⟨4095, alone, laneAs .payload alone, by decide +kernel, by decide +kernel, by decide +kernel, by decide +kernel, by decide +kernel,
      by decide +kernel⟩,
    ⟨0, 4095, sec 4999, alone, laneAs .payload alone, by decide +kernel, by decide +kernel, by decide +kernel, by decide +kernel,
      by decide +kernel, by decide +kernel, by decide +kernel, by decide +kernel, by decide +kernel, by decide +kernel,
      by decide +kernel⟩,
    ⟨0, 4095, sec 4999, { alone with passed := true }, laneAs .payload { alone with passed := true }, by decide +kernel, by decide +kernel,
      by decide +kernel, by decide +kernel, by decide +kernel, by decide +kernel, by decide +kernel, by decide +kernel,
      by decide +kernel, by decide +kernel⟩,
    ⟨255, 4095, ⟨3, [(4095, .good)], 0, none⟩,
      { up with lane := { lanes := [(3, { state := .waitCancel, context := some 255 })], contexts := [(255, ⟨3, [(4095, .good)], 0, none⟩)] } },
      by decide +kernel, by decide +kernel, by decide +kernel, by decide +kernel, by decide +kernel, by decide +kernel,
      by decide +kernel, by decide +kernel⟩,
    ⟨4095, alone, laneAs .rerun alone, by decide +kernel, by decide +kernel, by decide +kernel, by decide +kernel, by decide +kernel,
      by decide +kernel, by decide +kernel, by decide +kernel, by decide +kernel, by decide +kernel, by decide +kernel⟩,
    ⟨0, 255, ⟨3, [(4095, .good)], 0, none⟩,
      { up with lane := { lanes := [(3, { state := .waitCancel, context := some 255 })], contexts := [(255, ⟨3, [(4095, .good)], 0, none⟩)] } },
      by decide +kernel, by decide +kernel, by decide +kernel, by decide +kernel⟩,
    ⟨0, 4095, alone, laneAs .payload alone, by decide +kernel, by decide +kernel, by decide +kernel, by decide +kernel, by decide +kernel,
      by decide +kernel, by decide +kernel, by decide +kernel, by decide +kernel, by decide +kernel⟩,
    ⟨4095, { alone with reported := true }, { laneAs .exporting { alone with reported := true } with regs := [(rLaneCtrl, 0)] },
      by decide +kernel, by decide +kernel, by decide +kernel, by decide +kernel, by decide +kernel, by decide +kernel⟩,
    ⟨0, 4095, 4 * (snippetWords (laneAs .exporting { alone with reported := true }) 4095 ⟨0, 0, 0, 0, 0, [], []⟩).length, ⟨0, 0, 0, 0, 0,
      [], []⟩, snippetWords (laneAs .exporting { alone with reported := true }) 4095 ⟨0, 0, 0, 0, 0, [], []⟩,
      { alone with reported := true }, { laneAs .exporting { alone with reported := true } with regs := [(rLaneCtrl, 0x80000000)] },
      by decide +kernel, by decide +kernel, by decide +kernel, by decide +kernel, by decide +kernel, by decide +kernel,
      by decide +kernel, by decide +kernel⟩⟩

theorem met_slotsAndTransmission :
    (∃ (t : Time) (m : Nat) (s : State), s.slotUp = true ∧ s.sch.started = true ∧ s.slotLen ≠ 0 ∧ s.asnAt (s.arrive t).clock.now = m ∧
      s.sch.slot < m) ∧
    (∃ (t : Time) (k : Nat) (c : SchedChange) (s : State), k < 32 ∧ s.slotUp = true ∧ s.sch.started = true ∧ (slotframeOf s k).valid = true
      ∧ (slotframeOf s k).length ≠ 0 ∧ s.asnAt (s.arrive t).clock.now % (slotframeOf s k).length = 0 ∧ s.sch.changes = [c] ∧
      c.effective ≤ s.asnAt (s.arrive t).clock.now ∧ s.leads = false) ∧
    (∃ (t : Time) (s : State), s.slotUp = true ∧ s.start.phase = .p9 ∧ s.sch.started = false ∧ s.slotLen ≠ 0 ∧ mayStart (s.arrive t)
      (s.asnAt (s.arrive t).clock.now) = true ∧ (s.arrive t).clock.now < s.slotStart (s.asnAt (s.arrive t).clock.now) + ns 1) ∧
    (∃ (t : Time) (s : State), s.slotUp = true ∧ s.start.phase = .p9 ∧ s.sch.started = false ∧ s.pair.state ≠ .standby ∧ s.timer.everLocked
      = false ∧ (s.arrive t).clock.now < s.sch.released + sec 10) ∧
    (∃ (t : Time) (id : Nat) (m : Nat) (b : Nat) (y : BeaconTmpl) (k : Booking) (s : State), afind s.txm.beacons b = some y ∧ rewritten s b
      k = true ∧ streamUsable s k.stream = true ∧ bookingOf s id = some k ∧ k.use = .beacon b ∧ k.ready = true ∧ s.sampleUp = true ∧
      s.holdsToken = true ∧ (s.txm.running.any (fun x => x.2.booking.id == id) = false) ∧ (s.arrive t).clock.now + txPrep ≤ k.leave ∧
      freeModulator s = some m ∧ underTest s 5 m = false) ∧
    (∃ (id : Nat) (b : Nat) (k : Booking) (s : State), rewritten s b k = false ∧ bookingOf s id = some k ∧ k.use = .beacon b ∧ k.id = id ∧
      s.sampleUp = true ∧ s.holdsToken = true ∧ (s.txm.running.any (fun x => x.2.booking.id == id) = false)) ∧
    (∃ (t : Time) (id : Nat) (b : Nat) (k : Booking) (s : State), rewritten s b k = true ∧ bookingOf s id = some k ∧ k.use = .beacon b ∧
      k.id = id ∧ s.sampleUp = true ∧ s.holdsToken = true ∧ (s.txm.running.any (fun x => x.2.booking.id == id) = false) ∧ k.leave <
      (s.arrive t).clock.now + txPrep) ∧
    (∃ (t : Time) (g : Nat) (a : AckTmpl) (k : Booking) (s : State), g < 8192 ∧ afind s.txm.acks g = some a ∧ bookingOf s a.booking = some
      k ∧ a.armed = true ∧ k.ready = true ∧ s.slotUp = true ∧ s.holdsToken = true ∧ a.released = false ∧ s.sampleUp = true ∧ (s.arrive
      t).clock.now + txPrep ≤ k.leave) ∧
    (∃ (t : Time) (g : Nat) (a : AckTmpl) (k : Booking) (s : State), g < 8192 ∧ afind s.txm.acks g = some a ∧ bookingOf s a.booking = some
      k ∧ a.armed = true ∧ k.ready = true ∧ s.slotUp = true ∧ s.holdsToken = true ∧ a.released = false ∧ s.sampleUp = true ∧ k.leave <
      (s.arrive t).clock.now + txPrep) ∧
    (∃ (t : Time) (g : Nat) (m : Nat) (a : AckTmpl) (k : Booking) (e : Entry) (s : State), g < 8192 ∧ afind s.txm.acks g = some a ∧
      bookingOf s a.booking = some k ∧ k.use = .ack g ∧ freeModulator s = some m ∧ underTest s 5 m = false ∧ a.released = true ∧
      s.holdsToken = true ∧ s.sampleUp = true ∧ streamUsable s k.stream = true ∧ k.leave ≤ (s.arrive t).clock.now ∧ s.indexOf a.node =
      none ∧ s.jrn.entries = [e] ∧ e.group = g ∧ e.state = .owed ∧ e.mirrored = false ∧ e.frame = none) ∧
    (∃ (m : Nat) (r : Running) (s : State), m < 256 ∧ afind s.txm.running m = some r ∧ s.sampleUp = true) ∧
    (∃ (b : Nat) (k : Booking) (s : State), b < 64 ∧ s.slotUp = true ∧ s.leads = true ∧ s.upd.manifest = none ∧ nextBeacon s b = some k) :=
  ⟨⟨0, 500000, slotted, by decide +kernel, by decide +kernel, by decide +kernel, by decide +kernel, by decide +kernel⟩,
    ⟨0, 31, ⟨3, 10, [], [], [], none⟩,
      { slotted with tables := [(tSchSlotframe * 2 ^ 32 + 31, 2 ^ 96 + 10 * 2 ^ 80)], sch := { slotted.sch with changes := [⟨3, 10, [], [], [], none⟩] }, pair := standby },
      by decide +kernel, by decide +kernel, by decide +kernel, by decide +kernel, by decide +kernel, by decide +kernel,
      by decide +kernel, by decide +kernel, by decide +kernel⟩,
    ⟨0, { up with regs := [(rSchCtrl, 100)], timer := { everLocked := true } }, by decide +kernel, by decide +kernel, by decide +kernel,
      by decide +kernel, by decide +kernel, by decide +kernel⟩,
    ⟨0, { up with clock := { now := 5, running := true } }, by decide +kernel, by decide +kernel, by decide +kernel, by decide +kernel,
      by decide +kernel, by decide +kernel⟩,
    ⟨0, 7, 0, 63, ⟨0, 500100, [], [5]⟩, { beaconBooking with stream := 2 },
      { up with regs := [(rSchCtrl, 100), (rTxmStreamCtrl + 2 * 0x400, 0x10000)], fh := [(1, { state := .up })], txm := { bookings := [{ beaconBooking with stream := 2 }], beacons := [(63, ⟨0, 500100, [], [5]⟩)] } },
      by decide +kernel, by decide +kernel, by decide +kernel, by decide +kernel, by decide +kernel, by decide +kernel,
      by decide +kernel, by decide +kernel, by decide +kernel, by decide +kernel, by decide +kernel, by decide +kernel⟩,
    ⟨7, 63, beaconBooking, { up with txm := { bookings := [beaconBooking] } }, by decide +kernel, by decide +kernel, by decide +kernel,
      by decide +kernel, by decide +kernel, by decide +kernel, by decide +kernel⟩,
    ⟨0, 7, 63, { beaconBooking with leave := sec 5000 },
      { up with regs := [(rSchCtrl, 100), (rTxmStreamCtrl + 2 * 0x400, 0x10000)], fh := [(1, { state := .up })], txm := { bookings := [{ beaconBooking with leave := sec 5000 }], beacons := [(63, ⟨0, 500100, [], [5]⟩)] } },
      by decide +kernel, by decide +kernel, by decide +kernel, by decide +kernel, by decide +kernel, by decide +kernel,
      by decide +kernel, by decide +kernel⟩,
    ⟨0, 8191, template, ackBooking, { up with txm := { bookings := [ackBooking], acks := [(8191, template)] } }, by decide +kernel,
      by decide +kernel, by decide +kernel, by decide +kernel, by decide +kernel, by decide +kernel, by decide +kernel,
      by decide +kernel, by decide +kernel, by decide +kernel⟩,
    ⟨0, 8191, template, { ackBooking with leave := sec 5000 },
      { up with txm := { bookings := [{ ackBooking with leave := sec 5000 }], acks := [(8191, template)] } }, by decide +kernel,
      by decide +kernel, by decide +kernel, by decide +kernel, by decide +kernel, by decide +kernel, by decide +kernel,
      by decide +kernel, by decide +kernel, by decide +kernel⟩,
    ⟨0, 8191, 0, { template with released := true }, { ackBooking with leave := sec 5000 }, { entry5 .owed with group := 8191 },
      { up with txm := { bookings := [{ ackBooking with leave := sec 5000 }], acks := [(8191, { template with released := true })] }, jrn := { entries := [{ entry5 .owed with group := 8191 }] }, fh := [(1, { state := .up })], regs := [(rTxmStreamCtrl + 2 * 0x400, 0x10000)] },
      by decide +kernel, by decide +kernel, by decide +kernel, by decide +kernel, by decide +kernel, by decide +kernel,
      by decide +kernel, by decide +kernel, by decide +kernel, by decide +kernel, by decide +kernel, by decide +kernel,
      by decide +kernel, by decide +kernel, by decide +kernel, by decide +kernel, by decide +kernel⟩,
    ⟨255, ⟨{ beaconBooking with stream := 71 }, 0, {}⟩,
      { up with txm := { running := [(255, ⟨{ beaconBooking with stream := 71 }, 0, {}⟩)] } }, by decide +kernel, by decide +kernel,
      by decide +kernel⟩,
    ⟨63, beaconBooking, { up with txm := { bookings := [beaconBooking] } }, by decide +kernel, by decide +kernel, by decide +kernel,
      by decide +kernel, by decide +kernel⟩⟩

theorem met_calibrationEstimates :
    (∃ (q : Nat) (i : Nat) (y : QItem) (r : List QItem) (h : SnippetHdr) (x : Snippet) (g : RxSet) (s : State), s.sampleUp = true ∧
      s.packetUp = true ∧ s.fld rLaneCtrl 16 6 = q ∧ consumes s .hardware q = true ∧ (s.quay q).items = y :: r ∧ y.poison = false ∧
      snippetRead y.words = h ∧ h.rerun = false ∧ rxSetOf (s.headCal h.head) h.gen = some g ∧ x.own = false ∧ x.snr < 24 ∧ s.indexOf
      x.node = some i) ∧
    (∃ (q : Nat) (y : QItem) (r : List QItem) (h : SnippetHdr) (s : State), s.sampleUp = true ∧ s.packetUp = true ∧ s.fld rLaneCtrl 16 6 =
      q ∧ consumes s .hardware q = true ∧ (s.quay q).items = y :: r ∧ y.poison = false ∧ snippetRead y.words = h ∧ h.rerun = false ∧
      rxSetOf (s.headCal h.head) h.gen = none) ∧
    (∃ (h : Nat) (b : BlockSums) (s : State), h < 32 ∧ s.sampleUp = true ∧ calEnabled s h = true ∧ b.count ≠ 0) ∧
    (∃ (h : Nat) (st : Nat) (b : BlockSums) (s : State), h < 32 ∧ s.sampleUp = true ∧ b.count = 0 ∧ st < 128 ∧ streamHead s st = some h) ∧
    (∃ (h : Nat) (s : State), h < 36 ∧ s.sampleUp = true ∧ calEnabled s h = true ∧ validStreams s h ≠ []) ∧
    (∃ (t : Time) (h : Nat) (s : State), h < 36 ∧ s.sampleUp = true ∧ s.headUp h = true ∧ rxMoved h (s.headCal h) = true ∧ genDue (s.arrive
      t) (s.headCal h).lastRx = true ∧ (s.headCal h).pending = false) ∧
    (∃ (t : Time) (h : Nat) (s : State), h < 36 ∧ s.sampleUp = true ∧ s.headUp h = true ∧ txMoved (s.headCal h) = true ∧ genDue (s.arrive
      t) (s.headCal h).lastTx = true) ∧
    (∃ (t : Time) (h : Nat) (c : Nat) (cs : List Nat) (s : State), h < 36 ∧ s.sampleUp = true ∧ s.leads = true ∧ s.fldAt rCalHeadCtrl h 3 1
      = 1 ∧ (s.headCal h).sweeping = false ∧ (s.headCal h).sweepAt = none ∧ s.clamp h = {} ∧ sweepChannels s h = c :: cs ∧
      s.sch.started = true ∧ ((List.range 36).any fun j => sweepHears s h j) = true ∧ txRefusal (s.arrive t) (sweepReq (s.arrive t) h
      c) = none) ∧
    (∃ (h : Nat) (s : State), h < 36 ∧ s.sampleUp = true ∧ s.leads = true ∧ s.fldAt rCalHeadCtrl h 3 1 = 1 ∧ (s.headCal h).sweeping = false
      ∧ (s.headCal h).sweepAt = none ∧ s.clamp h = {} ∧ s.sch.started = false) ∧
    (∃ (h : Nat) (j : Nat) (s : State), h < 36 ∧ s.sampleUp = true ∧ (s.headCal h).sweeping = true ∧ s.pair.state = .solo ∧ sweepHears s h
      j = true) ∧
    (∃ (h : Nat) (s : State), h < 36 ∧ s.sampleUp = true ∧ (s.headCal h).sweeping = true) ∧
    (∃ (h : Nat) (c : HeadCal) (i : Word) (s : State), s.sampleUp = true ∧ s.cal.heads = [(h, c)] ∧ headIdOf s h = some i ∧ c.recordAt =
      none ∧ s.flash.calRecords = [] ∧ s.timer.source = 3) ∧
    (∃ (utc : Nat) (r : CalRecord) (s : State), s.cal.restored = false ∧ s.sampleUp = true ∧ s.start.phase = .p9 ∧ s.timer.source = 3 ∧
      s.flash.calRecords = [r] ∧ headIdOf s r.head = some r.headId ∧ r.utc ≠ 0 ∧ utc ≤ r.utc + 604800) ∧
    (∃ (utc : Nat) (r : CalRecord) (s : State), s.cal.restored = false ∧ s.sampleUp = true ∧ s.start.phase = .p9 ∧ s.timer.source = 3 ∧
      s.flash.calRecords = [r] ∧ r.utc + 604800 < utc) :=
  ⟨⟨(up.fld rLaneCtrl 16 6), 5, ⟨[0, 0x2300, 0, 0, 0, 0, 0, 0], 32, false, false⟩, [], snippetRead (⟨[0, 0x2300, 0, 0, 0, 0, 0, 0], 32,
      false, false⟩ : QItem).words, snip, {},
      { homed with msys := { quays := [((up.fld rLaneCtrl 16 6), { items := [⟨[0, 0x2300, 0, 0, 0, 0, 0, 0], 32, false, false⟩] })] }, regs := [(rQuayCfg2 + (up.fld rLaneCtrl 16 6) * 0x400, 0x3E0000)] },
      by decide +kernel, by decide +kernel, by decide +kernel, by decide +kernel, by decide +kernel, by decide +kernel,
      by decide +kernel, by decide +kernel, by decide +kernel, by decide +kernel, by decide +kernel, by decide +kernel⟩,
    ⟨(up.fld rLaneCtrl 16 6), ⟨[9, 0x2300, 0, 0, 0, 0, 0, 0], 32, false, false⟩, [], snippetRead (⟨[9, 0x2300, 0, 0, 0, 0, 0, 0], 32,
      false, false⟩ : QItem).words,
      { homed with msys := { quays := [((up.fld rLaneCtrl 16 6), { items := [⟨[9, 0x2300, 0, 0, 0, 0, 0, 0], 32, false, false⟩] })] }, regs := [(rQuayCfg2 + (up.fld rLaneCtrl 16 6) * 0x400, 0x3E0000)] },
      by decide +kernel, by decide +kernel, by decide +kernel, by decide +kernel, by decide +kernel, by decide +kernel,
      by decide +kernel, by decide +kernel, by decide +kernel⟩,
    ⟨31, ⟨1, 1, 2, 3, 4, 5⟩, { up with regs := [(rCalHeadCtrl + 31 * 0x400, 1)] }, by decide +kernel, by decide +kernel, by decide +kernel,
      by decide +kernel⟩,
    ⟨31, 5, ⟨0, 1, 2, 3, 4, 5⟩, { up with tables := [(tFhPool * 2 ^ 32 + 5, 0x9F000000)] }, by decide +kernel, by decide +kernel,
      by decide +kernel, by decide +kernel, by decide +kernel⟩,
    ⟨31, { up with tables := [(tFhPool * 2 ^ 32 + 5, 0x9F000000)], chn := { valid := [5] }, regs := [(rCalHeadCtrl + 31 * 0x400, 1)] },
      by decide +kernel, by decide +kernel, by decide +kernel, by decide +kernel⟩,
    ⟨0, 31, { up with fh := [(31, { state := .up })], cal := { heads := [(31, { cand := { gain := 5 } })] } }, by decide +kernel,
      by decide +kernel, by decide +kernel, by decide +kernel, by decide +kernel, by decide +kernel⟩,
    ⟨0, 31, { up with fh := [(31, { state := .up })], cal := { heads := [(31, { txCand := { gain := 5 } })] } }, by decide +kernel,
      by decide +kernel, by decide +kernel, by decide +kernel, by decide +kernel⟩,
    ⟨0, 1, 3, [],
      { slotted with regs := [(rSchCtrl, 100), (rCalHeadCtrl + 0x400, 8), (rTxmStreamCtrl + 2 * 0x400, 0x10000)], fh := [(1, { state := .up, headRegs := [(0x30, 0x80000000)] }), (2, { state := .up, headRegs := [(0x10, 0x80000000)] })], chn := { valid := [5] }, tables := [(tSchChannel * 2 ^ 32 + 3, (0x80000000 + 4000000) * 2 ^ 32 + 2 ^ 24), (tFhPool * 2 ^ 32 + 5, 0x82000000)] },
      by decide +kernel, by decide +kernel, by decide +kernel, by decide +kernel, by decide +kernel, by decide +kernel,
      by decide +kernel, by decide +kernel, by decide +kernel, by decide +kernel, by decide +kernel⟩,
    ⟨35, { up with regs := [(rCalHeadCtrl + 35 * 0x400, 8)] }, by decide +kernel, by decide +kernel, by decide +kernel, by decide +kernel,
      by decide +kernel, by decide +kernel, by decide +kernel, by decide +kernel⟩,
    ⟨1, 2,
      { slotted with regs := [(rSchCtrl, 100), (rCalHeadCtrl + 0x400, 8), (rTxmStreamCtrl + 2 * 0x400, 0x10000)], fh := [(1, { state := .up, headRegs := [(0x30, 0x80000000)] }), (2, { state := .up, headRegs := [(0x10, 0x80000000)] })], chn := { valid := [5] }, tables := [(tSchChannel * 2 ^ 32 + 3, (0x80000000 + 4000000) * 2 ^ 32 + 2 ^ 24), (tFhPool * 2 ^ 32 + 5, 0x82000000)], cal := { heads := [(1, { sweeping := true })] } },
      by decide +kernel, by decide +kernel, by decide +kernel, by decide +kernel, by decide +kernel⟩,
    ⟨35, { up with cal := { heads := [(35, { sweeping := true })] } }, by decide +kernel, by decide +kernel, by decide +kernel⟩,
    ⟨35, {}, 0, { up with cal := { heads := [(35, {})] }, timer := { source := 3 } }, by decide +kernel, by decide +kernel,
      by decide +kernel, by decide +kernel, by decide +kernel, by decide +kernel⟩,
    ⟨604805, ⟨35, 0, 5, {}, {}⟩, { up with flash := { calRecords := [⟨35, 0, 5, {}, {}⟩] }, timer := { source := 3 } }, by decide +kernel,
      by decide +kernel, by decide +kernel, by decide +kernel, by decide +kernel, by decide +kernel, by decide +kernel,
      by decide +kernel⟩,
    ⟨604806, ⟨35, 0, 5, {}, {}⟩, { up with flash := { calRecords := [⟨35, 0, 5, {}, {}⟩] }, timer := { source := 3 } }, by decide +kernel,
      by decide +kernel, by decide +kernel, by decide +kernel, by decide +kernel, by decide +kernel⟩⟩

theorem met_timekeeperCommands :
    (∃ (t : Time) (m : PtpMsg) (s : State), m.port < 8 ∧ (ptpTaken m (s.arrive t)).1 = true ∧ bestMaster s = some m.source ∧ m.twoStep =
      true) ∧
    (∃ (t : Time) (m : PtpMsg) (s : State), m.port < 8 ∧ (ptpTaken m (s.arrive t)).1 = true ∧ bestMaster s = some m.source ∧ m.twoStep =
      false ∧ mayStep s = false) ∧
    (∃ (t : Time) (m : PtpMsg) (a : Int) (s : State), m.port < 8 ∧ (ptpTaken m (s.arrive t)).1 = true ∧ bestMaster s = some m.source ∧
      s.timer.ptpSync = some (m.sequence, a) ∧ mayStep s = false) ∧
    (∃ (t : Time) (m : PtpMsg) (o : Int) (a : Int) (s : State), m.port < 8 ∧ (ptpTaken m (s.arrive t)).1 = true ∧ bestMaster s = some
      m.source ∧ s.timer.ptpPair = some (o, a)) ∧
    (∃ (t : Time) (m : PtpMsg) (s : State), m.port < 8 ∧ (ptpTaken m (s.arrive t)).1 = true) ∧
    (∃ (m : PtpMsg) (s : State), m.port < 8 ∧ s.fld rTimeCtrl 2 1 = 1 ∧ m.port = s.fld rTimeCtrl 3 3 ∧ s.slotUp = true ∧ m.domain ≠ s.fld
      rTimeCtrl 16 8) ∧
    (∃ (s : State), s.slotUp = true) ∧
    (∃ (s : State), s.slotUp = true ∧ s.fld rTimeCtrl 1 1 = 1 ∧ timeLocked s = false ∧ mayStep s = false) ∧
    (∃ (t : Time) (s : State), s.slotUp = true ∧ s.fld rTimeCtrl 1 1 = 1 ∧ timeLocked s = true ∧ 16000000 < (secondPhase ((s.arrive
      t).clock.now / 16 * 16)).natAbs ∧ s.timer.ppsBad < 2) ∧
    (∃ (s : State), s.slotUp = true ∧ s.fld rTimeCtrl 1 1 = 1) ∧
    (∃ (t : Time) (s : State), s.slotUp = true ∧ s.start.phase = .p9 ∧ s.timer.everLocked = true ∧ (secondPhase (s.arrive
      t).clock.now).natAbs ≤ 32) ∧
    (∃ (t : Time) (a : Time) (s : State), s.slotUp = true ∧ s.timer.outHigh = some a ∧ a + ms 100 ≤ (s.arrive t).clock.now) ∧
    (∃ (e : Option Nat) (s : State), (e.all fun k => decide (k < 8)) = true ∧ s.controlUp = true ∧ s.clock.running = true) ∧
    (∃ (n : Nat) (a : Nat) (asn : Nat) (start : Time) (s : State), n < 16 ∧ s.slotUp = true ∧ nbrUsed s n = true ∧ beaconSlot s n start =
      some a ∧ asn ≠ a ∧ (s.nbr n).silent = false) ∧
    (∃ (n : Nat) (a : Nat) (start : Time) (s : State), n < 16 ∧ s.slotUp = true ∧ nbrUsed s n = true ∧ beaconSlot s n start = some a ∧
      (s.nbr n).silent = false ∧ nbrAlign s n = true ∧ mayStep s = false ∧ s.fld rTimeCtrl 0 1 ≠ 0 ∧ s.timer.nbrOffsets = []) ∧
    (∃ (t : Time) (n : Nat) (a : Nat) (s : State), n < 16 ∧ s.slotUp = true ∧ nbrUsed s n = true ∧ (s.nbr n).missed < 2 ∧ beaconPassed
      (s.arrive t) n = some a) ∧
    (∃ (t : Time) (n : Nat) (a : Nat) (s : State), n < 16 ∧ s.slotUp = true ∧ nbrUsed s n = true ∧ (s.nbr n).missed = 2 ∧ (s.nbr n).silent
      = false ∧ beaconPassed (s.arrive t) n = some a) ∧
    (∃ (t : Time) (n : Nat) (s : State), n < 16 ∧ s.slotUp = true ∧ s.leads = true ∧ (s.nbr n).silent = true ∧ (s.nbr n).since + sec (s.fld
      rSchNbrCtrl 0 12) ≤ (s.arrive t).clock.now) :=
  ⟨⟨0, ptpMsg true, { ptpUp with timer := { stepped := true, ptpHeard := true, masters := [((ptpMsg true).source, [])] } },
      by decide +kernel, by decide +kernel, by decide +kernel, by decide +kernel⟩,
    ⟨0, ptpMsg false, { ptpUp with timer := { stepped := true, ptpHeard := true, masters := [((ptpMsg true).source, [])] } },
      by decide +kernel, by decide +kernel, by decide +kernel, by decide +kernel, by decide +kernel⟩,
    ⟨0, ptpMsg true, 5, { ptpUp with timer := { stepped := true, ptpSync := some (3, 5), masters := [((ptpMsg true).source, [])] } },
      by decide +kernel, by decide +kernel, by decide +kernel, by decide +kernel, by decide +kernel⟩,
    ⟨0, ptpMsg true, 5, 6, { ptpUp with timer := { stepped := true, ptpPair := some (5, 6), masters := [((ptpMsg true).source, [])] } },
      by decide +kernel, by decide +kernel, by decide +kernel, by decide +kernel⟩,
    ⟨0, ptpMsg true, ptpUp, by decide +kernel, by decide +kernel⟩,
    ⟨{ ptpMsg true with domain := 1 }, ptpUp, by decide +kernel, by decide +kernel, by decide +kernel, by decide +kernel,
      by decide +kernel⟩,
    ⟨up, by decide +kernel⟩,
    ⟨{ up with regs := [(rTimeCtrl, 2)], timer := { stepped := true } }, by decide +kernel, by decide +kernel, by decide +kernel,
      by decide +kernel⟩,
    ⟨0,
      { up with regs := [(rTimeCtrl, 2)], timer := { ppsBad := 1, ptp := { usable := true } }, clock := { now := sec 5000 + ms 2, running := true } },
      by decide +kernel, by decide +kernel, by decide +kernel, by decide +kernel, by decide +kernel⟩,
    ⟨{ up with regs := [(rTimeCtrl, 2)] }, by decide +kernel, by decide +kernel⟩,
    ⟨0, { up with timer := { everLocked := true }, clock := { now := sec 5000 + 32, running := true } }, by decide +kernel,
      by decide +kernel, by decide +kernel, by decide +kernel⟩,
    ⟨0, sec 4999, { up with timer := { outHigh := some (sec 4999) } }, by decide +kernel, by decide +kernel, by decide +kernel⟩,
    ⟨some 7, up, by decide +kernel, by decide +kernel, by decide +kernel⟩,
    ⟨15, 0, 5, us (slotted.fld rSchTiming 0 16), { slotted with tables := [(tSchNbr * 2 ^ 32 + 15, 8 * 2 ^ 128)] }, by decide +kernel,
      by decide +kernel, by decide +kernel, by decide +kernel, by decide +kernel, by decide +kernel⟩,
    ⟨15, 0, us (slotted.fld rSchTiming 0 16),
      { slotted with tables := [(tSchNbr * 2 ^ 32 + 15, 8 * 2 ^ 128 + 2 ^ 64)], timer := { stepped := true }, regs := [(rTimeCtrl, 1), (rSchCtrl, 100)] },
      by decide +kernel, by decide +kernel, by decide +kernel, by decide +kernel, by decide +kernel, by decide +kernel,
      by decide +kernel, by decide +kernel, by decide +kernel⟩,
    ⟨0, 15, (beaconPassed { up with tables := [(tSchNbr * 2 ^ 32 + 15, 8 * 2 ^ 128)], sch := { nbrs := [(15, { missed := 1 })] } } 15).getD
      0, { up with tables := [(tSchNbr * 2 ^ 32 + 15, 8 * 2 ^ 128)], sch := { nbrs := [(15, { missed := 1 })] } }, by decide +kernel,
      by decide +kernel, by decide +kernel, by decide +kernel, by decide +kernel⟩,
    ⟨0, 15, (beaconPassed { up with tables := [(tSchNbr * 2 ^ 32 + 15, 8 * 2 ^ 128)], sch := { nbrs := [(15, { missed := 2 })] } } 15).getD
      0, { up with tables := [(tSchNbr * 2 ^ 32 + 15, 8 * 2 ^ 128)], sch := { nbrs := [(15, { missed := 2 })] } }, by decide +kernel,
      by decide +kernel, by decide +kernel, by decide +kernel, by decide +kernel, by decide +kernel⟩,
    ⟨0, 15, { up with sch := { nbrs := [(15, { missed := 3, silent := true })] } }, by decide +kernel, by decide +kernel,
      by decide +kernel, by decide +kernel, by decide +kernel⟩⟩

theorem met_keyVault :
    (∃ (g : Nat) (i : Nat) (x : Group) (f : LookupFields) (e : Eui) (n : Node) (c : CacheSlot) (s : State), g < 4096 ∧ s.groupOf g = some x
      ∧ x.version = true ∧ x.lookup = some f ∧ afind s.key.ctxs g = none ∧ s.keyUp = true ∧ f.level ≠ 0 ∧ f.level ≠ 4 ∧ s.fld rKeyCtrl
      0 3 ≤ f.level ∧ f.suppress = false ∧ f.kim = 0 ∧ f.source = some e ∧ s.nodeOf e = some (i, n) ∧ n.sec.blobValid = true ∧
      (s.key.cache.find? (fun x => x.node == e) = some c) ∧ kekGen s c.kek ≤ c.parentGen) ∧
    (∃ (g : Nat) (x : Group) (f : LookupFields) (s : State), g < 4096 ∧ s.groupOf g = some x ∧ x.version = true ∧ x.lookup = some f ∧ afind
      s.key.ctxs g = none ∧ s.keyUp = true ∧ (f.level = 0 ∨ f.level = 4 ∨ f.level < s.fld rKeyCtrl 0 3 ∨ f.suppress = true)) ∧
    (∃ (g : Nat) (x : Group) (s : State), g < 4096 ∧ s.groupOf g = some x ∧ x.version = false) ∧
    (∃ (cls : Nat) (id : Nat) (s : State), s.keyUp = true ∧ unwrapHead s = some (.renew cls id) ∧ cls ≠ 9 ∧ s.key.rewrap = none) ∧
    (∃ (g : Nat) (c : KeyCtx) (s : State), g < 4096 ∧ afind s.key.ctxs g = some c ∧ s.keyUp = true ∧ c.bound = none ∧ c.waiting = true ∧
      c.marker = none) ∧
    (∃ (g : Nat) (c : KeyCtx) (s : State), g < 4096 ∧ afind s.key.ctxs g = some c ∧ s.keyUp = true ∧ c.marker = none) ∧
    (∃ (e : Eui) (i : Nat) (n : Node) (s : State), s.keyUp = true ∧ s.nodeOf e = some (i, n)) ∧
    (∃ (t : Time) (id : Nat) (k : Nat) (b : Booking) (s : State), bookingOf s id = some b ∧ b.ready = false ∧ s.keyUp = true ∧ protKey s b
      = some (.group k) ∧ useKey 5 k (s.arrive t) = (.good, s.arrive t) ∧ (groupTxOf s k).1 < 0xFFFFFFFF ∧ (groupTxOf s k).1 <
      (groupTxOf s k).2 ∧ b.id = id) ∧
    (∃ (s : State), s.keyUp = true ∧ s.key.ceilingDue = true ∧ s.key.groupTx = [] ∧ s.pair.state = .solo) ∧
    (∃ (d : Nat) (it : KeyItem) (a : List Byte) (s : State), s.argsOf d 1 = some a ∧ keyItemRead a = it ∧ s.key.queue.length < 256 ∧
      s.key.queue.contains (.load d) = false ∧ s.keyUp = true ∧ s.leads = true ∧ afind s.key.items d = none ∧ it.op = 1 ∧ (persistent
      it.cls = true ∨ it.cls = 9)) ∧
    (∃ (d : Nat) (it : KeyItem) (k : VKey) (s : State), itemOf s d 2 = some it ∧ it.cls ≠ 9 ∧ keyAt s it.cls it.keyId = some k ∧ (k.status
      = .live ∨ k.status = .waiting) ∧ s.pair.state = .solo) ∧
    (∃ (d : Nat) (it : KeyItem) (k : VKey) (s : State), itemOf s d 3 = some it ∧ it.cls ≠ 9 ∧ it.cls ≠ 4 ∧ keyAt s it.cls it.keyId = some k
      ∧ k.status ≠ .retired ∧ s.pair.state = .solo) ∧
    (∃ (d : Nat) (it : KeyItem) (s : State), itemOf s d 4 = some it ∧ kekLive s (it.keyId % 16) = true ∧ kekLive s (it.keyId / 16 % 16) =
      true ∧ it.keyId % 16 ≠ it.keyId / 16 % 16 ∧ s.key.rewrap = none ∧ s.dl.nextDsn ≠ d ∧ s.dl.reorder = [] ∧ s.pair.state = .solo ∧
      s.clamp 69 = {}) ∧
    (∃ (w : Rewrap) (s : State), s.keyUp = true ∧ s.key.rewrap = some w ∧ (s.key.queue.any (fun r => prio r == 5) = false)) ∧
    (∃ (j : KeyJob) (r : List KeyJob) (s : State), s.keyUp = true ∧ s.key.jobs = j :: r ∧ j.copyB = false ∧ (s.clamp 72).holder = 14 ∧
      s.flash.jrnB.lost = false) ∧
    (∃ (j : KeyJob) (s : State), s.keyUp = true ∧ s.key.jobs = [j] ∧ j.copyB = true ∧ j.cause = .pairing ∧ (s.clamp 73).holder = 14 ∧
      s.flash.jrnB.lost = false) ∧
    (∃ (s : State), s.keyUp = true ∧ s.flash.jrnA.lost = false ∧ 3072 ≤ s.flash.jrnA.records.length) ∧
    (∃ (s : State), s.keyUp = true ∧ s.start.phase = .p9 ∧ s.hlt.frozen = false) ∧
    (∃ (l : Nat) (j : JigTest) (s : State), s.key.draining = some l ∧ s.hlt.test = some j ∧ s.keyUp = true ∧ j.warm = 1 ∧ (s.key.ctxs.any
      (fun x => x.2.lane == l) = false)) :=
  ⟨⟨4095, 5, { members := [0], lookup := some fields }, fields, 77, { eui := 77, sec := { blobValid := true } }, ⟨77, 0, 1, 1, 0, 0⟩,
      { up with lane := { groups := [(4095, { members := [0], lookup := some fields })] }, fwd := { nodes := [(5, { eui := 77, sec := { blobValid := true } })] }, key := { cache := [⟨77, 0, 1, 1, 0, 0⟩] } },
      by decide +kernel, by decide +kernel, by decide +kernel, by decide +kernel, by decide +kernel, by decide +kernel,
      by decide +kernel, by decide +kernel, by decide +kernel, by decide +kernel, by decide +kernel, by decide +kernel,
      by decide +kernel, by decide +kernel, by decide +kernel, by decide +kernel⟩,
    ⟨4095, { members := [0], lookup := some { fields with level := 4 } }, { fields with level := 4 },
      { up with lane := { groups := [(4095, { members := [0], lookup := some { fields with level := 4 } })] } }, by decide +kernel,
      by decide +kernel, by decide +kernel, by decide +kernel, by decide +kernel, by decide +kernel, by decide +kernel⟩,
    ⟨4095, { members := [0], version := false }, { up with lane := { groups := [(4095, { members := [0], version := false })] } },
      by decide +kernel, by decide +kernel, by decide +kernel⟩,
    ⟨5, 3, { up with key := { queue := [.renew 5 3] } }, by decide +kernel, by decide +kernel, by decide +kernel, by decide +kernel⟩,
    ⟨4095, { lane := 0, fields := fields, waiting := true },
      { up with key := { ctxs := [(4095, { lane := 0, fields := fields, waiting := true })] } }, by decide +kernel, by decide +kernel,
      by decide +kernel, by decide +kernel, by decide +kernel, by decide +kernel⟩,
    ⟨4095, { lane := 0, fields := fields, failed := some .level },
      { up with key := { ctxs := [(4095, { lane := 0, fields := fields, failed := some .level })] } }, by decide +kernel,
      by decide +kernel, by decide +kernel, by decide +kernel⟩,
    ⟨77, 5, { eui := 77 }, homed, by decide +kernel, by decide +kernel⟩,
    ⟨0, 7, 1, { beaconBooking with use := .campaign 3 0, ready := false },
      { up with txm := { bookings := [{ beaconBooking with use := .campaign 3 0, ready := false }] }, camps := [(3, ⟨campDef, .running, [0, 1], 0, 128, 0, 0, none, [], [], false⟩)], key := { keys := [liveKey 5 1], groupTx := [(1, 5, 9)] } },
      by decide +kernel, by decide +kernel, by decide +kernel, by decide +kernel, by decide +kernel, by decide +kernel,
      by decide +kernel, by decide +kernel⟩,
    ⟨{ up with key := { ceilingDue := true } }, by decide +kernel, by decide +kernel, by decide +kernel, by decide +kernel⟩,
    ⟨1, keyItemRead (keyItemOctets ⟨5, 1, 3, 0, 1, 0, 0, 0⟩), keyItemOctets ⟨5, 1, 3, 0, 1, 0, 0, 0⟩,
      { loadingKey ⟨5, 1, 3, 0, 1, 0, 0, 0⟩ with key := {} }, by decide +kernel, by decide +kernel, by decide +kernel,
      by decide +kernel, by decide +kernel, by decide +kernel, by decide +kernel, by decide +kernel, by decide +kernel⟩,
    ⟨1, ⟨5, 2, 3, 0, 1, 0, 0, 0⟩, (liveKey 5 3).2, loadingKey ⟨5, 2, 3, 0, 1, 0, 0, 0⟩, by decide +kernel, by decide +kernel,
      by decide +kernel, by decide +kernel, by decide +kernel⟩,
    ⟨1, ⟨5, 3, 3, 0, 1, 0, 0, 0⟩, (liveKey 5 3).2, loadingKey ⟨5, 3, 3, 0, 1, 0, 0, 0⟩, by decide +kernel, by decide +kernel,
      by decide +kernel, by decide +kernel, by decide +kernel, by decide +kernel⟩,
    ⟨1, ⟨4, 4, 0x12, 0, 1, 0, 0, 0⟩,
      { loadingKey ⟨4, 4, 0x12, 0, 1, 0, 0, 0⟩ with dl := { (loadingKey ⟨4, 4, 0x12, 0, 1, 0, 0, 0⟩).dl with nextDsn := 2 } },
      by decide +kernel, by decide +kernel, by decide +kernel, by decide +kernel, by decide +kernel, by decide +kernel,
      by decide +kernel, by decide +kernel, by decide +kernel⟩,
    ⟨⟨1, 2, 3, 1⟩, { up with key := { rewrap := some ⟨1, 2, 3, 1⟩ } }, by decide +kernel, by decide +kernel, by decide +kernel⟩,
    ⟨⟨.pairing, ⟨1, 5, 1, 1, 1, 0, 0, none, false⟩, false⟩, [],
      { up with key := { jobs := [⟨.pairing, ⟨1, 5, 1, 1, 1, 0, 0, none, false⟩, false⟩] }, hlt := { clamps := [(72, { holder := 14 })] } },
      by decide +kernel, by decide +kernel, by decide +kernel, by decide +kernel, by decide +kernel⟩,
    ⟨⟨.pairing, ⟨1, 5, 1, 1, 1, 0, 0, none, false⟩, true⟩,
      { up with key := { jobs := [⟨.pairing, ⟨1, 5, 1, 1, 1, 0, 0, none, false⟩, true⟩] }, hlt := { clamps := [(73, { holder := 14 })] } },
      by decide +kernel, by decide +kernel, by decide +kernel, by decide +kernel, by decide +kernel, by decide +kernel⟩,
    ⟨{ up with flash := { jrnA := { records := List.replicate 3072 ⟨1, 5, 1, 1, 1, 0, 0, none, false⟩ } } }, by decide +kernel,
      by decide +kernel, by decide +kernel⟩,
    ⟨up, by decide +kernel, by decide +kernel, by decide +kernel⟩,
    ⟨7, ⟨9, 0, 0, false, 1, none, none, 0⟩,
      { up with key := { draining := some 7 }, hlt := { test := some ⟨9, 0, 0, false, 1, none, none, 0⟩ } }, by decide +kernel,
      by decide +kernel, by decide +kernel, by decide +kernel, by decide +kernel⟩⟩

theorem met_commitSequencer :
    (∃ (g : Nat) (x : Group) (sm : Summary) (s : State), g < 4096 ∧ s.groupOf g = some x ∧ x.summary = some sm ∧ s.cand g = none ∧
      x.reported = false ∧ s.slotUp = true ∧ sm.ackReq = false) ∧
    (∃ (g : Nat) (x : Group) (sm : Summary) (s : State), g < 4096 ∧ s.groupOf g = some x ∧ x.summary = some sm ∧ s.cand g = none ∧
      x.reported = false ∧ s.slotUp = true ∧ sm.ackReq = true ∧ s.leads = true ∧ s.sch.started = false) ∧
    (∃ (g : Nat) (c : Cand) (f : FrameInfo) (s : State), g < 4096 ∧ s.cand g = some c ∧ c.state = .open ∧ c.endEvent.isSome = true ∧
      c.verdict = some .okNew ∧ s.slotUp = true ∧ f.kind = .data ∧ f.source ≠ s.ownEui ∧ s.leads = true ∧ markOf s f.source = none ∧
      piecePart s f = false ∧ s.jrn.cands = [(g, c)] ∧ c.ackReq = false ∧ ringRoom s f = true ∧ s.pair.state = .solo) ∧
    (∃ (g : Nat) (c : Cand) (f : FrameInfo) (s : State), g < 4096 ∧ s.cand g = some c ∧ c.state = .open ∧ c.endEvent.isSome = true ∧
      c.verdict = some .micFail ∧ s.slotUp = true ∧ f.kind = .data ∧ f.source ≠ s.ownEui) ∧
    (∃ (g : Nat) (c : Cand) (f : FrameInfo) (s : State), g < 4096 ∧ s.jrn.cands = [(g, c)] ∧ c.state = .stage ∧ c.frame = some f ∧
      c.deadline = none ∧ c.ackReq = false ∧ s.slotUp = true ∧ s.pair.state = .solo ∧ s.jrn.entries = []) ∧
    (∃ (t : Time) (g : Nat) (c : Cand) (f : FrameInfo) (s : State), g < 4096 ∧ s.jrn.cands = [(g, c)] ∧ c.state = .stage ∧ c.frame = some f
      ∧ c.deadline = some (s.arrive t).clock.now ∧ c.ackReq = true ∧ s.slotUp = true ∧ s.pair.state = .solo ∧ s.jrn.entries = []) ∧
    (∃ (t : Time) (d : Time) (g : Nat) (c : Cand) (s : State), g < 4096 ∧ s.cand g = some c ∧ c.state = .open ∧ c.frame = none ∧ c.rerun =
      false ∧ c.deadline = some d ∧ d ≤ (s.arrive t).clock.now ∧ s.leads = true ∧ s.slotUp = true) ∧
    (∃ (t : Time) (j : Nat) (e : Entry) (s : State), s.jrn.entries = [e] ∧ e.hdr.jsn = j ∧ e.state = .owed ∧ e.mirrored = false ∧ s.slotUp
      = true ∧ e.leave + us 1 ≤ (s.arrive t).clock.now ∧ s.pair.state = .solo) ∧
    (∃ (t : Time) (d : Time) (g : Nat) (c : Cand) (s : State), g < 4096 ∧ s.cand g = some c ∧ c.state = .held ∧ c.ackReq = true ∧
      c.deadline = some d ∧ d ≤ (s.arrive t).clock.now ∧ s.leads = false ∧ s.slotUp = true) ∧
    (∃ (t : Time) (j : Nat) (e : Entry) (s : State), s.jrn.entries = [e] ∧ e.hdr.jsn = j ∧ e.state = .owed ∧ e.mirrored = true ∧ s.leads =
      false ∧ s.slotUp = true ∧ e.leave + us 1 + partnerTimeout s ≤ (s.arrive t).clock.now) ∧
    (∃ (s : State), s.slotUp = true) :=
  ⟨⟨4095, { members := [0], summary := some (summary false) }, summary false,
      { up with lane := { groups := [(4095, { members := [0], summary := some (summary false) })] } }, by decide +kernel,
      by decide +kernel, by decide +kernel, by decide +kernel, by decide +kernel, by decide +kernel, by decide +kernel⟩,
    ⟨4095, { members := [0], summary := some (summary true) }, summary true,
      { up with lane := { groups := [(4095, { members := [0], summary := some (summary true) })] } }, by decide +kernel,
      by decide +kernel, by decide +kernel, by decide +kernel, by decide +kernel, by decide +kernel, by decide +kernel,
      by decide +kernel, by decide +kernel⟩,
    ⟨4095, { endEvent := some 0, verdict := some .okNew }, frame,
      { up with jrn := { cands := [(4095, { endEvent := some 0, verdict := some .okNew })] }, regs := [(rJrnRingSize, 16)] },
      by decide +kernel, by decide +kernel, by decide +kernel, by decide +kernel, by decide +kernel, by decide +kernel,
      by decide +kernel, by decide +kernel, by decide +kernel, by decide +kernel, by decide +kernel, by decide +kernel,
      by decide +kernel, by decide +kernel, by decide +kernel⟩,
    ⟨4095, { endEvent := some 0, verdict := some .micFail }, frame,
      { up with jrn := { cands := [(4095, { endEvent := some 0, verdict := some .micFail })] } }, by decide +kernel, by decide +kernel,
      by decide +kernel, by decide +kernel, by decide +kernel, by decide +kernel, by decide +kernel, by decide +kernel⟩,
    ⟨4095, { state := .stage, frame := some frame }, frame,
      { up with jrn := { cands := [(4095, { state := .stage, frame := some frame })] } }, by decide +kernel, by decide +kernel,
      by decide +kernel, by decide +kernel, by decide +kernel, by decide +kernel, by decide +kernel, by decide +kernel,
      by decide +kernel⟩,
    ⟨0, 4095, { state := .stage, frame := some frame, ackReq := true, deadline := some (sec 5000) }, frame,
      { up with jrn := { cands := [(4095, { state := .stage, frame := some frame, ackReq := true, deadline := some (sec 5000) })] } },
      by decide +kernel, by decide +kernel, by decide +kernel, by decide +kernel, by decide +kernel, by decide +kernel,
      by decide +kernel, by decide +kernel, by decide +kernel⟩,
    ⟨0, sec 5000, 4095, { ackReq := true, deadline := some (sec 5000) },
      { up with jrn := { cands := [(4095, { ackReq := true, deadline := some (sec 5000) })] } }, by decide +kernel, by decide +kernel,
      by decide +kernel, by decide +kernel, by decide +kernel, by decide +kernel, by decide +kernel, by decide +kernel,
      by decide +kernel⟩,
    ⟨0, 5, entry5 .owed, { up with jrn := { entries := [entry5 .owed] } }, by decide +kernel, by decide +kernel, by decide +kernel,
      by decide +kernel, by decide +kernel, by decide +kernel, by decide +kernel⟩,
    ⟨0, sec 5000, 4095, { state := .held, ackReq := true, deadline := some (sec 5000) },
      { pairAs standby with jrn := { cands := [(4095, { state := .held, ackReq := true, deadline := some (sec 5000) })] } },
      by decide +kernel, by decide +kernel, by decide +kernel, by decide +kernel, by decide +kernel, by decide +kernel,
      by decide +kernel, by decide +kernel⟩,
    ⟨0, 5, { entry5 .owed with mirrored := true }, { pairAs standby with jrn := { entries := [{ entry5 .owed with mirrored := true }] } },
      by decide +kernel, by decide +kernel, by decide +kernel, by decide +kernel, by decide +kernel, by decide +kernel,
      by decide +kernel⟩,
    ⟨up, by decide +kernel⟩⟩

theorem met_nodeTable :
    (∃ (e : Eui) (p : Nat) (i : Nat) (n : Node) (s : State), p < 36 ∧ s.packetUp = true ∧ s.indexOf e = some i ∧ s.nodeAt i = some n) ∧
    (∃ (t : Time) (g : Nat) (p : Nat) (e : Eui) (c : KeyCtx) (s : State), g < 4096 ∧ p < 36 ∧ afind s.key.ctxs g = some c ∧ c.fields.kim =
      1 ∧ c.fields.source = some e ∧ c.bound.isSome = true ∧ s.indexOf e = none ∧ s.packetUp = true ∧ s.fwd.newcomers = [] ∧ hasToken
      (s.arrive t) p = true ∧ s.fwd.windows = []) ∧
    (∃ (t : Time) (g : Nat) (p : Nat) (e : Eui) (c : KeyCtx) (s : State), g < 4096 ∧ p < 36 ∧ afind s.key.ctxs g = some c ∧ c.fields.kim =
      1 ∧ c.fields.source = some e ∧ c.bound.isSome = true ∧ s.indexOf e = none ∧ s.packetUp = true ∧ s.fwd.newcomers = [] ∧ hasToken
      (s.arrive t) p = false ∧ policyFlood s p = false) ∧
    (∃ (t : Time) (e : Eui) (p : Nat) (q : Int) (w : LearnWin) (s : State), s.fwd.windows = [w] ∧ w.node = e ∧ w.isNew = true ∧ w.ports =
      [(p, q)] ∧ w.reserve = some p ∧ s.packetUp = true ∧ w.opened + us (s.fld rFwdCtrl 0 12) ≤ (s.arrive t).clock.now) ∧
    (∃ (e : Eui) (i : Nat) (m : NewSender) (s : State), (s.fwd.newcomers.find? (fun m => m.node == e && m.accepted && m.index.isNone) =
      some m) ∧ s.packetUp = true ∧ s.leads = true ∧ freeIndexOf s = some i) ∧
    (∃ (e : Eui) (i : Nat) (k : Nat) (moves : List (Nat × Nat)) (n : Node) (s : State), s.packetUp = true ∧ s.nodeOf e = some (i, n) ∧
      n.place.inTable = false ∧ rebuildOpen s = false ∧ (makeRoom e moves s).1 = some k) ∧
    (∃ (e : Eui) (i : Nat) (moves : List (Nat × Nat)) (n : Node) (s : State), s.packetUp = true ∧ s.nodeOf e = some (i, n) ∧
      n.place.inTable = false ∧ rebuildOpen s = false ∧ (makeRoom e moves s).1 = none) ∧
    (∃ (e : Eui) (i : Nat) (k : Nat) (moves : List (Nat × Nat)) (m : NewSender) (s : State), s.packetUp = true ∧ s.nodeOf e = none ∧
      (makeRoom e moves s).1 = some k ∧ s.fwd.newcomers = [m] ∧ m.node = e ∧ m.index = some i ∧ rebuildOpen s = false ∧ s.fwd.windows =
      [] ∧ m.events = [] ∧ m.home = some 3 ∧ s.pair.state = .solo) ∧
    (∃ (t : Time) (e : Eui) (i : Nat) (m : NewSender) (p : NodePlace) (s : State), s.packetUp = true ∧ s.fwd.newcomers = [m] ∧ m.node = e ∧
      m.index = some i ∧ m.since + ms 2 ≤ (s.arrive t).clock.now ∧ s.clamp 70 = {} ∧ rebuildPlace s e = some p ∧ s.fwd.windows = [] ∧
      m.events = [] ∧ m.home = some 3 ∧ s.pair.state = .solo) ∧
    (∃ (s : State), s.fwd.rehash = false ∧ s.packetUp = true ∧ s.fld rFwdCtrl2 19 8 * 16 < failedCount s ∧ s.clamp 70 = {}) ∧
    (∃ (slots : List (Nat × Nat)) (l : List (Nat × Node)) (s : State), s.fwd.rehash = true ∧ s.packetUp = true ∧ reinsert s.fwd.seeds slots
      s.fwd.nodes [] = some l) ∧
    (∃ (t : Time) (i : Nat) (stamp : Nat) (n : Node) (s : State), i < nodeMax ∧ s.nodeAt i = some n ∧ s.packetUp = true ∧ ((s.arrive
      t).second + 2 ^ 32 - stamp % 2 ^ 32) % 2 ^ 32 < s.fld rFwdAge 0 9 * 3600) ∧
    (∃ (t : Time) (i : Nat) (stamp : Nat) (n : Node) (s : State), i < nodeMax ∧ s.nodeAt i = some n ∧ s.packetUp = true ∧ s.fld rFwdAge 0 9
      * 3600 ≤ ((s.arrive t).second + 2 ^ 32 - stamp % 2 ^ 32) % 2 ^ 32 ∧ n.ageStamp = stamp ∧ n.static = false ∧ n.sec.blobValid =
      false ∧ cellRefs s i = 0 ∧ afind s.prog i = none ∧ s.pair.state = .solo) ∧
    (∃ (e : Eui) (i : Nat) (n : Node) (s : State), s.nodeOf e = some (i, n) ∧ n.unhomed = false ∧ s.headUp n.homePort = false ∧ s.packetUp
      = true ∧ n.heard = []) ∧
    (∃ (t : Time) (e : Eui) (i : Nat) (p : Nat) (n : Node) (h : Heard) (s : State), s.nodeOf e = some (i, n) ∧ n.unhomed = false ∧ s.headUp
      n.homePort = false ∧ s.packetUp = true ∧ n.heard = [h] ∧ h.port = p ∧ p ≠ n.homePort ∧ s.headUp p = true ∧ hasToken (s.arrive t)
      p = true) :=
  ⟨⟨77, 35, 5, { eui := 77 }, homed, by decide +kernel, by decide +kernel, by decide +kernel, by decide +kernel⟩,
    ⟨0, 4095, 35, 77, groupCtx,
      { up with key := { ctxs := [(4095, groupCtx)] }, regs := [(rFwdPortLearn + 35 * 0x400, 0x000A000A)], fwd := { buckets := [(35, (sec 5, sec 5000))] } },
      by decide +kernel, by decide +kernel, by decide +kernel, by decide +kernel, by decide +kernel, by decide +kernel,
      by decide +kernel, by decide +kernel, by decide +kernel, by decide +kernel, by decide +kernel⟩,
    ⟨0, 4095, 35, 77, groupCtx,
      { up with key := { ctxs := [(4095, groupCtx)] }, regs := [(rFwdPortLearn + 35 * 0x400, 0x000A000A)], fwd := { buckets := [(35, (0, sec 5000))] } },
      by decide +kernel, by decide +kernel, by decide +kernel, by decide +kernel, by decide +kernel, by decide +kernel,
      by decide +kernel, by decide +kernel, by decide +kernel, by decide +kernel, by decide +kernel⟩,
    ⟨0, 77, 35, 3, ⟨77, 0, [(35, 3)], some 35, true⟩, { up with fwd := { windows := [⟨77, 0, [(35, 3)], some 35, true⟩] } },
      by decide +kernel, by decide +kernel, by decide +kernel, by decide +kernel, by decide +kernel, by decide +kernel,
      by decide +kernel⟩,
    ⟨77, Config.freeIndex 0 % nodeMax, { newcomer with index := none },
      { up with fwd := { newcomers := [{ newcomer with index := none }] } }, by decide +kernel, by decide +kernel, by decide +kernel,
      by simp [freeIndexOf, up, firstSuch, firstFrom, State.nodeAt, afind, nodeMax]⟩,
    ⟨77, 5, ((makeRoom 77 [] { up with fwd := { nodes := [(5, { eui := 77, place := .overflow })] } }).1.getD 0), [],
      { eui := 77, place := .overflow }, { up with fwd := { nodes := [(5, { eui := 77, place := .overflow })] } }, by decide +kernel,
      by decide +kernel, by decide +kernel, by decide +kernel, by decide +kernel⟩,
    ⟨77, 5, [], { eui := 77, place := .overflow }, { up with fwd := { nodes := (5, { eui := 77, place := .overflow }) :: crowded 77 } },
      by decide +kernel, by decide +kernel, by decide +kernel, by decide +kernel, by decide +kernel⟩,
    ⟨77, 5, ((makeRoom 77 [] { up with fwd := { newcomers := [newcomer] } }).1.getD 0), [], newcomer,
      { up with fwd := { newcomers := [newcomer] } }, by decide +kernel, by decide +kernel, by decide +kernel, by decide +kernel,
      by decide +kernel, by decide +kernel, by decide +kernel, by decide +kernel, by decide +kernel, by decide +kernel,
      by decide +kernel⟩,
    ⟨0, 77, 5, newcomer, ((rebuildPlace { up with fwd := { newcomers := [newcomer] } } 77).getD .overflow),
      { up with fwd := { newcomers := [newcomer] } }, by decide +kernel, by decide +kernel, by decide +kernel, by decide +kernel,
      by decide +kernel, by decide +kernel, by decide +kernel, by decide +kernel, by decide +kernel, by decide +kernel,
      by decide +kernel⟩,
    ⟨{ up with fwd := { nodes := [(5, { eui := 77, place := .overflow, failed := true })] }, regs := [(rFwdCtrl2, 0)] }, by decide +kernel,
      by decide +kernel, by decide +kernel, by decide +kernel⟩,
    ⟨[], [], { up with fwd := { rehash := true } }, by decide +kernel, by decide +kernel, by decide +kernel⟩,
    ⟨0, 5, 5000, { eui := 77 }, homed, by decide +kernel, by decide +kernel, by decide +kernel, by decide +kernel⟩,
    ⟨0, 5, 0, { eui := 77 }, { homed with regs := [(rFwdAge, 1)] }, by decide +kernel, by decide +kernel, by decide +kernel,
      by decide +kernel, by decide +kernel, by decide +kernel, by decide +kernel, by decide +kernel, by decide +kernel,
      by decide +kernel⟩,
    ⟨77, 5, { eui := 77, unhomed := false, homePort := 3 },
      { up with fwd := { nodes := [(5, { eui := 77, unhomed := false, homePort := 3 })] } }, by decide +kernel, by decide +kernel,
      by decide +kernel, by decide +kernel, by decide +kernel⟩,
    ⟨0, 77, 5, 4, { eui := 77, unhomed := false, homePort := 3, heard := [⟨4, 5, 6⟩] }, ⟨4, 5, 6⟩,
      { up with fwd := { nodes := [(5, { eui := 77, unhomed := false, homePort := 3, heard := [⟨4, 5, 6⟩] })], buckets := [(4, (sec 5, sec 5000))] }, fh := [(4, { state := .up })], regs := [(rFwdPortLearn + 4 * 0x400, 0x000A000A)] },
      by decide +kernel, by decide +kernel, by decide +kernel, by decide +kernel, by decide +kernel, by decide +kernel,
      by decide +kernel, by decide +kernel, by decide +kernel⟩⟩

theorem met_forwarding :
    (∃ (p : Packet) (r : Nat) (h : Nat) (s : State), p.fromMesh = true ∧ s.packetUp = true ∧ forwardable p s = true ∧ routeFor s p = some r
      ∧ r / 2 ^ 29 = 3 ∧ 1 < p.hopLimit ∧ h = s.entry tFwdNexthop (r / 2 ^ 16 % 2 ^ 12) ∧ s.fry.links.getLsbD (h / 2 ^ 120) = true ∧
      frameLength (h / 2 ^ 96 % 2 ^ 16) p.octets.length ≤ 9216) ∧
    (∃ (p : Packet) (r : Nat) (s : State), p.fromMesh = true ∧ s.packetUp = true ∧ forwardable p s = true ∧ routeFor s p = some r ∧ r / 2 ^
      29 = 2 ∧ 1 < p.hopLimit ∧ p.meshLength ≤ p.psduMax) ∧
    (∃ (p : Packet) (s : State), p.fromMesh = true ∧ s.packetUp = true ∧ forwardable p s = true ∧ routeFor s p = none) ∧
    (∃ (p : Packet) (s : State), p.fromMesh = true ∧ forwardable p s = false) ∧
    (∃ (t : Time) (k : Nat) (p : Transit) (s : State), s.fwd.transit[k]? = some p ∧ s.packetUp = true ∧ p.since + sec (s.fld rFwdCtrl2 27 5
      * 10) ≤ (s.arrive t).clock.now ∧ p.flood = false ∧ s.txm.bookings = []) ∧
    (∃ (s : State), s.packetUp = true) :=
  ⟨⟨meshPacket, 0x60030000, 7 * 2 ^ 120,
      { up with tables := [(tFwdTrie * 2 ^ 32, 0x60030000), (tFwdNexthop * 2 ^ 32 + 3, 7 * 2 ^ 120)], fry := { links := 0x80 }, fwd := { toForward := [(77, 6)] } },
      by decide +kernel, by decide +kernel, by decide +kernel, by decide +kernel, by decide +kernel, by decide +kernel,
      by decide +kernel, by decide +kernel, by decide +kernel⟩,
    ⟨meshPacket, 0x40030000, { up with tables := [(tFwdTrie * 2 ^ 32, 0x40030000)], fwd := { toForward := [(77, 6)] } }, by decide +kernel,
      by decide +kernel, by decide +kernel, by decide +kernel, by decide +kernel, by decide +kernel, by decide +kernel⟩,
    ⟨meshPacket, { up with fwd := { toForward := [(77, 6)] } }, by decide +kernel, by decide +kernel, by decide +kernel, by decide +kernel⟩,
    ⟨meshPacket, up, by decide +kernel, by decide +kernel⟩,
    ⟨0, 0, ⟨0, false, false, 77, 1, 100, 0⟩, { up with fwd := { transit := [⟨0, false, false, 77, 1, 100, 0⟩] } }, by decide +kernel,
      by decide +kernel, by decide +kernel, by decide +kernel, by decide +kernel⟩,
    ⟨up, by decide +kernel⟩⟩

theorem met_downlinkItems :
    (∃ (t : Time) (f : FerryFrame) (b : Octets) (it : DlItem) (x : List Byte) (s : State), (ferryRx 3 f (s.arrive t)).1 = some b ∧
      itemsRead b = some [it] ∧ s.dl.sync = false ∧ it.dsn = s.dl.nextDsn ∧ dlOf s it.dsn = none ∧ s.pair.state = .solo ∧ s.fry.session
      ≠ 0 ∧ dlOpen s < 131072 ∧ it.formOk = true ∧ it.body = .node x ∧ s.dl.reorder = [] ∧ s.fld rFryWindow 21 11 ≠ 0) ∧
    (∃ (t : Time) (d : Nat) (x : List Byte) (r : DlRec) (s : State), s.dl.recs = [r] ∧ r.item.dsn = d ∧ r.item.body = .node x ∧ r.state =
      .waiting ∧ r.done = none ∧ s.pair.state = .solo ∧ s.slotUp = true ∧ r.since + sec r.item.expiry ≤ (s.arrive t).clock.now ∧
      s.nodeOf r.item.dest = none) ∧
    (∃ (x : Time) (air : Time) (e : Eui) (r : DlRec) (d : List Byte) (s : State), s.dl.recs = [r] ∧ r.item.dest = e ∧ r.done = none ∧
      r.item.body = .node d ∧ r.state = .begun x ∧ x ≤ air + us (g0 s) ∧ air ≤ x + us (g0 s) ∧ s.pair.state = .solo ∧ s.slotUp = true) ∧
    (∃ (s : State), s.dl.recs = [] ∧ s.slotUp = true) ∧
    (∃ (d : Nat) (b : Nat) (a : List Byte) (r : DlRec) (s : State), s.argsOf d 2 = some a ∧ blockArg (octetAt a 0) = some (some b) ∧
      s.dl.recs = [r] ∧ r.item.dsn = d ∧ s.pair.state = .solo ∧ s.dl.reorder = [] ∧ b ≠ 23) ∧
    (∃ (d : Nat) (a : List Byte) (r : DlRec) (s : State), s.argsOf d 3 = some a ∧ octetAt a 0 = 21 ∧ s.dl.recs = [r] ∧ r.item.dsn = d ∧
      s.pair.state = .solo ∧ s.dl.reorder = []) ∧
    (∃ (t : Time) (d : Nat) (r : DlRec) (s : State), s.carries d 4 = true ∧ s.dl.recs = [r] ∧ r.item.dsn = d ∧ s.pair.state = .solo ∧
      s.dl.reorder = [] ∧ fifoNow (s.arrive t) < 64) :=
  ⟨⟨0, fromHead 3 0 5 1 0 (oneItem nodeItem), oneItem nodeItem, nodeItem, [1, 2, 3, 4],
      { ferrySession with dl := { sync := false, nextDsn := 1 } }, by decide +kernel, by decide +kernel, by decide +kernel,
      by decide +kernel, by decide +kernel, by decide +kernel, by decide +kernel, by decide +kernel, by decide +kernel,
      by decide +kernel, by decide +kernel, by decide +kernel⟩,
    ⟨0, 1, [1, 2, 3, 4], { item := nodeItem, since := sec 4990, state := .waiting },
      { up with dl := { sync := false, nextDsn := 2, recs := [{ item := nodeItem, since := sec 4990, state := .waiting }] } },
      by decide +kernel, by decide +kernel, by decide +kernel, by decide +kernel, by decide +kernel, by decide +kernel,
      by decide +kernel, by decide +kernel, by decide +kernel⟩,
    ⟨sec 4999, sec 4999, 77, { item := nodeItem, since := sec 4990, state := .begun (sec 4999) }, [1, 2, 3, 4],
      { up with dl := { sync := false, nextDsn := 2, recs := [{ item := nodeItem, since := sec 4990, state := .begun (sec 4999) }] } },
      by decide +kernel, by decide +kernel, by decide +kernel, by decide +kernel, by decide +kernel, by decide +kernel,
      by decide +kernel, by decide +kernel, by decide +kernel⟩,
    ⟨up, by decide +kernel, by decide +kernel⟩,
    ⟨1, 24, [24], { item := cmdItem 1 2 [24], since := sec 4990, state := .carrying }, soloDoing 2 [24], by decide +kernel,
      by decide +kernel, by decide +kernel, by decide +kernel, by decide +kernel, by decide +kernel, by decide +kernel⟩,
    ⟨1, [21], { item := cmdItem 1 3 [21], since := sec 4990, state := .carrying }, soloDoing 3 [21], by decide +kernel, by decide +kernel,
      by decide +kernel, by decide +kernel, by decide +kernel, by decide +kernel⟩,
    ⟨0, 1, { item := cmdItem 1 4 [], since := sec 4990, state := .carrying }, soloDoing 4, by decide +kernel, by decide +kernel,
      by decide +kernel, by decide +kernel, by decide +kernel, by decide +kernel⟩⟩

theorem met_ferrySession :
    (∃ (f : FerryFrame) (s : State), (ferryHeadRead (ofBytes f.payload)).type = 8 ∧ s.packetUp = true ∧ inTable s f = false) ∧
    (∃ (t : Time) (s : State), ferryMay s = true ∧ s.fry.hbAt + hbInterval s ≤ (s.arrive t).clock.now ∧ s.pair.state = .solo ∧ s.fry.txNo +
      1 < s.fry.txCeiling) ∧
    (∃ (t : Time) (s : State), ferryUp s = true ∧ s.fry.peerLost = false ∧ s.fry.lastHeard + 10 * hbInterval s ≤ (s.arrive t).clock.now ∧
      endpoints s = [s.fry.endpoint]) ∧
    (∃ (k : VKey) (s : State), ferryUp s = true ∧ s.fry.advertised = true ∧ s.fry.session = 0 ∧ keyAt s 6 0 = some k ∧ k.status = .live ∧
      stale s k = false ∧ s.pair.state = .solo) ∧
    (∃ (t : Time) (k : VKey) (s : State), ferryMay s = true ∧ s.fry.opened + sec (s.fld rFryCtrl 16 8 * 3600) ≤ (s.arrive t).clock.now ∧
      keyAt s 6 0 = some k ∧ k.status = .live ∧ stale s k = false ∧ s.pair.state = .solo) ∧
    (∃ (t : Time) (w : RxWin) (x : Time) (s : State), s.fry.old = some (w, x) ∧ x + sec 10 ≤ (s.arrive t).clock.now) ∧
    (∃ (n : Nat) (e : Entry) (s : State), ferryMay s = true ∧ s.jrn.entries = [e] ∧ e.hdr.jsn = s.jrn.sentTo + 1 ∧ e.state = .accepted ∧
      s.jrn.sentTo < s.jrn.ackJsn + s.fld rFryWindow 0 21 ∧ 0 < n ∧ s.pair.state = .solo) ∧
    (∃ (t : Time) (e : Entry) (s : State), ferryMay s = true ∧ s.jrn.entries = [e] ∧ s.jrn.ackJsn < e.hdr.jsn ∧ e.hdr.jsn ≤ s.jrn.sentTo ∧
      s.jrn.ackAt + ms (s.fld rFryCtrl 0 8) ≤ (s.arrive t).clock.now ∧ s.pair.state = .solo) ∧
    (∃ (t : Time) (s : State), s.fry.adverts ≠ 0 ∧ s.leads = true ∧ s.packetUp = true ∧ s.fry.advertAt ≤ (s.arrive t).clock.now) ∧
    (∃ (p : Nat) (s : State), p < 8 ∧ reachesUs s p (fryAddr s) = true) ∧
    (∃ (p : Nat) (s : State), p < 8 ∧ reachesUs s p (fryAddr s) = true) ∧
    (∃ (p : Nat) (s : State), p < 8 ∧ octetField 32 (s.entry tFryPort p) 0 30 2 ≠ 0 ∧ s.packetUp = true) :=
  ⟨⟨{ fromHead 8 0 5 9 0 beat with dstPort := 5 }, ferrySession, by decide +kernel, by decide +kernel, by decide +kernel⟩,
    ⟨0, session, by decide +kernel, by decide +kernel, by decide +kernel, by decide +kernel⟩,
    ⟨0, { session with tables := [(tFryEndpoint * 2 ^ 32, 2 ^ 8)] }, by decide +kernel, by decide +kernel, by decide +kernel,
      by decide +kernel⟩,
    ⟨(liveKey 6 0).2, { up with fry := { advertised := true }, key := { keys := [liveKey 6 0] } }, by decide +kernel, by decide +kernel,
      by decide +kernel, by decide +kernel, by decide +kernel, by decide +kernel, by decide +kernel⟩,
    ⟨0, (liveKey 6 0).2, { session with key := { keys := [liveKey 6 0] }, clock := { now := sec 1000000, running := true } },
      by decide +kernel, by decide +kernel, by decide +kernel, by decide +kernel, by decide +kernel, by decide +kernel⟩,
    ⟨0, ⟨4, 0, 9, []⟩, sec 4990, { session with fry := { session.fry with old := some (⟨4, 0, 9, []⟩, sec 4990) } }, by decide +kernel,
      by decide +kernel⟩,
    ⟨1, entry5 .accepted, { session with jrn := { entries := [entry5 .accepted], nextJsn := 6, sentTo := 4, ackJsn := 4 } },
      by decide +kernel, by decide +kernel, by decide +kernel, by decide +kernel, by decide +kernel, by decide +kernel,
      by decide +kernel⟩,
    ⟨0, entry5 .accepted, { session with jrn := { entries := [entry5 .accepted], nextJsn := 6, sentTo := 5, ackJsn := 4 } },
      by decide +kernel, by decide +kernel, by decide +kernel, by decide +kernel, by decide +kernel, by decide +kernel⟩,
    ⟨0, { up with fry := { adverts := 3 } }, by decide +kernel, by decide +kernel, by decide +kernel, by decide +kernel⟩,
    ⟨7, { up with tables := [(tFryPort * 2 ^ 32 + 7, 2 ^ 254)], fry := { links := 0x80 } }, by decide +kernel, by decide +kernel⟩,
    ⟨7, { up with tables := [(tFryPort * 2 ^ 32 + 7, 2 ^ 254)], fry := { links := 0x80 } }, by decide +kernel, by decide +kernel⟩,
    ⟨7, { up with tables := [(tFryPort * 2 ^ 32 + 7, 2 ^ 254)] }, by decide +kernel, by decide +kernel, by decide +kernel⟩⟩

theorem met_managementReads :
    (∃ (t : Time) (f : FerryFrame) (b : Octets) (r : Word) (l : List (Word × Nat)) (s : State), (ferryRx 6 f (s.arrive t)).1 = some b ∧
      readsRead b = some (r, l)) ∧
    (∃ (t : Time) (f : FerryFrame) (b : Octets) (r : Word) (a : Word) (s : State), (ferryRx 6 f (s.arrive t)).1 = some b ∧ readsRead b =
      some (r, [(a, 1)]) ∧ a.toNat < 0x40000000 ∧ s.pair.state = .solo ∧ s.fry.session ≠ 0) ∧
    (∃ (t : Time) (f : FerryFrame) (b : Octets) (s : State), (ferryRx 6 f (s.arrive t)).1 = some b ∧ readsRead b = none) :=
  ⟨⟨0, fromHead 6 0 5 1 0 (natToOs 4 9 ++ natToOs 2 1 ++ natToOs 2 0 ++ natToOs 4 0x40000000 ++ natToOs 2 2 ++ natToOs 2 0), natToOs 4 9
      ++ natToOs 2 1 ++ natToOs 2 0 ++ natToOs 4 0x40000000 ++ natToOs 2 2 ++ natToOs 2 0, 9, [(0x40000000, 2)], ferrySession,
      by decide +kernel, by decide +kernel⟩,
    ⟨0, fromHead 6 0 5 1 0 (natToOs 4 9 ++ natToOs 2 1 ++ natToOs 2 0 ++ natToOs 4 0x3FFFFFFC ++ natToOs 2 1 ++ natToOs 2 0), natToOs 4 9
      ++ natToOs 2 1 ++ natToOs 2 0 ++ natToOs 4 0x3FFFFFFC ++ natToOs 2 1 ++ natToOs 2 0, 9, 0x3FFFFFFC, ferrySession,
      by decide +kernel, by decide +kernel, by decide +kernel, by decide +kernel, by decide +kernel⟩,
    ⟨0, fromHead 6 0 5 1 0 (natToOs 4 9 ++ natToOs 2 1), natToOs 4 9 ++ natToOs 2 1, ferrySession, by decide +kernel, by decide +kernel⟩⟩

theorem met_mirrorRecords :
    (∃ (h : MirrorHdr) (g : Nat) (s : State), inTurn h s ∧ s.pair.state = .standby ∧ g < 4096) ∧
    (∃ (h : MirrorHdr) (g : Nat) (e : EntryHdr) (s : State), inTurn h s ∧ s.pair.state = .standby ∧ g < 4096 ∧ e.kind = 1 ∧ e.ackReq = true
      ∧ entryOf s e.jsn = none ∧ s.jrn.cands = []) ∧
    (∃ (h : MirrorHdr) (g : Nat) (e : EntryHdr) (s : State), inTurn h s ∧ s.pair.state = .standby ∧ g < 4096 ∧ e.kind = 2 ∧ entryOf s e.jsn
      = none) ∧
    (∃ (h : MirrorHdr) (s : State), inTurn h s ∧ s.pair.state = .standby) ∧
    (∃ (h : MirrorHdr) (j : Nat) (e : Entry) (s : State), inTurn h s ∧ s.pair.state = .standby ∧ entryOf s j = some e ∧ e.mirrored = true ∧
      s.groupOf e.group = none ∧ afind s.txm.acks e.group = none) ∧
    (∃ (h : MirrorHdr) (s : State), inTurn h s ∧ s.pair.state = .standby) ∧
    (∃ (h : MirrorHdr) (e : Eui) (i : Nat) (n : Node) (s : State), inTurn h s ∧ s.pair.state = .standby ∧ s.indexOf e = some i ∧ s.nodeAt i
      = some n) ∧
    (∃ (h : MirrorHdr) (j : Nat) (s : State), inTurn h s ∧ s.pair.state = .standby ∧ s.jrn.ackJsn < j) ∧
    (∃ (h : MirrorHdr) (s : State), inTurn h s ∧ s.pair.state = .standby) ∧
    (∃ (h : MirrorHdr) (s : State), inTurn h s ∧ s.pair.state = .standby) ∧
    (∃ (h : MirrorHdr) (s : State), inTurn h s ∧ s.pair.state = .standby) ∧
    (∃ (h : MirrorHdr) (e : Eui) (i : Nat) (p : NodePlace) (s : State), inTurn h s ∧ s.pair.state = .standby ∧ i < nodeMax ∧ s.indexOf e =
      none ∧ anyPlace s e = some p) ∧
    (∃ (h : MirrorHdr) (c : Nat) (x : Camp) (s : State), inTurn h s ∧ s.pair.state = .standby ∧ afind s.camps c = some x) ∧
    (∃ (h : MirrorHdr) (s : State), inTurn h s ∧ s.pair.state = .standby ∧ s.timer.stepped = true) ∧
    (∃ (h : MirrorHdr) (s : State), inTurn h s ∧ s.pair.state = .standby) ∧
    (∃ (h : MirrorHdr) (s : State), inTurn h s ∧ s.pair.state = .standby) :=
  ⟨⟨turn, 4095, pairAs standby, ⟨by decide +kernel, by decide +kernel, by decide +kernel, by decide +kernel, by decide +kernel,
      by decide +kernel, by decide +kernel, by decide +kernel, by decide +kernel⟩, by decide +kernel, by decide +kernel⟩,
    ⟨turn, 4095, (entry5 .owed).hdr, pairAs standby, ⟨by decide +kernel, by decide +kernel, by decide +kernel, by decide +kernel,
      by decide +kernel, by decide +kernel, by decide +kernel, by decide +kernel, by decide +kernel⟩, by decide +kernel,
      by decide +kernel, by decide +kernel, by decide +kernel, by decide +kernel, by decide +kernel⟩,
    ⟨turn, 4095, { (entry5 .owed).hdr with kind := 2 }, pairAs standby, ⟨by decide +kernel, by decide +kernel, by decide +kernel,
      by decide +kernel, by decide +kernel, by decide +kernel, by decide +kernel, by decide +kernel, by decide +kernel⟩,
      by decide +kernel, by decide +kernel, by decide +kernel, by decide +kernel⟩,
    ⟨turn, pairAs standby, ⟨by decide +kernel, by decide +kernel, by decide +kernel, by decide +kernel, by decide +kernel,
      by decide +kernel, by decide +kernel, by decide +kernel, by decide +kernel⟩, by decide +kernel⟩,
    ⟨turn, 5, { entry5 .owed with mirrored := true },
      { pairAs standby with jrn := { entries := [{ entry5 .owed with mirrored := true }] } }, ⟨by decide +kernel, by decide +kernel,
      by decide +kernel, by decide +kernel, by decide +kernel, by decide +kernel, by decide +kernel, by decide +kernel,
      by decide +kernel⟩, by decide +kernel, by decide +kernel, by decide +kernel, by decide +kernel, by decide +kernel⟩,
    ⟨turn, pairAs standby, ⟨by decide +kernel, by decide +kernel, by decide +kernel, by decide +kernel, by decide +kernel,
      by decide +kernel, by decide +kernel, by decide +kernel, by decide +kernel⟩, by decide +kernel⟩,
    ⟨turn, 77, 5, { eui := 77 }, { homed with pair := standby }, ⟨by decide +kernel, by decide +kernel, by decide +kernel,
      by decide +kernel, by decide +kernel, by decide +kernel, by decide +kernel, by decide +kernel, by decide +kernel⟩,
      by decide +kernel, by decide +kernel, by decide +kernel⟩,
    ⟨turn, 5, pairAs standby, ⟨by decide +kernel, by decide +kernel, by decide +kernel, by decide +kernel, by decide +kernel,
      by decide +kernel, by decide +kernel, by decide +kernel, by decide +kernel⟩, by decide +kernel, by decide +kernel⟩,
    ⟨turn, pairAs standby, ⟨by decide +kernel, by decide +kernel, by decide +kernel, by decide +kernel, by decide +kernel,
      by decide +kernel, by decide +kernel, by decide +kernel, by decide +kernel⟩, by decide +kernel⟩,
    ⟨turn, pairAs standby, ⟨by decide +kernel, by decide +kernel, by decide +kernel, by decide +kernel, by decide +kernel,
      by decide +kernel, by decide +kernel, by decide +kernel, by decide +kernel⟩, by decide +kernel⟩,
    ⟨turn, pairAs standby, ⟨by decide +kernel, by decide +kernel, by decide +kernel, by decide +kernel, by decide +kernel,
      by decide +kernel, by decide +kernel, by decide +kernel, by decide +kernel⟩, by decide +kernel⟩,
    ⟨turn, 77, 5, (anyPlace (pairAs standby) 77).getD (.table 0), pairAs standby, ⟨by decide +kernel, by decide +kernel, by decide +kernel,
      by decide +kernel, by decide +kernel, by decide +kernel, by decide +kernel, by decide +kernel, by decide +kernel⟩,
      by decide +kernel, by decide +kernel, by decide +kernel, by decide +kernel⟩,
    ⟨turn, 3, ⟨campDef, .running, [0, 1], 0, 128, 0, 0, none, [], [], false⟩,
      { pairAs standby with camps := [(3, ⟨campDef, .running, [0, 1], 0, 128, 0, 0, none, [], [], false⟩)] }, ⟨by decide +kernel,
      by decide +kernel, by decide +kernel, by decide +kernel, by decide +kernel, by decide +kernel, by decide +kernel,
      by decide +kernel, by decide +kernel⟩, by decide +kernel, by decide +kernel⟩,
    ⟨turn, { pairAs standby with timer := { stepped := true } }, ⟨by decide +kernel, by decide +kernel, by decide +kernel,
      by decide +kernel, by decide +kernel, by decide +kernel, by decide +kernel, by decide +kernel, by decide +kernel⟩,
      by decide +kernel, by decide +kernel⟩,
    ⟨turn, pairAs standby, ⟨by decide +kernel, by decide +kernel, by decide +kernel, by decide +kernel, by decide +kernel,
      by decide +kernel, by decide +kernel, by decide +kernel, by decide +kernel⟩, by decide +kernel⟩,
    ⟨turn, pairAs standby, ⟨by decide +kernel, by decide +kernel, by decide +kernel, by decide +kernel, by decide +kernel,
      by decide +kernel, by decide +kernel, by decide +kernel, by decide +kernel⟩, by decide +kernel⟩⟩

theorem met_pairRecords :
    (∃ (h : MirrorHdr) (s : State), inTurn h s) ∧
    (∃ (h : MirrorHdr) (m : Nat) (j : Nat) (s : State), inTurn h s ∧ s.pair.state = .active ∧ afind s.pair.awaits m = some (.void j)) ∧
    (∃ (h : MirrorHdr) (s : State), inTurn h s) ∧
    (∃ (h : MirrorHdr) (r : Nat) (l : List (Nat × BitVec 64)) (s : State), inTurn h s ∧ s.pair.state = .standby ∧ digestsDiffer l
      s.pair.digest = [r] ∧ s.pair.differ.contains r = true ∧ s.pair.asked.contains r = false) ∧
    (∃ (h : MirrorHdr) (r : Nat) (l : List (Nat × BitVec 64)) (s : State), inTurn h s ∧ s.pair.state = .standby ∧ digestsDiffer l
      s.pair.digest = [r] ∧ s.pair.differ.contains r = false) ∧
    (∃ (h : MirrorHdr) (s : State), inTurn h s ∧ s.pair.state = .active) ∧
    (∃ (h : MirrorHdr) (r : Nat) (x : RangeEntry) (n : Node) (s : State), inTurn h s ∧ s.pair.state = .standby ∧ s.pair.asked.contains r =
      true ∧ s.nodeAt x.index = some n) ∧
    (∃ (h : MirrorHdr) (s : State), h.link < 2 ∧ s.isthmusUp = true ∧ s.pair.links.getLsbD h.link = true ∧ h.tagGood = false) ∧
    (∃ (h : MirrorHdr) (s : State), h.link < 2 ∧ s.isthmusUp = true ∧ s.pair.links.getLsbD h.link = true ∧ h.tagGood = true ∧ s.pair.paired
      = true ∧ h.mseq < s.pair.nextIn) :=
  ⟨⟨turn, pairAs standby, ⟨by decide +kernel, by decide +kernel, by decide +kernel, by decide +kernel, by decide +kernel,
      by decide +kernel, by decide +kernel, by decide +kernel, by decide +kernel⟩⟩,
    ⟨turn, 4, 5, pairAs { paired with awaits := [(4, .void 5)] }, ⟨by decide +kernel, by decide +kernel, by decide +kernel,
      by decide +kernel, by decide +kernel, by decide +kernel, by decide +kernel, by decide +kernel, by decide +kernel⟩,
      by decide +kernel, by decide +kernel⟩,
    ⟨turn, pairAs standby, ⟨by decide +kernel, by decide +kernel, by decide +kernel, by decide +kernel, by decide +kernel,
      by decide +kernel, by decide +kernel, by decide +kernel, by decide +kernel⟩⟩,
    ⟨turn, 5, [(5, 7)], pairAs { standby with differ := [5] }, ⟨by decide +kernel, by decide +kernel, by decide +kernel, by decide +kernel,
      by decide +kernel, by decide +kernel, by decide +kernel, by decide +kernel, by decide +kernel⟩, by decide +kernel,
      by decide +kernel, by decide +kernel, by decide +kernel⟩,
    ⟨turn, 5, [(5, 7)], pairAs standby, ⟨by decide +kernel, by decide +kernel, by decide +kernel, by decide +kernel, by decide +kernel,
      by decide +kernel, by decide +kernel, by decide +kernel, by decide +kernel⟩, by decide +kernel, by decide +kernel,
      by decide +kernel⟩,
    ⟨turn, pairAs paired, ⟨by decide +kernel, by decide +kernel, by decide +kernel, by decide +kernel, by decide +kernel,
      by decide +kernel, by decide +kernel, by decide +kernel, by decide +kernel⟩, by decide +kernel⟩,
    ⟨turn, 5, ⟨5, 3, false, 0, false, false⟩, { eui := 77 }, { homed with pair := { standby with asked := [5] } }, ⟨by decide +kernel,
      by decide +kernel, by decide +kernel, by decide +kernel, by decide +kernel, by decide +kernel, by decide +kernel,
      by decide +kernel, by decide +kernel⟩, by decide +kernel, by decide +kernel, by decide +kernel⟩,
    ⟨{ turn with tagGood := false }, pairAs standby, by decide +kernel, by decide +kernel, by decide +kernel, by decide +kernel⟩,
    ⟨{ turn with mseq := 0 }, pairAs standby, by decide +kernel, by decide +kernel, by decide +kernel, by decide +kernel,
      by decide +kernel, by decide +kernel⟩⟩

theorem met_tokenLine :
    (∃ (s : State), s.inService = true ∧ s.pair.state = .standby ∧ s.pair.handover = none) ∧
    (∃ (h : Handover) (s : State), s.inService = true ∧ s.pair.state = .standby ∧ s.pair.handover = some h ∧ s.pair.released = true) ∧
    (∃ (s : State), s.inService = true ∧ (s.pair.state = .resync ∨ s.pair.state = .detached)) ∧
    (∃ (s : State), s.pair.driving = true ∧ s.pair.state ≠ .solo ∧ s.start.pairRole = false) ∧
    (∃ (s : State), s.pair.driving = true ∧ s.pair.state ≠ .solo ∧ s.start.pairRole = true) ∧
    (∃ (s : State), s.pair.driving = true) ∧
    (∃ (t : Time) (s : State), s.pair.state = .taking ∧ s.pair.takeAt ≤ (s.arrive t).clock.now ∧ s.inService = true) ∧
    (∃ (t : Time) (s : State), s.pair.state = .taking ∧ s.pair.takeAt ≤ (s.arrive t).clock.now ∧ s.inService = true) :=
  ⟨⟨{ up with pair := standby }, by decide +kernel, by decide +kernel, by decide +kernel⟩,
    ⟨⟨sec 5001, 9, none, false, true⟩,
      { up with pair := { standby with handover := some ⟨sec 5001, 9, none, false, true⟩, released := true } }, by decide +kernel,
      by decide +kernel, by decide +kernel, by decide +kernel⟩,
    ⟨{ up with pair := { state := .detached } }, by decide +kernel, by decide +kernel⟩,
    ⟨{ up with pair := paired }, by decide +kernel, by decide +kernel, by decide +kernel⟩,
    ⟨{ up with pair := paired, start := { up.start with pairRole := true } }, by decide +kernel, by decide +kernel, by decide +kernel⟩,
    ⟨{ up with pair := paired }, by decide +kernel⟩,
    ⟨0, { up with pair := { standby with state := .taking, takeAt := sec 5000 } }, by decide +kernel, by decide +kernel, by decide +kernel⟩,
    ⟨0, { up with pair := { standby with state := .taking, takeAt := sec 5000 } }, by decide +kernel, by decide +kernel, by decide +kernel⟩⟩

theorem met_headsFollowTake :
    (∃ (t : Time) (s : State), s.pair.state = .taking ∧ s.pair.takeAt ≤ (s.arrive t).clock.now ∧ s.inService = true) ∧
    (∃ (t : Time) (p : Nat) (t0 : Time) (l : List Nat) (s : State), p < 32 ∧ s.pair.following = some (t0, l) ∧ p ∈ l ∧ s.controlUp = true ∧
      s.pair.state = .active ∧ t0 + us 100 + (s.port p).rtt ≤ (s.arrive t).clock.now ∧ (s.port p).state = .up ∧ (s.port
      p).headStatus.getLsbD 15 = false ∧ fifoNow (s.arrive t) < 64) ∧
    (∃ (t : Time) (p : Nat) (t0 : Time) (l : List Nat) (s : State), p < 32 ∧ s.pair.following = some (t0, l) ∧ p ∈ l ∧ s.controlUp = true ∧
      s.pair.state = .active ∧ t0 + us 100 + (s.port p).rtt ≤ (s.arrive t).clock.now ∧ (s.port p).headStatus.getLsbD 15 = true) :=
  ⟨⟨0, { up with pair := { standby with state := .taking, takeAt := sec 5000 } }, by decide +kernel, by decide +kernel, by decide +kernel⟩,
    ⟨0, 31, sec 4999, [31], { up with pair := { paired with following := some (sec 4999, [31]) }, fh := [(31, { state := .up })] },
      by decide +kernel, by decide +kernel, by decide +kernel, by decide +kernel, by decide +kernel, by decide +kernel,
      by decide +kernel, by decide +kernel, by decide +kernel⟩,
    ⟨0, 31, sec 4999, [31],
      { up with pair := { paired with following := some (sec 4999, [31]) }, fh := [(31, { state := .up, headStatus := 0x8000 })] },
      by decide +kernel, by decide +kernel, by decide +kernel, by decide +kernel, by decide +kernel, by decide +kernel,
      by decide +kernel⟩⟩

theorem met_linksAndPartner :
    (∃ (t : Time) (l : Nat) (s : State), l < 2 ∧ s.isthmusUp = true ∧ s.pair.links.getLsbD l = true ∧ s.pair.paired = false ∧ (afind
      s.pair.linkSent l).getD 0 + isthmus 256 ≤ (s.arrive t).clock.now) ∧
    (∃ (t : Time) (l : Nat) (s : State), l < 2 ∧ s.isthmusUp = true ∧ s.pair.links.getLsbD l = true ∧ s.pair.paired = true ∧ (afind
      s.pair.linkSent l).getD 0 + isthmus 256 ≤ (s.arrive t).clock.now) ∧
    (∃ (l : Nat) (s : State), l < 2 ∧ s.isthmusUp = true ∧ pairMode s = true ∧ s.pair.links.getLsbD l = false ∧ s.pair.paired = true) ∧
    (∃ (l : Nat) (s : State), l < 2 ∧ pairMode s = false) ∧
    (∃ (t : Time) (l : Nat) (lane : Bool) (s : State), l < 2 ∧ s.isthmusUp = true ∧ s.pair.links.getLsbD l = true ∧ (lane = true ∨ (afind
      s.pair.linkHeard l).getD 0 + isthmus 1024 ≤ (s.arrive t).clock.now)) ∧
    (∃ (t : Time) (s : State), s.mirrors = true ∧ s.pair.lastGood + partnerTimeout s ≤ (s.arrive t).clock.now) ∧
    (∃ (t : Time) (s : State), (s.pair.state = .standby ∨ s.pair.state = .resync) ∧ s.isthmusUp = true ∧ s.pair.lastGood + partnerTimeout s
      / 2 ≤ (s.arrive t).clock.now) ∧
    (∃ (t : Time) (g : Time) (s : State), (s.pair.state = .standby ∨ s.pair.state = .resync) ∧ s.isthmusUp = true ∧ s.pair.gapSince = some
      g ∧ g + partnerTimeout s / 2 ≤ (s.arrive t).clock.now) ∧
    (∃ (h : MirrorHdr) (x : Hello) (s : State), h.link < 2 ∧ mayPair s = true ∧ s.pair.state ≠ .taking ∧ s.pair.links.getLsbD h.link = true
      ∧ s.pair.paired = false ∧ s.key.pairState = 1 ∧ s.key.hello = none ∧ x.hmacGood = true ∧ formatsFit s x = true ∧ keyConflict s x
      = false) ∧
    (∃ (h : MirrorHdr) (x : Hello) (s : State), h.link < 2 ∧ mayPair s = true ∧ s.pair.state = .detached ∧ s.pair.links.getLsbD h.link =
      true ∧ s.pair.paired = false ∧ s.key.pairState = 1 ∧ s.key.hello = some x) :=
  ⟨⟨0, 1, { up with pair := { state := .detached, links := 3 } }, by decide +kernel, by decide +kernel, by decide +kernel,
      by decide +kernel, by decide +kernel⟩,
    ⟨0, 1, { up with pair := paired }, by decide +kernel, by decide +kernel, by decide +kernel, by decide +kernel, by decide +kernel⟩,
    ⟨1, { pairUp with pair := { paired with links := 1 } }, by decide +kernel, by decide +kernel, by decide +kernel, by decide +kernel,
      by decide +kernel⟩,
    ⟨1, { up with pair := { paired with links := 1 } }, by decide +kernel, by decide +kernel⟩,
    ⟨0, 1, true, { up with pair := paired }, by decide +kernel, by decide +kernel, by decide +kernel, by decide +kernel⟩,
    ⟨0, { up with pair := paired }, by decide +kernel, by decide +kernel⟩,
    ⟨0, { up with pair := standby }, by decide +kernel, by decide +kernel, by decide +kernel⟩,
    ⟨0, sec 4990, { up with pair := { standby with gapSince := some (sec 4990) } }, by decide +kernel, by decide +kernel,
      by decide +kernel, by decide +kernel⟩,
    ⟨⟨1, 0, 0, true, false, false⟩, hello, { pairUp with pair := { state := .detached, links := 3 }, key := { pairState := 1 } },
      by decide +kernel, by decide +kernel, by decide +kernel, by decide +kernel, by decide +kernel, by decide +kernel,
      by decide +kernel, by decide +kernel, by decide +kernel, by decide +kernel⟩,
    ⟨⟨1, 0, 0, true, false, false⟩, hello,
      { pairUp with pair := { state := .detached, links := 3 }, key := { pairState := 1, hello := some hello } }, by decide +kernel,
      by decide +kernel, by decide +kernel, by decide +kernel, by decide +kernel, by decide +kernel, by decide +kernel⟩⟩

theorem met_handoverAndResync :
    (∃ (t : Time) (s : State), s.pair.paired = true ∧ s.isthmusUp = true ∧ s.pair.fitnessAt + ms 1 ≤ (s.arrive t).clock.now) ∧
    (∃ (t : Time) (s : State), s.mirrors = true ∧ s.packetUp = true ∧ s.pair.digestAt + sec (s.fld rPairCtrl 8 8) ≤ (s.arrive t).clock.now) ∧
    (∃ (t : Time) (g : Time) (s : State), s.pair.giveUp = some g ∧ s.fld rPairCtrl 22 1 = 1 ∧ partnerStandby s = true ∧ s.pair.handover =
      none ∧ giveUpDue s = true ∧ g + sec (s.fld rPairCtrl2 0 8) ≤ (s.arrive t).clock.now ∧ s.pair.lastChange + sec 600 ≤ (s.arrive
      t).clock.now) ∧
    (∃ (t : Time) (p : Nat) (s : State), (p = 1 ∨ p = 2 ∨ p = 6) ∧ resyncing s = true ∧ s.pair.phasesDone.contains p = false ∧ phaseOver
      (s.arrive t) p = true) ∧
    (∃ (t : Time) (p : Nat) (s : State), (p = 3 ∨ p = 6) ∧ phaseOver (s.arrive t) p = false) ∧
    (∃ (s : State), resyncing s = true ∧ s.pair.phasesDone.contains 4 = false) ∧
    (∃ (s : State), s.pair.state = .resync ∧ s.pair.paired = true ∧ s.pair.phase ≠ 0 ∧ (∀ p ∈ [1, 2, 3, 4, 5, 6],
      s.pair.phasesDone.contains p = true)) ∧
    (∃ (s : State), s.pair.state = .active ∧ s.pair.paired = true ∧ s.pair.phase ≠ 0 ∧ (∀ p ∈ [1, 2, 3, 4, 5, 6],
      s.pair.phasesDone.contains p = true) ∧ s.upd.actState = 0 ∧ s.dl.recs = []) ∧
    (∃ (t : Time) (s : State), s.pair.state = .active ∧ resyncing s = true ∧ s.pair.slow = false ∧ s.pair.resyncAt + sec 60 ≤ (s.arrive
      t).clock.now) ∧
    (∃ (d : Nat) (s : State), freshCommand s d 0x201 = true ∧ s.dl.nextDsn = d ∧ partnerStandby s = true ∧ s.pair.handover = none ∧
      s.dl.reorder = [] ∧ s.fry.txNo + 1 < s.fry.txCeiling) ∧
    (∃ (d : Nat) (s : State), freshCommand s d 0x202 = true ∧ s.pair.state = .standby) ∧
    (∃ (t : Time) (h : Handover) (s : State), s.pair.handover = some h ∧ h.own = true ∧ h.commit = true ∧ s.mirrors = true ∧ h.th ≤
      (s.arrive t).clock.now ∧ s.pair.driving = true ∧ s.upd.actState = 0) :=
  ⟨⟨0, { up with pair := paired }, by decide +kernel, by decide +kernel, by decide +kernel⟩,
    ⟨0, { up with pair := { paired with digestAt := 0 } }, by decide +kernel, by decide +kernel, by decide +kernel⟩,
    ⟨0, sec 4000,
      { up with pair := { paired with giveUp := some (sec 4000), fitness := some ⟨32, 1, true, 2, 2⟩ }, regs := [(rPairCtrl, 0x00400000)] },
      by decide +kernel, by decide +kernel, by decide +kernel, by decide +kernel, by decide +kernel, by decide +kernel,
      by decide +kernel⟩,
    ⟨0, 6, { up with pair := { paired with phase := 1 } }, by decide +kernel, by decide +kernel, by decide +kernel, by decide +kernel⟩,
    ⟨0, 3, { up with pair := { standby with state := .resync, phase := 1, phasesDone := [1, 2] }, timer := { offset := 400 } },
      by decide +kernel, by decide +kernel⟩,
    ⟨{ up with pair := { paired with phase := 1 } }, by decide +kernel, by decide +kernel⟩,
    ⟨{ up with pair := { standby with state := .resync, phase := 1, phasesDone := [1, 2, 3, 4, 5, 6] } }, by decide +kernel,
      by decide +kernel, by decide +kernel, by decide +kernel⟩,
    ⟨{ up with pair := { paired with phase := 1, phasesDone := [1, 2, 3, 4, 5, 6] } }, by decide +kernel, by decide +kernel,
      by decide +kernel, by decide +kernel, by decide +kernel, by decide +kernel⟩,
    ⟨0, { up with pair := { paired with phase := 1, resyncAt := 0 } }, by decide +kernel, by decide +kernel, by decide +kernel,
      by decide +kernel⟩,
    ⟨1, { soloDoing 0x201 with pair := paired, fry := { state := 2, session := 5, lastUsed := 5, txCeiling := 100 } }, by decide +kernel,
      by decide +kernel, by decide +kernel, by decide +kernel, by decide +kernel, by decide +kernel⟩,
    ⟨1, { soloDoing 0x202 with pair := standby }, by decide +kernel, by decide +kernel⟩,
    ⟨0, ⟨sec 5000, 9, none, true, true⟩, { up with pair := { paired with handover := some ⟨sec 5000, 9, none, true, true⟩ } },
      by decide +kernel, by decide +kernel, by decide +kernel, by decide +kernel, by decide +kernel, by decide +kernel,
      by decide +kernel⟩⟩

theorem met_updateInStaging :
    (∃ (d : Nat) (a : List Byte) (m : Manifest) (s : State), soloCommand s d 0x101 ∧ s.argsOf d 0x101 = some a ∧ m = manifestRead a ∧
      beginRefused s m = false ∧ s.upd.manifest ≠ some m) ∧
    (∃ (d : Nat) (a : List Byte) (s : State), soloCommand s d 0x101 ∧ s.argsOf d 0x101 = some a ∧ beginRefused s (manifestRead a) = true) ∧
    (∃ (d : Nat) (s : State), soloCommand s d 0x103 ∧ s.upd.state ≠ .activating ∧ s.upd.state ≠ .activated) ∧
    (∃ (d : Nat) (a : List Byte) (p : Part) (m : Manifest) (s : State), soloCommand s d 0x102 ∧ s.argsOf d 0x102 = some a ∧ p = updPartRead
      a ∧ p.part < 8 ∧ s.upd.manifest = some m ∧ p.updateId = m.updateId ∧ p.piece < piecesOf m ∧ pieceHeld s p.piece = false ∧
      s.upd.buffers = []) ∧
    (∃ (e : Eui) (p : Part) (m : Manifest) (s : State), s.leads = true ∧ s.controlUp = true ∧ (List.range 16).any (fun n => nbrUsed s n &&
      nbrEui s n == e) = true ∧ p.lengthOk = true ∧ p.part < 8 ∧ s.upd.manifest = some m ∧ p.updateId = m.updateId ∧ p.piece < piecesOf
      m ∧ pieceHeld s p.piece = false ∧ s.upd.buffers = []) ∧
    (∃ (r : PieceRequest) (k : Nat) (s : State), r.port < 36 ∧ s.leads = true ∧ s.controlUp = true ∧ s.fld rUpdCtrl 2 1 = 1 ∧ (List.range
      16).any (fun n => nbrUsed s n && nbrEui s n == r.neighbour) = true ∧ (s.upd.manifest.any (fun m => m.updateId == r.updateId) =
      true) ∧ k < 64 ∧ r.want = [k] ∧ pieceHeld s (r.first + k) = true ∧ 1 ≤ s.fld rUpdCtrl2 8 4 ∧ s.upd.served = []) ∧
    (∃ (p : Nat) (copyB : Bool) (j : PieceJob) (s : State), s.upd.jobs = [j] ∧ j.piece = p ∧ j.doneA = copyB ∧ (s.clamp (flashClamp
      copyB)).holder = 12 ∧ s.controlUp = true) ∧
    (∃ (p : Nat) (j : PieceJob) (s : State), s.upd.jobs = [j] ∧ j.piece = p ∧ j.doneA = false ∧ (s.clamp (flashClamp false)).holder = 12 ∧
      s.controlUp = true ∧ s.upd.failsA = 0) :=
  ⟨⟨1, manifestArgs manifest, manifest,
      { soloDoing 0x101 (manifestArgs manifest) with key := { keys := [liveKey 8 1] }, start := slotStart }, ⟨by decide +kernel,
      by decide +kernel, by decide +kernel, by decide +kernel, _, rfl, by decide +kernel⟩, by decide +kernel, by decide +kernel,
      by decide +kernel, by decide +kernel⟩,
    ⟨1, manifestArgs { manifest with updateId := 0 }, soloDoing 0x101 (manifestArgs { manifest with updateId := 0 }), ⟨by decide +kernel,
      by decide +kernel, by decide +kernel, by decide +kernel, _, rfl, by decide +kernel⟩, by decide +kernel, by decide +kernel⟩,
    ⟨1, { soloDoing 0x103 with upd := { manifest := some manifest, state := .receiving } }, ⟨by decide +kernel, by decide +kernel,
      by decide +kernel, by decide +kernel, _, rfl, by decide +kernel⟩, by decide +kernel, by decide +kernel⟩,
    ⟨1, partArgs ⟨9, 0, 7, 5, 6, true⟩, ⟨9, 0, 7, 5, 6, true⟩, manifest,
      { soloDoing 0x102 (partArgs ⟨9, 0, 7, 5, 6, true⟩) with upd := { manifest := some manifest, state := .receiving } },
      ⟨by decide +kernel, by decide +kernel, by decide +kernel, by decide +kernel, _, rfl, by decide +kernel⟩, by decide +kernel,
      by decide +kernel, by decide +kernel, by decide +kernel, by decide +kernel, by decide +kernel, by decide +kernel,
      by decide +kernel⟩,
    ⟨8, ⟨9, 0, 7, 5, 6, true⟩, manifest,
      { up with upd := { manifest := some manifest, state := .receiving }, tables := [(tSchNbr * 2 ^ 32 + 15, 8 * 2 ^ 128)] },
      by decide +kernel, by decide +kernel, by decide +kernel, by decide +kernel, by decide +kernel, by decide +kernel,
      by decide +kernel, by decide +kernel, by decide +kernel, by decide +kernel⟩,
    ⟨⟨8, 9, 0, [0], 35⟩, 0,
      { up with upd := { manifest := some manifest, headA := some manifest, state := .receiving, heldA := [(0, 6)] }, tables := [(tSchNbr * 2 ^ 32 + 15, 8 * 2 ^ 128)], regs := [(rUpdCtrl, 4)] },
      by decide +kernel, by decide +kernel, by decide +kernel, by decide +kernel, by decide +kernel, by decide +kernel,
      by decide +kernel, by decide +kernel, by decide +kernel, by decide +kernel, by decide +kernel⟩,
    ⟨0, true, ⟨0, 5, 6, true⟩,
      { up with upd := { manifest := some manifest, headA := some manifest, headB := some manifest, heldA := [(0, 6)], state := .receiving, okA := true, okB := true, jobs := [⟨0, 5, 6, true⟩] }, hlt := { clamps := [(73, { holder := 12 })] } },
      by decide +kernel, by decide +kernel, by decide +kernel, by decide +kernel, by decide +kernel⟩,
    ⟨0, ⟨0, 5, 6, false⟩,
      { up with upd := { manifest := some manifest, headA := some manifest, headB := some manifest, state := .receiving, okA := true, okB := true, jobs := [⟨0, 5, 6, false⟩] }, hlt := { clamps := [(72, { holder := 12 })] } },
      by decide +kernel, by decide +kernel, by decide +kernel, by decide +kernel, by decide +kernel, by decide +kernel⟩⟩

theorem met_activateAndConfirm :
    (∃ (d : Nat) (ok : Bool) (s : State), soloCommand s d 0x104 ∧ activateOk s ok = true ∧ s.clamp (flashClamp !s.start.slot) = {}) ∧
    (∃ (s : State), s.controlUp = true ∧ s.upd.state = .activating ∧ (s.clamp (flashClamp s.upd.target)).holder = 13) ∧
    (∃ (s : State), s.controlUp = true ∧ s.pair.state = .active ∧ s.upd.state = .none ∧ s.upd.actState = 1) ∧
    (∃ (t : Time) (s : State), s.pair.state = .active ∧ s.controlUp = true ∧ s.upd.actState = 2 ∧ s.upd.act = none ∧ s.upd.since + sec
      (s.fld rUpdCtrl 24 8 * 10) ≤ (s.arrive t).clock.now) ∧
    (∃ (d : Nat) (s : State), soloCommand s d 0x105 ∧ unconfirmed s = true ∧ s.upd.act = none ∧ s.upd.actState = 0 ∧ s.upd.manifest = none) ∧
    (∃ (t : Time) (s : State), confirmDue (s.arrive t) = true ∧ s.pair.state = .solo ∧ unconfirmed s = true ∧ s.upd.act = none ∧
      s.upd.actState = 0 ∧ s.upd.manifest = none) ∧
    (∃ (d : Nat) (h : ImageHdr) (c : Word) (w : Word) (s : State), soloCommand s d 0x106 ∧ unconfirmed s = true ∧ s.start.slot = false ∧
      s.start.slotA = .read h c w) ∧
    (∃ (d : Nat) (n : Nat) (a : List Byte) (o : Bool) (s : State), soloCommand s d 0x107 ∧ s.argsOf d 0x107 = some a ∧ octetAt a 0 = n ∧ n
      < 4 ∧ slotInUse s n o = false ∧ s.upd.state ≠ .verified ∧ (List.range 4).filter (keySlotLive s) ≠ [n]) :=
  ⟨⟨1, true,
      { soloDoing 0x104 with upd := { manifest := some manifest, state := .verified }, start := { up.start with confirmed := true } },
      ⟨by decide +kernel, by decide +kernel, by decide +kernel, by decide +kernel, _, rfl, by decide +kernel⟩, by decide +kernel,
      by decide +kernel⟩,
    ⟨{ up with upd := { manifest := some manifest, state := .activating, target := true, act := some ⟨1, false⟩ }, hlt := { clamps := [(73, { holder := 13 })] } },
      by decide +kernel, by decide +kernel, by decide +kernel⟩,
    ⟨{ up with pair := paired, upd := { actState := 1 } }, by decide +kernel, by decide +kernel, by decide +kernel, by decide +kernel⟩,
    ⟨0, { up with pair := paired, upd := { actState := 2 } }, by decide +kernel, by decide +kernel, by decide +kernel, by decide +kernel,
      by decide +kernel⟩,
    ⟨1, { soloDoing 0x105 with start := { up.start with image := some imageHdr } }, ⟨by decide +kernel, by decide +kernel,
      by decide +kernel, by decide +kernel, _, rfl, by decide +kernel⟩, by decide +kernel, by decide +kernel, by decide +kernel,
      by decide +kernel⟩,
    ⟨0,
      { up with start := { up.start with image := some imageHdr }, upd := { ackMoved := true }, fry := { session := 1 }, hlt := { confirmSince := some 5 } },
      by decide +kernel, by decide +kernel, by decide +kernel, by decide +kernel, by decide +kernel, by decide +kernel⟩,
    ⟨1, imageHdr, 0xFFFFFFFF#32, 0xFFFFFFFF#32,
      { soloDoing 0x106 with start := { up.start with image := some imageHdr, slotA := .read imageHdr 0xFFFFFFFF 0xFFFFFFFF } },
      ⟨by decide +kernel, by decide +kernel, by decide +kernel, by decide +kernel, _, rfl, by decide +kernel⟩, by decide +kernel,
      by decide +kernel, by decide +kernel⟩,
    ⟨1, 3, [3], false, { soloDoing 0x107 [3] with start := slotStart }, ⟨by decide +kernel, by decide +kernel, by decide +kernel,
      by decide +kernel, _, rfl, by decide +kernel⟩, by decide +kernel, by decide +kernel, by decide +kernel, by decide +kernel,
      by decide +kernel, by decide +kernel⟩⟩

theorem met_campaigns :
    (∃ (d : Nat) (b : Nat) (a : List Byte) (x : CampDef) (s : State), soloCommand s d 0x110 ∧ s.argsOf d 0x110 = some a ∧ x = campDefRead a
      ∧ campPlace s (fragsOf x * 64) = some b ∧ campDefOk x = true ∧ afind s.camps x.campaign = none ∧ (keyAt s 5 x.keyId).any (fun k
      => k.status == .live) = true) ∧
    (∃ (d : Nat) (c : Nat) (f : Nat) (a : List Byte) (k : Camp) (s : State), soloCommand s d 0x111 ∧ s.argsOf d 0x111 = some a ∧ octetAt a
      0 = c ∧ octetAt a 1 = 1 ∧ beAt a 4 4 = f ∧ afind s.camps c = some k ∧ k.state = .loading ∧ k.frags = [] ∧ f < fragsOf k.defn ∧ 2
      ≤ fragsOf k.defn) ∧
    (∃ (d : Nat) (c : Nat) (a : List Byte) (k : Camp) (s : State), soloCommand s d 0x111 ∧ s.argsOf d 0x111 = some a ∧ octetAt a 0 = c ∧
      octetAt a 1 = 1 ∧ beAt a 4 4 = 0 ∧ afind s.camps c = some k ∧ k.state = .loading ∧ k.frags = [] ∧ fragsOf k.defn = 1) ∧
    (∃ (d : Nat) (c : Nat) (i : Nat) (a : List Byte) (e : Eui) (k : Camp) (s : State), soloCommand s d 0x112 ∧ s.argsOf d 0x112 = some a ∧
      octetAt a 0 = c ∧ membersRead a = [e] ∧ afind s.camps c = some k ∧ k.state = .ready ∧ s.indexOf e = some i ∧ afind s.prog i =
      none) ∧
    (∃ (d : Nat) (c : Nat) (a : List Byte) (k : Camp) (s : State), soloCommand s d 0x113 ∧ s.argsOf d 0x113 = some a ∧ octetAt a 0 = c ∧
      afind s.camps c = some k ∧ (k.state = .ready ∨ k.state = .paused)) ∧
    (∃ (d : Nat) (c : Nat) (a : List Byte) (k : Camp) (s : State), soloCommand s d 0x114 ∧ s.argsOf d 0x114 = some a ∧ octetAt a 0 = c ∧
      afind s.camps c = some k ∧ k.state = .running ∧ s.txm.bookings = []) ∧
    (∃ (d : Nat) (c : Nat) (a : List Byte) (k : Camp) (s : State), soloCommand s d 0x115 ∧ s.argsOf d 0x115 = some a ∧ octetAt a 0 = c ∧
      afind s.camps c = some k ∧ s.txm.bookings = []) ∧
    (∃ (t : Time) (c : Nat) (k : Camp) (s : State) (i : Nat) (p : ProgRec), c < 64 ∧ afind s.camps c = some k ∧ k.state = .running ∧
      s.leads = true ∧ s.controlUp = true ∧ windowOpen k.defn (s.arrive t).clock.now = true ∧ k.opened = none ∧ k.list = [] ∧ k.repairs
      = [] ∧ s.fwd.floods = [] ∧ k.round = 0 ∧ 1 ≤ k.defn.maxRounds ∧ s.prog = [(i, p)] ∧ p.campaign = c ∧ p.active 1 = true ∧
      p.haveUntil < fragsOf k.defn) :=
  ⟨⟨1, 0, campArgs campDef, campDef, { soloDoing 0x110 (campArgs campDef) with key := { keys := [liveKey 5 1] } }, ⟨by decide +kernel,
      by decide +kernel, by decide +kernel, by decide +kernel, _, rfl, by decide +kernel⟩, by decide +kernel, by decide +kernel,
      by decide +kernel, by decide +kernel, by decide +kernel, by decide +kernel⟩,
    ⟨1, 3, 1, dataArgs 3 1, ⟨campDef, .loading, [], 0, 128, 0, 0, none, [], [], false⟩,
      { soloDoing 0x111 (dataArgs 3 1) with camps := [(3, ⟨campDef, .loading, [], 0, 128, 0, 0, none, [], [], false⟩)] },
      ⟨by decide +kernel, by decide +kernel, by decide +kernel, by decide +kernel, _, rfl, by decide +kernel⟩, by decide +kernel,
      by decide +kernel, by decide +kernel, by decide +kernel, by decide +kernel, by decide +kernel, by decide +kernel,
      by decide +kernel, by decide +kernel⟩,
    ⟨1, 3, dataArgs 3 0, ⟨{ campDef with imageLength := 64 }, .loading, [], 0, 64, 0, 0, none, [], [], false⟩,
      { soloDoing 0x111 (dataArgs 3 0) with camps := [(3, ⟨{ campDef with imageLength := 64 }, .loading, [], 0, 64, 0, 0, none, [], [], false⟩)] },
      ⟨by decide +kernel, by decide +kernel, by decide +kernel, by decide +kernel, _, rfl, by decide +kernel⟩, by decide +kernel,
      by decide +kernel, by decide +kernel, by decide +kernel, by decide +kernel, by decide +kernel, by decide +kernel,
      by decide +kernel⟩,
    ⟨1, 3, 5, memberArgs 3 77, 77, ⟨campDef, .ready, [0, 1], 0, 128, 0, 0, none, [], [], false⟩,
      { soloDoing 0x112 (memberArgs 3 77) with camps := [(3, ⟨campDef, .ready, [0, 1], 0, 128, 0, 0, none, [], [], false⟩)], fwd := { nodes := [(5, { eui := 77 })] } },
      ⟨by decide +kernel, by decide +kernel, by decide +kernel, by decide +kernel, _, rfl, by decide +kernel⟩, by decide +kernel,
      by decide +kernel, by decide +kernel, by decide +kernel, by decide +kernel, by decide +kernel, by decide +kernel⟩,
    ⟨1, 3, [3], ⟨campDef, .paused, [0, 1], 0, 128, 0, 0, none, [], [], false⟩,
      { soloDoing 0x113 [3] with camps := [(3, ⟨campDef, .paused, [0, 1], 0, 128, 0, 0, none, [], [], false⟩)] }, ⟨by decide +kernel,
      by decide +kernel, by decide +kernel, by decide +kernel, _, rfl, by decide +kernel⟩, by decide +kernel, by decide +kernel,
      by decide +kernel, by decide +kernel⟩,
    ⟨1, 3, [3], ⟨campDef, .running, [0, 1], 0, 128, 0, 0, none, [], [], false⟩,
      { soloDoing 0x114 [3] with camps := [(3, ⟨campDef, .running, [0, 1], 0, 128, 0, 0, none, [], [], false⟩)] }, ⟨by decide +kernel,
      by decide +kernel, by decide +kernel, by decide +kernel, _, rfl, by decide +kernel⟩, by decide +kernel, by decide +kernel,
      by decide +kernel, by decide +kernel, by decide +kernel⟩,
    ⟨1, 3, [3], ⟨campDef, .running, [0, 1], 0, 128, 0, 0, none, [], [], false⟩,
      { soloDoing 0x115 [3] with camps := [(3, ⟨campDef, .running, [0, 1], 0, 128, 0, 0, none, [], [], false⟩)] }, ⟨by decide +kernel,
      by decide +kernel, by decide +kernel, by decide +kernel, _, rfl, by decide +kernel⟩, by decide +kernel, by decide +kernel,
      by decide +kernel, by decide +kernel⟩,
    ⟨0, 3, ⟨campDef, .running, [0, 1], 0, 128, 0, 0, none, [], [], false⟩,
      { up with camps := [(3, ⟨campDef, .running, [0, 1], 0, 128, 0, 0, none, [], [], false⟩)], prog := [(5, ⟨3, 1, 0, 0, [], 0⟩)] },
      5, ⟨3, 1, 0, 0, [], 0⟩, by decide +kernel, by decide +kernel, by decide +kernel, by decide +kernel, by decide +kernel,
      by decide +kernel, by decide +kernel, by decide +kernel, by decide +kernel, by decide +kernel, by decide +kernel,
      by decide +kernel, by decide +kernel, by decide +kernel, by decide +kernel, by decide +kernel⟩⟩

theorem met_quayItems :
    (∃ (a : Agent) (q : Nat) (n : Nat) (s : State), q < 64 ∧ s.packetUp = true ∧ produces s a q = true ∧ (s.quay q).opened = none ∧ 1 ≤ n ∧
      n ≤ 16384 ∧ quayUsed s q - (s.quay q).claim + readWordsOf n ≤ quayCap s q) ∧
    (∃ (a : Agent) (q : Nat) (n : Nat) (s : State), q < 64 ∧ s.packetUp = true ∧ produces s a q = true ∧ (s.quay q).opened = none ∧ quayCap
      s q < quayUsed s q - (s.quay q).claim + readWordsOf n) ∧
    (∃ (a : Agent) (q : Nat) (s : State), q < 64 ∧ s.packetUp = true ∧ produces s a q = true ∧ (s.quay q).opened = none ∧ 1 ≤ (s.quay
      q).claim) ∧
    (∃ (a : Agent) (q : Nat) (n : Nat) (o : QItem) (s : State), q < 64 ∧ 1 ≤ n ∧ n ≤ 4 ∧ s.packetUp = true ∧ produces s a q = true ∧
      (s.quay q).opened = some o ∧ o.dropped = false ∧ o.words.length + 1 ≤ (s.quay q).claim * 8) ∧
    (∃ (a : Agent) (q : Nat) (o : QItem) (s : State), q < 64 ∧ s.packetUp = true ∧ produces s a q = true ∧ (s.quay q).opened = some o) ∧
    (∃ (a : Agent) (q : Nat) (i : QItem) (r : List QItem) (s : State), q < 64 ∧ s.packetUp = true ∧ consumes s a q = true ∧ (s.quay
      q).items = i :: r ∧ i.poison = false ∧ i.readWords ≤ (s.quay q).read + 1) ∧
    (∃ (a : Agent) (q : Nat) (i : QItem) (r : List QItem) (s : State), q < 64 ∧ s.packetUp = true ∧ consumes s a q = true ∧ (s.quay
      q).items = i :: r ∧ i.poison = false ∧ (s.quay q).read + 1 < i.readWords) ∧
    (∃ (a : Agent) (q : Nat) (i : QItem) (r : List QItem) (s : State), q < 64 ∧ s.packetUp = true ∧ consumes s a q = true ∧ (s.quay
      q).items = i :: r ∧ i.poison = false) ∧
    (∃ (a : Agent) (q : Nat) (s : State), q < 64 ∧ s.packetUp = true ∧ writes a = true ∧ (s.quay q).begun = false ∧ (s.quay q).opened =
      none) :=
  ⟨⟨.engine 0, 63, 33, quayUp, by decide +kernel, by decide +kernel, by decide +kernel, by decide +kernel, by decide +kernel,
      by decide +kernel, by decide +kernel⟩,
    ⟨.engine 0, 0, 16384, up, by decide +kernel, by decide +kernel, by decide +kernel, by decide +kernel, by decide +kernel⟩,
    ⟨.engine 0, 63, { quayUp with msys := { quays := [(63, { claim := 1 })] } }, by decide +kernel, by decide +kernel, by decide +kernel,
      by decide +kernel, by decide +kernel⟩,
    ⟨.engine 0, 63, 3, ⟨[7], 4, false, false⟩,
      { quayUp with msys := { quays := [(63, { claim := 1, opened := some ⟨[7], 4, false, false⟩ })] } }, by decide +kernel,
      by decide +kernel, by decide +kernel, by decide +kernel, by decide +kernel, by decide +kernel, by decide +kernel,
      by decide +kernel⟩,
    ⟨.engine 0, 63, ⟨[7], 4, false, false⟩,
      { quayUp with msys := { quays := [(63, { claim := 1, opened := some ⟨[7], 4, false, false⟩ })] } }, by decide +kernel,
      by decide +kernel, by decide +kernel, by decide +kernel⟩,
    ⟨.engine 0, 63, ⟨[7], 4, false, false⟩, [], { quayUp with msys := { quays := [(63, { items := [⟨[7], 4, false, false⟩] })] } },
      by decide +kernel, by decide +kernel, by decide +kernel, by decide +kernel, by decide +kernel, by decide +kernel⟩,
    ⟨.engine 0, 63, ⟨List.replicate 9 7, 36, false, false⟩, [],
      { quayUp with msys := { quays := [(63, { items := [⟨List.replicate 9 7, 36, false, false⟩] })] } }, by decide +kernel,
      by decide +kernel, by decide +kernel, by decide +kernel, by decide +kernel, by decide +kernel⟩,
    ⟨.engine 0, 63, ⟨List.replicate 9 7, 36, false, false⟩, [],
      { quayUp with msys := { quays := [(63, { items := [⟨List.replicate 9 7, 36, false, false⟩] })] } }, by decide +kernel,
      by decide +kernel, by decide +kernel, by decide +kernel, by decide +kernel⟩,
    ⟨.engine 0, 63, { quayUp with msys := { quays := [(63, { items := [⟨List.replicate 9 7, 36, false, false⟩] })] } }, by decide +kernel,
      by decide +kernel, by decide +kernel, by decide +kernel, by decide +kernel⟩⟩

theorem met_dmaChannels :
    (∃ (a : Agent) (c : Nat) (h : Nat) (s : State), c < 8 ∧ s.memoryUp = true ∧ writes a = true ∧ (s.dmaCh c).state ≠ 1 ∧ h = (s.reg
      (rMemDmaHeadLo + c * 0x400)).toNat / 32 * 32 + (s.reg (rMemDmaHeadHi + c * 0x400)).toNat * 2 ^ 32) ∧
    (∃ (a : Agent) (c : Nat) (s : State), c < 8 ∧ s.memoryUp = true ∧ writes a = true ∧ (s.dmaCh c).state = 1) ∧
    (∃ (c : Nat) (a : Nat) (b : Nat) (n : Nat) (D : Nat) (d : Descriptor) (s : State), c < 8 ∧ s.memoryUp = true ∧ (s.dmaCh c).state = 1 ∧
      D = dramBase + (s.dmaCh c).desc ∧ descriptorAt s (s.dmaCh c).desc = d ∧ d.src = (0, a) ∧ d.dst = (0, b) ∧ d.length = n ∧ d.last =
      true ∧ d.irq = false ∧ dmaPlacesOk s d = true) ∧
    (∃ (c : Nat) (s : State), c < 8 ∧ s.memoryUp = true ∧ (s.dmaCh c).state = 1 ∧ dmaPlacesOk s (descriptorAt s (s.dmaCh c).desc) = false) :=
  ⟨⟨.engine 0, 7, 0, up, by decide +kernel, by decide +kernel, by decide +kernel, by decide +kernel, by decide +kernel⟩,
    ⟨.engine 0, 7, { up with msys := { dma := [(7, { state := 1 })] } }, by decide +kernel, by decide +kernel, by decide +kernel,
      by decide +kernel⟩,
    ⟨7, 0x1000, 0x2000, 33, dramBase, descriptorAt dramUp 0, dramUp, by decide +kernel, by decide +kernel, by decide +kernel,
      by decide +kernel, by decide +kernel, by decide +kernel, by decide +kernel, by decide +kernel, by decide +kernel,
      by decide +kernel, by decide +kernel⟩,
    ⟨7, { up with msys := { dma := [(7, { state := 1 })] } }, by decide +kernel, by decide +kernel, by decide +kernel, by decide +kernel⟩⟩

theorem met_memoryAndEngines :
    (∃ (a : Nat) (chB : Bool) (s : State), a < 2 ^ 36 ∧ s.memoryUp = true ∧ (dramHomes s a).any (fun h => h.1 == chB) = true) ∧
    (∃ (a : Nat) (chB : Bool) (s : State), a < 2 ^ 36 ∧ (dramHomes s a).any (fun h => h.1 == chB) = false) ∧
    (∃ (a : Nat) (chB : Bool) (s : State), a < 2 ^ 36 ∧ s.memoryUp = true ∧ (s.ddr chB).ok = true ∧ (s.ddr !chB).ok = true ∧ inMirror s a 1
      = true ∧ (s.ddr chB).errors = []) ∧
    (∃ (s : State), s.memoryUp = true) ∧
    (∃ (chB : Bool) (s : State), s.memoryUp = true ∧ (s.ddr chB).ok = true ∧ (s.ddr chB).trained = true ∧ s.clamp 71 = {}) ∧
    (∃ (chB : Bool) (s : State), s.memoryUp = true ∧ (s.ddr chB).ok = true ∧ (s.ddr chB).trained = false ∧ s.clamp 71 =
      { holder := 10, waiting := [] } ∧ (s.ddr !chB).trained = true) ∧
    (∃ (e : Nat) (s : State), e < 12 ∧ s.controlUp = true ∧ (s.engine e).running = true ∧ shadow s e = false) ∧
    (∃ (t : Time) (e : Nat) (s : State), e < 12 ∧ s.controlUp = true ∧ (s.engine e).running = true ∧ shadow s e = false ∧ handlerCore s e =
      false ∧ (s.engine e).expiry = none ∧ (s.engine e).kick + ms (s.fldAt rEngWdog e 0 8) ≤ (s.arrive t).clock.now ∧ s.hlt.coal = [] ∧
      s.hlt.frames = [] ∧ s.hlt.queue = []) ∧
    (∃ (s : State), s.controlUp = true ∧ shadow s 1 = true ∧ (s.engine 0).running = true ∧ freezable s) :=
  ⟨⟨0, false, { up with msys := { chA := { ok := true, cap := 16 } } }, by decide +kernel, by decide +kernel, by decide +kernel⟩,
    ⟨0, true, { up with msys := { chA := { ok := true, cap := 16 } } }, by decide +kernel, by decide +kernel⟩,
    ⟨2 ^ 36 - 1, false, { up with msys := { chA := { ok := true }, chB := { ok := true } } }, by decide +kernel, by decide +kernel,
      by decide +kernel, by decide +kernel, by decide +kernel, by decide +kernel⟩,
    ⟨up, by decide +kernel⟩,
    ⟨true, { up with msys := { chB := { ok := true } } }, by decide +kernel, by decide +kernel, by decide +kernel, by decide +kernel⟩,
    ⟨true, { up with msys := { chB := { ok := true, trained := false } }, hlt := { clamps := [(71, { holder := 10 })] } },
      by decide +kernel, by decide +kernel, by decide +kernel, by decide +kernel, by decide +kernel⟩,
    ⟨11, { up with msys := { engines := [(11, { running := true })] } }, by decide +kernel, by decide +kernel, by decide +kernel,
      by decide +kernel⟩,
    ⟨0, 11, { up with msys := { engines := [(11, { running := true })] } }, by decide +kernel, by decide +kernel, by decide +kernel,
      by decide +kernel, by decide +kernel, by decide +kernel, by decide +kernel, by decide +kernel, by decide +kernel,
      by decide +kernel⟩,
    ⟨{ up with msys := { engines := [(0, { running := true }), (1, { running := true })] } }, by decide +kernel, by decide +kernel,
      by decide +kernel, ⟨by decide +kernel, by decide +kernel, by decide +kernel⟩⟩⟩

theorem met_handlerStack :
    (∃ (t : Time) (e : CoalEntry) (s : State), s.hlt.coal = [e] ∧ s.controlUp = true ∧ e.opened + ms (s.fld rHltCoal 0 7 * 100) ≤ (s.arrive
      t).clock.now ∧ fifoNow (s.arrive t) < 64) ∧
    (∃ (a : Agent) (f : HFrame) (r : List HFrame) (s : State), s.hlt.frames = f :: r ∧ s.controlUp = true ∧ writes a = true) ∧
    (∃ (t : Time) (a : Agent) (f : HFrame) (s : State), s.hlt.frames = [f] ∧ s.hlt.queue = [] ∧ s.controlUp = true ∧ writes a = true ∧
      f.unit / 2048 ≠ 24 ∧ fifoNow (s.arrive t) < 64) ∧
    (∃ (a : Agent) (f : HFrame) (r : List HFrame) (s : State), s.hlt.frames = f :: r ∧ s.controlUp = true ∧ writes a = true ∧ freezable s) ∧
    (∃ (t : Time) (f : HFrame) (r : List HFrame) (s : State), s.hlt.frames = f :: r ∧ s.controlUp = true ∧ freezable s ∧ ms (s.fld rHltCtrl
      12 8) ≤ f.onTop + ((s.arrive t).clock.now - f.since)) ∧
    (∃ (c : Nat) (f : HFrame) (r : List HFrame) (s : State), c < 4 ∧ s.hlt.frames = f :: r ∧ f.taken = true ∧ s.controlUp = true ∧
      handlerCore s c = true ∧ freezable s) :=
  ⟨⟨0, ⟨5, 6, false, 0, 0, 3, 0, false⟩, { up with hlt := { coal := [⟨5, 6, false, 0, 0, 3, 0, false⟩] } }, by decide +kernel,
      by decide +kernel, by decide +kernel, by decide +kernel⟩,
    ⟨.engine 11, hframe, [], { up with hlt := { frames := [hframe] } }, by decide +kernel, by decide +kernel, by decide +kernel⟩,
    ⟨0, .engine 11, hframe, { up with hlt := { frames := [hframe] } }, by decide +kernel, by decide +kernel, by decide +kernel,
      by decide +kernel, by decide +kernel, by decide +kernel⟩,
    ⟨.engine 11, hframe, [], { up with hlt := { frames := [hframe] } }, by decide +kernel, by decide +kernel, by decide +kernel,
      ⟨by decide +kernel, by decide +kernel, by decide +kernel⟩⟩,
    ⟨0, hframe, [], { up with hlt := { frames := [hframe] } }, by decide +kernel, by decide +kernel, ⟨by decide +kernel, by decide +kernel,
      by decide +kernel⟩, by decide +kernel⟩,
    ⟨3, hframe, [], { up with hlt := { frames := [hframe] }, regs := [(rHltCtrl, 0x0F00)] }, by decide +kernel, by decide +kernel,
      by decide +kernel, by decide +kernel, by decide +kernel, ⟨by decide +kernel, by decide +kernel, by decide +kernel⟩⟩⟩

theorem met_jigAndMaintenance :
    (∃ (s : State), s.inService = true ∧ s.fld rHltJigCtrl 0 1 = 1 ∧ s.hlt.lastSweep = none) ∧
    (∃ (s : State), s.inService = true ∧ s.hlt.test = none ∧ s.fld rHltJigCtrl 0 1 = 1 ∧ s.hlt.lastSweep.isSome = true) ∧
    (∃ (l : Nat) (s : State), l < 4096 ∧ s.inService = true ∧ s.hlt.test = none ∧ s.fld rHltJigCtrl 0 1 = 1 ∧ s.hlt.lastSweep.isSome = true
      ∧ (s.laneAt l).state = .free ∧ 41 < lanesFree s) ∧
    (∃ (j : JigTest) (s : State), s.hlt.test = some j ∧ s.controlUp = true ∧ j.again = false ∧ j.warm ≠ 9 ∧ (j.kind = 8 ∨ j.kind = 10 ∨
      j.kind = 11) ∧ j.preemptRun < 1000) ∧
    (∃ (t : Time) (d : Time) (r : JigResult) (s : State), s.hlt.test = some ⟨9, 0, 0, false, 0, none, none, d⟩ ∧ jigVerdict r = 0 ∧ d ≤
      (s.arrive t).clock.now ∧ s.controlUp = true ∧ s.hlt.jigPort = none ∧ s.hlt.retired = [] ∧ s.chn.changes = []) ∧
    (∃ (d : Nat) (a : List Byte) (s : State), soloCommand s d 0x302 ∧ s.argsOf d 0x302 = some a ∧ octetAt a 0 = 9 ∧ beAt a 1 2 = 0 ∧
      s.inService = true ∧ s.hlt.test = none) ∧
    (∃ (d : Nat) (h : Nat) (a : List Byte) (s : State), soloCommand s d 0x303 ∧ s.argsOf d 0x303 = some a ∧ octetAt a 0 = h ∧ s.inService =
      true ∧ s.hlt.test = none ∧ 32 ≤ h ∧ h < 36 ∧ s.headUp h = false ∧ s.clamp h = {}) ∧
    (∃ (d : Nat) (p : Nat) (a : List Byte) (s : State), soloCommand s d 0x304 ∧ s.argsOf d 0x304 = some a ∧ octetAt a 0 = p ∧ p < 32 ∧
      (s.port p).state ≠ .up) ∧
    (∃ (d : Nat) (slot : Nat) (a : List Byte) (s : State), soloCommand s d 0x301 ∧ s.argsOf d 0x301 = some a ∧ octetAt a 0 = slot ∧ slot <
      16) :=
  ⟨⟨{ up with regs := [(rHltJigCtrl, 1)] }, by decide +kernel, by decide +kernel, by decide +kernel⟩,
    ⟨{ up with regs := [(rHltJigCtrl, 1)], hlt := { lastSweep := some 0 } }, by decide +kernel, by decide +kernel, by decide +kernel,
      by decide +kernel⟩,
    ⟨4095, { up with regs := [(rHltJigCtrl, 1)], hlt := { lastSweep := some 0 } }, by decide +kernel, by decide +kernel, by decide +kernel,
      by decide +kernel, by decide +kernel, by decide +kernel, by decide +kernel⟩,
    ⟨⟨8, 0, 999, false, 0, none, none, 0⟩, { up with hlt := { test := some ⟨8, 0, 999, false, 0, none, none, 0⟩ } }, by decide +kernel,
      by decide +kernel, by decide +kernel, by decide +kernel, by decide +kernel, by decide +kernel⟩,
    ⟨0, 5, ⟨7, 7, 9, 9⟩, { up with hlt := { test := some ⟨9, 0, 0, false, 0, none, none, 5⟩ } }, by decide +kernel, by decide +kernel,
      by decide +kernel, by decide +kernel, by decide +kernel, by decide +kernel, by decide +kernel⟩,
    ⟨1, [9, 0, 0], soloDoing 0x302 [9, 0, 0], ⟨by decide +kernel, by decide +kernel, by decide +kernel, by decide +kernel, _, rfl,
      by decide +kernel⟩, by decide +kernel, by decide +kernel, by decide +kernel, by decide +kernel, by decide +kernel⟩,
    ⟨1, 35, [35], soloDoing 0x303 [35], ⟨by decide +kernel, by decide +kernel, by decide +kernel, by decide +kernel, _, rfl,
      by decide +kernel⟩, by decide +kernel, by decide +kernel, by decide +kernel, by decide +kernel, by decide +kernel,
      by decide +kernel, by decide +kernel, by decide +kernel⟩,
    ⟨1, 31, [31], { soloDoing 0x304 [31] with fh := [(31, { state := .fault })] }, ⟨by decide +kernel, by decide +kernel,
      by decide +kernel, by decide +kernel, _, rfl, by decide +kernel⟩, by decide +kernel, by decide +kernel, by decide +kernel,
      by decide +kernel⟩,
    ⟨1, 15, [15], { soloDoing 0x301 [15] with hlt := { dumps := [(15, dump)] } }, ⟨by decide +kernel, by decide +kernel, by decide +kernel,
      by decide +kernel, _, rfl, by decide +kernel⟩, by decide +kernel, by decide +kernel, by decide +kernel⟩⟩

theorem met_clamps :
    (∃ (a : Nat) (n : Nat) (s : State), n < 74 ∧ clampOf a n = true ∧ s.memoryUp = true ∧ s.clamp n = {}) ∧
    (∃ (a : Nat) (b : Nat) (n : Nat) (s : State), n < 74 ∧ clampOf a n = true ∧ s.memoryUp = true ∧ b ≠ 0 ∧ b ≠ a ∧ s.clamp n =
      { holder := b, waiting := [] }) ∧
    (∃ (a : Nat) (b : Nat) (n : Nat) (x : Time) (r : List (Nat × Time)) (s : State), n < 74 ∧ clampOf a n = true ∧ s.memoryUp = true ∧
      s.clamp n = { holder := a, waiting := (b, x) :: r } ∧ (∀ w ∈ (b, x) :: r, w.1 ≠ a)) ∧
    (∃ (t : Time) (b : Nat) (n : Nat) (x : Time) (s : State), n < 36 ∧ s.memoryUp = true ∧ b ≠ 3 ∧ b ≠ 0 ∧ s.clamp n =
      { holder := b, waiting := [(3, x)] } ∧ x + sec 1 ≤ (s.arrive t).clock.now) :=
  ⟨⟨15, 73, up, by decide +kernel, by decide +kernel, by decide +kernel, by decide +kernel⟩,
    ⟨15, 12, 73, { up with hlt := { clamps := [(73, { holder := 12 })] } }, by decide +kernel, by decide +kernel, by decide +kernel,
      by decide +kernel, by decide +kernel, by decide +kernel⟩,
    ⟨15, 12, 73, 0, [], { up with hlt := { clamps := [(73, { holder := 15, waiting := [(12, 0)] })] } }, by decide +kernel,
      by decide +kernel, by decide +kernel, by decide +kernel, by decide +kernel⟩,
    ⟨0, 2, 35, 0, { up with hlt := { clamps := [(35, { holder := 2, waiting := [(3, 0)] })] } }, by decide +kernel, by decide +kernel,
      by decide +kernel, by decide +kernel, by decide +kernel, by decide +kernel⟩⟩

theorem met_fatalAndDumps :
    (∃ (c : FatalCause) (s : State), 1 ≤ c.cause ∧ c.cause ≤ 12 ∧ s.start.porstLow = false ∧ freezable s) ∧
    (∃ (c : FatalCause) (s : State), 1 ≤ c.cause ∧ c.cause ≤ 12 ∧ s.start.porstLow = false ∧ s.hlt.frozen = true ∧ s.hlt.armed = false) ∧
    (∃ (s : State), s.hlt.frozen = true ∧ s.hlt.stage = .draining ∧ s.hlt.cause ≠ 6 ∧ s.clamp 71 = {}) ∧
    (∃ (s : State), s.hlt.frozen = true ∧ s.hlt.stage = .dumping ∧ s.clamp 71 = { holder := 11, waiting := [] } ∧ s.hlt.dumps = []) ∧
    (∃ (s : State), s.hlt.frozen = true ∧ s.hlt.stage = .paths ∧ staysFrozen s = true ∧ s.hlt.cause ≠ 5 ∧ s.fld rHltCtrl 1 1 = 0) ∧
    (∃ (s : State), s.hlt.frozen = true ∧ s.hlt.stage = .paths ∧ staysFrozen s = false ∧ s.hlt.cause ≠ 5 ∧ s.fld rHltCtrl 1 1 = 0 ∧
      s.start.warmLow = false ∧ s.start.holdUntilCool = false ∧ s.start.fuseLoaded = true) ∧
    (∃ (s : State), takesDump s = true ∧ s.hlt.dumps = []) ∧
    (∃ (slot : Nat) (d : DumpHdr) (s : State), slot < 8 ∧ s.controlUp = true ∧ s.inService = true ∧ afind s.hlt.dumps slot = some d ∧
      s.hlt.flashDumps = [] ∧ 1 ≤ flashSlots s) ∧
    (∃ (slot : Nat) (d : DumpHdr) (s : State), slot < 8 ∧ s.controlUp = true ∧ s.inService = true ∧ afind s.hlt.dumps slot = some d ∧
      s.hlt.flashDumps = []) ∧
    (∃ (slot : Nat) (d : DumpHdr) (s : State), s.controlUp = true ∧ s.memoryUp = true ∧ afind s.hlt.flashDumps slot = some d ∧ s.hlt.dumps
      = []) :=
  ⟨⟨⟨12, 3, 4, 5⟩, up, by decide +kernel, by decide +kernel, by decide +kernel, ⟨by decide +kernel, by decide +kernel, by decide +kernel⟩⟩,
    ⟨⟨1, 0, 0, 0⟩, { up with hlt := { frozen := true, armed := false } }, by decide +kernel, by decide +kernel, by decide +kernel,
      by decide +kernel, by decide +kernel⟩,
    ⟨{ up with hlt := { frozen := true, armed := false, stage := .draining, cause := 1 } }, by decide +kernel, by decide +kernel,
      by decide +kernel, by decide +kernel⟩,
    ⟨{ up with hlt := { frozen := true, armed := false, stage := .dumping, cause := 1, clamps := [(71, { holder := 11 })] } },
      by decide +kernel, by decide +kernel, by decide +kernel, by decide +kernel⟩,
    ⟨{ up with hlt := { frozen := true, armed := false, stage := .paths, cause := 1 }, regs := [(rHltCtrl, 0)] }, by decide +kernel,
      by decide +kernel, by decide +kernel, by decide +kernel, by decide +kernel⟩,
    ⟨{ up with hlt := { frozen := true, armed := false, stage := .paths, cause := 1 }, regs := [(rHltCtrl, 0x00300001)] },
      by decide +kernel, by decide +kernel, by decide +kernel, by decide +kernel, by decide +kernel, by decide +kernel,
      by decide +kernel, by decide +kernel⟩,
    ⟨{ up with pair := { state := .detached, links := 1 } }, by decide +kernel, by decide +kernel⟩,
    ⟨7, dump, { up with hlt := { dumps := [(7, dump)] }, start := { up.start with image := some imageHdr } }, by decide +kernel,
      by decide +kernel, by decide +kernel, by decide +kernel, by decide +kernel, by decide +kernel⟩,
    ⟨7, dump, { up with hlt := { dumps := [(7, dump)] } }, by decide +kernel, by decide +kernel, by decide +kernel, by decide +kernel,
      by decide +kernel⟩,
    ⟨3, dump, { up with hlt := { flashDumps := [(3, dump)] } }, by decide +kernel, by decide +kernel, by decide +kernel, by decide +kernel⟩⟩

theorem met_windowAndRegisters :
    (∃ (a : Agent) (q : Nat) (s : State), writes a = true ∧ s.hlt.frozen = false ∧ s.start.porstLow = false ∧ s.evr.oldest ≤ q ∧ q < 2 ^
      48) ∧
    (∃ (a : Agent) (q : Nat) (s : State), writes a = true ∧ s.hlt.frozen = false ∧ s.start.porstLow = false ∧ q < s.evr.oldest ∧ q < 2 ^
      48) ∧
    (∃ (s : State), s.start.porstLow = false) ∧
    (∃ (s : State), reaches s .mgt = true) ∧
    (∃ (s : State), reaches s .mgt = true ∧ inControl s.hlt.mgtAddr = true ∧ s.hlt.mgtAddr % 4 = 0 ∧ placeAt s.hlt.mgtAddr ≠ .none ∧
      islandHeld s s.hlt.mgtAddr = false ∧ isLo s.hlt.mgtAddr = false ∧ isHi s.hlt.mgtAddr = false) ∧
    (∃ (g : Agent) (a : Word) (s : State), reaches s g = true ∧ inControl a.toNat = true ∧ a.toNat % 4 = 0 ∧ placeAt a.toNat ≠ .none ∧
      islandHeld s a.toNat = false ∧ isLo a.toNat = true) ∧
    (∃ (g : Agent) (a : Word) (w : Word) (s : State), reaches s g = true ∧ inControl a.toNat = true ∧ a.toNat % 4 = 0 ∧ placeAt a.toNat ≠
      .none ∧ islandHeld s a.toNat = false ∧ isLo a.toNat = false ∧ isHi a.toNat = true ∧ latched s g a.toNat = some w) ∧
    (∃ (g : Agent) (a : Word) (n : Nat) (s : State), (n = 1 ∨ n = 2) ∧ a.toNat % n = 0 ∧ reaches s g = true ∧ inControl a.toNat = true ∧
      (match placeAt (a.toNat / 4 * 4) with | .card _ => true | _ => false) = true ∧ islandHeld s (a.toNat / 4 * 4) = false ∧ isLo
      (a.toNat / 4 * 4) = false ∧ isHi (a.toNat / 4 * 4) = false ∧ a.toNat / 4 * 4 ≠ 0x4170003C) ∧
    (∃ (g : Agent) (a : Word) (n : Nat) (s : State), (n = 2 ∨ n = 4) ∧ a.toNat % n ≠ 0 ∧ reaches s g = true ∧ inControl a.toNat = true) ∧
    (∃ (e : Nat) (a : Word) (c : Card) (s : State), s.start.phase = .p9 ∧ s.start.waiting = none ∧ reaches s (.engine e) = true ∧ inControl
      a.toNat = true ∧ a.toNat % 4 = 0 ∧ placeAt a.toNat = .card c ∧ islandHeld s a.toNat = false ∧ c.view = false ∧ c.rwl = 0 ∧ c.rw ≠
      0 ∧ (blockOf a.toNat).1 = 24) ∧
    (∃ (e : Nat) (a : Word) (n : Nat) (s : State), s.start.phase = .p9 ∧ s.start.waiting = none ∧ reaches s (.engine e) = true ∧ inControl
      a.toNat = true ∧ ((n = 4 ∧ a.toNat % 4 ≠ 0) ∨ n = 1 ∨ n = 2)) :=
  ⟨⟨.engine 0, 2 ^ 48 - 1, up, by decide +kernel, by decide +kernel, by decide +kernel, by decide +kernel, by decide +kernel⟩,
    ⟨.engine 0, 4, { up with evr := { head := 5, oldest := 5 } }, by decide +kernel, by decide +kernel, by decide +kernel,
      by decide +kernel, by decide +kernel⟩,
    ⟨up, by decide +kernel⟩,
    ⟨up, by decide +kernel⟩,
    ⟨{ up with hlt := { mgtAddr := rHltCtrl } }, by decide +kernel, by decide +kernel, by decide +kernel, by decide +kernel,
      by decide +kernel, by decide +kernel, by decide +kernel⟩,
    ⟨.engine 0, loAddr, up, by decide +kernel, by decide +kernel, by decide +kernel, by decide +kernel, by decide +kernel,
      by decide +kernel⟩,
    ⟨.engine 0, hiAddr, 5, { up with latches := [(.engine 0, hiAddr.toNat, 5)] }, by decide +kernel, by decide +kernel, by decide +kernel,
      by decide +kernel, by decide +kernel, by decide +kernel, by decide +kernel, by decide +kernel⟩,
    ⟨.engine 0, 0x4180202E#32, 2, up, by decide +kernel, by decide +kernel, by decide +kernel, by decide +kernel, by decide +kernel,
      by decide +kernel, by decide +kernel, by decide +kernel, by decide +kernel⟩,
    ⟨.mgt, 0x41802031#32, 2, up, by decide +kernel, by decide +kernel, by decide +kernel, by decide +kernel⟩,
    ⟨11, 0x4180202C#32, (cardOf 0x4180202C).getD ⟨0, 0, 0, 0, 0, 0, 0, false, false⟩, up, by decide +kernel, by decide +kernel,
      by decide +kernel, by decide +kernel, by decide +kernel, by decide +kernel, by decide +kernel, by decide +kernel,
      by decide +kernel, by decide +kernel, by decide +kernel⟩,
    ⟨11, 0x40000001, 4, up, by decide +kernel, by decide +kernel, by decide +kernel, by decide +kernel, by decide +kernel⟩⟩

theorem met_temperature :
    (∃ (s : State), s.hlt.overArmed = true ∧ 110 * 16 ≤ s.hlt.temp ∧ s.start.porstLow = false ∧ s.hlt.frames = [] ∧ s.hlt.queue = []) ∧
    (∃ (s : State), s.start.porstLow = false ∧ freezable s) ∧
    (∃ (tj : Int) (s : State), -32768 ≤ tj ∧ tj < 32768 ∧ s.start.phase ≠ .p0 ∧ s.start.phase ≠ .p1 ∧ s.start.held = false) :=
  ⟨⟨{ up with hlt := { temp := 1760 } }, by decide +kernel, by decide +kernel, by decide +kernel, by decide +kernel, by decide +kernel⟩,
    ⟨up, by decide +kernel, ⟨by decide +kernel, by decide +kernel, by decide +kernel⟩⟩,
    ⟨32767, up, by decide +kernel, by decide +kernel, by decide +kernel, by decide +kernel, by decide +kernel⟩⟩

theorem met_coalescerRoom :
    (∃ (r : Report) (s : State), r.unit < 25 * 2048 ∧ s.controlUp = true ∧ r.degraded = false ∧ (∀ e ∈ s.hlt.coal, ¬(e.unit = r.unit ∧
      e.code = r.code)) ∧ (960 ≤ (s.hlt.coal.filter fun e => !e.degraded).length)) ∧
    (∃ (r : Report) (s : State), r.unit < 25 * 2048 ∧ s.controlUp = true ∧ r.degraded = true ∧ (∀ e ∈ s.hlt.coal, ¬(e.unit = r.unit ∧
      e.code = r.code)) ∧ 1024 ≤ s.hlt.coal.length) ∧
    (∃ (r : Report) (s : State), r.unit < 25 * 2048 ∧ s.controlUp = true ∧ r.degraded = true ∧ r.rank = 0 ∧ (∀ e ∈ s.hlt.coal, ¬(e.unit =
      r.unit ∧ e.code = r.code)) ∧ s.hlt.coal.length < 1024) ∧
    (∃ (r : Report) (s : State), r.unit < 25 * 2048 ∧ s.controlUp = true ∧ r.degraded = false ∧ r.rank = 0 ∧ (∀ e ∈ s.hlt.coal, ¬(e.unit =
      r.unit ∧ e.code = r.code)) ∧ s.hlt.coal.length < 1024 ∧ (s.hlt.coal.filter fun e => !e.degraded).length < 960) :=
  ⟨⟨⟨5, 6, false, 0, 0⟩, { up with hlt := { coal := List.replicate 960 ⟨5, 7, false, 0, 0, 1, 0, false⟩ } }, by decide +kernel,
      by decide +kernel, by decide +kernel, by decide +kernel, by decide +kernel⟩,
    ⟨⟨5, 6, true, 0, 0⟩, { up with hlt := { coal := List.replicate 1024 ⟨5, 7, false, 0, 0, 1, 0, false⟩ } }, by decide +kernel,
      by decide +kernel, by decide +kernel, by decide +kernel, by decide +kernel⟩,
    ⟨⟨51199, 6, true, 0, 0⟩, up, by decide +kernel, by decide +kernel, by decide +kernel, by decide +kernel, by decide +kernel,
      by decide +kernel⟩,
    ⟨⟨51199, 6, false, 0, 0⟩, up, by decide +kernel, by decide +kernel, by decide +kernel, by decide +kernel, by decide +kernel,
      by decide +kernel, by decide +kernel⟩⟩

theorem met_droppedEntryEscalates :
    (∃ (t : Time) (r : Report) (e : CoalEntry) (s : State), r.unit < 25 * 2048 ∧ s.controlUp = true ∧ r.degraded = false ∧ s.hlt.coal = [e]
      ∧ e.unit = r.unit ∧ e.code = r.code ∧ e.degraded = false ∧ e.escalated = false ∧ e.count < 0xFFFFFFFF ∧ s.fld rHltCoal 8 16 =
      e.count + 1 ∧ s.hlt.frames = [] ∧ s.hlt.queue = [] ∧ fifoNow (s.arrive t) < 64) ∧
    (∃ (r : Report) (e : CoalEntry) (s : State), r.unit < 25 * 2048 ∧ s.controlUp = true ∧ r.degraded = false ∧ s.hlt.coal = [e] ∧ e.unit =
      r.unit ∧ e.code = r.code ∧ e.escalated = true) :=
  ⟨⟨0, ⟨5, 6, false, 0, 0⟩, ⟨5, 6, false, 0, 0, 511, 0, false⟩, { up with hlt := { coal := [⟨5, 6, false, 0, 0, 511, 0, false⟩] } },
      by decide +kernel, by decide +kernel, by decide +kernel, by decide +kernel, by decide +kernel, by decide +kernel,
      by decide +kernel, by decide +kernel, by decide +kernel, by decide +kernel, by decide +kernel, by decide +kernel,
      by decide +kernel⟩,
    ⟨⟨5, 6, false, 0, 0⟩, ⟨5, 6, false, 0, 0, 0xFFFFFFFF, 0, true⟩,
      { up with hlt := { coal := [⟨5, 6, false, 0, 0, 0xFFFFFFFF, 0, true⟩] } }, by decide +kernel, by decide +kernel,
      by decide +kernel, by decide +kernel, by decide +kernel, by decide +kernel, by decide +kernel⟩⟩

theorem met_straitsHoldAndLose :
    (∃ (r : Report) (s : State), r.unit < 25 * 2048 ∧ s.controlUp = false ∧ s.ready 3 = false ∧ s.islandUp (blockIsland (r.unit / 2048)) =
      true ∧ blockIsland (r.unit / 2048) ≠ 3) ∧
    (∃ (r : Report) (g : Nat) (a : AckTmpl) (s : State), r.unit / 2048 = cHltStraitParity.block ∧ r.code = cHltStraitParity.code ∧
      r.degraded = false ∧ s.controlUp = true ∧ afind s.txm.acks g = some a) ∧
    (∃ (r : Report) (g : Nat) (x : Cand) (s : State), r.unit / 2048 = cHltStraitParity.block ∧ (r.code = cHltStraitParity.code ∨ r.code =
      cHltStraitFull.code) ∧ r.degraded = false ∧ s.controlUp = true ∧ afind s.jrn.cands g = some x ∧ x.state ≠ .mirror) ∧
    (∃ (r : Report) (k : Nat) (x : Context) (s : State), r.unit / 2048 = cLaneSpillDrop.block ∧ r.code = cLaneSpillDrop.code ∧ r.degraded =
      false ∧ s.controlUp = true ∧ afind s.lane.contexts k = some x) :=
  ⟨⟨⟨13 * 2048, 0x2A, false, 0, 0⟩, { up with start := { up.start with islands := 0xF7 } }, by decide +kernel, by decide +kernel,
      by decide +kernel, by decide +kernel, by decide +kernel⟩,
    ⟨⟨cHltStraitParity.block * 2048, cHltStraitParity.code, false, 0, 0⟩, 8191, { template with released := true },
      { up with txm := { acks := [(8191, { template with released := true })] } }, by decide +kernel, by decide +kernel,
      by decide +kernel, by decide +kernel, by decide +kernel⟩,
    ⟨⟨cHltStraitParity.block * 2048, cHltStraitParity.code, false, 0, 0⟩, 4095, { state := .open },
      { up with jrn := { cands := [(4095, { state := .open })] } }, by decide +kernel, by decide +kernel, by decide +kernel,
      by decide +kernel, by decide +kernel, by decide +kernel⟩,
    ⟨⟨cLaneSpillDrop.block * 2048, cLaneSpillDrop.code, false, 0, 0⟩, 255, ⟨4095, [], 0, none⟩,
      { laneAs .payload alone with lane := { lanes := [(4095, { state := .payload, group := 9, context := some 255 })], groups := [(9, alone)], contexts := [(255, ⟨4095, [], 0, none⟩)] } },
      by decide +kernel, by decide +kernel, by decide +kernel, by decide +kernel, by decide +kernel⟩⟩

end Sys2Proof.Tests
end

/-! PROOFS. What a command leaves of the anchor: from the operations (Laws/Anchor*.lean) to the meanings of the commands. Every command but
those of `mayMoveAnchor` leaves the memory, what is kept of it, the fuses and the queue alone. -/

namespace Sys2Proof.Machine
open Sys2Proof Host

/-- What a meaning answers has the anchor of the state that the meaning gives: to settle moves none of it. -/
theorem anchor_of_onInst {ok : Bool} {u s' : State} (h : onInst ok u = .next s') : s'.anchor = u.anchor := by
  unfold onInst at h
  split at h
  · rw [← Outcome.next.inj h, settle_anchor]
  · cases h

theorem anchor_of_taken {s s' : State} {o : Outcome State Fault Refusal} (h : o = .next s')
    (ht : (taken s o).anchor = s.anchor) : s'.anchor = s.anchor := by
  rw [← ht, h, taken]

section
variable {t : Time} {s s' : State}

/-! ### The commands of Machine/Time.lean -/

theorem execPtpSync_anchor {m : PtpMsg} (hx : execPtpSync t m s = .next s') : s'.anchor = s.anchor := by
  rw [anchor_of_onInst hx]
  simp only [anchor_mk, anchor_eta, anchor_ite, ite_self, arrive_anchor, ptpOffset_anchor, ptpTaken_anchor]

theorem execPtpFollowUp_anchor {m : PtpMsg} (hx : execPtpFollowUp t m s = .next s') : s'.anchor = s.anchor := by
  rw [anchor_of_onInst hx]
  dsimp only
  (repeat' split) <;> simp only [anchor_mk, anchor_eta, arrive_anchor, ptpOffset_anchor, ptpTaken_anchor]

theorem execPtpDelayResp_anchor {m : PtpMsg} (hx : execPtpDelayResp t m s = .next s') : s'.anchor = s.anchor := by
  rw [anchor_of_onInst hx]
  dsimp only
  (repeat' split) <;> simp only [anchor_mk, anchor_eta, arrive_anchor, ptpTaken_anchor]

theorem execPtpAnnounce_anchor {m : PtpMsg} (hx : execPtpAnnounce t m s = .next s') : s'.anchor = s.anchor := by
  rw [anchor_of_onInst hx]
  simp only [anchor_mk, anchor_eta, anchor_ite, ite_self, arrive_anchor, ptpTaken_anchor]

theorem execPtpSourceLost_anchor (hx : execPtpSourceLost t s = .next s') : s'.anchor = s.anchor := by
  rw [anchor_of_onInst hx]
  simp only [anchor_mk, anchor_eta, anchor_ite, ite_self, arrive_anchor, sourceLost_anchor]

theorem execPpsInEdge_anchor (hx : execPpsInEdge t s = .next s') : s'.anchor = s.anchor := by
  rw [anchor_of_onInst hx]
  simp only [anchor_mk, anchor_eta, anchor_ite, ite_self, arrive_anchor, bump_anchor, measure_anchor, ppsBad_anchor]

theorem execPpsEdgeMissing_anchor (hx : execPpsEdgeMissing t s = .next s') : s'.anchor = s.anchor := by
  rw [anchor_of_onInst hx]
  simp only [anchor_ite, ite_self, arrive_anchor, ppsBad_anchor]

theorem execPpsOutPulse_anchor (hx : execPpsOutPulse t s = .next s') : s'.anchor = s.anchor := by
  rw [anchor_of_onInst hx]
  simp only [anchor_mk, anchor_eta, anchor_ite, ite_self, arrive_anchor]

theorem execPpsOutFall_anchor (hx : execPpsOutFall t s = .next s') : s'.anchor = s.anchor := by
  rw [anchor_of_onInst hx]
  dsimp only
  split <;> simp only [anchor_mk, anchor_eta, anchor_ite, ite_self, arrive_anchor]

theorem execNbrBeaconHeard_anchor {n asn : Nat} {start : Time}
    (hx : execNbrBeaconHeard t n asn start s = .next s') : s'.anchor = s.anchor := by
  rw [anchor_of_onInst hx]
  dsimp only
  (repeat' split) <;> simp only [anchor_mk, anchor_eta, arrive_anchor, bump_anchor, measure_anchor, occurs_anchor, setNbr_anchor]

theorem execNbrBeaconMissed_anchor {n : Nat} (hx : execNbrBeaconMissed t n s = .next s') : s'.anchor = s.anchor := by
  rw [anchor_of_onInst hx]
  dsimp only
  split <;> simp only [anchor_mk, anchor_eta, anchor_ite, ite_self, arrive_anchor, bump_anchor, occurs_anchor, setNbr_anchor,
    sourceLost_anchor]

theorem execNbrHoldoffExpire_anchor {n : Nat} (hx : execNbrHoldoffExpire t n s = .next s') : s'.anchor = s.anchor := by
  rw [anchor_of_onInst hx]
  simp only [anchor_ite, ite_self, arrive_anchor, setNbr_anchor]

/-! ### The commands of Machine/Transmit.lean -/

theorem execTxStartCommand_anchor {id : Nat} (hx : execTxStartCommand t id s = .next s') : s'.anchor = s.anchor :=
  anchor_of_taken hx (taken_execTxStartCommand_anchor _ _ _)

theorem execAckRelease_anchor {g : Nat} (hx : execAckRelease t g s = .next s') : s'.anchor = s.anchor :=
  anchor_of_taken hx (taken_execAckRelease_anchor _ _ _)

theorem execAckLeft_anchor {g : Nat} (hx : execAckLeft t g s = .next s') : s'.anchor = s.anchor := by
  rw [anchor_of_onInst hx]
  dsimp only
  (repeat' split) <;> simp only [anchor_mk, anchor_eta, implies_true, anchor_foldl, acceptEntry_anchor, arrive_anchor, groupSettle_anchor,
    noticesBegin_anchor, startTx_anchor]

theorem execTxEnd_anchor {m overflows : Nat} (hx : execTxEnd t m overflows s = .next s') : s'.anchor = s.anchor := by
  rw [anchor_of_onInst hx]
  dsimp only
  split <;> simp only [anchor_mk, anchor_eta, anchor_ite, ite_self, arrive_anchor, bumpBy_anchor, closeBooking_anchor]

theorem execMaskMonitorEval_anchor {st : Nat} {spectra : List (List Nat)}
    (hx : execMaskMonitorEval t st spectra s = .next s') : s'.anchor = s.anchor := by
  rw [anchor_of_onInst hx]
  simp only [anchor_ite, ite_self, implies_true, anchor_foldl, arrive_anchor, muteOne_anchor]

/-! ### The commands of Machine/Schedule.lean -/

theorem execSlotBoundary_anchor (hx : execSlotBoundary t s = .next s') : s'.anchor = s.anchor := by
  rw [anchor_of_onInst hx]
  simp only [anchor_mk, anchor_eta, anchor_ite, ite_self, arrive_anchor, bookSlot_anchor, countSkips_anchor, guards_anchor,
    reopenItems_anchor, shadowCharge_anchor]

theorem execSlotframeBoundary_anchor {k : Nat} (hx : execSlotframeBoundary t k s = .next s') : s'.anchor = s.anchor := by
  rw [anchor_of_onInst hx]
  simp only [anchor_mk, anchor_eta, anchor_ite, ite_self, implies_true, anchor_foldl, applyChange_anchor, arrive_anchor,
    checkWithdrawn_anchor, leaveResync_anchor, refreshCfg_anchor, syncReclaimed_anchor]

theorem execScheduleStart_anchor (hx : execScheduleStart t s = .next s') : s'.anchor = s.anchor := by
  rw [anchor_of_onInst hx]
  simp only [anchor_mk, anchor_eta, anchor_ite, ite_self, arrive_anchor, mirror_anchor]

/-! ### The commands of Machine/Keys.lean -/

theorem execKeyLookup_anchor {g : Nat} (hx : execKeyLookup t g s = .next s') : s'.anchor = s.anchor :=
  anchor_of_taken hx (taken_execKeyLookup_anchor _ _ _)

theorem execKeyPayloadBlock_anchor {g : Nat} (hx : execKeyPayloadBlock t g s = .next s') : s'.anchor = s.anchor :=
  anchor_of_taken hx (taken_execKeyPayloadBlock_anchor _ _ _)

theorem execKeyFrameEnd_anchor {g : Nat} {fcs : Bool} {frame : SealedFrame} {blocks : Nat}
    (hx : execKeyFrameEnd t g fcs frame blocks s = .next s') : s'.anchor = s.anchor :=
  anchor_of_taken hx (taken_execKeyFrameEnd_anchor _ _ _ _ _ _)

theorem execKeyCounterUpdate_anchor {e : Eui} {counter : Nat} {digest : Word}
    (hx : execKeyCounterUpdate t e counter digest s = .next s') : s'.anchor = s.anchor :=
  anchor_of_taken hx (taken_execKeyCounterUpdate_anchor _ _ _ _ _)

theorem execKeyProtect_anchor {id : Nat} (hx : execKeyProtect t id s = .next s') : s'.anchor = s.anchor :=
  anchor_of_taken hx (taken_execKeyProtect_anchor _ _ _)

theorem execCounterCeilingWrite_anchor (hx : execCounterCeilingWrite t s = .next s') : s'.anchor = s.anchor := by
  rw [anchor_of_onInst hx]
  simp only [anchor_ite, ite_self, implies_true, anchor_foldl, arrive_anchor, recordCeiling_anchor]

theorem execKeyUnwrapDone_anchor (hx : execKeyUnwrapDone t s = .next s') : s'.anchor = s.anchor := by
  rw [anchor_of_onInst hx]
  dsimp only
  (repeat' split) <;> simp only [anchor_mk, anchor_eta, arrive_anchor, bookingFailed_anchor, bump_anchor, fillSlot_anchor,
    missDone_anchor, modNode_anchor, protectNode_anchor, rewrapNext_anchor, rewrapPump_anchor, unqueue_anchor]

theorem execKeyItem_anchor {d : Nat} (hx : execKeyItem t d s = .next s') : s'.anchor = s.anchor := by
  rw [anchor_of_onInst hx]
  dsimp only
  split <;> simp only [anchor_mk, anchor_eta, anchor_ite, ite_self, arrive_anchor, finish_anchor, queueUnwrap_anchor]

theorem execKeyLoad_anchor {d : Nat} (hx : execKeyLoad t d s = .next s') : s'.anchor = s.anchor := by
  rw [anchor_of_onInst hx]
  dsimp only
  (repeat' split) <;> simp only [anchor_mk, anchor_eta, addJob_anchor, arrive_anchor, bump_anchor, endKeyItem_anchor, keySettle_anchor,
    mirrorKey_anchor, unqueue_anchor] <;>
    rw [loadNode_anchor_of ‹_›, unqueue_anchor, arrive_anchor]

theorem execKeyRevoke_anchor {d : Nat} (hx : execKeyRevoke t d s = .next s') : s'.anchor = s.anchor := by
  rw [anchor_of_onInst hx]
  dsimp only
  split <;> simp only [arrive_anchor, voidKey_anchor]

theorem execKeyRetire_anchor {d : Nat} (hx : execKeyRetire t d s = .next s') : s'.anchor = s.anchor := by
  rw [anchor_of_onInst hx]
  dsimp only
  split <;> simp only [arrive_anchor, voidKey_anchor]

theorem execKeyRewrap_anchor {d : Nat} (hx : execKeyRewrap t d s = .next s') : s'.anchor = s.anchor := by
  rw [anchor_of_onInst hx]
  dsimp only
  split <;> simp only [anchor_mk, anchor_eta, anchor_ite, ite_self, arrive_anchor, dlTaken_anchor, endKeyItem_anchor, mirror_anchor,
    rewrapStart_anchor]

theorem execKeyRewrapWalkDone_anchor (hx : execKeyRewrapWalkDone t s = .next s') : s'.anchor = s.anchor := by
  rw [anchor_of_onInst hx]
  dsimp only
  split <;> simp only [anchor_mk, anchor_eta, anchor_ite, ite_self, arrive_anchor, endItem_anchor, freeClampOf_anchor]

theorem execKeyJournalWriteDone_anchor {ok : Bool} (hx : execKeyJournalWriteDone t ok s = .next s') : s'.anchor = s.anchor := by
  rw [anchor_of_onInst hx]
  simp only [anchor_ite, ite_self, arrive_anchor, jobWritten_anchor]

theorem execKeyJournalCompact_anchor {copyB : Bool} (hx : execKeyJournalCompact t copyB s = .next s') : s'.anchor = s.anchor := by
  rw [anchor_of_onInst hx]
  simp only [anchor_mk, anchor_eta, anchor_ite, ite_self, arrive_anchor]

theorem execKeyEntropyFail_anchor (hx : execKeyEntropyFail t s = .next s') : s'.anchor = s.anchor := by
  rw [anchor_of_onInst hx]
  simp only [anchor_ite, ite_self, arrive_anchor, fatalBy_anchor]

theorem execJigLaneDrained_anchor (hx : execJigLaneDrained t s = .next s') : s'.anchor = s.anchor := by
  rw [anchor_of_onInst hx]
  dsimp only
  split <;> simp only [anchor_mk, anchor_eta, anchor_ite, ite_self, arrive_anchor]

/-! ### The commands of Machine/Acceptance.lean -/

theorem execCandidateOpen_anchor {g : Nat} (hx : execCandidateOpen t g s = .next s') : s'.anchor = s.anchor :=
  anchor_of_taken hx (taken_execCandidateOpen_anchor _ _ _)

theorem execCandidateVerdicts_anchor {g : Nat} {f : FrameInfo} (hx : execCandidateVerdicts t g f s = .next s') : s'.anchor = s.anchor :=
  anchor_of_taken hx (taken_execCandidateVerdicts_anchor _ _ _ _)

theorem execCandidateStaged_anchor {g : Nat} {roomA roomB : Bool}
    (hx : execCandidateStaged t g roomA roomB s = .next s') : s'.anchor = s.anchor := by
  rw [anchor_of_onInst hx]
  dsimp only
  (repeat' split) <;> simp only [anchor_mk, anchor_eta, arrive_anchor, candLate_anchor, decide'_anchor, mirror_anchor, modCand_anchor,
    stageFull_anchor, takeJsn_anchor]

theorem execCandidateDeadline_anchor {g : Nat} (hx : execCandidateDeadline t g s = .next s') : s'.anchor = s.anchor := by
  rw [anchor_of_onInst hx]
  dsimp only
  (repeat' split) <;> simp only [implies_true, anchor_foldl, arrive_anchor, bump_anchor, candLate_anchor, dropAck_anchor,
    groupSettle_anchor, mirrorLate_anchor, voidEntry_anchor]

theorem execOwedReleaseMissed_anchor {j : Nat} (hx : execOwedReleaseMissed t j s = .next s') : s'.anchor = s.anchor := by
  rw [anchor_of_onInst hx]
  dsimp only
  split <;> simp only [anchor_ite, ite_self, arrive_anchor, voidEntry_anchor]

theorem execStandbyCandidateTimeout_anchor {g : Nat} (hx : execStandbyCandidateTimeout t g s = .next s') : s'.anchor = s.anchor := by
  rw [anchor_of_onInst hx]
  dsimp only
  split <;> simp only [anchor_ite, ite_self, arrive_anchor, bump_anchor, candidateClose_anchor]

theorem execStandbyOwedAssume_anchor {j : Nat} (hx : execStandbyOwedAssume t j s = .next s') : s'.anchor = s.anchor := by
  rw [anchor_of_onInst hx]
  dsimp only
  split <;> simp only [anchor_ite, ite_self, acceptEntry_anchor, arrive_anchor]

theorem execDedupExpire_anchor (hx : execDedupExpire t s = .next s') : s'.anchor = s.anchor := by
  rw [anchor_of_onInst hx]
  simp only [anchor_mk, anchor_eta, anchor_ite, ite_self, arrive_anchor]

/-! ### The commands of Machine/Calibration.lean -/

theorem execCalSnippet_anchor {x : Snippet} (hx : execCalSnippet t x s = .next s') : s'.anchor = s.anchor :=
  anchor_of_taken hx (taken_execCalSnippet_anchor _ _ _)

theorem execCalStreamBlock_anchor {h : Nat} {b : BlockSums} {saturated : List (Nat × Nat)} {clipped : Nat}
    (hx : execCalStreamBlock t h b saturated clipped s = .next s') : s'.anchor = s.anchor := by
  rw [anchor_of_onInst hx]
  simp only [anchor_ite, ite_self, implies_true, anchor_foldl, arrive_anchor, bumpBy_anchor, modCal_anchor]

theorem execCalGainUpdate_anchor {h : Nat} (hx : execCalGainUpdate t h s = .next s') : s'.anchor = s.anchor := by
  rw [anchor_of_onInst hx]
  simp only [anchor_ite, ite_self, arrive_anchor, modCal_anchor]

theorem execCalDelaySolve_anchor (hx : execCalDelaySolve t s = .next s') : s'.anchor = s.anchor := by
  rw [anchor_of_onInst hx]
  simp only [anchor_mk, anchor_eta, anchor_ite, ite_self, implies_true, anchor_foldl, applySolution_anchor, arrive_anchor]

theorem execCalGenRequest_anchor {h : Nat} {transmit : Bool}
    (hx : execCalGenRequest t h transmit s = .next s') : s'.anchor = s.anchor := by
  rw [anchor_of_onInst hx]
  simp only [anchor_ite, ite_self, arrive_anchor, calTxSwitch_anchor, modCal_anchor]

theorem execCalSweepStart_anchor {h : Nat} (hx : execCalSweepStart t h s = .next s') : s'.anchor = s.anchor := by
  rw [anchor_of_onInst hx]
  dsimp only
  (repeat' split) <;> simp only [anchor_mk, anchor_eta, arrive_anchor, askClamp_anchor, modCal_anchor, sweepSkip_anchor] <;>
    rw [admitTx_anchor_of ‹_›, askClamp_anchor, arrive_anchor]

theorem execCalSweepDone_anchor {h : Nat} {measured : List (Nat × Int × Int)}
    (hx : execCalSweepDone t h measured s = .next s') : s'.anchor = s.anchor := by
  rw [anchor_of_onInst hx]
  simp only [anchor_ite, ite_self, arrive_anchor, freeClampOf_anchor, mirror_anchor, modCal_anchor, sweepSkip_anchor]

theorem execCalRecordWrite_anchor {utc : Nat} (hx : execCalRecordWrite t utc s = .next s') : s'.anchor = s.anchor := by
  rw [anchor_of_onInst hx]
  dsimp only
  split
  · rw [arrive_anchor]
  · rw [anchor_foldl _ fun _ _ => ?_, arrive_anchor]
    (repeat' split) <;> simp only [anchor_mk, anchor_eta, modCal_anchor]

theorem execCalRestore_anchor {utcNow : Nat} (hx : execCalRestore t utcNow s = .next s') : s'.anchor = s.anchor := by
  rw [anchor_of_onInst hx]
  simp only [anchor_mk, anchor_eta, anchor_ite, ite_self, implies_true, anchor_foldl, arrive_anchor, bump_anchor, calLoad_anchor]

/-! ### The commands of Machine/Lanes.lean -/

theorem execLaneAssign_anchor (hx : execLaneAssign t s = .next s') : s'.anchor = s.anchor := by
  rw [anchor_of_onInst hx]
  dsimp only
  (repeat' split) <;> simp only [anchor_mk, anchor_eta, arrive_anchor, bump_anchor, ctxDrop_anchor, groupEmpty_anchor, jigYield_anchor,
    laneFree_anchor, laneStart_anchor, leaveGroup_anchor, setLane_anchor, strongerEnded_anchor]

theorem execLaneCaughtUp_anchor {l : Nat} (hx : execLaneCaughtUp t l s = .next s') : s'.anchor = s.anchor := by
  rw [anchor_of_onInst hx]
  simp only [anchor_ite, ite_self, arrive_anchor, modLane_anchor]

theorem execLaneSyncFound_anchor {l : Nat} {w : Word} {snr : Int} {pos : Time}
    (hx : execLaneSyncFound t l w snr pos s = .next s') : s'.anchor = s.anchor := by
  rw [anchor_of_onInst hx]
  dsimp only
  split <;> simp only [anchor_ite, ite_self, arrive_anchor, modLane_anchor, syncEject_anchor]

theorem execLanePreambleLost_anchor {l below : Nat} (hx : execLanePreambleLost t l below s = .next s') : s'.anchor = s.anchor := by
  rw [anchor_of_onInst hx]
  simp only [anchor_ite, ite_self, arrive_anchor, bump_anchor, laneLost_anchor]

theorem execLaneHeaderCheck_anchor {g : Nat} {bits : Word} {hcsOk : Bool} {ms : List MemberCheck} {sm : Summary}
    (hx : execLaneHeaderCheck t g bits hcsOk ms sm s = .next s') : s'.anchor = s.anchor := by
  rw [anchor_of_onInst hx]
  dsimp only
  (repeat' split) <;> simp only [implies_true, anchor_foldl, arrive_anchor, bump_anchor, ejectMember_anchor, groupPass_anchor,
    laneLost_anchor]

theorem execLaneAddressPoint_anchor {l : Nat} {f : LookupFields}
    (hx : execLaneAddressPoint t l f s = .next s') : s'.anchor = s.anchor := by
  rw [anchor_of_onInst hx]
  simp only [anchor_ite, ite_self, arrive_anchor, modGroup_anchor, out_anchor]

theorem execLaneFrameEnd_anchor {l : Nat} {fcsOk : Bool} {e : Time}
    (hx : execLaneFrameEnd t l fcsOk e s = .next s') : s'.anchor = s.anchor := by
  rw [anchor_of_onInst hx]
  simp only [anchor_ite, ite_self, arrive_anchor, bump_anchor, ctxDrop_anchor, ctxStop_anchor, groupDecoded_anchor, groupEmpty_anchor,
    laneFree_anchor, leaveGroup_anchor, memberEnded_anchor, modLane_anchor, rerunDue_anchor, strongerEnded_anchor]

theorem execLaneReconstruction_anchor {k l : Nat} (hx : execLaneReconstruction t k l s = .next s') : s'.anchor = s.anchor := by
  rw [anchor_of_onInst hx]
  dsimp only
  split <;> simp only [anchor_mk, anchor_eta, anchor_ite, ite_self, arrive_anchor, rerunDue_anchor]

theorem execLaneRerunEnd_anchor {l : Nat} {fcsOk : Bool} (hx : execLaneRerunEnd t l fcsOk s = .next s') : s'.anchor = s.anchor := by
  rw [anchor_of_onInst hx]
  simp only [anchor_ite, ite_self, arrive_anchor, modLane_anchor, rerunDecoded_anchor, rerunNext_anchor]

theorem execLaneSpillOverrun_anchor {k : Nat} (hx : execLaneSpillOverrun t k s = .next s') : s'.anchor = s.anchor := by
  rw [anchor_of_onInst hx]
  simp only [anchor_ite, ite_self, arrive_anchor, bump_anchor, ctxRelease_anchor]

theorem execLaneInputInvalid_anchor {l : Nat} (hx : execLaneInputInvalid t l s = .next s') : s'.anchor = s.anchor := by
  rw [anchor_of_onInst hx]
  simp only [anchor_ite, ite_self, arrive_anchor, bump_anchor, laneLost_anchor]

theorem execLaneExportDone_anchor {l : Nat} {b : SnippetBody} (hx : execLaneExportDone t l b s = .next s') : s'.anchor = s.anchor := by
  rw [anchor_of_onInst hx]
  simp only [anchor_ite, ite_self, arrive_anchor, groupEmpty_anchor, laneFree_anchor, leaveGroup_anchor, sendSnippet_anchor]

/-! ### The commands of Machine/Channel.lean -/

theorem execChnGenRequest_anchor {h : Nat} (hx : execChnGenRequest t h s = .next s') : s'.anchor = s.anchor := by
  rw [anchor_of_onInst hx]
  simp only [anchor_mk, anchor_eta, anchor_ite, ite_self, arrive_anchor, bump_anchor, chnServe_anchor]

theorem execChnUnitStart_anchor {h : Nat} (hx : execChnUnitStart t h s = .next s') : s'.anchor = s.anchor := by
  rw [anchor_of_onInst hx]
  dsimp only
  split <;> simp only [anchor_mk, anchor_eta, anchor_ite, ite_self, arrive_anchor, calFreeze_anchor]

theorem execChnSwitchPoint_anchor {h : Nat} (hx : execChnSwitchPoint t h s = .next s') : s'.anchor = s.anchor := by
  rw [anchor_of_onInst hx]
  dsimp only
  split <;> simp only [anchor_mk, anchor_eta, anchor_ite, ite_self, arrive_anchor, calSwitched_anchor, chnServe_anchor, retireIdle_anchor]

theorem execChnRetireExpire_anchor {u : Nat} (hx : execChnRetireExpire t u s = .next s') : s'.anchor = s.anchor := by
  rw [anchor_of_onInst hx]
  dsimp only
  (repeat' split) <;> simp only [implies_true, anchor_foldl, arrive_anchor, bump_anchor, chnServe_anchor, laneLost_anchor, setUnit_anchor]

theorem execNoiseFloorRise_anchor {st b : Nat} {powers : List Nat}
    (hx : execNoiseFloorRise t st b powers s = .next s') : s'.anchor = s.anchor := by
  rw [anchor_of_onInst hx]
  simp only [anchor_mk, anchor_eta, anchor_ite, ite_self, arrive_anchor]

theorem execDetection_anchor {h : Hypothesis} (hx : execDetection t h s = .next s') : s'.anchor = s.anchor := by
  rw [anchor_of_onInst hx]
  dsimp only
  (repeat' split) <;> simp only [anchor_mk, anchor_eta, arrive_anchor, bump_anchor, lateMerge_anchor]

theorem execDetRecordIssue_anchor {st : Nat} (hx : execDetRecordIssue t st s = .next s') : s'.anchor = s.anchor := by
  rw [anchor_of_onInst hx]
  dsimp only
  split <;> simp only [anchor_mk, anchor_eta, anchor_ite, ite_self, arrive_anchor, bump_anchor]

theorem execDetMaskExpire_anchor {st i : Nat} {metrics : List (Time × Nat)}
    (hx : execDetMaskExpire t st i metrics s = .next s') : s'.anchor = s.anchor := by
  rw [anchor_of_onInst hx]
  dsimp only
  split <;> simp only [anchor_mk, anchor_eta, anchor_ite, ite_self, arrive_anchor]

theorem execJigDetWarmupDone_anchor (hx : execJigDetWarmupDone t s = .next s') : s'.anchor = s.anchor := by
  rw [anchor_of_onInst hx]
  dsimp only
  split <;> simp only [anchor_mk, anchor_eta, anchor_ite, ite_self, arrive_anchor, jigFinish_anchor]

/-! ### The commands of Machine/Fronthaul.lean -/

theorem execFhSignalDetect_anchor {p : Nat} (hx : execFhSignalDetect t p s = .next s') : s'.anchor = s.anchor := by
  rw [anchor_of_onInst hx]
  simp only [anchor_ite, ite_self, arrive_anchor, askClamp_anchor, fhTo_anchor, modPort_anchor]

theorem execFhBlockLock_anchor {p : Nat} {headers : List (BitVec 2)}
    (hx : execFhBlockLock t p headers s = .next s') : s'.anchor = s.anchor := by
  rw [anchor_of_onInst hx]
  simp only [anchor_ite, ite_self, implies_true, anchor_foldl, arrive_anchor, hdrTake_anchor]

theorem execFhBlockLockTimeout_anchor {p : Nat} (hx : execFhBlockLockTimeout t p s = .next s') : s'.anchor = s.anchor := by
  rw [anchor_of_onInst hx]
  simp only [anchor_ite, ite_self, arrive_anchor, bump_anchor, fhDown_anchor]

theorem execFhControlBlockRx_anchor {p : Nat} {syncGood : Bool} {w : BitVec 64}
    (hx : execFhControlBlockRx t p syncGood w s = .next s') : s'.anchor = s.anchor := by
  rw [anchor_of_onInst hx]
  simp only [anchor_ite, ite_self, arrive_anchor, bump_anchor, fhLeaveUp_anchor, fhTakeFields_anchor, fhTo_anchor, modPort_anchor]

theorem execFhSuperframeRx_anchor {p : Nat} {rxTime : Time} {arrivals : List Time}
    (hx : execFhSuperframeRx t p rxTime arrivals s = .next s') : s'.anchor = s.anchor := by
  rw [anchor_of_onInst hx]
  dsimp only
  (repeat' split) <;> simp only [arrive_anchor, bump_anchor, fhBeginMap_anchor, fhCheck_anchor, fhDown_anchor, fhLeaveUp_anchor,
    fhMeasure_anchor, fhSamples_anchor, fhTo_anchor, modPort_anchor, p7Check_anchor]

theorem execFhFrameTx_anchor {p : Nat} {groups : List (List Word)}
    (hx : execFhFrameTx t p groups s = .next s') : s'.anchor = s.anchor := by
  rw [anchor_of_onInst hx]
  simp only [anchor_ite, ite_self, arrive_anchor, fhSend_anchor, modPort_anchor, out_anchor, poolSent_anchor, setPort_anchor]

theorem execFhTimeTimeout_anchor {p : Nat} (hx : execFhTimeTimeout t p s = .next s') : s'.anchor = s.anchor := by
  rw [anchor_of_onInst hx]
  simp only [anchor_ite, ite_self, arrive_anchor, fhFault_anchor]

theorem execFhRecoverTimeout_anchor {p : Nat} (hx : execFhRecoverTimeout t p s = .next s') : s'.anchor = s.anchor := by
  rw [anchor_of_onInst hx]
  simp only [anchor_ite, ite_self, arrive_anchor, fhDown_anchor]

theorem execFhFaultTimeout_anchor {p : Nat} (hx : execFhFaultTimeout t p s = .next s') : s'.anchor = s.anchor := by
  rw [anchor_of_onInst hx]
  simp only [anchor_ite, ite_self, arrive_anchor, fhDown_anchor]

theorem execFhMbxReply_anchor {p : Nat} (hx : execFhMbxReply t p s = .next s') : s'.anchor = s.anchor := by
  rw [anchor_of_onInst hx]
  dsimp only
  (repeat' split) <;> simp only [arrive_anchor, fhReply_anchor, modPort_anchor]

theorem execFhMbxTimeout_anchor {p : Nat} (hx : execFhMbxTimeout t p s = .next s') : s'.anchor = s.anchor := by
  rw [anchor_of_onInst hx]
  dsimp only
  split <;> simp only [anchor_ite, ite_self, arrive_anchor, bump_anchor, fhFault_anchor, modPort_anchor]

theorem execFhLoopWrite_anchor {p : Nat} {loop : BitVec 2} (hx : execFhLoopWrite t p loop s = .next s') : s'.anchor = s.anchor := by
  rw [anchor_of_onInst hx]
  simp only [arrive_anchor, fhLoop_anchor]

theorem execAnaLoopWrite_anchor {p : Nat} {loop : BitVec 2} (hx : execAnaLoopWrite t p loop s = .next s') : s'.anchor = s.anchor := by
  rw [anchor_of_onInst hx]
  simp only [anaLoop_anchor, arrive_anchor]

theorem execPoolEntry_anchor {dsn : Nat} (hx : execPoolEntry t dsn s = .next s') : s'.anchor = s.anchor := by
  rw [anchor_of_onInst hx]
  dsimp only
  split <;> simp only [anchor_mk, anchor_eta, anchor_ite, ite_self, arrive_anchor, finish_anchor, poolGo_anchor]

theorem execFhLossOfSignal_anchor {p : Nat} (hx : execFhLossOfSignal t p s = .next s') : s'.anchor = s.anchor := by
  rw [anchor_of_onInst hx]
  simp only [anchor_ite, ite_self, arrive_anchor, fhLeaveUp_anchor, modPort_anchor]

/-! ### The commands of Machine/Nodes.lean -/

theorem execLearnEvent_anchor {e : Eui} {ports : List (Nat × Int)}
    (hx : execLearnEvent t e ports s = .next s') : s'.anchor = s.anchor := by
  rw [anchor_of_onInst hx]
  dsimp only
  (repeat' split) <;> simp only [anchor_mk, anchor_eta, arrive_anchor, collect_anchor, learnInto_anchor]

theorem execNewSenderAdmit_anchor {g : Nat} {e : Eui} {ports : List (Nat × Int)}
    (hx : execNewSenderAdmit t g e ports s = .next s') : s'.anchor = s.anchor := by
  rw [anchor_of_onInst hx]
  dsimp only
  (repeat' split) <;> simp only [anchor_mk, anchor_eta, arrive_anchor, bump_anchor, collect_anchor, setCtx_anchor, spendToken_anchor]

theorem execLearnWindowClose_anchor {e : Eui} (hx : execLearnWindowClose t e s = .next s') : s'.anchor = s.anchor := by
  rw [anchor_of_onInst hx]
  dsimp only
  (repeat' split) <;> simp only [anchor_mk, anchor_eta, arrive_anchor, closeNew_anchor, closeOld_anchor]

theorem execNodeEntryCreate_anchor {e : Eui} (hx : execNodeEntryCreate t e s = .next s') : s'.anchor = s.anchor := by
  rw [anchor_of_onInst hx]
  dsimp only
  (repeat' split) <;> simp only [anchor_mk, anchor_eta, arrive_anchor, creationLost_anchor, out_anchor] <;>
    rw [allocIndex_anchor_of ‹_›, arrive_anchor]

theorem execNodeInsert_anchor {e : Eui} {moves : List (Nat × Nat)}
    (hx : execNodeInsert t e moves s = .next s') : s'.anchor = s.anchor := by
  rw [anchor_of_onInst hx]
  dsimp only
  (repeat' split) <;> simp only [arrive_anchor, bornNode_anchor, bornRebuild_anchor, bump_anchor, makeRoom_anchor, modNode_anchor]

theorem execLearnFallback_anchor {e : Eui} (hx : execLearnFallback t e s = .next s') : s'.anchor = s.anchor := by
  rw [anchor_of_onInst hx]
  dsimp only
  (repeat' split) <;> simp only [arrive_anchor, askClamp_anchor, bornRebuild_anchor, bump_anchor, freeClampOf_anchor]

theorem execRehashStart_anchor (hx : execRehashStart t s = .next s') : s'.anchor = s.anchor := by
  rw [anchor_of_onInst hx]
  dsimp only
  (repeat' split) <;> simp only [anchor_mk, anchor_eta, arrive_anchor, askClamp_anchor]
  rw [anchor_foldl _ fun _ _ => ?_, askClamp_anchor, arrive_anchor]
  (repeat' split) <;> simp only [bump_anchor, modNode_anchor]

theorem execRehashDone_anchor {slots : List (Nat × Nat)} (hx : execRehashDone t slots s = .next s') : s'.anchor = s.anchor := by
  rw [anchor_of_onInst hx]
  dsimp only
  split <;> simp only [anchor_mk, anchor_eta, anchor_ite, ite_self, arrive_anchor, freeClampOf_anchor]

theorem execAgerVisit_anchor {i stamp : Nat} (hx : execAgerVisit t i stamp s = .next s') : s'.anchor = s.anchor := by
  rw [anchor_of_onInst hx]
  dsimp only
  (repeat' split) <;> simp only [arrive_anchor, bump_anchor, deleteNode_anchor, modNode_anchor]

theorem execHomePortRehome_anchor {e : Eui} (hx : execHomePortRehome t e s = .next s') : s'.anchor = s.anchor := by
  rw [anchor_of_onInst hx]
  dsimp only
  (repeat' split) <;> simp only [arrive_anchor, bump_anchor, modNode_anchor, spendToken_anchor]

theorem execForwardPacket_anchor {p : Packet} (hx : execForwardPacket t p s = .next s') : s'.anchor = s.anchor := by
  rw [anchor_of_onInst hx]
  simp only [anchor_mk, anchor_eta, anchor_ite, ite_self, arrive_anchor, forwardBy_anchor]

theorem execTransitExpire_anchor {k : Nat} (hx : execTransitExpire t k s = .next s') : s'.anchor = s.anchor := by
  rw [anchor_of_onInst hx]
  dsimp only
  (repeat' split) <;> simp only [anchor_mk, anchor_eta, implies_true, anchor_foldl, arrive_anchor, bump_anchor, unbook_anchor]

theorem execSeenExpire_anchor (hx : execSeenExpire t s = .next s') : s'.anchor = s.anchor := by
  rw [anchor_of_onInst hx]
  simp only [anchor_mk, anchor_eta, anchor_ite, ite_self, arrive_anchor]

/-! ### The commands of Machine/Ferry.lean -/

theorem execFerryDownlink_anchor {f : FerryFrame} (hx : execFerryDownlink t f s = .next s') : s'.anchor = s.anchor := by
  rw [anchor_of_onInst hx]
  dsimp only
  (repeat' split) <;> simp only [implies_true, anchor_foldl, arrive_anchor, bump_anchor, dlItem_anchor, ferryRx_anchor, frameHeard_anchor]

theorem execFerryMgmtCmd_anchor {f : FerryFrame} (hx : execFerryMgmtCmd t f s = .next s') : s'.anchor = s.anchor := by
  rw [anchor_of_onInst hx]
  dsimp only
  (repeat' split) <;> simp only [implies_true, anchor_foldl, arrive_anchor, bump_anchor, dlItem_anchor, ferryRx_anchor, frameHeard_anchor]

theorem execDlItemExpiry_anchor {d : Nat} (hx : execDlItemExpiry t d s = .next s') : s'.anchor = s.anchor := by
  rw [anchor_of_onInst hx]
  dsimp only
  (repeat' split) <;> simp only [anchor_mk, anchor_eta, arrive_anchor, endItem_anchor, unbook_anchor]

theorem execNodeEnhancedAck_anchor {e : Eui} {mic nack : Bool} {air : Time}
    (hx : execNodeEnhancedAck t e mic nack air s = .next s') : s'.anchor = s.anchor := by
  rw [anchor_of_onInst hx]
  dsimp only
  (repeat' split) <;> simp only [arrive_anchor, bump_anchor, endItem_anchor]

theorem execClearCounters_anchor {d : Nat} (hx : execClearCounters t d s = .next s') : s'.anchor = s.anchor := by
  rw [anchor_of_onInst hx]
  dsimp only
  (repeat' split) <;> simp only [anchor_mk, anchor_eta, arrive_anchor, event_anchor, finish_anchor]

theorem execClearSticky_anchor {d : Nat} (hx : execClearSticky t d s = .next s') : s'.anchor = s.anchor := by
  rw [anchor_of_onInst hx]
  dsimp only
  (repeat' split) <;> simp only [implies_true, anchor_foldl, arrive_anchor, event_anchor, finish_anchor, stickyCleared_anchor]

theorem execEventClear_anchor {d : Nat} (hx : execEventClear t d s = .next s') : s'.anchor = s.anchor := by
  rw [anchor_of_onInst hx]
  simp only [anchor_mk, anchor_eta, anchor_ite, ite_self, arrive_anchor, evrPush_anchor, finish_anchor]

theorem execFerryUlAck_anchor {f : FerryFrame} (hx : execFerryUlAck t f s = .next s') : s'.anchor = s.anchor := by
  rw [anchor_of_onInst hx]
  dsimp only
  split <;> simp only [anchor_mk, anchor_eta, anchor_ite, ite_self, arrive_anchor, bump_anchor, ferryRx_anchor, frameHeard_anchor,
    mirror_anchor]

theorem execFerryUplinkSend_anchor {count : Nat} (hx : execFerryUplinkSend t count s = .next s') : s'.anchor = s.anchor := by
  rw [anchor_of_onInst hx]
  simp only [anchor_mk, anchor_eta, anchor_ite, ite_self, arrive_anchor, sendEntries_anchor]

theorem execFerryUlRto_anchor (hx : execFerryUlRto t s = .next s') : s'.anchor = s.anchor := by
  rw [anchor_of_onInst hx]
  simp only [anchor_mk, anchor_eta, anchor_ite, ite_self, arrive_anchor, bumpBy_anchor, sendEntries_anchor]

theorem execFerryHeartbeat_anchor {f : FerryFrame} (hx : execFerryHeartbeat t f s = .next s') : s'.anchor = s.anchor := by
  rw [anchor_of_onInst hx]
  dsimp only
  split
  · split <;> simp only [arrive_anchor, bump_anchor, ferryRx_anchor, frameHeard_anchor]
  split
  · next h => rw [ferryArrives_anchor_of h, arrive_anchor]
  · next h =>
    have hs := (ferryArrives_anchor_of h).trans (arrive_anchor s t)
    (repeat' split) <;> simp only [anchor_mk, anchor_eta, bump_anchor, frameHeard_anchor, sessionOpened_anchor, hs]

theorem execFerryHeartbeatTx_anchor (hx : execFerryHeartbeatTx t s = .next s') : s'.anchor = s.anchor := by
  rw [anchor_of_onInst hx]
  simp only [anchor_mk, anchor_eta, anchor_ite, ite_self, arrive_anchor, ferryPacket_anchor, sendHeartbeat_anchor]

theorem execFerryPeerLost_anchor (hx : execFerryPeerLost t s = .next s') : s'.anchor = s.anchor := by
  rw [anchor_of_onInst hx]
  simp only [anchor_mk, anchor_eta, anchor_ite, ite_self, arrive_anchor, occurs_anchor, setPath_anchor]

theorem execFerrySessionOpen_anchor (hx : execFerrySessionOpen t s = .next s') : s'.anchor = s.anchor := by
  rw [anchor_of_onInst hx]
  simp only [anchor_ite, ite_self, arrive_anchor, openSession_anchor]

theorem execFerryRekey_anchor (hx : execFerryRekey t s = .next s') : s'.anchor = s.anchor := by
  rw [anchor_of_onInst hx]
  simp only [anchor_ite, ite_self, arrive_anchor, openSession_anchor]

theorem execFerryOldKeysExpire_anchor (hx : execFerryOldKeysExpire t s = .next s') : s'.anchor = s.anchor := by
  rw [anchor_of_onInst hx]
  dsimp only
  split <;> simp only [anchor_mk, anchor_eta, anchor_ite, ite_self, arrive_anchor]

theorem execNeighbourAdvertisementTx_anchor (hx : execNeighbourAdvertisementTx t s = .next s') : s'.anchor = s.anchor := by
  rw [anchor_of_onInst hx]
  simp only [anchor_mk, anchor_eta, anchor_ite, ite_self, implies_true, anchor_foldl, arrive_anchor, out_anchor]

theorem execNeighbourSolicitation_anchor {p : Nat} {target : BitVec 128}
    (hx : execNeighbourSolicitation t p target s = .next s') : s'.anchor = s.anchor := by
  rw [anchor_of_onInst hx]
  simp only [anchor_ite, ite_self, arrive_anchor, out_anchor]

theorem execEchoRequest_anchor {p : Nat} {target : BitVec 128}
    (hx : execEchoRequest t p target s = .next s') : s'.anchor = s.anchor := by
  rw [anchor_of_onInst hx]
  simp only [anchor_ite, ite_self, arrive_anchor, out_anchor]

theorem execEthLinkChange_anchor {p : Nat} {up : Bool} (hx : execEthLinkChange t p up s = .next s') : s'.anchor = s.anchor := by
  rw [anchor_of_onInst hx]
  simp only [anchor_mk, anchor_eta, anchor_ite, ite_self, arrive_anchor, choosePath_anchor]

/-! ### The commands of Machine/Pair.lean -/

theorem execPairAbsent_anchor {partnerLow : Bool} (hx : execPairAbsent t partnerLow s = .next s') : s'.anchor = s.anchor := by
  rw [anchor_of_onInst hx]
  simp only [anchor_mk, anchor_eta, anchor_ite, ite_self, arrive_anchor, goAbsent_anchor]

theorem execPairingRecord_anchor {h : MirrorHdr} {b : PairingMsg}
    (hx : execPairingRecord t h b s = .next s') : s'.anchor = s.anchor := by
  rw [anchor_of_onInst hx]
  dsimp only
  (repeat' split) <;> simp only [addJob_anchor, arrive_anchor, bump_anchor, heardOn_anchor, pairFail_anchor, takeConfirm_anchor,
    takeHello_anchor]

theorem execKeepaliveTx_anchor {l : Nat} (hx : execKeepaliveTx t l s = .next s') : s'.anchor = s.anchor := by
  rw [anchor_of_onInst hx]
  simp only [anchor_mk, anchor_eta, anchor_ite, ite_self, arrive_anchor, emit_anchor, out_anchor]

theorem execIsthmusLinkUp_anchor {l : Nat} (hx : execIsthmusLinkUp t l s = .next s') : s'.anchor = s.anchor := by
  rw [anchor_of_onInst hx]
  simp only [anchor_mk, anchor_eta, anchor_ite, ite_self, arrive_anchor, beginPairing_anchor]

theorem execIsthmusLinkLoss_anchor {l : Nat} {lane : Bool} (hx : execIsthmusLinkLoss t l lane s = .next s') : s'.anchor = s.anchor := by
  rw [anchor_of_onInst hx]
  simp only [anchor_mk, anchor_eta, anchor_ite, ite_self, arrive_anchor, bump_anchor]

theorem execPairDetached_anchor (hx : execPairDetached t s = .next s') : s'.anchor = s.anchor := by
  rw [anchor_of_onInst hx]
  simp only [anchor_ite, ite_self, arrive_anchor, detach_anchor, occurs_anchor]

theorem execTokenPartnerReleased_anchor (hx : execTokenPartnerReleased t s = .next s') : s'.anchor = s.anchor := by
  rw [anchor_of_onInst hx]
  dsimp only
  (repeat' split) <;> simp only [anchor_mk, anchor_eta, arrive_anchor]

theorem execTokenTie_anchor (hx : execTokenTie t s = .next s') : s'.anchor = s.anchor := by
  rw [anchor_of_onInst hx]
  simp only [anchor_mk, anchor_eta, anchor_ite, ite_self, arrive_anchor, becomeStandby_anchor, bump_anchor, detach_anchor,
    releaseToken_anchor]

theorem execOwnLineFault_anchor (hx : execOwnLineFault t s = .next s') : s'.anchor = s.anchor := by
  rw [anchor_of_onInst hx]
  simp only [anchor_mk, anchor_eta, anchor_ite, ite_self, arrive_anchor, becomeStandby_anchor, degraded_anchor, occurs_anchor,
    releaseToken_anchor]

theorem execHeadFollowCheck_anchor {p : Nat} (hx : execHeadFollowCheck t p s = .next s') : s'.anchor = s.anchor := by
  rw [anchor_of_onInst hx]
  dsimp only
  split <;> simp only [anchor_mk, anchor_eta, anchor_ite, ite_self, arrive_anchor, bump_anchor, event_anchor]

theorem execFitnessTx_anchor (hx : execFitnessTx t s = .next s') : s'.anchor = s.anchor := by
  rw [anchor_of_onInst hx]
  simp only [anchor_mk, anchor_eta, anchor_ite, ite_self, arrive_anchor, emit_anchor, mirror_anchor, refreshGiveUp_anchor]

theorem execDigestPeriodTick_anchor (hx : execDigestPeriodTick t s = .next s') : s'.anchor = s.anchor := by
  rw [anchor_of_onInst hx]
  simp only [anchor_mk, anchor_eta, anchor_ite, ite_self, arrive_anchor, mirror_anchor]

theorem execHandover_anchor {d : Nat} (hx : execHandover t d s = .next s') : s'.anchor = s.anchor := by
  rw [anchor_of_onInst hx]
  simp only [anchor_ite, ite_self, arrive_anchor, dlTaken_anchor, finish_anchor, startHandover_anchor]

theorem execResync_anchor {d : Nat} (hx : execResync t d s = .next s') : s'.anchor = s.anchor := by
  rw [anchor_of_onInst hx]
  simp only [anchor_ite, ite_self, arrive_anchor, detach_anchor, dlTaken_anchor, finish_anchor]

theorem execHandoverTime_anchor (hx : execHandoverTime t s = .next s') : s'.anchor = s.anchor := by
  rw [anchor_of_onInst hx]
  dsimp only
  split <;> simp only [anchor_mk, anchor_eta, anchor_ite, ite_self, actTurn_anchor, arrive_anchor, becomeStandby_anchor, bump_anchor,
    emit_anchor, releaseToken_anchor]

theorem execPairGiveUp_anchor (hx : execPairGiveUp t s = .next s') : s'.anchor = s.anchor := by
  rw [anchor_of_onInst hx]
  dsimp only
  split <;> simp only [anchor_ite, ite_self, arrive_anchor, bump_anchor, occurs_anchor, startHandover_anchor]

theorem execResyncPhaseDone_anchor {p : Nat} (hx : execResyncPhaseDone t p s = .next s') : s'.anchor = s.anchor := by
  rw [anchor_of_onInst hx]
  simp only [anchor_mk, anchor_eta, anchor_ite, ite_self, arrive_anchor, refreshSource_anchor]

theorem execPairResync_anchor (hx : execPairResync t s = .next s') : s'.anchor = s.anchor := by
  rw [anchor_of_onInst hx]
  simp only [anchor_mk, anchor_eta, anchor_ite, ite_self, actPartnerUp_anchor, arrive_anchor, bump_anchor, endResync_anchor,
    refreshSource_anchor]

theorem execPairResyncSlow_anchor (hx : execPairResyncSlow t s = .next s') : s'.anchor = s.anchor := by
  rw [anchor_of_onInst hx]
  simp only [anchor_mk, anchor_eta, anchor_ite, ite_self, arrive_anchor, occurs_anchor]

/-! ### The commands of Machine/Updates.lean -/

theorem execUpdBegin_anchor {d : Nat} (hx : execUpdBegin t d s = .next s') : s'.anchor = s.anchor := by
  rw [anchor_of_onInst hx]
  dsimp only
  split <;> simp only [anchor_mk, anchor_eta, anchor_ite, ite_self, arrive_anchor, discardUpdate_anchor, finish_anchor]

theorem execUpdAbort_anchor {d : Nat} (hx : execUpdAbort t d s = .next s') : s'.anchor = s.anchor := by
  rw [anchor_of_onInst hx]
  simp only [anchor_ite, ite_self, arrive_anchor, discardUpdate_anchor, finish_anchor]

theorem execUpdPart_anchor {d : Nat} (hx : execUpdPart t d s = .next s') : s'.anchor = s.anchor := by
  rw [anchor_of_onInst hx]
  dsimp only
  split <;> simp only [arrive_anchor, finish_anchor, takePart_anchor]

theorem execPiecePartFrame_anchor {e : Eui} {p : Part} (hx : execPiecePartFrame t e p s = .next s') : s'.anchor = s.anchor := by
  rw [anchor_of_onInst hx]
  simp only [anchor_ite, ite_self, arrive_anchor, bump_anchor, takePart_anchor]

theorem execBeaconRewrite_anchor {b : Nat} (hx : execBeaconRewrite t b s = .next s') : s'.anchor = s.anchor := by
  rw [anchor_of_onInst hx]
  dsimp only
  (repeat' split) <;> simp only [anchor_mk, anchor_eta, arrive_anchor, pieceRequest_anchor]

theorem execPieceRequest_anchor {r : PieceRequest} (hx : execPieceRequest t r s = .next s') : s'.anchor = s.anchor := by
  rw [anchor_of_onInst hx]
  simp only [anchor_mk, anchor_eta, anchor_ite, ite_self, arrive_anchor]

theorem execPieceWrite_anchor {p : Nat} {copyB ok : Bool} (hx : execPieceWrite t p copyB ok s = .next s') : s'.anchor = s.anchor := by
  rw [anchor_of_onInst hx]
  dsimp only
  split <;> simp only [anchor_mk, anchor_eta, anchor_ite, ite_self, arrive_anchor, completeCheck_anchor, freeClampOf_anchor,
    pieceAsk_anchor, pieceWriteFailed_anchor]

theorem execUpdVerifyDone_anchor (hx : execUpdVerifyDone t s = .next s') : s'.anchor = s.anchor := by
  rw [anchor_of_onInst hx]
  dsimp only
  split <;> simp only [anchor_mk, anchor_eta, anchor_ite, ite_self, arrive_anchor, occurs_anchor, stepDone_anchor]

theorem execUpdActivate_anchor {d : Nat} {partnerVerified : Bool}
    (hx : execUpdActivate t d partnerVerified s = .next s') : s'.anchor = s.anchor := by
  rw [anchor_of_onInst hx]
  simp only [anchor_ite, ite_self, actBegin_anchor, actTo_anchor, arrive_anchor, beginCopy_anchor, dlTaken_anchor, finish_anchor]

theorem execUpdActivateCopyDone_anchor {ok : Bool} (hx : execUpdActivateCopyDone t ok s = .next s') : s'.anchor = s.anchor := by
  rw [anchor_of_onInst hx]
  simp only [anchor_mk, anchor_eta, anchor_ite, ite_self, actFail_anchor, actTo_anchor, arrive_anchor, copyFailed_anchor,
    eraseStatus_anchor, freeClampOf_anchor, occurs_anchor, stepDone_anchor, warmEnter_anchor]

theorem execActTimeout_anchor (hx : execActTimeout t s = .next s') : s'.anchor = s.anchor := by
  rw [anchor_of_onInst hx]
  simp only [anchor_ite, ite_self, actFail_anchor, arrive_anchor]

theorem execUpdRevert_anchor {d : Nat} (hx : execUpdRevert t d s = .next s') : s'.anchor = s.anchor := by
  rw [anchor_of_onInst hx]
  simp only [anchor_ite, ite_self, actBegin_anchor, actReplace_anchor, actTo_anchor, actTurn_anchor, arrive_anchor, dlTaken_anchor,
    finish_anchor, spendAttempts_anchor, warmEnter_anchor]

theorem execCampDefine_anchor {d : Nat} (hx : execCampDefine t d s = .next s') : s'.anchor = s.anchor := by
  rw [anchor_of_onInst hx]
  dsimp only
  (repeat' split) <;> simp only [anchor_mk, anchor_eta, arrive_anchor, finish_anchor]

theorem execCampMembers_anchor {d : Nat} (hx : execCampMembers t d s = .next s') : s'.anchor = s.anchor := by
  rw [anchor_of_onInst hx]
  dsimp only
  (repeat' split) <;> simp only [implies_true, anchor_foldl, addMember_anchor, arrive_anchor, finish_anchor]

theorem execCampStart_anchor {d : Nat} (hx : execCampStart t d s = .next s') : s'.anchor = s.anchor := by
  rw [anchor_of_onInst hx]
  dsimp only
  split <;> simp only [anchor_mk, anchor_eta, anchor_ite, ite_self, arrive_anchor, finish_anchor]

theorem execCampPause_anchor {d : Nat} (hx : execCampPause t d s = .next s') : s'.anchor = s.anchor := by
  rw [anchor_of_onInst hx]
  dsimp only
  split <;> simp only [anchor_mk, anchor_eta, anchor_ite, ite_self, arrive_anchor, campStop_anchor, finish_anchor]

theorem execCampEnd_anchor {d : Nat} (hx : execCampEnd t d s = .next s') : s'.anchor = s.anchor := by
  rw [anchor_of_onInst hx]
  dsimp only
  split <;> simp only [anchor_mk, anchor_eta, anchor_ite, ite_self, arrive_anchor, campStop_anchor, finish_anchor]

theorem execCampWindowOpen_anchor {c : Nat} (hx : execCampWindowOpen t c s = .next s') : s'.anchor = s.anchor := by
  rw [anchor_of_onInst hx]
  dsimp only
  split <;> simp only [anchor_ite, ite_self, arrive_anchor, roundBegin_anchor]

/-! ### The commands of Machine/Quays.lean -/

theorem execQuayClaim_anchor {a : Agent} {q n : Nat} (hx : execQuayClaim t a q n s = .next s') : s'.anchor = s.anchor := by
  rw [anchor_of_onInst hx]
  simp only [implies_true, arrive_anchor, asProducer_anchor, claimQuay_anchor]

theorem execQuayWrWord_anchor {a : Agent} {q : Nat} {w : Word} {parityGood : Bool}
    (hx : execQuayWrWord t a q w parityGood s = .next s') : s'.anchor = s.anchor := by
  rw [anchor_of_onInst hx]
  simp only [implies_true, arrive_anchor, asProducer_anchor, putWord_anchor]

theorem execQuayWrEnd_anchor {a : Agent} {q : Nat} {w : Word} {n : Nat} {parityGood : Bool}
    (hx : execQuayWrEnd t a q w n parityGood s = .next s') : s'.anchor = s.anchor := by
  rw [anchor_of_onInst hx]
  simp only [implies_true, arrive_anchor, asProducer_anchor, putWord_anchor]

theorem execQuayWrPoison_anchor {a : Agent} {q : Nat} (hx : execQuayWrPoison t a q s = .next s') : s'.anchor = s.anchor := by
  rw [anchor_of_onInst hx]
  simp only [implies_true, arrive_anchor, asProducer_anchor, poisonItem_anchor]

theorem execQuayRdNext_anchor {a : Agent} {q : Nat} {badBank : Option Nat}
    (hx : execQuayRdNext t a q badBank s = .next s') : s'.anchor = s.anchor := by
  rw [anchor_of_onInst hx]
  simp only [implies_true, arrive_anchor, asConsumer_anchor, takeWord_anchor]

theorem execQuayRdDrop_anchor {a : Agent} {q : Nat} (hx : execQuayRdDrop t a q s = .next s') : s'.anchor = s.anchor := by
  rw [anchor_of_onInst hx]
  simp only [implies_true, arrive_anchor, asConsumer_anchor, dropItem_anchor]

theorem execQuayFlush_anchor {a : Agent} {q : Nat} (hx : execQuayFlush t a q s = .next s') : s'.anchor = s.anchor := by
  rw [anchor_of_onInst hx]
  simp only [anchor_ite, ite_self, arrive_anchor, flushQuay_anchor]

/-! ### The commands of Machine/Memory.lean -/

theorem execEccError_anchor {a : Nat} {chB uncorrectable byDma : Bool}
    (hx : execEccError t a chB uncorrectable byDma s = .next s') : s'.anchor = s.anchor := by
  rw [anchor_of_onInst hx]
  simp only [anchor_ite, ite_self, arrive_anchor, bump_anchor, channelLost_anchor, setDdr_anchor]

theorem execScrubPatrol_anchor {corrected : Nat} (hx : execScrubPatrol t corrected s = .next s') : s'.anchor = s.anchor := by
  rw [anchor_of_onInst hx]
  simp only [anchor_ite, ite_self, arrive_anchor, bumpBy_anchor]

theorem execDdrTrainingLoss_anchor {chB : Bool} (hx : execDdrTrainingLoss t chB s = .next s') : s'.anchor = s.anchor := by
  rw [anchor_of_onInst hx]
  simp only [anchor_ite, ite_self, arrive_anchor, askClamp_anchor, setDdr_anchor]

theorem execDdrRetrainDone_anchor {chB ok : Bool} (hx : execDdrRetrainDone t chB ok s = .next s') : s'.anchor = s.anchor := by
  rw [anchor_of_onInst hx]
  simp only [anchor_ite, ite_self, arrive_anchor, retrainEnd_anchor]

theorem execDmaStart_anchor {a : Agent} {c : Nat} (hx : execDmaStart t a c s = .next s') : s'.anchor = s.anchor := by
  rw [anchor_of_onInst hx]
  simp only [arrive_anchor, dmaStart_anchor]

theorem execDmaStop_anchor {a : Agent} {c : Nat} (hx : execDmaStop t a c s = .next s') : s'.anchor = s.anchor := by
  rw [anchor_of_onInst hx]
  simp only [arrive_anchor, dmaStop_anchor]

theorem execEngWdogKick_anchor {e : Nat} (hx : execEngWdogKick t e s = .next s') : s'.anchor = s.anchor := by
  rw [anchor_of_onInst hx]
  simp only [arrive_anchor, wdogKick_anchor]

theorem execEngWdogExpire_anchor {e : Nat} (hx : execEngWdogExpire t e s = .next s') : s'.anchor = s.anchor := by
  rw [anchor_of_onInst hx]
  simp only [anchor_ite, ite_self, implies_true, anchor_foldl, arrive_anchor, bump_anchor, degraded_anchor, fatalBy_anchor,
    setEngine_anchor]

theorem execEngLockstep_anchor {pair23 : Bool} (hx : execEngLockstep t pair23 s = .next s') : s'.anchor = s.anchor := by
  rw [anchor_of_onInst hx]
  simp only [anchor_ite, ite_self, arrive_anchor, fatalBy_anchor]

theorem execTimeComparator_anchor {e : Option Nat} (hx : execTimeComparator t e s = .next s') : s'.anchor = s.anchor := by
  rw [anchor_of_onInst hx]
  simp only [anchor_ite, ite_self, arrive_anchor, out_anchor, setIrq_anchor]

/-! ### The commands of Machine/Health.lean -/

theorem execErrorReport_anchor {r : Report} {lost : LostItem} (hx : execErrorReport t r lost s = .next s') : s'.anchor = s.anchor :=
  anchor_of_taken hx (taken_execErrorReport_anchor _ _ _ _)

theorem execCoalesceWindowClose_anchor {u c : Nat} (hx : execCoalesceWindowClose t u c s = .next s') : s'.anchor = s.anchor := by
  rw [anchor_of_onInst hx]
  dsimp only
  split <;> simp only [anchor_mk, anchor_eta, anchor_ite, ite_self, arrive_anchor, errRecord_anchor]

theorem execHandlerTake_anchor {a : Agent} (hx : execHandlerTake t a s = .next s') : s'.anchor = s.anchor := by
  rw [anchor_of_onInst hx]
  simp only [arrive_anchor, frameTake_anchor]

theorem execHandlerDone_anchor {a : Agent} {o : BitVec 2} (hx : execHandlerDone t a o s = .next s') : s'.anchor = s.anchor := by
  rw [anchor_of_onInst hx]
  simp only [arrive_anchor, frameDone_anchor]

theorem execHandlerTimeout_anchor (hx : execHandlerTimeout t s = .next s') : s'.anchor = s.anchor := by
  rw [anchor_of_onInst hx]
  dsimp only
  split <;> simp only [anchor_ite, ite_self, arrive_anchor, fatalBy_anchor]

theorem execHandlerException_anchor {c : Nat} (hx : execHandlerException t c s = .next s') : s'.anchor = s.anchor := by
  rw [anchor_of_onInst hx]
  dsimp only
  split <;> simp only [anchor_ite, ite_self, arrive_anchor, fatalBy_anchor]

theorem execJigSweepStart_anchor (hx : execJigSweepStart t s = .next s') : s'.anchor = s.anchor := by
  rw [anchor_of_onInst hx]
  simp only [anchor_mk, anchor_eta, anchor_ite, ite_self, arrive_anchor]

theorem execJigTestStart_anchor {k i : Nat} (hx : execJigTestStart t k i s = .next s') : s'.anchor = s.anchor := by
  rw [anchor_of_onInst hx]
  dsimp only
  (repeat' split) <;> simp only [anchor_mk, anchor_eta, arrive_anchor, jigAsk_anchor, jigFinish_anchor, jigRecord_anchor, jigTake_anchor]

theorem execJigPreempt_anchor (hx : execJigPreempt t s = .next s') : s'.anchor = s.anchor := by
  rw [anchor_of_onInst hx]
  dsimp only
  split <;> simp only [anchor_ite, ite_self, arrive_anchor, jigPreempted_anchor, jigRelease_anchor]

theorem execJigTestDone_anchor {r : JigResult} (hx : execJigTestDone t r s = .next s') : s'.anchor = s.anchor := by
  rw [anchor_of_onInst hx]
  dsimp only
  split <;> simp only [anchor_mk, anchor_eta, anchor_ite, ite_self, arrive_anchor, jigFailed_anchor, jigOver_anchor, jigRecord_anchor,
    passInst_anchor]

theorem execJigRun_anchor {d : Nat} (hx : execJigRun t d s = .next s') : s'.anchor = s.anchor := by
  rw [anchor_of_onInst hx]
  simp only [anchor_ite, ite_self, arrive_anchor, dlTaken_anchor, finish_anchor, jigAsk_anchor]

theorem execJigPort_anchor {d : Nat} (hx : execJigPort t d s = .next s') : s'.anchor = s.anchor := by
  rw [anchor_of_onInst hx]
  simp only [anchor_mk, anchor_eta, anchor_ite, ite_self, arrive_anchor, dlTaken_anchor, fhDown_anchor, finish_anchor, jigAsk_anchor,
    portLeftUp_anchor]

theorem execFhRetrain_anchor {d : Nat} (hx : execFhRetrain t d s = .next s') : s'.anchor = s.anchor := by
  rw [anchor_of_onInst hx]
  dsimp only
  split <;> simp only [anchor_ite, ite_self, arrive_anchor, fhDown_anchor, finish_anchor]

theorem execDumpRelease_anchor {d : Nat} (hx : execDumpRelease t d s = .next s') : s'.anchor = s.anchor := by
  rw [anchor_of_onInst hx]
  dsimp only
  split <;> simp only [anchor_mk, anchor_eta, anchor_ite, ite_self, arrive_anchor, finish_anchor]

theorem execClampRequest_anchor {a n : Nat} (hx : execClampRequest t a n s = .next s') : s'.anchor = s.anchor := by
  rw [anchor_of_onInst hx]
  simp only [anchor_ite, ite_self, arrive_anchor, askClamp_anchor]

theorem execClampRelease_anchor {a n : Nat} (hx : execClampRelease t a n s = .next s') : s'.anchor = s.anchor := by
  rw [anchor_of_onInst hx]
  simp only [anchor_ite, ite_self, arrive_anchor, freeClampOf_anchor]

theorem execClampWaitExpire_anchor {a n : Nat} (hx : execClampWaitExpire t a n s = .next s') : s'.anchor = s.anchor := by
  rw [anchor_of_onInst hx]
  dsimp only
  split <;> simp only [anchor_ite, ite_self, arrive_anchor, clampSkip_anchor, freeClampOf_anchor]

/-! ### The commands of Machine/Dumps.lean -/

theorem execFatal_anchor {c : FatalCause} (hx : execFatal t c s = .next s') : s'.anchor = s.anchor := by
  rw [anchor_of_onInst hx]
  simp only [anchor_ite, ite_self, arrive_anchor, raiseFatal_anchor]

theorem execFatalStagingDrained_anchor (hx : execFatalStagingDrained t s = .next s') : s'.anchor = s.anchor := by
  rw [anchor_of_onInst hx]
  simp only [anchor_mk, anchor_eta, anchor_ite, ite_self, arrive_anchor, askClamp_anchor]

theorem execDumpWritten_anchor (hx : execDumpWritten t s = .next s') : s'.anchor = s.anchor := by
  rw [anchor_of_onInst hx]
  simp only [anchor_mk, anchor_eta, anchor_ite, ite_self, arrive_anchor, freeClampOf_anchor, putDump_anchor]

theorem execHltPartnerDump_anchor {d : DumpHdr} (hx : execHltPartnerDump t d s = .next s') : s'.anchor = s.anchor := by
  rw [anchor_of_onInst hx]
  simp only [anchor_ite, ite_self, arrive_anchor, occurs_anchor, putDump_anchor]

theorem execDumpFlashCopy_anchor {slot : Nat} {toFlash ok : Bool}
    (hx : execDumpFlashCopy t slot toFlash ok s = .next s') : s'.anchor = s.anchor := by
  rw [anchor_of_onInst hx]
  dsimp only
  (repeat' split) <;> simp only [arrive_anchor, bump_anchor, putDump_anchor, putFlashDump_anchor]

theorem execEvrCursorWrite_anchor {a : Agent} {q : Nat} (hx : execEvrCursorWrite t a q s = .next s') : s'.anchor = s.anchor := by
  rw [anchor_of_onInst hx]
  simp only [anchor_ite, ite_self, arrive_anchor, setCursor_anchor]

theorem execEvrData7Read_anchor {a : Agent} (hx : execEvrData7Read t a s = .next s') : s'.anchor = s.anchor := by
  rw [anchor_of_onInst hx]
  simp only [anchor_mk, anchor_eta, anchor_ite, ite_self, arrive_anchor, out_anchor]

theorem execGlbOvertemp_anchor (hx : execGlbOvertemp t s = .next s') : s'.anchor = s.anchor := by
  rw [anchor_of_onInst hx]
  simp only [anchor_mk, anchor_eta, anchor_ite, ite_self, arrive_anchor, degraded_anchor, occurs_anchor]

theorem execGlbThermalTrip_anchor (hx : execGlbThermalTrip t s = .next s') : s'.anchor = s.anchor := by
  rw [anchor_of_onInst hx]
  simp only [anchor_mk, anchor_eta, anchor_ite, ite_self, arrive_anchor, occurs_anchor, raiseFatal_anchor]

theorem execGlbTempUpdate_anchor {tj : Int} (hx : execGlbTempUpdate t tj s = .next s') : s'.anchor = s.anchor := by
  rw [anchor_of_onInst hx]
  simp only [anchor_mk, anchor_eta, anchor_ite, ite_self, arrive_anchor, leaveReset_anchor]

/-! ### The commands of Machine/Registers.lean -/

theorem execRegisterLoRead_anchor {g : Agent} {a : Word} {n : Nat}
    (hx : execRegisterLoRead t g a n s = .next s') : s'.anchor = s.anchor := by
  rw [anchor_of_onInst hx]
  simp only [anchor_ite, ite_self, arrive_anchor, out_anchor, readSized_anchor]

theorem execFerryMgmtRead_anchor {f : FerryFrame} (hx : execFerryMgmtRead t f s = .next s') : s'.anchor = s.anchor := by
  rw [anchor_of_onInst hx]
  dsimp only
  split <;> simp only [arrive_anchor, bump_anchor, ferryPacket_anchor, ferryRx_anchor, frameHeard_anchor, out_anchor, readAll_anchor]

theorem execMgtI2cWrite_anchor {l : List Byte} (hx : execMgtI2cWrite t l s = .next s') : s'.anchor = s.anchor := by
  rw [anchor_of_onInst hx]
  simp only [anchor_mk, anchor_eta, anchor_ite, ite_self, arrive_anchor, bumpBy_anchor]

theorem execMgtI2cRead_anchor {n : Nat} (hx : execMgtI2cRead t n s = .next s') : s'.anchor = s.anchor := by
  rw [anchor_of_onInst hx]
  simp only [anchor_mk, anchor_eta, anchor_ite, ite_self, arrive_anchor, out_anchor, windowWords_anchor]

/-! ### The commands of Machine/Start.lean -/

theorem execPorstNRise_anchor (hx : execPorstNRise t s = .next s') : s'.anchor = s.anchor := by
  rw [anchor_of_onInst hx]
  simp only [anchor_mk, anchor_eta, arrive_anchor, powerUp_anchor]

theorem execVddAoRestored_anchor (hx : execVddAoRestored t s = .next s') : s'.anchor = s.anchor := by
  rw [anchor_of_onInst hx]
  simp only [anchor_mk, anchor_eta, arrive_anchor, powerUp_anchor]

theorem execWarmrstNFall_anchor (hx : execWarmrstNFall t s = .next s') : s'.anchor = s.anchor := by
  rw [anchor_of_onInst hx]
  simp only [anchor_mk, anchor_eta, anchor_ite, ite_self, arrive_anchor, warmEnter_anchor]

theorem execWarmrstNRise_anchor (hx : execWarmrstNRise t s = .next s') : s'.anchor = s.anchor := by
  rw [anchor_of_onInst hx]
  simp only [anchor_mk, anchor_eta, arrive_anchor, leaveReset_anchor]

theorem execRefclkStable_anchor {pairRole : Bool} {bootSel : BitVec 2}
    (hx : execRefclkStable t pairRole bootSel s = .next s') : s'.anchor = s.anchor := by
  rw [anchor_of_onInst hx]
  simp only [anchor_mk, anchor_eta, anchor_ite, ite_self, arrive_anchor]

theorem execFuseLoadDone_anchor {single : List Nat} {double : Bool}
    (hx : execFuseLoadDone t single double s = .next s') : s'.anchor = s.anchor := by
  rw [anchor_of_onInst hx]
  simp only [anchor_mk, anchor_eta, anchor_ite, ite_self, arrive_anchor, bumpBy_anchor, halt_anchor, openIslands_anchor]

theorem execPufAttemptDone_anchor {root : BitVec 256} {slotA slotB : SlotRead}
    (hx : execPufAttemptDone t root slotA slotB s = .next s') : s'.anchor = s.anchor := by
  rw [anchor_of_onInst hx]
  simp only [anchor_mk, anchor_eta, anchor_ite, ite_self, arrive_anchor, bump_anchor, endP2_anchor, halt_anchor]

/-! ### The commands of Machine/Service.lean -/

theorem execPllLockLoss_anchor {island : Nat} (hx : execPllLockLoss t island s = .next s') : s'.anchor = s.anchor := by
  rw [anchor_of_onInst hx]
  simp only [anchor_mk, anchor_eta, anchor_ite, ite_self, arrive_anchor, raiseFatal_anchor]

theorem execSdsclkLoss_anchor {k : Nat} (hx : execSdsclkLoss t k s = .next s') : s'.anchor = s.anchor := by
  rw [anchor_of_onInst hx]
  simp only [anchor_mk, anchor_eta, anchor_ite, ite_self, implies_true, anchor_foldl, arrive_anchor, blockLost_anchor, bump_anchor,
    choosePath_anchor, degraded_anchor]

theorem execFuseProgGo_anchor {a : Agent} {bit : Nat} {revoke : Bool}
    (hx : execFuseProgGo t a bit revoke s = .next s') : s'.anchor = s.anchor := by
  rw [anchor_of_onInst hx]
  simp only [anchor_ite, ite_self, arrive_anchor, fuseGo_anchor, setReg_anchor]

theorem execJtagZeroise_anchor (hx : execJtagZeroise t s = .next s') : s'.anchor = s.anchor := by
  rw [anchor_of_onInst hx]
  simp only [anchor_mk, anchor_eta, anchor_ite, ite_self, arrive_anchor]

theorem execZeroiseDone_anchor (hx : execZeroiseDone t s = .next s') : s'.anchor = s.anchor := by
  rw [anchor_of_onInst hx]
  simp only [anchor_mk, anchor_eta, anchor_ite, ite_self, arrive_anchor, fatalBy_anchor, halt_anchor]

end

/-- The commands that may move the anchor: what may write memory or save what a second image finds in it (R77), and what may
programme fuses. -/
def mayMoveAnchor (c : Instr) : Bool := match c with
  -- what resets the device or takes its power
  | .porstNFall .. | .vddAoLow .. | .warmResetDrainDone .. | .dumpPathsDone .. => true
  -- the records of an image, and what lets a start go on or fails it
  | .regWrite .. | .regField .. | .memLoad .. | .tableLoad .. | .keyBlob .. | .waitUntil .. | .waitUntilTimeout .. | .check ..
  | .formatNote .. | .imageCheckDone .. | .ddrTrainDone .. | .bootEngineReadyWrite .. | .engineTimeout .. | .phaseBoundExpire ..
  | .fhLinkupTimeout .. | .release .. | .sdsclkReturn .. | .registerWrite .. => true
  -- what writes memory in service
  | .dmaDescriptorDone .. | .campData .. => true
  -- what programmes fuses
  | .fuseProgDone .. | .jtagFuseProgram .. | .updConfirm .. | .confirmHold .. | .confirmRetryCheck .. | .updRevokeSlot .. => true
  -- what may settle a confirmation of the pair
  | .takeTime .. | .pairPartnerLost .. | .pairMseqGap .. | .payloadRecord .. | .entryRecord .. | .ackBookRecord .. | .voidRecord ..
  | .dlRecord .. | .ceilingRecord .. | .ackPointRecord .. | .sessionRecord .. | .scheduleRecord .. | .keyRecord .. | .nodeRecord ..
  | .campaignRecord .. | .timeRecord .. | .commitRecord .. | .fitnessRecord .. | .digestRecord .. | .rangeRecord ..
  | .handoverRecord .. | .releasedRecord .. | .keepaliveRecord .. => true
  | _ => false

/-- Every other command leaves the memory, what is kept of it, the fuses and the queue alone. -/
theorem exec_anchor {c : Instr} {s s' : State} (hc : mayMoveAnchor c = false) (h : exec c s = .next s') : s'.anchor = s.anchor := by
  cases c with
  | porstNRise => exact execPorstNRise_anchor h
  | porstNFall => cases hc
  | vddAoLow => cases hc
  | warmrstNFall => exact execWarmrstNFall_anchor h
  | warmResetDrainDone => cases hc
  | refclkStable => exact execRefclkStable_anchor h
  | fuseLoadDone => exact execFuseLoadDone_anchor h
  | pufAttemptDone => exact execPufAttemptDone_anchor h
  | imageCheckDone => cases hc
  | ddrTrainDone => cases hc
  | regWrite => cases hc
  | regField => cases hc
  | memLoad => cases hc
  | tableLoad => cases hc
  | keyBlob => cases hc
  | waitUntil => cases hc
  | waitUntilTimeout => cases hc
  | check => cases hc
  | formatNote => cases hc
  | bootEngineReadyWrite => cases hc
  | engineTimeout => cases hc
  | phaseBoundExpire => cases hc
  | fhLinkupTimeout => cases hc
  | pairAbsent => exact execPairAbsent_anchor h
  | release => cases hc
  | pllLockLoss => exact execPllLockLoss_anchor h
  | sdsclkLoss => exact execSdsclkLoss_anchor h
  | fuseProgGo => exact execFuseProgGo_anchor h
  | fuseProgDone => cases hc
  | jtagFuseProgram => cases hc
  | jtagZeroise => exact execJtagZeroise_anchor h
  | zeroiseDone => exact execZeroiseDone_anchor h
  | confirmRetryCheck => cases hc
  | fhSignalDetect => exact execFhSignalDetect_anchor h
  | fhBlockLock => exact execFhBlockLock_anchor h
  | fhBlockLockTimeout => exact execFhBlockLockTimeout_anchor h
  | fhControlBlockRx => exact execFhControlBlockRx_anchor h
  | fhSuperframeRx => exact execFhSuperframeRx_anchor h
  | fhFrameTx => exact execFhFrameTx_anchor h
  | fhTimeTimeout => exact execFhTimeTimeout_anchor h
  | fhRecoverTimeout => exact execFhRecoverTimeout_anchor h
  | fhFaultTimeout => exact execFhFaultTimeout_anchor h
  | fhMbxReply => exact execFhMbxReply_anchor h
  | fhMbxTimeout => exact execFhMbxTimeout_anchor h
  | fhLoopWrite => exact execFhLoopWrite_anchor h
  | anaLoopWrite => exact execAnaLoopWrite_anchor h
  | poolEntry => exact execPoolEntry_anchor h
  | chnGenRequest => exact execChnGenRequest_anchor h
  | chnUnitStart => exact execChnUnitStart_anchor h
  | chnSwitchPoint => exact execChnSwitchPoint_anchor h
  | chnRetireExpire => exact execChnRetireExpire_anchor h
  | noiseFloorRise => exact execNoiseFloorRise_anchor h
  | detection => exact execDetection_anchor h
  | detRecordIssue => exact execDetRecordIssue_anchor h
  | detMaskExpire => exact execDetMaskExpire_anchor h
  | laneAssign => exact execLaneAssign_anchor h
  | laneCaughtUp => exact execLaneCaughtUp_anchor h
  | laneSyncFound => exact execLaneSyncFound_anchor h
  | lanePreambleLost => exact execLanePreambleLost_anchor h
  | laneHeaderCheck => exact execLaneHeaderCheck_anchor h
  | laneAddressPoint => exact execLaneAddressPoint_anchor h
  | laneFrameEnd => exact execLaneFrameEnd_anchor h
  | laneReconstruction => exact execLaneReconstruction_anchor h
  | laneRerunEnd => exact execLaneRerunEnd_anchor h
  | laneSpillOverrun => exact execLaneSpillOverrun_anchor h
  | laneInputInvalid => exact execLaneInputInvalid_anchor h
  | laneExportDone => exact execLaneExportDone_anchor h
  | slotBoundary => exact execSlotBoundary_anchor h
  | slotframeBoundary => exact execSlotframeBoundary_anchor h
  | scheduleStart => exact execScheduleStart_anchor h
  | txStartCommand => exact execTxStartCommand_anchor h
  | ackRelease => exact execAckRelease_anchor h
  | ackLeft => exact execAckLeft_anchor h
  | txEnd => exact execTxEnd_anchor h
  | maskMonitorEval => exact execMaskMonitorEval_anchor h
  | beaconRewrite => exact execBeaconRewrite_anchor h
  | calSnippet => exact execCalSnippet_anchor h
  | calStreamBlock => exact execCalStreamBlock_anchor h
  | calGainUpdate => exact execCalGainUpdate_anchor h
  | calDelaySolve => exact execCalDelaySolve_anchor h
  | calGenRequest => exact execCalGenRequest_anchor h
  | calSweepStart => exact execCalSweepStart_anchor h
  | calSweepDone => exact execCalSweepDone_anchor h
  | calRecordWrite => exact execCalRecordWrite_anchor h
  | calRestore => exact execCalRestore_anchor h
  | ptpSync => exact execPtpSync_anchor h
  | ptpFollowUp => exact execPtpFollowUp_anchor h
  | ptpDelayResp => exact execPtpDelayResp_anchor h
  | ptpAnnounce => exact execPtpAnnounce_anchor h
  | ppsInEdge => exact execPpsInEdge_anchor h
  | ppsEdgeMissing => exact execPpsEdgeMissing_anchor h
  | ppsOutPulse => exact execPpsOutPulse_anchor h
  | ppsOutFall => exact execPpsOutFall_anchor h
  | timeComparator => exact execTimeComparator_anchor h
  | nbrBeaconHeard => exact execNbrBeaconHeard_anchor h
  | nbrBeaconMissed => exact execNbrBeaconMissed_anchor h
  | nbrHoldoffExpire => exact execNbrHoldoffExpire_anchor h
  | keyLookup => exact execKeyLookup_anchor h
  | keyUnwrapDone => exact execKeyUnwrapDone_anchor h
  | keyPayloadBlock => exact execKeyPayloadBlock_anchor h
  | keyFrameEnd => exact execKeyFrameEnd_anchor h
  | keyCounterUpdate => exact execKeyCounterUpdate_anchor h
  | keyProtect => exact execKeyProtect_anchor h
  | counterCeilingWrite => exact execCounterCeilingWrite_anchor h
  | keyLoad => exact execKeyLoad_anchor h
  | keyRevoke => exact execKeyRevoke_anchor h
  | keyRetire => exact execKeyRetire_anchor h
  | keyRewrap => exact execKeyRewrap_anchor h
  | keyRewrapWalkDone => exact execKeyRewrapWalkDone_anchor h
  | keyJournalWriteDone => exact execKeyJournalWriteDone_anchor h
  | keyJournalCompact => exact execKeyJournalCompact_anchor h
  | keyEntropyFail => exact execKeyEntropyFail_anchor h
  | jigLaneDrained => exact execJigLaneDrained_anchor h
  | candidateOpen => exact execCandidateOpen_anchor h
  | candidateVerdicts => exact execCandidateVerdicts_anchor h
  | candidateStaged => exact execCandidateStaged_anchor h
  | candidateDeadline => exact execCandidateDeadline_anchor h
  | owedReleaseMissed => exact execOwedReleaseMissed_anchor h
  | standbyCandidateTimeout => exact execStandbyCandidateTimeout_anchor h
  | standbyOwedAssume => exact execStandbyOwedAssume_anchor h
  | dedupExpire => exact execDedupExpire_anchor h
  | learnEvent => exact execLearnEvent_anchor h
  | newSenderAdmit => exact execNewSenderAdmit_anchor h
  | learnWindowClose => exact execLearnWindowClose_anchor h
  | nodeEntryCreate => exact execNodeEntryCreate_anchor h
  | nodeInsert => exact execNodeInsert_anchor h
  | learnFallback => exact execLearnFallback_anchor h
  | rehashStart => exact execRehashStart_anchor h
  | rehashDone => exact execRehashDone_anchor h
  | agerVisit => exact execAgerVisit_anchor h
  | homePortRehome => exact execHomePortRehome_anchor h
  | forwardPacket => exact execForwardPacket_anchor h
  | transitExpire => exact execTransitExpire_anchor h
  | seenExpire => exact execSeenExpire_anchor h
  | ferryDownlink => exact execFerryDownlink_anchor h
  | dlItemExpiry => exact execDlItemExpiry_anchor h
  | nodeEnhancedAck => exact execNodeEnhancedAck_anchor h
  | ferryMgmtCmd => exact execFerryMgmtCmd_anchor h
  | clearCounters => exact execClearCounters_anchor h
  | clearSticky => exact execClearSticky_anchor h
  | eventClear => exact execEventClear_anchor h
  | keyItem => exact execKeyItem_anchor h
  | ferryUlAck => exact execFerryUlAck_anchor h
  | ferryUplinkSend => exact execFerryUplinkSend_anchor h
  | ferryUlRto => exact execFerryUlRto_anchor h
  | ferryHeartbeat => exact execFerryHeartbeat_anchor h
  | ferryHeartbeatTx => exact execFerryHeartbeatTx_anchor h
  | ferryPeerLost => exact execFerryPeerLost_anchor h
  | ferrySessionOpen => exact execFerrySessionOpen_anchor h
  | ferryRekey => exact execFerryRekey_anchor h
  | ferryOldKeysExpire => exact execFerryOldKeysExpire_anchor h
  | ferryMgmtRead => exact execFerryMgmtRead_anchor h
  | neighbourAdvertisementTx => exact execNeighbourAdvertisementTx_anchor h
  | neighbourSolicitation => exact execNeighbourSolicitation_anchor h
  | echoRequest => exact execEchoRequest_anchor h
  | ethLinkChange => exact execEthLinkChange_anchor h
  | tokenPartnerReleased => exact execTokenPartnerReleased_anchor h
  | tokenTie => exact execTokenTie_anchor h
  | ownLineFault => exact execOwnLineFault_anchor h
  | takeTime => cases hc
  | headFollowCheck => exact execHeadFollowCheck_anchor h
  | payloadRecord => cases hc
  | entryRecord => cases hc
  | ackBookRecord => cases hc
  | voidRecord => cases hc
  | dlRecord => cases hc
  | ceilingRecord => cases hc
  | ackPointRecord => cases hc
  | sessionRecord => cases hc
  | scheduleRecord => cases hc
  | keyRecord => cases hc
  | nodeRecord => cases hc
  | campaignRecord => cases hc
  | timeRecord => cases hc
  | commitRecord => cases hc
  | fitnessRecord => cases hc
  | fitnessTx => exact execFitnessTx_anchor h
  | digestRecord => cases hc
  | rangeRecord => cases hc
  | handoverRecord => cases hc
  | releasedRecord => cases hc
  | pairingRecord => exact execPairingRecord_anchor h
  | keepaliveRecord => cases hc
  | keepaliveTx => exact execKeepaliveTx_anchor h
  | isthmusLinkUp => exact execIsthmusLinkUp_anchor h
  | isthmusLinkLoss => exact execIsthmusLinkLoss_anchor h
  | pairPartnerLost => cases hc
  | pairDetached => exact execPairDetached_anchor h
  | pairMseqGap => cases hc
  | pairGiveUp => exact execPairGiveUp_anchor h
  | digestPeriodTick => exact execDigestPeriodTick_anchor h
  | resyncPhaseDone => exact execResyncPhaseDone_anchor h
  | pairResync => exact execPairResync_anchor h
  | pairResyncSlow => exact execPairResyncSlow_anchor h
  | handover => exact execHandover_anchor h
  | resync => exact execResync_anchor h
  | handoverTime => exact execHandoverTime_anchor h
  | updBegin => exact execUpdBegin_anchor h
  | updPart => exact execUpdPart_anchor h
  | updAbort => exact execUpdAbort_anchor h
  | pieceWrite => exact execPieceWrite_anchor h
  | updVerifyDone => exact execUpdVerifyDone_anchor h
  | updActivate => exact execUpdActivate_anchor h
  | updActivateCopyDone => exact execUpdActivateCopyDone_anchor h
  | actTimeout => exact execActTimeout_anchor h
  | updConfirm => cases hc
  | confirmHold => cases hc
  | updRevert => exact execUpdRevert_anchor h
  | updRevokeSlot => cases hc
  | pieceRequest => exact execPieceRequest_anchor h
  | piecePartFrame => exact execPiecePartFrame_anchor h
  | campDefine => exact execCampDefine_anchor h
  | campData => cases hc
  | campMembers => exact execCampMembers_anchor h
  | campStart => exact execCampStart_anchor h
  | campPause => exact execCampPause_anchor h
  | campEnd => exact execCampEnd_anchor h
  | campWindowOpen => exact execCampWindowOpen_anchor h
  | quayClaim => exact execQuayClaim_anchor h
  | quayWrWord => exact execQuayWrWord_anchor h
  | quayWrEnd => exact execQuayWrEnd_anchor h
  | quayWrPoison => exact execQuayWrPoison_anchor h
  | quayRdNext => exact execQuayRdNext_anchor h
  | quayRdDrop => exact execQuayRdDrop_anchor h
  | quayFlush => exact execQuayFlush_anchor h
  | dmaStart => exact execDmaStart_anchor h
  | dmaStop => exact execDmaStop_anchor h
  | dmaDescriptorDone => cases hc
  | eccError => exact execEccError_anchor h
  | scrubPatrol => exact execScrubPatrol_anchor h
  | ddrTrainingLoss => exact execDdrTrainingLoss_anchor h
  | ddrRetrainDone => exact execDdrRetrainDone_anchor h
  | engWdogKick => exact execEngWdogKick_anchor h
  | engWdogExpire => exact execEngWdogExpire_anchor h
  | engLockstep => exact execEngLockstep_anchor h
  | errorReport => exact execErrorReport_anchor h
  | coalesceWindowClose => exact execCoalesceWindowClose_anchor h
  | handlerTake => exact execHandlerTake_anchor h
  | handlerDone => exact execHandlerDone_anchor h
  | handlerTimeout => exact execHandlerTimeout_anchor h
  | handlerException => exact execHandlerException_anchor h
  | jigSweepStart => exact execJigSweepStart_anchor h
  | jigTestStart => exact execJigTestStart_anchor h
  | jigDetWarmupDone => exact execJigDetWarmupDone_anchor h
  | jigPreempt => exact execJigPreempt_anchor h
  | jigTestDone => exact execJigTestDone_anchor h
  | jigRun => exact execJigRun_anchor h
  | jigPort => exact execJigPort_anchor h
  | fhRetrain => exact execFhRetrain_anchor h
  | dumpRelease => exact execDumpRelease_anchor h
  | clampRequest => exact execClampRequest_anchor h
  | clampRelease => exact execClampRelease_anchor h
  | clampWaitExpire => exact execClampWaitExpire_anchor h
  | fatal => exact execFatal_anchor h
  | fatalStagingDrained => exact execFatalStagingDrained_anchor h
  | dumpWritten => exact execDumpWritten_anchor h
  | dumpPathsDone => cases hc
  | hltPartnerDump => exact execHltPartnerDump_anchor h
  | dumpFlashCopy => exact execDumpFlashCopy_anchor h
  | evrCursorWrite => exact execEvrCursorWrite_anchor h
  | evrData7Read => exact execEvrData7Read_anchor h
  | mgtI2cWrite => exact execMgtI2cWrite_anchor h
  | mgtI2cRead => exact execMgtI2cRead_anchor h
  | registerLoRead => exact execRegisterLoRead_anchor h
  | registerWrite => cases hc
  | glbOvertemp => exact execGlbOvertemp_anchor h
  | glbThermalTrip => exact execGlbThermalTrip_anchor h
  | warmrstNRise => exact execWarmrstNRise_anchor h
  | vddAoRestored => exact execVddAoRestored_anchor h
  | fhLossOfSignal => exact execFhLossOfSignal_anchor h
  | ptpSourceLost => exact execPtpSourceLost_anchor h
  | glbTempUpdate => exact execGlbTempUpdate_anchor h
  | sdsclkReturn => cases hc

end Sys2Proof.Machine

/-! PROOFS. What the remaining operations and commands, which may write memory or programme fuses, leave of the anchor: the queue. -/

namespace Sys2Proof.Machine
open Sys2Proof Host

/-! ### The queue as a part of the anchor -/

theorem pending_eq_anchor (s : State) : s.pending = s.anchor.pending := by rw [State.anchor]

theorem anchor_pending_ite (c : Prop) [Decidable c] (a b : State) :
    (if c then a.anchor else b.anchor).pending = if c then a.anchor.pending else b.anchor.pending := apply_ite _ _ _ _

theorem anchor_pending_foldl {α : Type} (f : State → α → State) (h : ∀ s x, (f s x).anchor.pending = s.anchor.pending)
    (l : List α) (s : State) : (l.foldl f s).anchor.pending = s.anchor.pending := by
  induction l generalizing s with
  | nil => rfl
  | cons a r ih => rw [List.foldl_cons, ih, h]

/-! ### Fuses and confirmations (R60, R414) -/

@[simp] theorem blowFuse_anchor_pending (n : Nat) (bits : Word) (s : State) : (blowFuse n bits s).anchor.pending = s.anchor.pending := by
  simp only [blowFuse, anchor_mk, pending_eq_anchor]

@[simp] theorem raiseRollback_anchor_pending (n : Nat) (s : State) : (raiseRollback n s).anchor.pending = s.anchor.pending := by
  unfold raiseRollback
  split <;> simp only [blowFuse_anchor_pending]

@[simp] theorem rollbackUp_anchor_pending (s : State) : (rollbackUp s).anchor.pending = s.anchor.pending := by
  unfold rollbackUp
  repeat' split
  all_goals simp only [raiseRollback_anchor_pending]

@[simp] theorem confirmRest_anchor_pending (otherValid step2Ok step3Ok : Bool) (s : State) :
    (confirmRest otherValid step2Ok step3Ok s).anchor.pending = s.anchor.pending := by
  unfold confirmRest
  (repeat' split) <;> simp [anchor_pending_ite]

@[simp] theorem confirmImage_anchor_pending (step1Ok otherValid step2Ok step3Ok : Bool) (s : State) :
    (confirmImage step1Ok otherValid step2Ok step3Ok s).2.anchor.pending = s.anchor.pending := by
  unfold confirmImage
  dsimp only
  (repeat' split) <;> simp [pending_eq_anchor]

@[simp] theorem confirmCommitted_anchor_pending (ok : Bool) (s : State) : (confirmCommitted ok s).anchor.pending = s.anchor.pending := by
  unfold confirmCommitted
  dsimp only
  (repeat' split) <;> simp [pending_eq_anchor]

/-! ### The records of the partner (R376 to R380) -/

@[simp] theorem settleAwait_anchor_pending (a : Await) (ok : Bool) (s : State) :
    (settleAwait a ok s).anchor.pending = s.anchor.pending := by
  unfold settleAwait
  split <;> simp [pending_eq_anchor]

@[simp] theorem applyCommit_anchor_pending (m : Nat) (ok : Bool) (s : State) :
    (applyCommit m ok s).anchor.pending = s.anchor.pending := by
  unfold applyCommit
  split <;> simp [pending_eq_anchor]

@[simp] theorem applyCampaign_anchor_pending (h : MirrorHdr) (b : CampMirror) (s : State) :
    (applyCampaign h b s).anchor.pending = s.anchor.pending := by
  unfold applyCampaign
  dsimp only
  (repeat' split) <;> simp [pending_eq_anchor]

@[simp] theorem applyRecord_anchor_pending (i : Instr) (s : State) : (applyRecord i s).anchor.pending = s.anchor.pending := by
  unfold applyRecord
  (repeat' split) <;> simp [pending_eq_anchor]

@[simp] theorem takeRecord_anchor_pending (h : MirrorHdr) (i : Instr) (s : State) :
    (takeRecord h i s).anchor.pending = s.anchor.pending := by
  unfold takeRecord
  dsimp only
  (repeat' split) <;> simp [pending_eq_anchor]

@[simp] theorem takeWaiting_anchor_pending (n : Nat) (s : State) : (takeWaiting n s).anchor.pending = s.anchor.pending := by
  induction n generalizing s with
  | zero => rw [takeWaiting]
  | succ n ih =>
    rw [takeWaiting]
    split
    · simp only [anchor_mk, anchor_eta]
    · simp only [ih, takeRecord_anchor_pending, anchor_mk, anchor_eta]

@[simp] theorem receive_anchor_pending (h : MirrorHdr) (i : Instr) (s : State) : (receive h i s).anchor.pending = s.anchor.pending := by
  unfold receive
  dsimp only
  (repeat' split) <;> simp [pending_eq_anchor]

@[simp] theorem losePartner_anchor_pending (s : State) : (losePartner s).anchor.pending = s.anchor.pending := by
  unfold losePartner
  simp only [beginPairing_anchor, actPartnerLost_anchor, cancelHandover_anchor]
  refine (anchor_pending_foldl _ (fun _ _ => ?_) _ _).trans ?_
  · split <;> simp only [settleAwait_anchor_pending]
  · simp only [soloCommits_anchor, degraded_anchor, occurs_anchor, anchor_mk, anchor_eta]

@[simp] theorem takeLine_anchor_pending (s : State) : (takeLine s).anchor.pending = s.anchor.pending := by
  unfold takeLine
  dsimp only
  (repeat' split) <;> simp [pending_eq_anchor]

/-! ### The confirmation of an update (R414) -/

@[simp] theorem confirmAll_anchor_pending (d : Option Nat) (a b c e : Bool) (s : State) :
    (confirmAll d a b c e s).anchor.pending = s.anchor.pending := by
  unfold confirmAll
  dsimp only
  (repeat' split) <;> simp [pending_eq_anchor]

/-! ### Memory and DMA (R450) -/

@[simp] theorem setBytes_anchor_pending (a : Nat) (l : List Byte) (s : State) : (s.setBytes a l).anchor.pending = s.anchor.pending := by
  induction l generalizing a s with
  | nil => rw [State.setBytes]
  | cons b r ih => rw [State.setBytes, ih, ← pending_eq_anchor, setByte_pending, pending_eq_anchor]

@[simp] theorem writeDesc_anchor_pending (c : Nat) (keepValid done : Bool) (error moved : Nat) (s : State) :
    (writeDesc c keepValid done error moved s).anchor.pending = s.anchor.pending := by
  simp only [writeDesc, State.setWord, setBytes_anchor_pending]

@[simp] theorem dmaError_anchor_pending (c e moved : Nat) (s : State) : (dmaError c e moved s).anchor.pending = s.anchor.pending := by
  simp [dmaError, pending_eq_anchor]

@[simp] theorem dmaDone_anchor_pending (c moved : Nat) (d : Descriptor) (s : State) :
    (dmaDone c moved d s).anchor.pending = s.anchor.pending := by
  unfold dmaDone
  dsimp only
  split <;> simp

@[simp] theorem dmaDeliver_anchor_pending (c : Nat) (d : Descriptor) (l : List Byte) (poisonAt : Option Nat) (err : Nat) (s : State) :
    (dmaDeliver c d l poisonAt err s).anchor.pending = s.anchor.pending := by
  unfold dmaDeliver
  dsimp only
  (repeat' split) <;> simp

@[simp] theorem dmaRefused_anchor_pending (c : Nat) (s : State) : (dmaRefused c s).anchor.pending = s.anchor.pending := by
  unfold dmaRefused
  dsimp only
  split <;> simp

@[simp] theorem dmaFromMemory_anchor_pending (c : Nat) (d : Descriptor) (poisonAt : Option Nat) (s : State) :
    (dmaFromMemory c d poisonAt s).anchor.pending = s.anchor.pending := by
  unfold dmaFromMemory
  dsimp only
  (repeat' split) <;> simp

@[simp] theorem dmaFromQuay_anchor_pending (c : Nat) (d : Descriptor) (s : State) :
    (dmaFromQuay c d s).anchor.pending = s.anchor.pending := by
  unfold dmaFromQuay
  dsimp only
  (repeat' split) <;> simp

/-! ### Resets (R82, R83) -/

@[simp] theorem islandReset_anchor_pending (s : State) : (islandReset s).anchor.pending = s.anchor.pending := by
  simp only [islandReset, anchor_mk, pending_eq_anchor]

@[simp] theorem resetDone_anchor_pending (s : State) : (resetDone s).anchor.pending = s.anchor.pending := by
  unfold resetDone
  dsimp only
  split <;> simp [pending_eq_anchor]

@[simp] theorem powerReset_anchor_pending (s : State) : (powerReset s).anchor.pending = s.anchor.pending := by
  simp only [powerReset, anchor_mk, pending_eq_anchor]

@[simp] theorem powerDown_anchor_pending (s : State) : (powerDown s).anchor.pending = s.anchor.pending := by
  unfold powerDown
  split <;> simp only [powerReset_anchor_pending, out_anchor]

@[simp] theorem fallReset_anchor_pending (keep : Bool) (s : State) : (fallReset keep s).anchor.pending = s.anchor.pending := by
  simp only [fallReset, anchor_mk, pending_eq_anchor]

/-! ### The start and the records of an image (R51, R71 to R77) -/

@[simp] theorem imageFail_anchor_pending (code : Nat) (s : State) : (imageFail code s).anchor.pending = s.anchor.pending := by
  unfold imageFail
  dsimp only
  (repeat' split) <;> simp [pending_eq_anchor]

@[simp] theorem saveBefore_anchor_pending (s : State) : (saveBefore s).anchor.pending = s.anchor.pending := by
  unfold saveBefore
  split <;> simp only [anchor_mk, pending_eq_anchor]

@[simp] theorem enterP5_anchor_pending (s : State) : (enterP5 s).anchor.pending = s.anchor.pending := by
  unfold enterP5
  dsimp only
  split <;> simp [pending_eq_anchor]

@[simp] theorem p4Advance_anchor_pending (s : State) : (p4Advance s).anchor.pending = s.anchor.pending := by
  unfold p4Advance
  repeat' split
  · exact enterP5_anchor_pending s
  · simp only [anchor_mk, anchor_eta]
  · rfl

@[simp] theorem startPoll_anchor_pending (s : State) : (startPoll s).anchor.pending = s.anchor.pending := by
  simp only [startPoll, p6Advance_anchor, p5Advance_anchor, p4Advance_anchor_pending, pollWait_anchor]

@[simp] theorem imageStart_anchor_pending (h : ImageHdr) (confirm attempts : Word) (s : State) :
    (imageStart h confirm attempts s).anchor.pending = s.anchor.pending := by
  unfold imageStart
  dsimp only
  split <;> simp [pending_eq_anchor]

@[simp] theorem recordFail_anchor_pending (code : Nat) (s : State) : (recordFail code s).anchor.pending = s.anchor.pending := by
  simp [recordFail, pending_eq_anchor]

@[simp] theorem boundFail_anchor_pending (s : State) : (boundFail s).anchor.pending = s.anchor.pending := by
  unfold boundFail
  repeat' split
  all_goals simp [pending_eq_anchor]

@[simp] theorem recordDone_anchor_pending (s : State) : (recordDone s).anchor.pending = s.anchor.pending := by
  unfold recordDone
  split
  · rfl
  · simp [pending_eq_anchor]

@[simp] theorem recordSkip_anchor_pending (s : State) : (recordSkip s).anchor.pending = s.anchor.pending := by
  simp [recordSkip]

theorem record_anchor_pending (own : Nat) (h : RecHdr) (f : State → Option Nat × State)
    (hf : ∀ s, (f s).2.anchor.pending = s.anchor.pending) (s : State) :
    (record own h f s).anchor.pending = s.anchor.pending := by
  unfold record
  dsimp only
  repeat' split
  case h_1 _ code s1 hr => simpa [hr] using hf (startPoll s)
  case h_2 _ s1 hr => simpa [hr] using hf (startPoll s)
  all_goals simp

/-! ### From the operations to the commands -/

section
variable {t : Time} {s s' : State}

theorem pending_of_onInst {ok : Bool} {u : State} (h : onInst ok u = .next s') (hu : u.anchor.pending = s.anchor.pending) :
    s'.pending = s.pending := by
  rw [pending_eq_anchor, anchor_of_onInst h, hu, ← pending_eq_anchor]

theorem pending_of_anchor (h : s'.anchor = s.anchor) : s'.pending = s.pending := by
  rw [pending_eq_anchor, h, ← pending_eq_anchor]

/-- The records of the partner all go through `receive` (R380). -/
theorem pending_of_receive {ok : Bool} {h : MirrorHdr} {i : Instr} (hx : onInst ok (receive h i (s.arrive t)) = .next s') :
    s'.pending = s.pending :=
  pending_of_onInst hx (by rw [receive_anchor_pending, arrive_anchor])

/-- The records of an image all go through `record` (R71). -/
theorem pending_of_record {ok : Bool} {own : Nat} {h : RecHdr} {f : State → Option Nat × State}
    (hf : ∀ s, (f s).2.anchor.pending = s.anchor.pending) (hx : onInst ok (record own h f (s.arrive t)) = .next s') :
    s'.pending = s.pending :=
  pending_of_onInst hx (by rw [record_anchor_pending _ _ _ hf, arrive_anchor])

/-! ### The commands of Machine/Pair.lean -/

theorem execPairPartnerLost_pending (hx : execPairPartnerLost t s = .next s') : s'.pending = s.pending := by
  refine pending_of_onInst hx ?_
  dsimp only
  split <;> simp

theorem execPairMseqGap_pending (hx : execPairMseqGap t s = .next s') : s'.pending = s.pending := by
  refine pending_of_onInst hx ?_
  dsimp only
  (repeat' split) <;> simp [pending_eq_anchor]

theorem execTakeTime_pending {partnerLow : Bool} (hx : execTakeTime t partnerLow s = .next s') : s'.pending = s.pending := by
  refine pending_of_onInst hx ?_
  dsimp only
  (repeat' split) <;> simp [pending_eq_anchor]

/-! ### The commands of Machine/Updates.lean -/

theorem execUpdConfirm_pending {d : Nat} {step1Ok otherValid step2Ok step3Ok : Bool}
    (hx : execUpdConfirm t d step1Ok otherValid step2Ok step3Ok s = .next s') : s'.pending = s.pending := by
  refine pending_of_onInst hx ?_
  dsimp only
  (repeat' split) <;> simp

theorem execConfirmHold_pending {step1Ok otherValid step2Ok step3Ok : Bool}
    (hx : execConfirmHold t step1Ok otherValid step2Ok step3Ok s = .next s') : s'.pending = s.pending := by
  refine pending_of_onInst hx ?_
  dsimp only
  split <;> simp

theorem execConfirmRetryCheck_pending {otherValid step2Ok step3Ok : Bool}
    (hx : execConfirmRetryCheck t otherValid step2Ok step3Ok s = .next s') : s'.pending = s.pending := by
  refine pending_of_onInst hx ?_
  dsimp only
  split <;> simp

theorem execUpdRevokeSlot_pending {d : Nat} {otherValid : Bool}
    (hx : execUpdRevokeSlot t d otherValid s = .next s') : s'.pending = s.pending := by
  refine pending_of_onInst hx ?_
  dsimp only
  (repeat' split) <;> simp

theorem execCampData_pending {d : Nat} (hx : execCampData t d s = .next s') : s'.pending = s.pending := by
  refine pending_of_onInst hx ?_
  dsimp only
  (repeat' split) <;> simp [pending_eq_anchor]

/-! ### The commands of Machine/Memory.lean -/

theorem execDmaDescriptorDone_pending {c : Nat} {poisonAt : Option Nat}
    (hx : execDmaDescriptorDone t c poisonAt s = .next s') : s'.pending = s.pending := by
  refine pending_of_onInst hx ?_
  dsimp only
  (repeat' split) <;> simp

/-! ### The commands of Machine/Dumps.lean -/

theorem execDumpPathsDone_pending (hx : execDumpPathsDone t s = .next s') : s'.pending = s.pending := by
  refine pending_of_onInst hx ?_
  dsimp only
  (repeat' split) <;> simp [pending_eq_anchor]

/-! ### The commands of Machine/Start.lean -/

theorem execPorstNFall_pending (hx : execPorstNFall t s = .next s') : s'.pending = s.pending := by
  refine pending_of_onInst hx ?_
  simp [pending_eq_anchor]

theorem execVddAoLow_pending (hx : execVddAoLow t s = .next s') : s'.pending = s.pending := by
  refine pending_of_onInst hx ?_
  simp [pending_eq_anchor]

theorem execWarmResetDrainDone_pending (hx : execWarmResetDrainDone t s = .next s') : s'.pending = s.pending := by
  refine pending_of_onInst hx ?_
  dsimp only
  split <;> simp [pending_eq_anchor]

theorem execImageCheckDone_pending {keyHashOk signatureOk : Bool} {readError : Option Nat} {flashSize oldest newest : Nat}
    (hx : execImageCheckDone t keyHashOk signatureOk readError flashSize oldest newest s = .next s') : s'.pending = s.pending := by
  refine pending_of_onInst hx ?_
  dsimp only
  (repeat' split) <;> simp [pending_eq_anchor]

theorem execDdrTrainDone_pending {okA okB : Bool} {capA capB : Nat}
    (hx : execDdrTrainDone t okA okB capA capB s = .next s') : s'.pending = s.pending := by
  refine pending_of_onInst hx ?_
  dsimp only
  (repeat' split) <;> simp [pending_eq_anchor]

theorem execBootEngineReadyWrite_pending {e : Nat} (hx : execBootEngineReadyWrite t e s = .next s') : s'.pending = s.pending := by
  refine pending_of_onInst hx ?_
  dsimp only
  split <;> simp

theorem execEngineTimeout_pending (hx : execEngineTimeout t s = .next s') : s'.pending = s.pending := by
  refine pending_of_onInst hx ?_
  dsimp only
  split <;> simp

theorem execPhaseBoundExpire_pending (hx : execPhaseBoundExpire t s = .next s') : s'.pending = s.pending := by
  refine pending_of_onInst hx ?_
  dsimp only
  split <;> simp

/-! ### The commands of Machine/Records.lean -/

theorem execRegWrite_pending {h : RecHdr} {writes : List (Word × Word)}
    (hx : execRegWrite t h writes s = .next s') : s'.pending = s.pending :=
  pending_of_record (fun s => by rw [writeAll_anchor]) hx

theorem execRegField_pending {h : RecHdr} {address mask value : Word}
    (hx : execRegField t h address mask value s = .next s') : s'.pending = s.pending :=
  pending_of_record (fun s => by rw [writeAll_anchor]) hx

theorem execWaitUntil_pending {h : RecHdr} {address mask value : Word} {timeout : Nat}
    (hx : execWaitUntil t h address mask value timeout s = .next s') : s'.pending = s.pending := by
  refine pending_of_record (fun s => ?_) hx
  dsimp only
  (repeat' split) <;> simp [pending_eq_anchor]

theorem execWaitUntilTimeout_pending (hx : execWaitUntilTimeout t s = .next s') : s'.pending = s.pending := by
  refine pending_of_onInst hx ?_
  dsimp only
  split <;> simp

theorem execCheck_pending {h : RecHdr} {address mask value : Word} {op : Nat}
    (hx : execCheck t h address mask value op s = .next s') : s'.pending = s.pending := by
  refine pending_of_record (fun s => ?_) hx
  split
  · rfl
  split
  · rfl
  dsimp only
  split <;> rw [readAs_anchor]

theorem execMemLoad_pending {h : RecHdr} {target index address : Nat} {data : List Byte}
    (hx : execMemLoad t h target index address data s = .next s') : s'.pending = s.pending := by
  refine pending_of_record (fun s => ?_) hx
  split <;> simp

theorem execTableLoad_pending {h : RecHdr} {id size first : Nat} {l : List Nat}
    (hx : execTableLoad t h id size first l s = .next s') : s'.pending = s.pending :=
  pending_of_record (fun s => by rw [tableLoad_anchor]) hx

theorem execKeyBlob_pending {h : RecHdr} {cls wrap id : Nat} {ephemeral blob : BitVec 512}
    (hx : execKeyBlob t h cls wrap id ephemeral blob s = .next s') : s'.pending = s.pending := by
  refine pending_of_record (fun s => ?_) hx
  (repeat' split) <;> simp

theorem execFormatNote_pending {h : RecHdr} {region oldFormat newFormat newOffset newLength oldOffset oldLength : Nat}
    (hx : execFormatNote t h region oldFormat newFormat newOffset newLength oldOffset oldLength s = .next s') : s'.pending = s.pending := by
  refine pending_of_record (fun s => ?_) hx
  dsimp only
  split <;> simp [pending_eq_anchor]

/-! ### The commands of Machine/Service.lean -/

theorem execFhLinkupTimeout_pending (hx : execFhLinkupTimeout t s = .next s') : s'.pending = s.pending := by
  refine pending_of_onInst hx ?_
  dsimp only
  split
  · simp
  · rw [endP7_anchor, anchor_foldl _ fun _ _ => bump_anchor _ _ _, startPoll_anchor_pending, arrive_anchor]

theorem execRelease_pending {badCopies : List Nat} (hx : execRelease t badCopies s = .next s') : s'.pending = s.pending := by
  refine pending_of_onInst hx ?_
  dsimp only
  split <;> simp [pending_eq_anchor]

theorem execSdsclkReturn_pending {k : Nat} (hx : execSdsclkReturn t k s = .next s') : s'.pending = s.pending := by
  refine pending_of_onInst hx ?_
  dsimp only
  split <;> simp [pending_eq_anchor]

theorem execFuseProgDone_pending (hx : execFuseProgDone t s = .next s') : s'.pending = s.pending := by
  refine pending_of_onInst hx ?_
  dsimp only
  split <;> simp [pending_eq_anchor]

theorem execJtagFuseProgram_pending {w b : Nat} (hx : execJtagFuseProgram t w b s = .next s') : s'.pending = s.pending := by
  refine pending_of_onInst hx ?_
  dsimp only
  (repeat' split) <;> simp

theorem execRegisterWrite_pending {g : Agent} {a v : Word} {n : Nat}
    (hx : execRegisterWrite t g a v n s = .next s') : s'.pending = s.pending := by
  refine pending_of_onInst hx ?_
  dsimp only
  split <;> simp

end

/-- No command touches the queue: those that leave the anchor alone, and by name those that may move it. -/
theorem exec_pending {c : Instr} {s s' : State} (h : exec c s = .next s') : s'.pending = s.pending := by
  cases c with
  | porstNFall => exact execPorstNFall_pending h
  | vddAoLow => exact execVddAoLow_pending h
  | warmResetDrainDone => exact execWarmResetDrainDone_pending h
  | imageCheckDone => exact execImageCheckDone_pending h
  | ddrTrainDone => exact execDdrTrainDone_pending h
  | regWrite => exact execRegWrite_pending h
  | regField => exact execRegField_pending h
  | memLoad => exact execMemLoad_pending h
  | tableLoad => exact execTableLoad_pending h
  | keyBlob => exact execKeyBlob_pending h
  | waitUntil => exact execWaitUntil_pending h
  | waitUntilTimeout => exact execWaitUntilTimeout_pending h
  | check => exact execCheck_pending h
  | formatNote => exact execFormatNote_pending h
  | bootEngineReadyWrite => exact execBootEngineReadyWrite_pending h
  | engineTimeout => exact execEngineTimeout_pending h
  | phaseBoundExpire => exact execPhaseBoundExpire_pending h
  | fhLinkupTimeout => exact execFhLinkupTimeout_pending h
  | release => exact execRelease_pending h
  | fuseProgDone => exact execFuseProgDone_pending h
  | jtagFuseProgram => exact execJtagFuseProgram_pending h
  | confirmRetryCheck => exact execConfirmRetryCheck_pending h
  | takeTime => exact execTakeTime_pending h
  | payloadRecord => exact pending_of_receive h
  | entryRecord => exact pending_of_receive h
  | ackBookRecord => exact pending_of_receive h
  | voidRecord => exact pending_of_receive h
  | dlRecord => exact pending_of_receive h
  | ceilingRecord => exact pending_of_receive h
  | ackPointRecord => exact pending_of_receive h
  | sessionRecord => exact pending_of_receive h
  | scheduleRecord => exact pending_of_receive h
  | keyRecord => exact pending_of_receive h
  | nodeRecord => exact pending_of_receive h
  | campaignRecord => exact pending_of_receive h
  | timeRecord => exact pending_of_receive h
  | commitRecord => exact pending_of_receive h
  | fitnessRecord => exact pending_of_receive h
  | digestRecord => exact pending_of_receive h
  | rangeRecord => exact pending_of_receive h
  | handoverRecord => exact pending_of_receive h
  | releasedRecord => exact pending_of_receive h
  | keepaliveRecord => exact pending_of_receive h
  | pairPartnerLost => exact execPairPartnerLost_pending h
  | pairMseqGap => exact execPairMseqGap_pending h
  | updConfirm => exact execUpdConfirm_pending h
  | confirmHold => exact execConfirmHold_pending h
  | updRevokeSlot => exact execUpdRevokeSlot_pending h
  | campData => exact execCampData_pending h
  | dmaDescriptorDone => exact execDmaDescriptorDone_pending h
  | dumpPathsDone => exact execDumpPathsDone_pending h
  | registerWrite => exact execRegisterWrite_pending h
  | sdsclkReturn => exact execSdsclkReturn_pending h
  | _ => exact pending_of_anchor (exec_anchor rfl h)

/-- Settles O45: command by command, from what each meaning makes of the anchor and of the queue in it. -/
theorem commandsLeaveQueueAlone : Obligations.CommandsLeaveQueueAlone := fun _ _ _ h => exec_pending h

end Sys2Proof.Machine

/-! PROOFS. The recorder's cursor, the management window and the access to registers. -/

namespace Sys2Proof.Machine
open Sys2Proof Host

/-! ### What the end of a meaning and the arrival of a command leave of a state -/

/-- The end of a meaning moves nothing but the health unit. -/
theorem settle_eq (s : State) : settle s = { s with hlt := (settle s).hlt } := by
  unfold settle
  split <;> rfl

theorem onInst_true (u : State) : onInst true u = .next (settle u) := rfl

@[simp] theorem reaches_arrive (s : State) (t : Time) (g : Agent) : reaches (s.arrive t) g = reaches s g := by
  simp [reaches]

@[simp] theorem islandHeld_arrive (s : State) (t : Time) (a : Nat) : islandHeld (s.arrive t) a = islandHeld s a := by
  simp [islandHeld]

@[simp] theorem latched_arrive (s : State) (t : Time) (g : Agent) (a : Nat) : latched (s.arrive t) g a = latched s g a := by
  simp [latched]

@[simp] theorem recordWord_arrive (s : State) (t : Time) (q k : Nat) : recordWord (s.arrive t) q k = recordWord s q k := by
  simp [recordWord]

@[simp] theorem reg_arrive (s : State) (t : Time) (a : Nat) : (s.arrive t).reg a = s.reg a := by
  simp [State.reg]

@[simp] theorem reg_settle (s : State) (a : Nat) : (settle s).reg a = s.reg a := by
  simp [State.reg]

/-- A counter counts `n`, up to 0xFFFF_FFFF (R27). -/
theorem count_bumpBy (c : Counter) (i n : Nat) (s : State) :
    (bumpBy c i n s).count c i = min 0xFFFFFFFF (s.count c i + n) := by
  rw [bumpBy, State.count, reg_setReg_same]
  exact Nat.mod_eq_of_lt (by omega)

theorem count_of_regs {s u : State} (h : u.regs = s.regs) (c : Counter) (i : Nat) : u.count c i = s.count c i := by
  rw [State.count, State.count, State.reg, State.reg, h]

theorem count_bumpBy_of_regs {s u : State} (h : u.regs = s.regs) (c : Counter) (i n : Nat) :
    (bumpBy c i n u).count c i = min 0xFFFFFFFF (s.count c i + n) := by
  rw [count_bumpBy, count_of_regs h]

theorem count_settle (s : State) (c : Counter) (i : Nat) : (settle s).count c i = s.count c i := count_of_regs (settle_regs s) c i

theorem count_arrive (s : State) (t : Time) (c : Counter) (i : Nat) : (s.arrive t).count c i = s.count c i :=
  count_of_regs (arrive_regs s t) c i

/-! ### The recorder's cursor (R476) -/

theorem exec_evrCursorWrite_taken {t : Time} {a : Agent} {q : Nat} {s : State} (hw : writes a = true) (hf : s.hlt.frozen = false)
    (hp : s.start.porstLow = false) (hq : q < 2 ^ 48) :
    exec (.evrCursorWrite t a q) s = .next (settle (setCursor q (s.arrive t))) := by
  rw [exec_evrCursorWrite, execEvrCursorWrite, onInst_true]
  simp only [arrive_hlt, arrive_start, hw, hf, hp, Nat.mod_eq_of_lt hq, Bool.not_false, Bool.and_self, if_true]

/-! ### Reads of a register (R489, R490) -/

theorem inControl_iff (a : Nat) : inControl a = true ↔ 0x40000000 ≤ a ∧ a < 0x41900000 := by rw [inControl, decide_eq_true_eq]

theorem readAs_placed {g : Agent} {a : Nat} {s : State} (h4 : a % 4 = 0) (hp : placeAt a ≠ .none) : readAs g a s = readHeld g a s := by
  rw [readAs, if_neg (by omega), if_neg hp]

theorem readHeld_lo {g : Agent} {a : Nat} {s : State} (hi : islandHeld s a = false) (hlo : isLo a = true) :
    readHeld g a s = (regValue s a, latch g a s) := by
  simp [readHeld, hi, hlo]

theorem readHeld_hi {g : Agent} {a : Nat} {s : State} (hi : islandHeld s a = false) (hlo : isLo a = false) (hhi : isHi a = true) :
    readHeld g a s = ((latched s g a).getD (regValue s a), s) := by
  simp [readHeld, hi, hlo, hhi]

theorem readHeld_plain {g : Agent} {a : Nat} {s : State} (hi : islandHeld s a = false) (hlo : isLo a = false) (hhi : isHi a = false)
    (hc : ¬(a = 0x4170003C ∧ writes g)) : readHeld g a s = (regValue s a, s) := by
  simp [readHeld, hi, hlo, hhi, hc]

theorem exec_registerLoRead_taken {t : Time} {g : Agent} {a : Word} {n : Nat} {s : State} {v : Word} {r : State}
    (hn : accessSize n = true) (hg : reaches s g = true) (hc : inControl a.toNat = true)
    (hr : readSized g a.toNat n (s.arrive t) = (v, r)) :
    exec (.registerLoRead t g a n) s = .next (settle (r.out (.readData g a.toNat v))) := by
  rw [exec_registerLoRead, execRegisterLoRead, hn, onInst_true]
  simp only [reaches_arrive, hg, hc, hr, Bool.not_true, Bool.or_self, Bool.false_eq_true, if_false]

theorem readSized_four (g : Agent) (a : Nat) (s : State) : readSized g a 4 s = readAs g a s := by rw [readSized, if_pos rfl]

theorem latched_latch (g : Agent) (lo : Nat) (s : State) : latched (latch g lo s) g (lo + 4) = some (regShown s (lo + 4)) := by
  simp [latched, latch]

theorem readSized_part {g : Agent} {a n : Nat} {s : State} (hn : n = 1 ∨ n = 2) (ha : a % n = 0) : readSized g a n s =
    (BitVec.ofNat 32 ((readAs g (a / 4 * 4) s).1.toNat / 2 ^ (8 * (a % 4)) % 2 ^ (8 * n)), (readAs g (a / 4 * 4) s).2) := by
  rw [readSized, if_neg (by omega), if_neg (by omega)]

theorem readSized_unaligned {g : Agent} {a n : Nat} {s : State} (ha : a % n ≠ 0) :
    readSized g a n s = (0, bump cGlbBadAccess 0 s) := by
  by_cases h : n = 4
  · subst h
    rw [readSized_four, readAs, if_pos ha]
  · rw [readSized, if_neg h, if_pos ha]

theorem accessSize_iff (n : Nat) : accessSize n = true ↔ n = 1 ∨ n = 2 ∨ n = 4 := by simp [accessSize, or_assoc]

/-! ### The management window (R3, R478) -/

theorem fromBig_four (a b c d : Byte) : fromBig [a, b, c, d] = (a ++ b ++ c ++ d).toNat := by
  simp only [fromBig, List.foldl_cons, List.foldl_nil, BitVec.toNat_append]
  have := a.isLt; have := b.isLt; have := c.isLt; have := d.isLt
  rw [← Nat.shiftLeft_add_eq_or_of_lt (by omega), ← Nat.shiftLeft_add_eq_or_of_lt (by omega),
    ← Nat.shiftLeft_add_eq_or_of_lt (by omega)]
  simp only [Nat.shiftLeft_eq]
  omega

theorem exec_mgtI2cWrite_four {t : Time} {a b c d : Byte} {r : List Byte} {s : State} (hr : reaches s .mgt = true) :
    exec (.mgtI2cWrite t (a :: b :: c :: d :: r)) s =
      .next (settle (bumpBy cMgtWriteReject 0 r.length { s.arrive t with hlt.mgtAddr := (a ++ b ++ c ++ d).toNat })) := by
  rw [exec_mgtI2cWrite, execMgtI2cWrite, onInst_true]
  simp [hr, fromBig_four, Nat.mod_one]

theorem windowWords_one {g : Agent} {a : Nat} {s : State} (hc : inControl a = true) (hp : placeAt a ≠ .none) :
    windowWords g 1 a s = ([(readAs g a s).1], (readAs g a s).2) := by
  have hout : ¬(0x50000000 ≤ a ∧ a ≤ 0x5FFFFFFF) := by
    have := (inControl_iff a).mp hc
    omega
  simp [windowWords, windowRead, hout, hc, hp]

theorem exec_mgtI2cRead_one {t : Time} {s : State} {v : Word} (hr : reaches s .mgt = true) (hc : inControl s.hlt.mgtAddr = true)
    (hp : placeAt s.hlt.mgtAddr ≠ .none) (hread : readAs .mgt s.hlt.mgtAddr (s.arrive t) = (v, s.arrive t)) :
    exec (.mgtI2cRead t 1) s =
      .next (settle { (s.arrive t).out (.mgtData [v]) with hlt.mgtAddr := (s.hlt.mgtAddr + 4) % 2 ^ 32 }) := by
  rw [exec_mgtI2cRead, execMgtI2cRead, onInst_true]
  simp [hr, windowWords_one hc hp, hread]

/-! ### Writes of a register (R489) -/

/-- In service nothing of the start waits: to poll it leaves the state alone. -/
theorem startPoll_inService {s : State} (hp : s.start.phase = .p9) (hw : s.start.waiting = none) : startPoll s = s := by
  simp [startPoll, pollWait, p4Advance, p5Advance, p6Advance, hp, hw]

theorem exec_registerWrite_four {t : Time} {e : Nat} {a v : Word} {s : State} (hp : s.start.phase = .p9)
    (hw : s.start.waiting = none) (hg : reaches s (.engine e) = true) (hc : inControl a.toNat = true) (hb : a.toNat ≠ rBootEngineReady) :
    exec (.registerWrite t (.engine e) a v 4) s = .next (settle (writeReg (.engine e) a.toNat v (s.arrive t))) := by
  rw [exec_registerWrite, execRegisterWrite, startPoll_inService (by simpa using hp) (by simpa using hw)]
  simp [onInst, accessSize, hg, hc, hb, writes]

/-- A write of fewer than four octets, or one that is not aligned, is counted and does nothing else. -/
theorem exec_registerWrite_refused {t : Time} {e : Nat} {a v : Word} {n : Nat} {s : State} (hp : s.start.phase = .p9)
    (hw : s.start.waiting = none) (hg : reaches s (.engine e) = true) (hc : inControl a.toNat = true)
    (hn : (n = 4 ∧ a.toNat % 4 ≠ 0) ∨ n = 1 ∨ n = 2) :
    exec (.registerWrite t (.engine e) a v n) s = .next (settle (bump cGlbBadAccess 0 (s.arrive t))) := by
  rcases hn with ⟨rfl, h4⟩ | hn
  · have hne : a.toNat ≠ rBootEngineReady := fun h => h4 (by rw [h]; rfl)
    rw [exec_registerWrite_four hp hw hg hc hne, writeReg, if_pos h4]
  · have h4 : n ≠ 4 := by omega
    rw [exec_registerWrite, execRegisterWrite, startPoll_inService (by simpa using hp) (by simpa using hw)]
    simp [onInst, (accessSize_iff n).mpr (by omega), hg, hc, h4, writes]

theorem refreshOne_eq (n : Nat) (s : State) :
    refreshOne n s = { s with cfgErr := (refreshOne n s).cfgErr, msys := (refreshOne n s).msys } := by
  unfold refreshOne
  dsimp only
  (repeat' split) <;> rfl

/-- To evaluate BLOCK_CFG_ERR again moves nothing but it and the interrupts (R74). -/
theorem refreshCfg_eq (n : Nat) (s : State) :
    refreshCfg n s = { s with cfgErr := (refreshCfg n s).cfgErr, msys := (refreshCfg n s).msys } := by
  unfold refreshCfg
  generalize cfgDeps n = l
  induction l generalizing s with
  | nil => rfl
  | cons b r ih => rw [List.foldl_cons, ih, refreshOne_eq]

theorem cardAt_of_placeAt {a : Nat} {c : Card} (h : placeAt a = .card c) : cardAt (blockOf a).2 (cardsOf (blockOf a).1) = some c := by
  unfold placeAt at h
  split at h
  · cases h
  · dsimp only at h
    split at h
    · next hc => rw [hc, Place.card.inj h]
    · (repeat' split at h) <;> cases h

/-- The card that `cardAt` finds is one of the list, and the offset is one of its places. -/
theorem cardAt_some {o : Nat} {c : Card} {l : List Card} (h : cardAt o l = some c) : c ∈ l ∧ c.off ≤ o ∧
    (if c.stride = 0 then o = c.off else (o - c.off) % c.stride = 0 ∧ (o - c.off) / c.stride < c.cnt) := by
  induction l with
  | nil => cases h
  | cons d r ih =>
    rw [cardAt] at h
    by_cases hd : d.off ≤ o ∧ (if d.stride = 0 then o = d.off else (o - d.off) % d.stride = 0 ∧ (o - d.off) / d.stride < d.cnt)
    · rw [if_pos hd] at h
      cases h
      exact ⟨List.mem_cons_self .., hd⟩
    · rw [if_neg hd] at h
      exact ⟨List.mem_cons_of_mem _ (ih h).1, (ih h).2⟩

/-- The one card of block ENG that stands at multiples of 0x400 from 0x10000, ENG_WDOG, has locked bits. -/
theorem rwl_of_cardAt_eng {o : Nat} {c : Card} (h : cardAt o cardsEng = some c) (ho : 0x10000 ≤ o) (hm : o % 0x400 = 0) : c.rwl ≠ 0 := by
  obtain ⟨hmem, hle, hat⟩ := cardAt_some h
  simp only [cardsEng, List.mem_cons, List.not_mem_nil, or_false] at hmem
  rcases hmem with rfl | rfl | rfl | rfl | rfl | rfl | rfl | rfl | rfl | rfl | rfl | rfl | rfl | rfl <;>
    norm_num at hle hat ⊢ <;> omega

theorem settle'_open {g : Agent} {a : Nat} {c : Card} {v : Word} {s : State} (hc : c.rwl = 0) :
    settle' g a c v s = s.setReg a (merged s a c.rw v) := by
  simp [settle', openBits, hc]

/-- A write in block ENG to a card without locked bits sets its open bits, and BLOCK_CFG_ERR is evaluated again. -/
theorem writeCard_eng {g : Agent} {a : Nat} {c : Card} {v : Word} {s : State} (hb : (blockOf a).1 = 24) (hp : placeAt a = .card c)
    (hv : c.view = false) (hrwl : c.rwl = 0) (hrw : c.rw ≠ 0) :
    writeCard g a c v s = refreshCfg 24 (s.setReg a (merged s a c.rw v)) := by
  have hcard : cardAt (blockOf a).2 cardsEng = some c := by
    have h := cardAt_of_placeAt hp
    rwa [hb] at h
  have hwdog : ¬(0x10000 ≤ (blockOf a).2 ∧ (blockOf a).2 % 0x400 = 0) := fun h => rwl_of_cardAt_eng hcard h.1 h.2 hrwl
  simp [writeCard, writeEffect, lockedWrite, settle'_open, hb, hv, hrwl, hrw, hwdog]

theorem writeReg_card {g : Agent} {a : Nat} {c : Card} {v : Word} {s : State} (h4 : a % 4 = 0) (hp : placeAt a = .card c)
    (hi : islandHeld s a = false) : writeReg g a v s = writeCard g a c v s := by
  simp [writeReg, h4, hp, hi]

theorem exec_registerWrite_eng {t : Time} {e : Nat} {a v : Word} {c : Card} {s : State} (hp : s.start.phase = .p9)
    (hw : s.start.waiting = none) (hg : reaches s (.engine e) = true) (hc : inControl a.toNat = true) (h4 : a.toNat % 4 = 0)
    (hpl : placeAt a.toNat = .card c) (hi : islandHeld s a.toNat = false) (hv : c.view = false) (hrwl : c.rwl = 0) (hrw : c.rw ≠ 0)
    (hb : (blockOf a.toNat).1 = 24) : exec (.registerWrite t (.engine e) a v 4) s =
      .next (settle (refreshCfg 24 ((s.arrive t).setReg a.toNat (merged s a.toNat c.rw v)))) := by
  have hne : a.toNat ≠ rBootEngineReady := by
    intro h
    rw [h] at hb
    cases hb
  have hm : merged (s.arrive t) a.toNat c.rw v = merged s a.toNat c.rw v := by simp [merged]
  rw [exec_registerWrite_four hp hw hg hc hne, writeReg_card h4 hpl (by simpa using hi), writeCard_eng hb hpl hv hrwl hrw, hm]

@[simp] theorem reg_refreshCfg (n : Nat) (s : State) (a : Nat) : (refreshCfg n s).reg a = s.reg a := by
  rw [refreshCfg_eq]
  rfl

/-- Settles O36: each clause from the lemma that says what its command answers there. -/
theorem windowAndRegisters : Obligations.WindowAndRegisters := by
  refine ⟨?evrCursor, ?evrCursorLost, ?evrData7, ?i2cAddress, ?i2cRead, ?readLo, ?readHi, ?readPart, ?readUnaligned, ?writeEng,
    ?writeBad⟩
  case evrCursor =>
    intro t a q s hw hf hp hle hq
    refine ⟨_, exec_evrCursorWrite_taken hw hf hp hq, ?_⟩
    rw [setCursor, if_neg (by rw [arrive_evr]; omega)]
    exact (settle_eq _).trans (by simp)
  case evrCursorLost =>
    intro t a q s hw hf hp hlt hq
    refine ⟨_, exec_evrCursorWrite_taken hw hf hp hq, ?_⟩
    rw [setCursor, if_pos (by rwa [arrive_evr])]
    refine ⟨?_, (settle_eq _).trans (by simp)⟩
    rw [count_settle, arrive_evr]
    exact count_bumpBy_of_regs (by simp) _ _ _
  case evrData7 =>
    intro t a s hp
    refine ⟨_, by rw [exec_evrData7Read, execEvrData7Read, onInst_true], ?_⟩
    simp only [arrive_start, hp, Bool.false_eq_true, if_false, arrive_evr, recordWord_arrive]
    refine ⟨?_, (settle_eq _).trans ?_⟩
    · split <;> simp [State.out]
    · split <;> simp [State.out]
  case i2cAddress =>
    intro t a b c d r s hr
    refine ⟨_, exec_mgtI2cWrite_four hr, by simp, ?_, (settle_eq _).trans (by simp)⟩
    rw [count_settle]
    exact count_bumpBy_of_regs (by simp) _ _ _
  case i2cRead =>
    intro t s hr hc h4 hp hi hlo hhi
    have hread : readAs .mgt s.hlt.mgtAddr (s.arrive t) = (regValue (s.arrive t) s.hlt.mgtAddr, s.arrive t) := by
      rw [readAs_placed h4 hp, readHeld_plain (by simpa using hi) hlo hhi (by simp [writes])]
    exact ⟨_, exec_mgtI2cRead_one hr hc hp hread, by simp [State.out], by simp, (settle_eq _).trans (by simp [State.out])⟩
  case readLo =>
    intro t g a s hg hc h4 hp hi hlo
    have hread : readSized g a.toNat 4 (s.arrive t) = (regValue (s.arrive t) a.toNat, latch g a.toNat (s.arrive t)) := by
      rw [readSized_four, readAs_placed h4 hp, readHeld_lo (by simpa using hi) hlo]
    refine ⟨_, exec_registerLoRead_taken rfl hg hc hread, by simp [State.out, latch], ?_, (settle_eq _).trans (by simp [State.out, latch])⟩
    rw [← latched_latch g]
    simp [latched]
  case readHi =>
    intro t g a w s hg hc h4 hp hi hlo hhi hw
    have hread : readSized g a.toNat 4 (s.arrive t) = (w, s.arrive t) := by
      rw [readSized_four, readAs_placed h4 hp, readHeld_hi (by simpa using hi) hlo hhi, latched_arrive, hw, Option.getD_some]
    exact ⟨_, exec_registerLoRead_taken rfl hg hc hread, by simp [State.out], (settle_eq _).trans (by simp [State.out])⟩
  case readPart =>
    intro t g a n s hn ha hg hc hcard hi hlo hhi hne
    have hp : placeAt (a.toNat / 4 * 4) ≠ .none := by
      intro h
      rw [h] at hcard
      cases hcard
    have hread : readAs g (a.toNat / 4 * 4) (s.arrive t) = (regValue (s.arrive t) (a.toNat / 4 * 4), s.arrive t) := by
      rw [readAs_placed (Nat.mul_mod_left _ _) hp, readHeld_plain (by simpa using hi) hlo hhi (fun h => hne h.1)]
    exact ⟨_, exec_registerLoRead_taken ((accessSize_iff n).mpr (by omega)) hg hc (readSized_part hn ha), by simp [State.out, hread],
      (settle_eq _).trans (by simp [State.out, hread])⟩
  case readUnaligned =>
    intro t g a n s hn ha hg hc
    refine ⟨_, exec_registerLoRead_taken ((accessSize_iff n).mpr (by omega)) hg hc (readSized_unaligned ha), by simp [State.out], ?_,
      (settle_eq _).trans (by simp [State.out])⟩
    rw [count_settle, count_of_regs (out_regs _ _), count_bump, count_arrive]
  case writeEng =>
    intro t e a v c s hp hw hg hc h4 hpl hi hv hrwl hrw hb
    refine ⟨_, exec_registerWrite_eng hp hw hg hc h4 hpl hi hv hrwl hrw hb, ?_, fun b hne => ?_, ?_⟩
    · rw [reg_settle, reg_refreshCfg, reg_setReg_same]
    · rw [reg_settle, reg_refreshCfg, reg_setReg_other _ _ hne, reg_arrive]
    · rw [settle_eq, refreshCfg_eq]
      simp
  case writeBad =>
    intro t e a v n s hp hw hg hc hn
    exact ⟨_, exec_registerWrite_refused hp hw hg hc hn, by rw [count_settle, count_bump, count_arrive], (settle_eq _).trans (by simp)⟩

end Sys2Proof.Machine

/-! PROOFS. The state after reset, and a command that is not well-formed and yet answers a next state. -/

namespace Sys2Proof.Machine
open Sys2Proof Host

/-! ### What reset leaves -/

/-- No card stands at the address of a counter, so that a counter's reset value is 0 (R27). -/
theorem cardOf_counter_all : (counters.all fun c => (List.range c.cnt).all fun i => (cardOf (c.addr i)).isNone) = true := by
  decide +kernel

theorem cardOf_counter {c : Counter} (hc : c ∈ counters) {i : Nat} (hi : i < c.cnt) : cardOf (c.addr i) = none := by
  have hrow := List.all_eq_true.mp cardOf_counter_all c hc
  exact Option.isNone_iff_eq_none.mp (List.all_eq_true.mp hrow i (List.mem_range.mpr hi))

theorem reg_reset (a : Nat) : State.reset.reg a = regReset a := rfl

theorem regReset_of_no_card {a : Nat} (h : cardOf a = none) : regReset a = 0 := by rw [regReset, h]

theorem count_reset {c : Counter} (hc : c ∈ counters) {i : Nat} (hi : i < c.cnt) : State.reset.count c i = 0 := by
  rw [State.count, reg_reset, regReset_of_no_card (cardOf_counter hc hi)]
  rfl

theorem inv_reset : Inv State.reset := ⟨rfl, fun _ h => by cases h⟩

/-- Settles O43: the fields by evaluation, the counters because no card gives them another reset value. -/
theorem resetState : Obligations.ResetState :=
  ⟨inv_reset, rfl, rfl, rfl, rfl, rfl, fun _ hc _ hi => count_reset hc hi, by decide +kernel, by decide +kernel⟩

/-! ### MASK_MONITOR_EVAL with a wrong number of spectra -/

/-- Refutes O42: `Instr.wf` asks MASK_MONITOR_EVAL for four spectra of 1,024 bins beside a stream below 72, and its meaning asks for the
stream alone. With stream 0 and no spectrum the command is not well-formed, and from reset it answers a next state and no fault. -/
theorem not_everyNamedInstanceCompletes : ¬ Obligations.EveryNamedInstanceCompletes := by
  intro h
  have hwf : (Instr.maskMonitorEval 0 0 []).wf = false := by decide
  have hfault := (h (.maskMonitorEval 0 0 []) .reset).2 hwf
  rw [exec_maskMonitorEval, execMaskMonitorEval, onInst, if_pos (by decide)] at hfault
  cases hfault

end Sys2Proof.Machine

/-! PROOFS. The report of a lost bundle that finds the handler stack's pending queue full: the FATAL level that it raises, and what that
level changes beside the clock, the health unit, the registers and the recorder. -/

namespace Sys2Proof.Machine
open Sys2Proof Host

/-! ### What a report leaves alone on its way to the handler stack -/

@[simp] theorem evrPush_hlt (r : EvRecord) (s : State) : (evrPush r s).hlt = s.hlt := by
  unfold evrPush
  split
  · exact bump_hlt _ _ _
  · dsimp only
    split
    · exact bump_hlt _ _ _
    · rfl

@[simp] theorem evrPush_start (r : EvRecord) (s : State) : (evrPush r s).start = s.start := by
  unfold evrPush
  split
  · exact bump_start _ _ _
  · dsimp only
    split
    · exact bump_start _ _ _
    · rfl

@[simp] theorem countReported_hlt (r : Report) (s : State) : (countReported r s).hlt = s.hlt := by
  unfold countReported
  split
  · exact bump_hlt _ _ _
  · rfl

@[simp] theorem countReported_start (r : Report) (s : State) : (countReported r s).start = s.start := by
  unfold countReported
  split
  · exact bump_start _ _ _
  · rfl

theorem controlUp_congr {s u : State} (hs : u.start = s.start) (hh : u.hlt = s.hlt) : u.controlUp = s.controlUp := by
  rw [State.controlUp, State.controlUp, State.islandUp, State.islandUp, hs, hh]

theorem frozen_of_controlUp {s : State} (h : s.controlUp = true) : s.hlt.frozen = false := by
  simp only [State.controlUp, State.islandUp, Bool.and_eq_true, Bool.not_eq_true', Bool.and_eq_false_iff, Bool.or_eq_false_iff] at h
  exact h.2.elim And.left (fun h3 => absurd h3 (by decide))

/-- A lost release touches the acknowledgement templates only (R40). -/
theorem straitLoss_release (r : Report) (g : Nat) (s : State) :
    straitLoss r (.release g) s = { s with txm := (straitLoss r (.release g) s).txm } := by
  simp only [straitLoss]
  split <;> rfl

/-! ### FATAL, and the rows of R458 and R455 that lead to it -/

/-- READY is low from the freeze on (R480). -/
theorem raiseFatal_ready {c : FatalCause} {s : State} (hf : s.hlt.frozen = false) (hp : s.start.phase = .p9) :
    (raiseFatal c s).pins.ready = false := by
  rw [raiseFatal, if_neg (by simp [hf]), if_pos hp]

/-- The last row of R458: HLT_PENDING_FULL. -/
theorem placeNew_queueFull {f top : HFrame} {rest : List HFrame} {s : State} (hs : s.hlt.frames = top :: rest)
    (hr : f.rank ≤ top.rank) (hq : 16 ≤ s.hlt.queue.length) : placeNew f s = fatalBy 0x0A (22 * 2048 + 1) s := by
  simp only [placeNew, hs]
  rw [if_neg (by omega), if_neg (by omega)]

theorem placeFrame_new {unit code rank arg : Nat} {s : State} (hf : ∀ f ∈ s.hlt.frames, f.unit ≠ unit)
    (hq : ∀ f ∈ s.hlt.queue, f.unit ≠ unit) :
    placeFrame unit code rank arg s = placeNew ⟨unit, code, rank, 1, arg, false, 0, s.clock.now⟩ s := by
  have hframes : (s.hlt.frames.any fun f => f.unit == unit) = false := by simpa using hf
  have hqueue : (s.hlt.queue.find? fun f => f.unit == unit) = none := by simpa using hq
  simp only [placeFrame, hframes, hqueue]
  rfl

/-- The handler stack has no place for report `r`: its top frame stands at `r`'s rank or above, 16 entries wait, and none of them nor
any frame is of `r`'s UNIT. -/
structure NoPlaceFor (r : Report) (s : State) : Prop where
  top    : ∃ f rest, s.hlt.frames = f :: rest ∧ r.rank ≤ f.rank
  full   : 16 ≤ s.hlt.queue.length
  frames : ∀ f ∈ s.hlt.frames, f.unit ≠ r.unit
  queue  : ∀ f ∈ s.hlt.queue, f.unit ≠ r.unit

theorem placeFrame_noPlace {r : Report} {s : State} (h : NoPlaceFor r s) :
    placeFrame r.unit r.code r.rank r.arg s = fatalBy 0x0A (22 * 2048 + 1) s := by
  obtain ⟨_, _, hs, hr⟩ := h.top
  rw [placeFrame_new h.frames h.queue, placeNew_queueFull hs hr h.full]

/-- The first DROPPED report of its UNIT and CODE, at a rank that reaches the handler stack, ends in FATAL where it finds no place. -/
theorem report_noPlace_ready {r : Report} {s : State} (hd : r.degraded = false) (hr : 1 ≤ r.rank ∧ r.rank ≤ 4)
    (hc : s.hlt.coal = []) (hf : s.hlt.frozen = false) (hp : s.start.phase = .p9) (h : NoPlaceFor r s) :
    (report r s).pins.ready = false := by
  simp only [report, hd, hc, List.find?_nil, Bool.false_eq_true, if_false, hr, and_self, if_true]
  rw [if_neg (by simp), placeFrame_noPlace ⟨by simpa [errRecord] using h.top, by simpa [errRecord] using h.full,
    by simpa [errRecord] using h.frames, by simpa [errRecord] using h.queue⟩]
  exact raiseFatal_ready (by simpa [errRecord] using hf) (by simpa [errRecord] using hp)

/-- The report of a release lost to a strait drives READY low where the handler stack has no place for it. -/
theorem exec_errorReport_release_noPlace {t : Time} {r : Report} {g : Nat} {s u : State} (hu : r.unit < 25 * 2048)
    (hd : r.degraded = false) (hr : 1 ≤ r.rank ∧ r.rank ≤ 4) (hc : s.hlt.coal = []) (hup : s.controlUp = true)
    (hp : s.start.phase = .p9) (h : NoPlaceFor r s) (hx : exec (.errorReport t r (.release g)) s = .next u) : u.pins.ready = false := by
  have hloss := straitLoss_release r g (s.arrive t)
  generalize hv : straitLoss r (.release g) (s.arrive t) = v at hloss
  have hstart : v.start = s.start := by rw [hloss]; exact arrive_start s t
  have hhlt : v.hlt = s.hlt := by rw [hloss]; exact arrive_hlt s t
  have hcontrol : v.controlUp = true := by rw [controlUp_congr hstart hhlt, hup]
  rw [exec_errorReport, execErrorReport, hv, decide_eq_true hu, onInst_true, if_pos hcontrol] at hx
  cases hx
  rw [settle_pins]
  have hhlt' : (countReported r v).hlt = s.hlt := by rw [countReported_hlt, hhlt]
  exact report_noPlace_ready hd hr (by rw [hhlt', hc]) (by rw [hhlt', frozen_of_controlUp hup]) (by rw [countReported_start, hstart, hp])
    ⟨by rw [hhlt']; exact h.top, by rw [hhlt']; exact h.full, by rw [hhlt']; exact h.frames, by rw [hhlt']; exact h.queue⟩

/-! ### A device in service whose pending queue is full -/

/-- The frame of synthesis unit `i`, found failed, at the rank of a DEGRADED error (R497). -/
def failedUnitFrame (i : Nat) : HFrame := ⟨6 * 2048 + 128 + i, 0xF0, 2, 1, 0, false, 0, 0⟩

/-- A device in P9 with READY high: one frame is in hand, 16 entries are pending, and group 0 has an acknowledgement template. -/
def busyHandler : State :=
  { State.reset with
    start := { State.reset.start with phase := .p9, porstLow := false, pinLow := false, islands := 0xFF }
    pins := { ready := true }
    hlt := { frames := [failedUnitFrame 16], queue := (List.range 16).map failedUnitFrame }
    txm := { State.reset.txm with acks := [(0, ⟨0, 0, 0, 0, true, true, 0, [], []⟩)] } }

/-- The report of a bundle discarded for parity: DROPPED, at rank 1 (R40, R497). -/
def parityReport : Report := ⟨cHltStraitParity.block * 2048, cHltStraitParity.code, false, 1, 0⟩

theorem noPlaceFor_parityReport : NoPlaceFor parityReport busyHandler where
  top := ⟨failedUnitFrame 16, [], rfl, by decide⟩
  full := by decide
  frames := by decide
  queue := by decide

/-- Refutes O40: its clause of the lost release says that the report changes no more than the clock, the health unit, the registers, the
recorder and the acknowledgement templates, and a report that finds no place in the handler stack does more. In `busyHandler` the
parity error's report at rank 1 finds a frame of rank 2 in hand and 16 entries pending: FATAL of cause HLT_PENDING_FULL (R458), whose
freeze drives READY low (R480). -/
theorem not_straitsHoldAndLose : ¬ Obligations.StraitsHoldAndLose := by
  rintro ⟨-, hrelease, -⟩
  obtain ⟨u, hexec, -, -, hframe⟩ := hrelease 0 parityReport 0 _ busyHandler rfl rfl rfl (by decide) rfl
  have hlow : u.pins.ready = false :=
    exec_errorReport_release_noPlace (by decide) rfl (by decide) rfl (by decide) rfl noPlaceFor_parityReport hexec
  have hhigh : u.pins.ready = true := congrArg (fun x => x.pins.ready) hframe
  exact absurd (hhigh.symm.trans hlow) (by decide)

end Sys2Proof.Machine

/-! PROOFS. A programmed fuse stays programmed (R58, R60): what the operations that may write memory, reset the device or programme fuses
leave of a fuse bit. Every other operation leaves the anchor, and the fuses with it, alone. -/

namespace Sys2Proof.Machine
open Sys2Proof Host

/-! ### A fuse bit as a part of the anchor -/

/-- Bit `k` of fuse word `w` is programmed in anchor `a`. -/
def Blown (w k : Nat) (a : Anchor) : Prop := (sget (fun _ => (0 : Word)) a.fuses w).getLsbD k = true

theorem fusesKept_iff (a b : State) : fusesKept a b ↔ ∀ w k, Blown w k a.anchor → Blown w k b.anchor := Iff.rfl

@[simp] theorem blown_mk (w k : Nat) (m : List Host.Cell) (b : Option Before) (q : List Instr) (s : State) :
    Blown w k ⟨m, b, s.start.fuses, q⟩ ↔ Blown w k s.anchor := Iff.rfl

theorem blown_ite (w k : Nat) (c : Prop) [Decidable c] (a b : Anchor) :
    Blown w k (if c then a else b) ↔ if c then Blown w k a else Blown w k b := by split <;> rfl

theorem blown_foldl {w k : Nat} {α : Type} {f : State → α → State} (h : ∀ s x, Blown w k s.anchor → Blown w k (f s x).anchor)
    (l : List α) {s : State} (hs : Blown w k s.anchor) : Blown w k (l.foldl f s).anchor := by
  induction l generalizing s with
  | nil => exact hs
  | cons a r ih => exact ih (h s a hs)

section
variable {w k : Nat} {s : State}

/-! ### Fuses are programmed bit by bit (R60, R417) -/

@[simp] theorem blowFuse_blown (n : Nat) (bits : Word) (h : Blown w k s.anchor) : Blown w k (blowFuse n bits s).anchor := by
  simp only [Blown, blowFuse, anchor_mk, smod]
  by_cases hw : w = n
  · subst hw
    rw [sget_sset_same, BitVec.getLsbD_or, show (sget (fun _ => (0 : Word)) s.start.fuses w).getLsbD k = true from h, Bool.true_or]
  · rw [sget_sset_other _ _ _ hw]
    exact h

@[simp] theorem raiseRollback_blown (n : Nat) (h : Blown w k s.anchor) : Blown w k (raiseRollback n s).anchor := by
  unfold raiseRollback
  split
  · exact h
  · exact blowFuse_blown _ _ (blowFuse_blown _ _ h)

@[simp] theorem rollbackUp_blown (h : Blown w k s.anchor) : Blown w k (rollbackUp s).anchor := by
  unfold rollbackUp
  split
  · split
    · exact raiseRollback_blown _ h
    · exact h
  · exact h

/-! ### Confirmations (R78, R414) -/

@[simp] theorem confirmRest_blown (otherValid step2Ok step3Ok : Bool) (h : Blown w k s.anchor) :
    Blown w k (confirmRest otherValid step2Ok step3Ok s).anchor := by
  unfold confirmRest
  (repeat' split) <;> simp [h, blown_ite]

@[simp] theorem confirmImage_blown (step1Ok otherValid step2Ok step3Ok : Bool) (h : Blown w k s.anchor) :
    Blown w k (confirmImage step1Ok otherValid step2Ok step3Ok s).2.anchor := by
  unfold confirmImage
  dsimp only
  (repeat' split) <;> simp [h]

@[simp] theorem confirmCommitted_blown (ok : Bool) (h : Blown w k s.anchor) : Blown w k (confirmCommitted ok s).anchor := by
  unfold confirmCommitted
  dsimp only
  (repeat' split) <;> simp [h]

@[simp] theorem confirmAll_blown (d : Option Nat) (a b c e : Bool) (h : Blown w k s.anchor) :
    Blown w k (confirmAll d a b c e s).anchor := by
  unfold confirmAll
  dsimp only
  (repeat' split) <;> simp [h]

/-! ### The records of the partner (R376 to R380) -/

@[simp] theorem settleAwait_blown (a : Await) (ok : Bool) (h : Blown w k s.anchor) : Blown w k (settleAwait a ok s).anchor := by
  unfold settleAwait
  (repeat' split) <;> simp [h]

@[simp] theorem applyCommit_blown (m : Nat) (ok : Bool) (h : Blown w k s.anchor) : Blown w k (applyCommit m ok s).anchor := by
  unfold applyCommit
  split <;> simp [h]

@[simp] theorem applyCampaign_blown (x : MirrorHdr) (b : CampMirror) (h : Blown w k s.anchor) :
    Blown w k (applyCampaign x b s).anchor := by
  unfold applyCampaign
  dsimp only
  (repeat' split) <;> simp [h]

@[simp] theorem applyRecord_blown (i : Instr) (h : Blown w k s.anchor) : Blown w k (applyRecord i s).anchor := by
  unfold applyRecord
  (repeat' split) <;> simp [h]

@[simp] theorem takeRecord_blown (x : MirrorHdr) (i : Instr) (h : Blown w k s.anchor) : Blown w k (takeRecord x i s).anchor := by
  unfold takeRecord
  dsimp only
  (repeat' split) <;> simp [h]

@[simp] theorem takeWaiting_blown (n : Nat) (h : Blown w k s.anchor) : Blown w k (takeWaiting n s).anchor := by
  induction n generalizing s with
  | zero => exact h
  | succ n ih =>
    rw [takeWaiting]
    split
    · exact h
    · exact ih (takeRecord_blown _ _ h)

@[simp] theorem receive_blown (x : MirrorHdr) (i : Instr) (h : Blown w k s.anchor) : Blown w k (receive x i s).anchor := by
  unfold receive
  dsimp only
  (repeat' split) <;> simp [h]

@[simp] theorem losePartner_blown (h : Blown w k s.anchor) : Blown w k (losePartner s).anchor := by
  unfold losePartner
  simp only [beginPairing_anchor, actPartnerLost_anchor, cancelHandover_anchor]
  refine blown_foldl (fun s x hs => ?_) _ (by simpa using h)
  split <;> simp [hs]

@[simp] theorem takeLine_blown (h : Blown w k s.anchor) : Blown w k (takeLine s).anchor := by
  unfold takeLine
  dsimp only
  (repeat' split) <;> simp [h]

/-! ### Memory and DMA (R450) -/

@[simp] theorem setBytes_blown (a : Nat) (l : List Byte) (s : State) : Blown w k (s.setBytes a l).anchor ↔ Blown w k s.anchor := by
  induction l generalizing a s with
  | nil => rw [State.setBytes]
  | cons b r ih =>
    rw [State.setBytes, ih, State.setByte]
    simp

@[simp] theorem writeDesc_blown (c : Nat) (keepValid done : Bool) (error moved : Nat) (s : State) :
    Blown w k (writeDesc c keepValid done error moved s).anchor ↔ Blown w k s.anchor := by
  simp only [writeDesc, State.setWord, setBytes_blown]

@[simp] theorem dmaError_blown (c e moved : Nat) (s : State) : Blown w k (dmaError c e moved s).anchor ↔ Blown w k s.anchor := by
  simp [dmaError]

@[simp] theorem dmaDone_blown (c moved : Nat) (d : Descriptor) (s : State) :
    Blown w k (dmaDone c moved d s).anchor ↔ Blown w k s.anchor := by
  unfold dmaDone
  dsimp only
  (repeat' split) <;> simp

@[simp] theorem dmaDeliver_blown (c : Nat) (d : Descriptor) (l : List Byte) (poisonAt : Option Nat) (err : Nat) (s : State) :
    Blown w k (dmaDeliver c d l poisonAt err s).anchor ↔ Blown w k s.anchor := by
  unfold dmaDeliver
  dsimp only
  (repeat' split) <;> simp

@[simp] theorem dmaRefused_blown (c : Nat) (s : State) : Blown w k (dmaRefused c s).anchor ↔ Blown w k s.anchor := by
  unfold dmaRefused
  dsimp only
  split <;> simp

@[simp] theorem dmaFromMemory_blown (c : Nat) (d : Descriptor) (poisonAt : Option Nat) (s : State) :
    Blown w k (dmaFromMemory c d poisonAt s).anchor ↔ Blown w k s.anchor := by
  unfold dmaFromMemory
  dsimp only
  (repeat' split) <;> simp

@[simp] theorem dmaFromQuay_blown (c : Nat) (d : Descriptor) (s : State) :
    Blown w k (dmaFromQuay c d s).anchor ↔ Blown w k s.anchor := by
  unfold dmaFromQuay
  dsimp only
  (repeat' split) <;> simp

/-! ### Resets keep what is programmed (R82, R83) -/

@[simp] theorem islandReset_blown (s : State) : Blown w k (islandReset s).anchor ↔ Blown w k s.anchor := by
  simp only [islandReset, anchor_mk, blown_mk]

@[simp] theorem resetDone_blown (s : State) : Blown w k (resetDone s).anchor ↔ Blown w k s.anchor := by
  unfold resetDone
  dsimp only
  split <;> simp

@[simp] theorem powerReset_blown (s : State) : Blown w k (powerReset s).anchor ↔ Blown w k s.anchor := by
  simp only [powerReset, anchor_mk, blown_mk]

@[simp] theorem powerDown_blown (s : State) : Blown w k (powerDown s).anchor ↔ Blown w k s.anchor := by
  unfold powerDown
  split <;> simp only [powerReset_blown, out_anchor]

@[simp] theorem fallReset_blown (keep : Bool) (s : State) : Blown w k (fallReset keep s).anchor ↔ Blown w k s.anchor := by
  simp only [fallReset, anchor_mk, blown_mk]

/-! ### The start and the records of an image (R51, R71 to R77) -/

@[simp] theorem imageFail_blown (code : Nat) (s : State) : Blown w k (imageFail code s).anchor ↔ Blown w k s.anchor := by
  unfold imageFail
  dsimp only
  (repeat' split) <;> simp

@[simp] theorem saveBefore_blown (s : State) : Blown w k (saveBefore s).anchor ↔ Blown w k s.anchor := by
  unfold saveBefore
  split <;> simp only [anchor_mk, blown_mk]

@[simp] theorem enterP5_blown (s : State) : Blown w k (enterP5 s).anchor ↔ Blown w k s.anchor := by
  unfold enterP5
  dsimp only
  split <;> simp

@[simp] theorem p4Advance_blown (s : State) : Blown w k (p4Advance s).anchor ↔ Blown w k s.anchor := by
  unfold p4Advance
  (repeat' split) <;> simp

@[simp] theorem startPoll_blown (s : State) : Blown w k (startPoll s).anchor ↔ Blown w k s.anchor := by
  simp only [startPoll, p6Advance_anchor, p5Advance_anchor, p4Advance_blown, pollWait_anchor]

@[simp] theorem imageStart_blown (x : ImageHdr) (confirm attempts : Word) (s : State) :
    Blown w k (imageStart x confirm attempts s).anchor ↔ Blown w k s.anchor := by
  unfold imageStart
  dsimp only
  split <;> simp

@[simp] theorem recordFail_blown (code : Nat) (s : State) : Blown w k (recordFail code s).anchor ↔ Blown w k s.anchor := by
  simp [recordFail]

@[simp] theorem boundFail_blown (s : State) : Blown w k (boundFail s).anchor ↔ Blown w k s.anchor := by
  unfold boundFail
  (repeat' split) <;> simp

@[simp] theorem recordDone_blown (s : State) : Blown w k (recordDone s).anchor ↔ Blown w k s.anchor := by
  unfold recordDone
  split <;> simp

@[simp] theorem recordSkip_blown (s : State) : Blown w k (recordSkip s).anchor ↔ Blown w k s.anchor := by
  simp [recordSkip]

theorem record_blown (own : Nat) (x : RecHdr) (f : State → Option Nat × State)
    (hf : ∀ s, Blown w k s.anchor → Blown w k (f s).2.anchor) (h : Blown w k s.anchor) : Blown w k (record own x f s).anchor := by
  unfold record
  dsimp only
  (repeat' split)
  case h_1 _ code s1 hr => simpa [hr] using hf (startPoll s) (by simpa using h)
  case h_2 _ s1 hr => simpa [hr] using hf (startPoll s) (by simpa using h)
  all_goals simpa using h

end

/-! ### From the operations to the commands -/

section
variable {w k : Nat} {t : Time} {s s' : State}

theorem blown_of_onInst {ok : Bool} {u : State} (hx : onInst ok u = .next s') (hu : Blown w k u.anchor) : Blown w k s'.anchor := by
  rwa [anchor_of_onInst hx]

/-- The records of the partner all go through `receive` (R380). -/
theorem blown_of_receive {ok : Bool} {x : MirrorHdr} {i : Instr} (hx : onInst ok (receive x i (s.arrive t)) = .next s')
    (h : Blown w k s.anchor) : Blown w k s'.anchor :=
  blown_of_onInst hx (receive_blown _ _ (by rwa [arrive_anchor]))

/-- The records of an image all go through `record` (R71). -/
theorem blown_of_record {ok : Bool} {own : Nat} {x : RecHdr} {f : State → Option Nat × State}
    (hf : ∀ s, Blown w k s.anchor → Blown w k (f s).2.anchor) (hx : onInst ok (record own x f (s.arrive t)) = .next s')
    (h : Blown w k s.anchor) : Blown w k s'.anchor :=
  blown_of_onInst hx (record_blown _ _ _ hf (by rwa [arrive_anchor]))

theorem execPairPartnerLost_blown (hx : execPairPartnerLost t s = .next s') (h : Blown w k s.anchor) : Blown w k s'.anchor := by
  refine blown_of_onInst hx ?_
  dsimp only
  split <;> simp [h]

theorem execPairMseqGap_blown (hx : execPairMseqGap t s = .next s') (h : Blown w k s.anchor) : Blown w k s'.anchor := by
  refine blown_of_onInst hx ?_
  dsimp only
  (repeat' split) <;> simp [h]

theorem execTakeTime_blown {low : Bool} (hx : execTakeTime t low s = .next s') (h : Blown w k s.anchor) : Blown w k s'.anchor := by
  refine blown_of_onInst hx ?_
  dsimp only
  (repeat' split) <;> simp [h]

theorem execUpdConfirm_blown {d : Nat} {a b c e : Bool} (hx : execUpdConfirm t d a b c e s = .next s') (h : Blown w k s.anchor) :
    Blown w k s'.anchor := by
  refine blown_of_onInst hx ?_
  dsimp only
  (repeat' split) <;> simp [h]

theorem execConfirmHold_blown {a b c e : Bool} (hx : execConfirmHold t a b c e s = .next s') (h : Blown w k s.anchor) :
    Blown w k s'.anchor := by
  refine blown_of_onInst hx ?_
  dsimp only
  split <;> simp [h]

theorem execConfirmRetryCheck_blown {b c e : Bool} (hx : execConfirmRetryCheck t b c e s = .next s') (h : Blown w k s.anchor) :
    Blown w k s'.anchor := by
  refine blown_of_onInst hx ?_
  dsimp only
  split <;> simp [h]

theorem execUpdRevokeSlot_blown {d : Nat} {o : Bool} (hx : execUpdRevokeSlot t d o s = .next s') (h : Blown w k s.anchor) :
    Blown w k s'.anchor := by
  refine blown_of_onInst hx ?_
  dsimp only
  (repeat' split) <;> simp [h]

theorem execFuseProgDone_blown (hx : execFuseProgDone t s = .next s') (h : Blown w k s.anchor) : Blown w k s'.anchor := by
  refine blown_of_onInst hx ?_
  dsimp only
  split <;> simp [h]

theorem execJtagFuseProgram_blown {n b : Nat} (hx : execJtagFuseProgram t n b s = .next s') (h : Blown w k s.anchor) :
    Blown w k s'.anchor := by
  refine blown_of_onInst hx ?_
  dsimp only
  (repeat' split) <;> simp [h]

theorem execCampData_blown {d : Nat} (hx : execCampData t d s = .next s') (h : Blown w k s.anchor) : Blown w k s'.anchor := by
  refine blown_of_onInst hx ?_
  dsimp only
  (repeat' split) <;> simp [h]

theorem execDmaDescriptorDone_blown {c : Nat} {p : Option Nat} (hx : execDmaDescriptorDone t c p s = .next s')
    (h : Blown w k s.anchor) : Blown w k s'.anchor := by
  refine blown_of_onInst hx ?_
  dsimp only
  (repeat' split) <;> simp [h]

theorem execDumpPathsDone_blown (hx : execDumpPathsDone t s = .next s') (h : Blown w k s.anchor) : Blown w k s'.anchor := by
  refine blown_of_onInst hx ?_
  dsimp only
  (repeat' split) <;> simp [h]

theorem execPorstNFall_blown (hx : execPorstNFall t s = .next s') (h : Blown w k s.anchor) : Blown w k s'.anchor :=
  blown_of_onInst hx (by simpa using h)

theorem execVddAoLow_blown (hx : execVddAoLow t s = .next s') (h : Blown w k s.anchor) : Blown w k s'.anchor :=
  blown_of_onInst hx (by simpa using h)

theorem execWarmResetDrainDone_blown (hx : execWarmResetDrainDone t s = .next s') (h : Blown w k s.anchor) : Blown w k s'.anchor := by
  refine blown_of_onInst hx ?_
  dsimp only
  split <;> simp [h]

theorem execImageCheckDone_blown {a b : Bool} {e : Option Nat} {n o m : Nat} (hx : execImageCheckDone t a b e n o m s = .next s')
    (h : Blown w k s.anchor) : Blown w k s'.anchor := by
  refine blown_of_onInst hx ?_
  dsimp only
  (repeat' split) <;> simp [h]

theorem execDdrTrainDone_blown {a b : Bool} {n m : Nat} (hx : execDdrTrainDone t a b n m s = .next s') (h : Blown w k s.anchor) :
    Blown w k s'.anchor := by
  refine blown_of_onInst hx ?_
  dsimp only
  (repeat' split) <;> simp [h]

theorem execBootEngineReadyWrite_blown {e : Nat} (hx : execBootEngineReadyWrite t e s = .next s') (h : Blown w k s.anchor) :
    Blown w k s'.anchor := by
  refine blown_of_onInst hx ?_
  dsimp only
  split <;> simp [h]

theorem execEngineTimeout_blown (hx : execEngineTimeout t s = .next s') (h : Blown w k s.anchor) : Blown w k s'.anchor := by
  refine blown_of_onInst hx ?_
  dsimp only
  split <;> simp [h]

theorem execPhaseBoundExpire_blown (hx : execPhaseBoundExpire t s = .next s') (h : Blown w k s.anchor) : Blown w k s'.anchor := by
  refine blown_of_onInst hx ?_
  dsimp only
  split <;> simp [h]

theorem execWaitUntilTimeout_blown (hx : execWaitUntilTimeout t s = .next s') (h : Blown w k s.anchor) : Blown w k s'.anchor := by
  refine blown_of_onInst hx ?_
  dsimp only
  split <;> simp [h]

theorem execRegWrite_blown {x : RecHdr} {l : List (Word × Word)} (hx : execRegWrite t x l s = .next s') :
    Blown w k s.anchor → Blown w k s'.anchor :=
  blown_of_record (fun s hs => by rwa [writeAll_anchor]) hx

theorem execRegField_blown {x : RecHdr} {a m v : Word} (hx : execRegField t x a m v s = .next s') :
    Blown w k s.anchor → Blown w k s'.anchor :=
  blown_of_record (fun s hs => by rwa [writeAll_anchor]) hx

theorem execTableLoad_blown {x : RecHdr} {id size first : Nat} {l : List Nat} (hx : execTableLoad t x id size first l s = .next s') :
    Blown w k s.anchor → Blown w k s'.anchor :=
  blown_of_record (fun s hs => by rwa [tableLoad_anchor]) hx

theorem execMemLoad_blown {x : RecHdr} {target index a : Nat} {l : List Byte} (hx : execMemLoad t x target index a l s = .next s') :
    Blown w k s.anchor → Blown w k s'.anchor := by
  refine blown_of_record (fun s hs => ?_) hx
  split <;> simpa using hs

theorem execWaitUntil_blown {x : RecHdr} {a m v : Word} {n : Nat} (hx : execWaitUntil t x a m v n s = .next s') :
    Blown w k s.anchor → Blown w k s'.anchor := by
  refine blown_of_record (fun s hs => ?_) hx
  (repeat' split) <;> simpa using hs

theorem execCheck_blown {x : RecHdr} {a m v : Word} {op : Nat} (hx : execCheck t x a m v op s = .next s') :
    Blown w k s.anchor → Blown w k s'.anchor := by
  refine blown_of_record (fun s hs => ?_) hx
  dsimp only
  (repeat' split) <;> simpa [readAs_anchor] using hs

theorem execKeyBlob_blown {x : RecHdr} {cls wrap id : Nat} {e b : BitVec 512} (hx : execKeyBlob t x cls wrap id e b s = .next s') :
    Blown w k s.anchor → Blown w k s'.anchor := by
  refine blown_of_record (fun s hs => ?_) hx
  (repeat' split) <;> simpa using hs

theorem execFormatNote_blown {x : RecHdr} {region oldF newF newO newL oldO oldL : Nat}
    (hx : execFormatNote t x region oldF newF newO newL oldO oldL s = .next s') : Blown w k s.anchor → Blown w k s'.anchor := by
  refine blown_of_record (fun s hs => ?_) hx
  dsimp only
  split <;> simpa using hs

theorem execFhLinkupTimeout_blown (hx : execFhLinkupTimeout t s = .next s') (h : Blown w k s.anchor) : Blown w k s'.anchor := by
  refine blown_of_onInst hx ?_
  dsimp only
  split
  · simpa using h
  · rw [endP7_anchor, anchor_foldl _ fun _ _ => bump_anchor _ _ _]
    simpa using h

theorem execRelease_blown {bad : List Nat} (hx : execRelease t bad s = .next s') (h : Blown w k s.anchor) : Blown w k s'.anchor := by
  refine blown_of_onInst hx ?_
  dsimp only
  split <;> simp [h]

theorem execSdsclkReturn_blown {n : Nat} (hx : execSdsclkReturn t n s = .next s') (h : Blown w k s.anchor) : Blown w k s'.anchor := by
  refine blown_of_onInst hx ?_
  dsimp only
  split <;> simp [h]

theorem execRegisterWrite_blown {g : Agent} {a v : Word} {n : Nat} (hx : execRegisterWrite t g a v n s = .next s')
    (h : Blown w k s.anchor) : Blown w k s'.anchor := by
  refine blown_of_onInst hx ?_
  dsimp only
  (repeat' split) <;> simp [h]

end

/-- No command unprogrammes a fuse: those that leave the anchor alone, and by name those that may move it. -/
theorem exec_blown {w k : Nat} {c : Instr} {s s' : State} (hx : exec c s = .next s') (h : Blown w k s.anchor) : Blown w k s'.anchor := by
  cases c with
  | porstNFall => exact execPorstNFall_blown hx h
  | vddAoLow => exact execVddAoLow_blown hx h
  | warmResetDrainDone => exact execWarmResetDrainDone_blown hx h
  | imageCheckDone => exact execImageCheckDone_blown hx h
  | ddrTrainDone => exact execDdrTrainDone_blown hx h
  | regWrite => exact execRegWrite_blown hx h
  | regField => exact execRegField_blown hx h
  | memLoad => exact execMemLoad_blown hx h
  | tableLoad => exact execTableLoad_blown hx h
  | keyBlob => exact execKeyBlob_blown hx h
  | waitUntil => exact execWaitUntil_blown hx h
  | waitUntilTimeout => exact execWaitUntilTimeout_blown hx h
  | check => exact execCheck_blown hx h
  | formatNote => exact execFormatNote_blown hx h
  | bootEngineReadyWrite => exact execBootEngineReadyWrite_blown hx h
  | engineTimeout => exact execEngineTimeout_blown hx h
  | phaseBoundExpire => exact execPhaseBoundExpire_blown hx h
  | fhLinkupTimeout => exact execFhLinkupTimeout_blown hx h
  | release => exact execRelease_blown hx h
  | fuseProgDone => exact execFuseProgDone_blown hx h
  | jtagFuseProgram => exact execJtagFuseProgram_blown hx h
  | confirmRetryCheck => exact execConfirmRetryCheck_blown hx h
  | takeTime => exact execTakeTime_blown hx h
  | payloadRecord => exact blown_of_receive hx h
  | entryRecord => exact blown_of_receive hx h
  | ackBookRecord => exact blown_of_receive hx h
  | voidRecord => exact blown_of_receive hx h
  | dlRecord => exact blown_of_receive hx h
  | ceilingRecord => exact blown_of_receive hx h
  | ackPointRecord => exact blown_of_receive hx h
  | sessionRecord => exact blown_of_receive hx h
  | scheduleRecord => exact blown_of_receive hx h
  | keyRecord => exact blown_of_receive hx h
  | nodeRecord => exact blown_of_receive hx h
  | campaignRecord => exact blown_of_receive hx h
  | timeRecord => exact blown_of_receive hx h
  | commitRecord => exact blown_of_receive hx h
  | fitnessRecord => exact blown_of_receive hx h
  | digestRecord => exact blown_of_receive hx h
  | rangeRecord => exact blown_of_receive hx h
  | handoverRecord => exact blown_of_receive hx h
  | releasedRecord => exact blown_of_receive hx h
  | keepaliveRecord => exact blown_of_receive hx h
  | pairPartnerLost => exact execPairPartnerLost_blown hx h
  | pairMseqGap => exact execPairMseqGap_blown hx h
  | updConfirm => exact execUpdConfirm_blown hx h
  | confirmHold => exact execConfirmHold_blown hx h
  | updRevokeSlot => exact execUpdRevokeSlot_blown hx h
  | campData => exact execCampData_blown hx h
  | dmaDescriptorDone => exact execDmaDescriptorDone_blown hx h
  | dumpPathsDone => exact execDumpPathsDone_blown hx h
  | registerWrite => exact execRegisterWrite_blown hx h
  | sdsclkReturn => exact execSdsclkReturn_blown hx h
  | _ => rwa [exec_anchor rfl hx]

theorem tick_blown {w k : Nat} {s : State} (h : Blown w k s.anchor) : Blown w k (tick s).anchor := by
  unfold tick
  split <;> simp [h]

/-- Settles O46: a step runs one command or lets one Slot cycle pass, and neither unprogrammes a fuse. -/
theorem fusesStayProgrammed : Obligations.FusesStayProgrammed := by
  intro s t hstep
  rw [fusesKept_iff]
  intro w k h
  unfold step at hstep
  split at hstep
  · exact exec_blown hstep h
  · rw [← Outcome.next.inj hstep]
    exact tick_blown h

end Sys2Proof.Machine

/-! PROOFS. The reset pins and the supply of the Always-on island (R51, R81, R83, R504); and what the release of the token, with which a warm
reset begins, leaves alone. -/

namespace Sys2Proof.Machine
open Sys2Proof Host

/-! ### What the release of the token leaves alone (R309, R81)

The acceptance of an entry, its voiding and the cutting of modulators move counters, the journal, the packet plane, groups, campaigns and
mirror records, and nothing of what `Standing` holds. -/

/-- The start, the outputs that hold a level, the update, and whether the chip drives its token line and is paired. -/
structure Standing where
  start   : Start
  pins    : Pins
  upd     : Upd
  driving : Bool
  paired  : Bool

/-- What of a state is `Standing`. -/
def State.standing (s : State) : Standing := ⟨s.start, s.pins, s.upd, s.pair.driving, s.pair.paired⟩

@[simp] theorem standing_mk regs' halves' latches' tables' mem' cfgErr' start' pins' clock' hlt' evr' fh' pool' chn' det' lane' txm' cal' timer' sch' key' flash' jrn' dl' fry' fwd' pair' upd' camps' prog' msys' before' straits' sent' free' pending' :
    (State.mk regs' halves' latches' tables' mem' cfgErr' start' pins' clock' hlt' evr' fh' pool' chn' det' lane' txm' cal' timer' sch' key' flash' jrn' dl' fry' fwd' pair' upd' camps' prog' msys' before' straits' sent' free' pending').standing =
      ⟨start', pins', upd', pair'.driving, pair'.paired⟩ := by
  rw [State.standing]

@[simp] theorem standing_eta (s : State) : (⟨s.start, s.pins, s.upd, s.pair.driving, s.pair.paired⟩ : Standing) = s.standing := by
  rw [State.standing]

@[simp] theorem standing_ite (c : Prop) [Decidable c] (a b : State) :
    (if c then a else b).standing = if c then a.standing else b.standing := apply_ite _ _ _ _

theorem standing_foldl {α : Type} (f : State → α → State) (h : ∀ s x, (f s x).standing = s.standing) (l : List α) (s : State) :
    (l.foldl f s).standing = s.standing := by
  induction l generalizing s with
  | nil => rfl
  | cons a r ih => rw [List.foldl_cons, ih, h]

@[simp] theorem setReg_standing (s : State) (a : Nat) (v : Word) : (s.setReg a v).standing = s.standing := by simp [State.setReg]

@[simp] theorem bumpBy_standing (c : Counter) (i n : Nat) (s : State) : (bumpBy c i n s).standing = s.standing := by simp [bumpBy]

@[simp] theorem bump_standing (c : Counter) (i : Nat) (s : State) : (bump c i s).standing = s.standing := by simp [bump]

@[simp] theorem out_standing (s : State) (o : Output) : (s.out o).standing = s.standing := by simp [State.out]

@[simp] theorem modNode_standing (s : State) (i : Nat) (f : Node → Node) : (s.modNode i f).standing = s.standing := by simp [State.modNode]

@[simp] theorem modEntry_standing (j : Nat) (f : Entry → Entry) (s : State) : (modEntry j f s).standing = s.standing := by simp [modEntry]

@[simp] theorem dedupAdd_standing (h : EntryHdr) (s : State) : (dedupAdd h s).standing = s.standing := by simp [dedupAdd]

@[simp] theorem queueFlood_standing (d : Option Nat) (pan : BitVec 16) (o : Eui) (fid ttl len sq : Nat) (s : State) :
    (queueFlood d pan o fid ttl len sq s).standing = s.standing := by simp [queueFlood]

@[simp] theorem giveToken_standing (p : Nat) (s : State) : (giveToken p s).standing = s.standing := by simp [giveToken, setBudget]

@[simp] theorem evrPush_standing (r : EvRecord) (s : State) : (evrPush r s).standing = s.standing := by
  unfold evrPush
  dsimp only
  (repeat' split) <;> simp

@[simp] theorem occurs_standing (e : Nat) (s : State) : (occurs e s).standing = s.standing := by simp [occurs, event]

@[simp] theorem mirror_standing (b : Body) (a : Option Await) (s : State) : (mirror b a s).standing = s.standing := by
  unfold mirror emit emitAs
  dsimp only
  (repeat' split) <;> simp

@[simp] theorem refund_standing (b : Booking) (s : State) : (refund b s).standing = s.standing := by
  unfold refund
  exact standing_foldl _ (fun _ _ => by simp [accountSub]) _ _

@[simp] theorem unbook_standing (id : Nat) (s : State) : (unbook id s).standing = s.standing := by
  unfold unbook
  split <;> simp

@[simp] theorem dropAck_standing (g : Nat) (s : State) : (dropAck g s).standing = s.standing := by
  unfold dropAck
  split <;> simp

@[simp] theorem groupSettle_standing (g : Nat) (s : State) : (groupSettle g s).standing = s.standing := by
  unfold groupSettle
  (repeat' split) <;> simp

@[simp] theorem newcomerGone_standing (g : Nat) (s : State) : (newcomerGone g s).standing = s.standing := by
  unfold newcomerGone
  dsimp only
  (repeat' split) <;> simp

@[simp] theorem raiseHwm_standing (e : Eui) (c : Nat) (d : Word) (s : State) : (raiseHwm e c d s).standing = s.standing := by
  unfold raiseHwm
  (repeat' split) <;> simp

@[simp] theorem hit_standing (e : Eui) (s : State) : (hit e s).standing = s.standing := by
  unfold hit
  split <;> simp

@[simp] theorem setLink_standing (c p : Eui) (s : State) : (setLink c p s).standing = s.standing := by
  unfold setLink
  (repeat' split) <;> simp

@[simp] theorem setLinks_standing (l : List Eui) (s : State) : (setLinks s l).standing = s.standing := by
  match l with
  | [] => rw [setLinks]
  | [e] =>
    rw [setLinks]
    split <;> simp
  | a :: b :: r => rw [setLinks, setLinks_standing (b :: r), setLink_standing]

@[simp] theorem learnRoute_standing (h : MeshHdr) (s : State) : (learnRoute h s).standing = s.standing := by
  unfold learnRoute
  (repeat' split) <;> simp

@[simp] theorem seenInsert_standing (o : Eui) (f : Nat) (s : State) : (seenInsert o f s).standing = s.standing := by
  unfold seenInsert
  split <;> simp

@[simp] theorem floodSeen_standing (h : MeshHdr) (pan : BitVec 16) (len : Nat) (s : State) :
    (floodSeen h pan len s).standing = s.standing := by
  unfold floodSeen
  dsimp only
  (repeat' split) <;> simp

@[simp] theorem campSettle_standing (c : Nat) (s : State) : (campSettle c s).standing = s.standing := by
  unfold campSettle
  (repeat' split) <;> simp

@[simp] theorem progressReport_standing (i : Nat) (r : Progress) (s : State) : (progressReport i r s).standing = s.standing := by
  unfold progressReport
  dsimp only
  (repeat' split) <;> simp

@[simp] theorem framePlane_standing (f : FrameInfo) (s : State) : (framePlane f s).standing = s.standing := by
  unfold framePlane
  dsimp only
  (repeat' split) <;> simp

@[simp] theorem acceptEntry_standing (j : Nat) (s : State) : (acceptEntry j s).standing = s.standing := by
  unfold acceptEntry
  dsimp only
  (repeat' split) <;> simp

@[simp] theorem voidEntry_standing (j : Nat) (s : State) : (voidEntry j s).standing = s.standing := by
  unfold voidEntry
  dsimp only
  (repeat' split) <;> simp

@[simp] theorem settleOwed_standing (t : Time) (s : State) : (settleOwed t s).standing = s.standing := by
  unfold settleOwed
  exact standing_foldl _ (fun _ _ => by simp) _ _

@[simp] theorem cutAll_standing (s : State) : (cutAll s).standing = s.standing := by
  unfold cutAll
  exact standing_foldl _ (fun _ _ => by simp [closeBooking]) _ _

@[simp] theorem dropCand_standing (g : Nat) (c : Cand) (s : State) : (dropCand g c s).standing = s.standing := by
  unfold dropCand
  dsimp only
  split <;> simp

/-- The release of the token at a warm reset: the chip drives its line no longer (R367). -/
theorem releaseToken_warmReset_standing (s : State) : (releaseToken .warmReset s).standing =
    ⟨s.start, s.pins, s.upd, false, s.pair.paired⟩ := by
  unfold releaseToken
  split
  · simp
  · next h => rw [← standing_eta, Bool.eq_false_iff.mpr h]

theorem standing_resetting (s : State) : ({ s with start.resetting := true } : State).standing =
    { s.standing with start := { s.standing.start with resetting := true } } := by
  rw [standing_mk, ← standing_eta s]

theorem standing_outputsLow (s : State) :
    ({ s with pair.paired := false, pins.ready := false, pins.ppsOut := false, pins.ethOn := false } : State).standing =
      { s.standing with pins := {}, paired := false } := by
  rw [standing_mk, ← standing_eta s]

/-- Steps 1 and 2 of R81: the chip drives its line no longer, READY, PPS_OUT and Ethernet are low, and the reset is in hand. -/
theorem warmEnter_standing (s : State) :
    (warmEnter s).standing = ⟨{ s.start with resetting := true }, {}, s.upd, false, false⟩ := by
  unfold warmEnter
  dsimp only
  rw [standing_resetting, standing_foldl _ fun _ _ => dropCand_standing _ _ _, standing_outputsLow,
    releaseToken_warmReset_standing]

theorem warmEnter_start (s : State) : (warmEnter s).start = { s.start with resetting := true } :=
  congrArg Standing.start (warmEnter_standing s)

theorem warmEnter_pins (s : State) : (warmEnter s).pins = {} := congrArg Standing.pins (warmEnter_standing s)

theorem warmEnter_upd (s : State) : (warmEnter s).upd = s.upd := congrArg Standing.upd (warmEnter_standing s)

theorem warmEnter_driving (s : State) : (warmEnter s).pair.driving = false := congrArg Standing.driving (warmEnter_standing s)

theorem warmEnter_mem (s : State) : (warmEnter s).mem = s.mem := congrArg Anchor.mem (warmEnter_anchor s)

theorem warmEnter_paired (s : State) : (warmEnter s).pair.paired = false := congrArg Standing.paired (warmEnter_standing s)

/-! ### The edges of the pins -/

/-- P0 begins once neither PORST_N nor VDD_AO holds the device in reset (R51). -/
theorem powerUp_begins {s : State} (hpin : s.start.pinLow = false) (hao : s.start.aoLow = false) (hlow : s.start.porstLow = true) :
    powerUp s = { s with start := { s.start with porstLow := false, phase := .p0, islands := 1 } } := by
  simp [powerUp, hpin, hao, hlow]

/-! ### What a power-on reset leaves (R83): nothing but what the pins, the fuses and the flash devices hold -/

@[simp] theorem powerDown_start (s : State) : (powerDown s).start =
    { fuses := s.start.fuses, warmLow := s.start.warmLow, aoLow := s.start.aoLow, pinLow := s.start.pinLow, sdsLost := s.start.sdsLost } := by
  unfold powerDown powerReset
  split <;> simp

@[simp] theorem powerDown_flash (s : State) : (powerDown s).flash = { s.flash with lostA := false, lostB := false } := by
  unfold powerDown powerReset
  split <;> simp

@[simp] theorem powerDown_regs (s : State) : (powerDown s).regs = [] := by
  unfold powerDown powerReset
  split <;> simp

@[simp] theorem powerDown_tables (s : State) : (powerDown s).tables = [] := by
  unfold powerDown powerReset
  split <;> simp

@[simp] theorem powerDown_mem (s : State) : (powerDown s).mem = [] := by
  unfold powerDown powerReset
  split <;> simp

@[simp] theorem powerDown_jrn (s : State) : (powerDown s).jrn = {} := by
  unfold powerDown powerReset
  split <;> simp

@[simp] theorem powerDown_pair (s : State) : (powerDown s).pair = {} := by
  unfold powerDown powerReset
  split <;> simp

@[simp] theorem powerDown_pending (s : State) : (powerDown s).pending = s.pending := by
  unfold powerDown powerReset
  split <;> simp

/-- The reset is complete and nothing holds the device in it: the warm start begins at P2, where the fuses have been loaded (R82). -/
theorem warmBegin_loaded {s : State} (h : s.start.fuseLoaded = true) :
    warmBegin s = releaseIslands { s with start := { s.start with phase := .p2, held := false } } := by
  rw [warmBegin, if_pos h]

theorem resetDone_begins {s : State} (hwarm : s.start.warmLow = false) (hcool : s.start.holdUntilCool = false)
    (hloaded : s.start.fuseLoaded = true) : resetDone s = releaseIslands { refreshOne 3 (islandReset s) with
      start := { (refreshOne 3 (islandReset s)).start with phase := .p2, held := false } } := by
  have h : (refreshOne 3 (islandReset s)).start.fuseLoaded = true := by
    rw [refreshOne_eq]
    simpa [islandReset] using hloaded
  rw [← warmBegin_loaded h, resetDone, hwarm, hcool]
  rfl

/-- Settles O1: each clause from the operation that its edge runs. -/
theorem resetPinsAct : Obligations.ResetPinsAct := by
  refine ⟨?porstRise, ?aoRestored, ?porstFall, ?aoLow, ?warmFall, ?drainDone, ?warmRise⟩
  case porstRise =>
    intro t s hlow hao
    refine ⟨_, by rw [exec_porstNRise, execPorstNRise, onInst_true, powerUp_begins rfl (by simpa using hao) (by simpa using hlow)], ?_⟩
    exact ⟨by simp, by simp, by simp, (settle_eq _).trans (by simp)⟩
  case aoRestored =>
    intro t s hlow hpin
    refine ⟨_, by rw [exec_vddAoRestored, execVddAoRestored, onInst_true, powerUp_begins (by simpa using hpin) rfl (by simpa using hlow)], ?_⟩
    exact ⟨by simp, by simp, by simp, (settle_eq _).trans (by simp)⟩
  case porstFall =>
    intro t s
    exact ⟨_, by rw [exec_porstNFall, execPorstNFall, onInst_true], by simp⟩
  case aoLow =>
    intro t s
    exact ⟨_, by rw [exec_vddAoLow, execVddAoLow, onInst_true], by simp⟩
  case warmFall =>
    intro t s hstill hzero hfrozen _
    refine ⟨settle (warmEnter { s.arrive t with start.warmLow := true }), ?_, ?_⟩
    · rw [exec_warmrstNFall, execWarmrstNFall, onInst_true]
      dsimp only
      rw [if_neg (by simpa [startStill, needsPower, hzero, and_assoc] using hstill), if_neg (by simp [hfrozen])]
    · simp [warmEnter_start, warmEnter_pins, warmEnter_driving, warmEnter_paired, warmEnter_mem]
  case drainDone =>
    intro t s hreset hlow hwarm hcool hloaded
    refine ⟨settle (resetDone { s.arrive t with start.drained := true }), ?_, ?_⟩
    · rw [exec_warmResetDrainDone, execWarmResetDrainDone, onInst_true]
      simp [hreset, hlow]
    · rw [resetDone_begins (by simpa using hwarm) (by simpa using hcool) (by simpa using hloaded), refreshOne_eq]
      simp [releaseIslands, islandReset]
  case warmRise =>
    intro t s hheld hlow hreset hcool hloaded
    refine ⟨settle (warmBegin { s.arrive t with start.warmLow := false }), ?_, ?_⟩
    · rw [exec_warmrstNRise, execWarmrstNRise, onInst_true, leaveReset]
      simp [hheld, hlow, hcool]
    · rw [warmBegin_loaded (by simpa using hloaded)]
      exact ⟨by simp [releaseIslands], by simp [releaseIslands], by simp [releaseIslands], (settle_eq _).trans (by simp [releaseIslands])⟩

end Sys2Proof.Machine

/-! PROOFS. Activation, confirmation, reversion and revocation (R78, R411 to R417): the end of a command on a solo device, and the clamp and
the mirror record that an activation begins and ends with. -/

namespace Sys2Proof.Machine
open Sys2Proof Host

/-! ### A solo device mirrors nothing (R376) -/

section
variable {s : State}

theorem mirrors_solo (h : s.pair.state = .solo) : s.mirrors = false := by simp [State.mirrors, h]

theorem leads_solo (h : s.pair.state = .solo) : s.leads = true := by simp [State.leads, h]

theorem leads_active (h : s.pair.state = .active) : s.leads = true := by simp [State.leads, h]

theorem mirror_solo (b : Body) (a : Option Await) (h : s.pair.state = .solo) : mirror b a s = s := by
  rw [mirror, mirrors_solo h]
  rfl

/-- A mirror record moves the numbers of the pair and leaves by the Isthmus (R376). -/
theorem mirror_eq (b : Body) (a : Option Await) (s : State) :
    mirror b a s = { s with pair := (mirror b a s).pair, sent := (mirror b a s).sent } := by
  unfold mirror emit emitAs State.out
  dsimp only
  (repeat' split) <;> rfl

theorem ferryPacket_solo (ty flags : Nat) (body : Octets) (h : s.pair.state = .solo) : ferryPacket ty flags body s =
    { s with fry := (ferryPacket ty flags body s).fry, sent := (ferryPacket ty flags body s).sent } := by
  unfold ferryPacket State.out
  dsimp only
  repeat' split
  · rfl
  · rw [mirror_solo]
    exact h
  · rfl

/-! ### The end of a command on a solo device (R316, R317) -/

theorem dlAdvance_solo {d : Nat} (h : s.pair.state = .solo) (hd : s.dl.nextDsn = d) : dlAdvance d s =
    { s with dl := { s.dl with nextDsn := d + 1 }, fry := (dlAdvance d s).fry, sent := (dlAdvance d s).sent } := by
  rw [dlAdvance, if_pos hd]
  dsimp only
  rw [leads_solo h, if_pos rfl, ferryPacket_solo _ _ _ (by simpa using h)]
  simp

/-- The sequence goes on behind command `d`; the reorder buffer is empty (R316). -/
theorem dlTaken_solo {d : Nat} (h : s.pair.state = .solo) (hd : s.dl.nextDsn = d) (hr : s.dl.reorder = []) : dlTaken d s =
    { s with dl := { s.dl with nextDsn := d + 1 }, fry := (dlTaken d s).fry, sent := (dlTaken d s).sent } := by
  have he : dlTaken d s = dlAdvance d s := by
    rw [dlTaken, dlAdvance_solo h hd]
    simp [hr, dlDrain]
  rw [he, dlAdvance_solo h hd]

/-- An outcome enters the journal of a solo device with the next JSN (R312, R317). -/
theorem outcomeEntry_solo (r : DlRec) (o c : Nat) (h : s.pair.state = .solo) : outcomeEntry r o c s =
    { s with jrn := (outcomeEntry r o c s).jrn, flash := (outcomeEntry r o c s).flash } := by
  unfold outcomeEntry takeJsn
  dsimp only
  rw [mirror_solo]
  exact h

theorem outcomes_outcomeEntry (r : DlRec) (o c : Nat) (h : s.pair.state = .solo) :
    outcomes (outcomeEntry r o c s) = outcomes s ++ [(3, r.item.dsn, o, c)] := by
  unfold outcomeEntry takeJsn
  dsimp only
  rw [mirror_solo _ _ (by exact h)]
  simp [outcomes]

end

/-- The only item of the downlink ring is `r`, the committed command `d`, which waits to be carried out on a solo device (R316). -/
structure SoleCommand (d : Nat) (r : DlRec) (s : State) : Prop where
  solo     : s.pair.state = .solo
  recs     : s.dl.recs = [r]
  dsn      : r.item.dsn = d
  carrying : r.state = .carrying
  undone   : r.done = none
  next     : s.dl.nextDsn = d
  reorder  : s.dl.reorder = []

theorem soleCommand_of {s : State} {d c : Nat} (h : soloCommand s d c) : ∃ r, SoleCommand d r s := by
  obtain ⟨hcarries, hsolo, hreorder, hnext, r, hrecs, hdsn⟩ := h
  have hdl : dlOf s d = some r := by simp [dlOf, hrecs, hdsn]
  simp only [State.carries, hdl, Bool.and_eq_true, beq_iff_eq, Option.isNone_iff_eq_none] at hcarries
  exact ⟨r, hsolo, hrecs, hdsn, hcarries.2.1.1, hcarries.2.1.2, hnext, hreorder⟩

theorem SoleCommand.of_eq {d : Nat} {r : DlRec} {s u : State} (h : SoleCommand d r s) (hp : u.pair = s.pair) (hd : u.dl = s.dl) :
    SoleCommand d r u :=
  ⟨by rw [hp]; exact h.solo, by rw [hd]; exact h.recs, h.dsn, h.carrying, h.undone, by rw [hd]; exact h.next, by rw [hd]; exact h.reorder⟩

section
variable {d : Nat} {r : DlRec} {s : State}

/-- The item's outcome has been found and nothing of its flow holds it back: it reports (R14). -/
theorem endItem_sole (h : SoleCommand d r s) (e : Ending) : endItem d e s =
    outcomeEntry { r with done := some (e.outcome, e.cause) } e.outcome e.cause
      { s with dl.recs := [{ r with done := some (e.outcome, e.cause), state := .ended }] } := by
  obtain ⟨hsolo, hrecs, hdsn, hcarrying, hundone, -, -⟩ := h
  have hdl : dlOf s d = some r := by simp [dlOf, hrecs, hdsn]
  simp [endItem, hdl, hcarrying, hundone, leads_solo, modDl, hsolo, reportFlow, hrecs, hdsn, sameFlow, reportable, reportItem]

theorem endItem_sole_eq (h : SoleCommand d r s) (e : Ending) : endItem d e s =
    { s with dl := { s.dl with recs := [{ r with done := some (e.outcome, e.cause), state := .ended }] },
             jrn := (endItem d e s).jrn, flash := (endItem d e s).flash } := by
  rw [endItem_sole h, outcomeEntry_solo _ _ _ (by exact h.solo)]

theorem finish_sole_dlTaken (h : SoleCommand d r s) (e : Ending) : finish d e s =
    { endItem d e s with dl := { (endItem d e s).dl with nextDsn := d + 1 }, fry := (finish d e s).fry, sent := (finish d e s).sent } := by
  have heq := endItem_sole_eq h e
  rw [finish, dlTaken_solo (by rw [heq]; exact h.solo) (by rw [heq]; exact h.next) (by rw [heq]; exact h.reorder)]

/-- The end of a command moves the downlink ring, the journal with its ceiling, and Ferry (R316, R317). -/
theorem finish_sole (h : SoleCommand d r s) (e : Ending) : finish d e s =
    { s with dl := (finish d e s).dl, jrn := (finish d e s).jrn, flash := (finish d e s).flash, fry := (finish d e s).fry,
             sent := (finish d e s).sent } := by
  rw [finish_sole_dlTaken h, endItem_sole_eq h]

theorem outcomes_finish_sole (h : SoleCommand d r s) (e : Ending) :
    outcomes (finish d e s) = outcomes s ++ [(3, d, e.outcome, e.cause)] := by
  have hj : outcomes (finish d e s) = outcomes (endItem d e s) := by
    rw [finish_sole_dlTaken h]
    rfl
  rw [hj, endItem_sole h, outcomes_outcomeEntry _ _ _ (by exact h.solo), h.dsn]
  rfl

end

/-- The arrival of a command moves device time only. -/
theorem arrive_eq (s : State) (t : Time) : s.arrive t = { s with clock := (s.arrive t).clock } := by
  unfold State.arrive
  split <;> rfl

/-- The outcomes are read from the journal alone. -/
theorem outcomes_congr {s u : State} (h : u.jrn = s.jrn) : outcomes u = outcomes s := by rw [outcomes, outcomes, h]

theorem controlUp_arrive (s : State) (t : Time) : (s.arrive t).controlUp = s.controlUp :=
  controlUp_congr (arrive_start s t) (arrive_hlt s t)

/-! ### Clamps (R472) -/

theorem clamp_setClamp_same (s : State) (n : Nat) (c : Clamp) : (s.setClamp n c).clamp n = c := by
  rw [State.setClamp, State.clamp]
  split
  · next h => rw [afind_adel_same, h]; rfl
  · rw [afind_aput_same]; rfl

/-- A free clamp that nothing waits for is taken at once. -/
theorem askClamp_free {act n : Nat} {s : State} (h : s.clamp n = {}) (ha : act ≠ 0) :
    askClamp act n s = (true, s.setClamp n { holder := act, waiting := [] }) := by
  simp [askClamp, h, ha.symm]

/-! ### Steps of the activation (R411, R412) -/

theorem freshCommand_sole {s : State} {d c : Nat} (h : soloCommand s d c) (t : Time) : freshCommand (s.arrive t) d c = true := by
  obtain ⟨hcarries, -, -, hnext, -⟩ := h
  simpa [freshCommand, State.carries, State.controlUp, State.islandUp, dlOf, hnext] using hcarries

/-- The copy begins with the other slot's flash device in hand. -/
theorem beginCopy_free {s : State} (h : s.clamp (flashClamp !s.start.slot) = {}) : beginCopy s =
    (stepDone 2 { s with upd.state := .activating, upd.target := !s.start.slot }).setClamp (flashClamp !s.start.slot)
      { holder := 13, waiting := [] } := by
  rw [beginCopy, askClamp_free (by exact h) (by decide)]

@[simp] theorem setClamp_upd (s : State) (n : Nat) (c : Clamp) : (s.setClamp n c).upd = s.upd := rfl

@[simp] theorem setClamp_dl (s : State) (n : Nat) (c : Clamp) : (s.setClamp n c).dl = s.dl := rfl

theorem setClamp_eq (s : State) (n : Nat) (c : Clamp) : s.setClamp n c = { s with hlt := (s.setClamp n c).hlt } := rfl

theorem freeClampOf_eq (act n : Nat) (s : State) : freeClampOf act n s = { s with hlt := (freeClampOf act n s).hlt } := by
  unfold freeClampOf State.setClamp
  dsimp only
  (repeat' split) <;> rfl

@[simp] theorem settle_clamp (s : State) (n : Nat) : (settle s).clamp n = s.clamp n := by
  rw [State.clamp, State.clamp, settle_hlt_clamps]

theorem bump_eq (c : Counter) (i : Nat) (s : State) : bump c i s = { s with regs := (bump c i s).regs } := by
  simp [bump, bumpBy, State.setReg]

theorem evrPush_eq (r : EvRecord) (s : State) : evrPush r s = { s with regs := (evrPush r s).regs, evr := (evrPush r s).evr } := by
  unfold evrPush
  dsimp only
  repeat' split
  · rw [bump_eq]
  · rw [bump_eq]
  · rfl

/-- A named event goes to the recorder; its arguments are free values (R475). -/
theorem occurs_eq (e : Nat) (s : State) :
    occurs e s = { s with regs := (occurs e s).regs, evr := (occurs e s).evr, free := (occurs e s).free } := by
  rw [occurs, event, evrPush_eq]

/-- The driving chip gives up: without a command of its own, only the state of R412 changes. -/
theorem actFail_driven {s : State} (hact : s.upd.act = none) (hst : s.upd.actState ≠ 0) : actFail s =
    occurs eUpdActivateFail (actTo 0 { s with
      upd.act := none
      upd.state := if s.upd.state = .activating ∨ s.upd.state = .activated then .verified else s.upd.state }) := by
  rw [actFail]
  simp only [hact]
  rw [if_neg hst]

theorem actTo_eq (n : Nat) (s : State) : actTo n s = { s with
    pair := (actTo n s).pair, sent := (actTo n s).sent, upd := { s.upd with actState := n, since := s.clock.now } } := by
  rw [actTo, mirror_eq]

/-- No activation is in hand: its end changes nothing. -/
theorem actDone_idle {s : State} (hact : s.upd.act = none) (hst : s.upd.actState = 0) : actDone s = s := by
  have h : ({ s with upd.act := none } : State) = s := by rw [← hact]
  rw [actDone, if_pos hst, hact, h]

theorem setStatus_eq (b : Bool) (h : ImageHdr) (c a : Word) (s : State) : setStatus b h c a s =
    { s with start := (setStatus b h c a s).start, flash := (setStatus b h c a s).flash } := by
  unfold setStatus
  split <;> rfl

/-- Steps 2 and 3 of R78 on a solo device: the other slot holds a valid image, and there is no manifest. -/
theorem confirmRest_solo {s : State} (hsolo : s.pair.state = .solo) (hm : s.upd.manifest = none) :
    confirmRest true true true s = reclaim s := by
  simp [confirmRest, hsolo, rollbackUp, hm]

/-- The confirmation of R78 on a solo device whose steps all succeed, without a manifest. -/
theorem confirmImage_solo {s : State} (hsolo : s.pair.state = .solo) (hm : s.upd.manifest = none) :
    ∃ u, confirmImage true true true true s = (true, u) ∧ u.start.confirmed = true ∧ u.upd.act = s.upd.act ∧
      u.upd.actState = s.upd.actState ∧ u = { s with start := u.start, flash := u.flash, upd := u.upd } := by
  cases hr : slotRead s s.start.slot with
  | failed =>
    refine ⟨_, by rw [confirmImage, hr, if_neg (by decide)], ?_⟩
    dsimp only
    rw [confirmRest_solo (by exact hsolo) (by exact hm), reclaim]
    simp
  | read h c a =>
    have hs := setStatus_eq s.start.slot h 0 a s
    refine ⟨_, by rw [confirmImage, hr, if_neg (by decide)], ?_⟩
    dsimp only
    rw [hs, confirmRest_solo (by exact hsolo) (by exact hm), reclaim]
    simp

/-- A confirmation that succeeds on a solo device with no activation in hand; a command that asked for it ends. -/
theorem confirmAll_solo {s : State} (d : Option Nat) (hsolo : s.pair.state = .solo) (hu : unconfirmed s = true) (hact : s.upd.act = none)
    (hst : s.upd.actState = 0) (hm : s.upd.manifest = none) :
    ∃ u, confirmAll d true true true true s = d.elim u (fun n => finish n .acked u) ∧ u.start.confirmed = true ∧
      u = { s with start := u.start, flash := u.flash, upd := u.upd, regs := u.regs, evr := u.evr, free := u.free } := by
  obtain ⟨v, hv, hconf, hva, hvs, hframe⟩ := confirmImage_solo hsolo hm
  have ho := occurs_eq eUpdConfirmed v
  refine ⟨occurs eUpdConfirmed v, ?_, ?_, ?_⟩
  · have hdone : actDone (occurs eUpdConfirmed v) = occurs eUpdConfirmed v :=
      actDone_idle (by rw [ho]; exact hva.trans hact) (by rw [ho]; exact hvs.trans hst)
    simp only [confirmAll, hu, if_true, hv, hsolo, hdone, Bool.not_true, Bool.false_eq_true, if_false]
    cases d <;> rfl
  · rw [ho]
    exact hconf
  · rw [ho, hframe]

/-- Bit 4+n of fuse word 129 revokes key slot n (R417): burnt, it stands in the shadow. -/
theorem revokes_blowFuse {n : Nat} (h : n < 4) (s : State) :
    (fuseWord (blowFuse 129 (BitVec.ofNat 32 (2 ^ (4 + n))) s) 129).getLsbD (4 + n) = true := by
  have hbit : (BitVec.ofNat 32 (2 ^ (4 + n))).getLsbD (4 + n) = true := by
    simp only [BitVec.getLsbD_ofNat, Nat.testBit_two_pow_self, Bool.and_true, decide_eq_true_eq]
    omega
  simp only [fuseWord, blowFuse, smod, sget_sset_same]
  rw [BitVec.getLsbD_or, hbit, Bool.or_true]

theorem fuseWord_congr {s u : State} (h : u.start = s.start) (w : Nat) : fuseWord u w = fuseWord s w := by rw [fuseWord, h, fuseWord]

/-- Settles O27: each clause from the end of its command and the step of the activation that it takes. -/
theorem activateAndConfirm : Obligations.ActivateAndConfirm := by
  refine ⟨?activate, ?copyDone, ?partnerCopied, ?timeout, ?confirm, ?hold, ?revert, ?revoke⟩
  case activate =>
    intro t d ok s hcmd hok hclamp
    obtain ⟨r, hsole⟩ := soleCommand_of hcmd
    have hsole' : SoleCommand d r (s.arrive t) := hsole.of_eq (by simp) (by simp)
    have hok' : activateOk (s.arrive t) ok = true := by
      rw [arrive_eq]
      exact hok
    have htaken : dlTaken d (actBegin d false (s.arrive t)) = { actBegin d false (s.arrive t) with
        dl := { s.dl with nextDsn := d + 1 }, fry := (dlTaken d (actBegin d false (s.arrive t))).fry,
        sent := (dlTaken d (actBegin d false (s.arrive t))).sent } := by
      rw [dlTaken_solo (by exact hsole'.solo) (by exact hsole'.next) (by exact hsole'.reorder)]
      simp [actBegin]
    refine ⟨settle (beginCopy (dlTaken d (actBegin d false (s.arrive t)))), ?_, ?_⟩
    · rw [exec_updActivate, execUpdActivate, onInst_true]
      simp [freshCommand_sole hcmd, hok', hsole.solo]
    · rw [htaken, beginCopy_free (by simpa [actBegin, State.clamp] using hclamp)]
      refine ⟨?_, ?_, ?_, ?_, ?_, (settle_eq _).trans (by rw [setClamp_eq]; simp [actBegin, stepDone])⟩
      all_goals simp [actBegin, stepDone, clamp_setClamp_same]
  case copyDone =>
    intro t s hup hstate hclamp
    refine ⟨settle (warmEnter (freeClampOf 13 (flashClamp s.upd.target) (stepDone 3 (occurs eUpdActivate
      (eraseStatus s.upd.target { s.arrive t with upd.state := .activated }))))), ?_, ?_⟩
    · rw [exec_updActivateCopyDone, execUpdActivateCopyDone, onInst_true]
      have hup' : (s.arrive t).controlUp = true := by rw [controlUp_arrive, hup]
      have hclamp' : ((s.arrive t).clamp (flashClamp s.upd.target)).holder = 13 := by simpa [State.clamp] using hclamp
      simp [hup', hstate, hclamp']
    · simp only [settle_upd, settle_start, settle_pins, settle_pair, settle_mem, warmEnter_upd, warmEnter_start, warmEnter_pins,
        warmEnter_driving, warmEnter_mem]
      rw [freeClampOf_eq, stepDone, occurs_eq, eraseStatus]
      split <;> simp
  case partnerCopied =>
    intro t s hup hstate hnone hact
    refine ⟨settle (actTo 2 (s.arrive t)), ?_, ?_⟩
    · rw [exec_updActivateCopyDone, execUpdActivateCopyDone, onInst_true]
      have hup' : (s.arrive t).controlUp = true := by rw [controlUp_arrive, hup]
      simp [hup', hstate, hnone, hact]
    · rw [actTo_eq]
      exact ⟨by simp, by simp, (settle_eq _).trans (by simp)⟩
  case timeout =>
    intro t s hstate hup hact hnone hdue
    have hact' : (s.arrive t).upd.actState = 2 := by simpa using hact
    refine ⟨settle (actFail (s.arrive t)), ?_, ?_⟩
    · have hup' : (s.arrive t).controlUp = true := by rw [controlUp_arrive, hup]
      rw [exec_actTimeout, execActTimeout, onInst_true]
      have hdue' : (s.arrive t).upd.since + sec ((s.arrive t).fld rUpdCtrl 24 8 * 10) ≤ (s.arrive t).clock.now := by
        simpa [State.fld] using hdue
      simp only [hup', leads_active (s := s.arrive t) (by simpa using hstate), hact', hdue']
      simp
    · rw [actFail_driven (by simpa using hnone) (by rw [hact']; decide), occurs_eq, actTo_eq]
      refine ⟨?_, ?_, (settle_eq _).trans ?_⟩
      all_goals simp
  case confirm =>
    intro t d s hcmd hu hact hst hm
    obtain ⟨r, hsole⟩ := soleCommand_of hcmd
    have hsole' : SoleCommand d r (s.arrive t) := hsole.of_eq (by simp) (by simp)
    have hu' : unconfirmed (s.arrive t) = true := by simpa [unconfirmed] using hu
    obtain ⟨v, hv, hconf, hframe⟩ := confirmAll_solo (some d) hsole'.solo hu' (by simpa using hact) (by simpa using hst)
      (by simpa using hm)
    have hsolev : SoleCommand d r v := hsole'.of_eq (by rw [hframe]) (by rw [hframe])
    have hfin := finish_sole hsolev .acked
    refine ⟨settle (finish d .acked v), ?_, ?_, ?_, (settle_eq _).trans ?_⟩
    · rw [exec_updConfirm, execUpdConfirm, onInst_true]
      simp [freshCommand_sole hcmd, leads_solo hsole'.solo, hu', hv]
    · rw [settle_start, hfin]
      exact hconf
    · rw [outcomes_congr (settle_jrn _), outcomes_finish_sole hsolev, outcomes_congr (u := v) (s := s) (by rw [hframe, arrive_jrn])]
      rfl
    · rw [hfin, hframe]
      simp
  case hold =>
    intro t s hdue hsolo hu hact hst hm
    obtain ⟨v, hv, hconf, hframe⟩ := confirmAll_solo (s := s.arrive t) none (by simpa using hsolo) (by simpa [unconfirmed] using hu)
      (by simpa using hact) (by simpa using hst) (by simpa using hm)
    refine ⟨settle v, ?_, ?_, (settle_eq _).trans ?_⟩
    · rw [exec_confirmHold, execConfirmHold, onInst_true]
      simp [hdue, hv]
    · rw [settle_start]
      exact hconf
    · rw [hframe]
      simp
  case revert =>
    intro t d h c w s hcmd hu hslot hread
    obtain ⟨r, hsole⟩ := soleCommand_of hcmd
    have hsole' : SoleCommand d r (s.arrive t) := hsole.of_eq (by simp) (by simp)
    have hu' : unconfirmed (s.arrive t) = true := by simpa [unconfirmed] using hu
    have hspend : spendAttempts (finish d .acked (s.arrive t)) = setStatus false h c 0 (finish d .acked (s.arrive t)) := by
      rw [spendAttempts, finish_sole hsole']
      simp [slotRead, hslot, hread]
    refine ⟨settle (warmEnter (setStatus false h c 0 (finish d .acked (s.arrive t)))), ?_, ?_⟩
    · rw [exec_updRevert, execUpdRevert, onInst_true, ← hspend]
      simp [freshCommand_sole hcmd, hu', hsole.solo]
    · simp only [settle_start, settle_pins, settle_pair, settle_mem, warmEnter_start, warmEnter_pins, warmEnter_driving, warmEnter_mem]
      rw [finish_sole hsole']
      simp [setStatus]
  case revoke =>
    intro t d n a o s hcmd hargs hn hlt hinuse hnotver hlive
    obtain ⟨r, hsole⟩ := soleCommand_of hcmd
    obtain ⟨v, hv⟩ : ∃ v, v = blowFuse 129 (BitVec.ofNat 32 (2 ^ (4 + n))) (s.arrive t) := ⟨_, rfl⟩
    have hsolev : SoleCommand d r v := hsole.of_eq (by simp [hv, blowFuse]) (by simp [hv, blowFuse])
    have hfin := finish_sole hsolev .acked
    have hset : (fuseWord (settle (finish d .acked v)) 129).getLsbD (4 + n) = true := by
      rw [fuseWord_congr (s := v) (by rw [settle_start, hfin]), hv]
      exact revokes_blowFuse hlt _
    refine ⟨settle (finish d .acked v), ?_, hset, ?_, ?_, (settle_eq _).trans ?_⟩
    · have hargs' : (s.arrive t).argsOf d 0x107 = some a := by
        simpa [State.argsOf, State.carries, State.controlUp, State.islandUp, dlOf] using hargs
      have hinuse' : slotInUse (s.arrive t) n o = false := by simpa [slotInUse, slotRead] using hinuse
      have hlive' : (List.range 4).filter (keySlotLive (s.arrive t)) ≠ [n] := by
        rw [arrive_eq]
        exact hlive
      rw [exec_updRevokeSlot, execUpdRevokeSlot, onInst_true, hv]
      simp [hargs', hn, Nat.not_le.mpr hlt, hinuse', hnotver, hlive']
    · rw [keySlotLive, hset, Bool.not_true, Bool.and_false]
    · rw [outcomes_congr (settle_jrn _), outcomes_finish_sole hsolev, outcomes_congr (s := s) (by simp [hv, blowFuse])]
      rfl
    · rw [hfin]
      simp [hv, blowFuse]

end Sys2Proof.Machine

/-! PROOFS. The confirmation retried against a held flash device (R78, R472), and an image check that ends beside a strait in use (R35, R77). -/

namespace Sys2Proof.Machine
open Sys2Proof Host

/-! ### The confirmation waits for the other slot's flash device -/

/-- The header of an image that passes the checks of R76. -/
def validImage : ImageHdr where
  magic := 0x4E594346
  formatVersion := 1
  headerLength := 256
  imageLength := 4096
  generation := 5
  securityVersion := 0
  keySlot := 0
  pairMode := 0
  pairWait := 1
  earlyOffset := 256
  earlyCount := 1
  earlyLength := 8
  mainOffset := 512
  mainCount := 8
  mainLength := 256
  persistFormat := 1
  persistFormatMin := 1
  layout := [(0x2000000, 0x100000), (0x2100000, 0x100000), (0x2200000, 0x100000), (0x2300000, 0x100000), (0x2400000, 0x2000000)]
  buildId := 0
  reservedZero := true

/-- A solo device in service with a confirmed image in slot A; the writer of an update holds the flash device of slot B. -/
def confirmedBesideUpdate : State :=
  { State.reset with
    start := { State.reset.start with
      phase := .p9
      porstLow := false
      pinLow := false
      islands := 0xFF
      image := some validImage
      confirmed := true }
    hlt := { clamps := [(flashClamp true, { holder := 12 })] }
    pair := { State.reset.pair with state := .solo } }

theorem count_confirmRetryCheck_held :
    (taken confirmedBesideUpdate (exec (.confirmRetryCheck 0 false true true) confirmedBesideUpdate)).count cHltClampWait 0 = 1 := by
  decide +kernel

/-- Refutes O5: its last clause says that a retried confirmation changes no register. In `confirmedBesideUpdate` the other slot is to be made
a copy, whose flash device another activity holds: the confirmation asks for the clamp and HLT_CLAMP_WAIT counts it (R78, R472). -/
theorem not_clocksAndFuses : ¬ Obligations.ClocksAndFuses := by
  rintro ⟨-, -, -, -, -, -, -, -, -, -, -, hretry⟩
  obtain ⟨u, hexec, -, -, hregs⟩ := hretry 0 false confirmedBesideUpdate rfl rfl rfl rfl
  have hcount := count_confirmRetryCheck_held
  rw [hexec, taken, count_of_regs hregs] at hcount
  exact absurd hcount (by decide +kernel)

/-! ### An image passes its checks while a report waits -/

/-- P3 with a valid image in slot A; the Control island works, and the report of a parity error waits in the FIFO to it. -/
def checkedBesideReport : State :=
  { State.reset with
    start := { State.reset.start with
      phase := .p3
      porstLow := false
      pinLow := false
      islands := 0x29
      refOk := true
      fuseLoaded := true
      shadow := [(129, 1)]
      slotA := .read validImage 0 0 }
    straits := [(straitOf (toControl 0) 0, [.errorReport 0 parityReport .none])] }

theorem count_imageCheckDone_waiting :
    (taken checkedBesideReport (exec (.imageCheckDone 0 true true none 0x8000000 1 1) checkedBesideReport)).count cHltStraitParity 0 = 1 := by
  decide +kernel

/-- Refutes O2: its clause of an image that passes says that no register changes, and leaves open what waits in the straits, as the clauses
of FUSE_LOAD_DONE and PUF_ATTEMPT_DONE do not. In `checkedBesideReport` the islands of P4 are released, every FIFO whose destination is
ready empties (R35), and the report that waited for Control counts HLT_STRAIT_PARITY. -/
theorem not_startPhases : ¬ Obligations.StartPhases := by
  rintro ⟨-, -, -, -, -, hpass, -⟩
  obtain ⟨u, hexec, -, -, -, -, -, -, -, -, hregs, -⟩ :=
    hpass 0 true true none 0x8000000 1 1 validImage 0 0 checkedBesideReport rfl rfl (by decide) rfl rfl (by decide +kernel)
  have hcount := count_imageCheckDone_waiting
  rw [hexec, taken, count_of_regs hregs] at hcount
  exact absurd hcount (by decide +kernel)

end Sys2Proof.Machine

/-! PROOFS. A register write of the configuration image that ends a command of the downlink (R71, R104, R316). -/

namespace Sys2Proof.Machine
open Sys2Proof Host

/-- A good header of a REG_WRITE record, which applies at every start. -/
def regWriteHdr : RecHdr := ⟨1, true, false, true, true, true⟩

/-- The command POOL_ENTRY for stream 0, of DSN 1. -/
def poolEntryItem : DlItem := ⟨1, 3, 0, 12, 6000, 0, 0, [0, 5, 0, 0, 0, 0, 0, 0, 0, 0, 0, 0]⟩

/-- P5, with records on either side of the next one. Fronthaul port 31 is looped, and the remap of stream 0
that command 1, POOL_ENTRY, asked for waits for its echo. -/
def loopedBesideRemap : State :=
  { State.reset with
    start := { State.reset.start with
      phase := .p5
      porstLow := false
      pinLow := false
      islands := 0xFF
      refOk := true
      fuseLoaded := true
      image := some validImage
      record := 3 }
    fh := [(31, { state := .loop })]
    regs := [(rFhPortCtrl + 31 * 0x400, 3)]
    pool := [⟨0, 0, 1, 0, true, [⟨31, 0, 0, false⟩]⟩]
    pair := { State.reset.pair with state := .solo }
    dl := { sync := false, nextDsn := 1, recs := [{ item := poolEntryItem, since := 0, state := .carrying }] } }

/-- FH_PORT_CTRL of port 31 with LOOP 0. -/
def loopEnds : List (Word × Word) := [(BitVec.ofNat 32 (rFhPortCtrl + 31 * 0x400), 1)]

theorem writable_loopEnds : ∀ x ∈ loopEnds, writable loopedBesideRemap x.1.toNat = true := by
  intro x hx
  rw [List.mem_singleton.mp hx]
  decide +kernel

theorem jsnCeiling_regWrite_loopEnds :
    (taken loopedBesideRemap (exec (.regWrite 0 regWriteHdr loopEnds) loopedBesideRemap)).flash.jsnCeiling = some 0x100000 := by
  decide +kernel

/-- Refutes O3: its clause of REG_WRITE says that the flash stays as it was. In `loopedBesideRemap` the record ends the loop of port 31, which
goes to DOWN (R104): the remap waits for no echo any more and its command reports, whose outcome takes a JSN and, with it, a new ceiling in
the flash (R316, R317). -/
theorem not_imageRecordsAct : ¬ Obligations.ImageRecordsAct := by
  rintro ⟨hwrite, -⟩
  obtain ⟨u, hexec, -, -, -, hflash, -⟩ := hwrite 0 regWriteHdr loopEnds loopedBesideRemap (by decide +kernel) writable_loopEnds
  have hceiling := jsnCeiling_regWrite_loopEnds
  rw [hexec, taken, hflash] at hceiling
  exact absurd hceiling (by decide)

end Sys2Proof.Machine

/-! PROOFS. The rest of the start (R51, R63 to R65, R73, R77, R86, R87, R431): the engines' ready bits, a phase that fails or does not end,
and the role and the service that the release gives. -/

namespace Sys2Proof.Machine
open Sys2Proof Host

section
variable {s : State}

@[simp] theorem startStill_arrive (s : State) (t : Time) : startStill (s.arrive t) = startStill s := by simp [startStill]

@[simp] theorem coreAndShadow_arrive (s : State) (t : Time) (e : Nat) : coreAndShadow (s.arrive t) e = coreAndShadow s e := by
  simp [coreAndShadow, shadow, State.fld]

/-! ### A phase of the start fails (R73, R77, R87) -/

/-- Without another image to try, the failure halts the start (R77). -/
theorem imageFail_last (code : Nat) (h : s.start.second = none) : (imageFail code s).start.phase = .halted ∧
    (imageFail code s).start.failCode = code ∧ (imageFail code s).pins.ready = false ∧
    ∀ x ∈ (imageFail code s).msys.engines, x.2.running = false := by
  simp only [imageFail, h, halt]
  refine ⟨trivial, trivial, trivial, fun x hx => ?_⟩
  obtain ⟨y, -, rfl⟩ := List.mem_map.mp hx
  rfl

theorem refreshOne_engines (n : Nat) (s : State) : (refreshOne n s).msys.engines = s.msys.engines := by
  unfold refreshOne setIrq
  dsimp only
  (repeat' split) <;> rfl

theorem refreshCfg_engines (n : Nat) (s : State) : (refreshCfg n s).msys.engines = s.msys.engines := by
  unfold refreshCfg
  generalize cfgDeps n = l
  induction l generalizing s with
  | nil => rfl
  | cons b r ih => rw [List.foldl_cons, ih, refreshOne_engines]

@[simp] theorem refreshCfg_start (n : Nat) (s : State) : (refreshCfg n s).start = s.start := by rw [refreshCfg_eq]

/-- With another image to try, a failure behind P4 resets all but the Memory island and returns to P3 (R77). -/
theorem imageFail_next {b : Bool} (code : Nat) (h : s.start.second = some b) (h3 : s.start.phase ≠ .p3) (h4 : s.start.phase ≠ .p4) :
    (imageFail code s).start.phase = .p3 ∧ (imageFail code s).start.slot = b ∧ (imageFail code s).start.second = none ∧
    (imageFail code s).start.failCode = code ∧ (imageFail code s).msys.engines = [] := by
  simp only [imageFail, h, if_neg h3, refreshCfg_start, refreshCfg_engines, releaseIslands, fallReset]
  exact ⟨trivial, trivial, trivial, trivial, by rw [if_pos (by simpa using h4)]⟩

/-- The bound of P5 fails the image, with the record that polls noted (R73, R87). -/
theorem boundFail_p5 (h : s.start.phase = .p5) : ∃ v, boundFail s = imageFail 0x32 v ∧ v.start.second = s.start.second := by
  simp only [boundFail, h]
  split
  · exact ⟨_, rfl, rfl⟩
  · exact ⟨_, rfl, rfl⟩

/-! ### The role and the service (R63, R65, R86, R360) -/

@[simp] theorem occurs_pair (e : Nat) (s : State) : (occurs e s).pair = s.pair := by rw [occurs_eq]

@[simp] theorem occurs_start (e : Nat) (s : State) : (occurs e s).start = s.start := by rw [occurs_eq]

/-- A mirror record leaves the role alone: it takes the next MSEQ, and what waits for its answer is noted (R376). -/
theorem mirror_pair (b : Body) (a : Option Await) (s : State) :
    (mirror b a s).pair = { s.pair with mseqOut := (mirror b a s).pair.mseqOut, awaits := (mirror b a s).pair.awaits } := by
  unfold mirror emit emitAs State.out
  dsimp only
  (repeat' split) <;> rfl

theorem raiseEpoch_pair (e : Nat) (s : State) : (raiseEpoch e s).pair = { s.pair with
    epoch := (raiseEpoch e s).pair.epoch, mseqOut := (raiseEpoch e s).pair.mseqOut, awaits := (raiseEpoch e s).pair.awaits } := by
  unfold raiseEpoch
  dsimp only
  split
  · rw [mirror_pair]
  · rfl

theorem raiseEpoch_eq (e : Nat) (s : State) : raiseEpoch e s = { s with
    pair := (raiseEpoch e s).pair, sent := (raiseEpoch e s).sent,
    flash := { s.flash with epochCeiling := (raiseEpoch e s).flash.epochCeiling } } := by
  unfold raiseEpoch
  dsimp only
  split
  · rw [mirror_eq]
  · rfl

theorem goAbsent_start (s : State) : (goAbsent s).start = { s.start with linkDone := true } := by
  rw [goAbsent]
  dsimp only
  split
  · simp
  · rw [raiseEpoch_eq]
    simp

/-- Without a partner the chip is ACTIVE, or DETACHED where the partner's token line is low (R63, R360). -/
theorem goAbsent_pair (s : State) : (goAbsent s).pair.absent = true ∧ (goAbsent s).pair.partnerLow = s.pair.partnerLow ∧
    (goAbsent s).pair.state = if s.pair.partnerLow then .detached else .active := by
  rw [goAbsent]
  dsimp only
  split
  · simp
  · rw [raiseEpoch_pair]
    simp

theorem recover_unretained (h : s.start.retained = false) (bad : List Nat) : recover bad s = s := by rw [recover, if_pos (by simpa using h)]

theorem releaseRole_alone (h : pairMode s = false) : releaseRole s = raiseEpoch s.flash.epochCeiling { s with pair.state := .solo } := by
  rw [releaseRole, if_pos (by simpa using h)]

theorem serve_leads (h : s.leads = true) (hr : s.start.retained = false) :
    serve s = { serveActive (driveLine s) with pins.ready := true } := by
  have hr' : (serveActive (driveLine s)).start.retained = false := hr
  rw [serve, if_pos h]
  simp only [hr', Bool.false_eq_true, if_false]

theorem activationStart_none (h : s.upd.state ≠ .activated) : activationStart s = s := by rw [activationStart, if_pos h]

theorem startReports_clean (ha : s.start.errA = false) (hb : s.start.errB = false) :
    startReports s = { s with hlt.fallback := s.hlt.fallback || s.start.fallback } := by simp [startReports, ha, hb]

theorem foldl_bump_eq (c : Counter) (l : List Nat) (s : State) : l.foldl (fun s p => bump c p s) s =
    { s with regs := (l.foldl (fun s p => bump c p s) s).regs } := by
  induction l generalizing s with
  | nil => rfl
  | cons p r ih => rw [List.foldl_cons, ih, bump_eq]

theorem endP7_eq (s : State) : endP7 s = { s with start := (endP7 s).start } := by
  unfold endP7
  (repeat' split) <;> rfl

theorem endP7_alone (h : pairMode s = false) (hp : s.start.phase = .p7) : endP7 s = { s with start.linkDone := true } := by
  simp [endP7, h, hp]

theorem endP7_pair (h : pairMode s = true) (hp : s.start.phase = .p7) : endP7 s = { s with start.phase := .p8 } := by
  simp [endP7, h, hp]

end

/-- Settles O4: each clause from the lemma of what ends its phase; the release of a solo device takes its role, its line and its service one
after the other. -/
theorem startEnds : Obligations.StartEnds := by
  refine ⟨?ready, ?next, ?last, ?bound, ?linkup, ?absent, ?excluded, ?release⟩
  case ready =>
    intro t e s he hpoll hstill hfrozen hrun hphase hnot
    refine ⟨settle (engineReady e (s.arrive t)), ?_, ?_, (settle_eq _).trans ?_⟩
    · have hstay : p6Advance (engineReady e (s.arrive t)) = engineReady e (s.arrive t) := by rw [p6Advance, if_neg (fun h => hnot h.2)]
      have hrun' : ((s.arrive t).engine e).running = true := by simpa [State.engine] using hrun
      rw [exec_bootEngineReadyWrite, execBootEngineReadyWrite, decide_eq_true he, onInst_true, hpoll]
      simp [hstill, hfrozen, hrun', hstay]
    · rw [reg_settle, engineReady, reg_setReg_same, reg_arrive, coreAndShadow_arrive]
    · simp [engineReady, State.setReg]
  case next =>
    intro t b s hpoll hstill hphase hsecond
    obtain ⟨hp3, hslot, hnone, hcode, hengines⟩ := imageFail_next (s := s.arrive t) 0x40 (b := b) (by rw [arrive_start, hsecond])
      (by rw [arrive_start, hphase]; decide) (by rw [arrive_start, hphase]; decide)
    refine ⟨settle (imageFail 0x40 (s.arrive t)), ?_, by rw [settle_start, hp3], by rw [settle_start, hslot], by rw [settle_start, hnone],
      by rw [settle_start, hcode], by rw [settle_msys, hengines]⟩
    rw [exec_engineTimeout, execEngineTimeout, onInst_true, hpoll]
    simp [hstill, hphase]
  case last =>
    intro t s hpoll hstill hphase hsecond
    obtain ⟨hhalt, hcode, hready, hengines⟩ := imageFail_last (s := s.arrive t) 0x40 (by rw [arrive_start, hsecond])
    refine ⟨settle (imageFail 0x40 (s.arrive t)), ?_, by rw [settle_start, hhalt], by rw [settle_start, hcode], by rw [settle_pins, hready],
      by rw [settle_msys]; exact hengines⟩
    rw [exec_engineTimeout, execEngineTimeout, onInst_true, hpoll]
    simp [hstill, hphase]
  case bound =>
    intro t s hpoll hstill
    refine ⟨settle (boundFail (s.arrive t)), ?_, ?_⟩
    · rw [exec_phaseBoundExpire, execPhaseBoundExpire, onInst_true, hpoll]
      simp [hstill]
    rw [settle_start]
    refine ⟨fun h => ?_, fun h => ?_, fun h hsecond => ?_, fun h hw => ?_, fun h hsecond => ?_, fun h hsecond => ?_⟩
    · simp [boundFail, h, halt]
    · simp [boundFail, h, halt]
    · obtain ⟨hhalt, hcode, -⟩ := imageFail_last (s := s.arrive t) 0x16 (by rw [arrive_start, hsecond])
      rw [boundFail, arrive_start, h]
      exact ⟨hhalt, hcode⟩
    · simp [boundFail, h, hw, halt]
    · obtain ⟨v, hv, hs⟩ := boundFail_p5 (s := s.arrive t) (by rw [arrive_start, h])
      obtain ⟨hhalt, hcode, -⟩ := imageFail_last (s := v) 0x32 (by rw [hs, arrive_start, hsecond])
      rw [hv]
      exact ⟨hhalt, hcode⟩
    · obtain ⟨hhalt, hcode, -⟩ := imageFail_last (s := s.arrive t) 0x40 (by rw [arrive_start, hsecond])
      rw [boundFail, arrive_start, h]
      exact ⟨hhalt, hcode⟩
  case linkup =>
    intro t s hpoll hstill hphase hdone
    obtain ⟨v, hv⟩ : ∃ v, v = ((List.range 32).filter fun p => (s.arrive t).fldAt rFhPortCtrl p 0 1 == 1 &&
      ((s.arrive t).port p).state != .up).foldl (fun s p => bump cFhLinkupTimeout p s) (s.arrive t) := ⟨_, rfl⟩
    have hframe : v = { s.arrive t with regs := v.regs } := by rw [hv]; exact foldl_bump_eq _ _ _
    have hstart : v.start = s.start := by rw [hframe, arrive_start]
    have hmode : pairMode v = pairMode s := by rw [pairMode, pairMode, hstart]
    refine ⟨settle (endP7 v), ?_, fun h => ?_, fun h => ?_, (settle_eq _).trans ?_⟩
    · rw [exec_fhLinkupTimeout, execFhLinkupTimeout, onInst_true, hpoll, hv]
      simp [hstill, hphase, hdone]
    · rw [settle_start, endP7_alone (by rw [hmode, h]) (by rw [hstart, hphase])]
      exact ⟨rfl, by rw [hstart, hphase]⟩
    · rw [settle_start, endP7_pair (by rw [hmode, h]) (by rw [hstart, hphase])]
    · have hend : endP7 v = { v with start := (endP7 v).start } := endP7_eq v
      rw [hend, hframe]
      simp
  case absent =>
    intro t low s hphase hstate hdone
    refine ⟨settle (goAbsent { s.arrive t with pair.partnerLow := low }), ?_, ?_⟩
    · rw [exec_pairAbsent, execPairAbsent, onInst_true]
      simp [hphase, hstate, hdone]
    · obtain ⟨habsent, hlow, hrole⟩ := goAbsent_pair { s.arrive t with pair.partnerLow := low }
      rw [settle_start, settle_pair, goAbsent_start]
      refine ⟨rfl, habsent, hlow, fun h => ?_, fun h => ?_⟩ <;> rw [hrole] <;> simp [h]
  case excluded =>
    intro t low s hphase hstate hdone
    refine ⟨settle { s.arrive t with start.linkDone := true }, ?_, by rw [settle_start], (settle_eq _).trans (by simp)⟩
    rw [exec_pairAbsent, execPairAbsent, onInst_true]
    simp [hphase, hstate, hdone]
  case release =>
    intro t s hpoll hstill hrel hret hmode hupd ha hb
    obtain ⟨v, hv⟩ : ∃ v : State, v = { s.arrive t with
        start.phase := .p9
        start.reachedP9 := true
        before := none
        hlt.armed := true
        sch.released := (s.arrive t).clock.now
        pins.ethOn := true } := ⟨_, rfl⟩
    have hrole : releaseRole v = raiseEpoch v.flash.epochCeiling { v with pair.state := .solo } :=
      releaseRole_alone (by rw [hv]; simpa [pairMode] using hmode)
    have hframe := raiseEpoch_eq v.flash.epochCeiling { v with pair.state := .solo }
    have hpair := raiseEpoch_pair v.flash.epochCeiling { v with pair.state := .solo }
    rw [← hrole] at hframe hpair
    have hstate : (releaseRole v).pair.state = .solo := by rw [hpair]
    have hserve := serve_leads (leads_solo hstate) (by rw [hframe, hv]; simpa using hret)
    have hactivation : activationStart (serve (releaseRole v)) = serve (releaseRole v) :=
      activationStart_none (by rw [hserve, hframe, hv]; simpa [serveActive, driveLine, State.out] using hupd)
    have hreports := startReports_clean (s := serve (releaseRole v))
      (by rw [hserve, hframe, hv]; simpa [serveActive, driveLine, State.out] using ha)
      (by rw [hserve, hframe, hv]; simpa [serveActive, driveLine, State.out] using hb)
    refine ⟨settle (startReports (serve (releaseRole v))), ?_, ?_⟩
    · have hrel' : releasable (s.arrive t) = true := by simpa [releasable] using hrel
      rw [exec_release, execRelease, onInst_true, hpoll]
      simp only [startStill_arrive, hstill, hrel', recover_unretained (s := s.arrive t) (by simpa using hret), ← hv, hactivation]
      simp
    · rw [hreports, hserve, hframe]
      rw [serveActive, driveLine, State.out]
      refine ⟨?_, ?_, ?_, ?_, ?_, ?_, ?_, ?_, ?_, ?_, ?_⟩
      case refine_5 => simpa using hstate
      all_goals simp [State.holdsToken, hv]

end Sys2Proof.Machine

/-! PROOFS. The fronthaul ports (03_fronthaul.md): a port is read back as it was written; and what the channeliser moves of a state when the
streams of a head become valid or invalid (R105, R140 to R144). -/

namespace Sys2Proof.Machine
open Sys2Proof Host

/-! ### A port -/

@[simp] theorem port_setPort_same (s : State) (p : Nat) (q : FhPort) : (s.setPort p q).port p = q := by
  rw [State.port, State.setPort, afind_aput_same, Option.getD_some]

theorem port_setPort_other (s : State) (q : FhPort) {p j : Nat} (h : j ≠ p) : (s.setPort p q).port j = s.port j := by
  rw [State.port, State.port, State.setPort, afind_aput_other _ _ h]

@[simp] theorem port_modPort_same (s : State) (p : Nat) (f : FhPort → FhPort) : (s.modPort p f).port p = f (s.port p) :=
  port_setPort_same _ _ _

theorem port_modPort_other (s : State) (f : FhPort → FhPort) {p j : Nat} (h : j ≠ p) : (s.modPort p f).port j = s.port j :=
  port_setPort_other _ _ h

theorem modPort_eq (s : State) (p : Nat) (f : FhPort → FhPort) : s.modPort p f = { s with fh := (s.modPort p f).fh } := rfl

theorem port_of_fh {s u : State} (h : u.fh = s.fh) (p : Nat) : u.port p = s.port p := by rw [State.port, State.port, h]

@[simp] theorem port_arrive (s : State) (t : Time) (p : Nat) : (s.arrive t).port p = s.port p := port_of_fh (arrive_fh s t) p

@[simp] theorem port_settle (s : State) (p : Nat) : (settle s).port p = s.port p := port_of_fh (settle_fh s) p

@[simp] theorem port_bump (c : Counter) (i : Nat) (s : State) (p : Nat) : (bump c i s).port p = s.port p := port_of_fh (bump_fh c i s) p

@[simp] theorem fldAt_arrive (s : State) (t : Time) (a i lo w : Nat) : (s.arrive t).fldAt a i lo w = s.fldAt a i lo w := by
  rw [State.fldAt, State.fldAt, State.fld, State.fld, reg_arrive]

@[simp] theorem sampleUp_arrive (s : State) (t : Time) : (s.arrive t).sampleUp = s.sampleUp := by
  simp [State.sampleUp, State.islandUp]

@[simp] theorem portRuns_arrive (s : State) (t : Time) (p : Nat) : (s.arrive t).portRuns p = s.portRuns p := by simp [State.portRuns]

@[simp] theorem clamp_arrive (s : State) (t : Time) (n : Nat) : (s.arrive t).clamp n = s.clamp n := by simp [State.clamp]

/-- A command that names a port which exists answers the state that it settles. -/
theorem onInst_of {c : Prop} [Decidable c] (h : c) (u : State) : onInst (decide c) u = .next (settle u) := by
  rw [decide_eq_true h, onInst_true]

/-! ### The channeliser follows the validity of a head's streams (R105, R140 to R144) -/

theorem setUnit_foldl_eq (f : Nat × Nat → UnitUse) (l : List (Nat × Nat)) (s : State) :
    l.foldl (fun s x => s.setUnit x.2 (f x)) s = { s with chn.units := (l.foldl (fun s x => s.setUnit x.2 (f x)) s).chn.units } := by
  induction l generalizing s with
  | nil => rfl
  | cons x r ih => rw [List.foldl_cons, ih, State.setUnit]

theorem claimUnits_eq {c : GenChange} {s u : State} (h : claimUnits c s = some u) :
    u = { s with chn.units := u.chn.units, chn.changes := u.chn.changes } := by
  unfold claimUnits at h
  dsimp only at h
  split at h
  · rw [← Option.some.inj h, setUnit_foldl_eq]
  · cases h

theorem chnServeList_eq (l : List GenChange) (s : State) : chnServeList s l =
    { s with chn.units := (chnServeList s l).chn.units, chn.changes := (chnServeList s l).chn.changes } := by
  induction l generalizing s with
  | nil => rfl
  | cons c r ih =>
    unfold chnServeList
    split
    · exact ih s
    · split
      · next u hu => rw [ih u, claimUnits_eq hu]
      · rfl

/-- To serve the waiting changes moves units and the changes themselves (R140, R141). -/
theorem chnServe_eq (s : State) : chnServe s =
    { s with chn.units := (chnServe s).chn.units, chn.changes := (chnServe s).chn.changes } := by
  rw [chnServe, chnServeList_eq, retireIdle]

theorem spanCounted_eq (c : Prop) [Decidable c] (st : Nat) (s : State) :
    (if c then bump cChnInvalidSpan st s else s) = { s with regs := (if c then bump cChnInvalidSpan st s else s).regs } := by
  split
  · exact bump_eq _ _ _
  · rfl

/-- A stream that becomes invalid counts its span and may free units (R105, R143, R144). -/
theorem streamGone_eq (st : Nat) (s : State) : streamGone st s = { s with regs := (streamGone st s).regs, chn := (streamGone st s).chn } := by
  unfold streamGone
  dsimp only
  split
  · split
    · split
      · rw [chnServe_eq, spanCounted_eq]
      · rw [spanCounted_eq]
    · rw [spanCounted_eq]
  · rfl

theorem takeUnit_eq (x : UnitUse) (s : State) : takeUnit x s = { s with chn := (takeUnit x s).chn } := by
  unfold takeUnit
  split <;> rfl

theorem unitTaken_eq (c : Prop) [Decidable c] (x : UnitUse) (s : State) :
    (if c then s else takeUnit x s) = { s with chn := (if c then s else takeUnit x s).chn } := by
  split
  · rfl
  · exact takeUnit_eq _ _

/-- A stream that becomes valid takes the units it lacks (R105, R139, R140). -/
theorem streamBack_eq (st : Nat) (s : State) : streamBack st s = { s with chn := (streamBack st s).chn } := by
  unfold streamBack
  dsimp only
  split
  · rfl
  · split
    · split
      · rw [unitTaken_eq]
      · rw [takeUnit_eq, unitTaken_eq]
    · rw [unitTaken_eq]

theorem refreshStreams_eq (h : Nat) (s : State) :
    refreshStreams h s = { s with regs := (refreshStreams h s).regs, chn := (refreshStreams h s).chn } := by
  unfold refreshStreams
  generalize headStreams s h = l
  induction l generalizing s with
  | nil => rfl
  | cons st r ih =>
    rw [List.foldl_cons, ih]
    split
    · rw [streamBack_eq]
    · rw [streamGone_eq]

theorem calAbandon_eq (h : Nat) (s : State) : calAbandon h s = { s with chn := (calAbandon h s).chn, cal := (calAbandon h s).cal } := by
  unfold calAbandon
  dsimp only
  split
  · rfl
  · rw [chnServe_eq]
    rfl

theorem streamGone_dl (st : Nat) (s : State) : (streamGone st s).dl = s.dl := by rw [streamGone_eq]

theorem reg_chnServe (s : State) (a : Nat) : (chnServe s).reg a = s.reg a := by
  rw [chnServe_eq]
  rfl

/-- A stream that becomes invalid counts in its own counter only (R143). -/
theorem reg_streamGone {st a : Nat} (h : a ≠ cChnInvalidSpan.addr st) (s : State) : (streamGone st s).reg a = s.reg a := by
  have hspan (c : Prop) [Decidable c] (v : State) : (if c then bump cChnInvalidSpan st v else v).reg a = v.reg a := by
    split
    · exact reg_bump_other _ _ _ h
    · rfl
  unfold streamGone
  dsimp only
  split
  · split
    · split
      · rw [reg_chnServe]
        exact hspan _ _
      · exact hspan _ _
    · exact hspan _ _
  · rfl

theorem reg_refreshStreams {a : Nat} (ha : ∀ st < 128, a ≠ cChnInvalidSpan.addr st) (h : Nat) (s : State) :
    (refreshStreams h s).reg a = s.reg a := by
  have hl : ∀ st ∈ headStreams s h, a ≠ cChnInvalidSpan.addr st := fun st hst =>
    ha st (List.mem_range.mp (List.mem_filter.mp hst).1)
  unfold refreshStreams
  generalize headStreams s h = l at hl
  induction l generalizing s with
  | nil => rfl
  | cons st r ih =>
    rw [List.foldl_cons, ih _ fun x hx => hl x (List.mem_cons_of_mem _ hx)]
    split
    · rw [streamBack_eq]
      rfl
    · exact reg_streamGone (hl st List.mem_cons_self) s

theorem valid_chnServe (s : State) : (chnServe s).chn.valid = s.chn.valid := by rw [chnServe_eq]

theorem not_mem_valid_streamGone (st : Nat) (s : State) : st ∉ (streamGone st s).chn.valid := by
  unfold streamGone
  dsimp only
  split
  · have hgone : st ∉ s.chn.valid.filter (· ≠ st) := by simp
    split
    · split
      · rw [valid_chnServe, spanCounted_eq]
        exact hgone
      · rw [spanCounted_eq]
        exact hgone
    · rw [spanCounted_eq]
      exact hgone
  · next h => simpa using h

end Sys2Proof.Machine

/-! PROOFS. What leaves the fronthaul ports and the vault alone: the acknowledgements and bookings of a port that leaves UP (R256), the end of
a command of the downlink (R316, R317), and with them every change of FH_POOL (R106). -/

namespace Sys2Proof.Machine
open Sys2Proof Host

/-! ### The ports and the vault as a part of the state -/

/-- The fronthaul ports and the vault. -/
structure PortsAndVault where
  fh  : List (Nat × FhPort)
  key : Vault

/-- What of a state is `PortsAndVault`. -/
def State.portsAndVault (s : State) : PortsAndVault := ⟨s.fh, s.key⟩

@[simp] theorem portsAndVault_mk regs' halves' latches' tables' mem' cfgErr' start' pins' clock' hlt' evr' fh' pool' chn' det' lane' txm' cal' timer' sch' key' flash' jrn' dl' fry' fwd' pair' upd' camps' prog' msys' before' straits' sent' free' pending' :
    (State.mk regs' halves' latches' tables' mem' cfgErr' start' pins' clock' hlt' evr' fh' pool' chn' det' lane' txm' cal' timer' sch' key' flash' jrn' dl' fry' fwd' pair' upd' camps' prog' msys' before' straits' sent' free' pending').portsAndVault =
      ⟨fh', key'⟩ := by
  rw [State.portsAndVault]

@[simp] theorem portsAndVault_eta (s : State) : (⟨s.fh, s.key⟩ : PortsAndVault) = s.portsAndVault := by rw [State.portsAndVault]

@[simp] theorem portsAndVault_ite (c : Prop) [Decidable c] (a b : State) :
    (if c then a else b).portsAndVault = if c then a.portsAndVault else b.portsAndVault := apply_ite _ _ _ _

theorem portsAndVault_foldl {α : Type} (f : State → α → State) (h : ∀ s x, (f s x).portsAndVault = s.portsAndVault) (l : List α) (s : State) :
    (l.foldl f s).portsAndVault = s.portsAndVault := by
  induction l generalizing s with
  | nil => rfl
  | cons a r ih => rw [List.foldl_cons, ih, h]

@[simp] theorem bumpBy_portsAndVault (c : Counter) (i n : Nat) (s : State) : (bumpBy c i n s).portsAndVault = s.portsAndVault := by
  simp [bumpBy, State.setReg]

@[simp] theorem bump_portsAndVault (c : Counter) (i : Nat) (s : State) : (bump c i s).portsAndVault = s.portsAndVault := by simp [bump]

@[simp] theorem out_portsAndVault (s : State) (o : Output) : (s.out o).portsAndVault = s.portsAndVault := by simp [State.out]

@[simp] theorem modDl_portsAndVault (d : Nat) (f : DlRec → DlRec) (s : State) : (modDl d f s).portsAndVault = s.portsAndVault := by
  simp [modDl]

@[simp] theorem mirror_portsAndVault (b : Body) (a : Option Await) (s : State) : (mirror b a s).portsAndVault = s.portsAndVault := by
  rw [mirror_eq, portsAndVault_mk, portsAndVault_eta]

@[simp] theorem refreshStreams_portsAndVault (h : Nat) (s : State) : (refreshStreams h s).portsAndVault = s.portsAndVault := by
  rw [refreshStreams_eq, portsAndVault_mk, portsAndVault_eta]

@[simp] theorem streamGone_portsAndVault (st : Nat) (s : State) : (streamGone st s).portsAndVault = s.portsAndVault := by
  rw [streamGone_eq, portsAndVault_mk, portsAndVault_eta]

@[simp] theorem calAbandon_portsAndVault (h : Nat) (s : State) : (calAbandon h s).portsAndVault = s.portsAndVault := by
  rw [calAbandon_eq, portsAndVault_mk, portsAndVault_eta]

@[simp] theorem refreshCfg_portsAndVault (n : Nat) (s : State) : (refreshCfg n s).portsAndVault = s.portsAndVault := by
  rw [refreshCfg_eq, portsAndVault_mk, portsAndVault_eta]

@[simp] theorem freeClampOf_portsAndVault (act n : Nat) (s : State) : (freeClampOf act n s).portsAndVault = s.portsAndVault := by
  rw [freeClampOf_eq, portsAndVault_mk, portsAndVault_eta]

/-! ### A port that leaves UP (R186, R189, R210, R256) -/

@[simp] theorem refund_portsAndVault (b : Booking) (s : State) : (refund b s).portsAndVault = s.portsAndVault := by
  unfold refund
  exact portsAndVault_foldl _ (fun _ _ => by simp [accountSub]) _ _

@[simp] theorem charge_portsAndVault (c h : Nat) (a : Time) (n : Nat) (camp : Bool) (s : State) :
    (charge c h a n camp s).portsAndVault = s.portsAndVault := by
  unfold charge
  exact portsAndVault_foldl _ (fun _ _ => by simp [accountAdd]) _ _

@[simp] theorem unbook_portsAndVault (id : Nat) (s : State) : (unbook id s).portsAndVault = s.portsAndVault := by
  unfold unbook
  split <;> simp

theorem admitTx_portsAndVault {q : TxReq} {o : Option Nat} {s u : State} (h : admitTx q s = (o, u)) :
    u.portsAndVault = s.portsAndVault := by
  unfold admitTx at h
  split at h <;> obtain ⟨-, rfl⟩ := Prod.mk.inj h
  · next r _ => cases r <;> simp [countRefusal]
  · unfold bookNow
    dsimp only
    split <;> simp

@[simp] theorem ackClip_portsAndVault (sm : Summary) (start : Time) (s : State) : (ackClip sm start s).portsAndVault = s.portsAndVault := by
  unfold ackClip toResync queueNotice
  dsimp only
  (repeat' split) <;> simp

theorem bookAckAt_portsAndVault {g : Nat} {sm : Summary} {m : Nat × Time × Int} {o : Option AckTmpl} {s u : State}
    (h : bookAckAt g sm m s = (o, u)) : u.portsAndVault = s.portsAndVault := by
  unfold bookAckAt at h
  dsimp only at h
  repeat' split at h
  all_goals obtain ⟨-, rfl⟩ := Prod.mk.inj h
  · rfl
  · rfl
  · next hadmit => exact admitTx_portsAndVault hadmit
  · next hadmit => simp [admitTx_portsAndVault hadmit]

theorem bookAckAmong_portsAndVault {g : Nat} {sm : Summary} {l : List (Nat × Time × Int)} {o : Option AckTmpl} {s u : State}
    (h : bookAckAmong g sm s l = (o, u)) : u.portsAndVault = s.portsAndVault := by
  induction l generalizing s with
  | nil =>
    obtain ⟨-, rfl⟩ := Prod.mk.inj h
    simp
  | cons m r ih =>
    rw [bookAckAmong] at h
    split at h
    · next hat =>
      obtain ⟨-, rfl⟩ := Prod.mk.inj h
      simp [bookAckAt_portsAndVault hat]
    · next hat => rw [ih h, bookAckAt_portsAndVault hat]

@[simp] theorem dropAck_portsAndVault (g : Nat) (s : State) : (dropAck g s).portsAndVault = s.portsAndVault := by
  unfold dropAck
  split <;> simp

@[simp] theorem groupSettle_portsAndVault (g : Nat) (s : State) : (groupSettle g s).portsAndVault = s.portsAndVault := by
  unfold groupSettle
  (repeat' split) <;> simp

@[simp] theorem newcomerGone_portsAndVault (g : Nat) (s : State) : (newcomerGone g s).portsAndVault = s.portsAndVault := by
  unfold newcomerGone giveToken setBudget
  dsimp only
  (repeat' split) <;> simp

@[simp] theorem voidEntry_portsAndVault (j : Nat) (s : State) : (voidEntry j s).portsAndVault = s.portsAndVault := by
  unfold voidEntry modEntry
  dsimp only
  (repeat' split) <;> simp

@[simp] theorem mirrorBook_portsAndVault (g : Nat) (a : AckTmpl) (s : State) : (mirrorBook g a s).portsAndVault = s.portsAndVault := by
  unfold mirrorBook
  split <;> simp

@[simp] theorem rebookAck_portsAndVault (g : Nat) (s : State) : (rebookAck g s).portsAndVault = s.portsAndVault := by
  unfold rebookAck
  dsimp only
  split
  · split
    · split
      · rfl
      · split
        · next hamong => simp [bookAckAmong_portsAndVault hamong]
        · next hamong =>
          rw [portsAndVault_foldl _ fun _ _ => voidEntry_portsAndVault _ _]
          simp [bookAckAmong_portsAndVault hamong]
    · rfl
  · rfl

@[simp] theorem deferTx_portsAndVault (b : Booking) (s : State) : (deferTx b s).portsAndVault = s.portsAndVault := by
  unfold deferTx cancelTx backToWait deferItem
  dsimp only
  (repeat' split) <;> simp

@[simp] theorem portLeftUp_portsAndVault (h : Nat) (s : State) : (portLeftUp h s).portsAndVault = s.portsAndVault := by
  unfold portLeftUp
  dsimp only
  rw [portsAndVault_foldl _ fun _ _ => deferTx_portsAndVault _ _, portsAndVault_foldl _ fun _ _ => rebookAck_portsAndVault _ _,
    refreshStreams_portsAndVault]

/-! ### A command of the downlink that ends (R316, R317) -/

@[simp] theorem outcomeEntry_portsAndVault (r : DlRec) (o c : Nat) (s : State) : (outcomeEntry r o c s).portsAndVault = s.portsAndVault := by
  simp [outcomeEntry, takeJsn]

@[simp] theorem reportFlow_portsAndVault (it : DlItem) (s : State) : (reportFlow it s).portsAndVault = s.portsAndVault := by
  unfold reportFlow
  refine portsAndVault_foldl _ (fun s r => ?_) _ _
  unfold reportItem
  split <;> simp

@[simp] theorem endItem_portsAndVault (d : Nat) (e : Ending) (s : State) : (endItem d e s).portsAndVault = s.portsAndVault := by
  unfold endItem
  dsimp only
  (repeat' split) <;> simp

@[simp] theorem ferryPacket_portsAndVault (ty flags : Nat) (body : Octets) (s : State) :
    (ferryPacket ty flags body s).portsAndVault = s.portsAndVault := by
  unfold ferryPacket
  dsimp only
  (repeat' split) <;> simp

@[simp] theorem dlAdvance_portsAndVault (d : Nat) (s : State) : (dlAdvance d s).portsAndVault = s.portsAndVault := by
  unfold dlAdvance
  dsimp only
  (repeat' split) <;> simp

@[simp] theorem hit_portsAndVault (e : Eui) (s : State) : (hit e s).portsAndVault = s.portsAndVault := by
  unfold hit State.modNode
  split <;> simp

@[simp] theorem ownFlood_portsAndVault (d : Option Nat) (pan : BitVec 16) (ttl len : Nat) (s : State) :
    (ownFlood d pan ttl len s).portsAndVault = s.portsAndVault := by
  unfold ownFlood takeFloodId takeSequence seenInsert queueFlood
  dsimp only
  (repeat' split) <;> simp

@[simp] theorem dlCommitted_portsAndVault (d : Nat) (s : State) : (dlCommitted d s).portsAndVault = s.portsAndVault := by
  unfold dlCommitted
  dsimp only
  (repeat' split) <;> simp

@[simp] theorem dlAccept_portsAndVault (it : DlItem) (s : State) : (dlAccept it s).portsAndVault = s.portsAndVault := by
  unfold dlAccept
  dsimp only
  (repeat' split) <;> simp

@[simp] theorem dlDrain_portsAndVault (n : Nat) (s : State) : (dlDrain n s).portsAndVault = s.portsAndVault := by
  induction n generalizing s with
  | zero => rw [dlDrain]
  | succ n ih =>
    unfold dlDrain
    (repeat' split) <;> simp [ih]

@[simp] theorem finish_portsAndVault (d : Nat) (e : Ending) (s : State) : (finish d e s).portsAndVault = s.portsAndVault := by
  unfold finish dlTaken
  dsimp only
  split <;> simp

/-! ### Changes of FH_POOL (R106) -/

@[simp] theorem setEntry_portsAndVault (s : State) (id i v : Nat) : (s.setEntry id i v).portsAndVault = s.portsAndVault := by
  simp [State.setEntry]

@[simp] theorem poolEnd_portsAndVault (r : Remap) (s : State) : (poolEnd r s).portsAndVault = s.portsAndVault := by
  have hcount : (((entryPort r.entry.toNat).map fun p =>
      bumpBy cFhRemapDiscard p ((s.clock.now - r.since) * 4 / 3125) s).getD s).portsAndVault = s.portsAndVault := by
    cases entryPort r.entry.toNat <;> simp
  unfold poolEnd
  dsimp only
  split <;> simp [hcount]

@[simp] theorem poolGo_portsAndVault (l : List Remap) (s : State) : (poolGo l s).portsAndVault = s.portsAndVault := by
  induction l generalizing s with
  | nil => simp [poolGo]
  | cons r rest ih =>
    unfold poolGo poolBegin
    dsimp only
    split <;> simp [ih]

@[simp] theorem poolUnwait_portsAndVault (p : Nat) (s : State) : (poolUnwait p s).portsAndVault = s.portsAndVault := by
  unfold poolUnwait
  dsimp only
  (repeat' split) <;> simp

/-- The exit of a port moves no port and nothing of the vault beyond the change that takes it out of UP. -/
theorem fhExit_portsAndVault (p : Nat) (f : State → State) (s : State) : (fhExit p f s).portsAndVault = (f s).portsAndVault := by
  unfold fhExit
  split <;> simp

end Sys2Proof.Machine

/-! PROOFS. A fronthaul port that gives up RECOVER while a change of FH_POOL waits for its echo (R103, R106). -/

namespace Sys2Proof.Machine
open Sys2Proof Host

/-- The command POOL_ENTRY that gives stream 0 to slot 0 of port 0, of DSN 1. -/
def remapToPort : DlItem := { poolEntryItem with payload := [0, 5, 0, 0, 0, 0, 0, 0, 0x80, 0, 0, 0] }

/-- A solo device in service. Port 0 left UP a second ago, when the remap of stream 0 that `remapToPort` asks for had begun: it still
waits for the port's echo. -/
def recoveringBesideRemap : State :=
  { State.reset with
    start := { State.reset.start with
      phase := .p9
      porstLow := false
      pinLow := false
      islands := 0xFF
      image := some validImage
      confirmed := true }
    clock := { State.reset.clock with now := sec 1 }
    fh := [(0, { state := .recover })]
    regs := [(rFhPortCtrl, 1)]
    pool := [⟨0, 0x80000000, 1, 0, true, [⟨0, 0, 0, false⟩]⟩]
    pair := { State.reset.pair with state := .solo }
    dl := { sync := false, nextDsn := 1, recs := [{ item := remapToPort, since := 0, state := .carrying }] } }

theorem count_fhRecoverTimeout_remap :
    (taken recoveringBesideRemap (exec (.fhRecoverTimeout 0 0) recoveringBesideRemap)).count cFhRemapDiscard 0 = 20480000 := by
  decide +kernel

/-- Refutes O6: its clause of FH_RECOVER_TIMEOUT says that no register changes. In `recoveringBesideRemap` the port goes to DOWN and its echo
is waited for no longer: the change of FH_POOL ends, and FH_REMAP_DISCARD counts the samples of its slot since it began (R103, R106). -/
theorem not_fronthaulLine : ¬ Obligations.FronthaulLine := by
  rintro ⟨-, -, -, -, -, -, -, -, -, hrecover, -⟩
  obtain ⟨u, hexec, -, -, -, hregs⟩ := hrecover 0 0 recoveringBesideRemap (by decide) rfl (by decide)
  have hcount := count_fhRecoverTimeout_remap
  rw [hexec, taken, count_of_regs hregs] at hcount
  exact absurd hcount (by decide +kernel)

end Sys2Proof.Machine

/-! PROOFS. What a fronthaul port receives, sends and mails (R89 to R107), its loopback and that of an analogue port (R114), and the beginning
of a change of FH_POOL (R106). -/

namespace Sys2Proof.Machine
open Sys2Proof Host

/-! ### Superframes (R96, R99, R100) -/

theorem fhCheck_port (p : Nat) (s : State) :
    ∃ e d, (fhCheck p s).2.port p = { s.port p with counts := [], expected := e, derive := d } :=
  ⟨_, _, by
    simp only [fhCheck, port_modPort_same]
    rw [port_of_fh (bumpBy_fh _ _ _ _)]⟩

theorem fhCheck_port_other {p q : Nat} (h : q ≠ p) (s : State) : (fhCheck p s).2.port q = s.port q := by
  simp only [fhCheck, port_modPort_other _ _ h]
  exact port_of_fh (bumpBy_fh _ _ _ _) _

theorem fhCheck_eq (p : Nat) (s : State) : (fhCheck p s).2 = { s with regs := (fhCheck p s).2.regs, fh := (fhCheck p s).2.fh } := by
  simp [fhCheck, State.modPort, State.setPort]

section
variable {p : Nat} {rx : Time} {s : State} (h : (s.port p).state = .time)
include h

/-- In TIME a measurement adds to the round trips and moves nothing else (R100). -/
theorem fhMeasure_time : fhMeasure p rx s = s ∨ ∃ l m, fhMeasure p rx s =
    (s.modPort p fun q => { q with rtts := l }).modPort p fun q => { q with rtt := m } := by
  unfold fhMeasure
  dsimp only
  rw [h]
  split
  · exact .inl rfl
  · exact .inr ⟨_, _, rfl⟩

theorem fhMeasure_time_port : ∃ l m, (fhMeasure p rx s).port p = { s.port p with rtts := l, rtt := m } := by
  obtain hm | ⟨l, m, hm⟩ := fhMeasure_time (rx := rx) h
  · exact ⟨_, _, by rw [hm]⟩
  · exact ⟨l, m, by rw [hm, port_modPort_same, port_modPort_same]⟩

theorem fhMeasure_time_port_other {q : Nat} (hq : q ≠ p) : (fhMeasure p rx s).port q = s.port q := by
  obtain hm | ⟨l, m, hm⟩ := fhMeasure_time (rx := rx) h
  · rw [hm]
  · rw [hm, port_modPort_other _ _ hq, port_modPort_other _ _ hq]

theorem fhMeasure_time_eq : fhMeasure p rx s = { s with fh := (fhMeasure p rx s).fh } := by
  obtain hm | ⟨l, m, hm⟩ := fhMeasure_time (rx := rx) h
  · rw [hm]
  · rw [hm]
    rfl

end

/-- MAP begins with a HEAD_READ of HEAD_CAPS (R103, R108). -/
theorem fhBeginMap_port (p : Nat) (s : State) : ((fhBeginMap p s).port p).state = .map ∧
    ((fhBeginMap p s).port p).rxLag = (s.port p).rxLag ∧ ((fhBeginMap p s).port p).counts = (s.port p).counts ∧
    (((fhBeginMap p s).port p).mbx.map fun c => (c.op, c.address)) = some (2, 1) := by
  simp [fhBeginMap, fhMail, fhTo]

theorem fhBeginMap_port_other {p q : Nat} (h : q ≠ p) (s : State) : (fhBeginMap p s).port q = s.port q := by
  rw [fhBeginMap, fhMail, fhTo, port_modPort_other _ _ h, port_modPort_other _ _ h, port_modPort_other _ _ h]

theorem fhBeginMap_eq (p : Nat) (s : State) : fhBeginMap p s = { s with fh := (fhBeginMap p s).fh } := rfl

theorem execFhSuperframeRx_loaded {p : Nat} {t rx : Time} {arrivals : List Time} {s : State} (hp : p < 32) (hruns : s.portRuns p = true)
    (hlock : (s.port p).frameLock = true) (hstate : (s.port p).state = .time) (hmode : (s.port p).timeMode = .loaded)
    (hseen : (s.port p).timeSeen = true) (hok : headTimeOk (s.arrive t) p rx = true) :
    execFhSuperframeRx t p rx arrivals s = .next (settle (fhBeginMap p (fhMeasure p rx
      (fhCheck p ((s.arrive t).modPort p fun q => { q with rxLag := rxLagOf q arrivals })).2))) := by
  rw [execFhSuperframeRx, onInst_of hp]
  simp [hruns, hlock, hstate, hmode, hseen, hok]

/-! ### Downstream frames (R89, R92, R94, R106) -/

theorem poolSent_eq (p n sf : Nat) (s : State) : poolSent p n sf s = { s with pool := (poolSent p n sf s).pool } := by
  unfold poolSent
  split <;> rfl

theorem fhSend_eq (p : Nat) (blocks : List Block) (s : State) : fhSend p blocks s = { s with sent := (fhSend p blocks s).sent } := by
  unfold fhSend State.out
  split <;> rfl

theorem fhSend_sent_length (p : Nat) (blocks : List Block) (s : State) : (fhSend p blocks s).sent.length = s.sent.length + 1 := by
  unfold fhSend State.out
  split <;> rfl

/-- A frame of a port in use leaves: the port stands at the next FRAME_NO with the GRANT that was sent (R89, R94). -/
theorem execFhFrameTx_runs {p : Nat} (groups : List (List Word)) (t : Time) {s : State} (hp : p < 32) (hruns : s.portRuns p = true)
    (hdown : (s.port p).state ≠ .down) (hfault : (s.port p).state ≠ .fault) (hfrozen : s.hlt.frozen = false) :
    ∃ (blocks : List Block) (v : State) (q : FhPort), execFhFrameTx t p groups s =
        .next (settle (fhSend p blocks (poolSent p (s.port p).frameNo (s.port p).superframe.toNat (v.setPort p q)))) ∧
      q.frameNo = ((s.port p).frameNo + 1) % 16 ∧
      q.grantSent = ((s.port p).state == .up && (s.arrive t).grants && (s.port p).epochSent == some s.pair.epoch) ∧
      (∀ j, j ≠ p → v.port j = s.port j) ∧ v = { s.arrive t with fh := v.fh } := by
  rw [execFhFrameTx, onInst_of hp]
  simp only [port_arrive, arrive_hlt, portRuns_arrive, arrive_pair, hruns, hfrozen, beq_false_of_ne hdown, beq_false_of_ne hfault,
    Bool.false_and, Bool.not_true, Bool.or_self, Bool.false_eq_true, if_false]
  refine ⟨_, _, _, rfl, rfl, rfl, fun j hj => ?_, ?_⟩
  · split
    · rw [port_modPort_other _ _ hj, port_arrive]
    · exact port_arrive _ _ _
  · rw [← arrive_hlt s t, ← arrive_pair s t]
    split <;> rfl

/-! ### Faults, loopback and DOWN (R103, R114) -/

theorem fhExit_of_not_up {p : Nat} {s : State} (f : State → State) (h : (s.port p).state ≠ .up) : fhExit p f s = f s := by
  rw [fhExit, if_neg (by simpa using h)]

theorem port_fhExit (p : Nat) (f : State → State) (s : State) (j : Nat) : (fhExit p f s).port j = (f s).port j :=
  port_of_fh (congrArg PortsAndVault.fh (fhExit_portsAndVault p f s)) j

theorem fhFault_not_up {p : Nat} {s : State} (cause : Nat) (h : (s.port p).state ≠ .up) : fhFault p cause s = s.modPort p fun q =>
    { q with state := .fault, since := s.clock.now, cause := cause, mbx := none, mbxOut := [], mbxIn := [] } := by
  rw [fhFault, fhExit_of_not_up _ h]

/-- What goes on when a port is DOWN, the end of its echo's wait above all, leaves every port as it is. -/
theorem port_afterDown (p j : Nat) (s : State) : (poolUnwait p (freeClampOf 3 p (calAbandon p s))).port j = s.port j :=
  port_of_fh (congrArg PortsAndVault.fh (by simp : (poolUnwait p (freeClampOf 3 p (calAbandon p s))).portsAndVault = s.portsAndVault)) j

theorem fhDown_state (p : Nat) (s : State) : ((fhDown p s).port p).state = .down := by
  rw [fhDown, port_afterDown, port_fhExit, port_modPort_same]

theorem fhDown_port_other {p j : Nat} (h : j ≠ p) (s : State) : (fhDown p s).port j = s.port j := by
  rw [fhDown, port_afterDown, port_fhExit, port_modPort_other _ _ h]

theorem fhLoop_ends {p : Nat} {s : State} (hup : s.sampleUp = true) (hloop : (s.port p).state = .loop) :
    fhLoop p 0 s = fhDown p (s.setFldAt rFhPortCtrl p 1 2 0) := by
  simp [fhLoop, hup, hloop]

theorem fhLoop_taken {p : Nat} {loop : BitVec 2} {s : State} (hup : s.sampleUp = true) (hloop : loop ≠ 0) (hclamp : (s.clamp p).holder = 1)
    (hon : s.fldAt rFhPortCtrl p 0 1 = 1) : fhLoop p loop s =
      fhExit p (fun v => fhTo p .loop (v.modPort p fun q => { q with samplesOk := false })) (s.setFldAt rFhPortCtrl p 1 2 loop.toNat) := by
  rw [fhLoop, if_neg (by simp [hup]), if_neg hloop, if_pos hclamp]
  dsimp only
  rw [if_neg (by simp [hon])]

theorem fhLoop_refused {p : Nat} {loop : BitVec 2} {s : State} (hup : s.sampleUp = true) (hloop : loop ≠ 0)
    (hclamp : (s.clamp p).holder ≠ 1) : fhLoop p loop s = bump cFhLoopRefuse p s := by
  rw [fhLoop, if_neg (by simp [hup]), if_neg hloop, if_neg hclamp]

/-! ### The mailbox (R103, R107) -/

theorem count_modPort (s : State) (p : Nat) (f : FhPort → FhPort) (c : Counter) (i : Nat) : (s.modPort p f).count c i = s.count c i :=
  count_of_regs rfl c i

/-- The command `c` is sent again, with the words and the fraction `l` (R103). -/
def mbxAgain (p : Nat) (c : MbxCmd) (l : List Word × Nat) (s : State) : State := s.modPort p fun q =>
  { q with mbx := some { c with timeouts := c.timeouts + 1, words := l.1, sentAt := none },
           mbxOut := mbxHeader c.op c.seq c.address :: l.1, fraction := l.2 }

theorem mbxAgain_port (p : Nat) (c : MbxCmd) (l : List Word × Nat) (s : State) : (mbxAgain p c l s).port p = { s.port p with
    mbx := some { c with timeouts := c.timeouts + 1, words := l.1, sentAt := none },
    mbxOut := mbxHeader c.op c.seq c.address :: l.1, fraction := l.2 } := by
  rw [mbxAgain, port_modPort_same]

section
variable {p : Nat} {t x : Time} {c : MbxCmd} {s : State} (hp : p < 32) (hup : s.sampleUp = true) (hmbx : (s.port p).mbx = some c)
  (hsent : c.sentAt = some x) (hdue : x + ms 1 ≤ (s.arrive t).clock.now)

include hsent hdue in
theorem mbx_due : (c.sentAt.any fun x => decide (x + ms 1 ≤ (s.arrive t).clock.now)) = true := by
  rw [hsent, Option.any_some]
  exact decide_eq_true hdue

include hp hup hmbx hsent hdue

/-- A fourth time-out fails the port (R103). -/
theorem execFhMbxTimeout_fails (h : 3 ≤ c.timeouts) :
    execFhMbxTimeout t p s = .next (settle (fhFault p 5 (bump cFhMbxTimeout p (s.arrive t)))) := by
  rw [execFhMbxTimeout, onInst_of hp]
  simp only [port_arrive, sampleUp_arrive, hmbx, hup, mbx_due hsent hdue, Bool.not_true, Bool.or_self, Bool.false_eq_true, if_false, if_pos h]

/-- Before that the command is sent again, a TIME_LOAD with another superframe (R103). -/
theorem execFhMbxTimeout_again (h : c.timeouts < 3) : ∃ l, (c.op ≠ 3 → l.1 = c.words) ∧
    execFhMbxTimeout t p s = .next (settle (mbxAgain p c l (bump cFhMbxTimeout p (s.arrive t)))) := by
  rw [execFhMbxTimeout, onInst_of hp]
  refine ⟨if c.op = 3 then timeLoad (s.arrive t) p else (c.words, (s.port p).fraction), fun hop => by rw [if_neg hop], ?_⟩
  simp only [port_arrive, sampleUp_arrive, hmbx, hup, mbx_due hsent hdue, Bool.not_true, Bool.or_self, Bool.false_eq_true, if_false,
    if_neg (Nat.not_le.mpr h), mbxAgain]

end

/-! ### Analogue loopback (R114) -/

theorem anaLoop_refused {p : Nat} {loop : BitVec 2} {s : State} (hup : s.sampleUp = true) (hloop : loop ≠ 0)
    (hclamp : (s.clamp (32 + p)).holder ≠ 1) : anaLoop p loop s = bump cAnaLoopRefuse p s := by
  rw [anaLoop, if_neg (by simp [hup]), if_neg hloop, if_neg hclamp]

theorem fldAt_of_reg {s u : State} {a i : Nat} (h : u.reg (a + i * 0x400) = s.reg (a + i * 0x400)) (lo w : Nat) :
    u.fldAt a i lo w = s.fldAt a i lo w := by rw [State.fldAt, State.fldAt, State.fld, State.fld, h]

theorem fldAt_setFldAt_zero (s : State) (a i lo w : Nat) : (s.setFldAt a i lo w 0).fldAt a i lo w = 0 := by
  rw [State.fldAt, State.fld, State.setFldAt, reg_setReg_same, putBits, BitVec.toNat_ofNat]
  generalize s.reg (a + i * 0x400) = r
  rw [Nat.zero_mod, Nat.zero_mul, Nat.add_zero, Nat.mod_eq_of_lt (lt_of_le_of_lt (Nat.sub_le _ _) r.isLt),
    Nat.mul_comm (r.toNat / 2 ^ lo % 2 ^ w), Nat.sub_mul_div]
  exact Nat.sub_mod_eq_zero_of_mod_eq (Nat.mod_mod _ _).symm

/-- No counter of invalid spans stands at an ANA_PORT_CTRL: their offsets differ within the stride. -/
theorem anaPortCtrl_ne_invalidSpan (p st : Nat) : rAnaPortCtrl + p * 0x400 ≠ cChnInvalidSpan.addr st := by
  rw [Counter.addr, blockBase, rAnaPortCtrl, cChnInvalidSpan]
  dsimp only
  omega

/-! ### A change of FH_POOL begins (R106) -/

/-- The arguments of a command do not move with device time. -/
theorem argsOf_arrive (s : State) (t : Time) (d c : Nat) : (s.arrive t).argsOf d c = s.argsOf d c := by
  simp [State.argsOf, State.carries, controlUp_arrive, dlOf]

theorem poolBegin_state (r : Remap) (s : State) :
    (poolBegin r s).2 = (streamGone r.stream s).setEntry tFhPool r.stream (r.entry.toNat % 2 ^ 31) := by
  rw [poolBegin]

theorem poolBegin_remap (r : Remap) (s : State) :
    ((poolBegin r s).1.stream, (poolBegin r s).1.entry, (poolBegin r s).1.dsn, (poolBegin r s).1.since, (poolBegin r s).1.begun) =
      (r.stream, r.entry, r.dsn, s.clock.now, true) := by
  rw [poolBegin]

/-- A port in UP that the new entry names must return its echo (R106). -/
theorem poolBegin_waits {p : Nat} {r : Remap} {s : State} (hport : entryPort r.entry.toNat = some p) (hup : (s.port p).state = .up) :
    ⟨p, 0, 0, false⟩ ∈ (poolBegin r s).1.waits := by
  simp [poolBegin, hport, hup]

/-- A change that must wait for an echo stays in hand (R106). -/
theorem poolGo_waiting {r : Remap} {x : EchoWait} {s : State} (rest : List Remap) (h : x ∈ (poolBegin r s).1.waits) :
    poolGo (r :: rest) s = { (poolBegin r s).2 with pool := (poolBegin r s).1 :: rest } := by
  have hwaits : (poolBegin r s).1.waits.isEmpty = false := by
    rw [List.isEmpty_eq_false_iff_exists_mem]
    exact ⟨x, h⟩
  rw [poolGo]
  simp only [hwaits, Bool.false_eq_true, if_false]

/-! ### The statement -/

/-- Settles O7, clause by clause: each command's answer is the state that the operations above give, settled. -/
theorem fronthaulTraffic : Obligations.FronthaulTraffic := by
  unfold Obligations.FronthaulTraffic
  refine ⟨?superframe, ?frame, ?frozen, ?timeout, ?reply, ?mbxTimeout, ?loop, ?refuse, ?ends, ?anaEnds, ?anaRefuse, ?remap⟩
  case superframe =>
    intro t p rx arrivals s hp hruns hlock hstate hmode hseen hok
    obtain ⟨v, hv⟩ : ∃ v, v = (fhCheck p ((s.arrive t).modPort p fun q => { q with rxLag := rxLagOf q arrivals })).2 := ⟨_, rfl⟩
    obtain ⟨e, d, hport⟩ := fhCheck_port p ((s.arrive t).modPort p fun q => { q with rxLag := rxLagOf q arrivals })
    rw [← hv, port_modPort_same, port_arrive] at hport
    have hframe : v = { s.arrive t with regs := v.regs, fh := v.fh } := by rw [hv, fhCheck_eq, modPort_eq]
    have htime : (v.port p).state = .time := by rw [hport, hstate]
    obtain ⟨l, m, hmeasured⟩ := fhMeasure_time_port (rx := rx) htime
    obtain ⟨hmap, hlag, hcounts, hmail⟩ := fhBeginMap_port p (fhMeasure p rx v)
    refine ⟨settle (fhBeginMap p (fhMeasure p rx v)), ?_, ?_, ?_, ?_, ?_, fun q hq => ?_, (settle_eq _).trans ?_⟩
    · rw [exec_fhSuperframeRx, execFhSuperframeRx_loaded hp hruns hlock hstate hmode hseen hok, hv]
    · rw [port_settle, hmap]
    · rw [port_settle, hlag, hmeasured, hport]
    · rw [port_settle, hcounts, hmeasured, hport]
    · rw [port_settle, hmail]
    · rw [port_settle, fhBeginMap_port_other hq, fhMeasure_time_port_other htime hq, hv, fhCheck_port_other hq,
        port_modPort_other _ _ hq, port_arrive]
    · rw [fhBeginMap_eq, fhMeasure_time_eq htime, hframe]
      simp
  case frame =>
    intro t p groups s hp hruns hdown hfault hfrozen
    obtain ⟨blocks, v, q, hexec, hno, hgrant, hother, hv⟩ := execFhFrameTx_runs groups t hp hruns hdown hfault hfrozen
    rw [exec_fhFrameTx, hexec]
    refine ⟨_, rfl, ?_, ?_, fun j hj => ?_, ?_, (settle_eq _).trans ?_⟩
    · rw [port_settle, fhSend_eq, poolSent_eq]
      exact (congrArg FhPort.frameNo (port_setPort_same v p q)).trans hno
    · rw [port_settle, fhSend_eq, poolSent_eq]
      exact (congrArg FhPort.grantSent (port_setPort_same v p q)).trans hgrant
    · rw [port_settle, fhSend_eq, poolSent_eq]
      exact (port_setPort_other v q hj).trans (hother j hj)
    · rw [settle_sent, fhSend_sent_length, poolSent_eq, State.setPort, hv]
      simp
    · rw [fhSend_eq, poolSent_eq, State.setPort, hv]
      simp
  case frozen =>
    intro t p groups s hp hfrozen hon hisland hdown hfault
    refine ⟨settle ((s.arrive t).out (.fhFrame p (frozenFrame (s.arrive t) p))), ?_, ?_, (settle_eq _).trans ?_⟩
    · rw [exec_fhFrameTx, execFhFrameTx, onInst_of hp]
      simp [hfrozen, hon, hisland, hdown, hfault]
    · rw [settle_sent, State.out, arrive_sent]
    · simp [State.out]
  case timeout =>
    intro t p s hp hstate hdue
    have hup : ((s.arrive t).port p).state ≠ .up := by simp [hstate]
    refine ⟨settle (fhFault p 3 (s.arrive t)), ?_, ?_⟩
    · rw [exec_fhTimeTimeout, execFhTimeTimeout, onInst_of hp]
      simp [hstate, hdue]
    · rw [fhFault_not_up _ hup, port_settle, port_modPort_same]
      refine ⟨rfl, rfl, fun q hq => ?_, (settle_eq _).trans ?_⟩
      · rw [port_settle, port_modPort_other _ _ hq, port_arrive]
      · simp [State.modPort, State.setPort]
  case reply =>
    intro t p hdr c s hp hup hmbx hop hin hcode hseq
    refine ⟨settle (fhReply p c (hdr.toNat % 2 ^ 16 == 0) 0 (((s.arrive t).modPort p fun q => { q with mbxIn := q.mbxIn.drop 1 }).modPort p
      fun q => { q with mbx := none, mbxOut := [] })), ?_, ?_⟩
    · rw [exec_fhMbxReply, execFhMbxReply, onInst_of hp]
      simp [hup, hmbx, hin, hop, hcode, hseq, replyLength, -Nat.reducePow]
    · simp only [fhReply, hop, port_settle, port_modPort_same, port_arrive, hin]
      refine ⟨trivial, rfl, ?_, fun q hq => ?_, (settle_eq _).trans ?_⟩
      · simp only [beq_iff_eq]
      · rw [port_modPort_other _ _ hq, port_modPort_other _ _ hq, port_modPort_other _ _ hq, port_arrive]
      · simp [State.modPort, State.setPort]
  case mbxTimeout =>
    intro t p c x s hp hup hmbx hsent hdue hstate
    rcases Nat.lt_or_ge c.timeouts 3 with h3 | h3
    · obtain ⟨l, hwords, hexec⟩ := execFhMbxTimeout_again hp hup hmbx hsent hdue h3
      refine ⟨_, (exec_fhMbxTimeout _ _ _).trans hexec, ?_, fun _ => ⟨?_, fun hop => ?_, ?_⟩, fun h => by omega, fun q hq => ?_,
        (settle_eq _).trans ?_⟩
      · rw [count_settle, mbxAgain, count_modPort, count_bump, count_arrive]
      · rw [port_settle, mbxAgain_port, Option.map_some]
      · rw [port_settle, mbxAgain_port, hwords hop]
      · rw [port_settle, mbxAgain_port, port_bump, port_arrive]
      · rw [port_settle, mbxAgain, port_modPort_other _ _ hq, port_bump, port_arrive]
      · rw [mbxAgain, bump_eq]
        simp [State.modPort, State.setPort]
    · have hup' : ((bump cFhMbxTimeout p (s.arrive t)).port p).state ≠ .up := by simpa using hstate
      refine ⟨_, (exec_fhMbxTimeout _ _ _).trans (execFhMbxTimeout_fails hp hup hmbx hsent hdue h3), ?_, fun h => by omega, fun _ => ?_,
        fun q hq => ?_, (settle_eq _).trans ?_⟩ <;> rw [fhFault_not_up _ hup']
      · rw [count_settle, count_modPort, count_bump, count_arrive]
      · rw [port_settle, port_modPort_same]
        exact ⟨rfl, rfl, rfl⟩
      · rw [port_settle, port_modPort_other _ _ hq, port_bump, port_arrive]
      · rw [bump_eq]
        simp [State.modPort, State.setPort]
  case loop =>
    intro t p loop s hp hup hloop hclamp hon
    have hexec : execFhLoopWrite t p loop s = .next (settle (fhExit p (fun v => fhTo p .loop
        (v.modPort p fun q => { q with samplesOk := false })) ((s.arrive t).setFldAt rFhPortCtrl p 1 2 loop.toNat))) := by
      rw [execFhLoopWrite, onInst_of hp, fhLoop_taken (by simpa using hup) hloop (by simpa using hclamp) (by simpa using hon)]
    refine ⟨_, (exec_fhLoopWrite _ _ _ _).trans hexec, ?_, ?_, congrArg Anchor.mem (execFhLoopWrite_anchor hexec), ?_⟩
    · rw [port_settle, port_fhExit, fhTo, port_modPort_same]
    · rw [port_settle, port_fhExit, fhTo, port_modPort_same, port_modPort_same]
    · rw [settle_key]
      exact (congrArg PortsAndVault.key (fhExit_portsAndVault p _ _)).trans (by simp [fhTo, State.modPort, State.setPort, State.setFldAt])
  case refuse =>
    intro t p loop s hp hup hloop hclamp
    refine ⟨settle (bump cFhLoopRefuse p (s.arrive t)), ?_, ?_, (settle_eq _).trans ?_⟩
    · rw [exec_fhLoopWrite, execFhLoopWrite, onInst_of hp, fhLoop_refused (by simpa using hup) hloop (by simpa using hclamp)]
    · rw [count_settle, count_bump, count_arrive]
    · rw [bump_eq]
      simp
  case ends =>
    intro t p s hp hup hloop
    have hexec : execFhLoopWrite t p 0 s = .next (settle (fhDown p ((s.arrive t).setFldAt rFhPortCtrl p 1 2 0))) := by
      rw [execFhLoopWrite, onInst_of hp, fhLoop_ends (by simpa using hup) (by simpa using hloop)]
    refine ⟨_, (exec_fhLoopWrite _ _ _ _).trans hexec, ?_, fun q hq => ?_, congrArg Anchor.mem (execFhLoopWrite_anchor hexec)⟩
    · rw [port_settle, fhDown_state]
    · rw [port_settle, fhDown_port_other hq]
      exact port_arrive s t q
  case anaEnds =>
    intro t p s hp hup
    refine ⟨settle (refreshStreams (32 + p) ((s.arrive t).setFldAt rAnaPortCtrl p 6 2 0)), ?_, ?_, ?_, ?_, ?_⟩
    · rw [exec_anaLoopWrite, execAnaLoopWrite, onInst_of hp]
      simp [anaLoop, hup]
    · rw [fldAt_of_reg (reg_settle _ _), fldAt_of_reg (reg_refreshStreams (fun st _ => anaPortCtrl_ne_invalidSpan p st) _ _),
        fldAt_setFldAt_zero]
    all_goals
      rw [refreshStreams_eq, State.setFldAt]
      simp
  case anaRefuse =>
    intro t p loop s hp hup hloop hclamp
    refine ⟨settle (bump cAnaLoopRefuse p (s.arrive t)), ?_, ?_, (settle_eq _).trans ?_⟩
    · rw [exec_anaLoopWrite, execAnaLoopWrite, onInst_of hp, anaLoop_refused (by simpa using hup) hloop (by simpa using hclamp)]
    · rw [count_settle, count_bump, count_arrive]
    · rw [bump_eq]
      simp
  case remap =>
    intro t d st p e a s hargs hup hpool hst hlt he hport hstate
    obtain ⟨r, hr⟩ : ∃ r : Remap, r = ⟨st, e, d, (s.arrive t).clock.now, false, []⟩ := ⟨_, rfl⟩
    have hwait : ⟨p, 0, 0, false⟩ ∈ (poolBegin r (s.arrive t)).1.waits := poolBegin_waits (by rw [hr, hport]) (by rw [port_arrive, hstate])
    have hexec : execPoolEntry t d s = .next (settle (poolGo [r] (s.arrive t))) := by
      rw [execPoolEntry, onInst_true]
      simp [argsOf_arrive, hargs, hup, hpool, hst, he, hr, Nat.not_le.mpr hlt]
    refine ⟨_, (exec_poolEntry _ _ _).trans hexec, ?_, ?_, ?_, ⟨(poolBegin r (s.arrive t)).1, ?_, hwait⟩,
      congrArg Anchor.mem (execPoolEntry_anchor hexec), ?_⟩ <;> rw [poolGo_waiting [] hwait]
    · simp [State.entry, poolBegin_state, State.setEntry, hr]
    · simp [poolBegin_state, hr, not_mem_valid_streamGone]
    · rw [settle_pool, List.map_singleton, poolBegin_remap, hr]
    · simp
    · simp [poolBegin_state, streamGone_dl]

end Sys2Proof.Machine

/-! PROOFS. The channeliser's generation changes (R140 to R142), the noise floor (R148), the detections with their merge windows, records and
masks (R150 to R155), and the warm-ups of the spare slice (R158). -/

namespace Sys2Proof.Machine
open Sys2Proof Host

/-! ### What the arrival of a command leaves of the heads, the units and the search slots -/

/-- A command all of whose operands name what exists answers the state that it settles. -/
theorem onInst_of_true {b : Bool} (h : b = true) (u : State) : onInst b u = .next (settle u) := by rw [h, onInst_true]

theorem count_bump_of_regs {s u : State} (h : u.regs = s.regs) (c : Counter) (i : Nat) :
    (bump c i u).count c i = min 0xFFFFFFFF (s.count c i + 1) := count_bumpBy_of_regs h c i 1

section
variable (s : State) (t : Time)

@[simp] theorem headCal_arrive (h : Nat) : (s.arrive t).headCal h = s.headCal h := by simp [State.headCal]

@[simp] theorem headCal_settle (h : Nat) : (settle s).headCal h = s.headCal h := by simp [State.headCal]

@[simp] theorem calRxGen_arrive (h : Nat) : calRxGen h (s.arrive t) = calRxGen h s := by simp [calRxGen]

@[simp] theorem calWantsChange_arrive (h : Nat) : calWantsChange h (s.arrive t) = calWantsChange h s := by simp [calWantsChange]

@[simp] theorem streamHead_arrive (st : Nat) : streamHead (s.arrive t) st = streamHead s st := by
  rw [streamHead, streamHead, State.entry, State.entry, arrive_tables]

@[simp] theorem validStreams_arrive (h : Nat) : validStreams (s.arrive t) h = validStreams s h := by simp [validStreams]

@[simp] theorem changeOf_arrive (h : Nat) : changeOf (s.arrive t) h = changeOf s h := by simp [changeOf]

@[simp] theorem unit_arrive (n : Nat) : (s.arrive t).unit n = s.unit n := by simp [State.unit]

@[simp] theorem unit_settle (n : Nat) : (settle s).unit n = s.unit n := by simp [State.unit]

@[simp] theorem tail_arrive (st : Nat) : (s.arrive t).tail st = s.tail st := by simp [State.tail]

@[simp] theorem slotMode_arrive (k : Nat) : slotMode (s.arrive t) k = slotMode s k := by simp [slotMode]

@[simp] theorem slotOn_arrive (st k : Nat) : slotOn (s.arrive t) st k = slotOn s st k := by simp [slotOn]

@[simp] theorem window_arrive (k : Nat) : window (s.arrive t) k = window s k := by simp [window]

@[simp] theorem threshold_arrive (k : Nat) : threshold (s.arrive t) k = threshold s k := by simp [threshold]

@[simp] theorem sliceWorks_arrive (st : Nat) : sliceWorks (s.arrive t) st = sliceWorks s st := by simp [sliceWorks]

@[simp] theorem spareWarming_arrive (sl : Nat) : spareWarming (s.arrive t) sl = spareWarming s sl := by simp [spareWarming]

@[simp] theorem sameIdentity_arrive (a b : Detection) : sameIdentity (s.arrive t) a b = sameIdentity s a b := by simp [sameIdentity]

@[simp] theorem sameTime_arrive (a b : Detection) : sameTime (s.arrive t) a b = sameTime s a b := by simp [sameTime]

end

/-! ### Units (R140) -/

theorem afind_map {α : Type} (f : Nat → α → α) (m : List (Nat × α)) (k : Nat) :
    afind (m.map fun x => (x.1, f x.1 x.2)) k = (afind m k).map (f k) := by
  induction m with
  | nil => rfl
  | cons p r ih =>
    rw [List.map_cons, afind, afind, ih]
    split
    · next h => rw [h, Option.map_some]
    · rfl

/-- What a unit's use is by now does not look at the bank. -/
theorem unitNow_chn (s : State) (c : Chn) : unitNow { s with chn := c } = unitNow s := rfl

theorem unitNow_unitNow (s : State) (n : Nat) (x : UnitUse) : unitNow s n (unitNow s n x) = unitNow s n x := by
  cases x with
  | retiring st g since =>
    by_cases h : retireHeld s st g since = true <;> simp [unitNow, h]
  | leaving st g fin =>
    by_cases h : fin ≤ s.clock.now
    · by_cases hj : underTest s 2 n = true <;> simp [unitNow, h, hj]
    · simp [unitNow, h]
  | _ => rfl

theorem unit_retireIdle (s : State) (n : Nat) : (retireIdle s).unit n = unitNow s n (s.unit n) := by
  rw [State.unit, retireIdle, afind_map, State.unit]
  cases afind s.chn.units n <;> rfl

theorem freeUnits_retireIdle (s : State) : freeUnits (retireIdle s) = freeUnits s := by
  have hnow : unitNow (retireIdle s) = unitNow s := unitNow_chn _ _
  simp only [freeUnits, unit_retireIdle, hnow, unitNow_unitNow]

theorem unit_setUnit_same (s : State) (n : Nat) (x : UnitUse) : (s.setUnit n x).unit n = x := by
  rw [State.unit, State.setUnit, afind_aput_same, Option.getD_some]

theorem unit_setUnit_other (s : State) (x : UnitUse) {n m : Nat} (h : m ≠ n) : (s.setUnit n x).unit m = s.unit m := by
  rw [State.unit, State.unit, State.setUnit, afind_aput_other _ _ h]

/-! ### Generation changes (R140 to R142) -/

theorem chnServe_nil {s : State} (h : s.chn.changes = []) : chnServe s = retireIdle s := by rw [chnServe, h, chnServeList]

/-- A change that waits alone is served if its claim succeeds, and waits on otherwise. -/
theorem chnServe_single {s : State} {c : GenChange} (h : s.chn.changes = [c]) (hc : c.sAt = none) :
    chnServe s = (claimUnits c (retireIdle s)).getD (retireIdle s) := by
  rw [chnServe, h, chnServeList, hc]
  cases claimUnits c (retireIdle s) <;> simp [chnServeList]

/-- With units enough the claim succeeds and fixes the switch point of its head's changes. -/
theorem claimUnits_enough {c : GenChange} {s : State} (h : (validStreams s c.head).length + jigWaits s c.asked ≤ (freeUnits s).length) :
    ∃ u, claimUnits c s = some u ∧ ∃ a, u.chn.changes = s.chn.changes.map fun x =>
      if x.head = c.head then { x with sAt := some a } else x := by
  unfold claimUnits
  dsimp only
  rw [if_pos h]
  exact ⟨_, rfl, _, by rw [setUnit_foldl_eq]⟩

theorem claimUnits_short {c : GenChange} {s : State} (h : (freeUnits s).length < (validStreams s c.head).length) : claimUnits c s = none := by
  unfold claimUnits
  dsimp only
  rw [if_neg (by omega)]

/-- The state in which a change of head `h` waits alone for its units, with look-back span `look`, when CHN_GEN_REQUEST has asked for it. -/
def firstAsked (t : Time) (h look : Nat) (s : State) : State :=
  { s.arrive t with chn.changes := [⟨h, (calRxGen h s + 1) % 256, none, look, false, (s.arrive t).clock.now⟩] }

theorem freeUnits_firstAsked (t : Time) (h look : Nat) (s : State) :
    freeUnits (retireIdle (firstAsked t h look s)) = freeUnits (s.arrive t) := freeUnits_retireIdle _

theorem validStreams_firstAsked (t : Time) (h look : Nat) (s : State) :
    validStreams (retireIdle (firstAsked t h look s)) h = validStreams s h := validStreams_arrive s t h

theorem jigWaits_firstAsked {t : Time} {h look : Nat} {s : State} (htest : s.hlt.test = none) (a : Time) :
    jigWaits (retireIdle (firstAsked t h look s)) a = 0 := by
  simp [jigWaits, retireIdle, firstAsked, htest]

/-- The channeliser tries to serve the first change to be asked for, which is counted if it must wait (R140, R141). -/
theorem execChnGenRequest_first {t : Time} {h : Nat} {s : State} (hh : h < 36) (hup : s.sampleUp = true)
    (hwant : calWantsChange h s = true) (hnone : s.chn.changes = []) :
    ∃ look v, v = chnServe (firstAsked t h look s) ∧
      execChnGenRequest t h s = .next (settle (if ((changeOf v h).bind fun c => c.sAt).isSome then v else bump cChnGenDefer 0 v)) := by
  refine ⟨(validStreams s h).foldl (fun m st => max m (lookBack (s.arrive t) st)) 0, _, rfl, ?_⟩
  have hnew : changeOf s h = none := by rw [changeOf, hnone, List.find?_nil]
  rw [execChnGenRequest, onInst_of hh]
  simp [hup, hwant, hnew, hnone, firstAsked]

/-- With units enough and no jig test the first change has its switch point at once (R140). -/
theorem execChnGenRequest_served {t : Time} {h : Nat} {s : State} (hh : h < 36) (hup : s.sampleUp = true)
    (hwant : calWantsChange h s = true) (hnone : s.chn.changes = []) (hfree : (validStreams s h).length ≤ (freeUnits (s.arrive t)).length)
    (htest : s.hlt.test = none) : ∃ look a v, execChnGenRequest t h s = .next (settle v) ∧
      v.chn.changes = [⟨h, (calRxGen h s + 1) % 256, some a, look, false, (s.arrive t).clock.now⟩] ∧
      v = { s.arrive t with chn.units := v.chn.units, chn.changes := v.chn.changes } := by
  obtain ⟨look, v, hv, hexec⟩ := execChnGenRequest_first (t := t) hh hup hwant hnone
  have henough : (validStreams (retireIdle (firstAsked t h look s)) h).length +
      jigWaits (retireIdle (firstAsked t h look s)) (s.arrive t).clock.now ≤ (freeUnits (retireIdle (firstAsked t h look s))).length := by
    rw [validStreams_firstAsked, jigWaits_firstAsked htest, freeUnits_firstAsked]
    exact hfree
  obtain ⟨u, hclaim, a, hchanges⟩ := claimUnits_enough (c := ⟨h, _, none, look, false, _⟩) henough
  have hserved : v = u := by rw [hv, chnServe_single rfl rfl, hclaim, Option.getD_some]
  have hlist : v.chn.changes = [⟨h, (calRxGen h s + 1) % 256, some a, look, false, (s.arrive t).clock.now⟩] := by
    rw [hserved, hchanges, retireIdle, firstAsked]
    simp
  refine ⟨look, a, v, ?_, hlist, ?_⟩
  · rw [hexec, changeOf, hlist]
    simp
  · rw [hv, chnServe_eq, firstAsked]

/-- With too few units the first change waits, and that is counted (R141). -/
theorem execChnGenRequest_deferred {t : Time} {h : Nat} {s : State} (hh : h < 36) (hup : s.sampleUp = true)
    (hwant : calWantsChange h s = true) (hnone : s.chn.changes = []) (hfree : (freeUnits (s.arrive t)).length < (validStreams s h).length) :
    ∃ look, execChnGenRequest t h s = .next (settle (bump cChnGenDefer 0 (retireIdle (firstAsked t h look s)))) := by
  obtain ⟨look, v, hv, hexec⟩ := execChnGenRequest_first (t := t) hh hup hwant hnone
  have hshort : (freeUnits (retireIdle (firstAsked t h look s))).length < (validStreams (retireIdle (firstAsked t h look s)) h).length := by
    rw [freeUnits_firstAsked, validStreams_firstAsked]
    exact hfree
  have hwaits : v = retireIdle (firstAsked t h look s) := by
    rw [hv, chnServe_single rfl rfl, claimUnits_short hshort, Option.getD_none]
  refine ⟨look, ?_⟩
  rw [hexec, hwaits]
  simp [changeOf, retireIdle, firstAsked]

theorem headCal_modCal_same (s : State) (h : Nat) (f : HeadCal → HeadCal) : (s.modCal h f).headCal h = f (s.headCal h) := by
  rw [State.headCal, State.modCal, afind_aput_same, Option.getD_some]

theorem headCal_of_cal {s u : State} (hcal : u.cal = s.cal) (h : Nat) : u.headCal h = s.headCal h := by
  rw [State.headCal, State.headCal, hcal]

/-- When its units start, a change has begun and its head's pending corrections are frozen (R140, R222). -/
theorem execChnUnitStart_due {t : Time} {h k g look : Nat} {a ask : Time} {s : State} (hh : h < 36)
    (hchange : changeOf s h = some ⟨k, g, some a, look, false, ask⟩) (hdue : a ≤ (s.arrive t).clock.now + samples (1536 + look))
    (hup : s.sampleUp = true) : ∃ units, execChnUnitStart t h s = .next (settle (calFreeze h { s.arrive t with
      chn.units := units,
      chn.changes := s.chn.changes.map fun c => if c.head = h then { c with begun := true } else c })) := by
  rw [execChnUnitStart, onInst_of hh]
  simp only [changeOf_arrive, hchange, sampleUp_arrive, hdue, hup, and_self, if_true, arrive_chn]
  exact ⟨_, rfl⟩

/-- At the switch point generation `g` is in force, and the units of the old one retire (R140). -/
theorem execChnSwitchPoint_due {t : Time} {h k g look : Nat} {a ask : Time} {s : State} (hh : h < 36)
    (hchange : changeOf s h = some ⟨k, g, some a, look, true, ask⟩) (hdue : a ≤ (s.arrive t).clock.now) (hup : s.sampleUp = true) :
    ∃ units, execChnSwitchPoint t h s = .next (settle (chnServe (retireIdle (calSwitched h g { s.arrive t with
      chn.units := units, chn.changes := s.chn.changes.filter fun c => c.head != h })))) := by
  rw [execChnSwitchPoint, onInst_of hh]
  simp only [changeOf_arrive, hchange, sampleUp_arrive, hdue, hup, and_self, if_true, arrive_chn]
  exact ⟨_, rfl⟩

theorem calSwitched_headCal (h g : Nat) (s : State) : ((calSwitched h g s).headCal h).rxGen = g ∧
    ((calSwitched h g s).headCal h).pending = false ∧
    ((calSwitched h g s).headCal h).rx = (s.headCal h).frozen.getD (s.headCal h).cand := by
  rw [calSwitched, headCal_of_cal (bump_cal _ _ _), headCal_modCal_same]
  exact ⟨rfl, rfl, rfl⟩

theorem calSwitched_eq (h g : Nat) (s : State) : calSwitched h g s =
    { s with regs := (calSwitched h g s).regs, cal := (calSwitched h g s).cal } := by
  rw [calSwitched, bump_eq, State.modCal]

/-- A unit that has retired for 6 s, and that no lane reads any more, is free (R142). -/
theorem execChnRetireExpire_unread {t : Time} {n st g : Nat} {since : Time} {s : State} (hn : n < 144)
    (hunit : s.unit n = .retiring st g since) (hdue : since + sec 6 ≤ (s.arrive t).clock.now) (hup : s.sampleUp = true)
    (hnone : s.chn.changes = [])
    (hlanes : (s.lane.lanes.filter fun x => laneOn st g x.2 && (laneReads x.2.state || x.2.state == .exporting)) = []) :
    execChnRetireExpire t n s = .next (settle (retireIdle ((s.arrive t).setUnit n .free))) := by
  rw [execChnRetireExpire, onInst_of hn]
  simp only [unit_arrive, hunit, sampleUp_arrive, hdue, hup, and_self, if_true, arrive_lane, hlanes, List.map_nil, List.foldl_nil]
  rw [chnServe_nil (by simpa [State.setUnit] using hnone)]

/-! ### The noise floor (R148) -/

section
variable {t : Time} {st b : Nat} {s : State} (hst : st < 128) (hb : b < 128) (hup : s.sampleUp = true)
  (hvalid : binsValid (s.arrive t) st = true)
include hst hb hup hvalid

/-- The estimate after the samples that count, and the rise by 1 dB of one left without an update for 819.2 ms. -/
theorem execNoiseFloorRise_valid {powers : List Nat} {f : Nat × Time}
    (hf : floorRun (s.arrive t).clock.now (powers.drop (powers.length - ((s.arrive t).clock.now - s.tail st) / 50000))
      (sget floorReset s.det.floors (st * 128 + b)) = f) :
    execNoiseFloorRise t st b powers s = .next (settle { s.arrive t with
      det.floors := sset floorReset s.det.floors (st * 128 + b)
        (if f.2 + us 819200 ≤ (s.arrive t).clock.now then (floorRise f.1, (s.arrive t).clock.now) else f) }) := by
  rw [execNoiseFloorRise, onInst_of_true (by simp [hst, hb])]
  simp [hup, hvalid, hf]

theorem execNoiseFloorRise_rise
    (hdue : (sget floorReset s.det.floors (st * 128 + b)).2 + us 819200 ≤ (s.arrive t).clock.now) :
    execNoiseFloorRise t st b [] s = .next (settle { s.arrive t with
      det.floors := sset floorReset s.det.floors (st * 128 + b)
        (floorRise (sget floorReset s.det.floors (st * 128 + b)).1, (s.arrive t).clock.now) }) := by
  rw [execNoiseFloorRise_valid hst hb hup hvalid rfl]
  simp only [List.drop_nil, floorRun, hdue, if_true]

/-- A sample that updates the estimate restarts its count now, so that it does not rise. -/
theorem execNoiseFloorRise_sample {p : Nat} (htail : s.tail st + 50000 ≤ (s.arrive t).clock.now)
    (hupdates : (floorSample (sget floorReset s.det.floors (st * 128 + b)).1 p).2 = true) :
    execNoiseFloorRise t st b [p] s = .next (settle { s.arrive t with
      det.floors := sset floorReset s.det.floors (st * 128 + b)
        ((floorSample (sget floorReset s.det.floors (st * 128 + b)).1 p).1, (s.arrive t).clock.now) }) := by
  have hcounts : 1 - ((s.arrive t).clock.now - s.tail st) / 50000 = 0 :=
    Nat.sub_eq_zero_of_le ((Nat.one_le_div_iff (by decide)).mpr (Nat.le_sub_of_add_le' htail))
  have hfresh : ¬ (s.arrive t).clock.now + us 819200 ≤ (s.arrive t).clock.now :=
    Nat.not_le.mpr (Nat.lt_add_of_pos_right (by decide))
  rw [execNoiseFloorRise_valid hst hb hup hvalid
    (f := ((floorSample (sget floorReset s.det.floors (st * 128 + b)).1 p).1, (s.arrive t).clock.now)) ?_, if_neg hfresh]
  simp [hcounts, floorRun, hupdates]

end

/-! ### Detections and their merge windows (R150, R153 to R156) -/

/-- What a hypothesis that reaches its slot's threshold does: it merges into the window that it meets, or it opens one unless its
identity is masked. -/
theorem execDetection_enters {t : Time} {h : Hypothesis} {d : Detection} {s : State} (hst : h.stream < 128) (hb : h.bin < 128)
    (hslot : h.slot < 12) (hup : s.sampleUp = true) (hd : d = detectionOf (s.arrive t) h)
    (hvalid : binsValid (s.arrive t) h.stream = true) (hon : slotOn s h.stream h.slot = true) (hslice : sliceWorks s h.stream = true)
    (hspan : h.freq.natAbs ≤ 80000 + 1000 * window s h.slot) (hreach : threshold s h.slot ≤ d.metric) :
    ∃ v, execDetection t h s = .next (settle v) ∧
      (s.det.windows.find? (fun w => sameIdentity s w.best d && sameTime s w.best d) = none →
        s.det.masks.find? (fun m => sameIdentity s m.det d) = none →
        v.det.windows = s.det.windows ++ [⟨d, (genOf (s.arrive t) h).1, 0, false, false, (s.arrive t).clock.now⟩] ∧ v.regs = s.regs) ∧
      (((s.det.windows.find? fun w => sameIdentity s w.best d && sameTime s w.best d).isSome) = true →
        v.count cDetMerged d.stream = min 0xFFFFFFFF (s.count cDetMerged d.stream + 1) ∧
        v.det.windows.length = s.det.windows.length) ∧
      v = { s.arrive t with det := v.det, regs := v.regs, lane := v.lane } := by
  have hstream : d.stream = h.stream := by rw [hd, detectionOf]
  have hkind : d.slot = h.slot := by rw [hd, detectionOf]
  have hfreq : d.freq = h.freq := by rw [hd, detectionOf]
  rw [execDetection, onInst_of_true (by simp [hst, hb, hslot])]
  simp only [← hd, hstream, hkind, hfreq, sampleUp_arrive, hup, hvalid, slotOn_arrive, hon, sliceWorks_arrive, hslice, window_arrive, hspan,
    threshold_arrive, hreach, decide_true, Bool.and_self, Bool.not_true, Bool.false_eq_true, if_false, arrive_det,
    sameIdentity_arrive, sameTime_arrive]
  refine ⟨_, rfl, ?_⟩
  split
  · next w hw =>
    refine ⟨fun hnone => ?_, fun _ => ⟨?_, ?_⟩, ?_⟩
    · rw [hw] at hnone
      cases hnone
    · exact count_bump_of_regs (arrive_regs s t) _ _
    · rw [bump_det, List.length_map]
    · rw [bump_eq]
  · next hw =>
    refine ⟨fun _ hmask => ?_, fun hsome => ?_, ?_⟩
    · rw [hmask]
      exact ⟨rfl, arrive_regs s t⟩
    · rw [hw] at hsome
      cases hsome
    · split
      · split
        · rw [bump_eq, lateMerge]
        · split
          · rfl
          · rw [bump_eq]
      · rfl

/-! ### Records and masks (R152, R154, R155, R158) -/

section
variable {t : Time} {st : Nat} {w : MergeWin} {s : State} (hst : st < 128)
  (hw : s.det.windows.find? (fun w => w.best.stream == st) = some w) (hdue : w.since + 98 ≤ (s.arrive t).clock.now)
  (hup : s.sampleUp = true)
include hst hw hdue hup

/-- A window that is over gives a record to a FIFO with room, and a mask to its identity; only counters move besides. -/
theorem execDetRecordIssue_room (hroom : s.det.fifo.length < 1024) : ∃ v, execDetRecordIssue t st s = .next (settle v) ∧
    v.det = { s.det with
      windows := s.det.windows.erase w
      masks := s.det.masks.filter (fun m => !sameIdentity s m.det w.best) ++ [⟨w.best, s.det.seq, (s.arrive t).clock.now⟩]
      seq := (s.det.seq + 1) % 2 ^ 32
      fifo := s.det.fifo ++ [⟨w.best, slotMode s w.best.slot, w.gen, w.redetect, w.family, w.merged, s.det.seq⟩] } ∧
    v = { s.arrive t with det := v.det, regs := v.regs } := by
  rw [execDetRecordIssue, onInst_of hst]
  simp only [arrive_det, hw, sampleUp_arrive, hup, Nat.not_lt.mpr hdue, Bool.not_true, Bool.false_eq_true, or_self, if_false,
    Nat.not_le.mpr hroom, sameIdentity_arrive, slotMode_arrive]
  refine ⟨_, rfl, ?_, ?_⟩
  · split <;> split <;> simp only [bump_det]
  · split <;> split <;> simp [bump, bumpBy, State.setReg]

/-- A full FIFO loses the record, which is counted; the window is over all the same. -/
theorem execDetRecordIssue_full (hfull : 1024 ≤ s.det.fifo.length) (hwarm : spareWarming s (st / 4) = false) : ∃ det,
    execDetRecordIssue t st s = .next (settle (bump cDetRecordOvf 0 { s.arrive t with det := det })) ∧
      det.windows = s.det.windows.erase w ∧ det.fifo = s.det.fifo := by
  rw [execDetRecordIssue, onInst_of hst]
  simp only [arrive_det, hw, sampleUp_arrive, hup, Nat.not_lt.mpr hdue, Bool.not_true, Bool.false_eq_true, or_self, if_false,
    hfull, if_true, spareWarming_arrive, hwarm]
  exact ⟨_, rfl, rfl, rfl⟩

end

theorem segPeriod_pos (m : Nat) : 0 < segPeriod m := by
  rcases Nat.lt_or_ge m 16 with h | h
  · exact (by decide : ∀ m < 16, 0 < segPeriod m) m h
  · simp [segPeriod, symbolTime, h]

section
variable {t : Time} {st i : Nat} {m : Mask} {s : State} (hst : st < 128)
  (hm : (s.det.masks.filter fun m => m.det.stream == st)[i]? = some m) (hup : s.sampleUp = true)
include hst hm hup

theorem execDetMaskExpire_over (hdue : m.last + 4 * segPeriod (slotMode s m.det.slot) ≤ (s.arrive t).clock.now) :
    execDetMaskExpire t st i [] s = .next (settle { s.arrive t with det.masks := s.det.masks.erase m }) := by
  rw [execDetMaskExpire, onInst_of hst]
  simp only [arrive_det, hm, sampleUp_arrive, hup, slotMode_arrive, List.foldl_nil, hdue, Bool.not_true, Bool.false_eq_true, if_false, if_true]

/-- A METRIC seen now within 3 dB of the threshold, or above it, keeps the mask. -/
theorem execDetMaskExpire_seen {n : Nat} (hn : threshold s m.det.slot ≤ n + 12) :
    execDetMaskExpire t st i [((s.arrive t).clock.now, n)] s = .next (settle { s.arrive t with
      det.masks := s.det.masks.map fun x => if x = m then { x with last := max m.last (s.arrive t).clock.now } else x }) := by
  have hstays : ¬ max m.last (s.arrive t).clock.now + 4 * segPeriod (slotMode s m.det.slot) ≤ (s.arrive t).clock.now :=
    Nat.not_le.mpr (Nat.lt_of_le_of_lt (Nat.le_max_right _ _) (Nat.lt_add_of_pos_right (Nat.mul_pos (by decide) (segPeriod_pos _))))
  rw [execDetMaskExpire, onInst_of hst]
  simp only [arrive_det, hm, sampleUp_arrive, hup, slotMode_arrive, threshold_arrive, List.foldl_cons, List.foldl_nil, hn, le_refl, and_self,
    hstays, Bool.not_true, Bool.false_eq_true, if_false, if_true]

end

/-! ### The warm-ups of the spare slice (R158) -/

section
variable {t : Time} {j : JigTest} {s : State} (htest : s.hlt.test = some j) (hkind : j.kind = 1) (hup : s.sampleUp = true)
  (hdue : j.due ≤ (s.arrive t).clock.now)
include htest hkind hup hdue

theorem execJigDetWarmupDone_first (hwarm : j.warm = 1) : execJigDetWarmupDone t s = .next (settle { s.arrive t with
    hlt.test := some { j with warm := 2, due := (s.arrive t).clock.now + us 2500 }, det.spareFor := some j.inst }) := by
  rw [execJigDetWarmupDone, onInst_true]
  simp only [arrive_hlt, htest, hkind, hup, hwarm, sampleUp_arrive, Nat.not_lt.mpr hdue, ne_eq, not_true, Bool.not_true, Bool.false_eq_true,
    or_self, if_false, if_true]

/-- The second warm-up ends the test, which frees the clamp of its slice. -/
theorem execJigDetWarmupDone_second (hwarm : j.warm = 3) (hdsn : j.dsn = none) : execJigDetWarmupDone t s = .next (settle
    (freeClampOf 4 (36 + j.inst) { s.arrive t with hlt.test := none, det.spareFor := none })) := by
  rw [execJigDetWarmupDone, onInst_true]
  simp [htest, hkind, hup, hwarm, Nat.not_lt.mpr hdue, jigFinish, jigUnclamp, jigClamp, hdsn]

end

theorem freeClampOf_test (act n : Nat) (s : State) : (freeClampOf act n s).hlt.test = s.hlt.test := by
  unfold freeClampOf
  dsimp only
  (repeat' split) <;> rfl

/-! ### The statement -/

/-- Settles O8, clause by clause: each command's answer is the state that the lemmas above give, settled. -/
theorem channeliserAndSearch : Obligations.ChanneliserAndSearch := by
  unfold Obligations.ChanneliserAndSearch
  refine ⟨?served, ?deferred, ?start, ?switch, ?retire, ?rise, ?sample, ?detection, ?record, ?overflow, ?maskEnds, ?maskSeen, ?warmup⟩
  case served =>
    intro t h s hh hup hwant hnone hfree htest
    obtain ⟨look, a, v, hexec, hlist, hv⟩ := execChnGenRequest_served hh hup hwant hnone hfree htest
    refine ⟨_, (exec_chnGenRequest _ _ _).trans hexec, ?_, ?_, ?_, (settle_eq _).trans ?_⟩
    · rw [settle_chn, hlist]
      rfl
    · simp [hlist]
    · rw [settle_chn, hv]
      simp
    · rw [hv]
      simp
  case deferred =>
    intro t h s hh hup hwant hnone hfree
    obtain ⟨look, hexec⟩ := execChnGenRequest_deferred hh hup hwant hnone hfree
    refine ⟨_, (exec_chnGenRequest _ _ _).trans hexec, ?_, ?_, ?_, (settle_eq _).trans ?_⟩
    · simp [retireIdle, firstAsked]
    · rw [settle_chn, bump_chn]
      rfl
    · rw [count_settle]
      exact count_bump_of_regs (arrive_regs s t) _ _
    · rw [bump_eq, retireIdle, firstAsked]
      simp
  case start =>
    intro t h k g look a ask s hh hchange hdue hup
    obtain ⟨units, hexec⟩ := execChnUnitStart_due hh hchange hdue hup
    refine ⟨_, (exec_chnUnitStart _ _ _).trans hexec, ?_, ?_, ?_, (settle_eq _).trans ?_⟩
    · rw [headCal_settle, calFreeze, headCal_modCal_same]
      exact congrArg (fun c => some c.cand) (headCal_arrive s t h)
    · rw [settle_chn]
      intro c hc hhead
      obtain ⟨x, -, rfl⟩ := List.mem_map.mp hc
      by_cases hx : x.head = h
      · rw [if_pos hx]
      · rw [if_neg hx] at hhead
        exact absurd hhead hx
    · simp [calFreeze, State.modCal]
    · simp [calFreeze, State.modCal]
  case switch =>
    intro t h k g look a ask s hh hchange hdue hup
    obtain ⟨units, hexec⟩ := execChnSwitchPoint_due hh hchange hdue hup
    obtain ⟨w, hw⟩ : ∃ w : State, w = { s.arrive t with
      chn.units := units, chn.changes := s.chn.changes.filter fun c => c.head != h } := ⟨_, rfl⟩
    rw [← hw] at hexec
    have hcal : (settle (chnServe (retireIdle (calSwitched h g w)))).cal = (calSwitched h g w).cal := by
      rw [settle_cal, chnServe_eq, retireIdle]
    obtain ⟨hgen, hpending, hrx⟩ := calSwitched_headCal h g w
    have hwas : w.headCal h = s.headCal h := headCal_of_cal (by rw [hw, arrive_cal]) h
    refine ⟨_, (exec_chnSwitchPoint _ _ _).trans hexec, ?_, ?_, ?_, ?_, ?_, ?_, ?_⟩
    · rw [calRxGen, headCal_of_cal hcal, hgen]
    · rw [headCal_of_cal hcal, hpending]
    · rw [headCal_of_cal hcal, hrx, hwas]
    all_goals
      rw [chnServe_eq, retireIdle, calSwitched_eq, hw]
      simp
  case retire =>
    intro t n st g since s hn hunit hdue hup hnone hlanes
    refine ⟨_, (exec_chnRetireExpire _ _ _).trans (execChnRetireExpire_unread hn hunit hdue hup hnone hlanes), ?_, fun m hm => ?_,
      (settle_eq _).trans ?_⟩
    · rw [unit_settle, unit_retireIdle, unit_setUnit_same]
      rfl
    · rw [unit_settle, unit_retireIdle, unit_setUnit_other _ _ hm, unit_retireIdle, State.setUnit, unitNow_chn]
    · simp [retireIdle, State.setUnit]
  case rise =>
    intro t st b s hst hb hup hvalid hdue
    refine ⟨_, (exec_noiseFloorRise _ _ _ _ _).trans (execNoiseFloorRise_rise hst hb hup hvalid hdue), ?_, (settle_eq _).trans ?_⟩
    · rw [settle_det, sget_sset_same]
    · simp
  case sample =>
    intro t st b p s hst hb hup hvalid htail hupdates
    refine ⟨_, (exec_noiseFloorRise _ _ _ _ _).trans (execNoiseFloorRise_sample hst hb hup hvalid htail hupdates), ?_, (settle_eq _).trans ?_⟩
    · rw [settle_det, sget_sset_same]
    · simp
  case detection =>
    intro t h d s hst hb hslot hup hd hvalid hon hslice hspan hreach
    obtain ⟨v, hexec, hopens, hmerges, hv⟩ := execDetection_enters hst hb hslot hup hd hvalid hon hslice hspan hreach
    refine ⟨_, (exec_detection _ _ _).trans hexec, ?_, ?_, (settle_eq _).trans ?_⟩
    · rw [settle_det, settle_regs]
      exact hopens
    · rw [settle_det, count_settle]
      exact hmerges
    · rw [hv]
      simp
  case record =>
    intro t st w s hst hw hdue hup hroom
    obtain ⟨v, hexec, hdet, hv⟩ := execDetRecordIssue_room hst hw hdue hup hroom
    refine ⟨_, (exec_detRecordIssue _ _ _).trans hexec, ?_, ?_, ?_, ?_, (settle_eq _).trans ?_⟩
    · rw [settle_det, hdet]
    · rw [settle_det, hdet]
    · rw [settle_det, hdet]
    · simp [hdet]
    · rw [hv]
      simp
  case overflow =>
    intro t st w s hst hw hdue hup hfull hwarm
    obtain ⟨det, hexec, hwindows, hfifo⟩ := execDetRecordIssue_full hst hw hdue hup hfull hwarm
    refine ⟨_, (exec_detRecordIssue _ _ _).trans hexec, ?_, ?_, ?_, (settle_eq _).trans ?_⟩
    · rw [settle_det, bump_det, hwindows]
    · rw [settle_det, bump_det, hfifo]
    · rw [count_settle]
      exact count_bump_of_regs (arrive_regs s t) _ _
    · rw [bump_eq]
      simp
  case maskEnds =>
    intro t st i m s hst hm hup hdue
    refine ⟨_, (exec_detMaskExpire _ _ _ _ _).trans (execDetMaskExpire_over hst hm hup hdue), ?_, (settle_eq _).trans ?_⟩
    · rw [settle_det]
    · simp
  case maskSeen =>
    intro t st i n m s hst hm hup hn
    have hmem : m ∈ s.det.masks := List.mem_of_mem_filter (List.mem_of_getElem? hm)
    refine ⟨_, (exec_detMaskExpire _ _ _ _ _).trans (execDetMaskExpire_seen hst hm hup hn), ?_, ?_, (settle_eq _).trans ?_⟩
    · rw [settle_det]
      exact List.mem_map.mpr ⟨m, hmem, if_pos rfl⟩
    · rw [settle_det, List.length_map]
    · simp
  case warmup =>
    intro t j s htest hkind hup hdue
    by_cases h1 : j.warm = 1
    · refine ⟨_, (exec_jigDetWarmupDone _ _).trans (execJigDetWarmupDone_first htest hkind hup hdue h1), fun _ => ⟨?_, ?_, ?_⟩, fun h3 => ?_⟩
      · rw [settle_det]
      · rw [settle_hlt_test]
      · exact (settle_eq _).trans (by simp)
      · omega
    by_cases h3 : j.warm = 3 ∧ j.dsn = none
    · obtain ⟨h3, hdsn⟩ := h3
      refine ⟨_, (exec_jigDetWarmupDone _ _).trans (execJigDetWarmupDone_second htest hkind hup hdue h3 hdsn), fun h => absurd h h1,
        fun _ _ => ⟨?_, ?_, ?_⟩⟩
      · rw [settle_det, freeClampOf_eq]
      · rw [settle_hlt_test, freeClampOf_test]
      · refine (settle_eq _).trans ?_
        rw [freeClampOf_eq]
        simp
    · exact ⟨_, (exec_jigDetWarmupDone _ _).trans (onInst_true _), fun h => absurd h h1, fun h hdsn => absurd ⟨h, hdsn⟩ h3⟩

end Sys2Proof.Machine

/-! PROOFS. The snippet of a lane (R183) that meets an open item in its quay (R445): the report of the broken claim rule. -/

namespace Sys2Proof.Machine
open Sys2Proof Host

/-- A group whose frame-end event has gone out. -/
def reportedGroup : Group := { members := [0], passed := true, fcsOk := true, reported := true }

/-- A device in service. Lane 0 exports the frame of group 0 with its snippet, which goes to quay 0; the hardware is the producer of
quay 0, where an item is open. -/
def exportingBesideOpenItem : State :=
  { State.reset with
    start := { State.reset.start with
      phase := .p9
      porstLow := false
      pinLow := false
      islands := 0xFF }
    regs := [(rLaneCtrl, 0x80000000), (rQuayCfg, 0x1F000000)]
    lane := { lanes := [(0, { state := .exporting })], groups := [(0, reportedGroup)] }
    msys := { State.reset.msys with quays := [(0, { opened := some ⟨[], 0, false, false⟩ })] } }

/-- A snippet without symbols. -/
def emptySnippet : SnippetBody := ⟨0, 0, 0, 0, 0, [], []⟩

/-- The one record is that of a DROPPED error of quay 0 with code QUAY_PROTOCOL_ERR, at rank 1. -/
theorem evrRecords_laneExportDone_besideOpenItem :
    (taken exportingBesideOpenItem (exec (.laneExportDone 0 0 emptySnippet) exportingBesideOpenItem)).evr.records.map
      (fun r => (r.unit, r.code, r.cls, r.rank)) = [(21 * 2048, cQuayProtocolErr.code, classOf false, 1)] := by
  decide +kernel

/-- Refutes O9: its last clause says that LANE_EXPORT_DONE, with a snippet to send, changes no more than the clock, the health unit, the lanes,
the bank, the quays, the registers and what was sent. In `exportingBesideOpenItem` the snippet's claim meets an open item, which is against the
claim rule: QUAY_PROTOCOL_ERR is reported, and its record enters the event recorder (R445, R455). -/
theorem not_lanesDecode : ¬ Obligations.LanesDecode := by
  rintro ⟨-, -, -, -, -, -, -, -, -, -, -, -, -, -, -, -, hsnippet⟩
  obtain ⟨u, hexec, -, -, -, -, -, hframe⟩ := hsnippet 0 0 _ emptySnippet _ reportedGroup exportingBesideOpenItem (by decide) rfl rfl rfl rfl
    (by decide +kernel) rfl rfl
  have hrecords := evrRecords_laneExportDone_besideOpenItem
  have hsame : u.evr.records = [] := congrArg (fun x => x.evr.records) hframe
  rw [hexec, taken, hsame, List.map_nil] at hrecords
  exact List.cons_ne_nil _ _ hrecords.symm

end Sys2Proof.Machine

/-! PROOFS. A slot boundary on a standby whose mirrored schedule has a beacon in the next slot (R209, R233). -/

namespace Sys2Proof.Machine
open Sys2Proof Host

/-- The standby of a pair in service, whose schedule runs in slots of 10 ms and has reached slot 3 when device time comes to slot 500,000.
Slotframe 0 is one slot long, and its one cell is an ADVERTISING cell of port 0. -/
def standbyBesideBeacon : State :=
  { State.reset with
    start := { State.reset.start with
      phase := .p9
      porstLow := false
      pinLow := false
      islands := 0xFF }
    clock := { State.reset.clock with now := sec 5000 }
    regs := [(rSchCtrl, 100)]
    tables := [(tSchSlotframe * 2 ^ 32, 2 ^ 96 + 2 ^ 80 + 1), (tSchCell * 2 ^ 32, 4 * 2 ^ 96)]
    pair := { State.reset.pair with state := .standby }
    sch := { started := true, slot := 3 } }

/-- One transmission stands in the log of head 0: the beacon that the active sends in the next slot. -/
theorem txLogs_slotBoundary_besideBeacon :
    (taken standbyBesideBeacon (exec (.slotBoundary 0) standbyBesideBeacon)).cal.heads.map (fun x => (x.1, x.2.txLog.map fun y => y.start)) =
      [(0, [expectedAt standbyBesideBeacon 500001])] := by
  decide +kernel

/-- Refutes O10: its clause of SLOT_BOUNDARY says that a chip that does not lead changes no more than the clock, the health unit, the
schedule, the downlink and the transmit unit. In `standbyBesideBeacon` the mirrored schedule has a beacon in the next slot: the standby charges
it to its shadow accounts, and its calibration engine logs it to match loopbacks against (R209, R233). -/
theorem not_slotsAndTransmission : ¬ Obligations.SlotsAndTransmission := by
  rintro ⟨hboundary, -⟩
  obtain ⟨u, hexec, -, -, hstandby⟩ := hboundary 0 500000 standbyBesideBeacon (by decide +kernel) rfl (by decide +kernel) (by decide +kernel)
    (by decide)
  have hlogs := txLogs_slotBoundary_besideBeacon
  have hframe : u.cal.heads = [] := congrArg (fun x => x.cal.heads) (hstandby rfl).2
  rw [hexec, taken, hframe, List.map_nil] at hlogs
  exact List.cons_ne_nil _ _ hlogs.symm

end Sys2Proof.Machine

/-! PROOFS. The mirror records of the active on its standby (R376 to R380): how a record is taken in its turn, and what each of them does. -/

namespace Sys2Proof.Machine
open Sys2Proof Host

/-! ### A record in its turn (R374, R377, R380) -/

/-- The standby `s` as a good copy with header `h`, which comes at `t` in its turn, finds it when the record takes effect: the link and the
partner count as heard, the next MSEQ is expected, and a higher EPOCH is adopted (R368, R373, R380). -/
def turned (t : Time) (h : MirrorHdr) (s : State) : State :=
  { s with
    clock := (s.arrive t).clock
    pair := { s.pair with
      linkHeard := aput s.pair.linkHeard h.link (s.arrive t).clock.now
      lastGood := (s.arrive t).clock.now
      nextIn := h.mseq + 1
      drained := 0
      epoch := max s.pair.epoch h.epoch
      partnerLow := s.pair.partnerLow || decide (s.pair.epoch < h.epoch) } }

/-- The state once a record has been applied and no other waits behind it (R380). -/
def waitOver (v : State) : State := { v with pair.gapSince := none }

theorem takeWaiting_nil {v : State} (hwaiting : v.pair.waiting = []) (n : Nat) : takeWaiting (n + 1) v = waitOver v := by
  simp [takeWaiting, waitOver, hwaiting, afind]

theorem link_of_inTurn {h : MirrorHdr} {s : State} (hturn : inTurn h s) : decide (h.link < 2) = true := decide_eq_true hturn.1

theorem link_and_of_inTurn {h : MirrorHdr} {s : State} {b : Prop} [Decidable b] (hturn : inTurn h s) (hb : b) :
    (decide (h.link < 2) && decide b) = true := by rw [link_of_inTurn hturn, decide_eq_true hb, Bool.and_self]

theorem sensed_of_inTurn {h : MirrorHdr} {s : State} (hturn : inTurn h s) : s.pair.sensed = none := by
  obtain ⟨-, -, -, -, -, -, -, hsensed, -⟩ := hturn
  exact hsensed

theorem bulk_of_inTurn {h : MirrorHdr} {s : State} (hturn : inTurn h s) : h.bulk = false := by
  obtain ⟨-, -, -, -, -, -, -, -, hbulk⟩ := hturn
  exact hbulk

section
variable {t : Time} {h : MirrorHdr} {s : State} (hturn : inTurn h s) (hstandby : s.pair.state = .standby)
include hturn hstandby

/-- A standby no longer walks, so no record is skipped (R394). -/
theorem takeRecord_standby (i : Instr) : takeRecord h i (heardOn h.link (s.arrive t)) = applyRecord i (turned t h s) := by
  have hwalking : walking (turned t h s) = false := by simp [walking, turned, hstandby]
  unfold takeRecord
  extract_lets p w
  have hw : w = turned t h s := by simp [w, p, turned, heardOn, hstandby, sensed_of_inTurn hturn]
  rw [hw]
  split <;> simp [hwalking, bulk_of_inTurn hturn]

/-- The copy is neither a second one nor late, and no other record waits behind it (R374, R380). -/
theorem receive_inTurn {i : Instr} (hwaiting : (applyRecord i (turned t h s)).pair.waiting = []) :
    receive h i (s.arrive t) = waitOver (applyRecord i (turned t h s)) := by
  have hrecord := takeRecord_standby (t := t) hturn hstandby i
  obtain ⟨-, hup, hlink, htag, hpaired, hnone, hmseq, hsensed, -⟩ := hturn
  have hup' : (s.arrive t).isthmusUp = true := by simpa [State.isthmusUp, State.islandUp] using hup
  have hlate : tooLate (s.arrive t) = false := by simp [tooLate, hsensed]
  have htaken : receive h i (s.arrive t) =
      takeWaiting ((applyRecord i (turned t h s)).pair.waiting.length + 1) (applyRecord i (turned t h s)) := by
    rw [← hrecord]
    simp [receive, hup', hlink, htag, hpaired, hnone, hmseq, hlate, afind]
  rw [htaken, takeWaiting_nil hwaiting]

/-- A record whose effect on the pair is an answer, a handover or a release: the standby answers the state that the record gives, and has
taken it in its turn. -/
theorem exec_inTurn {i : Instr} {ok : Bool} {v : State} (hok : ok = true) (happly : applyRecord i (turned t h s) = v)
    (hpair : v.pair = { (turned t h s).pair with mseqOut := v.pair.mseqOut, handover := v.pair.handover, released := v.pair.released })
    (hclock : v.clock = (s.arrive t).clock) :
    ∃ x p, onInst ok (receive h i (s.arrive t)) = .next { v with hlt := x, pair := p } ∧ takenIn h s { v with hlt := x, pair := p } ∧
      p = { v.pair with gapSince := none } := by
  have hwaiting : (applyRecord i (turned t h s)).pair.waiting = [] := by
    obtain ⟨-, -, -, -, -, hnone, -⟩ := hturn
    rw [happly, hpair]
    exact hnone
  refine ⟨(settle (waitOver v)).hlt, { v.pair with gapSince := none }, ?_, ?_, rfl⟩
  · rw [onInst_of_true hok, receive_inTurn hturn hstandby hwaiting, happly, settle_eq]
    rfl
  · simp only [takenIn]
    rw [hclock, hpair]
    exact ⟨rfl, rfl, afind_aput_same _ _ _, rfl⟩

end

/-! ### What each record does (R378) -/

section
variable {t : Time} {h : MirrorHdr} {s : State}

/-- A standby applies the active's records (R378). -/
theorem follows_turned (hstandby : s.pair.state = .standby) : (turned t h s).follows = true := by simp [State.follows, turned, hstandby]

/-- A standby mirrors nothing itself (R376). -/
theorem mirrors_standby (hstandby : s.pair.state = .standby) : s.mirrors = false := by simp [State.mirrors, hstandby]

theorem mirror_standby (hstandby : s.pair.state = .standby) (b : Body) (a : Option Await) : mirror b a s = s := by
  rw [mirror, mirrors_standby hstandby]
  rfl

/-- Where a record asks for it, the answer takes the next MSEQ and a COMMIT leaves (R376, R378). -/
theorem answer_linked (h : MirrorHdr) (hlinked : s.linked = true) : answer h s = { s with
    pair := { s.pair with mseqOut := if h.commitReq then s.pair.mseqOut + 1 else s.pair.mseqOut }
    sent := (if h.commitReq then [.record false false (s.pair.mseqOut + 1) s.pair.epoch (.commit h.mseq true)] else []) ++ s.sent } := by
  unfold answer commitTo emit emitAs State.out
  cases h.commitReq <;> simp [hlinked]

/-- A record that is answered where it asks for it: what it leaves of the pair beside the answer is a handover. -/
theorem exec_answered (hturn : inTurn h s) (hstandby : s.pair.state = .standby) {i : Instr} {ok : Bool} {v : State} (hok : ok = true)
    (happly : applyRecord i (turned t h s) = answer h v)
    (hpair : v.pair = { (turned t h s).pair with handover := v.pair.handover }) (hclock : v.clock = (s.arrive t).clock)
    (hstart : v.start = s.start) (hhlt : v.hlt = s.hlt) (hsent : v.sent = s.sent) :
    ∃ x p l, onInst ok (receive h i (s.arrive t)) = .next { v with hlt := x, pair := p, sent := l } ∧
      takenIn h s { v with hlt := x, pair := p, sent := l } ∧ answered h s { v with hlt := x, pair := p, sent := l } ∧
      p.handover = v.pair.handover := by
  have hlinked : v.linked = true := by
    obtain ⟨-, hup, -, -, hpaired, -⟩ := hturn
    have hpaired' : v.pair.paired = true := by rw [hpair]; exact hpaired
    simp only [State.isthmusUp, State.islandUp] at hup
    simpa [State.linked, State.isthmusUp, State.islandUp, hpaired', hstart, hhlt] using hup
  obtain ⟨x, p, hexec, htaken, hp⟩ := exec_inTurn hturn hstandby hok (happly.trans (answer_linked h hlinked))
    (by dsimp only; rw [hpair]) hclock
  refine ⟨x, p, _, hexec, htaken, ?_, by rw [hp]⟩
  rw [answered, hsent, hp, hpair]
  rfl

/-- A charge enters accounts only. -/
theorem charge_eq (c p : Nat) (a : Time) (n : Nat) (camp : Bool) (s : State) :
    charge c p a n camp s = { s with txm := { s.txm with accounts := (charge c p a n camp s).txm.accounts } } := by
  unfold charge
  generalize (accountsOf s c p a 0 ++ if camp then accountsOf s c p a 2 else []) = l
  induction l generalizing s with
  | nil => rfl
  | cons x l ih => rw [List.foldl_cons, ih]; rfl

/-- A shift of TIME_RATE leaves device time and the offset alone. -/
theorem slewTo_eq (lim : Nat) (off : Int) (s : State) : slewTo lim off s = { s with
    regs := (slewTo lim off s).regs, sch := (slewTo lim off s).sch, free := (slewTo lim off s).free
    timer := { s.timer with
      rates := (slewTo lim off s).timer.rates, slewing := (slewTo lim off s).timer.slewing, base := (slewTo lim off s).timer.base } } := by
  unfold slewTo
  dsimp only
  (repeat' split) <;> rfl

/-- An ENTRY with an UPLINK header that asks for an acknowledgement and matches no held candidate is OWED (R302). -/
theorem applyEntry_owed {g : Nat} {e : EntryHdr} (hkind : e.kind = 1) (hack : e.ackReq = true) (hnew : entryOf s e.jsn = none)
    (hcands : s.jrn.cands = []) : applyEntry h g e s = answer h { s with jrn := { s.jrn with
      nextJsn := max s.jrn.nextJsn (e.jsn + 1)
      entries := s.jrn.entries ++ [{ hdr := e, state := .owed, group := mirroredGroup g, mirrored := true
                                     leave := ((bookOf s g).map fun b => b.leaveTime).getD 0
                                     deadline := ((bookOf s g).map fun b => b.deadline).getD 0 }]
      payloads := adel s.jrn.payloads g } } := by
  have hnew' : s.jrn.entries.find? (fun x => x.hdr.jsn == e.jsn) = none := hnew
  simp [applyEntry, applyUplink, entryOf, bookOf, hnew', hkind, hack, hcands]

theorem applyEntry_void {g : Nat} {e : EntryHdr} (hkind : e.kind = 2) (hnew : entryOf s e.jsn = none) :
    applyEntry h g e s = answer h { s with jrn := { s.jrn with
      nextJsn := max s.jrn.nextJsn (e.jsn + 1)
      entries := s.jrn.entries ++ [{ hdr := e, state := .void, mirrored := true }] } } := by
  have hnew' : s.jrn.entries.find? (fun x => x.hdr.jsn == e.jsn) = none := hnew
  simp [applyEntry, entryOf, hnew', hkind]

/-- Entry `e` of JSN `j` as it is voided at `now` on a chip that awaits no commit (R308, R312). -/
def voidedAt (j : Nat) (now : Time) (e : Entry) : Entry :=
  if e.hdr.jsn = j then { e with
    state := .void, waits := false, frame := none
    hdr := { e.hdr with kind := 2, length := 0, endTime := now } } else e

theorem count_bumpRegs {v : State} (hregs : v.regs = s.regs) (c : Counter) (i : Nat) :
    ({ s with regs := (bump c i v).regs } : State).count c i = min 0xFFFFFFFF (s.count c i + 1) :=
  (count_of_regs rfl c i).trans (count_bump_of_regs hregs c i)

/-- A mirrored entry without lanes and template here becomes VOID and is counted on a standby, which mirrors nothing on (R308, R310). -/
theorem voidEntry_standby {j : Nat} {e : Entry} (hstandby : s.pair.state = .standby) (hentry : entryOf s j = some e)
    (hmirrored : e.mirrored = true) (hgroup : s.groupOf e.group = none) (hacks : afind s.txm.acks e.group = none) :
    ∃ r, voidEntry j s = { s with
        regs := r
        jrn := { s.jrn with entries := s.jrn.entries.map (voidedAt j s.clock.now) } } ∧
      ({ s with regs := r } : State).count cJrnVoid 0 = min 0xFFFFFFFF (s.count cJrnVoid 0 + 1) := by
  have hcommits : s.commits = false := by simp [State.commits, mirrors_standby hstandby]
  have hvoid : voidEntry j s = bump cJrnVoid 0 { s with jrn := { s.jrn with entries := s.jrn.entries.map (voidedAt j s.clock.now) } } := by
    simp only [voidEntry, hentry, hcommits, hmirrored, if_true]
    rw [mirror_standby (by exact hstandby), dropAck]
    simp only [bump_txm, modEntry, hacks]
    rw [groupSettle]
    simp only [State.groupOf, bump_lane]
    simp only [State.groupOf] at hgroup
    rw [hgroup]
    rfl
  exact ⟨_, hvoid.trans (bump_eq ..), count_bumpRegs rfl _ _⟩

/-- The ceiling of the NODE keys is recorded in both copies and kept (R283). -/
theorem recordCeiling_standby (hstandby : s.pair.state = .standby) (id v : Nat) : recordCeiling 9 id v s = { s with
    key := { s.key with nodeCeiling := max s.key.nodeCeiling v, ceilingDue := false }
    flash := { s.flash with
      jrnA := s.flash.jrnA.append (ceilRec 9 id v)
      jrnB := s.flash.jrnB.append (ceilRec 9 id v) } } := by
  rw [recordCeiling, mirror_standby (by exact hstandby)]
  rfl

theorem afind_amod_same {α : Type} (m : List (Nat × α)) (k : Nat) (f : α → α) : afind (amod m k f) k = (afind m k).map f := by
  have hmap : amod m k f = m.map fun x => (x.1, if x.1 = k then f x.2 else x.2) :=
    List.map_congr_left fun x _ => by split <;> rfl
  rw [hmap, afind_map fun j a => if j = k then f a else a]
  simp

theorem afind_amod_of_some {α : Type} {m : List (Nat × α)} {k : Nat} {a : α} (f : α → α) (h : afind m k = some a) :
    afind (amod m k f) k = some (f a) := by rw [afind_amod_same, h, Option.map_some]

theorem applyCeilings_node {e : Eui} {i v f c : Nat} (hindex : s.indexOf e = some i) : applyCeilings ⟨[(e, v)], some f, some c⟩ s = { s with
    fwd := { s.fwd with
      nodes := amod s.fwd.nodes i fun n => { n with sec := { n.sec with txFc := max n.sec.txFc v } }
      floodCeiling := max s.fwd.floodCeiling f }
    flash := { s.flash with epochCeiling := max s.flash.epochCeiling c } } := by
  simp [applyCeilings, hindex, State.modNode]

/-- A new node's entry is inserted under the mirrored INDEX (R365). -/
theorem applyNode_new {e : Eui} {i : Nat} {relay : Bool} {pan : BitVec 16} {p : NodePlace} (hindex : s.indexOf e = none)
    (hplace : anyPlace s e = some p) : applyNode true e i relay pan none s = { s with
      fwd := { s.fwd with nodes := aput s.fwd.nodes i { freshNode s e pan p with role := relay.toNat } } } := by
  simp [applyNode, hindex, hplace]

/-- A change that is not of the bulk copy waits for its effective ASN (R244). -/
theorem applySchedule_live {c : SchedChange} (hstandby : s.pair.state = .standby) (hbulk : h.bulk = false) : applySchedule h c s = { s with
    sch := { s.sch with startAsn := c.start.orElse fun _ => s.sch.startAsn, changes := s.sch.changes ++ [c] } } := by
  simp [applySchedule, hstandby, hbulk]

/-- Once its one step has been taken, a standby slews towards the active's time (R238, R241). -/
theorem applyTime_stepped {p : Time} (hstepped : s.timer.stepped = true) : applyTime p s =
    slewTo 320 ((s.clock.now : Int) - p) { s with timer := { s.timer with offset := (s.clock.now : Int) - p } } := by
  simp [applyTime, mayStep, hstepped]

theorem applyHandover_standby {th : Time} {e : Nat} (hstandby : s.pair.state = .standby) : applyHandover h th e s =
    answer h { s with pair := { s.pair with handover := some ⟨th, e, none, false, true⟩ } } := by
  simp [applyHandover, hstandby]

/-- A standby that has not sensed the token free takes nothing (R396). -/
theorem applyReleased_unsensed (hsensed : s.pair.sensed = none) : applyReleased s = { s with pair := { s.pair with released := true } } := by
  simp [applyReleased, hsensed]

end

/-- Settles O20, record by record: each takes effect in its turn, on the standby as its arrival leaves it. -/
theorem mirrorRecords : Obligations.MirrorRecords := by
  refine ⟨?_, ?_, ?_, ?_, ?_, ?_, ?_, ?_, ?_, ?_, ?_, ?_, ?_, ?_, ?_, ?_⟩
  · intro t h g n s hturn hstandby hg
    have happly : applyRecord (.payloadRecord t h g n) (turned t h s) = _ := if_pos (follows_turned hstandby)
    obtain ⟨x, p, hexec, htaken, -⟩ := exec_inTurn hturn hstandby (link_and_of_inTurn hturn hg) happly rfl rfl
    exact ⟨_, (exec_payloadRecord ..).trans hexec, htaken, afind_aput_same _ _ _, rfl⟩
  · intro t h g e s hturn hstandby hg hkind hack hnew hcands
    have heffect := applyEntry_owed (s := turned t h s) (h := h) (g := g) hkind hack hnew hcands
    have happly : applyRecord (.entryRecord t h g e) (turned t h s) = _ := (if_pos (follows_turned hstandby)).trans heffect
    obtain ⟨x, p, l, hexec, htaken, hanswered, -⟩ := exec_answered hturn hstandby (link_and_of_inTurn hturn hg) happly rfl rfl rfl rfl rfl
    exact ⟨_, (exec_entryRecord ..).trans hexec, htaken, hanswered, rfl, rfl, rfl⟩
  · intro t h g e s hturn hstandby hg hkind hnew
    have heffect := applyEntry_void (s := turned t h s) (h := h) (g := g) hkind hnew
    have happly : applyRecord (.entryRecord t h g e) (turned t h s) = _ := (if_pos (follows_turned hstandby)).trans heffect
    obtain ⟨x, p, l, hexec, htaken, hanswered, -⟩ := exec_answered hturn hstandby (link_and_of_inTurn hturn hg) happly rfl rfl rfl rfl rfl
    exact ⟨_, (exec_entryRecord ..).trans hexec, htaken, hanswered, rfl, rfl⟩
  · intro t h b s hturn hstandby
    have happly : applyRecord (.ackBookRecord t h b) (turned t h s) = _ := (if_pos (follows_turned hstandby)).trans (charge_eq ..)
    obtain ⟨x, p, hexec, htaken, -⟩ := exec_inTurn hturn hstandby (link_of_inTurn hturn) happly rfl rfl
    exact ⟨_, (exec_ackBookRecord ..).trans hexec, htaken, rfl, rfl⟩
  · intro t h j e s hturn hstandby hentry hmirrored hgroup hacks
    obtain ⟨r, heffect, hcount⟩ := voidEntry_standby (s := turned t h s) hstandby hentry hmirrored hgroup hacks
    have happly : applyRecord (.voidRecord t h j) (turned t h s) = _ :=
      (if_pos (follows_turned hstandby)).trans (congrArg (answer h) heffect)
    obtain ⟨x, p, l, hexec, htaken, hanswered, -⟩ := exec_answered hturn hstandby (link_of_inTurn hturn) happly rfl rfl rfl rfl rfl
    exact ⟨_, (exec_voidRecord ..).trans hexec, htaken, hanswered, rfl, hcount, rfl⟩
  · intro t h d y s hturn hstandby
    have happly : applyRecord (.dlRecord t h (.begun d y)) (turned t h s) = _ := if_pos (follows_turned hstandby)
    obtain ⟨x, p, l, hexec, htaken, hanswered, -⟩ := exec_answered hturn hstandby (link_of_inTurn hturn) happly rfl rfl rfl rfl rfl
    exact ⟨_, (exec_dlRecord ..).trans hexec, htaken, hanswered, rfl, rfl⟩
  · intro t h e i v f c n s hturn hstandby hindex hnode
    have heffect := applyCeilings_node (s := turned t h s) (v := v) (f := f) (c := c) hindex
    have happly : applyRecord (.ceilingRecord t h ⟨[(e, v)], some f, some c⟩) (turned t h s) = _ :=
      (if_pos (follows_turned hstandby)).trans heffect
    obtain ⟨x, p, hexec, htaken, -⟩ := exec_inTurn hturn hstandby (link_of_inTurn hturn) happly rfl rfl
    refine ⟨_, (exec_ceilingRecord ..).trans hexec, htaken, ?_, rfl, rfl, rfl⟩
    dsimp only [turned, State.nodeAt]
    rw [afind_amod_of_some _ hnode]
  · intro t h j s hturn hstandby hj
    have heffect : applyAckPoint j (turned t h s) = _ := if_neg (by exact Nat.not_le.mpr hj)
    have happly : applyRecord (.ackPointRecord t h j) (turned t h s) = _ := (if_pos (follows_turned hstandby)).trans heffect
    obtain ⟨x, p, hexec, htaken, -⟩ := exec_inTurn hturn hstandby (link_of_inTurn hturn) happly rfl rfl
    exact ⟨_, (exec_ackPointRecord ..).trans hexec, htaken, rfl, rfl, rfl⟩
  · intro t h n c w a b s hturn hstandby
    have happly : applyRecord (.sessionRecord t h n c w a b) (turned t h s) = _ := if_pos (follows_turned hstandby)
    obtain ⟨x, p, hexec, htaken, -⟩ := exec_inTurn hturn hstandby (link_of_inTurn hturn) happly rfl rfl
    exact ⟨_, (exec_sessionRecord ..).trans hexec, htaken, rfl, rfl, rfl, rfl, rfl,
      BitVec.extractLsb'_append_extractLsb' (w := 256) (len := 256) (x := sessionKeys (persistentKey s 6 0) a b n), rfl⟩
  · intro t h c s hturn hstandby
    have heffect := applySchedule_live (s := turned t h s) (c := c) hstandby (bulk_of_inTurn hturn)
    have happly : applyRecord (.scheduleRecord t h c) (turned t h s) = _ := (if_pos (follows_turned hstandby)).trans heffect
    obtain ⟨x, p, hexec, htaken, -⟩ := exec_inTurn hturn hstandby (link_of_inTurn hturn) happly rfl rfl
    exact ⟨_, (exec_scheduleRecord ..).trans hexec, htaken, rfl, rfl, rfl⟩
  · intro t h id v s hturn hstandby
    have heffect := congrArg (answer h) (recordCeiling_standby (s := turned t h s) hstandby id v)
    have happly : applyRecord (.keyRecord t h (.ceiling 9 id v)) (turned t h s) = _ := (if_pos (follows_turned hstandby)).trans heffect
    obtain ⟨x, p, l, hexec, htaken, hanswered, -⟩ := exec_answered hturn hstandby (link_of_inTurn hturn) happly rfl rfl rfl rfl rfl
    exact ⟨_, (exec_keyRecord ..).trans hexec, htaken, hanswered, rfl, rfl⟩
  · intro t h e i relay pan y s hturn hstandby hi hindex hplace
    have heffect := applyNode_new (s := turned t h s) (i := i) (relay := relay) (pan := pan) hindex hplace
    have happly : applyRecord (.nodeRecord t h true e i relay pan none) (turned t h s) = _ := (if_pos (follows_turned hstandby)).trans heffect
    obtain ⟨x, p, hexec, htaken, -⟩ := exec_inTurn hturn hstandby (link_and_of_inTurn hturn hi) happly rfl rfl
    exact ⟨_, (exec_nodeRecord ..).trans hexec, htaken, congrArg _ (afind_aput_same _ _ _), rfl⟩
  · intro t h c r k y s hturn hstandby hcamp
    have happly : applyRecord (.campaignRecord t h (.checkpoint c r k 3)) (turned t h s) = _ := if_pos (follows_turned hstandby)
    obtain ⟨x, p, l, hexec, htaken, hanswered, -⟩ := exec_answered hturn hstandby (link_of_inTurn hturn) happly rfl rfl rfl rfl rfl
    refine ⟨_, (exec_campaignRecord ..).trans hexec, htaken, hanswered, ?_, rfl⟩
    dsimp only [turned]
    rw [afind_amod_of_some _ hcamp]
    rfl
  · intro t h y s hturn hstandby hstepped
    have heffect := (applyTime_stepped (s := turned t h s) (p := y) hstepped).trans (slewTo_eq ..)
    have happly : applyRecord (.timeRecord t h y) (turned t h s) = _ := (if_pos (follows_turned hstandby)).trans heffect
    obtain ⟨x, p, hexec, htaken, -⟩ := exec_inTurn hturn hstandby (link_of_inTurn hturn) happly rfl rfl
    exact ⟨_, (exec_timeRecord ..).trans hexec, htaken, rfl, rfl⟩
  · intro t h th e s hturn hstandby
    have heffect := applyHandover_standby (s := turned t h s) (h := h) (th := th) (e := e) hstandby
    have happly : applyRecord (.handoverRecord t h th e) (turned t h s) = _ := (if_pos (follows_turned hstandby)).trans heffect
    obtain ⟨x, p, l, hexec, htaken, hanswered, hhandover⟩ := exec_answered hturn hstandby (link_of_inTurn hturn) happly rfl rfl rfl rfl rfl
    exact ⟨_, (exec_handoverRecord ..).trans hexec, htaken, hanswered, hhandover, rfl⟩
  · intro t h m s hturn hstandby
    have heffect := applyReleased_unsensed (s := turned t h s) (show s.pair.sensed = none from sensed_of_inTurn hturn)
    have happly : applyRecord (.releasedRecord t h m) (turned t h s) = _ := (if_pos (follows_turned hstandby)).trans heffect
    obtain ⟨x, p, hexec, htaken, hp⟩ := exec_inTurn hturn hstandby (link_of_inTurn hturn) happly rfl rfl
    exact ⟨_, (exec_releasedRecord ..).trans hexec, htaken, by rw [hp], rfl⟩

end Sys2Proof.Machine

/-! PROOFS. What the calibration commands make of each estimate (R213 to R232): snippets, stream blocks, gain updates, delay solutions,
generation requests, sweeps, records and restores. -/

namespace Sys2Proof.Machine
open Sys2Proof Host

/-! ### What the arrival of a command leaves of what calibration reads -/

/-- The centre frequency of a stream is read from FH_POOL and the head's registers (R132). -/
theorem streamCentre_congr {s u : State} (htables : u.tables = s.tables) (hfh : u.fh = s.fh) (st : Nat) :
    streamCentre u st = streamCentre s st := by
  rw [streamCentre, streamCentre, State.entry, State.entry, htables]
  simp only [port_of_fh hfh]

section
variable (s : State) (t : Time)

@[simp] theorem fld_arrive (a lo w : Nat) : (s.arrive t).fld a lo w = s.fld a lo w := by simp [State.fld]

@[simp] theorem signedAt_arrive (a i lo w : Nat) : (s.arrive t).signedAt a i lo w = s.signedAt a i lo w := by simp [State.signedAt]

@[simp] theorem entry_arrive (id i : Nat) : (s.arrive t).entry id i = s.entry id i := by simp [State.entry]

@[simp] theorem leads_arrive : (s.arrive t).leads = s.leads := by simp [State.leads]

@[simp] theorem packetUp_arrive : (s.arrive t).packetUp = s.packetUp := by simp [State.packetUp, State.islandUp]

@[simp] theorem headUp_arrive (h : Nat) : (s.arrive t).headUp h = s.headUp h := by simp [State.headUp]

@[simp] theorem quay_arrive (q : Nat) : (s.arrive t).quay q = s.quay q := by simp [State.quay]

@[simp] theorem consumes_arrive (a : Agent) (q : Nat) : consumes (s.arrive t) a q = consumes s a q := by simp [consumes]

@[simp] theorem calEnabled_arrive (h : Nat) : calEnabled (s.arrive t) h = calEnabled s h := by simp [calEnabled]

@[simp] theorem floorMedian_arrive (h : Nat) : floorMedian (s.arrive t) h = floorMedian s h := by simp [floorMedian, State.floor]

@[simp] theorem siteOf_arrive (h : Nat) : siteOf (s.arrive t) h = siteOf s h := by simp [siteOf]

@[simp] theorem delayMeans_arrive : delayMeans (s.arrive t) = delayMeans s := by simp [delayMeans]

@[simp] theorem headIdOf_arrive (h : Nat) : headIdOf (s.arrive t) h = headIdOf s h := by simp [headIdOf]

@[simp] theorem txCentre_arrive (n : Nat) : txCentre (s.arrive t) n = txCentre s n := by simp [txCentre]

@[simp] theorem streamCentre_arrive (st : Nat) : streamCentre (s.arrive t) st = streamCentre s st :=
  streamCentre_congr (arrive_tables s t) (arrive_fh s t) st

@[simp] theorem sweepChannels_arrive (h : Nat) : sweepChannels (s.arrive t) h = sweepChannels s h := by
  simp [sweepChannels, validChannels, channelOf, State.entries]

@[simp] theorem sweepHears_arrive (h j : Nat) : sweepHears (s.arrive t) h j = sweepHears s h j := by simp [sweepHears, coversHz]

end

theorem headCal_modCal_other (s : State) (f : HeadCal → HeadCal) {h j : Nat} (hj : j ≠ h) : (s.modCal h f).headCal j = s.headCal j := by
  rw [State.headCal, State.headCal, State.modCal, afind_aput_other _ _ hj]

/-- A change of one head's calibration changes nothing beside it. -/
theorem modCal_eq (s : State) (h : Nat) (f : HeadCal → HeadCal) :
    s.modCal h f = { s with cal := { s.cal with heads := (s.modCal h f).cal.heads } } := rfl

/-! ### Snippets (R183, R213, R229) -/

/-- The hardware takes the words of a sound item from the head of a quay that it consumes (R443, R446). -/
theorem hardwareTake_sound {q : Nat} {y : QItem} {r : List QItem} {s : State} (hup : s.packetUp = true)
    (hconsumes : consumes s .hardware q = true) (hitems : (s.quay q).items = y :: r) (hsound : y.poison = false) :
    ∃ m : Mem, ((afind m.quays q).getD {}).items = r ∧ hardwareTake q s = (some y.words, { s with msys := m }) := by
  refine ⟨_, ?_, by simp only [hardwareTake, hup, hconsumes, hitems, hsound, beginItem, setQuay]; rfl⟩
  simp only [afind_aput_same, Option.getD_some]

theorem snippetCarrier_congr {s u : State} (htables : u.tables = s.tables) (hfh : u.fh = s.fh) (h : SnippetHdr) :
    snippetCarrier u h = snippetCarrier s h := by
  rw [snippetCarrier, snippetCarrier, carrier, carrier, streamCentre_congr htables hfh]

/-- A snippet of a known node gives its carrier as the snippet's head hears it, and changes the node's entry (R216, R229). -/
theorem nodeEstimate_known {h : SnippetHdr} {x : Snippet} {s : State} {i : Nat} (hindex : s.indexOf x.node = some i) (set : RxSet) :
    ∃ v : State, nodeEstimate h x set s = v ∧ v = { s with cal := v.cal, fwd := v.fwd } ∧
      v.cal.carriers = aput s.cal.carriers x.node.toNat (aput ((afind s.cal.carriers x.node.toNat).getD []) h.head
        (inTenthPpb x.freqObs (snippetCarrier s h).toNat + set.lo - (s.headCal h.head).cand.lo)) := by
  unfold nodeEstimate
  rw [hindex]
  exact ⟨_, rfl, rfl, rfl⟩

/-- A weak snippet of another device updates its node's estimates only (R214). -/
theorem useSnippet_weak {x : Snippet} (hother : x.own = false) (hweak : x.snr < 24) (h : SnippetHdr) (set : RxSet) (s : State) :
    useSnippet h x set s = nodeEstimate h x set (bump cCalSnippets 0 s) := by
  simp [useSnippet, hother, hweak]

/-- The engine takes the snippet at the head of its quay; whether it uses it depends on the generation alone, unless it is one of a re-run
(R212). -/
theorem execCalSnippet_taken {t : Time} {q : Nat} {y : QItem} {r : List QItem} {h : SnippetHdr} (x : Snippet) {s : State}
    (hup : s.sampleUp = true) (hpacket : s.packetUp = true) (hq : s.fld rLaneCtrl 16 6 = q) (hconsumes : consumes s .hardware q = true)
    (hitems : (s.quay q).items = y :: r) (hsound : y.poison = false) (hread : snippetRead y.words = h) (hfirst : h.rerun = false) :
    ∃ m : Mem, ((afind m.quays q).getD {}).items = r ∧
      (∀ set, rxSetOf (s.headCal h.head) h.gen = some set →
        execCalSnippet t x s = .next (settle (useSnippet h x set { s.arrive t with msys := m }))) ∧
      (rxSetOf (s.headCal h.head) h.gen = none →
        execCalSnippet t x s = .next (settle (bump cCalSnippetStale 0 { s.arrive t with msys := m }))) := by
  obtain ⟨m, hquay, htake⟩ := hardwareTake_sound (s := s.arrive t) (by simpa) (by simpa) (by simpa) hsound
  have hcal : State.headCal { s.arrive t with msys := m } h.head = s.headCal h.head := headCal_of_cal (arrive_cal s t) _
  refine ⟨m, hquay, fun set hset => ?_, fun hset => ?_⟩
  all_goals
    rw [execCalSnippet, onInst_true]
    dsimp only
    rw [sampleUp_arrive, hup, fld_arrive, hq, htake]
    dsimp only
    rw [hread, hfirst, hcal, hset]
    rfl

/-! ### Estimates from the stream (R133, R215, R217) -/

/-- A block with valid samples moves the DC and IQ candidates (R215). -/
theorem execCalStreamBlock_valid {t : Time} {h : Nat} {b : BlockSums} {s : State} (hh : h < 36) (hfh : h < 32) (hup : s.sampleUp = true)
    (henabled : calEnabled s h = true) (hvalid : b.count ≠ 0) :
    execCalStreamBlock t h b [] 0 s = .next (settle ((s.arrive t).modCal h fun c => { c with cand := { c.cand with
      dcI := clampTo 4096 (ewma 8 c.cand.dcI (rdiv b.i b.count)), dcQ := clampTo 4096 (ewma 8 c.cand.dcQ (rdiv b.q b.count)),
      iqGain := clampTo 300 (ewma 16 c.cand.iqGain (iqGainOf b)),
      iqPhase := clampTo 1000 (ewma 16 c.cand.iqPhase
        (Config.iqPhaseOf (rdiv b.iq b.count) (rdiv b.ii b.count) (rdiv b.qq b.count))) } })) := by
  rw [execCalStreamBlock, onInst_of hh]
  simp [hup, henabled, hvalid, Nat.not_le.mpr hfh]

/-- A block without one only counts what saturated (R133, R215). -/
theorem execCalStreamBlock_saturated {t : Time} {h st : Nat} {b : BlockSums} {s : State} (n : Nat) (hh : h < 36) (hfh : h < 32)
    (hup : s.sampleUp = true) (hinvalid : b.count = 0) (hst : st < 128) (hstream : streamHead s st = some h) :
    execCalStreamBlock t h b [(st, n)] 0 s = .next (settle (bumpBy cChnSat st n (s.arrive t))) := by
  rw [execCalStreamBlock, onInst_of hh]
  simp [hup, hinvalid, hst, hstream, Nat.not_le.mpr hfh]

/-- RX_GAIN moves towards the gain that sets the median bin floor to NOISE_REF (R217). -/
theorem execCalGainUpdate_valid {t : Time} {h : Nat} {s : State} (hh : h < 36) (hup : s.sampleUp = true)
    (henabled : calEnabled s h = true) (hvalid : validStreams s h ≠ []) :
    execCalGainUpdate t h s = .next (settle ((s.arrive t).modCal h fun c => { c with cand := { c.cand with
      gain := clampTo 400 (ewma 8 c.cand.gain (c.rx.gain + 5 * s.signedAt rCalNoise 0 0 16 - floorMedian s h)) } })) := by
  rw [execCalGainUpdate, onInst_of hh]
  simp [hup, henabled, hvalid]

/-! ### The delay solution (R219) -/

/-- An accepted solution gives a head its delay candidates on top of its link's delays, and leaves the set in force. -/
theorem headCal_solveHead (h : Nat) (rx tx : Int) (s : State) :
    ((solveHead h rx tx s).headCal h).cand.dly = (s.headCal h).baseRx + rx ∧
    ((solveHead h rx tx s).headCal h).txCand.dly = (s.headCal h).baseTx + tx ∧
    ((solveHead h rx tx s).headCal h).rx = (s.headCal h).rx := by
  rw [solveHead, headCal_modCal_same]
  dsimp only
  split <;> exact ⟨rfl, rfl, rfl⟩

theorem headCal_solveHead_other {h j : Nat} (hj : j ≠ h) (rx tx : Int) (s : State) : (solveHead h rx tx s).headCal j = s.headCal j :=
  headCal_modCal_other _ _ hj

/-- A solution `l` over several heads takes effect head by head. -/
def solveHeads (l : List (Nat × Int × Int)) (s : State) : State := l.foldl (fun s v => solveHead v.1 v.2.1 v.2.2 s) s

theorem solveHeads_cons (v : Nat × Int × Int) (l : List (Nat × Int × Int)) (s : State) :
    solveHeads (v :: l) s = solveHeads l (solveHead v.1 v.2.1 v.2.2 s) := rfl

theorem solveHeads_eq (l : List (Nat × Int × Int)) (s : State) :
    solveHeads l s = { s with cal := { s.cal with heads := (solveHeads l s).cal.heads } } := by
  induction l generalizing s with
  | nil => rfl
  | cons v l ih =>
    rw [solveHeads_cons, ih]
    rfl

theorem headCal_solveHeads_other {l : List (Nat × Int × Int)} {j : Nat} (hj : ∀ v ∈ l, j ≠ v.1) (s : State) :
    (solveHeads l s).headCal j = s.headCal j := by
  induction l generalizing s with
  | nil => rfl
  | cons v l ih =>
    obtain ⟨hv, hl⟩ := List.forall_mem_cons.mp hj
    exact (ih hl _).trans (headCal_solveHead_other hv _ _ s)

/-- Each head of a solution that names none twice has its delays from it. -/
theorem headCal_solveHeads {l : List (Nat × Int × Int)} (hnodup : (l.map fun v => v.1).Nodup) (s : State) : ∀ v ∈ l,
    ((solveHeads l s).headCal v.1).cand.dly = (s.headCal v.1).baseRx + v.2.1 ∧
    ((solveHeads l s).headCal v.1).txCand.dly = (s.headCal v.1).baseTx + v.2.2 ∧
    ((solveHeads l s).headCal v.1).rx = (s.headCal v.1).rx := by
  induction l generalizing s with
  | nil => simp
  | cons w l ih =>
    obtain ⟨hw, hl⟩ := List.nodup_cons.mp hnodup
    have hrest : ∀ v ∈ l, w.1 ≠ v.1 := fun v hv h => hw (List.mem_map.mpr ⟨v, hv, h.symm⟩)
    rw [solveHeads_cons]
    refine List.forall_mem_cons.mpr ⟨?_, fun v hv => ?_⟩
    · rw [headCal_solveHeads_other hrest]
      exact headCal_solveHead w.1 w.2.1 w.2.2 s
    · rw [← headCal_solveHead_other (hrest v hv).symm w.2.1 w.2.2 s]
      exact ih hl _ v hv

section
variable {d : List (Nat × Nat × Int)} {hs : List Nat} (hall : (d.all fun x => hs.contains x.1 && hs.contains x.2.1) = true)
include hall

/-- Where all the means lie between heads of the one set, its solution is over all of them. -/
theorem filter_between_eq_self : (d.filter fun x => hs.contains x.1 && hs.contains x.2.1) = d :=
  List.filter_eq_self.mpr (List.all_eq_true.mp hall)

/-- A solution whose residuals do not exceed 4 ns RMS takes effect. -/
theorem applySolution_accepted
    (hfits : (solveSet hs d).2 ≤ 64 * 64 * (d.filter fun x => hs.contains x.1 && hs.contains x.2.1).length) (s : State) :
    applySolution d hs s = solveHeads (solveSet hs d).1 s := by
  rw [filter_between_eq_self hall] at hfits
  rw [applySolution, filter_between_eq_self hall]
  exact if_neg (Nat.not_lt.mpr hfits)

theorem applySolution_discarded
    (hmisses : 64 * 64 * (d.filter fun x => hs.contains x.1 && hs.contains x.2.1).length < (solveSet hs d).2) (s : State) :
    applySolution d hs s = bump cCalSolveFail 0 s := by
  rw [filter_between_eq_self hall] at hmisses
  rw [applySolution, filter_between_eq_self hall]
  exact if_pos hmisses

end

/-- The first solution is over the one set that can be solved, and begins the next observations (R219). -/
theorem execCalDelaySolve_first {t : Time} {d : List (Nat × Nat × Int)} {hs : List Nat} {s : State} (hup : s.sampleUp = true)
    (hfirst : s.cal.solvedAt = none) (hmeans : delayMeans s = d) (hsets : solveSets d = [hs]) :
    execCalDelaySolve t s = .next (settle (applySolution d hs { s.arrive t with
      cal := { s.cal with solvedAt := some (s.arrive t).clock.now, pairs := [] } })) := by
  rw [execCalDelaySolve, onInst_true]
  simp [hup, hfirst, hmeans, hsets]

/-! ### Generations (R221, R222, R228) -/

theorem relatch_cal (s : State) : (relatch s).cal = s.cal := rfl

/-- The transmit candidates come into force as the next generation. -/
theorem headCal_calTxSwitch (h : Nat) (s : State) : (calTxSwitch h s).headCal h = { s.headCal h with
    txGen := ((s.headCal h).txGen + 1) % 256, tx := (s.headCal h).txCand, txWas := (s.headCal h).tx, lastTx := some s.clock.now } := by
  have hcal : (calTxSwitch h s).cal = (s.modCal h _).cal := (bump_cal ..).trans (relatch_cal _)
  rw [headCal_of_cal hcal, headCal_modCal_same]

theorem calTxSwitch_eq (h : Nat) (s : State) : calTxSwitch h s =
    { s with regs := (calTxSwitch h s).regs, cal := (calTxSwitch h s).cal, txm := (calTxSwitch h s).txm } := by
  rw [calTxSwitch, bump_eq, relatch, State.modCal]

theorem count_calTxSwitch {s u : State} (hregs : u.regs = s.regs) (h : Nat) :
    (calTxSwitch h u).count cCalGenChange 0 = min 0xFFFFFFFF (s.count cCalGenChange 0 + 1) := count_bump_of_regs hregs ..

section
variable {t : Time} {h : Nat} {s : State} (hh : h < 36) (hup : s.sampleUp = true) (hhead : s.headUp h = true)
include hh hup hhead

theorem execCalGenRequest_receive (hmoved : rxMoved h (s.headCal h) = true) (hdue : genDue (s.arrive t) (s.headCal h).lastRx = true)
    (hidle : (s.headCal h).pending = false) :
    execCalGenRequest t h false s = .next (settle ((s.arrive t).modCal h fun c => { c with pending := true })) := by
  rw [execCalGenRequest, onInst_of hh]
  simp [hup, hhead, hmoved, hdue, hidle]

theorem execCalGenRequest_transmit (hmoved : txMoved (s.headCal h) = true) (hdue : genDue (s.arrive t) (s.headCal h).lastTx = true) :
    execCalGenRequest t h true s = .next (settle (calTxSwitch h (s.arrive t))) := by
  rw [execCalGenRequest, onInst_of hh]
  simp [hup, hhead, hmoved, hdue]

end

/-! ### Sweeps (R227) -/

theorem headCal_freeClampOf (act n : Nat) (s : State) (h : Nat) : (freeClampOf act n s).headCal h = s.headCal h :=
  headCal_of_cal (by rw [freeClampOf_eq]) h

@[simp] theorem freeClampOf_pair (act n : Nat) (s : State) : (freeClampOf act n s).pair = s.pair := by rw [freeClampOf_eq]

@[simp] theorem modCal_pair (s : State) (h : Nat) (f : HeadCal → HeadCal) : (s.modCal h f).pair = s.pair := rfl

theorem headCal_sweepSkip (h : Nat) (s : State) : (sweepSkip h s).headCal h =
    { s.headCal h with sweeping := false, sweepAt := some (s.clock.now + sec 3600) } := by
  have hcal : (sweepSkip h s).cal = (s.modCal h _).cal := (bump_cal ..).trans (by rw [freeClampOf_eq])
  rw [headCal_of_cal hcal, headCal_modCal_same]

theorem sweepSkip_eq (h : Nat) (s : State) : sweepSkip h s =
    { s with hlt := (sweepSkip h s).hlt, regs := (sweepSkip h s).regs, cal := (sweepSkip h s).cal } := by
  rw [sweepSkip, bump_eq, freeClampOf_eq, State.modCal]

theorem count_sweepSkip {s u : State} (hregs : u.regs = s.regs) (h : Nat) :
    (sweepSkip h u).count cCalSweepSkip 0 = min 0xFFFFFFFF (s.count cCalSweepSkip 0 + 1) :=
  count_bump_of_regs (by rw [freeClampOf_eq]; exact hregs) ..

/-- A booking takes the next number, with the use, channel and start of its request; the accounts and a counter may move beside it
(R189, R194, R206). -/
theorem bookNow_eq (q : TxReq) (s : State) : (bookNow q s).1 = s.txm.nextId ∧
    (bookNow q s).2 = { s with txm := (bookNow q s).2.txm, regs := (bookNow q s).2.regs } ∧
    ∃ b : Booking, (bookNow q s).2.txm.bookings = s.txm.bookings ++ [b] ∧
      b.id = s.txm.nextId ∧ b.use = q.use ∧ b.channel = q.channel ∧ b.start = q.start := by
  rw [bookNow]
  dsimp only
  rw [charge_eq]
  split
  · obtain ⟨regs, hbump⟩ : ∃ regs, bump cTxmPowerClip 0 s = { s with regs := regs } := ⟨_, bump_eq ..⟩
    rw [hbump]
    exact ⟨rfl, rfl, _, rfl, rfl, rfl, rfl, rfl⟩
  · exact ⟨rfl, rfl, _, rfl, rfl, rfl, rfl, rfl⟩

section
variable {t : Time} {h : Nat} {s : State} (hh : h < 36) (hup : s.sampleUp = true) (hleads : s.leads = true)
  (henabled : s.fldAt rCalHeadCtrl h 3 1 = 1) (hidle : (s.headCal h).sweeping = false) (hdue : (s.headCal h).sweepAt = none)
  (hfree : s.clamp h = {})
include hh hup hleads henabled hidle hdue hfree

/-- Before the schedule has started no cell can be freed for a sweep, which is skipped. -/
theorem execCalSweepStart_unscheduled (hstopped : s.sch.started = false) :
    execCalSweepStart t h s = .next (settle (sweepSkip h ((s.arrive t).setClamp h { holder := 2, waiting := [] }))) := by
  have hasked := askClamp_free (act := 2) ((clamp_arrive s t h).trans hfree) (by decide)
  rw [execCalSweepStart, onInst_of hh]
  simp only [sampleUp_arrive, hup, leads_arrive, hleads, fldAt_arrive, henabled, headCal_arrive, hidle, hdue, hasked, arrive_sch, hstopped]
  cases (sweepChannels (s.arrive t) h).head? <;> rfl

/-- A sweep that some head can hear, and whose carrier is admitted, holds its clamp and has its booking ready. -/
theorem execCalSweepStart_admitted {c : Nat} {cs : List Nat} (hchannels : sweepChannels s h = c :: cs) (hstarted : s.sch.started = true)
    (hhears : ((List.range 36).any fun j => sweepHears s h j) = true)
    (hadmitted : txRefusal (s.arrive t) (sweepReq (s.arrive t) h c) = none) : ∃ v : State,
      execCalSweepStart t h s = .next (settle (v.modCal h fun x => { x with sweeping := true })) ∧
      (∃ x ∈ v.txm.bookings, x.use = .sweep h ∧ x.ready = true ∧ x.channel = c ∧ x.start = (sweepReq (s.arrive t) h c).start) ∧
      v = { (s.arrive t).setClamp h { holder := 2, waiting := [] } with txm := v.txm, regs := v.regs } := by
  obtain ⟨w, hw⟩ : ∃ w, w = (s.arrive t).setClamp h { holder := 2, waiting := [] } := ⟨_, rfl⟩
  have hasked : askClamp 2 h (s.arrive t) = (true, w) := hw ▸ askClamp_free ((clamp_arrive s t h).trans hfree) (by decide)
  have hbooked : admitTx (sweepReq (s.arrive t) h c) w =
      (some (bookNow (sweepReq (s.arrive t) h c) w).1, (bookNow (sweepReq (s.arrive t) h c) w).2) := by
    have hrefusal : txRefusal w (sweepReq (s.arrive t) h c) = none := by rw [hw]; exact hadmitted
    rw [admitTx, hrefusal]
  obtain ⟨hno, hv, b, hbookings, hid, huse, hch, hstart⟩ := bookNow_eq (sweepReq (s.arrive t) h c) w
  rw [hno] at hbooked
  generalize (bookNow (sweepReq (s.arrive t) h c) w).2 = v at hbooked hbookings hv
  refine ⟨{ v with txm.bookings := v.txm.bookings.map fun x => if x.id = w.txm.nextId then { x with ready := true } else x }, ?_,
    ⟨{ b with ready := true }, List.mem_map.mpr ⟨b, ?_, if_pos hid⟩, huse, rfl, hch, hstart⟩, ?_⟩
  · rw [execCalSweepStart, onInst_of hh]
    simp only [sampleUp_arrive, hup, leads_arrive, hleads, fldAt_arrive, henabled, headCal_arrive, hidle, hdue, hasked,
      sweepChannels_arrive, hchannels, List.head?_cons, arrive_sch, hstarted, sweepHears_arrive, hhears, hbooked]
    rfl
  · rw [hbookings]
    exact List.mem_append_right _ (List.mem_singleton_self b)
  · rw [hv, hw]

end

section
variable {t : Time} {h : Nat} {s : State} (hh : h < 36) (hup : s.sampleUp = true) (hsweeping : (s.headCal h).sweeping = true)
include hh hup hsweeping

/-- What the one head that measured the sweep found replaces the transmit IQ candidates of a solo device. -/
theorem execCalSweepDone_measured {j : Nat} (g p : Int) (hsolo : s.pair.state = .solo) (hhears : sweepHears s h j = true) :
    execCalSweepDone t h [(j, g, p)] s = .next (settle (freeClampOf 2 h ((s.arrive t).modCal h fun c => { c with
      sweeping := false, sweepAt := some ((s.arrive t).clock.now + sec (3600 * s.fld rCalCtrl 16 8)),
      txCand := { c.txCand with iqGain := g, iqPhase := p } }))) := by
  have hmirror (b : Body) (a : Option Await) (u : State) (hu : u.pair = s.pair) : mirror b a u = u := mirror_solo b a (hu ▸ hsolo)
  rw [execCalSweepDone, onInst_of hh]
  simp [hup, hsweeping, hhears, medianOf, hmirror]

theorem execCalSweepDone_unmeasured : execCalSweepDone t h [] s = .next (settle (sweepSkip h (s.arrive t))) := by
  rw [execCalSweepDone, onInst_of hh]
  simp [hup, hsweeping]

end

/-! ### The persistent store (R232) -/

/-- The one head's first record is written, with the UTC second of a device locked to PTP. -/
theorem execCalRecordWrite_first {t : Time} {h : Nat} {c : HeadCal} {i : Word} {s : State} (utc : Nat) (hup : s.sampleUp = true)
    (hsole : s.cal.heads = [(h, c)]) (hid : headIdOf s h = some i) (hfirst : c.recordAt = none) (hempty : s.flash.calRecords = [])
    (hlocked : s.timer.source = 3) :
    execCalRecordWrite t utc s = .next (settle (({ s.arrive t with flash.calRecords := [⟨h, i, utc, c.rx, c.tx⟩] } : State).modCal h
      fun c => { c with recordAt := some (s.arrive t).clock.now })) := by
  have hcal : s.headCal h = c := by simp [State.headCal, hsole, afind]
  rw [execCalRecordWrite, onInst_true]
  simp [hup, hsole, hid, hcal, hfirst, hempty, hlocked]

/-- A record taken over gives the head its transmit corrections at once, but for the delay, and its receive corrections with the next
generation. -/
theorem headCal_calLoad (r : CalRecord) (s : State) : ((calLoad r s).headCal r.head).pending = true ∧
    ((calLoad r s).headCal r.head).tx = { r.tx with dly := (s.headCal r.head).txCand.dly } := by
  rw [calLoad, headCal_calTxSwitch, headCal_of_cal (bump_cal ..), headCal_modCal_same]
  exact ⟨rfl, rfl⟩

theorem restored_calLoad (r : CalRecord) (s : State) : (calLoad r s).cal.restored = s.cal.restored := by
  rw [calLoad, calTxSwitch, bump_cal, relatch_cal, State.modCal, bump_cal, State.modCal]

theorem calLoad_eq (r : CalRecord) (s : State) : calLoad r s = { s with
    regs := (calLoad r s).regs, txm := (calLoad r s).txm, cal := (calLoad r s).cal } := by
  rw [calLoad, calTxSwitch_eq, bump_eq, State.modCal]

section
variable {t : Time} {r : CalRecord} {s : State} (utc : Nat) (hjudged : s.cal.restored = false) (hup : s.sampleUp = true)
  (hphase : s.start.phase = .p9) (hlocked : s.timer.source = 3) (hsole : s.flash.calRecords = [r])
include hjudged hup hphase hlocked hsole

theorem execCalRestore_accepted (hid : headIdOf s r.head = some r.headId) (hdated : r.utc ≠ 0) (hfresh : utc ≤ r.utc + 604800) :
    execCalRestore t utc s = .next (settle (calLoad r { s.arrive t with cal := { s.cal with restored := true } })) := by
  have hid' (u : State) (hfh : u.fh = s.fh) : headIdOf u r.head = some r.headId := by
    simpa [headIdOf, State.port, hfh] using hid
  rw [execCalRestore, onInst_true]
  simp [hjudged, hup, hphase, hlocked, hsole, hid', hdated, hfresh]

theorem execCalRestore_rejected (hold : r.utc + 604800 < utc) : execCalRestore t utc s =
    .next (settle (bump cCalRestoreReject 0 { s.arrive t with cal := { s.cal with restored := true } })) := by
  rw [execCalRestore, onInst_true]
  simp [hjudged, hup, hphase, hlocked, hsole, Nat.not_le.mpr hold]

end

/-! ### The statement -/

/-- Settles O11, clause by clause: the lemmas above give the state that each command answers, settled. -/
theorem calibrationEstimates : Obligations.CalibrationEstimates := by
  unfold Obligations.CalibrationEstimates
  refine ⟨?weak, ?stale, ?block, ?saturated, ?gain, ?solved, ?discarded, ?receive, ?transmit, ?sweep, ?unscheduled, ?measured, ?unmeasured,
    ?record, ?accepted, ?rejected⟩
  case weak =>
    intro t q i y r h x set s hup hpacket hq hconsumes hitems hsound hread hfirst hset hother hweak hindex
    obtain ⟨m, hquay, hused, -⟩ := execCalSnippet_taken (t := t) x hup hpacket hq hconsumes hitems hsound hread hfirst
    have hexec := hused set hset
    obtain ⟨v, hestimate, hv, hcarriers⟩ := nodeEstimate_known (h := h) (s := bump cCalSnippets 0 { s.arrive t with msys := m }) (x := x)
      (i := i) (by simpa [State.indexOf, State.nodeOf] using hindex) set
    rw [snippetCarrier_congr (s := s) (by simp) (by simp), headCal_of_cal (s := s) (by simp)] at hcarriers
    rw [useSnippet_weak hother hweak, hestimate] at hexec
    refine ⟨_, (exec_calSnippet _ _ _).trans hexec, ?_, ?_, ?_, (settle_eq _).trans ?_⟩
    · rw [count_settle]
      have hregs : v.regs = (bump cCalSnippets 0 { s.arrive t with msys := m }).regs := by rw [hv]
      exact (count_of_regs hregs ..).trans (count_bump_of_regs (arrive_regs s t) ..)
    · rw [State.quay, settle_msys, hv]
      simpa using hquay
    · rw [settle_cal, hcarriers, afind_aput_same]
      simp
    · rw [hv, bump_eq]
      simp
  case stale =>
    intro t q y r h x s hup hpacket hq hconsumes hitems hsound hread hfirst hset
    obtain ⟨m, hquay, -, hdropped⟩ := execCalSnippet_taken (t := t) x hup hpacket hq hconsumes hitems hsound hread hfirst
    refine ⟨_, (exec_calSnippet _ _ _).trans (hdropped hset), ?_, ?_, (settle_eq _).trans ?_⟩
    · rw [count_settle]
      exact count_bump_of_regs (arrive_regs s t) ..
    · simpa [State.quay] using hquay
    · rw [bump_eq]
      simp
  case block =>
    intro t h b s hfh hup henabled hvalid
    refine ⟨_, (exec_calStreamBlock ..).trans (execCalStreamBlock_valid (by omega) hfh hup henabled hvalid), ?_, (settle_eq _).trans ?_⟩
    · rw [headCal_settle, headCal_modCal_same, headCal_arrive]
    · rw [modCal_eq]
      simp
  case saturated =>
    intro t h st n b s hfh hup hinvalid hst hstream
    refine ⟨_, (exec_calStreamBlock ..).trans (execCalStreamBlock_saturated n (by omega) hfh hup hinvalid hst hstream), ?_,
      (settle_eq _).trans ?_⟩
    · rw [count_settle]
      exact count_bumpBy_of_regs (arrive_regs s t) ..
    · simp [bumpBy, State.setReg]
  case gain =>
    intro t h s hh hup henabled hvalid
    refine ⟨_, (exec_calGainUpdate ..).trans (execCalGainUpdate_valid hh hup henabled hvalid), ?_, (settle_eq _).trans ?_⟩
    · rw [headCal_settle, headCal_modCal_same, headCal_arrive]
    · rw [modCal_eq]
      simp
  case solved =>
    intro t d hs s hup hfirst hmeans hsets hfits hall hnodup
    have hexec := execCalDelaySolve_first (t := t) hup hfirst hmeans hsets
    rw [applySolution_accepted hall hfits] at hexec
    refine ⟨_, (exec_calDelaySolve ..).trans hexec, ?_, ?_, fun v hv => ?_, (settle_eq _).trans ?_⟩
    · rw [settle_cal, solveHeads_eq]
    · rw [settle_cal, solveHeads_eq]
    · rw [headCal_settle]
      exact headCal_solveHeads hnodup _ v hv
    · rw [solveHeads_eq]
      simp
  case discarded =>
    intro t d hs s hup hfirst hmeans hsets hmisses hall
    have hexec := execCalDelaySolve_first (t := t) hup hfirst hmeans hsets
    rw [applySolution_discarded hall hmisses] at hexec
    refine ⟨_, (exec_calDelaySolve ..).trans hexec, ?_, ?_, (settle_eq _).trans ?_⟩
    · rw [count_settle]
      exact count_bump_of_regs (arrive_regs s t) ..
    · rw [settle_cal, bump_cal]
    · rw [bump_eq]
      simp
  case receive =>
    intro t h s hh hup hhead hmoved hdue hidle
    refine ⟨_, (exec_calGenRequest ..).trans (execCalGenRequest_receive hh hup hhead hmoved hdue hidle), ?_, (settle_eq _).trans ?_⟩
    · rw [headCal_settle, headCal_modCal_same, headCal_arrive]
    · rw [modCal_eq]
      simp
  case transmit =>
    intro t h s hh hup hhead hmoved hdue
    refine ⟨_, (exec_calGenRequest ..).trans (execCalGenRequest_transmit hh hup hhead hmoved hdue), ?_, ?_, ?_, (settle_eq _).trans ?_⟩
    · rw [headCal_settle, headCal_calTxSwitch, headCal_arrive]
    · rw [headCal_settle, headCal_calTxSwitch, headCal_arrive]
    · rw [count_settle]
      exact count_calTxSwitch (arrive_regs s t) h
    · rw [calTxSwitch_eq]
      simp
  case sweep =>
    intro t h c cs s hh hup hleads henabled hidle hdue hfree hchannels hstarted hhears hadmitted
    obtain ⟨v, hexec, hbooking, hv⟩ :=
      execCalSweepStart_admitted hh hup hleads henabled hidle hdue hfree hchannels hstarted hhears hadmitted
    refine ⟨_, (exec_calSweepStart ..).trans hexec, ?_, ?_, ?_, (settle_eq _).trans ?_⟩
    · rw [headCal_settle, headCal_modCal_same, headCal_of_cal (s := s) (by rw [hv]; exact arrive_cal s t)]
    · rw [settle_clamp, hv]
      exact congrArg Clamp.holder (clamp_setClamp_same (s.arrive t) h _)
    · rw [settle_txm]
      exact hbooking
    · rw [modCal_eq, hv, setClamp_eq]
      simp
  case unscheduled =>
    intro t h s hh hup hleads henabled hidle hdue hfree hstopped
    refine ⟨_, (exec_calSweepStart ..).trans (execCalSweepStart_unscheduled hh hup hleads henabled hidle hdue hfree hstopped), ?_, ?_, ?_,
      (settle_eq _).trans ?_⟩
    · rw [headCal_settle, headCal_sweepSkip, setClamp_eq]
    · rw [count_settle]
      exact count_sweepSkip (by exact arrive_regs s t) h
    · rw [settle_txm, sweepSkip_eq, setClamp_eq]
      simp
    · rw [sweepSkip_eq, setClamp_eq]
      simp
  case measured =>
    intro t h j g p s hh hup hsweeping hsolo hhears
    refine ⟨_, (exec_calSweepDone ..).trans (execCalSweepDone_measured hh hup hsweeping g p hsolo hhears), ?_, (settle_eq _).trans ?_⟩
    · rw [headCal_settle, headCal_freeClampOf, headCal_modCal_same, headCal_arrive]
    · rw [freeClampOf_eq, modCal_eq]
      simp
  case unmeasured =>
    intro t h s hh hup hsweeping
    refine ⟨_, (exec_calSweepDone ..).trans (execCalSweepDone_unmeasured hh hup hsweeping), ?_, ?_, ?_, (settle_eq _).trans ?_⟩
    · rw [headCal_settle, headCal_sweepSkip]
    · rw [headCal_settle, headCal_sweepSkip, headCal_arrive]
    · rw [count_settle]
      exact count_sweepSkip (arrive_regs s t) h
    · rw [sweepSkip_eq]
      simp
  case record =>
    intro t utc h c i s hup hsole hid hfirst hempty hlocked
    refine ⟨_, (exec_calRecordWrite ..).trans (execCalRecordWrite_first utc hup hsole hid hfirst hempty hlocked), ?_, ?_,
      (settle_eq _).trans ?_⟩
    · rw [settle_flash, modCal_eq]
    · rw [headCal_settle, headCal_modCal_same]
    · rw [modCal_eq]
      simp
  case accepted =>
    intro t utc r s hjudged hup hphase hlocked hsole hid hdated hfresh
    obtain ⟨hpending, htx⟩ := headCal_calLoad r { s.arrive t with cal := { s.cal with restored := true } }
    refine ⟨_, (exec_calRestore ..).trans (execCalRestore_accepted utc hjudged hup hphase hlocked hsole hid hdated hfresh), ?_, ?_, ?_,
      (settle_eq _).trans ?_⟩
    · rw [settle_cal, restored_calLoad]
    · rw [headCal_settle, hpending]
    · rw [headCal_settle, htx]
      rfl
    · rw [calLoad_eq]
      simp
  case rejected =>
    intro t utc r s hjudged hup hphase hlocked hsole hold
    refine ⟨_, (exec_calRestore ..).trans (execCalRestore_rejected utc hjudged hup hphase hlocked hsole hold), ?_, ?_, (settle_eq _).trans ?_⟩
    · rw [settle_cal, bump_cal]
    · rw [count_settle]
      exact count_bump_of_regs (arrive_regs s t) ..
    · rw [bump_eq]
      simp

end Sys2Proof.Machine

/-! PROOFS. The queue of pending commands: what one step takes from its front. -/

namespace Sys2Proof.Machine
open Sys2Proof Host

theorem step_cons {c : Instr} {r : List Instr} {s : State} (h : s.pending = c :: r) : step s = exec c { s with pending := r } := by
  rw [step, h]

theorem step_nil {s : State} (h : s.pending = []) : step s = .next (tick s) := by rw [step, h]

/-- Settles O41: the queue is empty or has a front. -/
theorem stepRunsFrontCommand : Obligations.StepRunsFrontCommand := by
  refine ⟨?anyCommand, ?front, ?empty⟩
  case anyCommand => exact fun c s => step_cons rfl
  case front => exact fun c r s h => step_cons h
  case empty => exact fun s h => step_nil h

end Sys2Proof.Machine

/-! PROOFS. The timekeeper's commands (R237 to R241, R259 to R262, R432): what a measurement and a lost source make of the timer, the PTP
exchange, the PPS edges, the comparators and the beacons of the neighbours. -/

namespace Sys2Proof.Machine
open Sys2Proof Host

/-! ### What arrival leaves of the readings -/

section
variable (s : State) (t : Time)

@[simp] theorem slotUp_arrive : (s.arrive t).slotUp = s.slotUp := by simp [State.slotUp, State.islandUp]

@[simp] theorem mayStep_arrive : mayStep (s.arrive t) = mayStep s := by simp [mayStep]

@[simp] theorem timeLocked_arrive : timeLocked (s.arrive t) = timeLocked s := by simp [timeLocked]

@[simp] theorem bestMaster_arrive : bestMaster (s.arrive t) = bestMaster s := by simp [bestMaster]

@[simp] theorem nbr_arrive (n : Nat) : (s.arrive t).nbr n = s.nbr n := by simp [State.nbr]

@[simp] theorem nbrUsed_arrive (n : Nat) : nbrUsed (s.arrive t) n = nbrUsed s n := by simp [nbrUsed]

end

/-- Whether device time may be stepped is read from the start, the schedule and the timer alone (R238). -/
theorem mayStep_congr {s u : State} (hstepped : u.timer.stepped = s.timer.stepped) (hstart : u.start = s.start)
    (hstarted : u.sch.started = s.sch.started) : mayStep u = mayStep s := by rw [mayStep, mayStep, hstepped, hstart, hstarted]

/-! ### The choice of a source (R237, R241) -/

/-- A new choice of source sets TIME_RATE on the way into holdover, and is counted and recorded. -/
theorem refreshSource_eq (s : State) : refreshSource s = { s with
    regs := (refreshSource s).regs, evr := (refreshSource s).evr, free := (refreshSource s).free
    timer := { s.timer with
      source := (refreshSource s).timer.source, slewing := (refreshSource s).timer.slewing, rates := (refreshSource s).timer.rates } } := by
  unfold refreshSource
  dsimp only
  split
  · rfl
  · split
    · rw [occurs_eq, setRate, bump_eq]
      rfl
    · rw [occurs_eq, bump_eq]

@[simp] theorem occurs_timer (e : Nat) (s : State) : (occurs e s).timer = s.timer := by rw [occurs_eq]

@[simp] theorem occurs_sch (e : Nat) (s : State) : (occurs e s).sch = s.sch := by rw [occurs_eq]

theorem sourceLost_eq (n : Nat) (s : State) : sourceLost n s = { s with
    regs := (sourceLost n s).regs, evr := (sourceLost n s).evr, free := (sourceLost n s).free
    timer := { s.timer.setSource n {} with
      source := (sourceLost n s).timer.source, slewing := (sourceLost n s).timer.slewing, rates := (sourceLost n s).timer.rates } } := by
  rw [sourceLost, refreshSource_eq]

@[simp] theorem sourceLost_sch (n : Nat) (s : State) : (sourceLost n s).sch = s.sch := by rw [sourceLost_eq]

/-- Slewing notes the slot of its last change of rate, and leaves the rest of the schedule alone. -/
theorem slewTo_sch (lim : Nat) (off : Int) (s : State) :
    (slewTo lim off s).sch = { s.sch with lastSlew := (slewTo lim off s).sch.lastSlew } := by
  unfold slewTo
  dsimp only
  (repeat' split) <;> rfl

/-- What an enabled source makes of an offset once device time may no longer be stepped (R237, R238): the new state of the source, the
choice that follows, and slewing. -/
theorem measure_eq {n : Nat} (off : Int) {s : State} (hon : s.fld rTimeCtrl (n - 1) 1 ≠ 0) (hstep : mayStep s = false) :
    measure n off s = { s with
      regs := (measure n off s).regs, evr := (measure n off s).evr, free := (measure n off s).free
      sch := { s.sch with lastSlew := (measure n off s).sch.lastSlew }
      timer := { s.timer.setSource n ((s.timer.sourceN n).measure off false) with
        source := (measure n off s).timer.source, slewing := (measure n off s).timer.slewing, offset := (measure n off s).timer.offset
        everLocked := (measure n off s).timer.everLocked, rates := (measure n off s).timer.rates
        base := (measure n off s).timer.base } } := by
  rw [measure, if_neg hon]
  simp only [hstep]
  split
  · rw [refreshSource_eq]
  · simp only [slew, Bool.false_eq_true, if_false]
    rw [slewTo_eq, slewTo_sch, refreshSource_eq]

/-! ### PTP (R239) -/

/-- A message is taken only while the PTP source is enabled (R239). -/
theorem ptpEnabled_of_taken {m : PtpMsg} {s : State} (h : (ptpTaken m s).1 = true) : s.fld rTimeCtrl 2 1 ≠ 0 := by
  intro hoff
  simp [ptpTaken, hoff] at h

theorem ptpTaken_eq {m : PtpMsg} {s : State} (h : (ptpTaken m s).1 = true) : ptpTaken m s = (true, s) := by
  unfold ptpTaken at h ⊢
  split at h
  · cases h
  · next hlistens =>
    split at h
    · cases h
    · next hsound => rw [if_neg hlistens, if_neg hsound]

/-- A Sync of an enabled PTP source is the last complete one, and measures the source (R237, R239). -/
theorem ptpOffset_eq (o a : Int) {s : State} (hon : s.fld rTimeCtrl 2 1 ≠ 0) (hstep : mayStep s = false) : ptpOffset o a s = { s with
    regs := (ptpOffset o a s).regs, evr := (ptpOffset o a s).evr, free := (ptpOffset o a s).free
    sch := { s.sch with lastSlew := (ptpOffset o a s).sch.lastSlew }
    timer := { s.timer with
      ptp := s.timer.ptp.measure (ptpStamp a - o - s.timer.ptpDelay) false, ptpPair := some (o, ptpStamp a)
      source := (ptpOffset o a s).timer.source, slewing := (ptpOffset o a s).timer.slewing, offset := (ptpOffset o a s).timer.offset
      everLocked := (ptpOffset o a s).timer.everLocked, rates := (ptpOffset o a s).timer.rates
      base := (ptpOffset o a s).timer.base } } := by
  rw [ptpOffset, measure_eq _ (by exact hon) (by exact hstep)]
  rfl

/-- The time transmitter of `m` is heard, with its data set. -/
def announced (m : PtpMsg) (s : State) : State :=
  { s with timer.ptpHeard := true, timer.masters := aput s.timer.masters m.source m.dataset }

theorem announced_arrive (m : PtpMsg) (s : State) (t : Time) : (announced m (s.arrive t)).timer = (announced m s).timer := by
  simp [announced]

theorem bestMaster_of_masters {s u : State} (h : u.timer.masters = s.timer.masters) : bestMaster u = bestMaster s := by
  rw [bestMaster, bestMaster, h]

theorem bestMaster_announced_arrive (m : PtpMsg) (s : State) (t : Time) :
    bestMaster (announced m (s.arrive t)) = bestMaster (announced m s) := bestMaster_of_masters (by rw [announced_arrive])

section
variable {t : Time} {m : PtpMsg} {s : State} (hport : m.port < 8) (htaken : (ptpTaken m (s.arrive t)).1 = true)
include hport htaken

theorem execPtpAnnounce_sameBest (hbest : bestMaster (announced m s) = bestMaster s) :
    execPtpAnnounce t m s = .next (settle (announced m (s.arrive t))) := by
  have hsame : bestMaster (announced m (s.arrive t)) = bestMaster (s.arrive t) := by
    rw [bestMaster_announced_arrive, hbest, bestMaster_arrive]
  rw [execPtpAnnounce, onInst_of hport]
  simp only [ptpTaken_eq htaken]
  exact congrArg (fun u => Outcome.next (settle u)) (if_pos hsame)

/-- With another best time transmitter the exchange with the one before is over. -/
theorem execPtpAnnounce_newBest (hbest : bestMaster (announced m s) ≠ bestMaster s) :
    execPtpAnnounce t m s = .next (settle { announced m (s.arrive t) with timer := { (announced m s).timer with
      ptpSync := none, ptpPair := none } }) := by
  have hother : bestMaster (announced m (s.arrive t)) ≠ bestMaster (s.arrive t) := by
    rwa [bestMaster_announced_arrive, bestMaster_arrive]
  rw [execPtpAnnounce, onInst_of hport]
  simp only [ptpTaken_eq htaken]
  exact congrArg (fun u => Outcome.next (settle u)) ((if_neg hother).trans (by rw [← announced_arrive m s t]; rfl))

variable (hbest : bestMaster s = some m.source)
include hbest

theorem execPtpSync_twoStep (htwo : m.twoStep = true) : execPtpSync t m s =
    .next (settle { s.arrive t with timer := { s.timer with ptpSync := some (m.sequence, m.arrival) } }) := by
  rw [execPtpSync, onInst_of hport]
  simp [ptpTaken_eq htaken, hbest, htwo]

theorem execPtpSync_oneStep (hone : m.twoStep = false) : execPtpSync t m s =
    .next (settle (ptpOffset m.origin m.arrival (s.arrive t))) := by
  rw [execPtpSync, onInst_of hport]
  simp [ptpTaken_eq htaken, hbest, hone]

theorem execPtpFollowUp_awaited {a : Int} (hsync : s.timer.ptpSync = some (m.sequence, a)) : execPtpFollowUp t m s =
    .next (settle (ptpOffset m.origin a { s.arrive t with timer.ptpSync := none })) := by
  rw [execPtpFollowUp, onInst_of hport]
  simp [ptpTaken_eq htaken, hbest, hsync]

theorem execPtpDelayResp_paired {o a : Int} (hpair : s.timer.ptpPair = some (o, a)) : execPtpDelayResp t m s =
    .next (settle { s.arrive t with timer := { s.timer with
      ptpDelay := ((a - o) + (m.origin - ptpStamp m.arrival)) / 2 } }) := by
  rw [execPtpDelayResp, onInst_of hport]
  simp [ptpTaken_eq htaken, hbest, hpair]

end

/-- A message of another domain on the port that PTP listens on is discarded and counted. -/
theorem execPtpAnnounce_foreign {t : Time} {m : PtpMsg} {s : State} (hport : m.port < 8) (hon : s.fld rTimeCtrl 2 1 = 1)
    (hlistens : m.port = s.fld rTimeCtrl 3 3) (hup : s.slotUp = true) (hdomain : m.domain ≠ s.fld rTimeCtrl 16 8) :
    execPtpAnnounce t m s = .next (settle (bump cTimePtpDiscard 0 (s.arrive t))) := by
  rw [execPtpAnnounce, onInst_of hport]
  simp [ptpTaken, hon, ← hlistens, hup, hdomain]

/-- The time transmitters still heard once the best one is lost (R239). -/
def mastersLeft (s : State) : List (Nat × List Nat) := ((bestMaster s).map (adel s.timer.masters)).getD []

theorem execPtpSourceLost_up {t : Time} {s : State} (hup : s.slotUp = true) : execPtpSourceLost t s =
    .next (settle (sourceLost 3 { s.arrive t with timer := { s.timer with
      ptpHeard := !(mastersLeft s).isEmpty, masters := mastersLeft s, ptpSync := none, ptpPair := none } })) := by
  rw [execPtpSourceLost, onInst_true]
  simp only [slotUp_arrive, hup, if_true, arrive_timer, bestMaster_arrive, mastersLeft]
  cases bestMaster s <;> rfl

/-! ### PPS (R240) -/

section
variable {t : Time} {s : State} (hup : s.slotUp = true)
include hup

theorem execPpsInEdge_measured (hon : s.fld rTimeCtrl 1 1 = 1) (hlocked : timeLocked s = false) : execPpsInEdge t s =
    .next (settle (measure 2 (secondPhase ((s.arrive t).clock.now / 16 * 16)) { s.arrive t with timer := { s.timer with
      ppsEdge := (s.arrive t).clock.now / 16 * 16, ppsBad := 0 } })) := by
  rw [execPpsInEdge, onInst_true]
  simp [hup, hon, hlocked]

theorem execPpsInEdge_rejected (hon : s.fld rTimeCtrl 1 1 = 1) (hlocked : timeLocked s = true)
    (hfar : 16000000 < (secondPhase ((s.arrive t).clock.now / 16 * 16)).natAbs) : execPpsInEdge t s =
    .next (settle (ppsBad (bump cTimePpsReject 0 { s.arrive t with timer := { s.timer with
      ppsEdge := (s.arrive t).clock.now / 16 * 16 } }))) := by
  rw [execPpsInEdge, onInst_true]
  simp [hup, hon, hlocked, hfar]

theorem execPpsEdgeMissing_due (hon : s.fld rTimeCtrl 1 1 = 1) : execPpsEdgeMissing t s = .next (settle (ppsBad (s.arrive t))) := by
  rw [execPpsEdgeMissing, onInst_true]
  simp [hup, hon]

theorem execPpsOutPulse_due (hphase : s.start.phase = .p9) (hlocked : s.timer.everLocked = true)
    (hnear : (secondPhase (s.arrive t).clock.now).natAbs ≤ 32) : execPpsOutPulse t s =
    .next (settle { s.arrive t with
      pins := { s.pins with ppsOut := true }, timer := { s.timer with outHigh := some (s.arrive t).clock.now } }) := by
  rw [execPpsOutPulse, onInst_true]
  simp [hup, hphase, hlocked, hnear]

theorem execPpsOutFall_due {a : Time} (hhigh : s.timer.outHigh = some a) (hdue : a + ms 100 ≤ (s.arrive t).clock.now) :
    execPpsOutFall t s = .next (settle { s.arrive t with
      pins := { s.pins with ppsOut := false }, timer := { s.timer with outHigh := none } }) := by
  rw [execPpsOutFall, onInst_true]
  simp [hup, hhigh, hdue]

end

theorem ppsBad_early {s : State} (h : s.timer.ppsBad < 2) : ppsBad s = { s with timer := { s.timer with ppsBad := s.timer.ppsBad + 1 } } :=
  if_neg (Nat.not_le.mpr h)

theorem count_ppsBad_early {s : State} (h : s.timer.ppsBad < 2) (c : Counter) (i : Nat) : (ppsBad s).count c i = s.count c i := by
  rw [ppsBad_early h]
  rfl

/-- The third bad edge in a row loses the source. -/
theorem ppsBad_third {s : State} (h : 2 ≤ s.timer.ppsBad) :
    ppsBad s = sourceLost 2 { s with timer := { s.timer with ppsBad := s.timer.ppsBad + 1 } } := if_pos h

theorem ppsBad_eq (s : State) : ppsBad s = { s with
    regs := (ppsBad s).regs, evr := (ppsBad s).evr, free := (ppsBad s).free, timer := (ppsBad s).timer } := by
  rcases Nat.lt_or_ge s.timer.ppsBad 2 with hearly | hthird
  · rw [ppsBad_early hearly]
  · rw [ppsBad_third hthird, sourceLost_eq]

/-! ### The comparators (R432) -/

theorem execTimeComparator_reached {t : Time} {e : Option Nat} {s : State} (he : (e.all fun k => decide (k < 8)) = true)
    (hup : s.controlUp = true) (hruns : s.clock.running = true) : execTimeComparator t e s =
    .next (settle (setIrq ((e.map fun k => 128 + k).getD 120) true ((s.arrive t).out (.comparator e)))) := by
  unfold execTimeComparator
  rw [onInst_of_true he]
  simp only [controlUp_arrive, hup, arrive_clock_running, hruns, Bool.and_self, if_true]
  cases e <;> rfl

/-! ### Neighbouring border routers (R259 to R262) -/

section
variable (s : State) (t : Time)

@[simp] theorem slotLen_arrive : (s.arrive t).slotLen = s.slotLen := by simp [State.slotLen]

@[simp] theorem asnEpoch_arrive : (s.arrive t).asnEpoch = s.asnEpoch := by simp [State.asnEpoch]

@[simp] theorem asnAt_arrive (a : Time) : (s.arrive t).asnAt a = s.asnAt a := by simp [State.asnAt]

@[simp] theorem slotStart_arrive (a : Nat) : (s.arrive t).slotStart a = s.slotStart a := by simp [State.slotStart]

@[simp] theorem expectedAt_arrive (a : Nat) : expectedAt (s.arrive t) a = expectedAt s a := by simp [expectedAt]

@[simp] theorem nbrPeriod_arrive (n : Nat) : nbrPeriod (s.arrive t) n = nbrPeriod s n := by simp [nbrPeriod]

@[simp] theorem beaconBefore_arrive (n a : Nat) : beaconBefore (s.arrive t) n a = beaconBefore s n a := by
  simp only [beaconBefore, nbrPeriod_arrive]

@[simp] theorem nbrAlign_arrive (n : Nat) : nbrAlign (s.arrive t) n = nbrAlign s n := by simp [nbrAlign]

@[simp] theorem beaconSlot_arrive (n : Nat) (start : Time) : beaconSlot (s.arrive t) n start = beaconSlot s n start := by
  simp [beaconSlot]

end

theorem midOf_singleton (x : Int) : midOf [x] = x := by simp [midOf]

theorem nbr_of_nbrs {s u : State} (h : u.sch.nbrs = s.sch.nbrs) (n : Nat) : u.nbr n = s.nbr n := by rw [State.nbr, State.nbr, h]

@[simp] theorem nbr_setNbr_same (s : State) (n : Nat) (x : Nbr) : (s.setNbr n x).nbr n = x := by
  rw [State.nbr, State.setNbr, afind_aput_same, Option.getD_some]

@[simp] theorem nbr_settle (s : State) (n : Nat) : (settle s).nbr n = s.nbr n := nbr_of_nbrs (by rw [settle_sch]) n

theorem nbr_bump (c : Counter) (i : Nat) (s : State) (n : Nat) : (bump c i s).nbr n = s.nbr n := nbr_of_nbrs (by rw [bump_sch]) n

theorem nbr_occurs (e : Nat) (s : State) (n : Nat) : (occurs e s).nbr n = s.nbr n := nbr_of_nbrs (by rw [occurs_sch]) n

theorem nbr_sourceLost (k : Nat) (s : State) (n : Nat) : (sourceLost k s).nbr n = s.nbr n := nbr_of_nbrs (by rw [sourceLost_sch]) n

/-- Neighbour `x` after a beacon of it in slot `a` (R260, R261). -/
def heardNbr (x : Nbr) (a : Nat) : Nbr := { x with missed := 0, last := some a, silent := false, reclaimed := false }

/-- The offset that a beacon of ALIGN neighbour `n` gives: its start less the delay of its entry and the expected start of its slot
(R260). -/
def alignOffset (s : State) (n a : Nat) (start : Time) : Int :=
  (start : Int) - toSigned 32 (octetField 24 (s.entry tSchNbr n) 16 0 32) * 16 - expectedAt s a

section
variable {t : Time} {n a : Nat} {s : State} (hn : n < 16) (hup : s.slotUp = true) (hused : nbrUsed s n = true)
include hn hup hused

section
variable {start : Time} (hslot : beaconSlot s n start = some a) (haudible : (s.nbr n).silent = false)
include hslot haudible

theorem execNbrBeaconHeard_otherAsn {asn : Nat} (hasn : asn ≠ a) : execNbrBeaconHeard t n asn start s =
    .next (settle (occurs eSchNbrAsn (bump cSchNbrAsnMismatch 0 ((s.arrive t).setNbr n (heardNbr (s.nbr n) a))))) := by
  rw [execNbrBeaconHeard, onInst_of hn]
  simp [hup, hused, hslot, haudible, hasn, heardNbr]

/-- The first beacon of an ALIGN neighbour measures with its own offset (R260). -/
theorem execNbrBeaconHeard_aligned (halign : nbrAlign s n = true) (hfirst : s.timer.nbrOffsets = []) :
    execNbrBeaconHeard t n a start s = .next (settle (measure 1 (alignOffset s n a start)
      { (s.arrive t).setNbr n (heardNbr (s.nbr n) a) with timer := { s.timer with nbrOffsets := [alignOffset s n a start] } })) := by
  rw [execNbrBeaconHeard, onInst_of hn]
  simp [hup, hused, hslot, haudible, halign, hfirst, heardNbr, alignOffset, midOf_singleton, State.setNbr]

end

section
variable (hpassed : beaconPassed (s.arrive t) n = some a)
include hpassed

theorem execNbrBeaconMissed_early (hearly : (s.nbr n).missed < 2) : execNbrBeaconMissed t n s =
    .next (settle (bump cSchNbrMiss 0 ((s.arrive t).setNbr n { s.nbr n with missed := (s.nbr n).missed + 1, last := some a }))) := by
  rw [execNbrBeaconMissed, onInst_of hn]
  simp [hup, hused, hpassed, show ¬ 3 ≤ (s.nbr n).missed + 1 by omega]

/-- The third beacon missed in a row makes the neighbour SILENT; with the last ALIGN neighbour the source is lost (R261). -/
theorem execNbrBeaconMissed_third (hthird : (s.nbr n).missed = 2) (haudible : (s.nbr n).silent = false) :
    ∃ u, execNbrBeaconMissed t n s = .next (settle u) ∧
      u.nbr n = { s.nbr n with missed := 3, last := some a, silent := true, since := (s.arrive t).clock.now } := by
  rw [execNbrBeaconMissed, onInst_of hn]
  refine ⟨_, rfl, ?_⟩
  simp only [slotUp_arrive, hup, nbrUsed_arrive, hused, Bool.and_self, if_true, hpassed, nbr_arrive, hthird, haudible, Nat.reduceAdd]
  rw [if_pos (by simp)]
  split
  · rw [nbr_occurs, nbr_setNbr_same]
  · rw [nbr_sourceLost]
    exact (nbr_occurs ..).trans (nbr_setNbr_same ..)

end

end

theorem execNbrHoldoffExpire_due {t : Time} {n : Nat} {s : State} (hn : n < 16) (hup : s.slotUp = true) (hleads : s.leads = true)
    (hsilent : (s.nbr n).silent = true) (hdue : (s.nbr n).since + sec (s.fld rSchNbrCtrl 0 12) ≤ (s.arrive t).clock.now) :
    execNbrHoldoffExpire t n s = .next (settle ((s.arrive t).setNbr n { s.nbr n with reclaimed := true })) := by
  rw [execNbrHoldoffExpire, onInst_of hn]
  simp [hup, hleads, hsilent, hdue]

/-! ### The statement -/

/-- Settles O12, clause by clause: the lemmas above give the state that each command answers, settled. -/
theorem timekeeperCommands : Obligations.TimekeeperCommands := by
  unfold Obligations.TimekeeperCommands
  refine ⟨?twoStep, ?oneStep, ?followUp, ?delay, ?announce, ?foreign, ?lost, ?edge, ?rejected, ?missing, ?pulse, ?fall, ?comparator,
    ?otherAsn, ?aligned, ?missed, ?silent, ?holdoff⟩
  case twoStep =>
    intro t m s hport htaken hbest htwo
    refine ⟨_, (exec_ptpSync ..).trans (execPtpSync_twoStep hport htaken hbest htwo), (settle_eq _).trans ?_⟩
    simp
  case oneStep =>
    intro t m s hport htaken hbest hone hstep
    have hoffset := ptpOffset_eq m.origin m.arrival (ptpEnabled_of_taken htaken) (by simpa using hstep)
    refine ⟨_, (exec_ptpSync ..).trans (execPtpSync_oneStep hport htaken hbest hone), ?_, ?_, (settle_eq _).trans ?_⟩
    · rw [settle_timer, hoffset, arrive_timer]
    · rw [settle_timer, hoffset]
    · rw [hoffset]
      simp
  case followUp =>
    intro t m a s hport htaken hbest hsync hstep
    have hoffset := ptpOffset_eq (s := { s.arrive t with timer.ptpSync := none }) m.origin a
      (show (s.arrive t).fld rTimeCtrl 2 1 ≠ 0 from ptpEnabled_of_taken htaken) ((mayStep_arrive s t).trans hstep)
    refine ⟨_, (exec_ptpFollowUp ..).trans (execPtpFollowUp_awaited hport htaken hbest hsync), ?_, ?_, ?_, (settle_eq _).trans ?_⟩
    · rw [settle_timer, hoffset]
      dsimp only
      rw [arrive_timer]
    · rw [settle_timer, hoffset]
    · rw [settle_timer, hoffset]
    · rw [hoffset]
      simp
  case delay =>
    intro t m o a s hport htaken hbest hpair
    refine ⟨_, (exec_ptpDelayResp ..).trans (execPtpDelayResp_paired hport htaken hbest hpair), (settle_eq _).trans ?_⟩
    simp
  case announce =>
    intro t m s hport htaken
    by_cases hbest : bestMaster (announced m s) = bestMaster s
    · refine ⟨_, (exec_ptpAnnounce ..).trans (execPtpAnnounce_sameBest hport htaken hbest), ?_, ?_, ?_, (settle_eq _).trans ?_⟩
      · rw [settle_timer, announced_arrive, announced]
      · rw [settle_timer, announced_arrive, announced]
        exact fun _ => ⟨rfl, rfl⟩
      · exact fun hnew => absurd ((bestMaster_of_masters (by rw [settle_timer, announced_arrive])).trans hbest) hnew
      · simp [announced]
    · refine ⟨_, (exec_ptpAnnounce ..).trans (execPtpAnnounce_newBest hport htaken hbest), ?_, ?_, ?_, (settle_eq _).trans ?_⟩
      · rw [settle_timer]
        rfl
      · exact fun hsame => absurd ((bestMaster_of_masters (by rw [settle_timer])).symm.trans hsame) hbest
      · rw [settle_timer]
        exact fun _ => ⟨rfl, rfl⟩
      · simp [announced]
  case foreign =>
    intro t m s hport hon hlistens hup hdomain
    refine ⟨_, (exec_ptpAnnounce ..).trans (execPtpAnnounce_foreign hport hon hlistens hup hdomain), ?_, (settle_eq _).trans ?_⟩
    · rw [count_settle]
      exact count_bump_of_regs (arrive_regs s t) ..
    · rw [bump_eq]
      simp
  case lost =>
    intro t s hup
    refine ⟨_, (exec_ptpSourceLost ..).trans (execPtpSourceLost_up hup), ?_, ?_, ?_, ?_, ?_, ?_, (settle_eq _).trans ?_⟩
    all_goals rw [sourceLost_eq]
    all_goals simp [Timer.setSource, mastersLeft]
  case edge =>
    intro t s hup hon hlocked hstep
    have hmeasure := measure_eq (n := 2) (s := { s.arrive t with timer := { s.timer with
      ppsEdge := (s.arrive t).clock.now / 16 * 16, ppsBad := 0 } }) (secondPhase ((s.arrive t).clock.now / 16 * 16))
      (show (s.arrive t).fld rTimeCtrl 1 1 ≠ 0 by simp [hon]) ((mayStep_congr (s := s) (by simp) (by simp) (by simp)).trans hstep)
    refine ⟨_, (exec_ppsInEdge ..).trans (execPpsInEdge_measured hup hon hlocked), ?_, ?_, ?_, (settle_eq _).trans ?_⟩
    all_goals rw [hmeasure]
    all_goals simp [Timer.setSource, Timer.sourceN]
  case rejected =>
    intro t s hup hon hlocked hfar hearly
    refine ⟨_, (exec_ppsInEdge ..).trans (execPpsInEdge_rejected hup hon hlocked hfar), ?_, ?_, (settle_eq _).trans ?_⟩
    · rw [ppsBad_early (by simpa using hearly)]
      simp
    · rw [count_settle, count_ppsBad_early (by simpa using hearly)]
      exact count_bump_of_regs (arrive_regs s t) ..
    · rw [ppsBad_early (by simpa using hearly)]
      simp
  case missing =>
    intro t s hup hon
    refine ⟨_, (exec_ppsEdgeMissing ..).trans (execPpsEdgeMissing_due hup hon), ?_, ?_, (settle_eq _).trans ?_⟩
    · intro hearly
      rw [ppsBad_early (by simpa using hearly)]
      simp
    · intro hthird
      rw [ppsBad_third (by simpa using hthird), sourceLost_eq]
      simp [Timer.setSource]
    · rw [ppsBad_eq]
      simp
  case pulse =>
    intro t s hup hphase hlocked hnear
    refine ⟨_, (exec_ppsOutPulse ..).trans (execPpsOutPulse_due hup hphase hlocked hnear), ?_, (settle_eq _).trans ?_⟩
    · rw [settle_pins]
    · simp
  case fall =>
    intro t a s hup hhigh hdue
    refine ⟨_, (exec_ppsOutFall ..).trans (execPpsOutFall_due hup hhigh hdue), (settle_eq _).trans ?_⟩
    simp
  case comparator =>
    intro t e s he hup hruns
    refine ⟨_, (exec_timeComparator ..).trans (execTimeComparator_reached he hup hruns), ?_, ?_, (settle_eq _).trans ?_⟩
    · simp [setIrq, State.out]
    · simp [setIrq]
    · simp [setIrq, State.out]
  case otherAsn =>
    intro t n a asn start s hn hup hused hslot hasn haudible
    refine ⟨_, (exec_nbrBeaconHeard ..).trans (execNbrBeaconHeard_otherAsn hn hup hused hslot haudible hasn), ?_, ?_⟩
    · rw [nbr_settle, nbr_occurs, nbr_bump, nbr_setNbr_same, heardNbr]
    · rw [settle_timer, occurs_timer, bump_timer]
      exact arrive_timer s t
  case aligned =>
    intro t n a start s hn hup hused hslot haudible halign hstep hon hfirst
    have hmeasure := measure_eq (n := 1) (s := { (s.arrive t).setNbr n (heardNbr (s.nbr n) a) with
      timer := { s.timer with nbrOffsets := [alignOffset s n a start] } }) (alignOffset s n a start)
      (show (s.arrive t).fld rTimeCtrl 0 1 ≠ 0 by rwa [fld_arrive])
      ((mayStep_congr (s := s) (by simp) (by simp [State.setNbr]) (by simp [State.setNbr])).trans hstep)
    refine ⟨_, (exec_nbrBeaconHeard ..).trans (execNbrBeaconHeard_aligned hn hup hused hslot haudible halign hfirst), ?_, ?_⟩
    · rw [nbr_settle, hmeasure]
      exact nbr_setNbr_same ..
    · rw [settle_timer, hmeasure]
      rfl
  case missed =>
    intro t n a s hn hup hused hearly hpassed
    refine ⟨_, (exec_nbrBeaconMissed ..).trans (execNbrBeaconMissed_early hn hup hused hpassed hearly), ?_, ?_, (settle_eq _).trans ?_⟩
    · rw [nbr_settle, nbr_bump, nbr_setNbr_same]
    · rw [count_settle]
      exact count_bump_of_regs (arrive_regs s t) ..
    · rw [bump_eq]
      simp [State.setNbr]
  case silent =>
    intro t n a s hn hup hused hthird haudible hpassed
    obtain ⟨u, hexec, hnbr⟩ := execNbrBeaconMissed_third hn hup hused hpassed hthird haudible
    exact ⟨_, (exec_nbrBeaconMissed ..).trans hexec, by rw [nbr_settle, hnbr]⟩
  case holdoff =>
    intro t n s hn hup hleads hsilent hdue
    refine ⟨_, (exec_nbrHoldoffExpire ..).trans (execNbrHoldoffExpire_due hn hup hleads hsilent hdue), ?_, (settle_eq _).trans ?_⟩
    · rw [nbr_settle, nbr_setNbr_same]
    · simp [State.setNbr]

end Sys2Proof.Machine

/-! PROOFS. The commit sequencer (R255, R298 to R304, R308, R311): what a candidate that closes and a frame that is accepted leave
alone, the opening, the checks, staging and deciding, and the deadlines. -/

namespace Sys2Proof.Machine
open Sys2Proof Host

/-! ### What the end of a candidate leaves alone (R169, R199, R352) -/

theorem refund_eq (b : Booking) (s : State) : refund b s = { s with txm := { s.txm with accounts := (refund b s).txm.accounts } } := by
  unfold refund
  dsimp only
  generalize (accountsOf s b.channel (txHead b.stream) b.start 0 ++
    if b.use.isCampaign then accountsOf s b.channel (txHead b.stream) b.start 2 else []) = l
  induction l generalizing s with
  | nil => rfl
  | cons x l ih => rw [List.foldl_cons, ih]; rfl

theorem unbook_eq (id : Nat) (s : State) : unbook id s = { s with
    regs := (unbook id s).regs
    txm := { s.txm with bookings := (unbook id s).txm.bookings, accounts := (unbook id s).txm.accounts } } := by
  unfold unbook
  split
  · rw [bump_eq, refund_eq]
  · rfl

theorem dropAck_eq (g : Nat) (s : State) : dropAck g s = { s with regs := (dropAck g s).regs, txm := (dropAck g s).txm } := by
  unfold dropAck
  split
  · rw [unbook_eq]
  · rfl

theorem groupSettle_eq (g : Nat) (s : State) : groupSettle g s = { s with lane := (groupSettle g s).lane } := by
  unfold groupSettle
  (repeat' split) <;> rfl

theorem newcomerGone_eq (g : Nat) (s : State) : newcomerGone g s = { s with fwd := (newcomerGone g s).fwd } := by
  unfold newcomerGone
  split
  · rfl
  · dsimp only
    (repeat' split) <;> rfl

theorem dropAck_jrn (g : Nat) (s : State) : (dropAck g s).jrn = s.jrn := by rw [dropAck_eq]

theorem groupSettle_jrn (g : Nat) (s : State) : (groupSettle g s).jrn = s.jrn := by rw [groupSettle_eq]

theorem newcomerGone_jrn (g : Nat) (s : State) : (newcomerGone g s).jrn = s.jrn := by rw [newcomerGone_eq]

/-- A candidate that closes leaves the journal with its entries alone. -/
theorem candidateClose_eq (g : Nat) (s : State) : candidateClose g s = { s with
    regs := (candidateClose g s).regs, txm := (candidateClose g s).txm, lane := (candidateClose g s).lane
    fwd := (candidateClose g s).fwd, jrn := { s.jrn with cands := adel s.jrn.cands g } } := by
  rw [candidateClose, groupSettle_eq, dropAck_eq, newcomerGone_eq]

/-! ### What the packet plane makes of an accepted frame (R334, R359, R362, R422) -/

theorem raiseHwm_eq (e : Eui) (c : Nat) (d : Word) (s : State) : raiseHwm e c d s = { s with fwd := (raiseHwm e c d s).fwd } := by
  unfold raiseHwm
  (repeat' split) <;> rfl

theorem hit_eq (e : Eui) (s : State) : hit e s = { s with fwd := (hit e s).fwd } := by
  unfold hit
  split <;> rfl

theorem raiseHwm_jrn (e : Eui) (c : Nat) (d : Word) (s : State) : (raiseHwm e c d s).jrn = s.jrn := by rw [raiseHwm_eq]

theorem hit_jrn (e : Eui) (s : State) : (hit e s).jrn = s.jrn := by rw [hit_eq]

theorem setLink_eq (c p : Eui) (s : State) : setLink c p s = { s with regs := (setLink c p s).regs, fwd := (setLink c p s).fwd } := by
  unfold setLink
  split
  · split
    · rfl
    · rw [bump_eq]
  · rw [bump_eq]

theorem setLinks_eq (l : List Eui) (s : State) : setLinks s l = { s with regs := (setLinks s l).regs, fwd := (setLinks s l).fwd } := by
  fun_induction setLinks s l with
  | case1 s => rfl
  | case2 s e i h => rfl
  | case3 s e h => rfl
  | case4 s a b r ih => rw [ih, setLink_eq]

theorem learnRoute_eq (h : MeshHdr) (s : State) : learnRoute h s = { s with
    regs := (learnRoute h s).regs, fwd := (learnRoute h s).fwd } := by
  unfold learnRoute
  split
  · rfl
  · split
    · rw [bump_eq]
    · rw [setLinks_eq]

theorem seenInsert_eq (o : Eui) (f : Nat) (s : State) : seenInsert o f s = { s with
    regs := (seenInsert o f s).regs, fwd := (seenInsert o f s).fwd } := by
  unfold seenInsert
  split
  · rw [bump_eq]
  · rfl

theorem floodSeen_eq (h : MeshHdr) (pan : BitVec 16) (len : Nat) (s : State) : floodSeen h pan len s = { s with
    regs := (floodSeen h pan len s).regs, fwd := (floodSeen h pan len s).fwd } := by
  unfold floodSeen
  dsimp only
  repeat' split
  · rw [bump_eq]
  · rw [bump_eq, seenInsert_eq]
  · rw [bump_eq, queueFlood, seenInsert_eq]
  · rw [seenInsert_eq]

theorem campSettle_eq (c : Nat) (s : State) : campSettle c s = { s with
    regs := (campSettle c s).regs, evr := (campSettle c s).evr, free := (campSettle c s).free, camps := (campSettle c s).camps } := by
  unfold campSettle
  split
  · rfl
  · split
    · rw [occurs_eq]
    · rfl

theorem progressReport_eq (i : Nat) (r : Progress) (s : State) : progressReport i r s = { s with
    regs := (progressReport i r s).regs, evr := (progressReport i r s).evr, free := (progressReport i r s).free
    camps := (progressReport i r s).camps, prog := (progressReport i r s).prog } := by
  unfold progressReport
  split
  · rw [bump_eq]
  · split
    · rw [bump_eq]
    · split
      · rw [bump_eq]
      · rw [campSettle_eq]
        split
        · rw [bump_eq]
        · rfl

/-- The accepted frame is a hit on its source, and its packet waits to be forwarded (R334, R342). -/
def frameNoted (f : FrameInfo) (s : State) : State :=
  let s0 := match s.indexOf f.source with
    | some i => s.modNode i fun n => { n with pan := f.pan, ageStamp := s.second }
    | none => s
  if forwards f s then { s0 with fwd.toForward := s0.fwd.toForward ++ [(f.source, f.digest)] } else s0

/-- The mesh header of the accepted frame gives a route, or carries a flood (R359, R362). -/
def meshTaken (f : FrameInfo) (s : State) : State := match f.mesh with
  | none => s
  | some h =>
    if badMesh h then bump cFldMeshHdrBad 0 s
    else if h.flood then floodSeen h f.pan f.length (learnRoute h s) else learnRoute h s

/-- The progress report of the accepted frame goes to its source's campaign (R422). -/
def reportTaken (f : FrameInfo) (s : State) : State := match f.report, s.indexOf f.source with
  | some r, some i => progressReport i r s
  | some _, none => bump cUpdCampReportStale 0 s
  | none, _ => s

theorem framePlane_steps (f : FrameInfo) (s : State) : framePlane f s = reportTaken f (meshTaken f (frameNoted f s)) := rfl

theorem frameNoted_eq (f : FrameInfo) (s : State) : frameNoted f s = { s with fwd := (frameNoted f s).fwd } := by
  unfold frameNoted
  dsimp only
  (repeat' split) <;> rfl

theorem meshTaken_eq (f : FrameInfo) (s : State) : meshTaken f s = { s with regs := (meshTaken f s).regs, fwd := (meshTaken f s).fwd } := by
  unfold meshTaken
  repeat' split
  · rfl
  · rw [bump_eq]
  · rw [floodSeen_eq, learnRoute_eq]
  · rw [learnRoute_eq]

theorem reportTaken_eq (f : FrameInfo) (s : State) : reportTaken f s = { s with
    regs := (reportTaken f s).regs, evr := (reportTaken f s).evr, free := (reportTaken f s).free
    camps := (reportTaken f s).camps, prog := (reportTaken f s).prog } := by
  unfold reportTaken
  split
  · rw [progressReport_eq]
  · rw [bump_eq]
  · rfl

/-- An accepted frame moves node entries, routes, floods and campaigns, never the journal. -/
theorem framePlane_eq (f : FrameInfo) (s : State) : framePlane f s = { s with
    regs := (framePlane f s).regs, evr := (framePlane f s).evr, free := (framePlane f s).free, fwd := (framePlane f s).fwd
    camps := (framePlane f s).camps, prog := (framePlane f s).prog } := by
  rw [framePlane_steps, reportTaken_eq, meshTaken_eq, frameNoted_eq]

theorem framePlane_jrn (f : FrameInfo) (s : State) : (framePlane f s).jrn = s.jrn := by rw [framePlane_eq]

/-! ### The change of a journal entry (R302, R304, R308) -/

/-- The only entry of the journal is that of its own JSN. -/
theorem entryOf_sole {j : Nat} {e : Entry} {s : State} (hsole : s.jrn.entries = [e]) (hjsn : e.hdr.jsn = j) : entryOf s j = some e := by
  simp [entryOf, hsole, hjsn]

/-- An entry that is accepted stands in the journal as ACCEPTED and in the deduplication cache (R302, R304). -/
theorem acceptEntry_jrn {j : Nat} {e : Entry} {s : State} (h : entryOf s j = some e) : (acceptEntry j s).jrn = { s.jrn with
    entries := s.jrn.entries.map fun e => if e.hdr.jsn = j then { e with state := .accepted } else e
    dedup := (acceptEntry j s).jrn.dedup } := by
  unfold acceptEntry
  simp only [h]
  split
  · simp only [framePlane_jrn, dedupAdd, raiseHwm_jrn, bump_jrn, modEntry]
  · simp only [hit_jrn, dedupAdd, raiseHwm_jrn, bump_jrn, modEntry]

/-- An entry that becomes VOID on a solo chip awaits no commit (R308, R310). -/
theorem entries_voidEntry_solo {j : Nat} {e : Entry} {s : State} (hsolo : s.pair.state = .solo) (h : entryOf s j = some e) :
    (voidEntry j s).jrn.entries = s.jrn.entries.map (voidedAt j s.clock.now) := by
  have hcommits : s.commits = false := by simp [State.commits, mirrors_solo hsolo]
  simp only [voidEntry, h, hcommits]
  rw [mirror_solo _ _ (by exact hsolo), groupSettle_jrn, dropAck_jrn]
  split
  · rfl
  · rw [newcomerGone_jrn]
    rfl

/-! ### What arrival leaves of the readings -/

section
variable (s : State) (t : Time)

@[simp] theorem cand_arrive (g : Nat) : (s.arrive t).cand g = s.cand g := by simp [State.cand]

@[simp] theorem groupOf_arrive (g : Nat) : (s.arrive t).groupOf g = s.groupOf g := by simp [State.groupOf]

@[simp] theorem entryOf_arrive (j : Nat) : entryOf (s.arrive t) j = entryOf s j := by simp [entryOf]

@[simp] theorem ownEui_arrive : (s.arrive t).ownEui = s.ownEui := by simp [State.ownEui]

@[simp] theorem partnerTimeout_arrive : partnerTimeout (s.arrive t) = partnerTimeout s := by simp [partnerTimeout]

@[simp] theorem markOf_arrive (e : Eui) : markOf (s.arrive t) e = markOf s e := by simp [markOf, hwmOf, State.nodeOf]

@[simp] theorem piecePart_arrive (f : FrameInfo) : piecePart (s.arrive t) f = piecePart s f := by simp [piecePart, nbrEui]

@[simp] theorem ringUsed_arrive : ringUsed (s.arrive t) = ringUsed s := by simp [ringUsed]

@[simp] theorem ringSize_arrive : ringSize (s.arrive t) = ringSize s := by simp [ringSize]

@[simp] theorem ringRoom_arrive (f : FrameInfo) : ringRoom (s.arrive t) f = ringRoom s f := by
  rw [ringRoom, ringUsed_arrive, ringSize_arrive, ringRoom]

@[simp] theorem hdrOf_arrive (c : Cand) (f : FrameInfo) (j : Nat) : hdrOf (s.arrive t) c f j = hdrOf s c f j := by simp [hdrOf]

end

@[simp] theorem cand_settle (s : State) (g : Nat) : (settle s).cand g = s.cand g := by simp [State.cand]

theorem cand_sole {s : State} {g : Nat} {c : Cand} (h : s.jrn.cands = [(g, c)]) : s.cand g = some c := by simp [State.cand, h, afind]

theorem cand_modCand (g : Nat) (f : Cand → Cand) (s : State) : (modCand g f s).cand g = (s.cand g).map f := afind_amod_same ..

theorem count_modCand (g : Nat) (f : Cand → Cand) (s : State) (c : Counter) (i : Nat) : (modCand g f s).count c i = s.count c i := rfl

theorem cand_candidateClose (g : Nat) (s : State) : (candidateClose g s).cand g = none := by
  rw [State.cand, candidateClose_eq]
  exact afind_adel_same ..

theorem entries_candidateClose (g : Nat) (s : State) : (candidateClose g s).jrn.entries = s.jrn.entries := by rw [candidateClose_eq]

/-! ### Opening (R198, R243, R298) -/

section
variable {t : Time} {g : Nat} {x : Group} {sm : Summary} {s : State} (hg : g < 4096) (hgroup : s.groupOf g = some x)
  (hsummary : x.summary = some sm) (hnew : s.cand g = none) (hreported : x.reported = false) (hup : s.slotUp = true)
include hg hgroup hsummary hnew hreported hup

theorem execCandidateOpen_plain (hack : sm.ackReq = false) : execCandidateOpen t g s =
    .next (settle { s.arrive t with jrn := { s.jrn with cands := aput s.jrn.cands g { ackReq := false } } }) := by
  rw [execCandidateOpen, onInst_of hg]
  simp [hgroup, hsummary, hnew, hreported, hup, hack]

/-- Before the schedule starts every acknowledgement is refused (R243). -/
theorem execCandidateOpen_unscheduled (hack : sm.ackReq = true) (hleads : s.leads = true) (hstopped : s.sch.started = false) :
    execCandidateOpen t g s = .next (settle (modCand g (fun c => { c with deadline := none, leave := none, refused := true })
      (bump cSchAckRefuse 0 { s.arrive t with jrn := { s.jrn with cands := aput s.jrn.cands g { ackReq := true } } }))) := by
  rw [execCandidateOpen, onInst_of hg]
  simp [hgroup, hsummary, hnew, hreported, hup, hack, hleads, candBook, bookAck, hstopped]

end

/-! ### The checks (R300) -/

/-- Candidate `g` enters CHECK with its frame, next in the order of the candidates (R299). -/
def checking (g : Nat) (f : FrameInfo) (s : State) : State :=
  modCand g (fun c => { c with state := .check, frame := some f, order := s.jrn.order + 1 }) { s with jrn.order := s.jrn.order + 1 }

theorem cand_checking {g : Nat} {c : Cand} {s : State} (f : FrameInfo) (h : s.cand g = some c) :
    (checking g f s).cand g = some { c with state := .check, frame := some f, order := s.jrn.order + 1 } := by
  rw [checking, cand_modCand]
  exact congrArg (Option.map _) h

theorem execCandidateVerdicts_enters {t : Time} {g : Nat} {c : Cand} {v : Verdict} {s : State} (f : FrameInfo) (hg : g < 4096)
    (hcand : s.cand g = some c) (hopen : c.state = .open) (hend : c.endEvent.isSome = true) (hverdict : c.verdict = some v)
    (hup : s.slotUp = true) : execCandidateVerdicts t g f s = .next (settle (runChecks g (checking g f (s.arrive t)))) := by
  rw [execCandidateVerdicts, onInst_of hg]
  simp [hcand, hopen, hverdict, hup, checking, Option.isNone_eq_false_iff.mpr hend]

section
variable {g : Nat} {c : Cand} {f : FrameInfo} {s : State} (hcand : s.cand g = some c) (hframe : c.frame = some f)
  (hkind : f.kind = .data) (hother : f.source ≠ s.ownEui)
include hcand hframe hkind hother

theorem runChecks_micFail (hverdict : c.verdict = some .micFail) : runChecks g s = candidateClose g s := by
  simp [runChecks, hcand, hframe, hkind, hother, hverdict]

/-- On the chip that leads a fresh frame of a node without a mark, alone in its node's turn, goes to STAGE. -/
theorem runChecks_stages (hverdict : c.verdict = some .okNew) (hleads : s.leads = true) (hmark : markOf s f.source = none)
    (hpiece : piecePart s f = false) (hidle : nodeBusy g f.source s = false) (hack : c.ackReq = false) (hroom : ringRoom s f = true)
    (hsolo : s.pair.state = .solo) : runChecks g s = modCand g (fun c => { c with state := .stage }) s := by
  simp [runChecks, hcand, hframe, hkind, hother, hverdict, hleads, hmark, hpiece, hidle, lastChecks, hack, hroom, passCand, hsolo]

end

/-- Besides the only candidate no other of its node is in STAGE or MIRROR. -/
theorem nodeBusy_checking_sole {g : Nat} {c : Cand} {s : State} (f : FrameInfo) (e : Eui) (h : s.jrn.cands = [(g, c)]) :
    nodeBusy g e (checking g f s) = false := by
  simp [nodeBusy, checking, modCand, amod, h]

/-! ### Staging and deciding (R299, R301, R302) -/

theorem jsn_hdrOf (s : State) (c : Cand) (f : FrameInfo) (j : Nat) : (hdrOf s c f j).jsn = j := rfl

/-- The entry that candidate `g` stages under the next JSN (R301, R312). -/
def stagedEntry (g : Nat) (c : Cand) (f : FrameInfo) (s : State) : Entry :=
  { hdr := hdrOf s c f s.jrn.nextJsn, state := .staged, group := g, leave := c.leave.getD 0, deadline := c.deadline.getD 0
    frame := some f }

/-- The state with that entry in the journal. -/
def staged (g : Nat) (c : Cand) (f : FrameInfo) (s : State) : State :=
  { (takeJsn s).2 with jrn.entries := s.jrn.entries ++ [stagedEntry g c f s] }

theorem staged_jrn (g : Nat) (c : Cand) (f : FrameInfo) (s : State) : (staged g c f s).jrn =
    { s.jrn with nextJsn := s.jrn.nextJsn + 1, entries := s.jrn.entries ++ [stagedEntry g c f s] } := rfl

theorem staged_txm (g : Nat) (c : Cand) (f : FrameInfo) (s : State) : (staged g c f s).txm = s.txm := rfl

/-- A solo chip decides at once what it has staged in time (R299). -/
theorem execCandidateStaged_solo {t : Time} {g : Nat} {c : Cand} {f : FrameInfo} {s : State} (hg : g < 4096) (hcand : s.cand g = some c)
    (hstage : c.state = .stage) (hframe : c.frame = some f)
    (hintime : (c.deadline.any fun d => decide (d < (s.arrive t).clock.now)) = false) (hup : s.slotUp = true)
    (hsolo : s.pair.state = .solo) : execCandidateStaged t g true true s =
      .next (settle (decide' g (s.arrive t).jrn.nextJsn { c with jsn := (s.arrive t).jrn.nextJsn } (staged g c f (s.arrive t)))) := by
  have hsolo' : (s.arrive t).pair.state = .solo := by rw [arrive_pair, hsolo]
  have hcommits : (s.arrive t).commits = false := by simp [State.commits, mirrors_solo hsolo']
  rw [execCandidateStaged, onInst_of hg]
  simp only [cand_arrive, hcand, hframe, hstage, leads_arrive, leads_solo hsolo, slotUp_arrive, hup, hintime, hcommits]
  rw [mirror_solo _ _ (by exact hsolo')]
  simp only [bne_self_eq_false, Bool.not_true, Bool.and_false, Bool.or_false, Bool.false_eq_true, if_false]
  rfl

theorem recheck_nil {s : State} (e : Eui) (h : s.jrn.cands = []) : recheck e s = s := by simp [recheck, h]

section
variable {g j : Nat} {b c : Cand} {s : State} (hsole : s.jrn.cands = [(g, b)])
include hsole

/-- Without another candidate the decided one leaves none to check again. -/
theorem adel_sole : adel s.jrn.cands g = [] := by simp [adel, hsole]

/-- A frame that asks for no acknowledgement is ACCEPTED as it is decided (R299, R302). -/
theorem decide'_accepts {f : FrameInfo} {e : Entry} (hframe : c.frame = some f) (hack : c.ackReq = false) (hentry : entryOf s j = some e) :
    decide' g j c s = groupSettle g (acceptEntry j { s with jrn.cands := [] }) := by
  have hnone : (groupSettle g (acceptEntry j { s with jrn.cands := [] })).jrn.cands = [] := by
    rw [groupSettle_jrn]
    exact congrArg Jrn.cands (acceptEntry_jrn (by exact hentry))
  simp only [decide', adel_sole hsole, hframe, hack]
  exact recheck_nil _ hnone

/-- A frame that asks for an acknowledgement is OWED, its template armed (R299, R308). -/
theorem decide'_owes {f : FrameInfo} (hframe : c.frame = some f) (hack : c.ackReq = true) : decide' g j c s =
    { (modEntry j (fun e => { e with state := .owed, group := g, leave := c.leave.getD 0, deadline := c.deadline.getD 0 })
        { s with jrn.cands := [] }) with txm.acks := amod s.txm.acks g fun a => { a with armed := true } } := by
  simp only [decide', adel_sole hsole, hframe, hack]
  exact recheck_nil _ rfl

end

/-! ### Deadlines (R255, R302, R303, R308, R311) -/

/-- The candidate of a first decode without a frame in hand closes; the late flag marks the group whose frame is still to end (R180). -/
theorem candLate_first {g : Nat} {c : Cand} (hframe : c.frame = none) (hfirst : c.rerun = false) (s : State) :
    ∃ u, candLate g c s = candidateClose g u ∧ u.jrn = s.jrn := by
  simp only [candLate, hframe, hfirst]
  refine ⟨_, rfl, ?_⟩
  split
  · simp [State.modGroup]
  · simp

section
variable {t d : Time} {g : Nat} {c : Cand} {s : State} (hcand : s.cand g = some c) (hdeadline : c.deadline = some d)
  (hdue : d ≤ (s.arrive t).clock.now) (hup : s.slotUp = true)
include hcand hdeadline hdue hup

theorem execCandidateDeadline_open (hg : g < 4096) (hopen : c.state = .open) (hleads : s.leads = true) :
    execCandidateDeadline t g s = .next (settle (candLate g c (s.arrive t))) := by
  rw [execCandidateDeadline, onInst_of (show g < 8192 by omega)]
  simp [hcand, hdeadline, hdue, hup, hopen, hleads]

theorem execStandbyCandidateTimeout_due (hg : g < 4096) (hheld : c.state = .held) (hack : c.ackReq = true) (hfollows : s.leads = false) :
    execStandbyCandidateTimeout t g s = .next (settle (candidateClose g (bump cJrnStandbyDrop 0 (s.arrive t)))) := by
  rw [execStandbyCandidateTimeout, onInst_of hg]
  simp [hcand, hheld, hack, hfollows, hup, hdeadline, hdue]

end

section
variable {t : Time} {j : Nat} {e : Entry} {s : State} (hentry : entryOf s j = some e) (howed : e.state = .owed) (hup : s.slotUp = true)
include hentry howed hup

theorem execOwedReleaseMissed_due (hown : e.mirrored = false) (hdue : e.leave + us 1 ≤ (s.arrive t).clock.now) :
    execOwedReleaseMissed t j s = .next (settle (voidEntry j (s.arrive t))) := by
  rw [execOwedReleaseMissed, onInst_true]
  simp [hentry, howed, hup, hown, hdue]

theorem execStandbyOwedAssume_due (hmirrored : e.mirrored = true) (hfollows : s.leads = false)
    (hdue : e.leave + us 1 + partnerTimeout s ≤ (s.arrive t).clock.now) :
    execStandbyOwedAssume t j s = .next (settle (acceptEntry j (s.arrive t))) := by
  rw [execStandbyOwedAssume, onInst_true]
  simp [hentry, howed, hup, hmirrored, hfollows, hdue]

end

theorem execDedupExpire_up {t : Time} {s : State} (hup : s.slotUp = true) : execDedupExpire t s =
    .next (settle { s.arrive t with jrn := { s.jrn with
      dedup := s.jrn.dedup.filter fun d => decide ((s.arrive t).clock.now < d.since + sec (s.fld rJrnCtrl 0 10)) } }) := by
  rw [execDedupExpire, onInst_true]
  simp [hup]

/-! ### The statement -/

/-- Settles O14, clause by clause: the lemmas above give the state that each command answers, settled. -/
theorem commitSequencer : Obligations.CommitSequencer := by
  unfold Obligations.CommitSequencer
  refine ⟨?plain, ?unscheduled, ?stages, ?micFail, ?accepted, ?owed, ?late, ?missed, ?timeout, ?assumed, ?expired⟩
  case plain =>
    intro t g x sm s hg hgroup hsummary hnew hreported hup hack
    refine ⟨_, (exec_candidateOpen ..).trans (execCandidateOpen_plain hg hgroup hsummary hnew hreported hup hack), ?_,
      (settle_eq _).trans ?_⟩
    · rw [cand_settle]
      exact afind_aput_same ..
    · simp
  case unscheduled =>
    intro t g x sm s hg hgroup hsummary hnew hreported hup hack hleads hstopped
    refine ⟨_, (exec_candidateOpen ..).trans
      (execCandidateOpen_unscheduled hg hgroup hsummary hnew hreported hup hack hleads hstopped), ?_, ?_, (settle_eq _).trans ?_⟩
    · rw [cand_settle, cand_modCand, State.cand, bump_jrn, afind_aput_same, Option.map_some]
    · rw [count_settle, count_modCand]
      exact count_bump_of_regs (arrive_regs s t) ..
    · rw [modCand, bump_eq]
      simp
  case stages =>
    intro t g c f s hg hcand hopen hend hverdict hup hkind hother hleads hmark hpiece hsole hack hroom hsolo
    have hcheck := cand_checking f (show (s.arrive t).cand g = some c by rw [cand_arrive, hcand])
    have hruns := runChecks_stages hcheck rfl hkind (show f.source ≠ (s.arrive t).ownEui by rwa [ownEui_arrive]) hverdict
      (show (s.arrive t).leads = true by rwa [leads_arrive]) (show markOf (s.arrive t) f.source = none by rwa [markOf_arrive])
      (show piecePart (s.arrive t) f = false by rwa [piecePart_arrive])
      (nodeBusy_checking_sole f f.source (show (s.arrive t).jrn.cands = [(g, c)] by rwa [arrive_jrn])) hack
      (show ringRoom (s.arrive t) f = true by rwa [ringRoom_arrive]) (show (s.arrive t).pair.state = .solo by rwa [arrive_pair])
    refine ⟨_, (exec_candidateVerdicts ..).trans (execCandidateVerdicts_enters f hg hcand hopen hend hverdict hup), ?_,
      (settle_eq _).trans ?_⟩
    · rw [cand_settle, hruns, cand_modCand, hcheck, arrive_jrn]
      rfl
    · rw [hruns]
      simp [modCand, checking]
  case micFail =>
    intro t g c f s hg hcand hopen hend hverdict hup hkind hother
    have hcheck := cand_checking f (show (s.arrive t).cand g = some c by rw [cand_arrive, hcand])
    have hruns := runChecks_micFail hcheck rfl hkind (show f.source ≠ (s.arrive t).ownEui by rwa [ownEui_arrive]) hverdict
    refine ⟨_, (exec_candidateVerdicts ..).trans (execCandidateVerdicts_enters f hg hcand hopen hend hverdict hup), ?_, ?_⟩
    · rw [cand_settle, hruns, cand_candidateClose]
    · rw [settle_jrn, hruns, entries_candidateClose, checking, modCand, arrive_jrn]
  case accepted =>
    intro t g c f s hg hsole hstage hframe hdeadline hack hup hsolo hempty
    have hexec := execCandidateStaged_solo hg (cand_sole hsole) hstage hframe (t := t) (by simp [hdeadline]) hup hsolo
    have hcands : (staged g c f (s.arrive t)).jrn.cands = [(g, c)] := by rw [staged_jrn, arrive_jrn, hsole]
    have hentry : entryOf (staged g c f (s.arrive t)) (s.arrive t).jrn.nextJsn = some (stagedEntry g c f (s.arrive t)) :=
      entryOf_sole (by rw [staged_jrn, arrive_jrn, hempty, List.nil_append]) rfl
    have hdecide := decide'_accepts (c := { c with jsn := (s.arrive t).jrn.nextJsn }) hcands hframe hack hentry
    refine ⟨_, (exec_candidateStaged ..).trans hexec, ?_, ?_, ?_⟩
    · rw [cand_settle, hdecide, State.cand, groupSettle_jrn, acceptEntry_jrn (by exact hentry)]
      rfl
    · rw [settle_jrn, hdecide, groupSettle_jrn, acceptEntry_jrn (by exact hentry)]
      simp [staged_jrn]
    · rw [settle_jrn, hdecide, groupSettle_jrn, acceptEntry_jrn (by exact hentry)]
      simp [staged_jrn, hempty, stagedEntry, jsn_hdrOf]
  case owed =>
    intro t g c f s hg hsole hstage hframe hdeadline hack hup hsolo hempty
    have hexec := execCandidateStaged_solo hg (cand_sole hsole) hstage hframe (t := t) (by simp [hdeadline]) hup hsolo
    have hcands : (staged g c f (s.arrive t)).jrn.cands = [(g, c)] := by rw [staged_jrn, arrive_jrn, hsole]
    have hdecide := decide'_owes (j := (s.arrive t).jrn.nextJsn) (c := { c with jsn := (s.arrive t).jrn.nextJsn }) hcands hframe hack
    refine ⟨_, (exec_candidateStaged ..).trans hexec, ?_, ?_, ?_⟩
    · rw [cand_settle, hdecide]
      rfl
    · rw [settle_jrn, hdecide]
      simp [modEntry, staged_jrn, hempty, stagedEntry, jsn_hdrOf]
    · rw [settle_txm, hdecide]
      simp [afind_amod_same, staged_txm]
  case late =>
    intro t d g c s hg hcand hopen hframe hfirst hdeadline hdue hleads hup
    obtain ⟨u, hlate, hjrn⟩ := candLate_first (g := g) hframe hfirst (s.arrive t)
    refine ⟨_, (exec_candidateDeadline ..).trans (execCandidateDeadline_open hcand hdeadline hdue hup hg hopen hleads), ?_, ?_⟩
    · rw [cand_settle, hlate, cand_candidateClose]
    · rw [settle_jrn, hlate, entries_candidateClose, hjrn, arrive_jrn]
  case missed =>
    intro t j e s hsole hjsn howed hown hup hdue hsolo
    have hentry := entryOf_sole hsole hjsn
    refine ⟨_, (exec_owedReleaseMissed ..).trans (execOwedReleaseMissed_due hentry howed hup hown hdue), ?_⟩
    rw [settle_jrn, entries_voidEntry_solo (by rwa [arrive_pair]) ((entryOf_arrive s t j).trans hentry), arrive_jrn, hsole,
      List.map_singleton, voidedAt, if_pos hjsn]
  case timeout =>
    intro t d g c s hg hcand hheld hack hdeadline hdue hfollows hup
    refine ⟨_, (exec_standbyCandidateTimeout ..).trans
      (execStandbyCandidateTimeout_due hcand hdeadline hdue hup hg hheld hack hfollows), ?_, ?_⟩
    · rw [cand_settle, cand_candidateClose]
    · rw [settle_jrn, entries_candidateClose, bump_jrn, arrive_jrn]
  case assumed =>
    intro t j e s hsole hjsn howed hmirrored hfollows hup hdue
    have hentry := entryOf_sole hsole hjsn
    refine ⟨_, (exec_standbyOwedAssume ..).trans (execStandbyOwedAssume_due hentry howed hup hmirrored hfollows hdue), ?_⟩
    rw [settle_jrn, acceptEntry_jrn ((entryOf_arrive s t j).trans hentry), arrive_jrn, hsole, List.map_singleton, if_pos hjsn]
  case expired =>
    intro t s hup
    refine ⟨_, (exec_dedupExpire ..).trans (execDedupExpire_up hup), ?_, (settle_eq _).trans ?_⟩
    · rw [settle_jrn]
    · simp

end Sys2Proof.Machine

/-! PROOFS. What of the pair stands while records leave, the token is released, candidates close and items end (R370, R376, R381): the
lost partner (R381), the device that detaches (R380, R382), and the pairing that begins again (R290). -/

namespace Sys2Proof.Machine
open Sys2Proof Host

/-! ### The bond as a part of the state -/

/-- The pair without what a record that leaves, a commit that came and the release of the token change: the number of the last record,
what awaits a commit, and the own line (R309, R376, R378). -/
def Pair.bond (p : Pair) : Pair := { p with mseqOut := 0, awaits := [], driving := false, ownLow := false, lastChange := 0 }

/-- The bond of a state. -/
def State.bond (s : State) : Pair := s.pair.bond

theorem bond_congr {s u : State} (h : u.pair = s.pair) : u.bond = s.bond := congrArg Pair.bond h

@[simp] theorem bond_mk regs' halves' latches' tables' mem' cfgErr' start' pins' clock' hlt' evr' fh' pool' chn' det' lane' txm' cal' timer' sch' key' flash' jrn' dl' fry' fwd' pair' upd' camps' prog' msys' before' straits' sent' free' pending' :
    (State.mk regs' halves' latches' tables' mem' cfgErr' start' pins' clock' hlt' evr' fh' pool' chn' det' lane' txm' cal' timer' sch' key' flash' jrn' dl' fry' fwd' pair' upd' camps' prog' msys' before' straits' sent' free' pending').bond =
      pair'.bond := rfl

@[simp] theorem bond_eta (s : State) : s.pair.bond = s.bond := rfl

@[simp] theorem bond_ite (c : Prop) [Decidable c] (a b : State) : (if c then a else b).bond = if c then a.bond else b.bond :=
  apply_ite _ _ _ _

theorem bond_foldl {α : Type} (f : State → α → State) (h : ∀ s x, (f s x).bond = s.bond) (l : List α) (s : State) :
    (l.foldl f s).bond = s.bond := by
  induction l generalizing s with
  | nil => rfl
  | cons a r ih => rw [List.foldl_cons, ih, h]

@[simp] theorem bump_bond (c : Counter) (i : Nat) (s : State) : (bump c i s).bond = s.bond := bond_congr (bump_pair c i s)

@[simp] theorem out_bond (s : State) (o : Output) : (s.out o).bond = s.bond := rfl

@[simp] theorem modDl_bond (d : Nat) (f : DlRec → DlRec) (s : State) : (modDl d f s).bond = s.bond := rfl

@[simp] theorem modEntry_bond (j : Nat) (f : Entry → Entry) (s : State) : (modEntry j f s).bond = s.bond := rfl

@[simp] theorem modCand_bond (g : Nat) (f : Cand → Cand) (s : State) : (modCand g f s).bond = s.bond := rfl

@[simp] theorem evrPush_bond (r : EvRecord) (s : State) : (evrPush r s).bond = s.bond := bond_congr (by rw [evrPush_eq])

@[simp] theorem occurs_bond (e : Nat) (s : State) : (occurs e s).bond = s.bond := bond_congr (occurs_pair e s)

@[simp] theorem mirror_bond (b : Body) (a : Option Await) (s : State) : (mirror b a s).bond = s.bond := by
  rw [State.bond, mirror_pair]
  rfl

/-! ### Entries and candidates (R299, R302, R308) -/

@[simp] theorem hit_bond (e : Eui) (s : State) : (hit e s).bond = s.bond := bond_congr (by rw [hit_eq])

@[simp] theorem raiseHwm_bond (e : Eui) (c : Nat) (d : Word) (s : State) : (raiseHwm e c d s).bond = s.bond :=
  bond_congr (by rw [raiseHwm_eq])

@[simp] theorem framePlane_bond (f : FrameInfo) (s : State) : (framePlane f s).bond = s.bond := bond_congr (by rw [framePlane_eq])

@[simp] theorem dropAck_bond (g : Nat) (s : State) : (dropAck g s).bond = s.bond := bond_congr (by rw [dropAck_eq])

@[simp] theorem groupSettle_bond (g : Nat) (s : State) : (groupSettle g s).bond = s.bond := bond_congr (by rw [groupSettle_eq])

@[simp] theorem newcomerGone_bond (g : Nat) (s : State) : (newcomerGone g s).bond = s.bond := bond_congr (by rw [newcomerGone_eq])

@[simp] theorem candidateClose_bond (g : Nat) (s : State) : (candidateClose g s).bond = s.bond :=
  bond_congr (by rw [candidateClose_eq])

@[simp] theorem dedupAdd_bond (h : EntryHdr) (s : State) : (dedupAdd h s).bond = s.bond := rfl

@[simp] theorem acceptEntry_bond (j : Nat) (s : State) : (acceptEntry j s).bond = s.bond := by
  unfold acceptEntry
  split
  · rfl
  · dsimp only
    split <;> simp

@[simp] theorem voidEntry_bond (j : Nat) (s : State) : (voidEntry j s).bond = s.bond := by
  unfold voidEntry
  split
  · rfl
  · dsimp only
    split <;> simp

@[simp] theorem duplicate_bond (g : Nat) (c : Cand) (f : FrameInfo) (e : Option Time) (s : State) :
    (duplicate g c f e s).bond = s.bond := by
  unfold duplicate
  dsimp only
  (repeat' split) <;> simp

@[simp] theorem matchCand_bond (g : Nat) (f : FrameInfo) (x : Entry) (s : State) : (matchCand g f x s).bond = s.bond := by
  unfold matchCand
  dsimp only
  split <;> simp

@[simp] theorem passCand_bond (g : Nat) (c : Cand) (f : FrameInfo) (s : State) : (passCand g c f s).bond = s.bond := by
  unfold passCand
  dsimp only
  split <;> simp

@[simp] theorem lastChecks_bond (g : Nat) (c : Cand) (f : FrameInfo) (s : State) : (lastChecks g c f s).bond = s.bond := by
  unfold lastChecks
  (repeat' split) <;> simp

@[simp] theorem runChecks_bond (g : Nat) (s : State) : (runChecks g s).bond = s.bond := by
  unfold runChecks
  (repeat' split) <;> simp

@[simp] theorem recheck_bond (e : Eui) (s : State) : (recheck e s).bond = s.bond := bond_foldl _ (fun _ _ => runChecks_bond _ _) _ _

@[simp] theorem decide'_bond (g j : Nat) (c : Cand) (s : State) : (decide' g j c s).bond = s.bond := by
  unfold decide'
  dsimp only
  split <;> simp

@[simp] theorem mirrorLate_bond (g j : Nat) (c : Cand) (s : State) : (mirrorLate g j c s).bond = s.bond := by
  unfold mirrorLate
  dsimp only
  split <;> simp

@[simp] theorem entryCommitted_bond (j : Nat) (s : State) : (entryCommitted j s).bond = s.bond := by
  unfold entryCommitted
  (repeat' split) <;> simp

theorem soloCommits_bond (s : State) : (soloCommits s).bond = s.bond := by
  unfold soloCommits
  exact bond_foldl _ (fun _ _ => entryCommitted_bond _ _) _ s

/-! ### A report of an error, and the FATAL that a full handler stack raises (R309, R455, R458, R480) -/

@[simp] theorem settleOwed_bond (t : Time) (s : State) : (settleOwed t s).bond = s.bond :=
  bond_foldl _ (fun _ _ => by split <;> simp) _ _

@[simp] theorem cutAll_bond (s : State) : (cutAll s).bond = s.bond := by
  unfold cutAll
  exact bond_foldl _ (fun _ _ => by simp [closeBooking]) _ s

@[simp] theorem shadowCands_bond (s : State) : (shadowCands s).bond = s.bond := by
  refine bond_foldl _ (fun s x => ?_) _ _
  dsimp only
  split
  · split
    · exact bond_congr (by rw [unbook_eq])
    · rfl
  · rfl

@[simp] theorem releaseToken_bond (why : ReleaseBy) (s : State) : (releaseToken why s).bond = s.bond := by
  unfold releaseToken
  split
  · dsimp only
    split
    · rw [shadowCands_bond, settleOwed_bond, cutAll_bond]
      rfl
    · rw [settleOwed_bond, cutAll_bond]
      rfl
  · rfl

@[simp] theorem latchFatal_bond (c : FatalCause) (s : State) : (latchFatal c s).bond = s.bond := by
  unfold latchFatal
  split <;> rfl

@[simp] theorem raiseFatal_bond (c : FatalCause) (s : State) : (raiseFatal c s).bond = s.bond := by
  unfold raiseFatal
  split
  · simp
  · split
    · exact (releaseToken_bond ..).trans (latchFatal_bond ..)
    · simp

@[simp] theorem pushFrame_bond (f : HFrame) (s : State) : (pushFrame f s).bond = s.bond := rfl

@[simp] theorem placeNew_bond (f : HFrame) (s : State) : (placeNew f s).bond = s.bond := by
  unfold placeNew fatalBy
  (repeat' split) <;> simp

@[simp] theorem placeFrame_bond (unit code rank arg : Nat) (s : State) : (placeFrame unit code rank arg s).bond = s.bond := by
  unfold placeFrame
  dsimp only
  (repeat' split) <;> simp

@[simp] theorem errRecord_bond (kind unit code cls rank cnt a0 a1 : Nat) (s : State) :
    (errRecord kind unit code cls rank cnt a0 a1 s).bond = s.bond := evrPush_bond ..

@[simp] theorem report_bond (r : Report) (s : State) : (report r s).bond = s.bond := by
  unfold report
  dsimp only
  (repeat' split) <;> simp

@[simp] theorem degraded_bond (block inst code rank : Nat) (s : State) : (degraded block inst code rank s).bond = s.bond := report_bond ..

/-! ### Items of the downlink and of the vault (R287, R316, R317) -/

@[simp] theorem outcomeEntry_bond (r : DlRec) (o c : Nat) (s : State) : (outcomeEntry r o c s).bond = s.bond := by
  unfold outcomeEntry takeJsn
  exact mirror_bond ..

@[simp] theorem reportFlow_bond (it : DlItem) (s : State) : (reportFlow it s).bond = s.bond := by
  refine bond_foldl _ (fun s r => ?_) _ _
  unfold reportItem
  split <;> simp

@[simp] theorem endItem_bond (d : Nat) (e : Ending) (s : State) : (endItem d e s).bond = s.bond := by
  unfold endItem
  dsimp only
  (repeat' split) <;> simp

@[simp] theorem ferryPacket_bond (ty flags : Nat) (body : Octets) (s : State) : (ferryPacket ty flags body s).bond = s.bond := by
  unfold ferryPacket
  dsimp only
  (repeat' split) <;> simp

@[simp] theorem dlAdvance_bond (d : Nat) (s : State) : (dlAdvance d s).bond = s.bond := by
  unfold dlAdvance
  dsimp only
  (repeat' split) <;> simp

@[simp] theorem takeFloodId_bond (s : State) : (takeFloodId s).2.bond = s.bond := by
  unfold takeFloodId
  dsimp only
  split
  · exact mirror_bond ..
  · rfl

@[simp] theorem ownFlood_bond (d : Option Nat) (pan : BitVec 16) (ttl len : Nat) (s : State) :
    (ownFlood d pan ttl len s).bond = s.bond := by
  have hinsert (o : Eui) (f : Nat) (u : State) : (seenInsert o f u).bond = u.bond := bond_congr (by rw [seenInsert_eq])
  exact (hinsert ..).trans (takeFloodId_bond s)

@[simp] theorem dlCommitted_bond (d : Nat) (s : State) : (dlCommitted d s).bond = s.bond := by
  unfold dlCommitted
  dsimp only
  (repeat' split) <;> simp

@[simp] theorem dlAccept_bond (it : DlItem) (s : State) : (dlAccept it s).bond = s.bond := by
  unfold dlAccept
  dsimp only
  (repeat' split) <;> simp

@[simp] theorem dlDrain_bond (n : Nat) (s : State) : (dlDrain n s).bond = s.bond := by
  induction n generalizing s with
  | zero => rfl
  | succ n ih =>
    unfold dlDrain
    (repeat' split) <;> simp [ih]

@[simp] theorem finish_bond (d : Nat) (e : Ending) (s : State) : (finish d e s).bond = s.bond := by
  unfold finish dlTaken
  dsimp only
  split <;> simp

@[simp] theorem keySettle_bond (d : Nat) (s : State) : (keySettle d s).bond = s.bond := by
  unfold keySettle
  repeat' split
  · rfl
  · exact finish_bond ..
  · rfl

/-! ### Activation, confirmation and what awaited a commit (R310, R378, R412, R414) -/

@[simp] theorem actTo_bond (n : Nat) (s : State) : (actTo n s).bond = s.bond := mirror_bond ..

@[simp] theorem actDone_bond (s : State) : (actDone s).bond = s.bond := by
  unfold actDone
  dsimp only
  split <;> simp

@[simp] theorem actPartnerLost_bond (s : State) : (actPartnerLost s).bond = s.bond := by
  unfold actPartnerLost
  (repeat' split) <;> simp

@[simp] theorem rollbackUp_bond (s : State) : (rollbackUp s).bond = s.bond := by
  unfold rollbackUp raiseRollback blowFuse
  (repeat' split) <;> rfl

@[simp] theorem confirmCommitted_bond (ok : Bool) (s : State) : (confirmCommitted ok s).bond = s.bond := by
  unfold confirmCommitted
  dsimp only
  split <;> simp

/-- Of what awaits a commit only a handover moves the bond: it takes the commit (R396). -/
theorem settleAwait_bond {a : Await} (h : a ≠ .handover) (ok : Bool) (s : State) : (settleAwait a ok s).bond = s.bond := by
  cases a with
  | entry j => exact entryCommitted_bond ..
  | void j => rfl
  | dl d => exact dlCommitted_bond ..
  | key d =>
    cases ok with
    | true => exact keySettle_bond ..
    | false => rfl
  | camp c => rfl
  | confirm => exact confirmCommitted_bond ..
  | handover => exact absurd rfl h
  | activation => rfl
  | piece => rfl

end Sys2Proof.Machine

/-! PROOFS. Pairing, the Isthmus links and the loss of the partner (R290, R370, R373, R376, R380 to R382): what each command answers, and the
state of the device that loses its partner or leaves its pairing. -/

namespace Sys2Proof.Machine
open Sys2Proof Host

/-! ### What arrival leaves of the readings -/

section
variable (s : State) (t : Time)

@[simp] theorem isthmusUp_arrive : (s.arrive t).isthmusUp = s.isthmusUp := by simp [State.isthmusUp, State.islandUp]

@[simp] theorem keyUp_arrive : (s.arrive t).keyUp = s.keyUp := by simp [State.keyUp, State.islandUp]

@[simp] theorem linked_arrive : (s.arrive t).linked = s.linked := by simp [State.linked]

@[simp] theorem mirrors_arrive : (s.arrive t).mirrors = s.mirrors := by simp [State.mirrors]

@[simp] theorem pairMode_arrive : pairMode (s.arrive t) = pairMode s := by simp [pairMode]

@[simp] theorem mayPair_arrive : mayPair (s.arrive t) = mayPair s := by simp [mayPair]

end

/-! ### Links (R373) -/

/-- A record that awaits no commit leaves under the next MSEQ (R376). -/
theorem emit_linked {s : State} (h : s.linked = true) (b : Body) : emit b none s =
    ({ s with pair := { s.pair with mseqOut := s.pair.mseqOut + 1 } } : State).out
      (.record false false (s.pair.mseqOut + 1) s.pair.epoch b) := by
  rw [emit, emitAs, if_pos h]
  rfl

section
variable {t : Time} {l : Nat} {s : State} (hl : l < 2) (hup : s.isthmusUp = true)
include hl hup

section
variable (hlink : s.pair.links.getLsbD l = true)
include hlink

/-- An idle link of a device without a partner carries a keepalive outside the MSEQ order. -/
theorem execKeepaliveTx_unpaired (hpaired : s.pair.paired = false)
    (hidle : (afind s.pair.linkSent l).getD 0 + isthmus 256 ≤ (s.arrive t).clock.now) : execKeepaliveTx t l s =
    .next (settle (({ s.arrive t with pair := { s.pair with
      linkSent := aput s.pair.linkSent l (s.arrive t).clock.now } } : State).out (.keepalive l))) := by
  rw [execKeepaliveTx, onInst_of hl]
  simp [hup, hlink, hpaired, State.linked, Nat.not_lt.mpr hidle]

theorem execKeepaliveTx_paired (hpaired : s.pair.paired = true)
    (hidle : (afind s.pair.linkSent l).getD 0 + isthmus 256 ≤ (s.arrive t).clock.now) : execKeepaliveTx t l s =
    .next (settle (({ s.arrive t with pair := { s.pair with
      linkSent := aput s.pair.linkSent l (s.arrive t).clock.now, mseqOut := s.pair.mseqOut + 1 } } : State).out
        (.record false false (s.pair.mseqOut + 1) s.pair.epoch .keepalive))) := by
  have hlinked : (s.arrive t).linked = true := by simp [State.linked, hpaired, hup]
  rw [execKeepaliveTx, onInst_of hl]
  simp only [hlinked, isthmusUp_arrive, arrive_pair, hup, hlink, Nat.not_lt.mpr hidle, Bool.not_true, Bool.or_self, decide_false,
    Bool.false_eq_true, if_false, if_true]
  rw [emit_linked]
  exact Bool.and_eq_true_iff.mpr ⟨hpaired, (isthmusUp_arrive s t).trans hup⟩

theorem execIsthmusLinkLoss_due {lane : Bool}
    (hdue : lane = true ∨ (afind s.pair.linkHeard l).getD 0 + isthmus 1024 ≤ (s.arrive t).clock.now) : execIsthmusLinkLoss t l lane s =
    .next (settle (bump cPairLinkLoss 0 { s.arrive t with pair := { s.pair with
      links := s.pair.links &&& ~~~ BitVec.ofNat 2 (2 ^ l) } })) := by
  have hnot : (!lane && decide ((s.arrive t).clock.now < (afind s.pair.linkHeard l).getD 0 + isthmus 1024)) = false := by
    rcases hdue with hlane | hlate
    · simp [hlane]
    · simp [Nat.not_lt.mpr hlate]
  rw [execIsthmusLinkLoss, onInst_of hl]
  simp [hup, hlink, hnot]

end

/-- A link that comes UP beside a pairing begins none (R376). -/
theorem execIsthmusLinkUp_paired (hmode : pairMode s = true) (hdown : s.pair.links.getLsbD l = false) (hpaired : s.pair.paired = true) :
    execIsthmusLinkUp t l s = .next (settle { s.arrive t with pair := { s.pair with
      links := s.pair.links ||| BitVec.ofNat 2 (2 ^ l)
      linkHeard := aput s.pair.linkHeard l (s.arrive t).clock.now
      linkSent := aput s.pair.linkSent l (s.arrive t).clock.now } }) := by
  rw [execIsthmusLinkUp, onInst_of hl]
  simp [hup, hmode, hdown, hpaired, seeking]

end

theorem execIsthmusLinkUp_noPair {t : Time} {l : Nat} {s : State} (hl : l < 2) (hmode : pairMode s = false) :
    execIsthmusLinkUp t l s = .next (settle (s.arrive t)) := by
  rw [execIsthmusLinkUp, onInst_of hl]
  simp [hmode]

/-! ### A pairing begins, and a device leaves its own (R290, R370, R380, R382) -/

theorem beginPairing_pair (s : State) : (beginPairing s).pair =
    { s.pair with mseqOut := 0, nextIn := 1, waiting := [], gapSince := none } := by
  unfold beginPairing
  dsimp only
  split <;> rfl

theorem beginPairing_eq (s : State) : beginPairing s = { s with
    pair := (beginPairing s).pair, key := (beginPairing s).key, free := (beginPairing s).free, sent := (beginPairing s).sent } := by
  unfold beginPairing
  dsimp only
  split <;> rfl

/-- The pair of a device that has left its pairing. -/
def Pair.detached (p : Pair) : Pair :=
  { p with
    state := .detached, paired := false, awaits := [], sensed := none, drained := 0, handover := none, released := false
    phase := 0, phasesDone := [], walk := (0, 0), cutIn := false, differ := [], asked := [], giveUp := none, fitness := none
    mseqOut := 0, nextIn := 1, waiting := [], gapSince := none }

theorem detach_pair (s : State) : (detach s).pair = s.pair.detached := by
  rw [detach, beginPairing_pair, refreshSource_eq]
  rfl

theorem detach_eq (s : State) : detach s = { s with
    regs := (detach s).regs, evr := (detach s).evr, free := (detach s).free, timer := (detach s).timer
    key := (detach s).key, pair := (detach s).pair, sent := (detach s).sent } := by
  rw [detach, beginPairing_eq, refreshSource_eq]

theorem detach_jrn (s : State) : (detach s).jrn = s.jrn := by rw [detach_eq]

theorem detach_mem (s : State) : (detach s).mem = s.mem := by rw [detach_eq]

section
variable {t : Time} {s : State} (hstate : s.pair.state = .standby ∨ s.pair.state = .resync) (hup : s.isthmusUp = true)
include hstate hup

theorem execPairDetached_due (hdue : s.pair.lastGood + partnerTimeout s / 2 ≤ (s.arrive t).clock.now) :
    execPairDetached t s = .next (settle (detach (occurs ePairDetached (s.arrive t)))) := by
  rw [execPairDetached, onInst_true]
  simp [hstate, hup, hdue]

theorem execPairMseqGap_due {g : Time} (hgap : s.pair.gapSince = some g)
    (hdue : g + partnerTimeout s / 2 ≤ (s.arrive t).clock.now) :
    execPairMseqGap t s = .next (settle (detach (occurs ePairDetached (bump cPairMseqGap 0 (s.arrive t))))) := by
  rw [execPairMseqGap, onInst_true]
  simp [hstate, hup, hgap, Nat.not_lt.mpr hdue]

end

/-! ### The active loses its partner (R381, R397) -/

theorem cancelHandover_bond (s : State) : (cancelHandover s).bond = { s.bond with handover := none } := by
  unfold cancelHandover
  split
  · next hnone =>
    rw [State.bond, ← hnone]
    rfl
  · dsimp only
    split
    · exact endItem_bond ..
    · rfl

theorem beginPairing_bond (s : State) : (beginPairing s).bond =
    { s.bond with nextIn := 1, waiting := [], gapSince := none } := by
  rw [State.bond, beginPairing_pair]
  rfl

/-- The active without its partner: it stays active, alone, and no handover is left. -/
theorem losePartner_bond (s : State) : (losePartner s).bond = { s.bond with
    partnerLost := true, paired := false, cutIn := false, phase := 0, phasesDone := [], giveUp := none, fitness := none
    handover := none, nextIn := 1, waiting := [], gapSince := none } := by
  unfold losePartner
  dsimp only
  rw [beginPairing_bond, actPartnerLost_bond, cancelHandover_bond, bond_foldl]
  · rw [soloCommits_bond, degraded_bond, occurs_bond]
    rfl
  · intro s x
    split
    · rfl
    · rfl
    · rfl
    · next h => exact settleAwait_bond h true s

theorem confirmCommitted_mem (ok : Bool) (s : State) : (confirmCommitted ok s).mem = s.mem := by
  have hrollback (s : State) : (rollbackUp s).mem = s.mem := by
    unfold rollbackUp raiseRollback blowFuse
    (repeat' split) <;> rfl
  have hend (d : Nat) (e : Ending) (u : State) : (endItem d e u).mem = u.mem := congrArg Anchor.mem (endItem_anchor d e u)
  have hdone (u : State) : (actDone u).mem = u.mem := congrArg Anchor.mem (actDone_anchor u)
  unfold confirmCommitted
  dsimp only
  (repeat' split) <;> simp [hrollback, hend, hdone]

/-- What awaited a commit writes no memory as it goes on. -/
theorem settleAwait_mem (a : Await) (ok : Bool) (s : State) : (settleAwait a ok s).mem = s.mem := by
  cases a with
  | entry j => exact congrArg Anchor.mem (entryCommitted_anchor j s)
  | void j => rfl
  | dl d => exact congrArg Anchor.mem (dlCommitted_anchor d s)
  | key d =>
    cases ok with
    | true => exact congrArg Anchor.mem (keySettle_anchor d s)
    | false => exact congrArg Anchor.mem (notAccepted_anchor d s)
  | camp c => rfl
  | confirm => exact confirmCommitted_mem ok s
  | handover => rfl
  | activation => rfl
  | piece => rfl

theorem mem_foldl {α : Type} (f : State → α → State) (h : ∀ s x, (f s x).mem = s.mem) (l : List α) (s : State) :
    (l.foldl f s).mem = s.mem := by
  induction l generalizing s with
  | nil => rfl
  | cons a r ih => rw [List.foldl_cons, ih, h]

theorem losePartner_mem (s : State) : (losePartner s).mem = s.mem := by
  have hlast (v : State) : (beginPairing (actPartnerLost (cancelHandover v))).mem = v.mem :=
    congrArg Anchor.mem ((beginPairing_anchor _).trans ((actPartnerLost_anchor _).trans (cancelHandover_anchor v)))
  have hfirst (v : State) : (soloCommits (degraded 18 2 (eventCode ePairPartnerLost) 4 (occurs ePairPartnerLost v))).mem = v.mem :=
    congrArg Anchor.mem ((soloCommits_anchor _).trans ((degraded_anchor ..).trans (occurs_anchor ..)))
  unfold losePartner
  dsimp only
  rw [hlast, mem_foldl, hfirst]
  intro s x
  split
  · rfl
  · rfl
  · rfl
  · exact settleAwait_mem _ true s

theorem execPairPartnerLost_due {t : Time} {s : State} (hmirrors : s.mirrors = true)
    (hdue : s.pair.lastGood + partnerTimeout s ≤ (s.arrive t).clock.now) :
    execPairPartnerLost t s = .next (settle (losePartner (s.arrive t))) := by
  rw [execPairPartnerLost, onInst_true]
  simp [hmirrors, hdue]

/-! ### The pairing exchange (R290, R291, R387) -/

/-- A hello that proves itself, fits and conflicts with no key is answered by the confirmation. -/
theorem takeHello_confirmed {x : Hello} {s : State} (hpaired : s.pair.paired = false) (hbegun : s.key.pairState = 1)
    (hfirst : s.key.hello = none) (hgood : x.hmacGood = true) (hfits : formatsFit s x = true) (hagrees : keyConflict s x = false) :
    takeHello x s = sendPairing (.confirm true) { s with key := { s.key with pairState := 1, hello := some x } } := by
  simp [takeHello, hpaired, hbegun, hfirst, hgood, hfits, hagrees]

theorem sendKeys_eq (h : Hello) (s : State) : sendKeys h s = { s with sent := (sendKeys h s).sent } := by
  unfold sendKeys
  generalize (listedKeys s).filter _ = l
  induction l generalizing s with
  | nil => rfl
  | cons k r ih => rw [List.foldl_cons, ih, sendPairing, State.out]

/-- The good confirmation of a DETACHED device's partner: the pair key stands, and the device resynchronises. -/
theorem takeConfirm_detached {x : Hello} {s : State} (hhello : s.key.hello = some x) (hbegun : s.key.pairState = 1)
    (hpaired : s.pair.paired = false) (hstate : s.pair.state = .detached) : ∃ v, takeConfirm s = pairedResync x.epoch v ∧
      v.pair.paired = true ∧ v.pair.nextIn = 1 ∧ v.key.pairState = 2 ∧ v.key.pairKey = some (pairKeyWith s x) ∧ v.mem = s.mem := by
  simp only [takeConfirm, hhello]
  rw [if_neg (by simp [hbegun, hpaired]), if_neg (by simp [hstate]), if_pos (Or.inr hstate)]
  refine ⟨_, rfl, ?_⟩
  rw [sendKeys_eq]
  exact ⟨rfl, rfl, rfl, rfl, rfl⟩

section
variable {t : Time} {h : MirrorHdr} {s : State} (hlink : h.link < 2) (hmay : mayPair s = true) (hstate : s.pair.state ≠ .taking)
  (hup : s.pair.links.getLsbD h.link = true)
include hlink hmay hstate hup

theorem execPairingRecord_hello (x : Hello) : execPairingRecord t h (.hello x) s =
    .next (settle (takeHello x (heardOn h.link (s.arrive t)))) := by
  rw [execPairingRecord, onInst_of hlink]
  simp [hmay, hstate, hup]

theorem execPairingRecord_confirm : execPairingRecord t h (.confirm true) s =
    .next (settle (takeConfirm (heardOn h.link (s.arrive t)))) := by
  rw [execPairingRecord, onInst_of hlink]
  simp [hmay, hstate, hup]

end

/-! ### The statement -/

/-- Settles O24, clause by clause, from the state that each command answers. -/
theorem linksAndPartner : Obligations.LinksAndPartner := by
  unfold Obligations.LinksAndPartner
  refine ⟨?keepalive, ?keepaliveRecord, ?linkUp, ?noPair, ?linkLoss, ?lost, ?detached, ?gap, ?hello, ?confirm⟩
  case keepalive =>
    intro t l s hl hup hlink hpaired hidle
    exact ⟨_, (exec_keepaliveTx ..).trans (execKeepaliveTx_unpaired hl hup hlink hpaired hidle), by simp [State.out], by simp [State.out],
      (settle_eq _).trans (by simp [State.out])⟩
  case keepaliveRecord =>
    intro t l s hl hup hlink hpaired hidle
    exact ⟨_, (exec_keepaliveTx ..).trans (execKeepaliveTx_paired hl hup hlink hpaired hidle), by simp [State.out], by simp [State.out],
      (settle_eq _).trans (by simp [State.out])⟩
  case linkUp =>
    intro t l s hl hup hmode hdown hpaired
    exact ⟨_, (exec_isthmusLinkUp ..).trans (execIsthmusLinkUp_paired hl hup hmode hdown hpaired), by simp, by simp,
      (settle_eq _).trans (by simp)⟩
  case noPair =>
    intro t l s hl hmode
    exact ⟨_, (exec_isthmusLinkUp ..).trans (execIsthmusLinkUp_noPair hl hmode), by simp, (settle_eq _).trans (by simp)⟩
  case linkLoss =>
    intro t l lane s hl hup hlink hdue
    refine ⟨_, (exec_isthmusLinkLoss ..).trans (execIsthmusLinkLoss_due hl hup hlink hdue), by simp, ?_, (settle_eq _).trans ?_⟩
    · rw [count_settle]
      exact count_bump_of_regs (arrive_regs s t) ..
    · rw [bump_eq]
      simp
  case lost =>
    intro t s hmirrors hdue
    have hbond := losePartner_bond (s.arrive t)
    have hactive : s.pair.state = .active := by
      simp only [State.mirrors, Bool.and_eq_true, beq_iff_eq] at hmirrors
      exact hmirrors.1
    refine ⟨_, (exec_pairPartnerLost ..).trans (execPairPartnerLost_due hmirrors hdue), ?_⟩
    rw [settle_pair, settle_mem, losePartner_mem, arrive_mem]
    refine ⟨?_, ?_, ?_, ?_, ?_, rfl⟩
    · exact congrArg Pair.partnerLost hbond
    · exact congrArg Pair.paired hbond
    · exact (congrArg Pair.state hbond).trans ((congrArg Pair.state (arrive_pair s t)).trans hactive)
    · exact congrArg Pair.handover hbond
    · exact congrArg Pair.cutIn hbond
  case detached =>
    intro t s hstate hup hdue
    refine ⟨_, (exec_pairDetached ..).trans (execPairDetached_due hstate hup hdue), ?_⟩
    rw [settle_pair, settle_jrn, settle_mem, detach_pair, detach_jrn, detach_mem, occurs_eq]
    simp [Pair.detached]
  case gap =>
    intro t g s hstate hup hgap hdue
    refine ⟨_, (exec_pairMseqGap ..).trans (execPairMseqGap_due hstate hup hgap hdue), ?_⟩
    rw [settle_pair, settle_jrn, settle_mem, detach_pair, detach_jrn, detach_mem, occurs_eq]
    simp [Pair.detached]
  case hello =>
    intro t h x s hlink hmay hstate hup hpaired hbegun hfirst hgood hfits hagrees
    have hanswer := takeHello_confirmed (x := x) (s := heardOn h.link (s.arrive t)) (by simpa [heardOn]) (by simpa [heardOn])
      (by simpa [heardOn]) hgood (by simpa [heardOn, formatsFit, State.fld, State.reg] using hfits)
      (by simpa [heardOn, keyConflict, listedKeys] using hagrees)
    refine ⟨_, (exec_pairingRecord ..).trans (execPairingRecord_hello hlink hmay hstate hup x), ?_, ?_, ?_, (settle_eq _).trans ?_⟩
    all_goals
      rw [hanswer]
      simp [sendPairing, heardOn, State.out]
  case confirm =>
    intro t h x s hlink hmay hstate hup hpaired hbegun hhello
    obtain ⟨v, hresync, hv, hnext, hpairState, hkey, hmem⟩ := takeConfirm_detached (x := x) (s := heardOn h.link (s.arrive t))
      (by simpa [heardOn]) (by simpa [heardOn]) (by simpa [heardOn]) (by simpa [heardOn])
    refine ⟨_, (exec_pairingRecord ..).trans (execPairingRecord_confirm hlink hmay (by simp [hstate]) hup), ?_⟩
    rw [hresync, settle_pair, settle_key, settle_jrn, settle_mem]
    exact ⟨rfl, hv, hpairState, hkey.trans (by simp [pairKeyWith, heardOn]), hnext, rfl, hmem.trans (arrive_mem s t)⟩

end Sys2Proof.Machine

/-! PROOFS. What the vault's shared operations move (R275 to R293): the context of a frame, the slots of the cache, the journal jobs and their
records, the unwrap queue, the rotation's walk; and what the end of an item leaves alone (R317). -/

namespace Sys2Proof.Machine
open Sys2Proof Host

/-! ### What arrival leaves of the readings -/

section
variable (s : State) (t : Time)

@[simp] theorem nodeOf_arrive (e : Eui) : (s.arrive t).nodeOf e = s.nodeOf e := by simp [State.nodeOf]

@[simp] theorem nodeAt_arrive (i : Nat) : (s.arrive t).nodeAt i = s.nodeAt i := by simp [State.nodeAt]

@[simp] theorem bookingOf_arrive (id : Nat) : bookingOf (s.arrive t) id = bookingOf s id := by simp [bookingOf]

@[simp] theorem keyAt_arrive (cls id : Nat) : keyAt (s.arrive t) cls id = keyAt s cls id := by simp [keyAt]

@[simp] theorem kekGen_arrive (id : Nat) : kekGen (s.arrive t) id = kekGen s id := by simp [kekGen]

@[simp] theorem kekLive_arrive (id : Nat) : kekLive (s.arrive t) id = kekLive s id := by simp [kekLive]

@[simp] theorem underKek_arrive (kek : Nat) (b : BitVec 512) : underKek (s.arrive t) kek b = underKek s kek b := by simp [underKek]

@[simp] theorem loadCheck_arrive (p : KeyPlain) : loadCheck (s.arrive t) p = loadCheck s p := by simp [loadCheck]

@[simp] theorem unwrapHead_arrive : unwrapHead (s.arrive t) = unwrapHead s := by simp [unwrapHead]

@[simp] theorem groupTxOf_arrive (k : Nat) : groupTxOf (s.arrive t) k = groupTxOf s k := by simp [groupTxOf]

@[simp] theorem verdictOf_arrive (c : KeyCtx) (f : SealedFrame) : verdictOf (s.arrive t) c f = verdictOf s c f := by
  have hhwm (e : Option Eui) : hwmOf (s.arrive t) e = hwmOf s e := by cases e <;> simp [hwmOf]
  simp [verdictOf, hhwm]

@[simp] theorem carries_arrive (d c : Nat) : (s.arrive t).carries d c = s.carries d c := by
  simp [State.carries, controlUp_arrive, dlOf]

@[simp] theorem itemOf_arrive (d op : Nat) : itemOf (s.arrive t) d op = itemOf s d op := by
  simp only [itemOf, keyUp_arrive, carries_arrive, arrive_key, arrive_pair]

@[simp] theorem protKey_arrive (b : Booking) : protKey (s.arrive t) b = protKey s b := by
  unfold protKey
  cases b.use <;> simp [dlOf, floodOf]

end

theorem nodeAt_of_fwd {s u : State} (h : u.fwd = s.fwd) (i : Nat) : u.nodeAt i = s.nodeAt i := by rw [State.nodeAt, State.nodeAt, h]

theorem nodeAt_modNode_same (s : State) (i : Nat) (f : Node → Node) : (s.modNode i f).nodeAt i = (s.nodeAt i).map f := afind_amod_same ..

/-! ### The context of a frame and the slot of its node (R275, R278, R279, R281) -/

theorem setCtx_eq (g : Nat) (c : KeyCtx) (s : State) : setCtx g c s = { s with key := (setCtx g c s).key } := rfl

@[simp] theorem afind_setCtx (g : Nat) (c : KeyCtx) (s : State) : afind (setCtx g c s).key.ctxs g = some c := afind_aput_same ..

theorem lockSlot_eq (e : Eui) (up : Bool) (s : State) : lockSlot e up s = { s with key := (lockSlot e up s).key } := by
  unfold lockSlot
  split <;> rfl

/-- A verdict that is delivered ends the context; the candidate of the frame takes it (R281). -/
theorem deliver_eq (g : Nat) (c : KeyCtx) (fcs : Bool) (f : SealedFrame) (s : State) : deliver g c fcs f s = { s with
    regs := (deliver g c fcs f s).regs, key := (deliver g c fcs f s).key, jrn := (deliver g c fcs f s).jrn
    sent := .verdict g (verdictOf s c f) :: s.sent } := by
  generalize hu : deliver g c fcs f s = u
  unfold deliver at hu
  extract_lets v s1 s2 dig at hu
  have hcounted : s1 = { s with regs := s1.regs } := by
    simp only [s1]
    split
    · split
      · exact bump_eq ..
      · rfl
    · rfl
  have hreleased : s2 = { s1 with key := s2.key } := by
    simp only [s2]
    split
    · split
      · exact lockSlot_eq ..
      · rfl
    · rfl
  rw [← hu, State.out, hreleased, hcounted]

theorem afind_deliver (g : Nat) (c : KeyCtx) (fcs : Bool) (f : SealedFrame) (s : State) :
    afind (deliver g c fcs f s).key.ctxs g = none := afind_adel_same ..

section
variable {g n : Nat} {c : KeyCtx} {fcs : Bool} {f : SealedFrame} {s : State} (hmarker : c.marker = some (fcs, f, n))
include hmarker

/-- A marker waits for the key, and for a block still on its way (R37, R278). -/
theorem frameEndTaken_waits (h : c.waiting = true ∨ c.got < n) : frameEndTaken g c s = setCtx g c s := by
  simp only [frameEndTaken, hmarker]
  exact if_pos (by simpa using h)

theorem frameEndTaken_delivers (hkey : c.waiting = false) (hall : n ≤ c.got) : frameEndTaken g c s = deliver g c fcs f s := by
  simp only [frameEndTaken, hmarker]
  exact if_neg (by simp [hkey, hall])

end

/-- The slot of a node whose key stands is a hit: it is bound to the frame (R276). -/
theorem lookupNode_hit {e : Eui} {i : Nat} {n : Node} {k : CacheSlot} {s : State} (hnode : s.nodeOf e = some (i, n))
    (hvalid : n.sec.blobValid = true) (hslot : s.key.cache.find? (fun x => x.node == e) = some k) (hfresh : kekGen s k.kek ≤ k.parentGen)
    (g : Nat) (c : KeyCtx) : lookupNode g c e s =
      setCtx g { c with bound := some (.node e), cached := true, key := k.key } (lockSlot e true (bump cKeyHit 0 s)) := by
  simp [lookupNode, hnode, hvalid, hslot, Nat.not_lt.mpr hfresh]

/-! ### The counters of the outbound frames (R283) -/

theorem groupTxOf_setGroupTx_same (k next ceil : Nat) (s : State) : groupTxOf (setGroupTx k next ceil s) k = (next, ceil) := by
  have hgone : (s.key.groupTx.filter fun x => x.1 != k).find? (fun x => x.1 == k) = none := by
    rw [List.find?_filter, List.find?_eq_none]
    simp
  simp [groupTxOf, setGroupTx, List.find?_append, hgone]

/-- The frame of a protected booking is written into its template, and the booking is ready (R198, R200, R283). -/
theorem protected'_eq (b : Booking) (key : BitVec 256) (c : Nat) (s : State) : protected' b key c s = { s with
    txm := { (markReady b.id s).txm with acks := (protected' b key c s).txm.acks, beacons := (protected' b key c s).txm.beacons } } := by
  unfold protected' markReady
  dsimp only
  split <;> rfl

/-- A solo chip records a ceiling of the NODE keys in both copies, and no more of it is due (R283). -/
theorem recordCeiling_solo {s : State} (hsolo : s.pair.state = .solo) (id v : Nat) : recordCeiling 9 id v s = { s with
    key := { s.key with nodeCeiling := max s.key.nodeCeiling v, ceilingDue := false }
    flash := { s.flash with
      jrnA := s.flash.jrnA.append (ceilRec 9 id v)
      jrnB := s.flash.jrnB.append (ceilRec 9 id v) } } := by
  rw [recordCeiling, mirror_solo _ _ (by exact hsolo)]
  rfl

/-! ### Journal jobs (R287, R292, R293) -/

theorem askClamp_eq (act n : Nat) (s : State) : (askClamp act n s).2 = { s with
    regs := (askClamp act n s).2.regs, hlt := (askClamp act n s).2.hlt } := by
  unfold askClamp
  dsimp only
  repeat' split
  · rfl
  · rfl
  · rfl
  · dsimp only
    rw [bump_eq, setClamp_eq]

theorem jobAsk_eq (s : State) : jobAsk s = { s with
    regs := (jobAsk s).regs, hlt := (jobAsk s).hlt, key := { s.key with jobs := (jobAsk s).key.jobs } } := by
  unfold jobAsk
  split
  · rfl
  · dsimp only
    rw [askClamp_eq]

theorem jobAsk_cons {j : KeyJob} {r : List KeyJob} {s : State} (h : s.key.jobs = j :: r) :
    (jobAsk s).key.jobs = { j with copyB := j.copyB || s.flash.jrnA.lost } :: r := by
  simp only [jobAsk, h]
  rw [askClamp_eq]

theorem jobAsk_nil {s : State} (h : s.key.jobs = []) : jobAsk s = s := by simp [jobAsk, h]

/-- Asking for the clamp of its copy leaves what a job writes and for whom. -/
theorem jobAsk_orders (s : State) :
    (jobAsk s).key.jobs.map (fun j => (j.cause, j.record)) = s.key.jobs.map fun j => (j.cause, j.record) := by
  cases h : s.key.jobs with
  | nil => rw [jobAsk_nil h, h]
  | cons j r =>
    rw [jobAsk_cons h]
    rfl

theorem addJob_eq (c : KeyCause) (r : KeyRec) (s : State) : addJob c r s = { s with
    regs := (addJob c r s).regs, hlt := (addJob c r s).hlt, key := { s.key with jobs := (addJob c r s).key.jobs } } := by
  unfold addJob
  dsimp only
  split
  · rw [jobAsk_eq]
  · rfl

theorem addJob_orders (c : KeyCause) (r : KeyRec) (s : State) :
    (addJob c r s).key.jobs.map (fun j => (j.cause, j.record)) = s.key.jobs.map (fun j => (j.cause, j.record)) ++ [(c, r)] := by
  unfold addJob
  dsimp only
  split
  · rw [jobAsk_orders]
    simp
  · simp

@[simp] theorem append_lost (j : KeyJournal) (r : KeyRec) : (j.append r).lost = j.lost := by
  unfold KeyJournal.append
  split
  · rfl
  · dsimp only
    split <;> rfl

theorem programRecord_eq (copyB : Bool) (r : KeyRec) (s : State) : programRecord copyB r s = { s with
    flash := (journalAppend copyB r s).flash, sent := (programRecord copyB r s).sent } := by
  unfold programRecord State.out journalAppend
  dsimp only
  cases copyB <;> split <;> rfl

/-- A completed record moves the keys and the ceilings (R283, R286, R288). -/
theorem applyRec_eq (r : KeyRec) (s : State) : applyRec r s = { s with key := { s.key with
    keys := (applyRec r s).key.keys, groupTx := (applyRec r s).key.groupTx, nodeCeiling := (applyRec r s).key.nodeCeiling
    ceilingDue := (applyRec r s).key.ceilingDue } } := by
  unfold applyRec setGroupTx
  dsimp only
  (repeat' split) <;> rfl

section
variable {j : KeyJob} {r : List KeyJob} {s : State} (hjobs : s.key.jobs = j :: r)
include hjobs

/-- The head job's record stands in copy A, and the job asks for the clamp of copy B (R293). -/
theorem jobWritten_copyA (hfirst : j.copyB = false) (hclamp : (s.clamp 72).holder = 14) (hkept : s.flash.jrnB.lost = false) :
    jobWritten true s = jobAsk { programRecord false j.record (freeClampOf 14 72 s) with
      key := { s.key with jobs := { j with copyB := true } :: r } } := by
  have hlost : (programRecord false j.record (freeClampOf 14 72 s)).flash.jrnB.lost = false := by
    rw [programRecord_eq, freeClampOf_eq]
    exact hkept
  simp only [jobWritten, hjobs, hfirst, flashClamp, Bool.false_eq_true, if_false, if_true, hclamp, bne_self_eq_false, hlost,
    Bool.not_false, and_self]
  rw [programRecord_eq, freeClampOf_eq]

/-- The head job's record stands in copy B too: the job is complete. -/
theorem jobWritten_copyB (hsecond : j.copyB = true) (hclamp : (s.clamp 73).holder = 14) (hkept : s.flash.jrnB.lost = false) :
    jobWritten true s = jobDone j true (programRecord true j.record (freeClampOf 14 73 s)) := by
  have hlost : (programRecord true j.record (freeClampOf 14 73 s)).flash.jrnB.lost = false := by
    rw [programRecord_eq, freeClampOf_eq]
    exact (append_lost ..).trans hkept
  simp [jobWritten, hjobs, hsecond, flashClamp, hclamp, hlost]

end

/-- The last job of a pairing, complete: its key has been received (R291). -/
theorem jobDone_pairing {j : KeyJob} {s : State} (hjobs : s.key.jobs = [j]) (hcause : j.cause = .pairing) : jobDone j true s =
    { applyRec j.record { s with key.jobs := [] } with key := { (applyRec j.record { s with key.jobs := [] }).key with received := true } } := by
  unfold jobDone
  simp only [hcause, hjobs]
  refine jobAsk_nil ?_
  rw [Bool.and_self, if_pos rfl, applyRec_eq]
  rfl

theorem length_compact (j : KeyJournal) : j.compact.records.length = (newest j.records).length := by simp [KeyJournal.compact]

/-! ### Key-load items (R285 to R288) -/

/-- A REVOKE or RETIRE of a persistent key in place on a solo chip is a journal job; the key stands until its record does (R287, R288). -/
theorem voidKey_persistent {d kind : Nat} {it : KeyItem} {k : VKey} {s : State} (hcls : it.cls ≠ 9)
    (hkey : keyAt s it.cls it.keyId = some k) (hstands : ¬(k.status = .retired ∨ k.status = .revoked ∧ kind = 2))
    (hkek : ¬(kind = 3 ∧ it.cls = 4)) (hsolo : s.pair.state = .solo) : voidKey d kind it s =
      addJob (.item d) ⟨0, it.cls, kind, it.keyId, if kind = 2 then k.gen + 1 else k.gen, 0, k.parent, none, true⟩ s := by
  have hidle (r : KeyRec) : (addJob (.item d) r s).pair.state = .solo := by rw [addJob_eq, hsolo]
  simp only [voidKey, if_neg hcls, hkey, if_neg hstands]
  rw [if_neg (fun h => hkek ⟨h.1, h.2.1⟩), mirrorKey, mirror_solo _ _ (hidle _)]

/-! ### Rotation (R289) -/

theorem queueUnwrap_eq (r : UnwrapReq) (s : State) : queueUnwrap r s = { s with
    key := { s.key with queue := (queueUnwrap r s).key.queue } } := by
  unfold queueUnwrap
  split <;> rfl

theorem queueUnwrap_room {r : UnwrapReq} {s : State} (hnew : s.key.queue.contains r = false) (hroom : s.key.queue.length < 256) :
    queueUnwrap r s = { s with key := { s.key with queue := s.key.queue ++ [r] } } :=
  if_neg (by simpa [Nat.not_le.mpr hroom] using hnew)

theorem rewrapNext_eq (i : Nat) (s : State) : rewrapNext i s = { s with key := (rewrapNext i s).key } := by
  unfold rewrapNext
  split
  · rfl
  · split
    · rw [queueUnwrap_eq]
    · rfl

/-- The walk moves on from entry to entry; where it leads and for which item stands. -/
theorem rewrapNext_course (i : Nat) (s : State) :
    (rewrapNext i s).key.rewrap.map (fun w => (w.fromId, w.toId, w.dsn)) = s.key.rewrap.map fun w => (w.fromId, w.toId, w.dsn) := by
  unfold rewrapNext
  split
  · next hnone => rw [hnone]
  · next w hsome =>
    rw [hsome]
    split
    · rw [queueUnwrap_eq]
      rfl
    · rfl

theorem rewrapPump_idle {s : State} (h : s.key.rewrap = none) : rewrapPump s = s := by simp [rewrapPump, h]

/-- A rotation whose clamp is free begins its walk (R289, R472). -/
theorem rewrapStart_free {f w d : Nat} {s : State} (hnone : s.key.rewrap = none) (hclamp : s.clamp 69 = {}) : rewrapStart f w d s =
    rewrapNext 0 { s.setClamp 69 { holder := 6, waiting := [] } with key := { s.key with rewrap := some ⟨f, w, 0, d⟩ } } := by
  simp [rewrapStart, hnone, askClamp_free hclamp, State.setClamp]

/-! ### The end of an item (R14, R316, R317) -/

theorem outcomeEntry_eq (r : DlRec) (o c : Nat) (s : State) : outcomeEntry r o c s = { s with
    jrn := (outcomeEntry r o c s).jrn, flash := (outcomeEntry r o c s).flash, pair := (outcomeEntry r o c s).pair
    sent := (outcomeEntry r o c s).sent } := by
  unfold outcomeEntry takeJsn
  dsimp only
  rw [mirror_eq]

theorem reportItem_eq (r : DlRec) (s : State) : reportItem r s = { s with
    dl := (reportItem r s).dl, jrn := (reportItem r s).jrn, flash := (reportItem r s).flash, pair := (reportItem r s).pair
    sent := (reportItem r s).sent } := by
  unfold reportItem
  split
  · rw [outcomeEntry_eq, modDl]
  · rfl

theorem reportFlow_eq (it : DlItem) (s : State) : reportFlow it s = { s with
    dl := (reportFlow it s).dl, jrn := (reportFlow it s).jrn, flash := (reportFlow it s).flash, pair := (reportFlow it s).pair
    sent := (reportFlow it s).sent } := by
  unfold reportFlow
  generalize reportable _ = l
  induction l generalizing s with
  | nil => rfl
  | cons r l ih => rw [List.foldl_cons, ih, reportItem_eq]

/-- The end of an item moves the downlink ring, the journal with its ceiling, and what the active mirrors of them. -/
theorem endItem_eq (d : Nat) (e : Ending) (s : State) : endItem d e s = { s with
    dl := (endItem d e s).dl, jrn := (endItem d e s).jrn, flash := (endItem d e s).flash, pair := (endItem d e s).pair
    sent := (endItem d e s).sent } := by
  unfold endItem
  split
  · rfl
  · split
    · rfl
    · dsimp only
      split
      · rw [reportFlow_eq, modDl]
      · rfl

/-- The sequence stands behind another item, and no item waits for its turn. -/
theorem dlTaken_idle {d : Nat} {s : State} (hother : s.dl.nextDsn ≠ d) (hnone : s.dl.reorder = []) : dlTaken d s = s := by
  simp [dlTaken, dlAdvance, hother, hnone, dlDrain]

end Sys2Proof.Machine

/-! PROOFS. The key vault's commands (R270 to R294): what each answers where its conditions hold, from the operations that it shares. -/

namespace Sys2Proof.Machine
open Sys2Proof Host

/-! ### Uplink frames (R276, R278, R280, R281, R282) -/

section
variable {t : Time} {g : Nat} {s : State} (hg : g < 4096)
include hg

section
variable {x : Group} {f : LookupFields} (hgroup : s.groupOf g = some x) (hversion : x.version = true) (hfields : x.lookup = some f)
  (hnew : afind s.key.ctxs g = none) (hup : s.keyUp = true)
include hgroup hversion hfields hnew hup

theorem execKeyLookup_node {e : Eui} (hlevel : ¬(f.level = 0 ∨ f.level = 4 ∨ f.level < s.fld rKeyCtrl 0 3 ∨ f.suppress = true))
    (hkim : f.kim = 0) (hsource : f.source = some e) : execKeyLookup t g s =
      .next (settle (lookupNode g { lane := leastLane (s.arrive t), fields := f } e (s.arrive t))) := by
  rw [execKeyLookup, onInst_of hg]
  simp [hgroup, hversion, hfields, hnew, hup, hlevel, hkim, hsource]

theorem execKeyLookup_level (hlevel : f.level = 0 ∨ f.level = 4 ∨ f.level < s.fld rKeyCtrl 0 3 ∨ f.suppress = true) :
    execKeyLookup t g s = .next (settle (setCtx g { lane := leastLane (s.arrive t), fields := f, failed := some .level }
      (s.arrive t))) := by
  rw [execKeyLookup, onInst_of hg]
  simp [hgroup, hversion, hfields, hnew, hup, hlevel]

end

/-- A frame whose version is refused starts no look-up (R166). -/
theorem execKeyLookup_version {x : Group} (hgroup : s.groupOf g = some x) (hversion : x.version = false) :
    execKeyLookup t g s = .next (settle (s.arrive t)) := by
  rw [execKeyLookup, onInst_of hg]
  simp [hgroup, hversion]

section
variable {c : KeyCtx} (hctx : afind s.key.ctxs g = some c) (hup : s.keyUp = true) (hmarker : c.marker = none)
include hctx hup hmarker

theorem execKeyPayloadBlock_waits (hbound : c.bound = none) (hwaits : c.waiting = true) : execKeyPayloadBlock t g s =
    .next (settle (setCtx g { c with got := c.got + 1, blocks := min 132 (c.blocks + 1) } (s.arrive t))) := by
  rw [execKeyPayloadBlock, onInst_of hg]
  simp [hctx, hup, hbound, hwaits, frameEndTaken, hmarker]

theorem execKeyFrameEnd_taken (fcs : Bool) (f : SealedFrame) (n : Nat) : execKeyFrameEnd t g fcs f n s =
    .next (settle (frameEndTaken g { c with marker := some (fcs, f, n) } (s.arrive t))) := by
  rw [execKeyFrameEnd, onInst_of hg]
  simp [hctx, hup, hmarker]

end

end

theorem execKeyCounterUpdate_known {t : Time} {e : Eui} {i c : Nat} {d : Word} {n : Node} {s : State} (hup : s.keyUp = true)
    (hnode : s.nodeOf e = some (i, n)) : execKeyCounterUpdate t e c d s = .next (settle (if n.sec.fcHwm < c then
      (s.arrive t).modNode i fun n => { n with sec := { n.sec with fcHwm := c }, lastDigest := d } else s.arrive t)) := by
  rw [execKeyCounterUpdate, onInst_true]
  simp [hup, raiseHwm, hnode]

/-! ### Outbound frames (R283) -/

/-- A booking under a GROUP key whose counter stands below its ceiling is protected under the next counter. -/
theorem protect_group {b : Booking} {k : Nat} {s : State} (hkey : protKey s b = some (.group k)) (hgood : useKey 5 k s = (.good, s))
    (hlast : (groupTxOf s k).1 < 0xFFFFFFFF) (hceiling : (groupTxOf s k).1 < (groupTxOf s k).2) : protect b s =
      protected' b (persistentKey s 5 k) (groupTxOf s k).1
        (setGroupTx k ((groupTxOf s k).1 + 1) (groupTxOf s k).2 (bump cKeyHit 0 s)) := by
  have hgroupTx : groupTxOf (bump cKeyHit 0 s) k = groupTxOf s k := by simp [groupTxOf]
  have hpersistent : persistentKey (bump cKeyHit 0 s) 5 k = persistentKey s 5 k := by simp [persistentKey, keyAt]
  simp only [protect, hkey, hgood, protectGroup, hgroupTx, hpersistent]
  rw [if_neg (Nat.not_le.mpr hlast), if_neg (Nat.not_le.mpr hceiling)]

theorem execKeyProtect_due {t : Time} {id : Nat} {b : Booking} {s : State} (hbooking : bookingOf s id = some b) (hopen : b.ready = false)
    (hup : s.keyUp = true) : execKeyProtect t id s = .next (settle (protect b (s.arrive t))) := by
  rw [execKeyProtect, onInst_true]
  simp [hbooking, hopen, hup]

theorem execCounterCeilingWrite_node {t : Time} {s : State} (hup : s.keyUp = true) (hdue : s.key.ceilingDue = true)
    (hgroups : s.key.groupTx = []) (hsolo : s.pair.state = .solo) : execCounterCeilingWrite t s =
      .next (settle (recordCeiling 9 0 (s.fwd.nodes.foldl (fun m x => max m x.2.sec.txFc) 0 + 65536) (s.arrive t))) := by
  have hrest (v : Nat) : (recordCeiling 9 0 v (s.arrive t)).key.groupTx = [] := by
    rw [recordCeiling_solo (by rwa [arrive_pair])]
    simpa using hgroups
  rw [execCounterCeilingWrite, onInst_true]
  simp [hup, hdue, hrest]

/-! ### The unwrap engine and the key-load items (R277, R285 to R289) -/

/-- A renewed key takes its parent's present generation; one that waited for its parent lives again (R288). -/
def renewed (s : State) (k : VKey) : VKey :=
  { k with status := if k.status = .waiting then .live else k.status, parentGen := kekGen s k.parent }

theorem execKeyUnwrapDone_renew {t : Time} {cls id : Nat} {s : State} (hup : s.keyUp = true) (hhead : unwrapHead s = some (.renew cls id))
    (hcls : cls ≠ 9) (hidle : s.key.rewrap = none) : execKeyUnwrapDone t s = .next (settle { s.arrive t with key := { s.key with
      queue := s.key.queue.erase (.renew cls id), keys := amod s.key.keys (keyNo cls id) (renewed s) } }) := by
  have hgen (i : Nat) : kekGen (unqueue (.renew cls id) (s.arrive t)) i = kekGen s i := kekGen_arrive s t i
  rw [execKeyUnwrapDone, onInst_true]
  simp only [keyUp_arrive, hup, unwrapHead_arrive, hhead, if_neg hcls, hgen, Bool.not_true, Bool.false_eq_true, if_false]
  rw [rewrapPump_idle (by simpa [unqueue] using hidle)]
  simp [unqueue]
  rfl

theorem execKeyItem_load {t : Time} {d : Nat} {a : List Byte} {s : State} (hargs : s.argsOf d 1 = some a)
    (hroom : s.key.queue.length < 256) (hunqueued : s.key.queue.contains (.load d) = false) (hup : s.keyUp = true)
    (hleads : s.leads = true) (hnew : afind s.key.items d = none) (hop : (keyItemRead a).op = 1)
    (hcls : persistent (keyItemRead a).cls = true ∨ (keyItemRead a).cls = 9) : execKeyItem t d s =
      .next (settle { s.arrive t with key := { s.key with
        items := aput s.key.items d (keyItemRead a), queue := s.key.queue ++ [.load d] } }) := by
  have hclass : (!persistent (keyItemRead a).cls && (keyItemRead a).cls != 9) = false := by
    rcases hcls with h | h <;> simp [h]
  rw [execKeyItem, onInst_true]
  simp only [argsOf_arrive, hargs, keyUp_arrive, hup, leads_arrive, hleads, arrive_key, hnew, hop, hclass]
  rw [if_neg (by simp), if_neg (by simp [hroom]), if_neg (by simp), if_pos trivial, queueUnwrap_room (by exact hunqueued) (by exact hroom)]

theorem execKeyLoad_stored {t : Time} {d : Nat} {it : KeyItem} {p : KeyPlain} {s : State} (hitem : itemOf s d 1 = some it)
    (hplain : plainOk p 0 = true) (hcls : it.cls ≠ 9) (hunwrapped : underKek s it.kekId it.blob = some p)
    (hlive : kekLive s it.kekId = true) (hclass : p.cls = it.cls) (hid : p.id = it.keyId) (hidOk : keyIdOk p.cls p.id = true)
    (hgen : p.gen ≠ 0) (hcheck : loadCheck s p = .stored) (hsolo : s.pair.state = .solo) : execKeyLoad t d s =
      .next (settle (addJob (.item d) (keyRec p (if p.cls ≤ 4 then 0 else it.kekId)) (unqueue (.load d) (s.arrive t)))) := by
  have hcheck' : loadCheck (unqueue (.load d) (s.arrive t)) p = .stored := (loadCheck_arrive s t p).trans hcheck
  have hidle (r : KeyRec) : (addJob (.item d) r (unqueue (.load d) (s.arrive t))).pair.state = .solo := by
    rw [addJob_eq]
    exact (congrArg Pair.state (arrive_pair s t)).trans hsolo
  rw [execKeyLoad, onInst_true]
  simp only [itemOf_arrive, hitem, underKek_arrive, hunwrapped, if_neg hcls, hplain, kekLive_arrive, hlive, hcheck']
  rw [if_neg (by decide), if_neg (by simp [← hclass, ← hid, hidOk, hgen]), mirrorKey, mirror_solo _ _ (hidle _)]

section
variable {t : Time} {d : Nat} {it : KeyItem} {k : VKey} {s : State} (hcls : it.cls ≠ 9) (hkey : keyAt s it.cls it.keyId = some k)
  (hsolo : s.pair.state = .solo)
include hcls hkey hsolo

theorem execKeyRevoke_inPlace (hitem : itemOf s d 2 = some it) (hstands : k.status = .live ∨ k.status = .waiting) : execKeyRevoke t d s =
    .next (settle (addJob (.item d) ⟨0, it.cls, 2, it.keyId, k.gen + 1, 0, k.parent, none, true⟩ (s.arrive t))) := by
  have hin : ¬(k.status = .retired ∨ k.status = .revoked ∧ 2 = 2) := by rcases hstands with h | h <;> simp [h]
  rw [execKeyRevoke, onInst_true]
  simp only [itemOf_arrive, hitem]
  rw [voidKey_persistent hcls ((keyAt_arrive ..).trans hkey) hin (by omega) (by rwa [arrive_pair])]
  rfl

theorem execKeyRetire_inPlace (hitem : itemOf s d 3 = some it) (hnoKek : it.cls ≠ 4) (hstands : k.status ≠ .retired) : execKeyRetire t d s =
    .next (settle (addJob (.item d) ⟨0, it.cls, 3, it.keyId, k.gen, 0, k.parent, none, true⟩ (s.arrive t))) := by
  rw [execKeyRetire, onInst_true]
  simp only [itemOf_arrive, hitem]
  rw [voidKey_persistent hcls ((keyAt_arrive ..).trans hkey) (by simpa using hstands) (fun h => hnoKek h.2) (by rwa [arrive_pair])]
  rfl

end

/-- A REWRAP on a solo chip begins its walk from the one live KEK to the other, and has left the vault's hands (R289). -/
theorem execKeyRewrap_begins {t : Time} {d : Nat} {it : KeyItem} {s : State} (hitem : itemOf s d 4 = some it)
    (hfrom : kekLive s (it.keyId % 16) = true) (hto : kekLive s (it.keyId / 16 % 16) = true)
    (hother : it.keyId % 16 ≠ it.keyId / 16 % 16) (hidle : s.key.rewrap = none) (hnext : s.dl.nextDsn ≠ d) (hreorder : s.dl.reorder = [])
    (hsolo : s.pair.state = .solo) (hclamp : s.clamp 69 = {}) : ∃ v, execKeyRewrap t d s = .next (settle v) ∧
      v.key.rewrap.map (fun w => (w.fromId, w.toId, w.dsn)) = some (it.keyId % 16, it.keyId / 16 % 16, d) ∧
      v.clamp 69 = { holder := 6, waiting := [] } ∧ v.fwd = s.fwd := by
  have htaken : dlTaken d (s.arrive t) = s.arrive t := dlTaken_idle (by rwa [arrive_dl]) (by rwa [arrive_dl])
  have hstart := rewrapStart_free (f := it.keyId % 16) (w := it.keyId / 16 % 16) (d := d) (s := s.arrive t) (by rwa [arrive_key])
    (by rwa [clamp_arrive])
  generalize hv : rewrapStart (it.keyId % 16) (it.keyId / 16 % 16) d (s.arrive t) = v at hstart
  have hcourse : v.key.rewrap.map (fun w => (w.fromId, w.toId, w.dsn)) = some (it.keyId % 16, it.keyId / 16 % 16, d) := by
    rw [hstart, rewrapNext_course]
    rfl
  have hmine : (v.key.rewrap.any fun x => x.dsn == d) = true := by
    cases hw : v.key.rewrap with
    | none => simp [hw] at hcourse
    | some w => simp_all
  have hrest : v = { (s.arrive t).setClamp 69 { holder := 6, waiting := [] } with key := v.key } := by rw [hstart, rewrapNext_eq]
  refine ⟨{ v with key := { v.key with items := adel v.key.items d } }, ?_, hcourse, ?_, ?_⟩
  · rw [execKeyRewrap, onInst_true]
    simp only [itemOf_arrive, hitem, kekLive_arrive, hfrom, hto, hother, htaken, hv, hmine, Bool.not_true, Bool.or_self, decide_false,
      Bool.false_eq_true, if_false, if_true]
    rw [mirror_solo]
    show v.pair.state = .solo
    rw [hrest]
    exact (congrArg Pair.state (arrive_pair s t)).trans hsolo
  · show v.clamp 69 = _
    rw [hrest]
    exact clamp_setClamp_same ..
  · show v.fwd = _
    rw [hrest]
    exact arrive_fwd s t

theorem execKeyRewrapWalkDone_over {t : Time} {w : Rewrap} {s : State} (hup : s.keyUp = true) (hwalk : s.key.rewrap = some w)
    (hnone : (s.key.queue.any fun r => prio r == 5) = false) : execKeyRewrapWalkDone t s =
      .next (settle (endItem w.dsn .acked (freeClampOf 6 69 { s.arrive t with key := { s.key with rewrap := none } }))) := by
  rw [execKeyRewrapWalkDone, onInst_true]
  simp [hwalk, hup, hnone]

/-! ### The journals and the vault's faults (R270, R292 to R294) -/

theorem execKeyJournalWriteDone_up {t : Time} {ok : Bool} {s : State} (hup : s.keyUp = true) :
    execKeyJournalWriteDone t ok s = .next (settle (jobWritten ok (s.arrive t))) := by
  rw [execKeyJournalWriteDone, onInst_true]
  simp [hup]

theorem execKeyJournalCompact_copyA {t : Time} {s : State} (hup : s.keyUp = true) (hkept : s.flash.jrnA.lost = false)
    (hfull : 3072 ≤ s.flash.jrnA.records.length) : execKeyJournalCompact t false s =
      .next (settle { s.arrive t with flash := { s.flash with jrnA := s.flash.jrnA.compact } }) := by
  rw [execKeyJournalCompact, onInst_true]
  simp [hup, journalOf, hkept, hfull]

theorem raiseFatal_frozen {c : FatalCause} {s : State} (hfrozen : s.hlt.frozen = false) (hphase : s.start.phase = .p9) :
    (raiseFatal c s).hlt.frozen = true := by
  rw [raiseFatal, if_neg (by simp [hfrozen]), if_pos hphase]

theorem execKeyEntropyFail_up {t : Time} {s : State} (hup : s.keyUp = true) :
    execKeyEntropyFail t s = .next (settle (fatalBy 0x07 (15 * 2048) (s.arrive t))) := by
  rw [execKeyEntropyFail, onInst_true]
  simp [hup]

theorem execJigLaneDrained_due {t : Time} {l : Nat} {j : JigTest} {s : State} (hdraining : s.key.draining = some l)
    (htest : s.hlt.test = some j) (hup : s.keyUp = true) (hwarm : j.warm = 1)
    (hdrained : (s.key.ctxs.any fun x => x.2.lane == l) = false) : execJigLaneDrained t s =
      .next (settle { s.arrive t with hlt := { s.hlt with
        test := some { j with warm := 2, due := (s.arrive t).clock.now + us 500 } } }) := by
  rw [execJigLaneDrained, onInst_true]
  simp [hdraining, htest, hup, hwarm, hdrained]

/-! ### The statement -/

/-- Settles O13, clause by clause: the lemmas above give the state that each command answers, settled. -/
theorem keyVault : Obligations.KeyVault := by
  unfold Obligations.KeyVault
  refine ⟨?hit, ?level, ?version, ?renew, ?block, ?frameEnd, ?counter, ?protect, ?ceiling, ?item, ?load, ?revoke, ?retire, ?rewrap,
    ?walkDone, ?copyA, ?copyB, ?compact, ?entropy, ?drained⟩
  case hit =>
    intro t g i x f e n c s hg hgroup hversion hfields hnew hup hzero hfour hlow hsuppress hkim hsource hnode hvalid hslot hfresh
    have hlevel : ¬(f.level = 0 ∨ f.level = 4 ∨ f.level < s.fld rKeyCtrl 0 3 ∨ f.suppress = true) := by
      simp [hzero, hfour, hlow, hsuppress]
    have hfound := lookupNode_hit (s := s.arrive t) (k := c) ((nodeOf_arrive ..).trans hnode) hvalid (by rwa [arrive_key])
      (by rwa [kekGen_arrive]) g { lane := leastLane (s.arrive t), fields := f }
    have hregs : (lookupNode g { lane := leastLane (s.arrive t), fields := f } e (s.arrive t)).regs = (bump cKeyHit 0 (s.arrive t)).regs := by
      rw [hfound, setCtx_eq, lockSlot_eq]
    refine ⟨_, (exec_keyLookup ..).trans (execKeyLookup_node hg hgroup hversion hfields hnew hup hlevel hkim hsource), ?_, ?_,
      (settle_eq _).trans ?_⟩
    · rw [settle_key, hfound, afind_setCtx]
      rfl
    · rw [count_settle, count_of_regs hregs]
      exact count_bump_of_regs (arrive_regs s t) ..
    · rw [hfound, setCtx_eq, lockSlot_eq, bump_eq]
      simp
  case level =>
    intro t g x f s hg hgroup hversion hfields hnew hup hlevel
    refine ⟨_, (exec_keyLookup ..).trans (execKeyLookup_level hg hgroup hversion hfields hnew hup hlevel), ?_, (settle_eq _).trans ?_⟩
    · rw [settle_key, afind_setCtx]
      rfl
    · rw [setCtx_eq]
      simp
  case version =>
    intro t g x s hg hgroup hversion
    exact ⟨_, (exec_keyLookup ..).trans (execKeyLookup_version hg hgroup hversion), (settle_eq _).trans (by simp)⟩
  case renew =>
    intro t cls id s hup hhead hcls hidle
    refine ⟨_, (exec_keyUnwrapDone ..).trans (execKeyUnwrapDone_renew hup hhead hcls hidle), ?_, ?_, (settle_eq _).trans ?_⟩
    · rw [settle_key]
    · rw [settle_key, afind_amod_same]
      rfl
    · simp
  case block =>
    intro t g c s hg hctx hup hbound hwaits hmarker
    refine ⟨_, (exec_keyPayloadBlock ..).trans (execKeyPayloadBlock_waits hg hctx hup hmarker hbound hwaits), ?_, (settle_eq _).trans ?_⟩
    · rw [settle_key, afind_setCtx]
    · rw [setCtx_eq]
      simp
  case frameEnd =>
    intro t g n fcs f c s hg hctx hup hmarker
    have hwaiting := frameEndTaken_waits (g := g) (c := { c with marker := some (fcs, f, n) }) (s := s.arrive t) rfl
    have hdelivered := frameEndTaken_delivers (g := g) (c := { c with marker := some (fcs, f, n) }) (s := s.arrive t) rfl
    refine ⟨_, (exec_keyFrameEnd ..).trans (execKeyFrameEnd_taken hg hctx hup hmarker fcs f n), ?_, ?_, (settle_eq _).trans ?_⟩
    · intro hwaits
      rw [settle_key, settle_sent, hwaiting hwaits, afind_setCtx]
      exact ⟨rfl, arrive_sent s t⟩
    · intro hkey hall
      rw [settle_key, settle_sent, hdelivered hkey hall, afind_deliver, deliver_eq, arrive_sent]
      exact ⟨rfl, congrArg (fun v => .verdict g v :: s.sent) (verdictOf_arrive s t c f)⟩
    · by_cases hwaits : c.waiting = true ∨ c.got < n
      · rw [hwaiting hwaits, setCtx_eq]
        simp
      · obtain ⟨hkey, hall⟩ := not_or.mp hwaits
        rw [hdelivered (Bool.not_eq_true _ ▸ hkey) (Nat.not_lt.mp hall), deliver_eq]
        simp
  case counter =>
    intro t e i c d n s hup hnode
    refine ⟨_, (exec_keyCounterUpdate ..).trans (execKeyCounterUpdate_known hup hnode), ?_, ?_, (settle_eq _).trans ?_⟩
    · intro hlower
      rw [if_pos hlower, nodeAt_of_fwd (settle_fwd _), nodeAt_modNode_same, nodeAt_arrive]
    · intro hupper
      rw [if_neg (Nat.not_lt.mpr hupper), settle_fwd, arrive_fwd]
    · split
      · simp [State.modNode]
      · simp
  case protect =>
    intro t id k b s hbooking hopen hup hkey hgood hlast hceiling hid
    have hprotected := protect_group (b := b) (k := k) (s := s.arrive t) (by rwa [protKey_arrive]) hgood (by rwa [groupTxOf_arrive])
      (by rwa [groupTxOf_arrive])
    rw [groupTxOf_arrive] at hprotected
    have hregs : (protect b (s.arrive t)).regs = (bump cKeyHit 0 (s.arrive t)).regs := by
      rw [hprotected, protected'_eq, setGroupTx]
    refine ⟨_, (exec_keyProtect ..).trans (execKeyProtect_due hbooking hopen hup), ?_, ?_, ?_, (settle_eq _).trans ?_⟩
    · rw [hprotected, groupTxOf, settle_key, protected'_eq]
      exact groupTxOf_setGroupTx_same ..
    · rw [settle_txm, hprotected, protected'_eq, ← hid]
      simp [markReady, setGroupTx]
    · rw [count_settle, count_of_regs hregs]
      exact count_bump_of_regs (arrive_regs s t) ..
    · rw [hprotected, protected'_eq, setGroupTx, bump_eq]
      simp
  case ceiling =>
    intro t s hup hdue hgroups hsolo
    refine ⟨_, (exec_counterCeilingWrite ..).trans (execCounterCeilingWrite_node hup hdue hgroups hsolo), ?_⟩
    rw [recordCeiling_solo (by rwa [arrive_pair])]
    refine ⟨?_, ?_, ?_, ?_, (settle_eq _).trans ?_⟩ <;> simp
  case item =>
    intro t d it a s hargs hread hroom hunqueued hup hleads hnew hop hcls
    subst hread
    refine ⟨_, (exec_keyItem ..).trans (execKeyItem_load hargs hroom hunqueued hup hleads hnew hop hcls), ?_, ?_, (settle_eq _).trans ?_⟩
    · rw [settle_key, afind_aput_same]
    · rw [settle_key]
    · simp
  case load =>
    intro t d it p s hitem hplain hcls hunwrapped hlive hclass hid hidOk hgen hcheck hsolo
    refine ⟨_, (exec_keyLoad ..).trans
      (execKeyLoad_stored hitem hplain hcls hunwrapped hlive hclass hid hidOk hgen hcheck hsolo), ?_, ?_, ?_, (settle_eq _).trans ?_⟩
    · rw [settle_key, addJob_eq, unqueue, arrive_key]
    · rw [settle_key, addJob_eq, unqueue, arrive_key]
    · rw [settle_key, addJob_orders, unqueue, arrive_key]
    · rw [addJob_eq, unqueue]
      simp
  case revoke =>
    intro t d it k s hitem hcls hkey hstands hsolo
    refine ⟨_, (exec_keyRevoke ..).trans (execKeyRevoke_inPlace hcls hkey hsolo hitem hstands), ?_, ?_, (settle_eq _).trans ?_⟩
    · rw [settle_key, addJob_eq, arrive_key]
    · rw [settle_key, addJob_orders, arrive_key]
    · rw [addJob_eq]
      simp
  case retire =>
    intro t d it k s hitem hcls hnoKek hkey hstands hsolo
    refine ⟨_, (exec_keyRetire ..).trans (execKeyRetire_inPlace hcls hkey hsolo hitem hnoKek hstands), ?_, ?_, (settle_eq _).trans ?_⟩
    · rw [settle_key, addJob_eq, arrive_key]
    · rw [settle_key, addJob_orders, arrive_key]
    · rw [addJob_eq]
      simp
  case rewrap =>
    intro t d it s hitem hfrom hto hother hidle hnext hreorder hsolo hclamp
    obtain ⟨v, hexec, hcourse, hheld, hfwd⟩ := execKeyRewrap_begins (t := t) hitem hfrom hto hother hidle hnext hreorder hsolo hclamp
    refine ⟨_, (exec_keyRewrap ..).trans hexec, ?_, ?_, ?_⟩
    · rw [settle_key, hcourse]
    · rw [settle_clamp, hheld]
    · rw [settle_fwd, hfwd]
  case walkDone =>
    intro t w s hup hwalk hnone
    refine ⟨_, (exec_keyRewrapWalkDone ..).trans (execKeyRewrapWalkDone_over hup hwalk hnone), ?_⟩
    rw [settle_key, settle_fwd, endItem_eq, freeClampOf_eq]
    exact ⟨rfl, rfl, rfl, arrive_fwd s t⟩
  case copyA =>
    intro t j r s hup hjobs hfirst hclamp hkept
    have hwritten := jobWritten_copyA (s := s.arrive t) (by rwa [arrive_key]) hfirst (by rwa [clamp_arrive]) (by rwa [arrive_flash])
    refine ⟨_, (exec_keyJournalWriteDone ..).trans (execKeyJournalWriteDone_up hup), ?_, ?_, ?_, ?_⟩
    · rw [settle_flash, hwritten, jobAsk_eq, programRecord_eq, freeClampOf_eq]
      simp [journalAppend]
    · rw [settle_flash, hwritten, jobAsk_eq, programRecord_eq, freeClampOf_eq]
      simp [journalAppend]
    · rw [settle_key, hwritten, jobAsk_eq, arrive_key]
    · rw [settle_key, hwritten, jobAsk_cons rfl, Bool.true_or]
  case copyB =>
    intro t j s hup hjobs hsecond hcause hclamp hkept
    have hwritten := jobWritten_copyB (s := s.arrive t) (by rwa [arrive_key]) hsecond (by rwa [clamp_arrive]) (by rwa [arrive_flash])
    have hdone := jobDone_pairing (j := j) (s := programRecord true j.record (freeClampOf 14 73 (s.arrive t)))
      (by rw [programRecord_eq, freeClampOf_eq, arrive_key, hjobs]) hcause
    refine ⟨_, (exec_keyJournalWriteDone ..).trans (execKeyJournalWriteDone_up hup), ?_⟩
    rw [settle_flash, settle_key, hwritten, hdone, applyRec_eq, programRecord_eq, freeClampOf_eq]
    simp [journalAppend]
  case compact =>
    intro t s hup hkept hfull
    refine ⟨_, (exec_keyJournalCompact ..).trans (execKeyJournalCompact_copyA hup hkept hfull), ?_, ?_, ?_, (settle_eq _).trans ?_⟩
    · rw [settle_flash]
      rfl
    · rw [settle_flash]
      exact length_compact _
    · rw [settle_flash]
    · simp
  case entropy =>
    intro t s hup hphase hfrozen
    refine ⟨_, (exec_keyEntropyFail ..).trans (execKeyEntropyFail_up hup), ?_, ?_⟩
    · rw [settle_hlt_frozen]
      exact raiseFatal_frozen (by rwa [arrive_hlt]) (by rwa [arrive_start])
    · rw [settle_pins]
      exact raiseFatal_ready (by rwa [arrive_hlt]) (by rwa [arrive_start])
  case drained =>
    intro t l j s hdraining htest hup hwarm hdrained
    refine ⟨_, (exec_jigLaneDrained ..).trans (execJigLaneDrained_due hdraining htest hup hwarm hdrained), ?_, (settle_eq _).trans ?_⟩
    · rw [settle_hlt_test]
    · simp

end Sys2Proof.Machine

/-! PROOFS. The packets of the Ferry unit (R320 to R324): what it makes of a packet that arrives, of the endpoint that it hears, and of a packet
that it sends. -/

namespace Sys2Proof.Machine
open Sys2Proof Host

theorem next_settle_congr {u v : State} (h : u = v) : (.next (settle u) : Outcome State Fault Refusal) = .next (settle v) := by rw [h]

/-! ### What the event recorder leaves of the registers (R474) -/

/-- An event counts in the recorder's own two counters and in no other register. -/
theorem reg_evrPush (r : EvRecord) (s : State) {a : Nat} (ha : a ≠ cEvrInputOvf.addr 0 ∧ a ≠ cEvrOverwrite.addr 0) :
    (evrPush r s).reg a = s.reg a := by
  unfold evrPush
  dsimp only
  split
  · exact reg_bump_other _ _ _ ha.1
  · split
    · exact reg_bump_other _ _ _ ha.2
    · rfl

theorem reg_event (e a0 a1 : Nat) (s : State) {a : Nat} (ha : a ≠ cEvrInputOvf.addr 0 ∧ a ≠ cEvrOverwrite.addr 0) :
    (event e a0 a1 s).reg a = s.reg a := reg_evrPush _ s ha

theorem reg_occurs (e : Nat) (s : State) {a : Nat} (ha : a ≠ cEvrInputOvf.addr 0 ∧ a ≠ cEvrOverwrite.addr 0) :
    (occurs e s).reg a = s.reg a := reg_evrPush _ _ ha

theorem occurs_free (e : Nat) (s : State) : (occurs e s).free = s.free + 2 := by rw [occurs, event, evrPush_eq]

@[simp] theorem occurs_fry (e : Nat) (s : State) : (occurs e s).fry = s.fry := by rw [occurs_eq]

/-- A counter that another counter is not counts on alone. -/
theorem count_congr {s u : State} {c : Counter} {i : Nat} (h : u.reg (c.addr i) = s.reg (c.addr i)) : u.count c i = s.count c i := by
  rw [State.count, State.count, h]

theorem count_bump_congr {s u : State} {c : Counter} {i : Nat} (h : u.count c i = s.count c i) :
    (bump c i u).count c i = min 0xFFFFFFFF (s.count c i + 1) := by rw [count_bump, h]

/-! ### What the arrival of a command leaves of the Ferry unit's readings -/

section
variable (s : State) (t : Time)

@[simp] theorem hbInterval_arrive : hbInterval (s.arrive t) = hbInterval s := by simp [hbInterval]

@[simp] theorem endpoints_arrive : endpoints (s.arrive t) = endpoints s := by simp [endpoints]

@[simp] theorem ferryPorts_arrive : ferryPorts (s.arrive t) = ferryPorts s := by simp [ferryPorts]

@[simp] theorem ferryUp_arrive : ferryUp (s.arrive t) = ferryUp s := by simp [ferryUp]

@[simp] theorem ferryMay_arrive : ferryMay (s.arrive t) = ferryMay s := by simp [ferryMay]

@[simp] theorem fryAddr_arrive : fryAddr (s.arrive t) = fryAddr s := by simp [fryAddr]

@[simp] theorem inTable_arrive (f : FerryFrame) : inTable (s.arrive t) f = inTable s f := by simp [inTable]

@[simp] theorem reachesUs_arrive (p : Nat) (a : BitVec 128) : reachesUs (s.arrive t) p a = reachesUs s p a := by simp [reachesUs]

@[simp] theorem baseJsn_arrive : baseJsn (s.arrive t) = baseJsn s := by simp [baseJsn]

@[simp] theorem ferryRole_arrive : ferryRole (s.arrive t) = ferryRole s := by simp [ferryRole]

@[simp] theorem heartbeatBody_arrive : heartbeatBody (s.arrive t) = heartbeatBody s := by simp [heartbeatBody]

@[simp] theorem persistentKey_arrive (cls id : Nat) : persistentKey (s.arrive t) cls id = persistentKey s cls id := by simp [persistentKey]

@[simp] theorem stale_arrive (k : VKey) : stale (s.arrive t) k = stale s k := by simp [stale]

end

/-! ### The path (R321) -/

theorem setPath_fry (e p : Nat) (s : State) : (setPath e p s).fry = { s.fry with endpoint := e, port := p } := by
  unfold setPath
  split
  · next h => rw [h.1, h.2]
  · rw [occurs_eq]

theorem setPath_eq (e p : Nat) (s : State) : setPath e p s = { s with
    fry := (setPath e p s).fry, regs := (setPath e p s).regs, evr := (setPath e p s).evr, free := (setPath e p s).free } := by
  unfold setPath
  split
  · rfl
  · rw [occurs_eq]

theorem reg_setPath (e p : Nat) (s : State) {a : Nat} (ha : a ≠ cEvrInputOvf.addr 0 ∧ a ≠ cEvrOverwrite.addr 0) :
    (setPath e p s).reg a = s.reg a := by
  unfold setPath
  split
  · rfl
  · exact reg_occurs _ _ ha

/-- The choice of a path moves the path, and a changed path is an event. -/
theorem choosePath_eq (s : State) : choosePath s = { s with
    fry := { s.fry with endpoint := (choosePath s).fry.endpoint, port := (choosePath s).fry.port }
    regs := (choosePath s).regs, evr := (choosePath s).evr, free := (choosePath s).free } := by
  rw [choosePath]
  dsimp only
  rw [setPath_eq, setPath_fry]

theorem reg_choosePath (s : State) {a : Nat} (ha : a ≠ cEvrInputOvf.addr 0 ∧ a ≠ cEvrOverwrite.addr 0) :
    (choosePath s).reg a = s.reg a := reg_setPath _ _ s ha

/-- A valid packet's endpoint counts as heard, and the path is chosen again. -/
theorem frameHeard_eq (f : FerryFrame) (s : State) : frameHeard f s = { s with
    fry := { s.fry with
      heard := (frameHeard f s).fry.heard, lastHeard := s.clock.now, peerLost := false
      endpoint := (frameHeard f s).fry.endpoint, port := (frameHeard f s).fry.port }
    regs := (frameHeard f s).regs, evr := (frameHeard f s).evr, free := (frameHeard f s).free } := by
  unfold frameHeard
  split <;> rw [peerHeard, choosePath_eq]

theorem reg_frameHeard (f : FerryFrame) (s : State) {a : Nat} (ha : a ≠ cEvrInputOvf.addr 0 ∧ a ≠ cEvrOverwrite.addr 0) :
    (frameHeard f s).reg a = s.reg a := by
  unfold frameHeard
  split <;> exact reg_choosePath _ ha

/-! ### A packet arrives (R320, R322, R324) -/

section
variable {ty : Nat} {f : FerryFrame} {h : FerryHead} {b : Octets} {s : State}

/-- A packet that reaches the Ferry unit is of a type asked for, and nothing is counted. -/
theorem ferryArrives_some {types : List Nat} (harrives : (ferryArrives types f s).1 = some h) :
    ferryArrives types f s = (some h, s) ∧ ferryHeadRead (ofBytes f.payload) = h ∧ h.type ∈ types := by
  unfold ferryArrives at harrives ⊢
  dsimp only at harrives ⊢
  by_cases hout : (!types.contains (ferryHeadRead (ofBytes f.payload)).type || !s.packetUp) = true
  · rw [if_pos hout] at harrives
    cases harrives
  · rw [if_neg hout] at harrives ⊢
    by_cases hbad : (!ferryUp s || !inTable s f) = true
    · rw [if_pos hbad] at harrives
      cases harrives
    · rw [if_neg hbad] at harrives ⊢
      obtain rfl : ferryHeadRead (ofBytes f.payload) = h := Option.some.inj harrives
      simp only [Bool.or_eq_true, Bool.not_eq_true', not_or, Bool.not_eq_false, List.contains_iff_mem] at hout
      exact ⟨rfl, rfl, hout.1⟩

/-- A packet on a frame that does not meet R320 is discarded and counted. -/
theorem ferryArrives_discarded (hty : (ferryHeadRead (ofBytes f.payload)).type = ty) (hup : s.packetUp = true) (hout : inTable s f = false) :
    ferryArrives [ty] f s = (none, bump cFryRxDiscard 0 s) := by
  simp [ferryArrives, hty, hup, hout]

/-- A packet whose body is acted on leaves its number in the window of its keys, and nothing else. -/
theorem ferryRx_some (htaken : (ferryRx ty f s).1 = some b) : (ferryRx ty f s).2 = { s with
    fry := { s.fry with rx := (ferryRx ty f s).2.fry.rx, old := (ferryRx ty f s).2.fry.old } } := by
  generalize hp : ferryRx ty f s = p at htaken ⊢
  unfold ferryRx at hp
  split at hp
  · subst hp
    cases htaken
  · next s1 harrives =>
    obtain rfl : s = s1 := congrArg Prod.snd ((ferryArrives_some (congrArg Prod.fst harrives)).1.symm.trans harrives)
    dsimp only at hp
    split at hp
    · subst hp
      cases htaken
    · split at hp
      · subst hp
        cases htaken
      · split at hp
        · subst hp
          cases htaken
        · split at hp <;> subst hp
          · dsimp only
            split <;> rfl
          · cases htaken

section
variable (harrives : (ferryArrives [ty] f s).1 = some h) (hopened : s.fry.session ≠ 0) (hcurrent : h.session = s.fry.session)
include harrives hopened hcurrent

theorem ferryRx_taken (hopen : openPacket s.fry.rx.key (ofBytes f.payload) = some b) (hfresh : s.fry.rx.fresh h.packetNo = true)
    (hok : h.ok ty 0 = true) : ferryRx ty f s = (some b, { s with fry := { s.fry with rx := s.fry.rx.take h.packetNo } }) := by
  simp [ferryRx, (ferryArrives_some harrives).1, hopened, hcurrent, hopen, hfresh, hok]

/-- A number that the window has taken, or lies behind it, is a replay (R324). -/
theorem ferryRx_replay (hopen : openPacket s.fry.rx.key (ofBytes f.payload) = some b) (hstale : s.fry.rx.fresh h.packetNo = false) :
    ferryRx ty f s = (none, bump cFryReplay 0 s) := by
  simp [ferryRx, (ferryArrives_some harrives).1, hopened, hcurrent, hopen, hstale]

theorem ferryRx_forged (hopen : openPacket s.fry.rx.key (ofBytes f.payload) = none) :
    ferryRx ty f s = (none, bump cFryAuthFail 0 s) := by
  simp [ferryRx, (ferryArrives_some harrives).1, hopened, hcurrent, hopen]

end

theorem ferryRx_discarded (hty : (ferryHeadRead (ofBytes f.payload)).type = ty) (hup : s.packetUp = true) (hout : inTable s f = false) :
    ferryRx ty f s = (none, bump cFryRxDiscard 0 s) := by
  simp [ferryRx, ferryArrives_discarded hty hup hout]

end

end Sys2Proof.Machine

namespace Sys2Proof.Machine
open Sys2Proof Host

/-! ### A packet leaves (R322, R324) -/

section
variable {s : State}

theorem nextPacket_congr {u : State} (hkey : u.fry.txKey = s.fry.txKey) (hsession : u.fry.session = s.fry.session)
    (hno : u.fry.txNo = s.fry.txNo) (e p ty flags : Nat) (body : Octets) : nextPacket e p ty flags body u = nextPacket e p ty flags body s := by
  rw [nextPacket, nextPacket, hkey, hsession, hno]

/-- Below the ceiling a packet takes the next number and leaves. -/
theorem ferryPacket_below (hsession : s.fry.session ≠ 0) (hbelow : s.fry.txNo + 1 < s.fry.txCeiling) (ty flags : Nat) (body : Octets) :
    ferryPacket ty flags body s = ({ s with fry := { s.fry with txNo := s.fry.txNo + 1 } } : State).out
      (nextPacket s.fry.endpoint s.fry.port ty flags body s) := by
  rw [ferryPacket, if_neg hsession]
  exact if_neg (by exact Nat.not_le.mpr hbelow)

/-- A solo device mirrors no ceiling. -/
theorem ferryPacket_open_solo (hsolo : s.pair.state = .solo) (hsession : s.fry.session ≠ 0) (ty flags : Nat) (body : Octets) :
    ∃ c, ferryPacket ty flags body s = ({ s with fry := { s.fry with txNo := s.fry.txNo + 1, txCeiling := c } } : State).out
      (nextPacket s.fry.endpoint s.fry.port ty flags body s) := by
  unfold ferryPacket
  rw [if_neg hsession]
  dsimp only
  split
  · rw [mirror_solo _ _ (by exact hsolo)]
    exact ⟨_, rfl⟩
  · exact ⟨_, rfl⟩

end

end Sys2Proof.Machine

/-! PROOFS. The Ferry session (R310, R320 to R329): its heartbeats, its opening, what it sends of the journal, and its links. -/

namespace Sys2Proof.Machine
open Sys2Proof Host

/-! ### Heartbeats (R323, R324, R329) -/

section
variable {t : Time} {f : FerryFrame} {s : State}

section
variable (hflags : (ferryHeadRead (ofBytes f.payload)).flags % 2 = 0)
include hflags

/-- A HEARTBEAT without OPEN that the session does not take leaves what its header left. -/
theorem execFerryHeartbeat_refused {v : State} (hrx : ferryRx 8 f (s.arrive t) = (none, v)) :
    execFerryHeartbeat t f s = .next (settle v) := by
  rw [execFerryHeartbeat, onInst_true]
  dsimp only
  rw [if_pos (.inr hflags), hrx]
  rfl

theorem execFerryHeartbeat_taken {b : Octets} {x : BitVec 128 × BitVec 128} {v : State}
    (hrx : ferryRx 8 f (s.arrive t) = (some b, v)) (hread : heartbeatRead false b = some x) :
    execFerryHeartbeat t f s = .next (settle (frameHeard f v)) := by
  rw [execFerryHeartbeat, onInst_true]
  dsimp only
  rw [if_pos (.inr hflags), hrx]
  simp only [Option.map_some, hread]

end

theorem execFerryHeartbeat_discarded (hty : (ferryHeadRead (ofBytes f.payload)).type = 8) (hup : s.packetUp = true)
    (hout : inTable s f = false) : execFerryHeartbeat t f s = .next (settle (bump cFryRxDiscard 0 (s.arrive t))) := by
  have hup' : (s.arrive t).packetUp = true := by rwa [packetUp_arrive]
  have hout' : inTable (s.arrive t) f = false := by rwa [inTable_arrive]
  by_cases hflags : (ferryHeadRead (ofBytes f.payload)).flags % 2 = 0
  · exact execFerryHeartbeat_refused hflags (ferryRx_discarded hty hup' hout')
  · rw [execFerryHeartbeat, onInst_true]
    dsimp only
    rw [if_neg (by simp [hty, hflags]), ferryArrives_discarded hty hup' hout']

/-- The head-end's answer to the opening in hand opens the session (R323). -/
theorem execFerryHeartbeat_answered {h : FerryHead} {k : VKey} {b : Octets} {m : BitVec 128}
    (harrives : (ferryArrives [8] f (s.arrive t)).1 = some h) (hversion : h.version = 1) (hflags : h.flags = 3)
    (hkey : keyAt s 6 0 = some k) (hopen : openPacket (openingKey k.plain.key) (ofBytes f.payload) = some b)
    (hread : heartbeatRead true b = some (s.fry.nonceD, m)) (hasked : s.fry.state = 1) (hnumber : h.session = s.fry.lastUsed) :
    execFerryHeartbeat t f s = .next (settle (sessionOpened f m (s.arrive t))) := by
  obtain ⟨harrives', hhead, hty⟩ := ferryArrives_some harrives
  rw [List.mem_singleton] at hty
  rw [execFerryHeartbeat, onInst_true]
  dsimp only
  rw [hhead, if_neg (by simp [hty, hflags]), harrives']
  simp [hkey, hopen, FerryHead.ok, hversion, hflags, hty, hread, hasked, hnumber]

end

/-- The session that an answer opens (R323): its keys, transmit half above receive half, its empty window, and the keys that it replaces. -/
theorem sessionOpened_solo (f : FerryFrame) (m : BitVec 128) {s : State} (hsolo : s.pair.state = .solo) :
    ∃ y, sessionOpened f m s = frameHeard f { s with fry := y } ∧ y.state = 2 ∧ y.session = s.fry.lastUsed ∧ y.txNo = 0 ∧
      y.txKey ++ y.rx.key = sessionKeys (persistentKey s 6 0) s.fry.nonceD m s.fry.lastUsed ∧
      y.rx.session = s.fry.lastUsed ∧ y.rx.high = 0 ∧ y.rx.seen = [] ∧ y.nonceH = m ∧
      y.old = (if s.fry.session = 0 then none else some (s.fry.rx, s.clock.now)) := by
  rw [sessionOpened]
  dsimp only
  rw [mirror_solo _ _ (by rw [frameHeard_eq]; exact hsolo)]
  exact ⟨_, rfl, rfl, rfl, rfl, BitVec.extractLsb'_append_extractLsb' (w := 256) (len := 256)
    (x := sessionKeys (persistentKey s 6 0) s.fry.nonceD m s.fry.lastUsed), rfl, rfl, rfl, rfl, rfl⟩

theorem ferryRole_solo {s : State} (hsolo : s.pair.state = .solo) : ferryRole s = 2 := if_pos hsolo

theorem session_of_ferryMay {s : State} (hmay : ferryMay s = true) : s.fry.session ≠ 0 := by
  simp only [ferryMay, Bool.and_eq_true, bne_iff_ne] at hmay
  exact hmay.1.2

theorem execFerryHeartbeatTx_due {t : Time} {s : State} (hmay : ferryMay s = true)
    (hdue : s.fry.hbAt + hbInterval s ≤ (s.arrive t).clock.now) (hbelow : s.fry.txNo + 1 < s.fry.txCeiling) :
    ∃ v, execFerryHeartbeatTx t s = .next (settle v) ∧ v = { s.arrive t with
      fry := { s.fry with hbAt := (s.arrive t).clock.now, txNo := s.fry.txNo + 1 }
      sent := .heartbeat false s.fry.session (ferryRole s) s.pair.epoch (baseJsn s) s.jrn.nextJsn s.jrn.ackJsn s.dl.nextDsn ::
        nextPacket s.fry.endpoint s.fry.port 8 0 (heartbeatBody s) s :: s.sent } := by
  have hsession := session_of_ferryMay hmay
  refine ⟨_, ?_, rfl⟩
  rw [execFerryHeartbeatTx, onInst_true]
  simp only [ferryMay_arrive, hmay, arrive_fry, hbInterval_arrive, hdue, decide_true, Bool.and_self, if_true, heartbeatBody_arrive]
  rw [ferryPacket_below (s := { s.arrive t with fry := { s.fry with hbAt := (s.arrive t).clock.now } }) hsession hbelow]
  simp [sendHeartbeat, State.out, nextPacket, ferryRole, baseJsn]

/-- The peer is lost, and with a sole endpoint the path stands (R329). -/
theorem execFerryPeerLost_sole {t : Time} {s : State} (hup : ferryUp s = true) (hheard : s.fry.peerLost = false)
    (hdue : s.fry.lastHeard + 10 * hbInterval s ≤ (s.arrive t).clock.now) (hsole : endpoints s = [s.fry.endpoint]) :
    execFerryPeerLost t s = .next (settle (occurs eFryPeerLost { s.arrive t with fry := { s.fry with peerLost := true } })) := by
  rw [execFerryPeerLost, onInst_true]
  simp only [ferryUp_arrive, hup, arrive_fry, hheard, hbInterval_arrive, Nat.not_lt.mpr hdue, endpoints_arrive, hsole]
  simp [setPath]

end Sys2Proof.Machine

namespace Sys2Proof.Machine
open Sys2Proof Host

theorem persistentKey_of_keyAt {cls id : Nat} {k : VKey} {s : State} (hkey : keyAt s cls id = some k) : persistentKey s cls id = k.plain.key := by
  rw [persistentKey, hkey]
  rfl

/-! ### A session is opened (R323) -/

/-- The state in which an opening has left: the next session number, a fresh nonce, and the OPEN packet behind its HEARTBEAT. -/
def opening (k : VKey) (s : State) : State := { s with
  fry := { s.fry with lastUsed := s.fry.lastUsed + 1, state := 1, nonceD := Config.nonce s.free, hbAt := s.clock.now }
  sent := .heartbeat true (s.fry.lastUsed + 1) (ferryRole s) s.pair.epoch (baseJsn s) s.jrn.nextJsn s.jrn.ackJsn s.dl.nextDsn ::
    .ferry s.fry.endpoint s.fry.port (sealPacket (openingKey k.plain.key) ⟨1, 8, 1, s.fry.lastUsed + 1, Config.openPacketNo (s.free + 1)⟩
      (heartbeatBody s ++ octetsOf (Config.nonce s.free) ++ octetsOf (0 : BitVec 128))) :: s.sent
  free := s.free + 2 }

section
variable {k : VKey} {s : State} (hkey : keyAt s 6 0 = some k) (hlive : k.status = .live) (hfresh : stale s k = false)
include hkey hlive hfresh

theorem openSession_live : openSession s = opening k s := by
  have huse : useKey 6 0 s = (.good, s) := by simp [useKey, hkey, hlive, hfresh]
  rw [openSession, huse, opening, ← persistentKey_of_keyAt hkey]
  rfl

theorem execFerrySessionOpen_first {t : Time} (hup : ferryUp s = true) (hadvertised : s.fry.advertised = true) (hnone : s.fry.session = 0) :
    execFerrySessionOpen t s = .next (settle (opening k (s.arrive t))) := by
  rw [execFerrySessionOpen, onInst_true, ← openSession_live (by simpa) hlive (by simpa)]
  simp [hup, hadvertised, hnone]

theorem execFerryRekey_due {t : Time} (hmay : ferryMay s = true)
    (hdue : s.fry.opened + sec (s.fld rFryCtrl 16 8 * 3600) ≤ (s.arrive t).clock.now) :
    execFerryRekey t s = .next (settle (opening k (s.arrive t))) := by
  rw [execFerryRekey, onInst_true, ← openSession_live (by simpa) hlive (by simpa)]
  simp [hmay, hdue]

end

/-- The keys of the session before are dropped 10 s after a new one opened (R323). -/
theorem execFerryOldKeysExpire_due {t x : Time} {w : RxWin} {s : State} (hold : s.fry.old = some (w, x))
    (hdue : x + sec 10 ≤ (s.arrive t).clock.now) :
    execFerryOldKeysExpire t s = .next (settle { s.arrive t with fry := { s.fry with old := none } }) := by
  rw [execFerryOldKeysExpire, onInst_true]
  simp [hold, hdue]

/-! ### The journal's entries leave and are acknowledged (R310, R325, R327) -/

/-- The acknowledgement point moves forward (R327). -/
theorem execFerryUlAck_forward {t : Time} {f : FerryFrame} {b : Octets} {j : Nat} {s : State}
    (hrx : (ferryRx 2 f (s.arrive t)).1 = some b) (hread : ulAckRead b = some j) (hheld : j < s.jrn.nextJsn) (hforward : s.jrn.ackJsn < j)
    (hsolo : s.pair.state = .solo) : ∃ m, execFerryUlAck t f s = .next (settle { frameHeard f (ferryRx 2 f (s.arrive t)).2 with
      jrn := { s.jrn with
        ackJsn := j, ackAt := (s.arrive t).clock.now, ackMirrored := m, sentTo := max s.jrn.sentTo j
        entries := s.jrn.entries.filter fun e => decide (j < e.hdr.jsn) || e.state == .owed || e.state == .staged }
      upd := { s.upd with ackMoved := true } }) := by
  have hheard := frameHeard_eq f (ferryRx 2 f (s.arrive t)).2
  have hpair : (frameHeard f (ferryRx 2 f (s.arrive t)).2).pair = s.pair := by rw [hheard, ferryRx_some hrx, arrive_pair]
  have hjrn : (frameHeard f (ferryRx 2 f (s.arrive t)).2).jrn = s.jrn := by rw [hheard, ferryRx_some hrx, arrive_jrn]
  have hupd : (frameHeard f (ferryRx 2 f (s.arrive t)).2).upd = s.upd := by rw [hheard, ferryRx_some hrx, arrive_upd]
  have hclock : (frameHeard f (ferryRx 2 f (s.arrive t)).2).clock = (s.arrive t).clock := by rw [hheard, ferryRx_some hrx]
  rw [execFerryUlAck, onInst_true]
  simp only [hrx, hread, Option.map_some, hjrn, hupd, hclock, Nat.not_le.mpr hheld, Nat.not_le.mpr hforward, if_false]
  split
  · rw [mirror_solo _ _ (by exact (congrArg Pair.state hpair).trans hsolo)]
    exact ⟨_, rfl⟩
  · exact ⟨_, rfl⟩

/-- The message that carries entry `e` alone: its packet, and the notice of it. -/
def sentAlone (e : Entry) (s : State) : List Output :=
  [.uplink (e.hdr.kind == 3) e.hdr.jsn e.hdr.jsn,
    nextPacket s.fry.endpoint s.fry.port (if e.hdr.kind = 3 then 5 else 1) 0 (entriesOctets [e]) s]

theorem sendEntries_sole {e : Entry} {s : State} (hsolo : s.pair.state = .solo) (hsession : s.fry.session ≠ 0) :
    ∃ c, sendEntries 1 [e] s = { s with
      fry := { s.fry with txNo := s.fry.txNo + 1, txCeiling := c }, sent := sentAlone e s ++ s.sent } := by
  obtain ⟨c, hc⟩ := ferryPacket_open_solo hsolo hsession (if e.hdr.kind = 3 then 5 else 1) 0 (entriesOctets [e])
  refine ⟨c, ?_⟩
  simp only [sendEntries, messageOf, List.length_singleton, Nat.add_sub_cancel]
  rw [hc]
  rfl

section
variable {t : Time} {e : Entry} {s : State} (hmay : ferryMay s = true) (hsole : s.jrn.entries = [e]) (hsolo : s.pair.state = .solo)
include hmay hsole hsolo

/-- The only entry, released and next in order, leaves (R310, R327). -/
theorem execFerryUplinkSend_sole {n : Nat} (hnext : e.hdr.jsn = s.jrn.sentTo + 1) (haccepted : e.state = .accepted)
    (hroom : s.jrn.sentTo < s.jrn.ackJsn + s.fld rFryWindow 0 21) (hn : 0 < n) :
    ∃ a c, execFerryUplinkSend t n s = .next (settle { s.arrive t with
      jrn := { s.jrn with ackAt := a, sentTo := s.jrn.sentTo + 1 }
      fry := { s.fry with txNo := s.fry.txNo + 1, txCeiling := c }
      sent := sentAlone e s ++ s.sent }) := by
  have hcount : min n (min (s.jrn.ackJsn + s.fld rFryWindow 0 21 - s.jrn.sentTo) s.jrn.entries.length) = 1 := by
    rw [hsole, List.length_singleton]
    omega
  have hreleased : releasedFrom (s.arrive t) s.jrn.sentTo 1 = [e] := by
    simp [releasedFrom, entryOf, hsole, hnext, Entry.released, haccepted]
  have hsend (a : Time) := sendEntries_sole (e := e)
    (s := { s.arrive t with jrn := { s.jrn with ackAt := a, sentTo := s.jrn.sentTo + 1 } }) (by simpa)
    (by simpa using session_of_ferryMay hmay)
  rw [execFerryUplinkSend, onInst_true]
  dsimp only
  rw [if_neg (by simp [hmay])]
  simp only [arrive_jrn, fld_arrive, hcount, hreleased]
  split
  · obtain ⟨c, hc⟩ := hsend (s.arrive t).clock.now
    exact ⟨(s.arrive t).clock.now, c, next_settle_congr (hc.trans (by simp [sentAlone, nextPacket]))⟩
  · obtain ⟨c, hc⟩ := hsend s.jrn.ackAt
    refine ⟨s.jrn.ackAt, c, next_settle_congr (Eq.trans ?_ (hc.trans (by simp [sentAlone, nextPacket])))⟩
    rw [← arrive_jrn s t]
    rfl

/-- The only entry, sent and not acknowledged for UL_RTO, is sent again (R327). -/
theorem execFerryUlRto_sole (habove : s.jrn.ackJsn < e.hdr.jsn) (hsent : e.hdr.jsn ≤ s.jrn.sentTo)
    (hdue : s.jrn.ackAt + ms (s.fld rFryCtrl 0 8) ≤ (s.arrive t).clock.now) :
    ∃ v c, execFerryUlRto t s = .next (settle { bump cFryUlRetx 0 v with
      fry := { s.fry with txNo := s.fry.txNo + 1, txCeiling := c }, sent := sentAlone e s ++ s.sent }) ∧
      v = { s.arrive t with jrn := { s.jrn with ackAt := (s.arrive t).clock.now } } := by
  have hmoved : ¬s.jrn.sentTo = s.jrn.ackJsn := by omega
  have hall : (s.jrn.entries.filter fun e => decide (s.jrn.ackJsn < e.hdr.jsn ∧ e.hdr.jsn ≤ s.jrn.sentTo)) = [e] := by
    simp [hsole, habove, hsent]
  obtain ⟨v, hv⟩ : ∃ v : State, v = { s.arrive t with jrn := { s.jrn with ackAt := (s.arrive t).clock.now } } := ⟨_, rfl⟩
  obtain ⟨c, hc⟩ := sendEntries_sole (e := e) (s := bump cFryUlRetx 0 v) (by simpa [hv]) (by simpa [hv] using session_of_ferryMay hmay)
  refine ⟨v, c, ?_, hv⟩
  rw [execFerryUlRto, onInst_true]
  dsimp only
  rw [if_neg (by simp [hmay, hmoved, Nat.not_lt.mpr hdue])]
  simp only [arrive_jrn, hall, List.length_singleton]
  rw [← hv]
  exact next_settle_congr (hc.trans (by simp [sentAlone, nextPacket, hv]))

end

/-! ### Neighbour discovery, echo and links (R320, R321) -/

theorem foldl_out_eq {α : Type} (f : α → Output) (l : List α) (s : State) :
    l.foldl (fun s x => s.out (f x)) s = { s with sent := l.reverse.map f ++ s.sent } := by
  induction l generalizing s with
  | nil => rfl
  | cons x l ih => rw [List.foldl_cons, ih]; simp [State.out]

theorem execNeighbourAdvertisementTx_due {t : Time} {s : State} (hleft : s.fry.adverts ≠ 0) (hleads : s.leads = true)
    (hup : s.packetUp = true) (hdue : s.fry.advertAt ≤ (s.arrive t).clock.now) :
    execNeighbourAdvertisementTx t s = .next (settle { s.arrive t with
      fry := { s.fry with adverts := s.fry.adverts - 1, advertAt := s.fry.advertAt + sec 1, advertised := true }
      sent := (ferryPorts s).reverse.map (fun p => .neighbourAdvertisement p true) ++ s.sent }) := by
  rw [execNeighbourAdvertisementTx, onInst_true]
  dsimp only
  rw [foldl_out_eq]
  simp [hleft, hleads, hup, Nat.not_lt.mpr hdue]

section
variable {t : Time} {p : Nat} {s : State} (hp : p < 8)
include hp

theorem execNeighbourSolicitation_reaches (hreaches : reachesUs s p (fryAddr s) = true) :
    execNeighbourSolicitation t p (fryAddr s) s = .next (settle ((s.arrive t).out (.neighbourAdvertisement p false))) := by
  rw [execNeighbourSolicitation, onInst_of hp]
  simp [hreaches]

theorem execEchoRequest_reaches (hreaches : reachesUs s p (fryAddr s) = true) :
    execEchoRequest t p (fryAddr s) s = .next (settle ((s.arrive t).out (.echoReply p))) := by
  rw [execEchoRequest, onInst_of hp]
  simp [hreaches]

theorem execEthLinkChange_enabled {up : Bool} (henabled : octetField 32 (s.entry tFryPort p) 0 30 2 ≠ 0) (hup : s.packetUp = true) :
    execEthLinkChange t p up s = .next (settle (choosePath { s.arrive t with fry := { s.fry with
      links := if up then s.fry.links ||| BitVec.ofNat 8 (2 ^ p) else s.fry.links &&& ~~~BitVec.ofNat 8 (2 ^ p) } })) := by
  rw [execEthLinkChange, onInst_of hp]
  simp [henabled, hup]

end

/-- A link's bit follows its level, and the others stand. -/
theorem getLsbD_link {p q : Nat} (hp : p < 8) (hq : q < 8) (up : Bool) (l : BitVec 8) :
    (if up then l ||| BitVec.ofNat 8 (2 ^ p) else l &&& ~~~BitVec.ofNat 8 (2 ^ p)).getLsbD q = if q = p then up else l.getLsbD q := by
  have hbit : (BitVec.ofNat 8 (2 ^ p)).getLsbD q = decide (p = q) := by
    rw [BitVec.getLsbD_ofNat, Nat.testBit_two_pow, decide_eq_true hq, Bool.true_and]
  have hset : (l ||| BitVec.ofNat 8 (2 ^ p)).getLsbD q = (l.getLsbD q || decide (p = q)) := by rw [BitVec.getLsbD_or, hbit]
  have hclear : (l &&& ~~~BitVec.ofNat 8 (2 ^ p)).getLsbD q = (l.getLsbD q && !decide (p = q)) := by
    rw [BitVec.getLsbD_and, BitVec.getLsbD_not, hbit, decide_eq_true hq, Bool.true_and]
  by_cases heq : q = p
  · subst heq
    cases up <;> simp only [Bool.false_eq_true, if_false, if_true, hset, hclear] <;> simp
  · have hne : ¬p = q := fun h => heq h.symm
    cases up <;> simp only [Bool.false_eq_true, if_false, if_true, hset, hclear, if_neg heq, decide_eq_false hne] <;> simp

/-! ### The statement -/

/-- Settles O18, clause by clause: the lemmas above give the state that each command answers, settled. -/
theorem ferrySession : Obligations.FerrySession := by
  unfold Obligations.FerrySession
  refine ⟨?taken, ?replay, ?forged, ?stranger, ?answered, ?heartbeat, ?lost, ?first, ?rekey, ?expire, ?acked, ?uplink, ?again, ?advert,
    ?solicited, ?echo, ?link⟩
  case taken =>
    intro t f h b x s harrives hopened hcurrent hopen hfresh hversion hflags hread
    obtain ⟨-, hhead, hty⟩ := ferryArrives_some harrives
    have hrx := ferryRx_taken (b := b) harrives (by simpa) (by simpa) (by simpa) (by simpa)
      (by simpa [FerryHead.ok, hversion, hflags] using hty)
    refine ⟨_, (exec_ferryHeartbeat ..).trans (execFerryHeartbeat_taken (by simp [hhead, hflags]) hrx hread), ?_, ?_, ?_, ?_,
      (settle_eq _).trans ?_⟩
    all_goals
      rw [frameHeard_eq]
      simp [RxWin.take]
  case replay =>
    intro t f h b s harrives hopened hcurrent hopen hstale hflags
    obtain ⟨-, hhead, -⟩ := ferryArrives_some harrives
    have hrx := ferryRx_replay (b := b) harrives (by simpa) (by simpa) (by simpa) (by simpa)
    refine ⟨_, (exec_ferryHeartbeat ..).trans (execFerryHeartbeat_refused (by rw [hhead, hflags]) hrx), ?_, (settle_eq _).trans ?_⟩
    · rw [count_settle]
      exact count_bump_of_regs (arrive_regs s t) ..
    · rw [bump_eq]
      simp
  case forged =>
    intro t f h s harrives hopened hcurrent hopen hflags
    obtain ⟨-, hhead, -⟩ := ferryArrives_some harrives
    have hrx := ferryRx_forged harrives (by simpa) (by simpa) (by simpa)
    refine ⟨_, (exec_ferryHeartbeat ..).trans (execFerryHeartbeat_refused (by rw [hhead, hflags]) hrx), ?_, (settle_eq _).trans ?_⟩
    · rw [count_settle]
      exact count_bump_of_regs (arrive_regs s t) ..
    · rw [bump_eq]
      simp
  case stranger =>
    intro t f s hty hup hout
    refine ⟨_, (exec_ferryHeartbeat ..).trans (execFerryHeartbeat_discarded hty hup hout), ?_, (settle_eq _).trans ?_⟩
    · rw [count_settle]
      exact count_bump_of_regs (arrive_regs s t) ..
    · rw [bump_eq]
      simp
  case answered =>
    intro t f h k b n m s harrives hversion hflags hkey hopen hread hasked hnumber hnonce hsolo
    subst hnonce
    obtain ⟨y, hopened, hstate, hsession, hno, hkeys, hrx, hhigh, hseen, hnonceH, hold⟩ :=
      sessionOpened_solo f m (s := s.arrive t) (by simpa)
    rw [persistentKey_arrive, persistentKey_of_keyAt hkey, arrive_fry] at hkeys
    refine ⟨_, (exec_ferryHeartbeat ..).trans
      (execFerryHeartbeat_answered harrives hversion hflags hkey hopen hread hasked hnumber), ?_⟩
    rw [hopened, settle_fry, frameHeard_eq]
    refine ⟨hstate, by simpa using hsession, hno, hkeys, by simpa using hrx, hhigh, hseen, hnonceH, by simpa using hold,
      (settle_eq _).trans ?_⟩
    simp
  case heartbeat =>
    intro t s hmay hdue hsolo hbelow
    obtain ⟨v, hexec, hv⟩ := execFerryHeartbeatTx_due hmay hdue hbelow
    refine ⟨_, (exec_ferryHeartbeatTx ..).trans hexec, ?_, ?_, (settle_eq _).trans ?_⟩
    all_goals simp [hv, ferryRole_solo hsolo, heartbeatBody]
  case lost =>
    intro t s hup hheard hdue hsole
    refine ⟨_, (exec_ferryPeerLost ..).trans (execFerryPeerLost_sole hup hheard hdue hsole), ?_, (settle_eq _).trans ?_⟩
    · simp
    · rw [occurs_eq]
      simp [occurs_free]
  case first =>
    intro t k s hup hadvertised hnone hkey hlive hfresh hsolo
    refine ⟨_, (exec_ferrySessionOpen ..).trans (execFerrySessionOpen_first hkey hlive hfresh hup hadvertised hnone), ?_, ?_, ?_, ?_,
      (settle_eq _).trans ?_⟩
    all_goals simp [opening, ferryRole_solo hsolo]
  case rekey =>
    intro t k s hmay hdue hkey hlive hfresh hsolo
    refine ⟨_, (exec_ferryRekey ..).trans (execFerryRekey_due hkey hlive hfresh hmay hdue), ?_, ?_, ?_, ?_, (settle_eq _).trans ?_⟩
    all_goals simp [opening, ferryRole_solo hsolo]
  case expire =>
    intro t w x s hold hdue
    exact ⟨_, (exec_ferryOldKeysExpire ..).trans (execFerryOldKeysExpire_due hold hdue), (settle_eq _).trans (by simp)⟩
  case acked =>
    intro t f b j s hrx hread hheld hforward hsolo
    obtain ⟨m, hexec⟩ := execFerryUlAck_forward hrx hread hheld hforward hsolo
    refine ⟨_, (exec_ferryUlAck ..).trans hexec, ?_, ?_, (settle_eq _).trans ?_⟩
    · simp
    · simp
    · rw [frameHeard_eq, ferryRx_some hrx]
      simp
  case uplink =>
    intro t n e s hmay hsole hnext haccepted hroom hn hsolo
    obtain ⟨a, c, hexec⟩ := execFerryUplinkSend_sole hmay hsole hsolo hnext haccepted hroom hn
    refine ⟨_, (exec_ferryUplinkSend ..).trans hexec, ?_, ?_, ?_, ?_, (settle_eq _).trans ?_⟩
    all_goals simp [sentAlone]
  case again =>
    intro t e s hmay hsole habove hsent hdue hsolo
    obtain ⟨v, c, hexec, hv⟩ := execFerryUlRto_sole hmay hsole hsolo habove hsent hdue
    refine ⟨_, (exec_ferryUlRto ..).trans hexec, ?_, ?_, ?_, (settle_eq _).trans ?_⟩
    · simp [sentAlone]
    · rw [count_settle]
      have hregs : v.regs = s.regs := by rw [hv, arrive_regs]
      refine (count_of_regs (s := bump cFryUlRetx 0 v) ?_ _ _).trans (count_bump_of_regs hregs ..)
      simp
    · simp [hv]
    · rw [bump_eq, hv]
      simp
  case advert =>
    intro t s hleft hleads hup hdue
    refine ⟨_, (exec_neighbourAdvertisementTx ..).trans (execNeighbourAdvertisementTx_due hleft hleads hup hdue), ?_, ?_, (settle_eq _).trans ?_⟩
    all_goals simp
  case solicited =>
    intro t p s hp hreaches
    exact ⟨_, (exec_neighbourSolicitation ..).trans (execNeighbourSolicitation_reaches hp hreaches), (settle_eq _).trans (by simp [State.out])⟩
  case echo =>
    intro t p s hp hreaches
    exact ⟨_, (exec_echoRequest ..).trans (execEchoRequest_reaches hp hreaches), (settle_eq _).trans (by simp [State.out])⟩
  case link =>
    intro t p up s hp henabled hup
    refine ⟨_, (exec_ethLinkChange ..).trans (execEthLinkChange_enabled hp henabled hup), ?_, (settle_eq _).trans ?_⟩
    · intro q hq
      rw [settle_fry, choosePath_eq]
      exact getLsbD_link hp hq up s.fry.links
    · rw [choosePath_eq]
      simp

end Sys2Proof.Machine

/-! PROOFS. MGMT-READ (R325, R328): what a read through the management window moves, and the answer to a request. -/

namespace Sys2Proof.Machine
open Sys2Proof Host

/-! ### What a read moves (R328, R489, R490) -/

theorem readHeld_eq (g : Agent) (a : Nat) (s : State) : (readHeld g a s).2 = { s with
    latches := (readHeld g a s).2.latches, evr := (readHeld g a s).2.evr } := by
  unfold readHeld latch
  (repeat' split) <;> rfl

/-- A read counts where it is refused, latches the half of a pair, and moves the recorder's cursor. -/
theorem readAs_eq (g : Agent) (a : Nat) (s : State) : (readAs g a s).2 = { s with
    regs := (readAs g a s).2.regs, latches := (readAs g a s).2.latches, evr := (readAs g a s).2.evr } := by
  unfold readAs
  split
  · rw [bump_eq]
  · split
    · rw [bump_eq]
    · rw [readHeld_eq]

theorem windowRead_eq (g : Agent) (a : Nat) (s : State) : (windowRead g a s).2.2 = { s with
    regs := (windowRead g a s).2.2.regs, latches := (windowRead g a s).2.2.latches, evr := (windowRead g a s).2.2.evr } := by
  unfold windowRead
  dsimp only
  split
  · split
    · rw [bump_eq]
    · rfl
  · split
    · rw [readAs_eq]
    · rfl

theorem windowWords_eq (g : Agent) (n a : Nat) (s : State) : (windowWords g n a s).2 = { s with
    regs := (windowWords g n a s).2.regs, latches := (windowWords g n a s).2.latches, evr := (windowWords g n a s).2.evr } := by
  induction n generalizing a s with
  | zero => rfl
  | succ n ih =>
    rw [windowWords]
    dsimp only
    rw [ih]
    split
    · rw [bump_eq, windowRead_eq]
    · rw [windowRead_eq]

theorem readAll_eq (l : List (Word × Nat)) (s : State) : (readAll l s).2 = { s with
    regs := (readAll l s).2.regs, latches := (readAll l s).2.latches, evr := (readAll l s).2.evr } := by
  induction l generalizing s with
  | nil => rfl
  | cons x l ih =>
    rw [readAll]
    dsimp only
    rw [ih, windowWords_eq]

theorem length_windowWords (g : Agent) (n a : Nat) (s : State) : (windowWords g n a s).1.length = n := by
  induction n generalizing a s with
  | zero => rfl
  | succ n ih => rw [windowWords, List.length_cons, ih]

theorem length_readAll (l : List (Word × Nat)) (s : State) : (readAll l s).1.length = (l.map fun x => x.2).sum := by
  induction l generalizing s with
  | nil => rfl
  | cons x l ih => rw [readAll, List.length_append, length_windowWords, ih, List.map_cons, List.sum_cons]

/-- Below the control space the window serves nothing: the word is 0xDEAD0000, and the refusal is counted (R328). -/
theorem readAll_unserved {a : Word} (ha : a.toNat < 0x40000000) (s : State) :
    readAll [(a, 1)] s = ([0xDEAD0000], bump cFryReadRefuse 0 s) := by
  have hdump : ¬(0x50000000 ≤ a.toNat ∧ a.toNat ≤ 0x5FFFFFFF) := by omega
  have hcontrol : inControl a.toNat = false := by
    rw [inControl, decide_eq_false_iff_not]
    omega
  have hread : windowRead .mgmtRead a.toNat s = (false, 0xDEAD0000, s) := by
    rw [windowRead, if_neg hdump, hcontrol]
    rfl
  simp [readAll, windowWords, hread]

/-! ### What has left stays sent -/

theorem mem_sent_mirror {o : Output} {s : State} (h : o ∈ s.sent) (b : Body) (a : Option Await) : o ∈ (mirror b a s).sent := by
  unfold mirror emit emitAs State.out
  dsimp only
  (repeat' split) <;> simp [h]

theorem mem_sent_ferryPacket {o : Output} {s : State} (h : o ∈ s.sent) (ty flags : Nat) (body : Octets) :
    o ∈ (ferryPacket ty flags body s).sent := by
  unfold ferryPacket
  dsimp only
  split
  · exact h
  · split
    · exact mem_sent_mirror (List.mem_cons_of_mem _ h) ..
    · exact List.mem_cons_of_mem _ h

/-- A packet moves the Ferry unit's numbers, and the ceiling that the active mirrors the pair's. -/
theorem ferryPacket_eq (ty flags : Nat) (body : Octets) (s : State) : ferryPacket ty flags body s = { s with
    fry := (ferryPacket ty flags body s).fry, pair := (ferryPacket ty flags body s).pair, sent := (ferryPacket ty flags body s).sent } := by
  unfold ferryPacket
  dsimp only
  split
  · rfl
  · split
    · rw [mirror_eq]
      rfl
    · rfl

/-! ### The answer (R325, R328) -/

section
variable {t : Time} {f : FerryFrame} {b : Octets} {s : State} (hrx : (ferryRx 6 f (s.arrive t)).1 = some b)
include hrx

theorem execFerryMgmtRead_answered {r : Word} {l : List (Word × Nat)} (hread : readsRead b = some (r, l)) :
    execFerryMgmtRead t f s = .next (settle (ferryPacket 6 2 (wordsOctets r (readAll l (frameHeard f (ferryRx 6 f (s.arrive t)).2)).1)
      ((readAll l (frameHeard f (ferryRx 6 f (s.arrive t)).2)).2.out
        (.mgmtRead r (readAll l (frameHeard f (ferryRx 6 f (s.arrive t)).2)).1)))) := by
  rw [execFerryMgmtRead, onInst_true]
  simp only [hrx, Option.map_some, hread]

theorem execFerryMgmtRead_unread (hread : readsRead b = none) :
    execFerryMgmtRead t f s = .next (settle (bump cFryBadFormat 0 (ferryRx 6 f (s.arrive t)).2)) := by
  rw [execFerryMgmtRead, onInst_true]
  simp only [hrx, Option.map_some, hread]

end

/-- A packet that is acted on and whose endpoint counts as heard moves the Ferry unit, and a changed path is an event (R321, R324). -/
theorem frameHeard_ferryRx {ty : Nat} {f : FerryFrame} {b : Octets} {s : State} (hrx : (ferryRx ty f s).1 = some b) :
    ∃ e p heard rx old regs evr free, frameHeard f (ferryRx ty f s).2 = { s with
      fry := { s.fry with
        endpoint := e, port := p, heard := heard, lastHeard := s.clock.now, peerLost := false, rx := rx, old := old }
      regs := regs, evr := evr, free := free } := by
  have hheard := frameHeard_eq f (ferryRx ty f s).2
  rw [ferryRx_some hrx] at hheard ⊢
  exact ⟨_, _, _, _, _, _, _, _, hheard⟩

/-- Settles O19: the answer carries what the window gave, and stands among what has left. -/
theorem managementReads : Obligations.ManagementReads := by
  unfold Obligations.ManagementReads
  refine ⟨?answered, ?unserved, ?unread⟩
  case answered =>
    intro t f b r l s hrx hread
    refine ⟨_, (exec_ferryMgmtRead ..).trans (execFerryMgmtRead_answered hrx hread), ?_, ?_, ?_⟩
    · rw [settle_sent, List.contains_iff_mem]
      exact mem_sent_ferryPacket (List.mem_cons_self ..) ..
    · exact length_readAll _ _
    · obtain ⟨e, p, heard, rx, old, regs, evr, free, hheard⟩ := frameHeard_ferryRx hrx
      have hwords := readAll_eq l (frameHeard f (ferryRx 6 f (s.arrive t)).2)
      generalize readAll l (frameHeard f (ferryRx 6 f (s.arrive t)).2) = w at hwords ⊢
      rw [ferryPacket_eq, hwords, hheard]
      simp
  case unserved =>
    intro t f b r a s hrx hread ha hsolo hsession
    have hexec := execFerryMgmtRead_answered hrx hread
    rw [readAll_unserved ha] at hexec
    obtain ⟨e, p, heard, rx, old, regs, evr, free, hheard⟩ := frameHeard_ferryRx hrx
    have hcount : (frameHeard f (ferryRx 6 f (s.arrive t)).2).count cFryReadRefuse 0 = s.count cFryReadRefuse 0 := by
      refine count_congr ((reg_frameHeard _ _ (by decide)).trans ?_)
      rw [ferryRx_some hrx]
      exact reg_arrive ..
    obtain ⟨c, hpacket⟩ := ferryPacket_open_solo
      (s := (bump cFryReadRefuse 0 (frameHeard f (ferryRx 6 f (s.arrive t)).2)).out (.mgmtRead r [0xDEAD0000]))
      (by simpa [hheard]) (by simpa [hheard]) 6 2 (wordsOctets r [0xDEAD0000])
    rw [hpacket] at hexec
    refine ⟨_, (exec_ferryMgmtRead ..).trans hexec, ?_, ?_, (settle_eq _).trans ?_⟩
    · simp [State.out, hheard, nextPacket]
    · rw [count_settle]
      refine (count_of_regs (s := bump cFryReadRefuse 0 (frameHeard f (ferryRx 6 f (s.arrive t)).2)) ?_ ..).trans
        (count_bump_congr hcount)
      simp [State.out]
    · rw [bump_eq, hheard]
      simp [State.out]
  case unread =>
    intro t f b s hrx hread
    refine ⟨_, (exec_ferryMgmtRead ..).trans (execFerryMgmtRead_unread hrx hread), ?_, ?_, (settle_eq _).trans ?_⟩
    · rw [count_settle, ferryRx_some hrx]
      exact count_bump_of_regs (arrive_regs s t) ..
    · rw [settle_sent, bump_sent, ferryRx_some hrx]
      exact arrive_sent s t
    · rw [bump_eq, ferryRx_some hrx]
      simp

end Sys2Proof.Machine

/-! PROOFS. The helm of a chip, which its clock, its freeze, its advertisements and its pair but for the record numbers make up: what the
operations of acceptance, of the downlink, of activations and of a lost partner leave of it, and what the release of the token makes of it
(R309, R367 to R381). -/

namespace Sys2Proof.Machine
open Sys2Proof Host

/-! ### The helm as a part of the state -/

/-- The pair without what a record that leaves and a commit that comes change. -/
def Pair.steady (p : Pair) : Pair := { p with mseqOut := 0, awaits := [] }

/-- Device time, whether the chip is frozen, the advertisements still to be sent, and the pair without its record numbers. -/
structure Helm where
  clock   : Clock
  frozen  : Bool
  adverts : Nat
  pair    : Pair

/-- The helm of a state. -/
def State.helm (s : State) : Helm := ⟨s.clock, s.hlt.frozen, s.fry.adverts, s.pair.steady⟩

/-- The token is given up: the line is released, if it was driven (R309). -/
def Helm.released (h : Helm) : Helm :=
  if h.pair.driving then { h with pair := { h.pair with driving := false, ownLow := false, lastChange := h.clock.now } } else h

/-- A FATAL has frozen the chip and taken its token (R480). -/
def Helm.dropped (h : Helm) : Helm := { h.released with frozen := true }

@[simp] theorem helm_mk regs' halves' latches' tables' mem' cfgErr' start' pins' clock' hlt' evr' fh' pool' chn' det' lane' txm' cal' timer' sch' key' flash' jrn' dl' fry' fwd' pair' upd' camps' prog' msys' before' straits' sent' free' pending' :
    (State.mk regs' halves' latches' tables' mem' cfgErr' start' pins' clock' hlt' evr' fh' pool' chn' det' lane' txm' cal' timer' sch' key' flash' jrn' dl' fry' fwd' pair' upd' camps' prog' msys' before' straits' sent' free' pending').helm =
      ⟨clock', hlt'.frozen, fry'.adverts, pair'.steady⟩ := by rw [State.helm]

@[simp] theorem helm_eta (s : State) : (⟨s.clock, s.hlt.frozen, s.fry.adverts, s.pair.steady⟩ : Helm) = s.helm := by rw [State.helm]

@[simp] theorem helm_ite (c : Prop) [Decidable c] (a b : State) : (if c then a else b).helm = if c then a.helm else b.helm :=
  apply_ite _ _ _ _

theorem helm_foldl {α : Type} (f : State → α → State) (h : ∀ s x, (f s x).helm = s.helm) (l : List α) (s : State) :
    (l.foldl f s).helm = s.helm := by
  induction l generalizing s with
  | nil => rfl
  | cons a r ih => rw [List.foldl_cons, ih, h]

@[simp] theorem bump_helm (c : Counter) (i : Nat) (s : State) : (bump c i s).helm = s.helm := by
  rw [bump_eq, helm_mk, helm_eta]

@[simp] theorem out_helm (s : State) (o : Output) : (s.out o).helm = s.helm := rfl

@[simp] theorem modDl_helm (d : Nat) (f : DlRec → DlRec) (s : State) : (modDl d f s).helm = s.helm := rfl

@[simp] theorem modEntry_helm (j : Nat) (f : Entry → Entry) (s : State) : (modEntry j f s).helm = s.helm := rfl

@[simp] theorem modCand_helm (g : Nat) (f : Cand → Cand) (s : State) : (modCand g f s).helm = s.helm := rfl

@[simp] theorem evrPush_helm (r : EvRecord) (s : State) : (evrPush r s).helm = s.helm := by rw [evrPush_eq]; rfl

@[simp] theorem occurs_helm (e : Nat) (s : State) : (occurs e s).helm = s.helm := by rw [occurs_eq]; rfl

@[simp] theorem mirror_helm (b : Body) (a : Option Await) (s : State) : (mirror b a s).helm = s.helm := by
  rw [mirror_eq, mirror_pair]
  rfl

@[simp] theorem refreshSource_helm (s : State) : (refreshSource s).helm = s.helm := by rw [refreshSource_eq]; rfl

/-! ### Entries and candidates (R299, R302, R308) -/

@[simp] theorem hit_helm (e : Eui) (s : State) : (hit e s).helm = s.helm := by rw [hit_eq]; rfl

@[simp] theorem raiseHwm_helm (e : Eui) (c : Nat) (d : Word) (s : State) : (raiseHwm e c d s).helm = s.helm := by rw [raiseHwm_eq]; rfl

@[simp] theorem framePlane_helm (f : FrameInfo) (s : State) : (framePlane f s).helm = s.helm := by rw [framePlane_eq]; rfl

@[simp] theorem dropAck_helm (g : Nat) (s : State) : (dropAck g s).helm = s.helm := by rw [dropAck_eq]; rfl

@[simp] theorem groupSettle_helm (g : Nat) (s : State) : (groupSettle g s).helm = s.helm := by rw [groupSettle_eq]; rfl

@[simp] theorem newcomerGone_helm (g : Nat) (s : State) : (newcomerGone g s).helm = s.helm := by rw [newcomerGone_eq]; rfl

@[simp] theorem candidateClose_helm (g : Nat) (s : State) : (candidateClose g s).helm = s.helm := by rw [candidateClose_eq]; rfl

@[simp] theorem dedupAdd_helm (h : EntryHdr) (s : State) : (dedupAdd h s).helm = s.helm := rfl

@[simp] theorem unbook_helm (b : Nat) (s : State) : (unbook b s).helm = s.helm := by rw [unbook_eq]; rfl

@[simp] theorem acceptEntry_helm (j : Nat) (s : State) : (acceptEntry j s).helm = s.helm := by
  unfold acceptEntry
  split
  · rfl
  · dsimp only
    split <;> simp

@[simp] theorem voidEntry_helm (j : Nat) (s : State) : (voidEntry j s).helm = s.helm := by
  unfold voidEntry
  split
  · rfl
  · dsimp only
    split <;> simp

@[simp] theorem duplicate_helm (g : Nat) (c : Cand) (f : FrameInfo) (e : Option Time) (s : State) :
    (duplicate g c f e s).helm = s.helm := by
  unfold duplicate
  dsimp only
  (repeat' split) <;> simp

@[simp] theorem matchCand_helm (g : Nat) (f : FrameInfo) (x : Entry) (s : State) : (matchCand g f x s).helm = s.helm := by
  unfold matchCand
  dsimp only
  split <;> simp

@[simp] theorem lastChecks_helm (g : Nat) (c : Cand) (f : FrameInfo) (s : State) : (lastChecks g c f s).helm = s.helm := by
  unfold lastChecks passCand
  dsimp only
  (repeat' split) <;> simp

@[simp] theorem runChecks_helm (g : Nat) (s : State) : (runChecks g s).helm = s.helm := by
  unfold runChecks
  (repeat' split) <;> simp

@[simp] theorem recheck_helm (e : Eui) (s : State) : (recheck e s).helm = s.helm := helm_foldl _ (fun _ _ => runChecks_helm _ _) _ _

@[simp] theorem decide'_helm (g j : Nat) (c : Cand) (s : State) : (decide' g j c s).helm = s.helm := by
  unfold decide'
  dsimp only
  split <;> simp

@[simp] theorem mirrorLate_helm (g j : Nat) (c : Cand) (s : State) : (mirrorLate g j c s).helm = s.helm := by
  unfold mirrorLate
  dsimp only
  split <;> simp

@[simp] theorem entryCommitted_helm (j : Nat) (s : State) : (entryCommitted j s).helm = s.helm := by
  unfold entryCommitted
  (repeat' split) <;> simp

@[simp] theorem soloCommits_helm (s : State) : (soloCommits s).helm = s.helm := by
  unfold soloCommits
  exact helm_foldl _ (fun _ _ => entryCommitted_helm _ _) _ s

@[simp] theorem bookNow_helm (q : TxReq) (s : State) : (bookNow q s).2.helm = s.helm := by
  obtain ⟨-, heq, -⟩ := bookNow_eq q s
  rw [heq]
  rfl

@[simp] theorem refund_helm (b : Booking) (s : State) : (refund b s).helm = s.helm := by rw [refund_eq]; rfl

@[simp] theorem backToWait_helm (u : TxUse) (s : State) : (backToWait u s).helm = s.helm := by
  unfold backToWait
  split <;> rfl

@[simp] theorem cancelTx_helm (b : Booking) (s : State) : (cancelTx b s).helm = s.helm := by
  rw [cancelTx, backToWait_helm, unbook_helm]

@[simp] theorem ackClip_helm (sm : Summary) (start : Time) (s : State) : (ackClip sm start s).helm = s.helm := by
  unfold ackClip toResync queueNotice
  dsimp only
  (repeat' split) <;> simp

theorem admitTx_helm {q : TxReq} {o : Option Nat} {s u : State} (h : admitTx q s = (o, u)) : u.helm = s.helm := by
  unfold admitTx at h
  split at h <;> obtain ⟨-, rfl⟩ := Prod.mk.inj h
  · next r _ => cases r <;> simp [countRefusal]
  · exact bookNow_helm ..

theorem bookAckAt_helm {g : Nat} {sm : Summary} {m : Nat × Time × Int} {o : Option AckTmpl} {s u : State}
    (h : bookAckAt g sm m s = (o, u)) : u.helm = s.helm := by
  unfold bookAckAt at h
  dsimp only at h
  repeat' split at h
  all_goals obtain ⟨-, rfl⟩ := Prod.mk.inj h
  · rfl
  · rfl
  · next hadmit => exact admitTx_helm hadmit
  · next hadmit => simp [admitTx_helm hadmit]

theorem bookAckAmong_helm {g : Nat} {sm : Summary} {l : List (Nat × Time × Int)} {o : Option AckTmpl} {s u : State}
    (h : bookAckAmong g sm s l = (o, u)) : u.helm = s.helm := by
  induction l generalizing s with
  | nil =>
    obtain ⟨-, rfl⟩ := Prod.mk.inj h
    simp
  | cons m r ih =>
    rw [bookAckAmong] at h
    split at h
    · next hat =>
      obtain ⟨-, rfl⟩ := Prod.mk.inj h
      simp [bookAckAt_helm hat]
    · next hat => rw [ih h, bookAckAt_helm hat]

theorem bookAck_helm {g : Nat} {x : Group} {sm : Summary} {o : Option AckTmpl} {s u : State}
    (h : bookAck g x sm s = (o, u)) : u.helm = s.helm := by
  unfold bookAck at h
  split at h
  · obtain ⟨-, rfl⟩ := Prod.mk.inj h
    simp
  · split at h
    · obtain ⟨-, rfl⟩ := Prod.mk.inj h
      simp
    · split at h
      · next hat =>
        obtain ⟨-, rfl⟩ := Prod.mk.inj h
        exact bookAckAt_helm hat
      · next hat => rw [bookAckAmong_helm h, bookAckAt_helm hat]

@[simp] theorem mirrorBook_helm (g : Nat) (a : AckTmpl) (s : State) : (mirrorBook g a s).helm = s.helm := by
  unfold mirrorBook
  split <;> simp

/-- An acknowledgement that is booked late goes to the slot scheduler's bookings, and the active mirrors its book (R251, R311). -/
@[simp] theorem candBook_helm (g : Nat) (x : Group) (sm : Summary) (s : State) : (candBook g x sm s).helm = s.helm := by
  unfold candBook
  split <;> next hbook => simp [← bookAck_helm hbook]

/-! ### Items of the downlink and of the vault (R287, R316, R317) -/

@[simp] theorem outcomeEntry_helm (r : DlRec) (o c : Nat) (s : State) : (outcomeEntry r o c s).helm = s.helm := by
  unfold outcomeEntry takeJsn
  exact mirror_helm ..

@[simp] theorem reportFlow_helm (it : DlItem) (s : State) : (reportFlow it s).helm = s.helm := by
  refine helm_foldl _ (fun s r => ?_) _ _
  unfold reportItem
  split <;> simp

@[simp] theorem endItem_helm (d : Nat) (e : Ending) (s : State) : (endItem d e s).helm = s.helm := by
  unfold endItem
  dsimp only
  (repeat' split) <;> simp

@[simp] theorem ferryPacket_helm (ty flags : Nat) (body : Octets) (s : State) : (ferryPacket ty flags body s).helm = s.helm := by
  unfold ferryPacket
  dsimp only
  (repeat' split) <;> simp

@[simp] theorem dlAdvance_helm (d : Nat) (s : State) : (dlAdvance d s).helm = s.helm := by
  unfold dlAdvance
  dsimp only
  (repeat' split) <;> simp

@[simp] theorem ownFlood_helm (d : Option Nat) (pan : BitVec 16) (ttl len : Nat) (s : State) : (ownFlood d pan ttl len s).helm = s.helm := by
  unfold ownFlood takeFloodId takeSequence queueFlood
  dsimp only
  rw [seenInsert_eq]
  split
  · exact mirror_helm ..
  · rfl

@[simp] theorem dlCommitted_helm (d : Nat) (s : State) : (dlCommitted d s).helm = s.helm := by
  unfold dlCommitted
  dsimp only
  (repeat' split) <;> simp

@[simp] theorem dlAccept_helm (it : DlItem) (s : State) : (dlAccept it s).helm = s.helm := by
  unfold dlAccept
  dsimp only
  (repeat' split) <;> simp

@[simp] theorem dlDrain_helm (n : Nat) (s : State) : (dlDrain n s).helm = s.helm := by
  induction n generalizing s with
  | zero => rfl
  | succ n ih =>
    unfold dlDrain
    (repeat' split) <;> simp [ih]

@[simp] theorem finish_helm (d : Nat) (e : Ending) (s : State) : (finish d e s).helm = s.helm := by
  unfold finish dlTaken
  dsimp only
  split <;> simp

@[simp] theorem keySettle_helm (d : Nat) (s : State) : (keySettle d s).helm = s.helm := by
  unfold keySettle
  repeat' split
  · rfl
  · exact finish_helm ..
  · rfl

/-! ### Activation, confirmation and what awaited a commit (R310, R378, R412, R414) -/

@[simp] theorem actTo_helm (n : Nat) (s : State) : (actTo n s).helm = s.helm := mirror_helm ..

@[simp] theorem actFail_helm (s : State) : (actFail s).helm = s.helm := by
  unfold actFail
  dsimp only
  split <;> simp

@[simp] theorem actDone_helm (s : State) : (actDone s).helm = s.helm := by
  unfold actDone
  dsimp only
  split <;> simp

@[simp] theorem actTaken_helm (planned : Bool) (s : State) : (actTaken planned s).helm = s.helm := by
  unfold actTaken
  (repeat' split) <;> simp

@[simp] theorem actPartnerLost_helm (s : State) : (actPartnerLost s).helm = s.helm := by
  unfold actPartnerLost
  (repeat' split) <;> simp

@[simp] theorem rollbackUp_helm (s : State) : (rollbackUp s).helm = s.helm := by
  unfold rollbackUp raiseRollback blowFuse
  (repeat' split) <;> rfl

@[simp] theorem confirmCommitted_helm (ok : Bool) (s : State) : (confirmCommitted ok s).helm = s.helm := by
  unfold confirmCommitted
  dsimp only
  split <;> simp

theorem settleAwait_helm {a : Await} (h : a ≠ .handover) (ok : Bool) (s : State) : (settleAwait a ok s).helm = s.helm := by
  cases a with
  | entry j => exact entryCommitted_helm ..
  | void j => rfl
  | dl d => exact dlCommitted_helm ..
  | key d =>
    cases ok with
    | true => exact keySettle_helm ..
    | false => rfl
  | camp c => rfl
  | confirm => exact confirmCommitted_helm ..
  | handover => exact absurd rfl h
  | activation => rfl
  | piece => rfl

/-! ### The release of the token, and the FATAL that takes it (R309, R455, R458, R480) -/

@[simp] theorem settleOwed_helm (t : Time) (s : State) : (settleOwed t s).helm = s.helm :=
  helm_foldl _ (fun _ _ => by split <;> simp) _ _

@[simp] theorem cutAll_helm (s : State) : (cutAll s).helm = s.helm := by
  unfold cutAll
  exact helm_foldl _ (fun _ _ => by simp [closeBooking]) _ s

@[simp] theorem shadowCands_helm (s : State) : (shadowCands s).helm = s.helm := by
  refine helm_foldl _ (fun s x => ?_) _ _
  dsimp only
  split
  · split <;> simp
  · rfl

theorem releaseToken_helm (why : ReleaseBy) (s : State) : (releaseToken why s).helm = s.helm.released := by
  unfold releaseToken Helm.released
  by_cases hdriving : s.pair.driving
  · rw [if_pos hdriving, if_pos (show s.helm.pair.driving = true from hdriving)]
    dsimp only
    rw [helm_ite, shadowCands_helm, ite_self, settleOwed_helm, cutAll_helm]
    rfl
  · rw [if_neg hdriving, if_neg (show ¬ s.helm.pair.driving = true from hdriving)]

theorem latchFatal_helm (c : FatalCause) (s : State) : (latchFatal c s).helm = s.helm := by
  unfold latchFatal
  split <;> rfl

/-- `u` stands at the helm of `s`, or a FATAL has taken it from there. -/
def heldOrDropped (s u : State) : Prop := u.helm = s.helm ∨ u.helm = s.helm.dropped

theorem raiseFatal_helm (c : FatalCause) (s : State) : heldOrDropped s (raiseFatal c s) := by
  unfold raiseFatal
  split
  · exact .inl (latchFatal_helm ..)
  · split
    · refine .inr ?_
      have h := releaseToken_helm .fatal (latchFatal c s)
      rw [latchFatal_helm] at h
      rw [Helm.dropped, ← h]
      rfl
    · exact .inl (latchFatal_helm ..)

theorem heldOrDropped_of {s u v : State} (h : heldOrDropped u v) (hu : u.helm = s.helm) : heldOrDropped s v := by
  unfold heldOrDropped at h ⊢
  rwa [← hu]

theorem heldOrDropped_ite {c : Prop} [Decidable c] {s u v : State} (hu : heldOrDropped s u) (hv : heldOrDropped s v) :
    heldOrDropped s (if c then u else v) := by
  split
  · exact hu
  · exact hv

theorem placeNew_helm (f : HFrame) (s : State) : heldOrDropped s (placeNew f s) := by
  unfold placeNew
  split
  · exact .inl rfl
  · split
    · split
      · exact .inl (bump_helm ..)
      · exact raiseFatal_helm ..
    · split
      · exact .inl rfl
      · exact raiseFatal_helm ..

theorem placeFrame_helm (unit code rank arg : Nat) (s : State) : heldOrDropped s (placeFrame unit code rank arg s) := by
  unfold placeFrame
  dsimp only
  split
  · exact .inl (bump_helm ..)
  · split
    · refine heldOrDropped_ite (heldOrDropped_of (placeNew_helm ..) ?_) (.inl (bump_helm ..))
      rw [helm_mk, helm_eta]
      exact bump_helm ..
    · exact placeNew_helm ..

@[simp] theorem errRecord_helm (kind unit code cls rank cnt a0 a1 : Nat) (s : State) :
    (errRecord kind unit code cls rank cnt a0 a1 s).helm = s.helm := evrPush_helm ..

theorem report_helm (r : Report) (s : State) : heldOrDropped s (report r s) := by
  have hs0 : (if r.degraded then { s with hlt := { s.hlt with degraded := true } } else s).helm = s.helm := by simp
  unfold report
  dsimp only
  generalize (if r.degraded then { s with hlt := { s.hlt with degraded := true } } else s) = s0 at hs0 ⊢
  split
  · refine heldOrDropped_ite (heldOrDropped_of (placeFrame_helm ..) ?_) (.inl hs0)
    rw [bump_helm, errRecord_helm]
    exact hs0
  · refine heldOrDropped_ite (.inl ((bump_helm ..).trans hs0)) (heldOrDropped_ite (heldOrDropped_of (placeFrame_helm ..) ?_) (.inl ?_))
    · exact (errRecord_helm ..).trans hs0
    · exact (errRecord_helm ..).trans hs0

theorem degraded_helm (block inst code rank : Nat) (s : State) : heldOrDropped s (degraded block inst code rank s) :=
  heldOrDropped_of (report_helm ..) (helm_mk ..)

/-! ### What a chip does that takes or loses its partner (R371, R372, R380, R386) -/

@[simp] theorem promote_helm (orphan : Bool) (g : Nat) (s : State) : (promote orphan g s).helm = s.helm := by
  unfold promote
  (repeat' split) <;> simp

@[simp] theorem bookShadow_helm (g : Nat) (c : Cand) (s : State) : (bookShadow g c s).helm = s.helm := by
  unfold bookShadow
  (repeat' split) <;> simp

@[simp] theorem goLive_helm (orphan : Bool) (s : State) : (goLive orphan s).helm = s.helm := by
  unfold goLive
  dsimp only
  rw [helm_foldl _ fun _ _ => by rw [promote_helm, bookShadow_helm], helm_foldl _ fun _ _ => bookShadow_helm ..]

@[simp] theorem resumeItems_helm (s : State) : (resumeItems s).helm = s.helm := by
  unfold resumeItems
  dsimp only
  rw [helm_foldl _ fun _ _ => by split <;> simp, helm_foldl _ fun _ _ => reportFlow_helm ..]

@[simp] theorem resumeCamps_helm (s : State) : (resumeCamps s).helm = s.helm := rfl

@[simp] theorem endHandover_helm (planned : Bool) (s : State) : (endHandover planned s).helm = s.helm :=
  helm_foldl _ (fun _ _ => endItem_helm ..) _ _

/-- A take settles the entries that the partner mirrored, and nothing at the helm (R371). -/
@[simp] theorem takeOwed_helm (ts ta : Time) (e : Entry) (s : State) : (takeOwed ts ta e s).helm = s.helm := by
  unfold takeOwed
  dsimp only
  split
  · simp
  · split
    · simp
    · split
      · split <;> simp
      · simp

@[simp] theorem settleTake_helm (s : State) : (settleTake s).helm = s.helm := by
  unfold settleTake
  dsimp only
  rw [helm_mk, helm_eta, helm_foldl _ fun _ _ => takeOwed_helm .., helm_foldl _ fun _ _ => acceptEntry_helm ..]

@[simp] theorem resumeCeilings_helm (s : State) : (resumeCeilings s).helm = s.helm := rfl

@[simp] theorem orphanJump_helm (s : State) : (orphanJump s).helm = s.helm := rfl

theorem raiseEpoch_helm (e : Nat) (s : State) : (raiseEpoch e s).helm =
    { s.helm with pair := { s.helm.pair with epoch := (raiseEpoch e s).pair.epoch } } := by
  rw [State.helm, raiseEpoch_pair, raiseEpoch_eq]
  rfl

theorem cancelHandover_helm (s : State) : (cancelHandover s).helm =
    { s.helm with pair := { s.helm.pair with handover := none } } := by
  unfold cancelHandover
  split
  · next hnone =>
    rw [State.helm, ← hnone]
    rfl
  · dsimp only
    split
    · exact endItem_helm ..
    · rfl

theorem beginPairing_helm (s : State) : (beginPairing s).helm =
    { s.helm with pair := { s.helm.pair with nextIn := 1, waiting := [], gapSince := none } } := by
  rw [State.helm, beginPairing_pair, beginPairing_eq]
  rfl

/-- What of the helm a lost partner leaves: the clock, the advertisements, and of the pair its state, the mark of an orphan take and the
time of the drive; and the line too, but where a FATAL freezes the chip (R380, R480). -/
structure Helm.Keeps (h k : Helm) : Prop where
  clock   : k.clock = h.clock
  adverts : k.adverts = h.adverts
  state   : k.pair.state = h.pair.state
  orphan  : k.pair.orphan = h.pair.orphan
  driveAt : k.pair.driveAt = h.pair.driveAt
  line    : k.frozen = false → h.frozen = false ∧ k.pair.driving = h.pair.driving ∧ k.pair.ownLow = h.pair.ownLow

theorem Helm.Keeps.refl (h : Helm) : h.Keeps h := ⟨rfl, rfl, rfl, rfl, rfl, fun hf => ⟨hf, rfl, rfl⟩⟩

theorem Helm.Keeps.trans {h k l : Helm} (a : h.Keeps k) (b : k.Keeps l) : h.Keeps l where
  clock := b.clock.trans a.clock
  adverts := b.adverts.trans a.adverts
  state := b.state.trans a.state
  orphan := b.orphan.trans a.orphan
  driveAt := b.driveAt.trans a.driveAt
  line hl := by
    obtain ⟨hk, hd, ho⟩ := b.line hl
    obtain ⟨hh, hd', ho'⟩ := a.line hk
    exact ⟨hh, hd.trans hd', ho.trans ho'⟩

theorem Helm.keeps_dropped (h : Helm) : h.Keeps h.dropped := by
  unfold dropped released
  split <;> exact ⟨rfl, rfl, rfl, rfl, rfl, fun hf => by cases hf⟩

theorem heldOrDropped.keeps {s u : State} (h : heldOrDropped s u) : s.helm.Keeps u.helm := by
  obtain h | h := h
  · rw [h]
    exact Helm.Keeps.refl _
  · rw [h]
    exact Helm.keeps_dropped _

/-- The chip without its partner's marks and key, before it reports the loss. -/
def partnerForgotten (s : State) : State :=
  { s with
    pair := { s.pair with
      partnerLost := true, paired := false, cutIn := false, phase := 0, phasesDone := [], awaits := [], giveUp := none, fitness := none }
    key := { s.key with pairKey := none } }

theorem losePartner_keeps (s : State) : s.helm.Keeps (losePartner s).helm := by
  have hlost : heldOrDropped (partnerForgotten s)
      (degraded 18 2 (eventCode ePairPartnerLost) 4 (occurs ePairPartnerLost (partnerForgotten s))) :=
    heldOrDropped_of (degraded_helm ..) (occurs_helm ..)
  unfold losePartner
  dsimp only
  rw [beginPairing_helm, actPartnerLost_helm, cancelHandover_helm, helm_foldl, soloCommits_helm]
  · obtain ⟨hclock, hadverts, hstate, horphan, hdrive, hline⟩ := hlost.keeps
    exact ⟨hclock, hadverts, hstate, horphan, hdrive, hline⟩
  · intro s x
    split
    · rfl
    · rfl
    · rfl
    · next h => exact settleAwait_helm h true s

end Sys2Proof.Machine

/-! PROOFS. What happens on the token line: the partner's line released, a tie, a fault of the own line and the end of a take (R309,
R369 to R371, R383, R387, R388, R396). -/

namespace Sys2Proof.Machine
open Sys2Proof Host

/-! ### The token given up -/

theorem Helm.released_driving (h : Helm) : h.released.pair.driving = false := by
  unfold released
  split
  · rfl
  · next hdriving => exact Bool.eq_false_iff.mpr hdriving

theorem Helm.released_ownLow {h : Helm} (hlow : h.pair.ownLow = false) : h.released.pair.ownLow = false := by
  unfold released
  split
  · rfl
  · exact hlow

theorem heldOrDropped.released_ownLow {s u : State} (h : heldOrDropped s u) (hlow : s.pair.ownLow = false) :
    u.helm.released.pair.ownLow = false := by
  obtain h | h := h <;> rw [h]
  · exact Helm.released_ownLow hlow
  · exact Helm.released_ownLow (h := s.helm.dropped) (Helm.released_ownLow hlow)

/-- The helm of a standby, that neither advertises nor has a handover before it. -/
def Helm.standby (h : Helm) : Helm :=
  { h with
    adverts := 0
    pair := { h.pair with
      state := .standby, handover := none, released := false, cutIn := false, giveUp := none, partnerLow := false, following := none } }

theorem becomeStandby_helm (s : State) : (becomeStandby s).helm = s.helm.standby := by
  unfold becomeStandby
  dsimp only
  rw [refreshSource_helm]
  generalize hstage : s.jrn.cands.foldl _ _ = s1
  have hs1 : s1.helm = { s.helm with pair := { s.helm.pair with state := .standby } } := by
    rw [← hstage, helm_foldl _ (fun s x => by split <;> simp)]
    rfl
  generalize hcancel : List.foldl _ s1 _ = s2
  have hs2 : s2.helm = s1.helm := by
    rw [← hcancel, helm_foldl _ fun _ _ => cancelTx_helm ..]
  show { s2.helm.standby with pair := { s2.helm.standby.pair with state := s2.helm.pair.state } } = s.helm.standby
  rw [hs2, hs1]
  rfl

theorem becomeStandby_mem (s : State) : (becomeStandby s).mem = s.mem := congrArg Anchor.mem (becomeStandby_anchor s)

theorem releaseToken_mem (why : ReleaseBy) (s : State) : (releaseToken why s).mem = s.mem := congrArg Anchor.mem (releaseToken_anchor why s)

section
variable {t : Time} {s : State}

/-! ### The partner's line is released (R309, R370, R387, R396) -/

/-- The pair of a standby that has seen the active's line released: it takes the token at `at`, with epoch `e`. -/
def Pair.taking (p : Pair) (now takeAt : Time) (e : Nat) (orphan : Bool) : Pair :=
  { p with
    partnerLow := false, partnerHighAt := now, state := .taking, sensed := some now, drained := 0, epoch := e
    orphanTake := orphan, takeAt := takeAt }

section
variable (hserve : s.inService = true)
include hserve

theorem execTokenPartnerReleased_standby (hstandby : s.pair.state = .standby) (hnone : s.pair.handover = none) :
    execTokenPartnerReleased t s = .next (settle { s.arrive t with
      pair := s.pair.taking (s.arrive t).clock.now ((s.arrive t).clock.now + ns 13880) (s.pair.epoch + 1) false }) := by
  rw [State.inService] at hserve
  rw [execTokenPartnerReleased, onInst_true]
  simp [State.inService, hserve, hstandby, hnone, Pair.taking]

theorem execTokenPartnerReleased_handover {h : Handover} (hstandby : s.pair.state = .standby) (hhand : s.pair.handover = some h)
    (hreleased : s.pair.released = true) :
    execTokenPartnerReleased t s = .next (settle { s.arrive t with
      pair := s.pair.taking (s.arrive t).clock.now ((s.arrive t).clock.now + us 1) (max h.epoch (s.pair.epoch + 1)) false }) := by
  rw [State.inService] at hserve
  rw [execTokenPartnerReleased, onInst_true]
  simp [State.inService, hserve, hstandby, hhand, hreleased, Pair.taking]

theorem execTokenPartnerReleased_orphan (hstate : s.pair.state = .resync ∨ s.pair.state = .detached) :
    execTokenPartnerReleased t s = .next (settle { s.arrive t with
      pair := s.pair.taking (s.arrive t).clock.now ((s.arrive t).clock.now + ns 13880) (max s.pair.epoch s.flash.epochCeiling + 1) true }) := by
  rw [State.inService] at hserve
  rw [execTokenPartnerReleased, onInst_true]
  obtain hstate | hstate := hstate <;> simp [State.inService, hserve, hstate, Pair.taking]

end

/-! ### A tie, and a fault of the own line (R369, R388, R455) -/

theorem execTokenTie_keeps (hdriving : s.pair.driving = true) (hpair : s.pair.state ≠ .solo) (hrole : s.start.pairRole = false) :
    execTokenTie t s = .next (settle { s.arrive t with pair := { s.pair with partnerLow := true } }) := by
  rw [execTokenTie, onInst_true]
  simp [State.solo, hdriving, hpair, hrole]

theorem execTokenTie_releases (hdriving : s.pair.driving = true) (hpair : s.pair.state ≠ .solo) (hrole : s.start.pairRole = true) :
    ∃ v : State, v.mem = s.mem ∧ execTokenTie t s = .next (settle (detach { becomeStandby (releaseToken .other v) with
      pair.partnerLow := true })) := by
  refine ⟨bump cPairTieRelease 0 { s.arrive t with pair := { s.pair with partnerLow := true } }, ?_, ?_⟩
  · rw [bump_eq, arrive_eq]
  · rw [execTokenTie, onInst_true]
    simp [State.solo, hdriving, hpair, hrole]

/-- The report of the fault may freeze the chip, which gives up the token as well (R480). -/
theorem execOwnLineFault_driving (hdriving : s.pair.driving = true) :
    ∃ v : State, v.mem = s.mem ∧ v.helm.released.pair.ownLow = false ∧
      execOwnLineFault t s = .next (settle (becomeStandby (releaseToken .other v))) := by
  let s0 : State := { s.arrive t with pair := { s.pair with ownLow := false } }
  have hfault : heldOrDropped s0 (degraded 18 2 (eventCode ePairTokenFault) 4 (occurs ePairTokenFault s0)) :=
    heldOrDropped_of (degraded_helm ..) (occurs_helm ..)
  refine ⟨_, ?_, hfault.released_ownLow rfl, ?_⟩
  · exact (congrArg Anchor.mem (degraded_anchor ..)).trans ((congrArg Anchor.mem (occurs_anchor ..)).trans (arrive_mem s t))
  · rw [execOwnLineFault, onInst_true]
    simp [hdriving, s0]

/-- A device that gives up its token to become a standby drives the line no more (R309). -/
theorem becomeStandby_releaseToken_helm (why : ReleaseBy) (s : State) :
    (becomeStandby (releaseToken why s)).helm = s.helm.released.standby := by
  rw [becomeStandby_helm, releaseToken_helm]

theorem becomeStandby_releaseToken_driving (why : ReleaseBy) (s : State) :
    (becomeStandby (releaseToken why s)).pair.driving = false :=
  (congrArg (·.pair.driving) (becomeStandby_releaseToken_helm why s)).trans (Helm.released_driving _)

theorem becomeStandby_releaseToken_ownLow (why : ReleaseBy) (s : State) :
    (becomeStandby (releaseToken why s)).pair.ownLow = s.helm.released.pair.ownLow :=
  congrArg (·.pair.ownLow) (becomeStandby_releaseToken_helm why s)

theorem becomeStandby_releaseToken_state (why : ReleaseBy) (s : State) :
    (becomeStandby (releaseToken why s)).pair.state = .standby :=
  congrArg (·.pair.state) (becomeStandby_releaseToken_helm why s)

theorem becomeStandby_releaseToken_mem (why : ReleaseBy) (s : State) : (becomeStandby (releaseToken why s)).mem = s.mem := by
  rw [becomeStandby_mem, releaseToken_mem]

/-! ### The end of a take (R370, R371) -/

theorem settleTake_mem (s : State) : (settleTake s).mem = s.mem := congrArg Anchor.mem (settleTake_anchor s)

section
variable (htaking : s.pair.state = .taking) (hdue : s.pair.takeAt ≤ (s.arrive t).clock.now) (hserve : s.inService = true)
include htaking hdue hserve

theorem execTakeTime_low : execTakeTime t true s =
    .next (settle (bump cPairTakeAbort 0 { detach (settleTake (s.arrive t)) with
      pair := { (detach (settleTake (s.arrive t))).pair with partnerLow := true } })) := by
  rw [State.inService] at hserve
  rw [execTakeTime, onInst_true]
  simp [State.inService, hserve, htaking, Nat.not_lt.mpr hdue]

theorem execTakeTime_high : execTakeTime t false s = .next (settle (takeLine (settleTake (s.arrive t)))) := by
  rw [State.inService] at hserve
  rw [execTakeTime, onInst_true]
  simp [State.inService, hserve, htaking, Nat.not_lt.mpr hdue]

end

/-- The line as an active drives it from now on, with the mark that an orphan take sets; a FATAL may have released it at once. -/
def Helm.drives (h k : Helm) : Prop :=
  k.clock = h.clock ∧ k.pair.state = .active ∧ k.pair.driveAt = h.clock.now ∧ k.pair.orphan = h.pair.orphanTake ∧
    (k.frozen = false → k.pair.driving = true ∧ k.pair.ownLow = true)

theorem Helm.drives.keeps {h k l : Helm} (hk : h.drives k) (hl : k.Keeps l) : h.drives l := by
  obtain ⟨hclock, hstate, hat, horphan, hline⟩ := hk
  refine ⟨hl.clock.trans hclock, hl.state.trans hstate, hl.driveAt.trans hat, hl.orphan.trans horphan, fun hf => ?_⟩
  obtain ⟨hfrozen, hdriving, hlow⟩ := hl.line hf
  obtain ⟨hd, ho⟩ := hline hfrozen
  exact ⟨hdriving.trans hd, hlow.trans ho⟩

/-- The first part of takeLine: the counters' jump or their ceilings, the line driven, and the take counted. -/
def lineDriven (s : State) : State :=
  let s1 := if s.pair.orphanTake then orphanJump s else resumeCeilings s
  let s2 := driveLine { s1 with
    pair.state := .active
    pair.sensed := none
    pair.drained := 0
    pair.orphan := s.pair.orphanTake
    pair.orphanTake := false
    pair.handover := none
    pair.released := false
    pair.awaits := []
    pair.cutIn := s.pair.paired && !s.pair.orphanTake
    pair.phase := 0
    pair.phasesDone := []
    pair.following := some (s.clock.now, (List.range 32).filter fun p => (s.port p).state == .up) }
  if s.pair.orphanTake then bump cPairOrphanTake 0 (occurs ePairOrphanTake s2) else bump cPairTakeover 0 s2

/-- The partner is given up by the taker that has none, or has not heard it for PARTNER_TIMEOUT. -/
def partnerChecked (s : State) : State :=
  if !s.pair.paired || decide (s.pair.lastGood + partnerTimeout s ≤ s.clock.now) then losePartner s else s

theorem takeLine_eq (s : State) : takeLine s =
    refreshSource (actTaken (s.pair.released && s.pair.handover.isSome) (endHandover (s.pair.released && s.pair.handover.isSome)
      (resumeCamps (resumeItems (goLive s.pair.orphanTake (serveActive
        (partnerChecked (raiseEpoch (lineDriven s).pair.epoch (lineDriven s))))))))) := rfl

theorem lineDriven_helm (s : State) : s.helm.drives (lineDriven s).helm := by
  unfold lineDriven
  dsimp only
  rw [helm_ite, bump_helm, bump_helm, occurs_helm, ite_self]
  unfold driveLine
  rw [out_helm, helm_mk]
  split <;> exact ⟨rfl, rfl, rfl, rfl, fun _ => ⟨rfl, rfl⟩⟩

theorem raiseEpoch_keeps (e : Nat) (s : State) : s.helm.Keeps (raiseEpoch e s).helm := by
  rw [raiseEpoch_helm]
  exact ⟨rfl, rfl, rfl, rfl, rfl, fun hf => ⟨hf, rfl, rfl⟩⟩

theorem partnerChecked_keeps (s : State) : s.helm.Keeps (partnerChecked s).helm := by
  unfold partnerChecked
  split
  · exact losePartner_keeps s
  · exact Helm.Keeps.refl _

theorem takeLine_helm (s : State) : s.helm.drives (takeLine s).helm ∧ (takeLine s).helm.adverts = 3 := by
  rw [takeLine_eq, refreshSource_helm, actTaken_helm, endHandover_helm, resumeCamps_helm, resumeItems_helm, goLive_helm]
  have hdrives := ((lineDriven_helm s).keeps (raiseEpoch_keeps (lineDriven s).pair.epoch _)).keeps (partnerChecked_keeps _)
  exact ⟨hdrives, rfl⟩

/-- What the end of a take makes of the line, of the pair's marks and of the advertisements. -/
theorem takeLine_settleTake (s : State) : ∀ u, u = takeLine (settleTake s) → u.pair.state = .active ∧
    (u.hlt.frozen = false → u.pair.driving = true ∧ u.pair.ownLow = true) ∧ u.pair.driveAt = u.clock.now ∧
    u.pair.orphan = s.pair.orphanTake ∧ u.fry.adverts = 3 := by
  intro u hu
  obtain ⟨hdrives, hadverts⟩ := takeLine_helm (settleTake s)
  rw [← hu, settleTake_helm] at hdrives
  rw [← hu] at hadverts
  obtain ⟨hclock, hstate, hat, horphan, hline⟩ := hdrives
  exact ⟨hstate, hline, hat.trans (congrArg Clock.now hclock).symm, horphan, hadverts⟩

theorem lineDriven_mem (s : State) : (lineDriven s).mem = s.mem := by
  refine congrArg Anchor.mem (?_ : (lineDriven s).anchor = s.anchor)
  unfold lineDriven
  dsimp only
  rw [anchor_ite, bump_anchor, bump_anchor, occurs_anchor, ite_self, driveLine_anchor]
  split <;> rfl

theorem partnerChecked_mem (s : State) : (partnerChecked s).mem = s.mem := by
  unfold partnerChecked
  split
  · exact losePartner_mem s
  · rfl

theorem takeLine_mem (s : State) : (takeLine s).mem = s.mem := by
  have hlast (planned : Bool) (v : State) : (refreshSource (actTaken planned (endHandover planned
      (resumeCamps (resumeItems (goLive s.pair.orphanTake (serveActive v))))))).anchor = v.anchor := by
    rw [refreshSource_anchor, actTaken_anchor, endHandover_anchor, resumeCamps_anchor, resumeItems_anchor, goLive_anchor,
      serveActive_anchor]
  rw [takeLine_eq]
  exact (congrArg Anchor.mem (hlast _ _)).trans ((partnerChecked_mem _).trans
    ((congrArg Anchor.mem (raiseEpoch_anchor _ _)).trans (lineDriven_mem s)))

end

/-! ### The obligation -/

/-- Settles O22, clause by clause: what the chip's line and its partner's do, and what a take leaves of the pair. -/
theorem tokenLine : Obligations.TokenLine := by
  unfold Obligations.TokenLine
  refine ⟨?released, ?handover, ?orphan, ?tieKeeps, ?tieReleases, ?fault, ?takeLow, ?takeHigh⟩
  case released =>
    intro t s hserve hstandby hnone
    refine ⟨_, execTokenPartnerReleased_standby hserve hstandby hnone, ?_⟩
    rw [settle_eq, arrive_eq]
    exact ⟨rfl, rfl, rfl, rfl, rfl, rfl, rfl⟩
  case handover =>
    intro t h s hserve hstandby hhand hreleased
    refine ⟨_, execTokenPartnerReleased_handover hserve hstandby hhand hreleased, ?_⟩
    rw [settle_eq, arrive_eq]
    exact ⟨rfl, rfl, rfl, rfl⟩
  case orphan =>
    intro t s hserve hstate
    refine ⟨_, execTokenPartnerReleased_orphan hserve hstate, ?_⟩
    rw [settle_eq, arrive_eq]
    exact ⟨rfl, rfl, rfl, rfl, rfl⟩
  case tieKeeps =>
    intro t s hdriving hpair hrole
    refine ⟨_, execTokenTie_keeps hdriving hpair hrole, ?_⟩
    rw [settle_eq, arrive_eq]
    exact ⟨rfl, hdriving, rfl⟩
  case tieReleases =>
    intro t s hdriving hpair hrole
    obtain ⟨v, hmem, hexec⟩ := execTokenTie_releases (t := t) hdriving hpair hrole
    refine ⟨_, hexec, ?_⟩
    rw [settle_eq]
    dsimp only
    rw [detach_pair, detach_mem]
    exact ⟨becomeStandby_releaseToken_driving .other v, rfl, rfl, rfl, (becomeStandby_releaseToken_mem ..).trans hmem⟩
  case fault =>
    intro t s hdriving
    obtain ⟨v, hmem, hlow, hexec⟩ := execOwnLineFault_driving (t := t) hdriving
    refine ⟨_, hexec, ?_⟩
    rw [settle_pair, settle_mem]
    exact ⟨becomeStandby_releaseToken_driving .other v, (becomeStandby_releaseToken_ownLow .other v).trans hlow,
      becomeStandby_releaseToken_state .other v, (becomeStandby_releaseToken_mem ..).trans hmem⟩
  case takeLow =>
    intro t s htaking hdue hserve
    refine ⟨_, execTakeTime_low htaking hdue hserve, ?_⟩
    rw [settle_eq, bump_eq]
    dsimp only
    rw [detach_pair, detach_mem, settleTake_mem]
    have hdriving : (settleTake (s.arrive t)).pair.driving = (s.arrive t).pair.driving :=
      congrArg (·.pair.driving) (settleTake_helm (s.arrive t))
    exact ⟨rfl, hdriving.trans (congrArg Pair.driving (arrive_pair ..)), rfl, arrive_mem ..⟩
  case takeHigh =>
    intro t s htaking hdue hserve
    obtain ⟨hstate, hline, hat, horphan, hadverts⟩ := takeLine_settleTake (s.arrive t) _ rfl
    have hmem : (takeLine (settleTake (s.arrive t))).mem = s.mem := by rw [takeLine_mem, settleTake_mem, arrive_mem]
    rw [arrive_pair] at horphan
    refine ⟨_, execTakeTime_high htaking hdue hserve, ?_⟩
    generalize takeLine (settleTake (s.arrive t)) = u at hstate hline hat horphan hadverts hmem
    rw [settle_pair, settle_mem, settle_hlt_frozen, settle_eq]
    exact ⟨hstate, hline, hat, horphan, hadverts, hmem⟩

end Sys2Proof.Machine

/-! PROOFS. Fitness, digests, the planned handover and the resynchronisation of a pair (R309, R390 to R393, R395, R396). -/

namespace Sys2Proof.Machine
open Sys2Proof Host

/-! ### What a later time leaves of the chip's fitness (R395) -/

theorem now_le_arrive (s : State) (t : Time) : s.clock.now ≤ (s.arrive t).clock.now := by
  unfold State.arrive
  split
  · exact Nat.le_max_left ..
  · exact Nat.le_refl _

@[simp] theorem ownDigest_arrive (s : State) (t : Time) : ownDigest (s.arrive t) = ownDigest s := by
  simp [ownDigest, rangeDigest, rangeNodes]

@[simp] theorem partnerStandby_arrive (s : State) (t : Time) : partnerStandby (s.arrive t) = partnerStandby s := by
  simp [partnerStandby]

/-- Time only takes endpoints away, and with them the path. -/
theorem ferryPath_arrive {s : State} {t : Time} (h : ferryPath s = false) : ferryPath (s.arrive t) = false := by
  have hheard (i : Nat) (hi : endpointHeard (s.arrive t) i = true) : endpointHeard s i = true := by
    unfold endpointHeard at hi ⊢
    obtain ⟨x, hx, hlast⟩ := List.any_eq_true.mp hi
    refine List.any_eq_true.mpr ⟨x, by simpa using hx, ?_⟩
    simp only [hbInterval_arrive, Bool.and_eq_true, decide_eq_true_eq] at hlast ⊢
    exact ⟨hlast.1, (now_le_arrive s t).trans hlast.2⟩
  rw [ferryPath, Bool.and_eq_false_iff] at h ⊢
  refine h.imp (fun hnone => ?_) (fun hdown => by simpa using hdown)
  rw [endpoints_arrive, List.any_eq_false]
  exact fun i hi hon => List.any_eq_false.mp hnone i hi (hheard i hon)

/-- What calls for a planned handover calls for it later too, with the same fitness heard. -/
theorem giveUpDue_arrive {s : State} {t : Time} (h : giveUpDue s = true) : giveUpDue (s.arrive t) = true := by
  unfold giveUpDue at h ⊢
  rw [arrive_pair]
  split at h
  · cases h
  · next f _ =>
    simp only [ownFitness, port_arrive, ferryPorts_arrive, arrive_fry, arrive_msys, arrive_flash, fld_arrive, Bool.or_eq_true,
      Bool.and_eq_true, Bool.not_eq_true'] at h ⊢
    exact h.imp (Or.imp (Or.imp (And.imp ferryPath_arrive id) id) id) id

/-! ### The handover begins (R309, R391) -/

theorem mirrors_of_partnerStandby {s : State} (h : partnerStandby s = true) : s.mirrors = true := by
  simp only [partnerStandby, Bool.and_eq_true] at h
  rw [State.mirrors, h.1.1.1, h.1.1.2, Bool.and_self]

theorem linked_of_mirrors {s : State} (h : s.mirrors = true) : s.linked = true := (Bool.and_eq_true_iff.mp h).2

theorem isthmusUp_congr {s u : State} (hstart : u.start = s.start) (hhlt : u.hlt = s.hlt) : u.isthmusUp = s.isthmusUp := by
  rw [State.isthmusUp, State.isthmusUp, State.islandUp, State.islandUp, hstart, hhlt]

theorem linked_congr {s u : State} (hpaired : u.pair.paired = s.pair.paired) (hup : u.isthmusUp = s.isthmusUp) : u.linked = s.linked := by
  rw [State.linked, State.linked, hpaired, hup]

theorem mirrors_congr {s u : State} (hpair : u.pair.state = s.pair.state ∧ u.pair.paired = s.pair.paired)
    (hup : u.isthmusUp = s.isthmusUp) : u.mirrors = s.mirrors := by
  rw [State.mirrors, State.mirrors, hpair.1, linked_congr hpair.2 hup]

theorem linked_arrive_pair {s : State} {t : Time} {p : Pair} (h : s.linked = true) (hp : p.paired = s.pair.paired) :
    ({ s.arrive t with pair := p } : State).linked = true := by
  rw [← h, ← linked_arrive s t]
  exact linked_congr (hp.trans (by rw [arrive_pair])) rfl

theorem mirrors_arrive_pair {s : State} {t : Time} {p : Pair} (hp : p.state = s.pair.state ∧ p.paired = s.pair.paired) :
    ({ s.arrive t with pair := p } : State).mirrors = s.mirrors := by
  rw [← mirrors_arrive s t]
  exact mirrors_congr (by rwa [arrive_pair]) rfl

/-- A record that the active mirrors takes the next number, and awaits its commit once the standby is cut in (R310). -/
theorem mirror_sends (body : Body) (await : Option Await) {s : State} (h : s.mirrors = true) : ∃ awaits, mirror body await s = { s with
    pair := { s.pair with mseqOut := s.pair.mseqOut + 1, awaits := awaits }
    sent := .record false (s.pair.cutIn && await.isSome) (s.pair.mseqOut + 1) s.pair.epoch body :: s.sent } := by
  rw [mirror, if_pos h, emit, emitAs, if_pos (linked_of_mirrors h)]
  cases s.pair.cutIn with
  | false => exact ⟨_, rfl⟩
  | true =>
    cases await with
    | none => exact ⟨_, rfl⟩
    | some a => exact ⟨_, rfl⟩

theorem mirror_none (body : Body) {s : State} (h : s.mirrors = true) : mirror body none s = { s with
    pair := { s.pair with mseqOut := s.pair.mseqOut + 1 }
    sent := .record false false (s.pair.mseqOut + 1) s.pair.epoch body :: s.sent } := by
  rw [mirror, if_pos h, ite_self, emit_linked (linked_of_mirrors h)]
  rfl

theorem mirror_silent (body : Body) (await : Option Await) {s : State} (h : ¬ s.mirrors = true) : mirror body await s = s := if_neg h

theorem startHandover_sends (dsn : Option Nat) {s : State} (h : s.mirrors = true) : ∃ th awaits, startHandover dsn s = { s with
    pair := { s.pair with
      handover := some ⟨th, s.pair.epoch + 1, dsn, true, false⟩, giveUp := none, mseqOut := s.pair.mseqOut + 1, awaits := awaits }
    sent := .record false s.pair.cutIn (s.pair.mseqOut + 1) s.pair.epoch (.handover th (s.pair.epoch + 1)) :: s.sent } := by
  unfold startHandover
  dsimp only
  generalize boundaryFrom s _ = th
  obtain ⟨awaits, hsends⟩ := mirror_sends (.handover th (s.pair.epoch + 1)) (some .handover) (s := { s with pair := { s.pair with
      handover := some ⟨th, s.pair.epoch + 1, dsn, true, false⟩, giveUp := none } }) ((mirrors_congr ⟨rfl, rfl⟩ rfl).trans h)
  refine ⟨th, awaits, hsends.trans ?_⟩
  rw [Option.isSome_some, Bool.and_true]

/-- The active announces its handover to the standby, at a slot boundary to come. -/
theorem startHandover_mirrors (dsn : Option Nat) {s : State} (h : s.mirrors = true) :
    (startHandover dsn s).pair.giveUp = none ∧
    (startHandover dsn s).pair.handover.map (fun h => (h.epoch, h.dsn, h.own, h.commit)) = some (s.pair.epoch + 1, dsn, true, false) ∧
    (startHandover dsn s).sent = .record false s.pair.cutIn (s.pair.mseqOut + 1) s.pair.epoch
      (.handover (((startHandover dsn s).pair.handover.map fun h => h.th).getD 0) (s.pair.epoch + 1)) :: s.sent := by
  obtain ⟨th, awaits, heq⟩ := startHandover_sends dsn h
  rw [heq]
  exact ⟨rfl, rfl, rfl⟩

theorem startHandover_eq (dsn : Option Nat) (s : State) : startHandover dsn s = { s with
    pair := (startHandover dsn s).pair, sent := (startHandover dsn s).sent } := by
  rw [startHandover]
  dsimp only
  rw [mirror_eq]

theorem startHandover_jrn (dsn : Option Nat) (s : State) : (startHandover dsn s).jrn = s.jrn := by rw [startHandover_eq]

theorem startHandover_mem (dsn : Option Nat) (s : State) : (startHandover dsn s).mem = s.mem := by rw [startHandover_eq]

theorem startHandover_count (dsn : Option Nat) (s : State) (c : Counter) (i : Nat) : (startHandover dsn s).count c i = s.count c i :=
  count_of_regs (by rw [startHandover_eq]) c i

section
variable {t : Time} {s : State}

/-! ### Fitness and digests (R390, R393, R395) -/

theorem refreshGiveUp_emit (b : Body) {v : State} (h : v.linked = true) : ∃ giveUp, refreshGiveUp (emit b none v) = { v with
    pair := { v.pair with mseqOut := v.pair.mseqOut + 1, giveUp := giveUp }
    sent := .record false false (v.pair.mseqOut + 1) v.pair.epoch b :: v.sent } := by
  rw [emit_linked h]
  exact ⟨_, rfl⟩

/-- FITNESS leaves, and with it the TIME that the active mirrors (R390, R395). -/
theorem execFitnessTx_due (hlinked : s.linked = true) (hdue : s.pair.fitnessAt + ms 1 ≤ (s.arrive t).clock.now) :
    ∃ giveUp, execFitnessTx t s = .next (settle (mirror (.time (s.arrive t).clock.now) none { s.arrive t with
      pair := { s.pair with fitnessAt := (s.arrive t).clock.now, mseqOut := s.pair.mseqOut + 1, giveUp := giveUp }
      sent := .record false false (s.pair.mseqOut + 1) s.pair.epoch (.fitness (ownFitness (s.arrive t))) :: s.sent })) := by
  obtain ⟨giveUp, hemit⟩ := refreshGiveUp_emit (.fitness (ownFitness (s.arrive t)))
    (v := { s.arrive t with pair := { s.pair with fitnessAt := (s.arrive t).clock.now } })
    (linked_arrive_pair hlinked rfl)
  rw [arrive_sent] at hemit
  refine ⟨giveUp, ?_⟩
  rw [execFitnessTx, onInst_true]
  simp only [linked_arrive, hlinked, arrive_pair, hdue, decide_true, Bool.and_self, if_true]
  rw [hemit]

theorem execDigestPeriodTick_due (hmirrors : s.mirrors = true) (hup : s.packetUp = true)
    (hdue : s.pair.digestAt + sec (s.fld rPairCtrl 8 8) ≤ (s.arrive t).clock.now) : execDigestPeriodTick t s =
    .next (settle { s.arrive t with
      pair := { s.pair with digestAt := (s.arrive t).clock.now, digest := ownDigest s, mseqOut := s.pair.mseqOut + 1 }
      sent := .record false false (s.pair.mseqOut + 1) s.pair.epoch (.digest (ownDigest s)) :: s.sent }) := by
  have hlinked := linked_of_mirrors hmirrors
  rw [execDigestPeriodTick, onInst_true]
  simp only [linked_arrive, hlinked, packetUp_arrive, hup, arrive_pair, fld_arrive, hdue, decide_true, Bool.and_self, if_true,
    ownDigest_arrive]
  rw [mirror_none]
  · dsimp only
    rw [arrive_sent]
  · exact (mirrors_arrive_pair ⟨rfl, rfl⟩).trans hmirrors

/-! ### The active gives up (R395, R396) -/

theorem execPairGiveUp_due {g : Time} (hgive : s.pair.giveUp = some g) (hon : s.fld rPairCtrl 22 1 = 1)
    (hstandby : partnerStandby s = true) (hnone : s.pair.handover = none) (hdue : giveUpDue s = true)
    (hwait : g + sec (s.fld rPairCtrl2 0 8) ≤ (s.arrive t).clock.now) (hlast : s.pair.lastChange + sec 600 ≤ (s.arrive t).clock.now) :
    ∃ v : State, v.mirrors = true ∧ v.pair = s.pair ∧ v.sent = s.sent ∧ v.jrn = s.jrn ∧ v.mem = s.mem ∧
      v.count cPairGiveUp 0 = min 0xFFFFFFFF (s.count cPairGiveUp 0 + 1) ∧
      execPairGiveUp t s = .next (settle (startHandover none v)) := by
  refine ⟨bump cPairGiveUp 0 (occurs ePairGiveUp (s.arrive t)), ?_, ?_, ?_, ?_, ?_, ?_, ?_⟩
  · rw [← mirrors_of_partnerStandby hstandby, ← mirrors_arrive s t]
    refine mirrors_congr (by rw [bump_pair, occurs_pair]; exact ⟨rfl, rfl⟩) (isthmusUp_congr ?_ ?_)
    · rw [bump_start, occurs_eq]
    · rw [bump_hlt, occurs_eq]
  · rw [bump_pair, occurs_pair, arrive_pair]
  · rw [bump_sent, occurs_eq]
    exact arrive_sent s t
  · rw [bump_jrn, occurs_eq]
    exact arrive_jrn s t
  · rw [bump_mem, occurs_eq]
    exact arrive_mem s t
  · exact count_bump_congr ((count_congr (reg_occurs _ _ (by decide))).trans (count_arrive ..))
  · rw [execPairGiveUp, onInst_true]
    simp [hgive, hon, hstandby, hnone, giveUpDue_arrive hdue, hwait, hlast]

/-! ### The phases of a resynchronisation (R392) -/

@[simp] theorem resyncing_arrive : resyncing (s.arrive t) = resyncing s := by simp [resyncing]

theorem execResyncPhaseDone_over {p : Nat} (hp : p = 1 ∨ p = 2 ∨ p = 6) (hresync : resyncing s = true)
    (hnew : s.pair.phasesDone.contains p = false) (hover : phaseOver (s.arrive t) p = true) :
    execResyncPhaseDone t p s = .next (settle { s.arrive t with
      pair := { s.pair with phasesDone := s.pair.phasesDone ++ [p], phase := nextPhase (s.pair.phasesDone ++ [p]) } }) := by
  have hrange : (decide (1 ≤ p) && decide (p ≤ 6)) = true := by simp; omega
  have hnot : p ≠ 5 ∧ p ≠ 4 ∧ p ≠ 3 := by omega
  obtain ⟨h5, h4, h3⟩ := hnot
  rw [execResyncPhaseDone, onInst_of_true hrange]
  simp only [resyncing_arrive, hresync, arrive_pair, hnew, hover, beq_false_of_ne h5, h4, h3, Bool.not_true, Bool.false_and, Bool.or_self,
    Bool.false_eq_true, if_false]

theorem execResyncPhaseDone_notOver {p : Nat} (hp : p = 3 ∨ p = 6) (hover : phaseOver (s.arrive t) p = false) :
    execResyncPhaseDone t p s = .next (settle (s.arrive t)) := by
  have hrange : (decide (1 ≤ p) && decide (p ≤ 6)) = true := by simp; omega
  rw [execResyncPhaseDone, onInst_of_true hrange]
  simp [hover]

theorem phaseOver_four (s : State) : phaseOver s 4 = true := by simp [phaseOver]

theorem execResyncPhaseDone_four (hresync : resyncing s = true) (hnew : s.pair.phasesDone.contains 4 = false) :
    execResyncPhaseDone t 4 s = .next (settle { s.arrive t with pair := { s.pair with
      phasesDone := s.pair.phasesDone ++ [4], phase := nextPhase (s.pair.phasesDone ++ [4]), progress := 100, cutIn := true } }) := by
  rw [execResyncPhaseDone, onInst_of_true (by decide)]
  simp only [resyncing_arrive, hresync, arrive_pair, hnew, phaseOver_four, Bool.not_true, Bool.or_self, Bool.false_eq_true, if_false, if_true,
    show ((4 : Nat) == 5) = false from rfl, Bool.false_and]

/-! ### The end of a resynchronisation, and one that is slow (R393) -/

theorem endResync_idle (hrecs : s.dl.recs = []) : endResync s = s := by
  rw [endResync, hrecs]
  rfl

theorem actPartnerUp_idle (hact : s.upd.actState = 0) : actPartnerUp s = s := by simp [actPartnerUp, hact]

section
variable (hpaired : s.pair.paired = true) (hphase : s.pair.phase ≠ 0) (hdone : ∀ p ∈ [1, 2, 3, 4, 5, 6], s.pair.phasesDone.contains p = true)
include hpaired hphase hdone

theorem execPairResync_standby (hstate : s.pair.state = .resync) :
    execPairResync t s = .next (settle (bump cPairResync 0 (refreshSource { s.arrive t with
      pair := { s.pair with state := .standby, phase := 0 }
      pins := { s.pins with ready := s.start.phase == .p9 } }))) := by
  have hresync : resyncing s = true := by simp [resyncing, hpaired, hphase, hstate]
  rw [execPairResync, onInst_true]
  simp only [resyncing_arrive, hresync, arrive_pair, List.all_eq_true.mpr hdone, hstate, Bool.not_true, Bool.or_self, Bool.false_eq_true,
    if_false, if_true, arrive_pins, arrive_start]

theorem execPairResync_active (hstate : s.pair.state = .active) (hact : s.upd.actState = 0) (hrecs : s.dl.recs = []) :
    execPairResync t s = .next (settle { s.arrive t with
      pair := { s.pair with phase := 0, partnerLost := false, absent := false } }) := by
  have hresync : resyncing s = true := by simp [resyncing, hpaired, hphase, hstate]
  rw [execPairResync, onInst_true]
  simp only [resyncing_arrive, hresync, arrive_pair, List.all_eq_true.mpr hdone, hstate, Bool.not_true, Bool.or_self, Bool.false_eq_true,
    if_false, reduceCtorEq]
  rw [endResync_idle (by simpa using hrecs), actPartnerUp_idle (by simpa using hact)]

end

theorem execPairResyncSlow_due (hstate : s.pair.state = .active) (hresync : resyncing s = true) (hslow : s.pair.slow = false)
    (hdue : s.pair.resyncAt + sec 60 ≤ (s.arrive t).clock.now) :
    execPairResyncSlow t s = .next (settle (occurs ePairResyncSlow { s.arrive t with pair := { s.pair with slow := true } })) := by
  rw [execPairResyncSlow, onInst_true]
  simp [hstate, hresync, hslow, hdue]

/-! ### The commands HANDOVER and RESYNC (R315, R396) -/

/-- A packet below the ceiling leaves in an open session, and no packet without one (R322). -/
theorem ferryPacket_sends (hbelow : s.fry.txNo + 1 < s.fry.txCeiling) (ty flags : Nat) (body : Octets) :
    ∃ fry, ferryPacket ty flags body s = { s with
      fry := fry
      sent := (if s.fry.session = 0 then [] else [nextPacket s.fry.endpoint s.fry.port ty flags body s]) ++ s.sent } := by
  by_cases hsession : s.fry.session = 0
  · rw [if_pos hsession, ferryPacket, if_pos hsession]
    exact ⟨_, rfl⟩
  · rw [if_neg hsession, ferryPacket_below hsession hbelow]
    exact ⟨_, rfl⟩

/-- A leading chip acknowledges the next item of its sequence, to an open session with a packet too (R316). -/
theorem dlTaken_below {d : Nat} (hleads : s.leads = true) (hd : s.dl.nextDsn = d) (hreorder : s.dl.reorder = [])
    (hbelow : s.fry.txNo + 1 < s.fry.txCeiling) : ∃ fry, dlTaken d s = { s with
      dl := { s.dl with nextDsn := d + 1 }, fry := fry
      sent := (if s.fry.session = 0 then [] else [nextPacket s.fry.endpoint s.fry.port 4 0 (natToOs 8 d) s]) ++ .dlAck d :: s.sent } := by
  obtain ⟨fry, hpacket⟩ := ferryPacket_sends (s := ({ s with dl := { s.dl with nextDsn := d + 1 } } : State).out (.dlAck d))
    hbelow 4 0 (natToOs 8 d)
  have hadvance : dlAdvance d s = { s with
      dl := { s.dl with nextDsn := d + 1 }, fry := fry
      sent := (if s.fry.session = 0 then [] else [nextPacket s.fry.endpoint s.fry.port 4 0 (natToOs 8 d) s]) ++ .dlAck d :: s.sent } := by
    rw [dlAdvance, if_pos hd]
    dsimp only
    exact (if_pos hleads).trans hpacket
  refine ⟨fry, ?_⟩
  rw [dlTaken, hadvance]
  simp [hreorder, dlDrain]

@[simp] theorem freshCommand_arrive (d c : Nat) : freshCommand (s.arrive t) d c = freshCommand s d c := by simp [freshCommand]

theorem leads_of_partnerStandby (h : partnerStandby s = true) : s.leads = true := by
  have hactive := (Bool.and_eq_true_iff.mp (mirrors_of_partnerStandby h)).1
  rw [State.leads, hactive, Bool.or_true]

/-- The active acknowledges the command HANDOVER and starts the handover, with nothing else changed. -/
theorem execHandover_starts {d : Nat} (hfresh : freshCommand s d 0x201 = true) (hnext : s.dl.nextDsn = d)
    (hstandby : partnerStandby s = true) (hnone : s.pair.handover = none) (hreorder : s.dl.reorder = [])
    (hbelow : s.fry.txNo + 1 < s.fry.txCeiling) : ∃ v : State, v.mirrors = true ∧ v.pair = s.pair ∧
      v.sent = (if s.fry.session = 0 then [] else [nextPacket s.fry.endpoint s.fry.port 4 0 (natToOs 8 d) s]) ++ .dlAck d :: s.sent ∧
      v = { s with clock := v.clock, dl := { s.dl with nextDsn := d + 1 }, fry := v.fry, sent := v.sent } ∧
      execHandover t d s = .next (settle (startHandover (some d) v)) := by
  have hleads := leads_of_partnerStandby hstandby
  obtain ⟨fry, htaken⟩ := dlTaken_below (s := s.arrive t) (d := d) (by rw [leads_arrive, hleads])
    (by rwa [arrive_dl]) (by rwa [arrive_dl]) (by rwa [arrive_fry])
  refine ⟨dlTaken d (s.arrive t), ?_, ?_, ?_, ?_, ?_⟩
  · rw [htaken, ← mirrors_of_partnerStandby hstandby, ← mirrors_arrive s t]
    rfl
  · rw [htaken]
    exact arrive_pair s t
  · rw [htaken]
    dsimp only
    rw [arrive_fry, arrive_sent, nextPacket_congr (s := s) (by rw [arrive_fry]) (by rw [arrive_fry]) (by rw [arrive_fry])]
  · rw [htaken, arrive_eq]
  · rw [execHandover, onInst_true]
    simp [hfresh, hstandby, hnone, hleads]

theorem execResync_standby {d : Nat} (hfresh : freshCommand s d 0x202 = true) (hstandby : s.pair.state = .standby) :
    execResync t d s = .next (settle (detach (dlTaken d (s.arrive t)))) := by
  rw [execResync, onInst_true]
  simp [hfresh, hstandby]

/-- A standby takes the item up in its sequence and does no more. -/
theorem dlTaken_standby (d : Nat) (hstandby : s.pair.state = .standby) : ∃ dl, dlTaken d s = { s with dl := dl } := by
  have hleads (v : State) (hv : v.pair = s.pair) : ¬ v.leads = true := by rw [State.leads, hv, hstandby]; decide
  obtain ⟨dl, hadvance⟩ : ∃ dl, dlAdvance d s = { s with dl := dl } := by
    unfold dlAdvance
    split
    · exact ⟨_, if_neg (hleads _ rfl)⟩
    · exact ⟨_, rfl⟩
  rw [dlTaken, hadvance]
  exact ⟨dl, if_neg (hleads _ rfl)⟩

/-! ### The old active hands its token over (R309) -/

@[simp] theorem shadowCands_standing (s : State) : (shadowCands s).standing = s.standing := by
  refine standing_foldl _ (fun s x => ?_) _ _
  dsimp only
  split
  · split <;> simp
  · rfl

@[simp] theorem cancelTx_standing (b : Booking) (s : State) : (cancelTx b s).standing = s.standing := by
  have hback (u : TxUse) (v : State) : (backToWait u v).standing = v.standing := by
    unfold backToWait
    split <;> rfl
  rw [cancelTx, hback, unbook_standing]

theorem releaseToken_upd (why : ReleaseBy) (s : State) : (releaseToken why s).upd = s.upd := by
  unfold releaseToken
  split
  · dsimp only
    show (State.standing (ite _ _ _)).upd = _
    rw [standing_ite, shadowCands_standing, ite_self, settleOwed_standing, cutAll_standing]
    rfl
  · rfl

theorem becomeStandby_upd (s : State) : (becomeStandby s).upd = s.upd := by
  unfold becomeStandby
  dsimp only
  rw [refreshSource_eq]
  show (State.standing (List.foldl _ _ _)).upd = _
  rw [standing_foldl _ fun _ _ => cancelTx_standing .., standing_foldl _ fun _ _ => by split <;> simp [modCand]]
  rfl

/-- The old active's RELEASED has left, its line is high, and READY stays (R309). -/
theorem execHandoverTime_due {h : Handover} (hhand : s.pair.handover = some h) (hown : h.own = true) (hcommit : h.commit = true)
    (hmirrors : s.mirrors = true) (hdue : h.th ≤ (s.arrive t).clock.now) (hact : s.upd.actState = 0) :
    ∃ v : State, v.mem = s.mem ∧ execHandoverTime t s = .next (settle (bump cPairHandover 0
      { becomeStandby (releaseToken .other v) with pins := { (becomeStandby (releaseToken .other v)).pins with ready := true } })) := by
  let v : State := { emit (.released s.pair.mseqOut) none (s.arrive t) with
    pair := { (emit (.released s.pair.mseqOut) none (s.arrive t)).pair with state := .standby } }
  have hlinked : (s.arrive t).linked = true := by rw [linked_arrive, linked_of_mirrors hmirrors]
  have hupd : v.upd = s.upd := by
    simp only [v, emit_linked hlinked]
    exact arrive_upd s t
  refine ⟨v, ?_, ?_⟩
  · simp only [v, emit_linked hlinked]
    exact arrive_mem s t
  · rw [execHandoverTime, onInst_true]
    simp only [arrive_pair, hhand, hown, hcommit, mirrors_arrive, hmirrors, Nat.not_lt.mpr hdue, Bool.and_self, Bool.not_true,
      decide_false, Bool.or_self, Bool.false_eq_true, if_false]
    rw [if_neg]
    rw [bump_eq]
    show (becomeStandby (releaseToken .other v)).upd.actState ≠ 3
    rw [becomeStandby_upd, releaseToken_upd, hupd, hact]
    decide

end

/-- Settles O25, clause by clause: records that leave, a handover that begins and ends, and the phases of a resynchronisation. -/
theorem handoverAndResync : Obligations.HandoverAndResync := by
  unfold Obligations.HandoverAndResync
  refine ⟨?fitness, ?digest, ?giveUp, ?phase, ?notOver, ?four, ?standby, ?active, ?slow, ?handover, ?resync, ?handoverTime⟩
  case fitness =>
    intro t s hpaired hup hdue
    have hlinked : s.linked = true := Bool.and_eq_true_iff.mpr ⟨hpaired, hup⟩
    obtain ⟨giveUp, hexec⟩ := execFitnessTx_due hlinked hdue
    refine ⟨_, hexec, ?_⟩
    by_cases hmirrors : s.mirrors = true
    · rw [mirror_none, settle_eq, arrive_eq, if_pos hmirrors, if_pos hmirrors]
      · exact ⟨rfl, rfl, rfl, rfl⟩
      · exact (mirrors_arrive_pair ⟨rfl, rfl⟩).trans hmirrors
    · rw [mirror_silent, settle_eq, arrive_eq, if_neg hmirrors, if_neg hmirrors]
      · exact ⟨rfl, rfl, rfl, rfl⟩
      · exact fun h => hmirrors ((mirrors_arrive_pair ⟨rfl, rfl⟩).symm.trans h)
  case digest =>
    intro t s hmirrors hup hdue
    refine ⟨_, execDigestPeriodTick_due hmirrors hup hdue, ?_⟩
    rw [settle_eq, arrive_eq]
    exact ⟨rfl, rfl⟩
  case giveUp =>
    intro t g s hgive hon hstandby hnone hdue hwait hlast
    obtain ⟨v, hcalls, hpair, hsent, hjrn, hmem, hcount, hexec⟩ := execPairGiveUp_due hgive hon hstandby hnone hdue hwait hlast
    obtain ⟨hclear, hstarts, hrecord⟩ := startHandover_mirrors none hcalls
    refine ⟨_, hexec, ?_⟩
    rw [settle_pair, settle_sent, settle_jrn, settle_mem, count_settle, startHandover_count, startHandover_jrn, startHandover_mem]
    rw [hpair, hsent] at hrecord
    rw [hpair] at hstarts
    exact ⟨hclear, hstarts, hrecord, hcount, hjrn, hmem⟩
  case phase =>
    intro t p s hp hresync hnew hover
    refine ⟨_, execResyncPhaseDone_over hp hresync hnew hover, ?_⟩
    rw [settle_eq, arrive_eq]
  case notOver =>
    intro t p s hp hover
    refine ⟨_, execResyncPhaseDone_notOver hp hover, ?_⟩
    rw [settle_eq, arrive_eq]
  case four =>
    intro t s hresync hnew
    refine ⟨_, execResyncPhaseDone_four hresync hnew, ?_⟩
    rw [settle_eq, arrive_eq]
  case standby =>
    intro t s hstate hpaired hphase hdone
    refine ⟨_, execPairResync_standby hpaired hphase hdone hstate, ?_⟩
    rw [settle_pair, settle_pins, settle_jrn, settle_mem, bump_pair, bump_pins, bump_jrn, bump_mem, refreshSource_eq]
    exact ⟨rfl, rfl, rfl, arrive_jrn s t, arrive_mem s t⟩
  case active =>
    intro t s hstate hpaired hphase hdone hact hrecs
    refine ⟨_, execPairResync_active hpaired hphase hdone hstate hact hrecs, ?_⟩
    rw [settle_eq, arrive_eq]
  case slow =>
    intro t s hstate hresync hslow hdue
    refine ⟨_, execPairResyncSlow_due hstate hresync hslow hdue, ?_⟩
    rw [settle_eq, occurs_eq, arrive_eq]
    exact ⟨rfl, rfl⟩
  case handover =>
    intro t d s hfresh hnext hstandby hnone hreorder hbelow
    obtain ⟨v, hcalls, hpair, hsent, hv, hexec⟩ := execHandover_starts (t := t) hfresh hnext hstandby hnone hreorder hbelow
    obtain ⟨-, hstarts, hrecord⟩ := startHandover_mirrors (some d) hcalls
    rw [hpair] at hstarts
    rw [hpair, hsent] at hrecord
    refine ⟨_, hexec, ?_, ?_, ?_, ?_⟩
    · rw [settle_dl, startHandover_eq, hv]
    · rw [settle_pair]
      exact hstarts
    · rw [settle_pair, settle_sent]
      exact hrecord
    · rw [settle_eq, startHandover_eq, hv]
  case resync =>
    intro t d s hfresh hstandby
    refine ⟨_, execResync_standby hfresh hstandby, ?_⟩
    obtain ⟨dl, htaken⟩ := dlTaken_standby (s := s.arrive t) d (by rwa [arrive_pair])
    rw [settle_pair, settle_jrn, settle_mem, detach_pair, detach_jrn, detach_mem, htaken]
    exact ⟨rfl, rfl, arrive_jrn s t, arrive_mem s t⟩
  case handoverTime =>
    intro t h s hhand hown hcommit hmirrors hdue hdriving hact
    obtain ⟨v, hmem, hexec⟩ := execHandoverTime_due hhand hown hcommit hmirrors hdue hact
    refine ⟨_, hexec, ?_⟩
    rw [settle_pair, settle_pins, settle_mem, bump_pair, bump_pins, bump_mem]
    exact ⟨becomeStandby_releaseToken_state .other v, becomeStandby_releaseToken_driving .other v, rfl,
      (becomeStandby_releaseToken_mem ..).trans hmem⟩

end Sys2Proof.Machine

/-! PROOFS. Downlink items as they come, and as they end (R315 to R319, R326, R477, R494). -/

namespace Sys2Proof.Machine
open Sys2Proof Host

/-! ### The downlink ring and its newest record -/

/-- The ring with one more record. -/
def listed (r : DlRec) (s : State) : State := { s with dl := { s.dl with recs := s.dl.recs ++ [r] } }

section
variable {s : State} {r : DlRec}

theorem dlOf_listed (hnew : dlOf s r.item.dsn = none) : dlOf (listed r s) r.item.dsn = some r := by
  rw [dlOf] at hnew
  rw [dlOf, listed, List.find?_append, hnew]
  simp

/-- A change to the newest record's item changes no other, since none has its DSN. -/
theorem modDl_listed (hnew : dlOf s r.item.dsn = none) (f : DlRec → DlRec) : modDl r.item.dsn f (listed r s) = listed (f r) s := by
  have hold : (s.dl.recs.map fun x => if x.item.dsn = r.item.dsn then f x else x) = s.dl.recs := by
    refine (List.map_congr_left fun x hx => ?_).trans (List.map_id _)
    exact if_neg (by simpa using List.find?_eq_none.mp hnew x hx)
  rw [modDl, listed]
  dsimp only
  rw [List.map_append, hold, List.map_singleton, if_pos rfl]
  rfl

theorem dlDrain_idle (hreorder : s.dl.reorder = []) (n : Nat) : dlDrain n s = s := by
  cases n with
  | zero => rfl
  | succ n => simp [dlDrain, hreorder]

end

section
variable {s : State} {it : DlItem}

/-! ### An item that a solo device takes up (R315, R316) -/

theorem commits_solo (hsolo : s.pair.state = .solo) : s.commits = false := by rw [State.commits, mirrors_solo hsolo, Bool.false_and]

theorem dlAccept_solo (hsolo : s.pair.state = .solo) (hroom : dlOpen s < 131072) :
    dlAccept it s = dlCommitted it.dsn (listed { item := it, since := s.clock.now, state := .committing 0 } s) := by
  have hcommits (recs : List DlRec) : ({ s with dl := { s.dl with recs := recs } } : State).commits = false := commits_solo hsolo
  rw [dlAccept, if_neg (Nat.not_le.mpr hroom), commits_solo hsolo]
  dsimp only
  rw [mirror_solo _ _ (by exact hsolo), if_neg Bool.false_ne_true]
  rfl

theorem dlCommitted_node {d : Nat} {r : DlRec} {x : List Byte} (hrec : dlOf s d = some r) (hform : r.item.formOk = true)
    (hbody : r.item.body = .node x) :
    dlCommitted d s = dlAdvance d (hit r.item.dest (modDl d (fun r => { r with state := .waiting }) s)) := by
  simp [dlCommitted, hrec, hform, hbody]

theorem dlCommitted_command {d c : Nat} {r : DlRec} {x : List Byte} (hrec : dlOf s d = some r) (hform : r.item.formOk = true)
    (hbody : r.item.body = .command c x) (hknown : knownCode c = true) :
    dlCommitted d s = modDl d (fun r => { r with state := .carrying }) s := by
  simp [dlCommitted, hrec, hform, hbody, hknown]

section
variable (hnew : dlOf s it.dsn = none) (hsolo : s.pair.state = .solo) (hroom : dlOpen s < 131072) (hform : it.formOk = true)
include hnew hsolo hroom hform

theorem dlAccept_node {x : List Byte} (hbody : it.body = .node x) : dlAccept it s =
    dlAdvance it.dsn (hit it.dest (listed { item := it, since := s.clock.now, state := .waiting } s)) := by
  let r : DlRec := { item := it, since := s.clock.now, state := .committing 0 }
  rw [dlAccept_solo hsolo hroom, dlCommitted_node (dlOf_listed (r := r) hnew) hform hbody, modDl_listed (r := r) hnew]

theorem dlAccept_command {c : Nat} {x : List Byte} (hbody : it.body = .command c x) (hknown : knownCode c = true) :
    dlAccept it s = listed { item := it, since := s.clock.now, state := .carrying } s := by
  let r : DlRec := { item := it, since := s.clock.now, state := .committing 0 }
  rw [dlAccept_solo hsolo hroom, dlCommitted_command (dlOf_listed (r := r) hnew) hform hbody hknown, modDl_listed (r := r) hnew]

end

/-- The item is acknowledged, to the open session with a packet (R316, R322). -/
theorem dlAdvance_sends {d : Nat} (hsolo : s.pair.state = .solo) (hsession : s.fry.session ≠ 0) (hnext : s.dl.nextDsn = d) :
    ∃ c, dlAdvance d s = { s with
      dl := { s.dl with nextDsn := d + 1 }, fry := { s.fry with txNo := s.fry.txNo + 1, txCeiling := c }
      sent := nextPacket s.fry.endpoint s.fry.port 4 0 (natToOs 8 d) s :: .dlAck d :: s.sent } := by
  obtain ⟨c, hpacket⟩ := ferryPacket_open_solo (s := ({ s with dl := { s.dl with nextDsn := d + 1 } } : State).out (.dlAck d))
    hsolo hsession 4 0 (natToOs 8 d)
  refine ⟨c, ?_⟩
  rw [dlAdvance, if_pos hnext]
  dsimp only
  rw [if_pos (by exact leads_solo hsolo), hpacket]
  rfl

/-! ### An item by its place in the sequence (R315) -/

theorem conflictCheck_unlisted (hnew : dlOf s it.dsn = none) : conflictCheck it s = s := by
  rw [conflictCheck, hnew]
  exact if_neg Bool.false_ne_true

section
variable (hsync : s.dl.sync = false)
include hsync

theorem dlItem_next (hnext : it.dsn = s.dl.nextDsn) (hnew : dlOf s it.dsn = none)
    (hwindow : dlWindow s ≠ 0) {v : State} (haccept : dlAccept it s = v) (hreorder : v.dl.reorder = []) : dlItem it s = v := by
  rw [dlItem]
  dsimp only
  rw [if_neg (Bool.eq_false_iff.mp hsync), if_neg (by omega), if_neg (by omega), if_pos hnext, hnew, haccept,
    if_neg (by simp), dlDrain_idle hreorder]

/-- The next item, for a node, waits for a transmission and is acknowledged (R315, R316). -/
theorem dlItem_node (hnext : it.dsn = s.dl.nextDsn) (hnew : dlOf s it.dsn = none) (hwindow : dlWindow s ≠ 0)
    (hsolo : s.pair.state = .solo) (hsession : s.fry.session ≠ 0) (hroom : dlOpen s < 131072) (hform : it.formOk = true)
    {x : List Byte} (hbody : it.body = .node x) (hreorder : s.dl.reorder = []) : ∃ c fwd, dlItem it s = { s with
      dl := { s.dl with nextDsn := it.dsn + 1, recs := s.dl.recs ++ [{ item := it, since := s.clock.now, state := .waiting }] }
      fwd := fwd, fry := { s.fry with txNo := s.fry.txNo + 1, txCeiling := c }
      sent := nextPacket s.fry.endpoint s.fry.port 4 0 (natToOs 8 it.dsn) s :: .dlAck it.dsn :: s.sent } := by
  have haccept := dlAccept_node hnew hsolo hroom hform hbody
  rw [hit_eq] at haccept
  obtain ⟨c, hsends⟩ := dlAdvance_sends (d := it.dsn)
    (s := { listed { item := it, since := s.clock.now, state := .waiting } s with
      fwd := (hit it.dest (listed { item := it, since := s.clock.now, state := .waiting } s)).fwd })
    hsolo hsession hnext.symm
  exact ⟨c, _, dlItem_next hsync hnext hnew hwindow (haccept.trans hsends) hreorder⟩

/-- An item that comes again is counted, and the latest acknowledgement repeated (R316). -/
theorem dlItem_again (hold : it.dsn < s.dl.nextDsn) (hnew : dlOf s it.dsn = none) (hsolo : s.pair.state = .solo)
    (hsession : s.fry.session ≠ 0) : ∃ c, dlItem it s = { s with
      regs := (bump cFryDlDup 0 s).regs, fry := { s.fry with txNo := s.fry.txNo + 1, txCeiling := c }
      sent := nextPacket s.fry.endpoint s.fry.port 4 0 (natToOs 8 (s.dl.nextDsn - 1)) s :: .dlAck (s.dl.nextDsn - 1) :: s.sent } := by
  have hbump := bump_eq cFryDlDup 0 s
  rw [dlItem]
  dsimp only
  rw [if_neg (Bool.eq_false_iff.mp hsync), if_pos hold]
  generalize bump cFryDlDup 0 s = v at hbump ⊢
  generalize v.regs = regs at hbump ⊢
  subst hbump
  obtain ⟨c, hpacket⟩ := ferryPacket_open_solo (s := ({ s with regs := regs } : State).out (.dlAck (s.dl.nextDsn - 1)))
    hsolo hsession 4 0 (natToOs 8 (s.dl.nextDsn - 1))
  refine ⟨c, ?_⟩
  rw [hpacket, conflictCheck_unlisted]
  · rfl
  · exact hnew

theorem dlItem_ahead (hahead : s.dl.nextDsn < it.dsn) (hinside : it.dsn < s.dl.nextDsn + dlWindow s)
    (hreorder : s.dl.reorder = []) : dlItem it s = { s with dl := { s.dl with reorder := [it] } } := by
  rw [dlItem]
  dsimp only
  rw [if_neg (Bool.eq_false_iff.mp hsync), if_neg (by omega), if_neg (by omega), if_neg (by omega), hreorder]
  exact if_neg Bool.false_ne_true

theorem dlItem_gap (hbeyond : s.dl.nextDsn + dlWindow s ≤ it.dsn) : dlItem it s = bump cFryDlGap 0 s := by
  rw [dlItem]
  dsimp only
  rw [if_neg (Bool.eq_false_iff.mp hsync), if_neg (by omega), if_pos hbeyond]

end

theorem kind_of_command {c : Nat} {x : List Byte} (h : it.body = .command c x) : it.kind = 3 := by
  unfold DlItem.body at h
  split at h
  · cases h
  · cases h
  · cases h
  · next hkind => exact hkind
  · cases h

end

/-! ### The packets that carry items (R325, R326) -/

section
variable {ty : Nat} {t : Time} {f : FerryFrame} {b : Octets} {it : DlItem} {s : State}

theorem reg_heard (hrx : (ferryRx ty f s).1 = some b) {a : Nat} (ha : a ≠ cEvrInputOvf.addr 0 ∧ a ≠ cEvrOverwrite.addr 0) :
    (frameHeard f (ferryRx ty f s).2).reg a = s.reg a := by
  rw [reg_frameHeard f _ ha, ferryRx_some hrx]
  rfl

theorem dlWindow_heard (hrx : (ferryRx ty f (s.arrive t)).1 = some b) :
    dlWindow (frameHeard f (ferryRx ty f (s.arrive t)).2) = s.fld rFryWindow 21 11 := by
  rw [dlWindow, ← fld_arrive s t, State.fld, State.fld, reg_heard hrx (by decide)]

theorem count_heard (hrx : (ferryRx ty f (s.arrive t)).1 = some b) {c : Counter}
    (hc : c.addr 0 ≠ cEvrInputOvf.addr 0 ∧ c.addr 0 ≠ cEvrOverwrite.addr 0) :
    (frameHeard f (ferryRx ty f (s.arrive t)).2).count c 0 = s.count c 0 := by
  rw [State.count, reg_heard hrx hc]
  exact count_arrive ..

/-- A valid packet has come: device time, Ferry's readings and an event of a changed path apart, the state is as before. -/
structure PacketHeard (t : Time) (s v : State) : Prop where
  clock   : v.clock = (s.arrive t).clock
  session : v.fry.session = s.fry.session
  txKey   : v.fry.txKey = s.fry.txKey
  txNo    : v.fry.txNo = s.fry.txNo
  frame   : v = { s with clock := v.clock, fry := v.fry, regs := v.regs, evr := v.evr, free := v.free }

theorem heard_frameHeard (hrx : (ferryRx ty f (s.arrive t)).1 = some b) : PacketHeard t s (frameHeard f (ferryRx ty f (s.arrive t)).2) := by
  obtain ⟨e, p, heard, rx, old, regs, evr, free, hv⟩ := frameHeard_ferryRx hrx
  rw [hv]
  refine ⟨rfl, ?_, ?_, ?_, ?_⟩
  · exact arrive_fry s t ▸ rfl
  · exact arrive_fry s t ▸ rfl
  · exact arrive_fry s t ▸ rfl
  · rw [arrive_eq]

section
variable {v : State} (h : PacketHeard t s v)
include h

theorem PacketHeard.dl : v.dl = s.dl := by rw [h.frame]

theorem PacketHeard.pair : v.pair = s.pair := by rw [h.frame]

theorem PacketHeard.sent : v.sent = s.sent := by rw [h.frame]

theorem dlOf_heard (d : Nat) : dlOf v d = dlOf s d := by rw [dlOf, dlOf, h.dl]

theorem dlOpen_heard : dlOpen v = dlOpen s := by rw [dlOpen, dlOpen, h.dl]

theorem nextPacket_heard (e p ty flags : Nat) (body : Octets) : nextPacket e p ty flags body v = nextPacket e p ty flags body s :=
  nextPacket_congr h.txKey h.session h.txNo ..

end

theorem execFerryDownlink_item (hrx : (ferryRx 3 f (s.arrive t)).1 = some b) (hitems : itemsRead b = some [it]) :
    execFerryDownlink t f s = .next (settle (dlItem it (frameHeard f (ferryRx 3 f (s.arrive t)).2))) := by
  rw [execFerryDownlink, onInst_true]
  dsimp only
  rw [hrx]
  dsimp only
  rw [hitems]
  rfl

section
variable (hrx : (ferryRx 7 f (s.arrive t)).1 = some b) (hitems : itemsRead b = some [it])
include hrx hitems

theorem execFerryMgmtCmd_item (hkind : it.kind = 3) :
    execFerryMgmtCmd t f s = .next (settle (dlItem it (frameHeard f (ferryRx 7 f (s.arrive t)).2))) := by
  rw [execFerryMgmtCmd, onInst_true]
  simp [hrx, hitems, hkind, Option.filter_some]

theorem execFerryMgmtCmd_misfit (hkind : it.kind ≠ 3) :
    execFerryMgmtCmd t f s = .next (settle (bump cFryBadFormat 0 (ferryRx 7 f (s.arrive t)).2)) := by
  rw [execFerryMgmtCmd, onInst_true]
  simp [hrx, hitems, hkind, Option.filter_some]

end

end

/-! ### The end of the only item (R316, R317) -/

section
variable {d : Nat} {r : DlRec} {s : State} (hsolo : s.pair.state = .solo) (hrecs : s.dl.recs = [r]) (hdsn : r.item.dsn = d)
  (hopen : r.state ≠ .ended) (hundone : r.done = none)
include hsolo hrecs hdsn hopen hundone

/-- The outcome of the only item is found, and reports at once. -/
theorem endItem_alone (e : Ending) : endItem d e s =
    outcomeEntry { r with done := some (e.outcome, e.cause) } e.outcome e.cause
      { s with dl := { s.dl with recs := [{ r with done := some (e.outcome, e.cause), state := .ended }] } } := by
  have hdl : dlOf s d = some r := by simp [dlOf, hrecs, hdsn]
  simp [endItem, hdl, hopen, hundone, leads_solo, modDl, hsolo, reportFlow, hrecs, hdsn, sameFlow, reportable, reportItem]

theorem endItem_alone_eq (e : Ending) : endItem d e s = { s with
    dl := { s.dl with recs := [{ r with done := some (e.outcome, e.cause), state := .ended }] }
    jrn := (endItem d e s).jrn, flash := (endItem d e s).flash } := by
  rw [endItem_alone hsolo hrecs hdsn hopen hundone, outcomeEntry_solo _ _ _ (by exact hsolo)]

theorem outcomes_endItem_alone (e : Ending) : outcomes (endItem d e s) = outcomes s ++ [(3, d, e.outcome, e.cause)] := by
  rw [endItem_alone hsolo hrecs hdsn hopen hundone, outcomes_outcomeEntry _ _ _ (by exact hsolo), hdsn]
  rfl

/-- The end of the only item moves the downlink, the journal with its ceiling, and Ferry: the sequence goes on behind it if it is the next. -/
theorem finish_alone (hreorder : s.dl.reorder = []) (e : Ending) : outcomes (finish d e s) = outcomes s ++ [(3, d, e.outcome, e.cause)] ∧
    finish d e s = { s with
      dl := (finish d e s).dl, jrn := (finish d e s).jrn, flash := (finish d e s).flash
      fry := (finish d e s).fry, sent := (finish d e s).sent } := by
  have heq := endItem_alone_eq hsolo hrecs hdsn hopen hundone e
  have hout := outcomes_endItem_alone hsolo hrecs hdsn hopen hundone e
  by_cases hnext : s.dl.nextDsn = d
  · have htaken := dlTaken_solo (d := d) (s := endItem d e s) (by rw [heq]; exact hsolo) (by rw [heq]; exact hnext)
      (by rw [heq]; exact hreorder)
    rw [finish, htaken]
    exact ⟨hout, by rw [heq]⟩
  · rw [finish, dlTaken_idle (by rw [heq]; exact hnext) (by rw [heq]; exact hreorder)]
    exact ⟨hout, by rw [heq]⟩

end

theorem event_eq (e a0 a1 : Nat) (s : State) : event e a0 a1 s = { s with regs := (event e a0 a1 s).regs, evr := (event e a0 a1 s).evr } :=
  evrPush_eq ..

/-! ### What ends an item (R317, R319) -/

section
variable {t : Time} {d : Nat} {r : DlRec} {s : State} (hrecs : s.dl.recs = [r])
include hrecs

theorem execDlItemExpiry_noKey {x : List Byte} (hdsn : r.item.dsn = d) (hbody : r.item.body = .node x) (hwaiting : r.state = .waiting)
    (hundone : r.done = none) (hleads : s.leads = true) (hup : s.slotUp = true)
    (hdue : r.since + sec r.item.expiry ≤ (s.arrive t).clock.now) (hnode : s.nodeOf r.item.dest = none) :
    execDlItemExpiry t d s = .next (settle (endItem d .noKey { s.arrive t with
      fwd := { s.fwd with floods := s.fwd.floods.filter fun f => f.dsn != some d } })) := by
  have hrec : dlOf (s.arrive t) d = some r := by simp [dlOf, hrecs, hdsn]
  have hgone : (s.arrive t).nodeOf r.item.dest = none := (nodeOf_arrive ..).trans hnode
  rw [execDlItemExpiry, onInst_true]
  simp [hrec, hbody, hwaiting, hundone, hleads, hup, Nat.not_lt.mpr hdue, expiryCause, hgone]

theorem execNodeEnhancedAck_begun {x air : Time} {nack : Bool} {l : List Byte} (hbody : r.item.body = .node l) (hundone : r.done = none)
    (hbegun : r.state = .begun x) (hearly : x ≤ air + us (g0 s)) (hlate : air ≤ x + us (g0 s)) (hup : s.slotUp = true) :
    execNodeEnhancedAck t r.item.dest true nack air s =
      .next (settle (endItem r.item.dsn (if nack then .nodeNack else .acked) (s.arrive t))) := by
  have hg : g0 (s.arrive t) = g0 s := fld_arrive ..
  rw [execNodeEnhancedAck, onInst_true]
  simp [hrecs, hbody, hundone, hbegun, hg, hearly, hlate, hup]

end

theorem execNodeEnhancedAck_unmatched {t air : Time} {e : Eui} {nack : Bool} {s : State} (hrecs : s.dl.recs = []) (hup : s.slotUp = true) :
    execNodeEnhancedAck t e true nack air s = .next (settle (bump cJrnAckUnmatched 0 (s.arrive t))) := by
  rw [execNodeEnhancedAck, onInst_true]
  simp [hrecs, hup]

/-! ### The commands on the device's own records (R326, R477, R494) -/

section
variable {t : Time} {d : Nat} {r : DlRec} {s : State}

theorem carries_alone {c : Nat} (hcarries : s.carries d c = true) (hrecs : s.dl.recs = [r]) (hdsn : r.item.dsn = d) :
    r.state ≠ .ended ∧ r.done = none := by
  have hrec : dlOf s d = some r := by simp [dlOf, hrecs, hdsn]
  simp only [State.carries, hrec, Bool.and_eq_true, beq_iff_eq, Option.isNone_iff_eq_none] at hcarries
  obtain ⟨-, ⟨hcarrying, hundone⟩, -⟩ := hcarries
  exact ⟨by rw [hcarrying]; decide, hundone⟩

theorem carries_of_argsOf {c : Nat} {a : List Byte} (h : s.argsOf d c = some a) : s.carries d c = true := by
  rw [State.argsOf] at h
  split at h
  · next hcarries => exact hcarries
  · cases h

/-- The command was carried out, and the only item ends with the outcome ACKED. -/
theorem finish_carried {c : Nat} {v : State} (hcarries : s.carries d c = true) (hrecs : s.dl.recs = [r]) (hdsn : r.item.dsn = d)
    (hsolo : s.pair.state = .solo) (hreorder : s.dl.reorder = []) (hpair : v.pair = s.pair) (hdl : v.dl = s.dl) (hjrn : v.jrn = s.jrn) :
    outcomes (settle (finish d .acked v)) = outcomes s ++ [(3, d, 1, 0)] ∧ finish d .acked v = { v with
      dl := (finish d .acked v).dl, jrn := (finish d .acked v).jrn, flash := (finish d .acked v).flash
      fry := (finish d .acked v).fry, sent := (finish d .acked v).sent } := by
  obtain ⟨hopen, hundone⟩ := carries_alone hcarries hrecs hdsn
  obtain ⟨hout, hfin⟩ := finish_alone (s := v) (by rwa [hpair]) (by rwa [hdl]) hdsn hopen hundone (by rwa [hdl]) .acked
  exact ⟨by rw [outcomes_congr (settle_jrn _), hout, outcomes_congr hjrn]; rfl, hfin⟩

/-! ### The counters of a block read 0 (R494) -/

theorem sget_filter_off {α : Type} (f : Nat → α) (m : List (Nat × α)) {p : Nat → Bool} {k : Nat} (hk : p k = true) :
    sget f (m.filter fun x => !p x.1) k = f k := by
  induction m with
  | nil => rfl
  | cons x m ih =>
    obtain ⟨j, v⟩ := x
    by_cases hj : p j = true
    · simpa [List.filter_cons, hj] using ih
    · have hne : j ≠ k := fun h => hj (h ▸ hk)
      simpa [List.filter_cons, hj, sget, hne] using ih

theorem isCounterOf_addr {c : Counter} (hc : c ∈ counters) {i : Nat} (hi : i < c.cnt) : isCounterOf (some c.block) (c.addr i) = true := by
  refine List.any_eq_true.mpr ⟨c, hc, ?_⟩
  have hrange : c.addr 0 ≤ c.addr i ∧ c.addr i < c.addr c.cnt := by simp only [Counter.addr]; omega
  have hstep : (c.addr i - c.addr 0) % 0x400 = 0 := by simp only [Counter.addr]; omega
  simp [hrange, hstep]

/-- The recorder's own two counters stand in block 23. -/
theorem recorderCounters_apart : (counters.all fun c => c.block == 23 || (List.range c.cnt).all fun i =>
    c.addr i != cEvrInputOvf.addr 0 && c.addr i != cEvrOverwrite.addr 0) = true := by
  decide +kernel

/-- CLEAR_COUNTERS leaves 0 in each counter of the block, and its own event counts in block 23 alone. -/
theorem count_cleared {b : Nat} (hb : b ≠ 23) {e a0 a1 : Nat} {v : State} (hregs : v.regs = s.regs.filter fun x => !isCounterOf (some b) x.1) :
    (counters.all fun c => c.block != b || (List.range c.cnt).all fun i => (event e a0 a1 v).count c i == 0) = true := by
  refine List.all_eq_true.mpr fun c hc => ?_
  rw [Bool.or_eq_true, bne_iff_ne, or_iff_not_imp_left, not_ne_iff]
  rintro rfl
  refine List.all_eq_true.mpr fun i hi => ?_
  have hi' := List.mem_range.mp hi
  have hapart : c.addr i ≠ cEvrInputOvf.addr 0 ∧ c.addr i ≠ cEvrOverwrite.addr 0 := by
    have hall := List.all_eq_true.mp recorderCounters_apart c hc
    rw [beq_false_of_ne hb, Bool.false_or] at hall
    simpa using List.all_eq_true.mp hall i hi
  rw [beq_iff_eq, State.count, reg_event _ _ _ _ hapart, State.reg, hregs, sget_filter_off _ _ (isCounterOf_addr hc hi'),
    regReset_of_no_card (cardOf_counter hc hi')]
  rfl

/-- With room in the input FIFO the recorder takes the record, and no counter moves (R474). -/
theorem evrPush_room {e : EvRecord} (hroom : fifoNow s < 64) (hspace : s.evr.records = []) : evrPush e s = { s with evr := { s.evr with
    fifo := fifoNow s + 1, fifoTime := s.clock.now, head := s.evr.head + 1
    records := [{ e with seq := s.evr.head, time := s.clock.now }] } } := by
  rw [evrPush, if_neg (Nat.not_le.mpr hroom)]
  dsimp only
  rw [hspace]
  rfl

theorem execClearCounters_block {b : Nat} {a : List Byte} (hargs : s.argsOf d 2 = some a)
    (hblock : blockArg (octetAt a 0) = some (some b)) (hb : b ≠ 23) : ∃ v : State,
      v = { s with clock := v.clock, regs := v.regs, evr := v.evr } ∧
      (counters.all fun c => c.block != b || (List.range c.cnt).all fun i => v.count c i == 0) = true ∧
      execClearCounters t d s = .next (settle (finish d .acked v)) := by
  refine ⟨event eGlbCountersCleared (octetAt a 0) d { s.arrive t with regs := s.regs.filter fun x => !isCounterOf (some b) x.1 },
    ?_, count_cleared hb rfl, ?_⟩
  · rw [event_eq, arrive_eq]
  · rw [execClearCounters, onInst_true]
    simp [argsOf_arrive, hargs, hblock]

theorem execClearSticky_quays {a : List Byte} (hargs : s.argsOf d 3 = some a) (hblock : octetAt a 0 = 21) : ∃ v : State,
    v = { s with clock := v.clock, regs := v.regs, evr := v.evr, msys := { s.msys with
      quays := s.msys.quays.map fun x => (x.1, { x.2 with wm := { x.2.wm with crossed := false, count := 0 } }) } } ∧
    execClearSticky t d s = .next (settle (finish d .acked v)) := by
  refine ⟨event eGlbStickyCleared 21 d (stickyCleared 21 (s.arrive t)), ?_, ?_⟩
  · rw [event_eq, stickyCleared, if_pos rfl, arrive_eq]
    rfl
  · rw [execClearSticky, onInst_true]
    simp [argsOf_arrive, hargs, hblock, blockArg]

theorem execEventClear_carried (hcarries : s.carries d 4 = true) (hroom : fifoNow (s.arrive t) < 64) : ∃ v : State,
    v = { s with clock := v.clock, evr := v.evr } ∧ v.evr.oldest = s.evr.head ∧
    v.evr.records.map (fun e => (e.kind, e.count, e.arg0, e.arg1, e.seq)) =
      [(5, s.evr.records.length, d % 2 ^ 32, d / 2 ^ 32 % 2 ^ 32, s.evr.head)] ∧
    execEventClear t d s = .next (settle (finish d .acked v)) := by
  refine ⟨evrPush { EvRecord.blank with kind := 5, count := s.evr.records.length, arg0 := d % 2 ^ 32, arg1 := d / 2 ^ 32 % 2 ^ 32 }
    { s.arrive t with evr := { s.evr with records := [], oldest := s.evr.head } }, ?_, ?_, ?_, ?_⟩
  · rw [evrPush_room (by simpa [fifoNow] using hroom) rfl, arrive_eq]
  · rw [evrPush_room (by simpa [fifoNow] using hroom) rfl]
  · rw [evrPush_room (by simpa [fifoNow] using hroom) rfl]
    rfl
  · rw [execEventClear, onInst_true]
    simp [hcarries]

end

/-- Settles O17, clause by clause: an item by its place in the sequence, and the outcome of one that ends. -/
theorem downlinkItems : Obligations.DownlinkItems := by
  unfold Obligations.DownlinkItems
  refine ⟨?next, ?again, ?ahead, ?gap, ?command, ?misfit, ?expiry, ?ack, ?unmatched, ?counters, ?sticky, ?eventClear⟩
  case next =>
    intro t f b it x s hrx hitems hsync hnext hnew hsolo hsession hroom hform hbody hreorder hwindow
    refine ⟨_, execFerryDownlink_item hrx hitems, ?_⟩
    have hwin := dlWindow_heard hrx
    have hv := heard_frameHeard hrx
    generalize frameHeard f (ferryRx 3 f (s.arrive t)).2 = v at hv hwin ⊢
    obtain ⟨c, fwd, hitem⟩ := dlItem_node (s := v) (by rwa [hv.dl]) (by rwa [hv.dl]) (by rwa [dlOf_heard hv]) (by rwa [hwin]) (by rwa [hv.pair])
      (by rwa [hv.session]) (by rwa [dlOpen_heard hv]) hform hbody (by rwa [hv.dl])
    rw [hitem, settle_eq, nextPacket_heard hv, hv.dl, hv.sent, hv.clock, hnext]
    refine ⟨rfl, hreorder, rfl, rfl, ?_⟩
    rw [hv.frame]
  case again =>
    intro t f b it s hrx hitems hsync hold hnew hsolo hsession
    refine ⟨_, execFerryDownlink_item hrx hitems, ?_⟩
    have hv := heard_frameHeard hrx
    have hcount := count_heard (c := cFryDlDup) hrx (by decide)
    generalize frameHeard f (ferryRx 3 f (s.arrive t)).2 = v at hv hcount ⊢
    obtain ⟨c, hitem⟩ := dlItem_again (s := v) (by rwa [hv.dl]) (by rwa [hv.dl]) (by rwa [dlOf_heard hv]) (by rwa [hv.pair]) (by rwa [hv.session])
    rw [nextPacket_heard hv, hv.sent, hv.dl] at hitem
    refine ⟨?_, ?_, ?_, ?_⟩
    · rw [settle_dl, hitem]
    · rw [count_settle, count_of_regs (s := bump cFryDlDup 0 v) (by rw [hitem])]
      exact count_bump_congr hcount
    · rw [settle_sent, settle_fry, hitem]
    · rw [settle_eq, hitem, hv.frame]
  case ahead =>
    intro t f b it s hrx hitems hsync hahead hinside hreorder
    refine ⟨_, execFerryDownlink_item hrx hitems, ?_⟩
    have hwin := dlWindow_heard hrx
    have hv := heard_frameHeard hrx
    generalize frameHeard f (ferryRx 3 f (s.arrive t)).2 = v at hv hwin ⊢
    rw [dlItem_ahead (by rwa [hv.dl]) (by rwa [hv.dl]) (by rwa [hv.dl, hwin]) (by rwa [hv.dl]), settle_eq, hv.dl]
    exact ⟨rfl, hv.sent, by rw [hv.frame]⟩
  case gap =>
    intro t f b it s hrx hitems hsync hbeyond
    refine ⟨_, execFerryDownlink_item hrx hitems, ?_⟩
    have hwin := dlWindow_heard hrx
    have hv := heard_frameHeard hrx
    have hcount := count_heard (c := cFryDlGap) hrx (by decide)
    generalize frameHeard f (ferryRx 3 f (s.arrive t)).2 = v at hv hwin hcount ⊢
    rw [dlItem_gap (by rwa [hv.dl]) (by rwa [hv.dl, hwin]), count_settle, count_bump_congr hcount, settle_sent, bump_sent, settle_eq, bump_eq]
    exact ⟨rfl, hv.sent, by rw [hv.frame]⟩
  case command =>
    intro t f b it c x s hrx hitems hsync hnext hnew hsolo hroom hform hbody hknown hreorder hwindow
    refine ⟨_, execFerryMgmtCmd_item hrx hitems (kind_of_command hbody), ?_⟩
    have hwin := dlWindow_heard hrx
    have hv := heard_frameHeard hrx
    generalize frameHeard f (ferryRx 7 f (s.arrive t)).2 = v at hv hwin ⊢
    have haccept := dlAccept_command (s := v) (by rwa [dlOf_heard hv]) (by rwa [hv.pair]) (by rwa [dlOpen_heard hv]) hform hbody hknown
    rw [dlItem_next (by rwa [hv.dl]) (by rwa [hv.dl]) (by rwa [dlOf_heard hv]) (by rwa [hwin]) haccept (by rwa [listed, hv.dl]),
      settle_eq, listed, hv.dl, hv.clock]
    exact ⟨hv.sent, rfl, by rw [hv.frame]⟩
  case misfit =>
    intro t f b it s hrx hitems hkind
    refine ⟨_, execFerryMgmtCmd_misfit hrx hitems hkind, ?_⟩
    rw [count_settle, ferryRx_some hrx]
    refine ⟨?_, ?_⟩
    · refine count_bump_congr ((count_of_regs (s := s.arrive t) ?_ _ _).trans (count_arrive ..))
      rfl
    · rw [settle_eq, bump_eq, arrive_eq]
  case expiry =>
    intro t d x r s hrecs hdsn hbody hwaiting hundone hsolo hup hdue hnode
    refine ⟨_, execDlItemExpiry_noKey hrecs hdsn hbody hwaiting hundone (leads_solo hsolo) hup hdue hnode, ?_⟩
    let v : State := { s.arrive t with fwd := { s.fwd with floods := s.fwd.floods.filter fun f => f.dsn != some d } }
    have hopen : r.state ≠ .ended := by rw [hwaiting]; decide
    have heq := endItem_alone_eq (s := v) (by simpa [v] using hsolo) (by simpa [v] using hrecs) hdsn hopen hundone .noKey
    have hout := outcomes_endItem_alone (s := v) (by simpa [v] using hsolo) (by simpa [v] using hrecs) hdsn hopen hundone .noKey
    rw [outcomes_congr (s := s) (u := v) (arrive_jrn s t)] at hout
    refine ⟨(outcomes_congr (settle_jrn _)).trans hout, ?_, ?_⟩
    · rw [dlOf, settle_dl, heq]
      simp [hdsn]
    · rw [settle_eq, heq]
      simp only [v]
      rw [arrive_eq]
  case ack =>
    intro t x air e nack r d s hrecs hdest hundone hbody hbegun hearly hlate hsolo hup
    subst hdest
    refine ⟨_, execNodeEnhancedAck_begun hrecs hbody hundone hbegun hearly hlate hup, ?_⟩
    have hopen : r.state ≠ .ended := by simp [hbegun]
    have hsolo' : (s.arrive t).pair.state = .solo := by rwa [arrive_pair]
    have hrecs' : (s.arrive t).dl.recs = [r] := by rwa [arrive_dl]
    have heq := endItem_alone_eq hsolo' hrecs' rfl hopen hundone (if nack then .nodeNack else .acked)
    have hout := outcomes_endItem_alone hsolo' hrecs' rfl hopen hundone (if nack then .nodeNack else .acked)
    rw [outcomes_congr (arrive_jrn s t)] at hout
    refine ⟨(outcomes_congr (settle_jrn _)).trans (hout.trans ?_), ?_, ?_⟩
    · cases nack <;> rfl
    · rw [settle_dl, heq]
      cases nack <;> rfl
    · rw [settle_eq, heq, arrive_eq]
  case unmatched =>
    intro t air e nack s hrecs hup
    refine ⟨_, execNodeEnhancedAck_unmatched hrecs hup, ?_, ?_⟩
    · rw [count_settle]
      exact count_bump_congr (count_arrive ..)
    · rw [settle_eq, bump_eq, arrive_eq]
  case counters =>
    intro t d b a r s hargs hblock hrecs hdsn hsolo hreorder hb
    obtain ⟨v, hv, hzero, hexec⟩ := execClearCounters_block (t := t) hargs hblock hb
    obtain ⟨hout, hfin⟩ := finish_carried (v := v) (carries_of_argsOf hargs) hrecs hdsn hsolo hreorder (by rw [hv]) (by rw [hv]) (by rw [hv])
    have hcount (c : Counter) (i : Nat) : (settle (finish d .acked v)).count c i = v.count c i :=
      count_of_regs ((settle_regs _).trans (by rw [hfin])) c i
    refine ⟨_, hexec, hout, ?_, ?_⟩
    · simp only [hcount]
      exact hzero
    · rw [settle_eq, hfin, hv]
  case sticky =>
    intro t d a r s hargs hblock hrecs hdsn hsolo hreorder
    obtain ⟨v, hv, hexec⟩ := execClearSticky_quays (t := t) hargs hblock
    obtain ⟨hout, hfin⟩ := finish_carried (v := v) (carries_of_argsOf hargs) hrecs hdsn hsolo hreorder (by rw [hv]) (by rw [hv]) (by rw [hv])
    refine ⟨_, hexec, hout, ?_, ?_⟩
    · rw [settle_msys, hfin, hv]
    · rw [settle_eq, hfin, hv]
  case eventClear =>
    intro t d r s hcarries hrecs hdsn hsolo hreorder hroom
    obtain ⟨v, hv, holdest, hrecords, hexec⟩ := execEventClear_carried hcarries hroom
    obtain ⟨hout, hfin⟩ := finish_carried (v := v) hcarries hrecs hdsn hsolo hreorder (by rw [hv]) (by rw [hv]) (by rw [hv])
    refine ⟨_, hexec, hout, ?_, ?_, ?_⟩
    · rw [settle_evr, hfin]
      exact holdest
    · rw [settle_evr, hfin]
      exact hrecords
    · rw [settle_eq, hfin, hv]

end Sys2Proof.Machine

/-! PROOFS. The memory (R427): what may programme fuses or take the start on leaves it as it was, what does write it keeps its canonical
form, and so does what a warm start keeps of it for a second image (R77). -/

namespace Sys2Proof.Machine
open Sys2Proof Host

/-! ### The memory as a part of the anchor -/

/-- Anchor `a` holds the memory of anchor `o`, and what it keeps for a second image is that memory, or is what `o` keeps. -/
def Stands (o a : Anchor) : Prop := a.mem = o.mem ∧ ∀ b, a.before = some b → b.mem = o.mem ∨ o.before = some b

/-- The memory of an anchor, and what it keeps of one, are in their canonical form. -/
def Canon (a : Anchor) : Prop := Memory.wf a.mem ∧ ∀ b, a.before = some b → Memory.wf b.mem

theorem inv_iff (s : State) : Inv s ↔ Canon s.anchor := Iff.rfl

theorem stands_refl (o : Anchor) : Stands o o := ⟨rfl, fun _ => .inr⟩

theorem canon_of_stands {o a : Anchor} (ho : Canon o) (h : Stands o a) : Canon a := by
  obtain ⟨hmem, hbefore⟩ := ho
  obtain ⟨hsame, hkept⟩ := h
  refine ⟨hsame ▸ hmem, fun b hb => ?_⟩
  rcases hkept b hb with hnew | hold
  · exact hnew ▸ hmem
  · exact hbefore b hold

theorem byte_of_stands {s t : State} (h : Stands s.anchor t.anchor) (a : Nat) : t.byte a = s.byte a := by
  have hmem : t.mem = s.mem := h.1
  rw [State.byte, hmem, State.byte]

@[simp] theorem stands_mk (o : Anchor) (f : List (Nat × Word)) (q : List Instr) (s : State) :
    Stands o ⟨s.mem, s.before, f, q⟩ ↔ Stands o s.anchor := Iff.rfl

@[simp] theorem canon_mk (f : List (Nat × Word)) (q : List Instr) (s : State) : Canon ⟨s.mem, s.before, f, q⟩ ↔ Canon s.anchor := Iff.rfl

theorem stands_ite (o : Anchor) (c : Prop) [Decidable c] (a b : Anchor) :
    Stands o (if c then a else b) ↔ if c then Stands o a else Stands o b := by split <;> rfl

theorem stands_foldl {o : Anchor} {α : Type} {f : State → α → State} (h : ∀ s x, Stands o (f s x).anchor ↔ Stands o s.anchor)
    (l : List α) (s : State) : Stands o (l.foldl f s).anchor ↔ Stands o s.anchor := by
  induction l generalizing s with
  | nil => rfl
  | cons a r ih => exact (ih _).trans (h s a)

section
variable {o : Anchor} {s : State}

/-! ### Fuses and confirmations (R60, R78, R414, R417) -/

@[simp] theorem blowFuse_stands (n : Nat) (bits : Word) : Stands o (blowFuse n bits s).anchor ↔ Stands o s.anchor := by
  simp only [blowFuse, anchor_mk, stands_mk]

@[simp] theorem raiseRollback_stands (n : Nat) : Stands o (raiseRollback n s).anchor ↔ Stands o s.anchor := by
  unfold raiseRollback
  split <;> simp

@[simp] theorem rollbackUp_stands : Stands o (rollbackUp s).anchor ↔ Stands o s.anchor := by
  unfold rollbackUp
  (repeat' split) <;> simp

@[simp] theorem confirmRest_stands (otherValid step2Ok step3Ok : Bool) :
    Stands o (confirmRest otherValid step2Ok step3Ok s).anchor ↔ Stands o s.anchor := by
  unfold confirmRest
  (repeat' split) <;> simp [stands_ite]

@[simp] theorem confirmImage_stands (step1Ok otherValid step2Ok step3Ok : Bool) :
    Stands o (confirmImage step1Ok otherValid step2Ok step3Ok s).2.anchor ↔ Stands o s.anchor := by
  unfold confirmImage
  dsimp only
  (repeat' split) <;> simp

@[simp] theorem confirmCommitted_stands (ok : Bool) : Stands o (confirmCommitted ok s).anchor ↔ Stands o s.anchor := by
  unfold confirmCommitted
  dsimp only
  (repeat' split) <;> simp

@[simp] theorem confirmAll_stands (d : Option Nat) (a b c e : Bool) : Stands o (confirmAll d a b c e s).anchor ↔ Stands o s.anchor := by
  unfold confirmAll
  dsimp only
  (repeat' split) <;> simp

/-! ### The records of the partner (R376 to R380) -/

@[simp] theorem settleAwait_stands (a : Await) (ok : Bool) : Stands o (settleAwait a ok s).anchor ↔ Stands o s.anchor := by
  unfold settleAwait
  (repeat' split) <;> simp

@[simp] theorem applyCommit_stands (m : Nat) (ok : Bool) : Stands o (applyCommit m ok s).anchor ↔ Stands o s.anchor := by
  unfold applyCommit
  split <;> simp

@[simp] theorem applyCampaign_stands (x : MirrorHdr) (b : CampMirror) : Stands o (applyCampaign x b s).anchor ↔ Stands o s.anchor := by
  unfold applyCampaign
  dsimp only
  (repeat' split) <;> simp

@[simp] theorem applyRecord_stands (i : Instr) : Stands o (applyRecord i s).anchor ↔ Stands o s.anchor := by
  unfold applyRecord
  (repeat' split) <;> simp

@[simp] theorem takeRecord_stands (x : MirrorHdr) (i : Instr) : Stands o (takeRecord x i s).anchor ↔ Stands o s.anchor := by
  unfold takeRecord
  dsimp only
  (repeat' split) <;> simp

@[simp] theorem takeWaiting_stands (n : Nat) : Stands o (takeWaiting n s).anchor ↔ Stands o s.anchor := by
  induction n generalizing s with
  | zero => rw [takeWaiting]
  | succ n ih =>
    rw [takeWaiting]
    split <;> simp [ih]

@[simp] theorem receive_stands (x : MirrorHdr) (i : Instr) : Stands o (receive x i s).anchor ↔ Stands o s.anchor := by
  unfold receive
  dsimp only
  (repeat' split) <;> simp

@[simp] theorem losePartner_stands : Stands o (losePartner s).anchor ↔ Stands o s.anchor := by
  unfold losePartner
  simp only [beginPairing_anchor, actPartnerLost_anchor, cancelHandover_anchor]
  refine (stands_foldl (fun s x => ?_) _ _).trans (by simp)
  split <;> simp

@[simp] theorem takeLine_stands : Stands o (takeLine s).anchor ↔ Stands o s.anchor := by
  unfold takeLine
  dsimp only
  (repeat' split) <;> simp

/-! ### A start goes on (R51, R77) -/

theorem saveBefore_stands (h : Stands o s.anchor) : Stands o (saveBefore s).anchor := by
  obtain ⟨hmem, -⟩ := h
  unfold saveBefore
  split
  · exact ⟨hmem, fun b hb => .inl (Option.some.inj hb ▸ hmem)⟩
  · exact ⟨hmem, fun b hb => by cases hb⟩

theorem enterP5_stands (h : Stands o s.anchor) : Stands o (enterP5 s).anchor := by
  have hsave := saveBefore_stands h
  unfold enterP5
  dsimp only
  split <;> simpa using hsave

theorem p4Advance_stands (h : Stands o s.anchor) : Stands o (p4Advance s).anchor := by
  unfold p4Advance
  repeat' split
  · exact enterP5_stands h
  · simpa using h
  · exact h

theorem imageStart_stands (x : ImageHdr) (confirm attempts : Word) (h : Stands o s.anchor) :
    Stands o (imageStart x confirm attempts s).anchor := by
  unfold imageStart
  dsimp only
  split <;> simpa using p4Advance_stands (by simpa using h)

theorem startPoll_stands (h : Stands o s.anchor) : Stands o (startPoll s).anchor := by
  rw [startPoll, p6Advance_anchor, p5Advance_anchor]
  exact p4Advance_stands (by rwa [pollWait_anchor])

end

/-! ### What writes memory, or clears it, keeps it canonical (R71, R73, R77, R82, R83, R450) -/

section
variable {s : State}

theorem startPoll_canon (h : Canon s.anchor) : Canon (startPoll s).anchor := canon_of_stands h (startPoll_stands (stands_refl _))

theorem setBytes_canon (a : Nat) (l : List Byte) (h : Canon s.anchor) : Canon (s.setBytes a l).anchor := by
  induction l generalizing a s with
  | nil => exact h
  | cons b r ih => exact ih _ ⟨wf_setByte s a b h.1, h.2⟩

theorem writeDesc_canon (c : Nat) (keepValid done : Bool) (error moved : Nat) (h : Canon s.anchor) :
    Canon (writeDesc c keepValid done error moved s).anchor :=
  setBytes_canon _ _ (setBytes_canon _ _ h)

theorem dmaError_canon (c e moved : Nat) (h : Canon s.anchor) : Canon (dmaError c e moved s).anchor := by
  simp only [dmaError, dmaIrq_anchor, dropped_anchor, bump_anchor, setDma_anchor]
  exact writeDesc_canon _ _ _ _ _ h

theorem dmaDone_canon (c moved : Nat) (d : Descriptor) (h : Canon s.anchor) : Canon (dmaDone c moved d s).anchor := by
  have hdesc := writeDesc_canon c false true 0 moved h
  unfold dmaDone
  dsimp only
  (repeat' split) <;> simpa using hdesc

theorem dmaDeliver_canon (c : Nat) (d : Descriptor) (l : List Byte) (p : Option Nat) (e : Nat) (h : Canon s.anchor) :
    Canon (dmaDeliver c d l p e s).anchor := by
  unfold dmaDeliver
  dsimp only
  split
  · (repeat' split) <;> simp [dmaError_canon, dmaDone_canon, h]
  · (repeat' split) <;> simp [dmaError_canon, dmaDone_canon, setBytes_canon, h]

theorem dmaRefused_canon (c : Nat) (h : Canon s.anchor) : Canon (dmaRefused c s).anchor := by
  unfold dmaRefused
  dsimp only
  split <;> simp [dmaError_canon, h]

theorem dmaFromMemory_canon (c : Nat) (d : Descriptor) (p : Option Nat) (h : Canon s.anchor) :
    Canon (dmaFromMemory c d p s).anchor := by
  unfold dmaFromMemory
  dsimp only
  (repeat' split) <;> simp [dmaRefused_canon, dmaDeliver_canon, h]

theorem dmaFromQuay_canon (c : Nat) (d : Descriptor) (h : Canon s.anchor) : Canon (dmaFromQuay c d s).anchor := by
  unfold dmaFromQuay
  dsimp only
  (repeat' split) <;> simp [dmaRefused_canon, dmaDeliver_canon, h]

/-! ### Resets clear the memory outside DRAM, or all of it (R82, R83) -/

theorem wf_filter {m : List Host.Cell} (p : Host.Cell → Bool) (c : Bool) (h : Memory.wf m) : Memory.wf (if c then m.filter p else []) := by
  cases c
  · rfl
  · exact scanon_filter _ _ _ h

theorem islandReset_canon (h : Canon s.anchor) : Canon (islandReset s).anchor := by
  simp only [islandReset, anchor_mk]
  exact ⟨wf_filter _ _ h.1, fun b hb => by cases hb⟩

theorem resetDone_canon (h : Canon s.anchor) : Canon (resetDone s).anchor := by
  have hreset := islandReset_canon h
  unfold resetDone
  dsimp only
  split <;> simpa using hreset

theorem powerReset_canon : Canon (powerReset s).anchor := by
  simp only [powerReset, anchor_mk]
  exact ⟨rfl, fun b hb => by cases hb⟩

theorem powerDown_canon : Canon (powerDown s).anchor := powerReset_canon

theorem fallReset_canon (keep : Bool) (h : Canon s.anchor) : Canon (fallReset keep s).anchor := by
  obtain ⟨hmem, hbefore⟩ := h
  simp only [fallReset, anchor_mk]
  refine ⟨wf_filter _ _ ?_, fun b hb => by cases hb⟩
  cases hb : s.before with
  | none => exact hmem
  | some b => exact hbefore b hb

/-! ### The records of an image (R71 to R77) -/

theorem imageFail_canon (code : Nat) (h : Canon s.anchor) : Canon (imageFail code s).anchor := by
  unfold imageFail
  dsimp only
  repeat' split
  · simpa using h
  · simpa using h
  · simpa using h
  · simp only [refreshCfg_anchor, releaseIslands_anchor, anchor_mk, canon_mk]
    exact fallReset_canon _ (by simpa using h)

theorem recordFail_canon (code : Nat) (h : Canon s.anchor) : Canon (recordFail code s).anchor :=
  imageFail_canon _ (by simpa using h)

theorem boundFail_canon (h : Canon s.anchor) : Canon (boundFail s).anchor := by
  unfold boundFail
  (repeat' split) <;> simp [imageFail_canon, h]

theorem recordDone_canon (h : Canon s.anchor) : Canon (recordDone s).anchor := by
  unfold recordDone
  split
  · exact h
  · rw [p5Advance_anchor]
    exact canon_of_stands h (p4Advance_stands (by simpa using stands_refl s.anchor))

theorem recordSkip_canon (h : Canon s.anchor) : Canon (recordSkip s).anchor := recordDone_canon (by simpa using h)

/-- A record keeps the canonical form if what it asks for does (R71, R72). -/
theorem record_canon (own : Nat) (x : RecHdr) (f : State → Option Nat × State)
    (hf : ∀ s, Canon s.anchor → Canon (f s).2.anchor) (h : Canon s.anchor) : Canon (record own x f s).anchor := by
  have hpoll := startPoll_canon h
  have happlied := hf _ hpoll
  unfold record
  dsimp only
  repeat' split
  case h_1 _ code s1 hr => exact recordFail_canon _ (by rwa [hr] at happlied)
  case h_2 _ s1 hr => exact recordDone_canon (by rwa [hr] at happlied)
  all_goals simp [recordFail_canon, recordSkip_canon, hpoll]

end

/-! ### From the operations to the commands -/

section
variable {o : Anchor} {t : Time} {s s' : State}

theorem stands_of_onInst {ok : Bool} {u : State} (hx : onInst ok u = .next s') (hu : Stands o u.anchor) : Stands o s'.anchor := by
  rwa [anchor_of_onInst hx]

theorem canon_of_onInst {ok : Bool} {u : State} (hx : onInst ok u = .next s') (hu : Canon u.anchor) : Canon s'.anchor := by
  rwa [anchor_of_onInst hx]

/-- The records of the partner all go through `receive` (R380). -/
theorem stands_of_receive {ok : Bool} {x : MirrorHdr} {i : Instr} (hx : onInst ok (receive x i (s.arrive t)) = .next s') :
    Stands s.anchor s'.anchor :=
  stands_of_onInst hx (by simpa using stands_refl s.anchor)

/-- The records of an image all go through `record` (R71). -/
theorem canon_of_record {ok : Bool} {own : Nat} {x : RecHdr} {f : State → Option Nat × State}
    (hf : ∀ s, Canon s.anchor → Canon (f s).2.anchor) (hx : onInst ok (record own x f (s.arrive t)) = .next s') (h : Canon s.anchor) :
    Canon s'.anchor :=
  canon_of_onInst hx (record_canon _ _ _ hf (by rwa [arrive_anchor]))

theorem startPoll_arrive_stands (s : State) (t : Time) : Stands s.anchor (startPoll (s.arrive t)).anchor :=
  startPoll_stands (by simpa using stands_refl s.anchor)

theorem startPoll_arrive_canon (t : Time) (h : Canon s.anchor) : Canon (startPoll (s.arrive t)).anchor :=
  startPoll_canon (by rwa [arrive_anchor])

/-! ### The commands that may programme fuses, or take the start on, and write no memory -/

theorem execPairPartnerLost_stands (hx : execPairPartnerLost t s = .next s') : Stands s.anchor s'.anchor := by
  refine stands_of_onInst hx ?_
  dsimp only
  split <;> simp [stands_refl]

theorem execPairMseqGap_stands (hx : execPairMseqGap t s = .next s') : Stands s.anchor s'.anchor := by
  refine stands_of_onInst hx ?_
  dsimp only
  (repeat' split) <;> simp [stands_refl]

theorem execTakeTime_stands {low : Bool} (hx : execTakeTime t low s = .next s') : Stands s.anchor s'.anchor := by
  refine stands_of_onInst hx ?_
  dsimp only
  (repeat' split) <;> simp [stands_refl]

theorem execUpdConfirm_stands {d : Nat} {a b c e : Bool} (hx : execUpdConfirm t d a b c e s = .next s') : Stands s.anchor s'.anchor := by
  refine stands_of_onInst hx ?_
  dsimp only
  (repeat' split) <;> simp [stands_refl]

theorem execConfirmHold_stands {a b c e : Bool} (hx : execConfirmHold t a b c e s = .next s') : Stands s.anchor s'.anchor := by
  refine stands_of_onInst hx ?_
  dsimp only
  split <;> simp [stands_refl]

theorem execConfirmRetryCheck_stands {b c e : Bool} (hx : execConfirmRetryCheck t b c e s = .next s') : Stands s.anchor s'.anchor := by
  refine stands_of_onInst hx ?_
  dsimp only
  split <;> simp [stands_refl]

theorem execUpdRevokeSlot_stands {d : Nat} {o : Bool} (hx : execUpdRevokeSlot t d o s = .next s') : Stands s.anchor s'.anchor := by
  refine stands_of_onInst hx ?_
  dsimp only
  (repeat' split) <;> simp [stands_refl]

theorem execFuseProgDone_stands (hx : execFuseProgDone t s = .next s') : Stands s.anchor s'.anchor := by
  refine stands_of_onInst hx ?_
  dsimp only
  split <;> simp [stands_refl]

theorem execJtagFuseProgram_stands {n b : Nat} (hx : execJtagFuseProgram t n b s = .next s') : Stands s.anchor s'.anchor := by
  refine stands_of_onInst hx ?_
  dsimp only
  (repeat' split) <;> simp [stands_refl]

theorem execDdrTrainDone_stands {a b : Bool} {n m : Nat} (hx : execDdrTrainDone t a b n m s = .next s') : Stands s.anchor s'.anchor := by
  refine stands_of_onInst hx ?_
  dsimp only
  (repeat' split) <;> simp [enterP5_stands, stands_refl]

theorem execBootEngineReadyWrite_stands {e : Nat} (hx : execBootEngineReadyWrite t e s = .next s') : Stands s.anchor s'.anchor := by
  refine stands_of_onInst hx ?_
  dsimp only
  split <;> simp [startPoll_arrive_stands]

theorem execFhLinkupTimeout_stands (hx : execFhLinkupTimeout t s = .next s') : Stands s.anchor s'.anchor := by
  refine stands_of_onInst hx ?_
  dsimp only
  split
  · exact startPoll_arrive_stands s t
  · rw [endP7_anchor, anchor_foldl _ fun _ _ => bump_anchor _ _ _]
    exact startPoll_arrive_stands s t

theorem execRelease_stands {bad : List Nat} (hx : execRelease t bad s = .next s') : Stands s.anchor s'.anchor := by
  refine stands_of_onInst hx ?_
  dsimp only
  split
  · exact startPoll_arrive_stands s t
  · obtain ⟨hmem, -⟩ := startPoll_arrive_stands s t
    have hrecover : (recover bad (startPoll (s.arrive t))).mem = (startPoll (s.arrive t)).mem := congrArg Anchor.mem (recover_anchor bad _)
    simp only [startReports_anchor, activationStart_anchor, serve_anchor, releaseRole_anchor, anchor_mk]
    exact ⟨hrecover.trans hmem, fun b hb => by cases hb⟩

theorem execSdsclkReturn_stands {n : Nat} (hx : execSdsclkReturn t n s = .next s') : Stands s.anchor s'.anchor := by
  refine stands_of_onInst hx ?_
  dsimp only
  split <;> simp [startPoll_stands, stands_refl]

theorem execRegisterWrite_stands {g : Agent} {a v : Word} {n : Nat} (hx : execRegisterWrite t g a v n s = .next s') :
    Stands s.anchor s'.anchor := by
  refine stands_of_onInst hx ?_
  dsimp only
  (repeat' split) <;> simp [startPoll_arrive_stands]

/-! ### The commands that write memory or clear it -/

theorem execCampData_canon {d : Nat} (hx : execCampData t d s = .next s') (h : Canon s.anchor) : Canon s'.anchor := by
  refine canon_of_onInst hx ?_
  dsimp only
  (repeat' split) <;> simp [setBytes_canon, h]

theorem execDmaDescriptorDone_canon {c : Nat} {p : Option Nat} (hx : execDmaDescriptorDone t c p s = .next s') (h : Canon s.anchor) :
    Canon s'.anchor := by
  refine canon_of_onInst hx ?_
  dsimp only
  (repeat' split) <;> simp [dmaError_canon, dmaFromQuay_canon, dmaFromMemory_canon, h]

theorem execDumpPathsDone_canon (hx : execDumpPathsDone t s = .next s') (h : Canon s.anchor) : Canon s'.anchor := by
  refine canon_of_onInst hx ?_
  dsimp only
  (repeat' split) <;> simp [resetDone_canon, h]

theorem execWarmResetDrainDone_canon (hx : execWarmResetDrainDone t s = .next s') (h : Canon s.anchor) : Canon s'.anchor := by
  refine canon_of_onInst hx ?_
  dsimp only
  split <;> simp [resetDone_canon, h]

theorem execPorstNFall_canon (hx : execPorstNFall t s = .next s') : Canon s'.anchor := canon_of_onInst hx powerDown_canon

theorem execVddAoLow_canon (hx : execVddAoLow t s = .next s') : Canon s'.anchor := canon_of_onInst hx powerDown_canon

theorem execImageCheckDone_canon {a b : Bool} {e : Option Nat} {n o m : Nat} (hx : execImageCheckDone t a b e n o m s = .next s')
    (h : Canon s.anchor) : Canon s'.anchor := by
  refine canon_of_onInst hx ?_
  dsimp only
  repeat' split
  case h_2 => exact canon_of_stands h (imageStart_stands _ _ _ (by simpa using stands_refl s.anchor))
  all_goals simp [imageFail_canon, h]

theorem execEngineTimeout_canon (hx : execEngineTimeout t s = .next s') (h : Canon s.anchor) : Canon s'.anchor := by
  refine canon_of_onInst hx ?_
  dsimp only
  split <;> simp [imageFail_canon, startPoll_arrive_canon, h]

theorem execPhaseBoundExpire_canon (hx : execPhaseBoundExpire t s = .next s') (h : Canon s.anchor) : Canon s'.anchor := by
  refine canon_of_onInst hx ?_
  dsimp only
  split <;> simp [boundFail_canon, startPoll_arrive_canon, h]

theorem execWaitUntilTimeout_canon (hx : execWaitUntilTimeout t s = .next s') (h : Canon s.anchor) : Canon s'.anchor := by
  refine canon_of_onInst hx ?_
  dsimp only
  split <;> simp [recordFail_canon, startPoll_arrive_canon, h]

theorem execRegWrite_canon {x : RecHdr} {l : List (Word × Word)} (hx : execRegWrite t x l s = .next s') : Canon s.anchor → Canon s'.anchor :=
  canon_of_record (fun s hs => by rwa [writeAll_anchor]) hx

theorem execRegField_canon {x : RecHdr} {a m v : Word} (hx : execRegField t x a m v s = .next s') : Canon s.anchor → Canon s'.anchor :=
  canon_of_record (fun s hs => by rwa [writeAll_anchor]) hx

theorem execTableLoad_canon {x : RecHdr} {id size first : Nat} {l : List Nat} (hx : execTableLoad t x id size first l s = .next s') :
    Canon s.anchor → Canon s'.anchor :=
  canon_of_record (fun s hs => by rwa [tableLoad_anchor]) hx

theorem execMemLoad_canon {x : RecHdr} {target index a : Nat} {l : List Byte} (hx : execMemLoad t x target index a l s = .next s') :
    Canon s.anchor → Canon s'.anchor := by
  refine canon_of_record (fun s hs => ?_) hx
  split
  · exact hs
  · exact setBytes_canon _ _ hs

theorem execWaitUntil_canon {x : RecHdr} {a m v : Word} {n : Nat} (hx : execWaitUntil t x a m v n s = .next s') :
    Canon s.anchor → Canon s'.anchor := by
  refine canon_of_record (fun s hs => ?_) hx
  (repeat' split) <;> simpa using hs

theorem execCheck_canon {x : RecHdr} {a m v : Word} {op : Nat} (hx : execCheck t x a m v op s = .next s') :
    Canon s.anchor → Canon s'.anchor := by
  refine canon_of_record (fun s hs => ?_) hx
  dsimp only
  (repeat' split) <;> simpa [readAs_anchor] using hs

theorem execKeyBlob_canon {x : RecHdr} {cls wrap id : Nat} {e b : BitVec 512} (hx : execKeyBlob t x cls wrap id e b s = .next s') :
    Canon s.anchor → Canon s'.anchor := by
  refine canon_of_record (fun s hs => ?_) hx
  (repeat' split) <;> simpa using hs

theorem execFormatNote_canon {x : RecHdr} {region oldF newF newO newL oldO oldL : Nat}
    (hx : execFormatNote t x region oldF newF newO newL oldO oldL s = .next s') : Canon s.anchor → Canon s'.anchor := by
  refine canon_of_record (fun s hs => ?_) hx
  dsimp only
  split <;> simpa using hs

end

/-! ### All commands -/

/-- A command outside `mayWriteMemory` leaves the memory alone: those that leave the whole anchor alone, and by name those that may
programme fuses or take the start on. -/
theorem exec_stands {c : Instr} {s s' : State} (hc : mayWriteMemory c = false) (hx : exec c s = .next s') : Stands s.anchor s'.anchor := by
  cases c with
  | ddrTrainDone => exact execDdrTrainDone_stands hx
  | bootEngineReadyWrite => exact execBootEngineReadyWrite_stands hx
  | fhLinkupTimeout => exact execFhLinkupTimeout_stands hx
  | release => exact execRelease_stands hx
  | fuseProgDone => exact execFuseProgDone_stands hx
  | jtagFuseProgram => exact execJtagFuseProgram_stands hx
  | confirmRetryCheck => exact execConfirmRetryCheck_stands hx
  | takeTime => exact execTakeTime_stands hx
  | payloadRecord | entryRecord | ackBookRecord | voidRecord | dlRecord | ceilingRecord | ackPointRecord | sessionRecord | scheduleRecord
  | keyRecord | nodeRecord | campaignRecord | timeRecord | commitRecord | fitnessRecord | digestRecord | rangeRecord | handoverRecord
  | releasedRecord | keepaliveRecord => exact stands_of_receive hx
  | pairPartnerLost => exact execPairPartnerLost_stands hx
  | pairMseqGap => exact execPairMseqGap_stands hx
  | updConfirm => exact execUpdConfirm_stands hx
  | confirmHold => exact execConfirmHold_stands hx
  | updRevokeSlot => exact execUpdRevokeSlot_stands hx
  | registerWrite => exact execRegisterWrite_stands hx
  | sdsclkReturn => exact execSdsclkReturn_stands hx
  | dmaDescriptorDone | campData | dumpPathsDone | warmResetDrainDone | imageCheckDone | engineTimeout | phaseBoundExpire | regWrite
  | regField | waitUntil | waitUntilTimeout | check | memLoad | tableLoad | keyBlob | formatNote | porstNFall | vddAoLow => cases hc
  | _ =>
    rw [exec_anchor rfl hx]
    exact stands_refl _

/-- Every command keeps the canonical form: those that write memory or clear it by name, the others because they leave it alone. -/
theorem exec_canon {c : Instr} {s s' : State} (hx : exec c s = .next s') (h : Canon s.anchor) : Canon s'.anchor := by
  cases c with
  | dmaDescriptorDone => exact execDmaDescriptorDone_canon hx h
  | campData => exact execCampData_canon hx h
  | dumpPathsDone => exact execDumpPathsDone_canon hx h
  | warmResetDrainDone => exact execWarmResetDrainDone_canon hx h
  | imageCheckDone => exact execImageCheckDone_canon hx h
  | engineTimeout => exact execEngineTimeout_canon hx h
  | phaseBoundExpire => exact execPhaseBoundExpire_canon hx h
  | regWrite => exact execRegWrite_canon hx h
  | regField => exact execRegField_canon hx h
  | waitUntil => exact execWaitUntil_canon hx h
  | waitUntilTimeout => exact execWaitUntilTimeout_canon hx h
  | check => exact execCheck_canon hx h
  | memLoad => exact execMemLoad_canon hx h
  | tableLoad => exact execTableLoad_canon hx h
  | keyBlob => exact execKeyBlob_canon hx h
  | formatNote => exact execFormatNote_canon hx h
  | porstNFall => exact execPorstNFall_canon hx
  | vddAoLow => exact execVddAoLow_canon hx
  | porstNRise | vddAoRestored => rwa [exec_anchor rfl hx]
  | _ => exact canon_of_stands h (exec_stands rfl hx)

theorem tick_stands (s : State) : Stands s.anchor (tick s).anchor := by
  unfold tick
  split
  · rw [clockTick_anchor]
    exact stands_refl _
  · exact startPoll_stands (by simpa using stands_refl s.anchor)

/-- Settles O47: such a command leaves the whole memory alone. -/
theorem onlyNamedCommandsWriteMemory : Obligations.OnlyNamedCommandsWriteMemory :=
  fun _ _ _ hc hx => byte_of_stands (exec_stands hc hx)

/-- Settles O44: a step runs one command or lets one Slot cycle pass, and both keep the canonical form. -/
theorem stepKeepsInvariant : Obligations.StepKeepsInvariant := by
  intro s t hinv hstep
  rw [inv_iff] at hinv ⊢
  unfold step at hstep
  split at hstep
  · exact exec_canon hstep (by simpa using hinv)
  · rw [← Outcome.next.inj hstep]
    exact canon_of_stands hinv (tick_stands s)

end Sys2Proof.Machine

/-! PROOFS. The clamps (R471, R472): what a request, a release and a wait that runs out leave of a clamp. -/

namespace Sys2Proof.Machine
open Sys2Proof Host

section
variable {s : State}

/-! ### What arrival leaves of the islands -/

@[simp] theorem memoryUp_arrive (s : State) (t : Time) : (s.arrive t).memoryUp = s.memoryUp := by simp [State.memoryUp, State.islandUp]

@[simp] theorem inService_arrive (s : State) (t : Time) : (s.arrive t).inService = s.inService := by simp [State.inService]

/-! ### One clamp and the others -/

theorem clamp_setClamp_other (s : State) (c : Clamp) {n k : Nat} (h : k ≠ n) : (s.setClamp n c).clamp k = s.clamp k := by
  rw [State.setClamp, State.clamp, State.clamp]
  split
  · rw [afind_adel_other _ h]
  · rw [afind_aput_other _ _ h]

theorem clamp_of_hlt {u v : State} (h : u.hlt = v.hlt) (n : Nat) : u.clamp n = v.clamp n := by rw [State.clamp, State.clamp, h]

@[simp] theorem clamp_bump (c : Counter) (i : Nat) (s : State) (n : Nat) : (bump c i s).clamp n = s.clamp n :=
  clamp_of_hlt (by rw [bump_eq]) n

@[simp] theorem clamp_modPort (s : State) (p : Nat) (f : FhPort → FhPort) (n : Nat) : (s.modPort p f).clamp n = s.clamp n := rfl

theorem count_setClamp (s : State) (n : Nat) (x : Clamp) (c : Counter) (i : Nat) : (s.setClamp n x).count c i = s.count c i := rfl

/-- A held clamp makes another activity wait, and the wait is counted (R471). -/
theorem askClamp_held {a b n : Nat} (hclamp : s.clamp n = { holder := b, waiting := [] }) (hheld : b ≠ 0) (hother : b ≠ a) :
    askClamp a n s = (false, bump cHltClampWait 0 (s.setClamp n { holder := b, waiting := [(a, s.clock.now)] })) := by
  simp [askClamp, hclamp, hheld, hother]

/-- The oldest waiter takes the clamp that its holder gives up (R471). -/
theorem freeClampOf_holder {a b n : Nat} {x : Time} {r : List (Nat × Time)} (hclamp : s.clamp n = { holder := a, waiting := (b, x) :: r })
    (hothers : ∀ w ∈ (b, x) :: r, w.1 ≠ a) : freeClampOf a n s = s.setClamp n { holder := b, waiting := r } := by
  have hwaiting : ((b, x) :: r).filter (fun w => w.1 != a) = (b, x) :: r :=
    List.filter_eq_self.mpr fun w hw => by simpa using hothers w hw
  simp only [freeClampOf, hclamp, hwaiting, if_true]

/-- An activity that only waits leaves the holder its clamp. -/
theorem freeClampOf_waiter {a b n : Nat} {x : Time} (hclamp : s.clamp n = { holder := b, waiting := [(a, x)] }) (hother : b ≠ a) :
    freeClampOf a n s = s.setClamp n { holder := b, waiting := [] } := by
  simp [freeClampOf, hclamp, hother]

/-- The holder gives up a clamp that nothing waits for. -/
theorem freeClampOf_sole {a n : Nat} (hclamp : s.clamp n = { holder := a, waiting := [] }) : freeClampOf a n s = s.setClamp n {} := by
  simp [freeClampOf, hclamp]

end

/-- A port in FAULT whose wait runs out tries again a second later (R472). -/
theorem clampSkip_retry (n : Nat) (s : State) :
    clampSkip 3 n s = (bump cHltClampSkip 0 s).modPort n fun q => { q with retryAt := s.clock.now + sec 1 } := rfl

/-! ### The commands -/

section
variable {t : Time} {a n : Nat} {s : State}

theorem execClampRequest_up (hn : n < 74) (hof : clampOf a n = true) (hup : s.memoryUp = true) :
    execClampRequest t a n s = .next (settle (askClamp a n (s.arrive t)).2) := by
  rw [execClampRequest, onInst_of hn]
  simp [hof, hup]

theorem execClampRelease_up (hn : n < 74) (hof : clampOf a n = true) (hup : s.memoryUp = true) :
    execClampRelease t a n s = .next (settle (freeClampOf a n (s.arrive t))) := by
  rw [execClampRelease, onInst_of hn]
  simp [hof, hup]

theorem execClampWaitExpire_retry {b : Nat} {x : Time} (hn : n < 74) (hup : s.memoryUp = true)
    (hclamp : s.clamp n = { holder := b, waiting := [(3, x)] }) (hdue : x + sec 1 ≤ (s.arrive t).clock.now) :
    execClampWaitExpire t 3 n s = .next (settle (clampSkip 3 n (freeClampOf 3 n (s.arrive t)))) := by
  rw [execClampWaitExpire, onInst_of hn]
  simp [hclamp, clampWait, hup, hdue]

theorem activity_pos (h : clampOf a n = true) : a ≠ 0 := by
  rintro rfl
  cases h

end

/-- Settles O34, clause by clause: a clamp by who holds it and who waits. -/
theorem clamps : Obligations.Clamps := by
  unfold Obligations.Clamps
  refine ⟨?free, ?held, ?released, ?expired⟩
  case free =>
    intro t a n s hn hof hup hclamp
    refine ⟨_, execClampRequest_up hn hof hup, ?_⟩
    rw [askClamp_free (by simpa using hclamp) (activity_pos hof)]
    refine ⟨?_, fun k hk => ?_, (settle_eq _).trans ?_⟩
    · rw [settle_clamp, clamp_setClamp_same]
    · rw [settle_clamp, clamp_setClamp_other _ _ hk, clamp_arrive]
    · rw [setClamp_eq]
      simp
  case held =>
    intro t a b n s hn hof hup hheld hother hclamp
    refine ⟨_, execClampRequest_up hn hof hup, ?_⟩
    rw [askClamp_held (by simpa using hclamp) hheld hother]
    refine ⟨?_, ?_, fun k hk => ?_, (settle_eq _).trans ?_⟩
    · rw [settle_clamp, clamp_bump, clamp_setClamp_same, settle_clock, bump_eq]
      rfl
    · rw [count_settle, count_bump, count_setClamp, count_arrive]
    · rw [settle_clamp, clamp_bump, clamp_setClamp_other _ _ hk, clamp_arrive]
    · rw [bump_eq, setClamp_eq]
      simp
  case released =>
    intro t a b n x r s hn hof hup hclamp hothers
    refine ⟨_, execClampRelease_up hn hof hup, ?_⟩
    rw [freeClampOf_holder (by simpa using hclamp) hothers]
    refine ⟨?_, fun k hk => ?_, (settle_eq _).trans ?_⟩
    · rw [settle_clamp, clamp_setClamp_same]
    · rw [settle_clamp, clamp_setClamp_other _ _ hk, clamp_arrive]
    · rw [setClamp_eq]
      simp
  case expired =>
    intro t b n x s hn hup hother hheld hclamp hdue
    refine ⟨_, execClampWaitExpire_retry (by omega) hup hclamp hdue, ?_⟩
    rw [freeClampOf_waiter (by simpa using hclamp) hother, clampSkip_retry]
    refine ⟨?_, ?_, fun k hk => ?_, ?_, fun k hk => ?_, (settle_eq _).trans ?_⟩
    · rw [settle_clamp, clamp_modPort, clamp_bump, clamp_setClamp_same]
    · rw [count_settle, count_modPort, count_bump, count_setClamp, count_arrive]
    · rw [settle_clamp, clamp_modPort, clamp_bump, clamp_setClamp_other _ _ hk, clamp_arrive]
    · rw [port_settle, port_modPort_same, settle_clock, modPort_eq, bump_eq]
    · rw [port_settle, port_modPort_other _ _ hk, port_bump]
      exact port_arrive ..
    · rw [modPort_eq, bump_eq, setClamp_eq]
      simp

end Sys2Proof.Machine

/-! PROOFS. The reports that reach the coalescer (R455 to R457): the room that a new key finds, and the DROPPED entry that escalates. -/

namespace Sys2Proof.Machine
open Sys2Proof Host

section
variable {s : State}

/-! ### The recorder takes a record -/

/-- With room in the input FIFO the record is the newest of the recorder, whether or not the oldest had to go (R474). -/
theorem evrPush_last {e : EvRecord} (hroom : fifoNow s < 64) :
    (evrPush e s).evr.records.getLast? = some { e with seq := s.evr.head, time := s.clock.now } := by
  rw [evrPush, if_neg (Nat.not_le.mpr hroom)]
  dsimp only
  split
  · rw [bump_evr]
    exact List.getLast?_concat
  · exact List.getLast?_concat

/-- The counters stand in registers, and the health unit in none. -/
theorem count_hlt (s : State) (h : Hlt) (c : Counter) (i : Nat) : ({ s with hlt := h } : State).count c i = s.count c i := rfl

/-! ### What the reporting unit counts (R453) -/

/-- A counter of `reportedOnly` may move, and nothing else. -/
theorem countReported_eq (r : Report) (s : State) : countReported r s = { s with regs := (countReported r s).regs } := by
  unfold countReported
  split
  · rw [bump_eq]
  · rfl

/-- The addresses of the counters that a report alone moves. -/
theorem reg_countReported (r : Report) (s : State) {a : Nat} (ha : ∀ c ∈ reportedOnly, a ≠ c.addr 0) :
    (countReported r s).reg a = s.reg a := by
  unfold countReported
  split
  · next c hc => exact reg_bump_other c 0 s (ha c (List.mem_of_find?_eq_some hc))
  · rfl

theorem coalesceOvf_apart : ∀ c ∈ reportedOnly, cHltCoalesceOvf.addr 0 ≠ c.addr 0 := by decide

theorem escalate_apart : ∀ c ∈ reportedOnly, cHltEscalate.addr 0 ≠ c.addr 0 := by decide

theorem hltCoal_apart : ∀ c ∈ reportedOnly, rHltCoal ≠ c.addr 0 := by decide

/-! ### A report of a key that no entry holds (R456) -/

/-- No entry of the coalescer stands under the key of `r`. -/
def KeyFree (r : Report) (s : State) : Prop := ∀ e ∈ s.hlt.coal, ¬(e.unit = r.unit ∧ e.code = r.code)

theorem find_of_keyFree {r : Report} (h : KeyFree r s) : (s.hlt.coal.find? fun e => e.unit == r.unit && e.code == r.code) = none := by
  simpa [KeyFree] using h

/-- The state in which the coalescer meets report `r`: a DEGRADED one shows in HLT_ALERT at once. -/
def shown (r : Report) (s : State) : State := { s with hlt.degraded := r.degraded || s.hlt.degraded }

theorem shown_eq (r : Report) (s : State) : (if r.degraded = true then { s with hlt.degraded := true } else s) = shown r s := by
  rw [shown]
  cases r.degraded <;> rfl

/-- Without room the report is lost and counted. -/
theorem report_lost {r : Report} (hkey : KeyFree r s)
    (hfull : 1024 ≤ s.hlt.coal.length ∨ (r.degraded = false ∧ 960 ≤ (s.hlt.coal.filter fun e => !e.degraded).length)) :
    report r s = bump cHltCoalesceOvf 0 (shown r s) := by
  have hfind : ((shown r s).hlt.coal.find? fun e => e.unit == r.unit && e.code == r.code) = none := find_of_keyFree hkey
  simp only [report, shown_eq, hfind]
  exact if_pos hfull

/-- With room the report opens an entry and is recorded; at rank 0 it does not reach the handler stack (R455, R458). -/
theorem report_opens {r : Report} (hkey : KeyFree r s) (hrank : r.rank = 0)
    (hroom : ¬(1024 ≤ s.hlt.coal.length ∨ (r.degraded = false ∧ 960 ≤ (s.hlt.coal.filter fun e => !e.degraded).length))) :
    report r s = errRecord 1 r.unit r.code (classOf r.degraded) 0 1 r.arg 0 { shown r s with
      hlt.coal := s.hlt.coal ++ [⟨r.unit, r.code, r.degraded, 0, r.arg, 1, s.clock.now, false⟩]
      hlt.degraded := r.degraded || s.hlt.degraded } := by
  have hfind : ((shown r s).hlt.coal.find? fun e => e.unit == r.unit && e.code == r.code) = none := find_of_keyFree hkey
  simp only [report, shown_eq, hfind, hrank]
  exact if_neg hroom

/-! ### A report of the key of the only entry (R455, R457) -/

/-- The entry counts a report that does not escalate it. -/
theorem report_counts {r : Report} {e : CoalEntry} (hcoal : s.hlt.coal = [e]) (hunit : e.unit = r.unit) (hcode : e.code = r.code)
    (hesc : e.escalated = true) (hdropped : r.degraded = false) :
    report r s = { s with hlt.coal := [{ e with count := min 0xFFFFFFFF (e.count + 1) }] } := by
  simp [report, hdropped, hcoal, hunit, hcode, hesc]

/-- The report that brings COUNT to the limit sends the entry to an empty handler stack as DEGRADED. -/
theorem report_escalates {r : Report} {e : CoalEntry} (hcoal : s.hlt.coal = [e]) (hunit : e.unit = r.unit) (hcode : e.code = r.code)
    (hentry : e.degraded = false) (hesc : e.escalated = false) (hdropped : r.degraded = false) (hcount : e.count < 0xFFFFFFFF)
    (hlimit : s.fld rHltCoal 8 16 = e.count + 1) :
    report r s = placeFrame r.unit r.code 2 e.arg (bump cHltEscalate 0 (errRecord 3 r.unit r.code 2 2 (e.count + 1) e.arg 0
      { s with hlt.coal := [{ e with count := e.count + 1, escalated := true }], hlt.degraded := true })) := by
  have hmin : min 0xFFFFFFFF (e.count + 1) = e.count + 1 := by omega
  simp [report, hdropped, hcoal, hunit, hcode, hentry, hesc, hlimit, hmin]

/-- An empty handler stack takes the frame (R458). -/
theorem placeFrame_first {unit code rank arg : Nat} (hframes : s.hlt.frames = []) (hqueue : s.hlt.queue = []) :
    placeFrame unit code rank arg s = { s with hlt.frames := [⟨unit, code, rank, 1, arg, false, 0, s.clock.now⟩] } := by
  rw [placeFrame_new (by simp [hframes]) (by simp [hqueue])]
  simp [placeNew, pushFrame, hframes]

end

/-! ### The command -/

section
variable {t : Time} {r : Report} {s : State}

theorem execErrorReport_up (hunit : r.unit < 25 * 2048) (hup : s.controlUp = true) :
    execErrorReport t r .none s = .next (settle (report r (countReported r (s.arrive t)))) := by
  rw [execErrorReport, onInst_of hunit]
  simp [straitLoss, controlUp_arrive, hup]

theorem execErrorReport_lost (hunit : r.unit < 25 * 2048) (hup : s.controlUp = true) (hkey : KeyFree r s)
    (hfull : 1024 ≤ s.hlt.coal.length ∨ (r.degraded = false ∧ 960 ≤ (s.hlt.coal.filter fun e => !e.degraded).length)) :
    ∃ v : State, execErrorReport t r .none s = .next (settle v) ∧ v.hlt.coal = s.hlt.coal ∧ v.hlt.frames = s.hlt.frames ∧
      v.hlt.degraded = (r.degraded || s.hlt.degraded) ∧
      v.count cHltCoalesceOvf 0 = min 0xFFFFFFFF (s.count cHltCoalesceOvf 0 + 1) ∧
      v = { s with clock := v.clock, hlt := v.hlt, regs := v.regs } := by
  rw [execErrorReport_up hunit hup, report_lost (by simpa [KeyFree] using hkey) (by simpa using hfull)]
  refine ⟨_, rfl, by simp [shown], by simp [shown], by simp [shown], ?_, ?_⟩
  · rw [count_bump_congr]
    exact (count_congr (reg_countReported r _ coalesceOvf_apart)).trans (count_arrive ..)
  · rw [bump_eq, shown, countReported_eq, arrive_eq]

theorem execErrorReport_opens (hunit : r.unit < 25 * 2048) (hup : s.controlUp = true) (hkey : KeyFree r s) (hrank : r.rank = 0)
    (hroom : ¬(1024 ≤ s.hlt.coal.length ∨ (r.degraded = false ∧ 960 ≤ (s.hlt.coal.filter fun e => !e.degraded).length))) :
    ∃ v : State, execErrorReport t r .none s = .next (settle v) ∧ v.hlt.degraded = (r.degraded || s.hlt.degraded) ∧
      v.hlt.coal = s.hlt.coal ++ [⟨r.unit, r.code, r.degraded, 0, r.arg, 1, v.clock.now, false⟩] ∧
      v = { s with clock := v.clock, hlt := v.hlt, regs := v.regs, evr := v.evr } := by
  rw [execErrorReport_up hunit hup, report_opens (by simpa [KeyFree] using hkey) hrank (by simpa using hroom)]
  refine ⟨_, rfl, ?_, ?_, ?_⟩
  · simp [errRecord, shown]
  · rw [errRecord, evrPush_eq]
    simp [shown]
  · rw [errRecord, evrPush_eq, shown, countReported_eq, arrive_eq]

theorem execErrorReport_counts {e : CoalEntry} (hunit : r.unit < 25 * 2048) (hup : s.controlUp = true) (hdropped : r.degraded = false)
    (hcoal : s.hlt.coal = [e]) (heunit : e.unit = r.unit) (hecode : e.code = r.code) (hesc : e.escalated = true) :
    execErrorReport t r .none s = .next (settle { countReported r (s.arrive t) with
      hlt := { s.hlt with coal := [{ e with count := min 0xFFFFFFFF (e.count + 1) }] } }) := by
  rw [execErrorReport_up hunit hup, report_counts (by simpa using hcoal) heunit hecode hesc hdropped]
  simp

theorem execErrorReport_escalates {e : CoalEntry} (hunit : r.unit < 25 * 2048) (hup : s.controlUp = true) (hdropped : r.degraded = false)
    (hcoal : s.hlt.coal = [e]) (heunit : e.unit = r.unit) (hecode : e.code = r.code) (hentry : e.degraded = false)
    (hesc : e.escalated = false) (hcount : e.count < 0xFFFFFFFF) (hlimit : s.fld rHltCoal 8 16 = e.count + 1)
    (hframes : s.hlt.frames = []) (hqueue : s.hlt.queue = []) (hroom : fifoNow (s.arrive t) < 64) :
    ∃ v : State, execErrorReport t r .none s = .next (settle v) ∧
      v.hlt.coal = [{ e with count := e.count + 1, escalated := true }] ∧
      v.hlt.frames.map (fun f => (f.unit, f.code, f.rank)) = [(r.unit, r.code, 2)] ∧ v.hlt.degraded = true ∧
      (v.evr.records.getLast?).map (fun x => (x.kind, x.unit, x.code, x.rank)) = some (3, r.unit, r.code, 2) ∧
      v.count cHltEscalate 0 = min 0xFFFFFFFF (s.count cHltEscalate 0 + 1) ∧
      v = { s with clock := v.clock, hlt := v.hlt, regs := v.regs, evr := v.evr } := by
  have hfld : (countReported r (s.arrive t)).fld rHltCoal 8 16 = e.count + 1 := by
    rw [State.fld, reg_countReported r _ hltCoal_apart, ← State.fld, fld_arrive, hlimit]
  rw [execErrorReport_up hunit hup, report_escalates (by simpa using hcoal) heunit hecode hentry hesc hdropped hcount hfld,
    placeFrame_first (by simpa [errRecord] using hframes) (by simpa [errRecord] using hqueue)]
  generalize hv : ({ countReported r (s.arrive t) with
    hlt.coal := [{ e with count := e.count + 1, escalated := true }], hlt.degraded := true } : State) = v
  have hreg : v.reg (cHltEscalate.addr 0) = s.reg (cHltEscalate.addr 0) := by
    subst hv
    exact (reg_countReported r (s.arrive t) escalate_apart).trans (by rw [State.reg, State.reg, arrive_regs])
  have hframe : v = { s with clock := v.clock, hlt := v.hlt, regs := v.regs } := by
    rw [← hv, countReported_eq, arrive_eq]
  have hfifo : fifoNow v < 64 := by
    subst hv
    rw [countReported_eq]
    simpa [fifoNow] using hroom
  have hrecorded : (errRecord 3 r.unit r.code 2 2 (e.count + 1) e.arg 0 v).reg (cHltEscalate.addr 0) = s.reg (cHltEscalate.addr 0) :=
    (reg_evrPush _ v (a := cHltEscalate.addr 0) (by decide)).trans hreg
  have hcounted : (bump cHltEscalate 0 (errRecord 3 r.unit r.code 2 2 (e.count + 1) e.arg 0 v)).count cHltEscalate 0 =
      min 0xFFFFFFFF (s.count cHltEscalate 0 + 1) := count_bump_congr (count_congr hrecorded)
  refine ⟨_, rfl, by simp [errRecord, ← hv], rfl, by simp [errRecord, ← hv], ?_, ?_, ?_⟩
  · simp only [bump_evr]
    rw [errRecord, evrPush_last hfifo]
    rfl
  · exact (count_hlt _ _ _ _).trans hcounted
  · rw [bump_eq, errRecord, evrPush_eq, hframe]

end

/-- Settles O38: a new key by its class and by the room that it finds. -/
theorem coalescerRoom : Obligations.CoalescerRoom := by
  unfold Obligations.CoalescerRoom
  refine ⟨?droppedLost, ?degradedLost, ?degradedOpens, ?droppedOpens⟩
  case droppedLost =>
    intro t r s hunit hup hclass hkey hfull
    obtain ⟨v, hexec, hcoal, hframes, -, hcount, hframe⟩ := execErrorReport_lost (t := t) hunit hup hkey (.inr ⟨hclass, hfull⟩)
    refine ⟨_, hexec, by simpa, by simpa, (count_settle ..).trans hcount, (settle_eq v).trans ?_⟩
    rw [hframe]
    simp
  case degradedLost =>
    intro t r s hunit hup hclass hkey hfull
    obtain ⟨v, hexec, hcoal, hframes, hshown, hcount, hframe⟩ := execErrorReport_lost (t := t) hunit hup hkey (.inl hfull)
    refine ⟨_, hexec, by simpa, by simpa, by simpa [hclass] using hshown, (count_settle ..).trans hcount, (settle_eq v).trans ?_⟩
    rw [hframe]
    simp
  case degradedOpens =>
    intro t r s hunit hup hclass hrank hkey hroom
    obtain ⟨v, hexec, hshown, hcoal, hframe⟩ := execErrorReport_opens (t := t) hunit hup hkey hrank (by simp [hclass]; omega)
    refine ⟨_, hexec, by simpa [hclass] using hshown, by simpa [hclass] using hcoal, (settle_eq v).trans ?_⟩
    rw [hframe]
    simp
  case droppedOpens =>
    intro t r s hunit hup hclass hrank hkey hroom hdropped
    obtain ⟨v, hexec, -, hcoal, hframe⟩ := execErrorReport_opens (t := t) hunit hup hkey hrank (by omega)
    refine ⟨_, hexec, by simpa [hclass] using hcoal, (settle_eq v).trans ?_⟩
    rw [hframe]
    simp

/-- Settles O39: HLT_COAL by evaluation, the report at the limit and the reports after it. -/
theorem droppedEntryEscalates : Obligations.DroppedEntryEscalates := by
  unfold Obligations.DroppedEntryEscalates
  refine ⟨by decide +kernel, ?escalates, ?after⟩
  case escalates =>
    intro t r e s hunit hup hdropped hcoal heunit hecode hentry hesc hcount hlimit hframes hqueue hroom
    obtain ⟨v, hexec, hcoal', hframes', hshown, hrecord, hcount', hframe⟩ := execErrorReport_escalates (t := t) hunit hup hdropped
      hcoal heunit hecode hentry hesc hcount hlimit hframes hqueue hroom
    refine ⟨_, hexec, by rwa [settle_hlt_coal], by rwa [settle_hlt_frames], by rwa [settle_hlt_degraded], by rwa [settle_evr],
      (count_settle ..).trans hcount', (settle_eq v).trans ?_⟩
    rw [hframe]
    simp
  case after =>
    intro t r e s hunit hup hdropped hcoal heunit hecode hesc
    refine ⟨_, execErrorReport_counts hunit hup hdropped hcoal heunit hecode hesc, by simp, by simp, (settle_eq _).trans ?_⟩
    rw [countReported_eq]
    simp

end Sys2Proof.Machine

/-! PROOFS. FATAL (R46, R479, R480): what the release of the token leaves of the health unit, and the freeze. -/

namespace Sys2Proof.Machine
open Sys2Proof Host

/-! ### The release of the token leaves the health unit and the memory system (R309) -/

/-- What neither the journal nor the modulators move: the health unit, and the memory system with its engines and quays. -/
def State.housekeeping (s : State) : Hlt × Mem := (s.hlt, s.msys)

theorem housekeeping_foldl {α : Type} (f : State → α → State) (h : ∀ s x, (f s x).housekeeping = s.housekeeping) (l : List α) (s : State) :
    (l.foldl f s).housekeeping = s.housekeeping := by
  induction l generalizing s with
  | nil => rfl
  | cons a r ih => rw [List.foldl_cons, ih, h]

@[simp] theorem bump_housekeeping (c : Counter) (i : Nat) (s : State) : (bump c i s).housekeeping = s.housekeeping := by
  simp [State.housekeeping]

@[simp] theorem out_housekeeping (s : State) (o : Output) : (s.out o).housekeeping = s.housekeeping := rfl

@[simp] theorem unbook_housekeeping (b : Nat) (s : State) : (unbook b s).housekeeping = s.housekeeping := by
  rw [unbook_eq]
  rfl

@[simp] theorem acceptEntry_housekeeping (j : Nat) (s : State) : (acceptEntry j s).housekeeping = s.housekeeping := by
  unfold acceptEntry
  split
  · rfl
  · next e _ =>
    have hraised : (dedupAdd e.hdr (raiseHwm e.hdr.node e.hdr.counter e.hdr.digest
        (bump cJrnAccepted 0 (modEntry j (fun e => { e with state := .accepted }) s)))).housekeeping = s.housekeeping := by
      rw [dedupAdd, raiseHwm_eq]
      simp [State.housekeeping, modEntry]
    dsimp only
    split
    · rw [framePlane_eq]
      exact hraised
    · rw [hit_eq]
      exact hraised

@[simp] theorem mirror_housekeeping (b : Body) (a : Option Await) (s : State) : (mirror b a s).housekeeping = s.housekeeping := by
  rw [mirror_eq]
  rfl

@[simp] theorem voidEntry_housekeeping (j : Nat) (s : State) : (voidEntry j s).housekeeping = s.housekeeping := by
  unfold voidEntry
  split
  · rfl
  · dsimp only
    rw [groupSettle_eq, dropAck_eq]
    split
    · exact (mirror_housekeeping ..).trans (bump_housekeeping ..)
    · rw [newcomerGone_eq]
      exact (mirror_housekeeping ..).trans (bump_housekeeping ..)

@[simp] theorem settleOwed_housekeeping (t : Time) (s : State) : (settleOwed t s).housekeeping = s.housekeeping :=
  housekeeping_foldl _ (fun _ _ => by split <;> simp) _ _

@[simp] theorem cutAll_housekeeping (s : State) : (cutAll s).housekeeping = s.housekeeping := by
  unfold cutAll
  exact housekeeping_foldl _ (fun _ _ => by simp [State.housekeeping, closeBooking, State.out]) _ s

@[simp] theorem shadowCands_housekeeping (s : State) : (shadowCands s).housekeeping = s.housekeeping := by
  refine housekeeping_foldl _ (fun s x => ?_) _ _
  dsimp only
  split
  · split
    · exact unbook_housekeeping ..
    · rfl
  · rfl

theorem releaseToken_housekeeping (why : ReleaseBy) (s : State) : (releaseToken why s).housekeeping = s.housekeeping := by
  unfold releaseToken
  dsimp only
  split
  · split
    · exact (shadowCands_housekeeping ..).trans ((settleOwed_housekeeping ..).trans (cutAll_housekeeping ..))
    · exact (settleOwed_housekeeping ..).trans (cutAll_housekeeping ..)
  · rfl

theorem releaseToken_hlt (why : ReleaseBy) (s : State) : (releaseToken why s).hlt = s.hlt :=
  congrArg Prod.fst (releaseToken_housekeeping why s)

theorem releaseToken_msys (why : ReleaseBy) (s : State) : (releaseToken why s).msys = s.msys :=
  congrArg Prod.snd (releaseToken_housekeeping why s)

/-! ### The latch and the freeze (R479, R480) -/

section
variable {c : FatalCause} {s : State}

theorem latchFatal_armed (harmed : s.hlt.armed = true) : latchFatal c s = { s with hlt := { s.hlt with
    cause := c.cause, causeUnit := c.unit, causeCode := if c.cause = 1 then c.code else 0, causeArg := c.arg
    fatalTime := s.clock.now, armed := false, multiple := false } } := by
  rw [latchFatal, if_pos harmed]

theorem latchFatal_disarmed (harmed : s.hlt.armed = false) : latchFatal c s = { s with hlt.multiple := true } := by
  rw [latchFatal, if_neg (by simp [harmed])]

/-- The health unit in the freeze: the latch is written, and the dump sequence begins with the draining. -/
theorem raiseFatal_hlt (h : freezable s) : (raiseFatal c s).hlt = { (latchFatal c s).hlt with
    frozen := true, stage := .draining, partnerSent := false, flashCopied := false
    recent := (raiseFatal c s).hlt.recent, clamps := (raiseFatal c s).hlt.clamps } := by
  obtain ⟨hphase, hfrozen, -⟩ := h
  rw [raiseFatal, if_neg (by simp [hfrozen]), if_pos hphase]
  dsimp only
  rw [releaseToken_hlt]

/-- Without shadow candidates the release by FATAL is that of a warm reset (R309). -/
theorem releaseToken_fatal (s : State) : releaseToken .fatal s = releaseToken .warmReset s := rfl

theorem releaseToken_start (s : State) : (releaseToken .fatal s).start = s.start := by
  rw [releaseToken_fatal]
  exact congrArg Standing.start (releaseToken_warmReset_standing s)

theorem releaseToken_driving (s : State) : (releaseToken .fatal s).pair.driving = false := by
  rw [releaseToken_fatal]
  exact congrArg Standing.driving (releaseToken_warmReset_standing s)

theorem releaseToken_clock (why : ReleaseBy) (s : State) : (releaseToken why s).clock = s.clock := by
  refine (congrArg Helm.clock (releaseToken_helm why s)).trans ?_
  unfold Helm.released
  split <;> rfl

theorem latchFatal_eq (c : FatalCause) (s : State) : latchFatal c s = { s with hlt := (latchFatal c s).hlt } := by
  unfold latchFatal
  split <;> rfl

theorem raiseFatal_msys (c : FatalCause) (s : State) : (raiseFatal c s).msys = s.msys := by
  have hlatch : (latchFatal c s).msys = s.msys := by rw [latchFatal_eq]
  unfold raiseFatal
  split
  · exact hlatch
  · split
    · exact (releaseToken_msys ..).trans hlatch
    · exact hlatch

theorem raiseFatal_start (h : freezable s) : (raiseFatal c s).start = s.start := by
  obtain ⟨hphase, hfrozen, -⟩ := h
  rw [raiseFatal, if_neg (by simp [hfrozen]), if_pos hphase]
  refine (releaseToken_start _).trans ?_
  rw [latchFatal_eq]

theorem raiseFatal_clock (h : freezable s) : (raiseFatal c s).clock = s.clock := by
  obtain ⟨hphase, hfrozen, -⟩ := h
  rw [raiseFatal, if_neg (by simp [hfrozen]), if_pos hphase]
  refine (releaseToken_clock _ _).trans ?_
  rw [latchFatal_eq]

theorem raiseFatal_driving (h : freezable s) : (raiseFatal c s).pair.driving = false := by
  obtain ⟨hphase, hfrozen, -⟩ := h
  rw [raiseFatal, if_neg (by simp [hfrozen]), if_pos hphase]
  exact releaseToken_driving _

/-- A frozen device settles nothing. -/
theorem settle_frozen (h : s.hlt.frozen = true) : settle s = s := by rw [settle, if_pos h]

theorem raiseFatal_frozenBy (h : freezable s) : frozenBy c.cause s (raiseFatal c s) := by
  have hhlt := raiseFatal_hlt (c := c) h
  rw [latchFatal_armed h.2.2] at hhlt
  rw [frozenBy, hhlt]
  exact ⟨rfl, rfl, rfl, by rw [raiseFatal_clock h], rfl, raiseFatal_driving h, raiseFatal_ready h.2.1 h.1,
    congrArg Anchor.mem (raiseFatal_anchor c s)⟩

/-- The unit, the code and the argument of the first FATAL stand in the latch. -/
theorem raiseFatal_latch (h : freezable s) : ((raiseFatal c s).hlt.causeUnit, (raiseFatal c s).hlt.causeCode, (raiseFatal c s).hlt.causeArg) =
    (c.unit, if c.cause = 1 then c.code else 0, c.arg) := by
  have hhlt := raiseFatal_hlt (c := c) h
  rw [latchFatal_armed h.2.2] at hhlt
  rw [hhlt]

/-- What the arrival of a command leaves of a device that a FATAL can freeze. -/
theorem freezable_arrive (t : Time) (h : freezable s) : freezable (s.arrive t) := by simpa [freezable] using h

theorem frozenBy_arrive {n : Nat} {t : Time} {u : State} (h : frozenBy n (s.arrive t) u) : frozenBy n s u := by simpa [frozenBy] using h

/-- A command that raises FATAL leaves the device frozen. -/
theorem frozenBy_raised (t : Time) (h : freezable s) : frozenBy c.cause s (settle (raiseFatal c (s.arrive t))) := by
  have hfrozen := raiseFatal_frozenBy (c := c) (freezable_arrive t h)
  rw [settle_frozen hfrozen.1]
  exact frozenBy_arrive hfrozen

theorem arrive_frozen (t : Time) (h : s.hlt.frozen = true) : s.arrive t = s := by simp [State.arrive, h]

end

end Sys2Proof.Machine

/-! PROOFS. FATAL and the dumps (R479 to R483): the drain, the dump in its slot, the restart, and the copies in flash. -/

namespace Sys2Proof.Machine
open Sys2Proof Host

section
variable {s : State} {t : Time}

/-! ### The commands of FATAL -/

theorem execFatal_raised {c : FatalCause} (hlow : 1 ≤ c.cause) (hhigh : c.cause ≤ 12) (hpowered : s.start.porstLow = false) :
    execFatal t c s = .next (settle (raiseFatal c (s.arrive t))) := by
  rw [execFatal, onInst_of ⟨hlow, hhigh⟩]
  simp [hpowered]

theorem raiseFatal_again {c : FatalCause} (hfrozen : s.hlt.frozen = true) (hlatched : s.hlt.armed = false) :
    raiseFatal c s = { s with hlt.multiple := true } := by
  rw [raiseFatal, if_pos hfrozen, latchFatal_disarmed hlatched]

theorem execFatalStagingDrained_dumps (hfrozen : s.hlt.frozen = true) (hstage : s.hlt.stage = .draining) (hdump : s.hlt.cause ≠ 6) :
    execFatalStagingDrained t s =
      .next (settle (askClamp 11 71 { s with start.drained := true, hlt.stage := .dumping }).2) := by
  rw [execFatalStagingDrained, onInst_true, arrive_frozen t hfrozen]
  simp [hfrozen, hstage, hdump]

theorem aput_nil {α : Type} (n : Nat) (x : α) : aput [] n x = [(n, x)] := rfl

theorem clamp_stage (s : State) (x : FreezeStage) (n : Nat) : ({ s with hlt.stage := x } : State).clamp n = s.clamp n := rfl

/-- Without a dump the first slot of a kind is free (R482). -/
theorem slotFor_first (n : Nat) (l : List Nat) : slotFor [] (n :: l) = some (n, false) := rfl

theorem putDump_own (d : DumpHdr) (hnone : s.hlt.dumps = []) :
    putDump true d s = { s with hlt := { s.hlt with dumps := [(0, d)], lastSlot := 0 } } := by
  have hslot : slotFor s.hlt.dumps ((List.range 8).map fun k => if true then k else 8 + k) = some (0, false) := by
    rw [hnone]
    exact slotFor_first ..
  rw [putDump, hslot]
  simp [hnone, aput_nil]

theorem putDump_partner (d : DumpHdr) (hnone : s.hlt.dumps = []) :
    putDump false d s = { s with hlt := { s.hlt with dumps := [(8, d)] } } := by
  have hslot : slotFor s.hlt.dumps ((List.range 8).map fun k => if false then k else 8 + k) = some (8, false) := by
    rw [hnone]
    exact slotFor_first ..
  rw [putDump, hslot]
  simp [hnone, aput_nil]

/-- The first slot of the dump area in flash takes the first dump (R69, R482). -/
theorem putFlashDump_first (d : DumpHdr) (hnone : s.hlt.flashDumps = []) (hslots : 1 ≤ flashSlots s) :
    putFlashDump d s = { s with hlt := { s.hlt with flashDumps := [(0, d)], flashCopied := true } } := by
  have hslot : slotFor s.hlt.flashDumps (List.range (2 * flashSlots s)) = some (0, false) := by
    obtain ⟨n, hn⟩ := Nat.exists_eq_add_of_le hslots
    rw [hnone, hn, show 2 * (1 + n) = (2 * n + 1) + 1 by omega, List.range_succ_eq_map]
    exact slotFor_first ..
  rw [putFlashDump, hslot]
  simp [hnone, aput_nil]

theorem execDumpWritten_written (hfrozen : s.hlt.frozen = true) (hstage : s.hlt.stage = .dumping)
    (hclamp : s.clamp 71 = { holder := 11, waiting := [] }) :
    execDumpWritten t s = .next (settle { freeClampOf 11 71 (putDump true (dumpOf s) s) with hlt.stage := .paths }) := by
  rw [execDumpWritten, onInst_true, arrive_frozen t hfrozen]
  simp [hfrozen, hstage, hclamp]

/-- Nothing of the dump goes to flash now, and the device stays frozen or restarts (R482, R483). -/
theorem execDumpPathsDone_ends (hfrozen : s.hlt.frozen = true) (hstage : s.hlt.stage = .paths) (hcause : s.hlt.cause ≠ 5)
    (hflash : s.fld rHltCtrl 1 1 = 0) : execDumpPathsDone t s = .next (settle (
      let v : State := { s with hlt.partnerSent := s.fld rHltCtrl 2 1 == 1 && s.pair.links != 0, hlt.stage := .done }
      if staysFrozen s then v else resetDone v)) := by
  rw [execDumpPathsDone, onInst_true, arrive_frozen t hfrozen]
  simp [hfrozen, hstage, hcause, hflash]

theorem execHltPartnerDump_taken {d : DumpHdr} (htakes : takesDump s = true) (hnone : s.hlt.dumps = []) :
    execHltPartnerDump t d s =
      .next (settle (occurs eHltPartnerDump { s.arrive t with hlt := { s.hlt with dumps := [(8, d)] } })) := by
  have htakes' : takesDump (s.arrive t) = true := by simpa [takesDump, isthmusUp_arrive] using htakes
  rw [execHltPartnerDump, onInst_true]
  simp only [htakes', if_true]
  rw [putDump_partner d (by simpa using hnone), arrive_hlt]

theorem execDumpFlashCopy_out {slot : Nat} {d : DumpHdr} {ok : Bool} (hslot : slot < 8) (hup : s.controlUp = true)
    (hserves : s.inService = true) (hdump : afind s.hlt.dumps slot = some d) (hnone : s.hlt.flashDumps = []) :
    execDumpFlashCopy t slot true ok s =
      .next (settle (if ok then putFlashDump d (s.arrive t) else bump cHltDumpFlashFail 0 (s.arrive t))) := by
  rw [execDumpFlashCopy, onInst_true]
  simp [controlUp_arrive, hup, hslot, hdump, hserves, hnone]

theorem execDumpFlashCopy_back {slot : Nat} {d : DumpHdr} (hup : s.controlUp = true)
    (hmemory : s.memoryUp = true) (hdump : afind s.hlt.flashDumps slot = some d) (hnone : s.hlt.dumps = []) :
    execDumpFlashCopy t slot false true s = .next (settle (putDump true d (s.arrive t))) := by
  rw [execDumpFlashCopy, onInst_true]
  simp [controlUp_arrive, hup, hdump, hmemory, ownHolds, hnone]

end

/-- Settles O35, clause by clause along the stages of the freeze, and the copies after it. -/
theorem fatalAndDumps : Obligations.FatalAndDumps := by
  unfold Obligations.FatalAndDumps
  refine ⟨?first, ?again, ?drained, ?written, ?stays, ?restarts, ?partner, ?copied, ?failed, ?back⟩
  case first =>
    intro t c s hlow hhigh hpowered hfreezable
    have hfrozen := frozenBy_raised (c := c) t hfreezable
    refine ⟨_, execFatal_raised hlow hhigh hpowered, hfrozen, ?_⟩
    rw [settle_hlt_causeUnit, settle_hlt_causeCode, settle_hlt_causeArg]
    exact raiseFatal_latch (freezable_arrive t hfreezable)
  case again =>
    intro t c s hlow hhigh hpowered hfrozen hlatched
    refine ⟨_, execFatal_raised hlow hhigh hpowered, ?_⟩
    rw [arrive_frozen t hfrozen, raiseFatal_again hfrozen hlatched, settle_frozen (by exact hfrozen)]
    exact ⟨rfl, rfl⟩
  case drained =>
    intro t s hfrozen hstage hdump hclamp
    refine ⟨_, execFatalStagingDrained_dumps hfrozen hstage hdump, ?_⟩
    rw [askClamp_free (by exact hclamp) (by decide), settle_frozen (by exact hfrozen)]
    refine ⟨rfl, ?_, rfl, ?_⟩
    · rw [clamp_setClamp_same]
    · rw [setClamp_eq]
  case written =>
    intro t s hfrozen hstage hclamp hnone
    refine ⟨_, execDumpWritten_written hfrozen hstage hclamp, ?_⟩
    rw [putDump_own _ hnone, freeClampOf_sole (by exact hclamp), settle_frozen (by exact hfrozen)]
    exact ⟨rfl, rfl, (clamp_stage _ _ _).trans (clamp_setClamp_same ..), rfl⟩
  case stays =>
    intro t s hfrozen hstage hstays hcause hflash
    refine ⟨_, execDumpPathsDone_ends hfrozen hstage hcause hflash, ?_⟩
    simp only [hstays, if_true]
    rw [settle_frozen (by exact hfrozen)]
    exact ⟨rfl, hfrozen, rfl⟩
  case restarts =>
    intro t s hfrozen hstage hstays hcause hflash hwarm hcool hloaded
    refine ⟨_, execDumpPathsDone_ends hfrozen hstage hcause hflash, ?_⟩
    simp only [hstays, Bool.false_eq_true, if_false]
    rw [resetDone_begins (by exact hwarm) (by exact hcool) (by exact hloaded), refreshOne_eq]
    simp [releaseIslands, islandReset, Hlt.retain]
  case partner =>
    intro t d s htakes hnone
    refine ⟨_, execHltPartnerDump_taken htakes hnone, ?_, (settle_eq _).trans ?_⟩
    · rw [settle_hlt_dumps, occurs_eq]
    · rw [occurs_eq]
      simp
  case copied =>
    intro t slot d s hslot hup hserves hdump hnone hslots
    refine ⟨_, execDumpFlashCopy_out hslot hup hserves hdump hnone, ?_⟩
    rw [if_pos rfl, putFlashDump_first d (by simpa using hnone) (by simpa [flashSlots] using hslots)]
    exact ⟨by simp, by simp, (settle_eq _).trans (by simp)⟩
  case failed =>
    intro t slot d s hslot hup hserves hdump hnone
    refine ⟨_, execDumpFlashCopy_out hslot hup hserves hdump hnone, ?_⟩
    rw [if_neg Bool.false_ne_true]
    refine ⟨by simpa using hnone, ?_, (settle_eq _).trans ?_⟩
    · rw [count_settle, count_bump, count_arrive]
    · rw [bump_eq]
      simp
  case back =>
    intro t slot d s hup hmemory hdump hnone
    refine ⟨_, execDumpFlashCopy_back hup hmemory hdump hnone, ?_⟩
    rw [putDump_own d (by simpa using hnone)]
    exact ⟨by simp, (settle_eq _).trans (by simp)⟩

end Sys2Proof.Machine

/-! PROOFS. The coalescer's windows, the handler stack and the temperature (R455, R458 to R460, R523). -/

namespace Sys2Proof.Machine
open Sys2Proof Host

section
variable {s : State} {t : Time}

/-! ### An error record (R475) -/

theorem errRecord_eq (kind unit code cls rank cnt a0 a1 : Nat) (s : State) : errRecord kind unit code cls rank cnt a0 a1 s =
    { s with regs := (errRecord kind unit code cls rank cnt a0 a1 s).regs, evr := (errRecord kind unit code cls rank cnt a0 a1 s).evr } :=
  evrPush_eq ..

/-- With room in the FIFO the record is the recorder's newest. -/
theorem errRecord_last {kind unit code cls rank cnt a0 a1 : Nat} (hroom : fifoNow s < 64) :
    ((errRecord kind unit code cls rank cnt a0 a1 s).evr.records.getLast?).map (fun x => (x.kind, x.unit, x.code, x.count)) =
      some (kind, unit, code, cnt) := by
  rw [errRecord, evrPush_last hroom]
  rfl

/-! ### A window that closes (R455) -/

theorem execCoalesceWindowClose_due {e : CoalEntry} (hcoal : s.hlt.coal = [e]) (hup : s.controlUp = true)
    (hdue : e.opened + ms (s.fld rHltCoal 0 7 * 100) ≤ (s.arrive t).clock.now) :
    execCoalesceWindowClose t e.unit e.code s = .next (settle (errRecord 2 e.unit e.code (classOf e.degraded) e.rank e.count e.arg 0
      { s.arrive t with hlt := { s.hlt with coal := [] } })) := by
  rw [execCoalesceWindowClose, onInst_true]
  simp [hcoal, controlUp_arrive, hup, Nat.not_lt.mpr hdue]

/-! ### The top frame (R458 to R460) -/

theorem execHandlerTake_top {a : Agent} {f : HFrame} {r : List HFrame} (hframes : s.hlt.frames = f :: r) (hup : s.controlUp = true)
    (hagent : writes a = true) : execHandlerTake t a s =
      .next (settle { s.arrive t with hlt := { s.hlt with frames := { f with taken := true } :: r } }) := by
  rw [execHandlerTake, onInst_true, frameTake]
  simp [hframes, controlUp_arrive, hup, hagent]

/-- With no frame beneath and none pending the stack is empty. -/
theorem resumeStack_empty (hframes : s.hlt.frames = []) (hqueue : s.hlt.queue = []) : resumeStack s = s := by
  have hempty : resumeStack s = { s with hlt.frames := [] } := by simp [resumeStack, hframes, hqueue, nextPending]
  rw [hempty, ← hframes]

/-- A handler that has repaired something other than an engine leaves its unit as it is (R461, R470). -/
theorem handlerEffect_repaired {f : HFrame} (hunit : f.unit / 2048 ≠ 24) : handlerEffect f 0 s = s := by
  simp [handlerEffect, hunit]

theorem frameDone_last {a : Agent} {f : HFrame} (hframes : s.hlt.frames = [f]) (hqueue : s.hlt.queue = []) (hup : s.controlUp = true)
    (hagent : writes a = true) (hunit : f.unit / 2048 ≠ 24) : frameDone a 0 s =
      errRecord 4 f.unit f.code (if f.rank = 1 then 1 else 2) f.rank f.count 0 (Config.eventArg s.free).toNat
        { s with free := s.free + 1, hlt := { s.hlt with frames := [] } } := by
  simp only [frameDone, hframes, hup, hagent]
  rw [if_neg (by decide), if_neg (by decide), show (0 : BitVec 2).toNat = 0 from rfl, handlerEffect_repaired hunit,
    resumeStack_empty (by simp [errRecord]) (by simpa [errRecord] using hqueue)]

theorem execHandlerDone_last {a : Agent} {f : HFrame} (hframes : s.hlt.frames = [f]) (hqueue : s.hlt.queue = []) (hup : s.controlUp = true)
    (hagent : writes a = true) (hunit : f.unit / 2048 ≠ 24) : execHandlerDone t a 0 s =
      .next (settle (errRecord 4 f.unit f.code (if f.rank = 1 then 1 else 2) f.rank f.count 0 (Config.eventArg s.free).toNat
        { s.arrive t with free := s.free + 1, hlt := { s.hlt with frames := [] } })) := by
  rw [execHandlerDone, onInst_true, frameDone_last (by simpa using hframes) (by simpa using hqueue) (by rwa [controlUp_arrive]) hagent hunit]
  simp only [arrive_hlt, arrive_free]

theorem execHandlerDone_fault {a : Agent} {f : HFrame} {r : List HFrame} (hframes : s.hlt.frames = f :: r) (hup : s.controlUp = true)
    (hagent : writes a = true) : execHandlerDone t a 2 s = .next (settle (raiseFatal ⟨8, 22 * 2048 + 1, 0, 0⟩ (s.arrive t))) := by
  rw [execHandlerDone, onInst_true, frameDone]
  simp [hframes, controlUp_arrive, hup, hagent, fatalBy]

theorem execHandlerTimeout_due {f : HFrame} {r : List HFrame} (hframes : s.hlt.frames = f :: r) (hup : s.controlUp = true)
    (hdue : ms (s.fld rHltCtrl 12 8) ≤ f.onTop + ((s.arrive t).clock.now - f.since)) :
    execHandlerTimeout t s = .next (settle (raiseFatal ⟨9, 22 * 2048 + 1, 0, 0⟩ (s.arrive t))) := by
  rw [execHandlerTimeout, onInst_true]
  simp [hframes, controlUp_arrive, hup, hdue, fatalBy]

theorem execHandlerException_taken {c : Nat} {f : HFrame} {r : List HFrame} (hcore : c < 4) (hframes : s.hlt.frames = f :: r)
    (htaken : f.taken = true) (hup : s.controlUp = true) (hhandles : handlerCore s c = true) :
    execHandlerException t c s = .next (settle (raiseFatal ⟨8, 22 * 2048 + 1, 0, 0⟩ (s.arrive t))) := by
  have hhandles' : handlerCore (s.arrive t) c = true := by simpa [handlerCore] using hhandles
  rw [execHandlerException, onInst_of hcore]
  simp [hframes, controlUp_arrive, hup, hhandles', htaken, fatalBy]

/-! ### The temperature (R523) -/

/-- From `s` to `u` nothing moves but the coalescer, the handler stack, HLT_ALERT.DEGRADED, the recorder and the registers. -/
def CalmStep (s u : State) : Prop := u = { s with
  regs := u.regs, evr := u.evr, hlt := { s.hlt with coal := u.hlt.coal, frames := u.hlt.frames, degraded := u.hlt.degraded } }

theorem calmStep_coal (l : List CoalEntry) (d : Bool) (s : State) : CalmStep s { s with hlt := { s.hlt with coal := l, degraded := d } } := rfl

theorem CalmStep.bump {u : State} (h : CalmStep s u) (c : Counter) (i : Nat) : CalmStep s (bump c i u) := by
  rw [CalmStep, bump_eq]
  rw [CalmStep] at h
  rw [h]

theorem CalmStep.errRecord {u : State} (h : CalmStep s u) (kind unit code cls rank cnt a0 a1 : Nat) :
    CalmStep s (errRecord kind unit code cls rank cnt a0 a1 u) := by
  rw [CalmStep, errRecord_eq]
  rw [CalmStep] at h
  rw [h]

theorem CalmStep.placeFrame {u : State} (h : CalmStep s u) (unit code rank arg : Nat) (hframes : u.hlt.frames = []) (hqueue : u.hlt.queue = []) :
    CalmStep s (placeFrame unit code rank arg u) := by
  rw [placeFrame_first hframes hqueue]
  rw [CalmStep] at h
  rw [h]
  rfl

/-- A report that finds the handler stack and its queue empty raises no FATAL (R458). -/
theorem report_calm (r : Report) (hframes : s.hlt.frames = []) (hqueue : s.hlt.queue = []) : CalmStep s (report r s) := by
  simp only [report, shown_eq]
  split
  · split
    · refine (((calmStep_coal ..).errRecord ..).bump ..).placeFrame _ _ _ _ ?_ ?_
      · simpa [errRecord, shown] using hframes
      · simpa [errRecord, shown] using hqueue
    · exact calmStep_coal ..
  · split
    · exact (calmStep_coal ..).bump ..
    · split
      · refine ((calmStep_coal ..).errRecord ..).placeFrame _ _ _ _ ?_ ?_
        · simpa [errRecord, shown] using hframes
        · simpa [errRecord, shown] using hqueue
      · exact (calmStep_coal ..).errRecord ..

theorem placeFrame_degraded {unit code rank arg : Nat} (hframes : s.hlt.frames = []) (hqueue : s.hlt.queue = []) :
    (placeFrame unit code rank arg s).hlt.degraded = s.hlt.degraded := by rw [placeFrame_first hframes hqueue]

/-- A DEGRADED report shows in HLT_ALERT (R464). -/
theorem report_degraded {r : Report} (hclass : r.degraded = true) (hframes : s.hlt.frames = []) (hqueue : s.hlt.queue = []) :
    (report r s).hlt.degraded = true := by
  simp only [report, shown_eq]
  split
  · split
    · rw [placeFrame_degraded (by simpa [errRecord, shown] using hframes) (by simpa [errRecord, shown] using hqueue)]
      simp [errRecord]
    · simp [shown, hclass]
  · split
    · simp [shown, hclass]
    · split
      · rw [placeFrame_degraded (by simpa [errRecord, shown] using hframes) (by simpa [errRecord, shown] using hqueue)]
        simp [errRecord, shown, hclass]
      · simp [errRecord, shown, hclass]

theorem degraded_calm (block inst code rank : Nat) (hframes : s.hlt.frames = []) (hqueue : s.hlt.queue = []) :
    CalmStep { s with free := s.free + 1 } (degraded block inst code rank s) ∧ (degraded block inst code rank s).hlt.degraded = true :=
  ⟨report_calm _ hframes hqueue, report_degraded rfl hframes hqueue⟩

theorem execGlbOvertemp_hot (harmed : s.hlt.overArmed = true) (hhot : 110 * 16 ≤ s.hlt.temp) (hpowered : s.start.porstLow = false) :
    execGlbOvertemp t s = .next (settle (degraded 0 0 (eventCode eGlbOvertemp) 2
      (occurs eGlbOvertemp { s.arrive t with hlt := { s.hlt with overArmed := false } }))) := by
  rw [execGlbOvertemp, onInst_true]
  simp only [arrive_hlt, harmed, arrive_start, hpowered, Bool.not_false, Bool.and_true, hhot, decide_true, if_true]

theorem frozenBy_of_mem {c : Nat} {v u : State} (hmem : v.mem = s.mem) (h : frozenBy c v u) : frozenBy c s u := by
  rwa [frozenBy, ← hmem]

theorem execGlbThermalTrip_raised (hpowered : s.start.porstLow = false) : execGlbThermalTrip t s = .next (settle
    (raiseFatal ⟨1, 0, eventCode eGlbThermalTrip, 0⟩
      (occurs eGlbThermalTrip { s.arrive t with start := { s.start with holdUntilCool := true } }))) := by
  rw [execGlbThermalTrip, onInst_true]
  simp [hpowered]

theorem execGlbTempUpdate_runs {tj : Int} (hlow : -32768 ≤ tj) (hhigh : tj < 32768) (hp0 : s.start.phase ≠ .p0) (hp1 : s.start.phase ≠ .p1)
    (hheld : s.start.held = false) : execGlbTempUpdate t tj s = .next (settle { s.arrive t with
      hlt := { s.hlt with temp := tj, overArmed := s.hlt.overArmed || decide (tj < 105 * 16) }
      start := { s.start with holdUntilCool := s.start.holdUntilCool && decide (100 * 16 < tj) } }) := by
  rw [execGlbTempUpdate, onInst_of ⟨hlow, hhigh⟩]
  simp [hp0, hp1, leaveReset, hheld]

end

/-- Settles O32, clause by clause: a window, and the top frame by what ends it. -/
theorem handlerStack : Obligations.HandlerStack := by
  unfold Obligations.HandlerStack
  refine ⟨?window, ?take, ?done, ?fault, ?timeout, ?exception⟩
  case window =>
    intro t e s hcoal hup hdue hroom
    refine ⟨_, execCoalesceWindowClose_due hcoal hup hdue, ?_, ?_, (settle_eq _).trans ?_⟩
    · rw [settle_hlt_coal, errRecord_eq]
    · rw [settle_evr]
      exact errRecord_last (by simpa [fifoNow] using hroom)
    · rw [errRecord_eq]
      simp
  case take =>
    intro t a f r s hframes hup hagent
    exact ⟨_, execHandlerTake_top hframes hup hagent, by simp, (settle_eq _).trans (by simp)⟩
  case done =>
    intro t a f s hframes hqueue hup hagent hunit hroom
    refine ⟨_, execHandlerDone_last hframes hqueue hup hagent hunit, ?_, ?_, (settle_eq _).trans ?_⟩
    · rw [settle_hlt_frames, errRecord_eq]
    · rw [settle_evr]
      exact errRecord_last (by simpa [fifoNow] using hroom)
    · rw [errRecord_eq]
      simp
  case fault =>
    intro t a f r s hframes hup hagent hfreezable
    exact ⟨_, execHandlerDone_fault hframes hup hagent, frozenBy_raised t hfreezable⟩
  case timeout =>
    intro t f r s hframes hup hfreezable hdue
    exact ⟨_, execHandlerTimeout_due hframes hup hdue, frozenBy_raised t hfreezable⟩
  case exception =>
    intro t c f r s hcore hframes htaken hup hhandles hfreezable
    exact ⟨_, execHandlerException_taken hcore hframes htaken hup hhandles, frozenBy_raised t hfreezable⟩

/-- Settles O37, clause by clause: a rise, the trip, and a new value of a running device. -/
theorem temperature : Obligations.Temperature := by
  unfold Obligations.Temperature
  refine ⟨?hot, ?trip, ?update⟩
  case hot =>
    intro t s harmed hhot hpowered hframes hqueue
    refine ⟨_, execGlbOvertemp_hot harmed hhot hpowered, ?_⟩
    generalize hv : occurs eGlbOvertemp { s.arrive t with hlt := { s.hlt with overArmed := false } } = v
    have hhlt : v.hlt = { s.hlt with overArmed := false } := by rw [← hv, occurs_eq]
    have hframe : v = { s with clock := v.clock, hlt := v.hlt, regs := v.regs, evr := v.evr, free := v.free } := by
      rw [← hv, occurs_eq, arrive_eq]
    obtain ⟨hcalm, hshown⟩ := degraded_calm (s := v) 0 0 (eventCode eGlbOvertemp) 2 (by rw [hhlt]; exact hframes) (by rw [hhlt]; exact hqueue)
    refine ⟨?_, by rwa [settle_hlt_degraded], (settle_eq _).trans ?_⟩
    · rw [settle_hlt_overArmed, hcalm, hhlt]
    · rw [hcalm, hframe]
      simp
  case trip =>
    intro t s hpowered hfreezable
    refine ⟨_, execGlbThermalTrip_raised hpowered, ?_⟩
    generalize hv : occurs eGlbThermalTrip { s.arrive t with start := { s.start with holdUntilCool := true } } = v
    have hframe : v = { s with clock := v.clock, start := { s.start with holdUntilCool := true }, regs := v.regs, evr := v.evr, free := v.free } := by
      rw [← hv, occurs_eq, arrive_eq]
    have hfreezable' : freezable v := by
      rw [hframe]
      exact hfreezable
    have hfrozen := raiseFatal_frozenBy (c := ⟨1, 0, eventCode eGlbThermalTrip, 0⟩) hfreezable'
    rw [settle_frozen hfrozen.1]
    refine ⟨?_, ?_⟩
    · exact frozenBy_of_mem (by rw [hframe]) hfrozen
    · rw [raiseFatal_start hfreezable', hframe]
  case update =>
    intro t tj s hlow hhigh hp0 hp1 hheld
    exact ⟨_, execGlbTempUpdate_runs hlow hhigh hp0 hp1 hheld, by simp, by simp, by simp, (settle_eq _).trans (by simp)⟩

end Sys2Proof.Machine

/-! PROOFS. DRAM and the engines (R433, R434, R439, R441, R461): an error by the channel that holds its address, the training of a channel,
and an engine's watchdog. -/

namespace Sys2Proof.Machine
open Sys2Proof Host

section
variable {s : State} {t : Time}

/-! ### DDR5 channels -/

@[simp] theorem ddr_arrive (s : State) (t : Time) (b : Bool) : (s.arrive t).ddr b = s.ddr b := by simp [State.ddr]

theorem ddr_of_msys {u v : State} (h : u.msys = v.msys) (b : Bool) : u.ddr b = v.ddr b := by rw [State.ddr, State.ddr, h]

theorem setDdr_eq (b : Bool) (x : DdrCh) (s : State) : setDdr b x s = { s with msys := (setDdr b x s).msys } := by
  cases b <;> rfl

@[simp] theorem ddr_settle (s : State) (b : Bool) : (settle s).ddr b = s.ddr b := ddr_of_msys (settle_msys s) b

@[simp] theorem ddr_bump (c : Counter) (i : Nat) (s : State) (b : Bool) : (bump c i s).ddr b = s.ddr b := ddr_of_msys (bump_msys ..) b

theorem clamp_setDdr (b : Bool) (x : DdrCh) (s : State) (n : Nat) : (setDdr b x s).clamp n = s.clamp n := by
  cases b <;> rfl

theorem count_setDdr (b : Bool) (x : DdrCh) (s : State) (c : Counter) (i : Nat) : (setDdr b x s).count c i = s.count c i := by
  cases b <;> rfl

theorem ddr_setDdr_same (b : Bool) (x : DdrCh) (s : State) : (setDdr b x s).ddr b = x := by cases b <;> rfl

theorem ddr_setDdr_other (b : Bool) (x : DdrCh) (s : State) : (setDdr b x s).ddr (!b) = s.ddr (!b) := by cases b <;> rfl

@[simp] theorem inMirror_arrive (s : State) (t : Time) (a n : Nat) : inMirror (s.arrive t) a n = inMirror s a n := by
  simp [inMirror, mirrorBase, mirrorSize]

@[simp] theorem interleaved_arrive (s : State) (t : Time) : interleaved (s.arrive t) = interleaved s := by simp [interleaved, mirrorSize]

@[simp] theorem dramHomes_arrive (s : State) (t : Time) (a : Nat) : dramHomes (s.arrive t) a = dramHomes s a := by
  simp only [dramHomes, inMirror_arrive, interleaved_arrive, ddr_arrive]

/-- Both channels hold the addresses of the mirrored window (R437). -/
theorem dramHomes_mirrored {a : Nat} {b : Bool} (hok : (s.ddr b).ok = true) (hin : inMirror s a 1 = true) :
    ((dramHomes s a).any fun h => h.1 == b) = true := by
  rw [dramHomes, if_pos hin]
  cases b <;> simp [hok]

/-! ### Errors of DRAM (R439) -/

theorem execEccError_corrected {a : Nat} {b byDma : Bool} (ha : a < 2 ^ 36) (hup : s.memoryUp = true)
    (hhome : ((dramHomes s a).any fun h => h.1 == b) = true) :
    execEccError t a b false byDma s = .next (settle (bump cMemEccCorrected 0 (s.arrive t))) := by
  rw [execEccError, onInst_of ha]
  simp only [memoryUp_arrive, hup, dramHomes_arrive, hhome]
  rfl

theorem execEccError_elsewhere {a : Nat} {b hard byDma : Bool} (ha : a < 2 ^ 36)
    (hhome : ((dramHomes s a).any fun h => h.1 == b) = false) :
    execEccError t a b hard byDma s = .next (settle (s.arrive t)) := by
  rw [execEccError, onInst_of ha]
  simp only [dramHomes_arrive, hhome, Bool.not_false, Bool.or_true, if_true]

/-- The first uncorrectable error of the mirrored window is repaired from the other channel. -/
theorem execEccError_repaired {a : Nat} {b byDma : Bool} (ha : a < 2 ^ 36) (hup : s.memoryUp = true) (hok : (s.ddr b).ok = true)
    (hother : (s.ddr !b).ok = true) (hin : inMirror s a 1 = true) (hnone : (s.ddr b).errors = []) :
    execEccError t a b true byDma s = .next (settle (bump cMemMirrorRepair 0 (bump cMemEccUncorrected 0
      (setDdr b { s.ddr b with errors := [(s.arrive t).clock.now] } (s.arrive t))))) := by
  rw [execEccError, onInst_of ha]
  simp only [memoryUp_arrive, hup, dramHomes_arrive, dramHomes_mirrored hok hin, ddr_arrive, hnone, inMirror_arrive, hin, hother]
  rfl

theorem execScrubPatrol_up {n : Nat} (hup : s.memoryUp = true) :
    execScrubPatrol t n s = .next (settle (bumpBy cMemEccCorrected 0 n (s.arrive t))) := by
  rw [execScrubPatrol, onInst_true]
  simp [hup]

/-! ### Training (R441) -/

theorem execDdrTrainingLoss_trained {b : Bool} (hup : s.memoryUp = true) (hok : (s.ddr b).ok = true) (htrained : (s.ddr b).trained = true) :
    execDdrTrainingLoss t b s =
      .next (settle (askClamp 10 71 (setDdr b { s.ddr b with trained := false, tries := 0 } (s.arrive t))).2) := by
  rw [execDdrTrainingLoss, onInst_true]
  simp [hup, hok, htrained]

/-- The last channel that was to be trained is trained. -/
theorem retrainEnd_good {b : Bool} (hclamp : s.clamp 71 = { holder := 10, waiting := [] }) (hother : (s.ddr !b).trained = true) :
    retrainEnd b true s = setDdr b { s.ddr b with trained := true, tries := 0 } (bump cMemRetrain 0 (s.setClamp 71 {})) := by
  rw [retrainEnd, freeClampOf_sole hclamp]
  generalize hv : setDdr b { s.ddr b with trained := true, tries := 0 } (bump cMemRetrain 0 (s.setClamp 71 {})) = v
  have hsame : (v.ddr b).trained = true := by rw [← hv, ddr_setDdr_same]
  have hother' : (v.ddr !b).trained = true := by
    rw [← hv, ddr_setDdr_other, ddr_bump]
    exact hother
  refine if_neg ?_
  cases b <;> simp_all

theorem execDdrRetrainDone_good {b : Bool} (hup : s.memoryUp = true) (hok : (s.ddr b).ok = true) (hlost : (s.ddr b).trained = false)
    (hclamp : s.clamp 71 = { holder := 10, waiting := [] }) :
    execDdrRetrainDone t b true s = .next (settle (retrainEnd b true (s.arrive t))) := by
  rw [execDdrRetrainDone, onInst_true]
  simp [hup, hok, hlost, hclamp]

/-! ### Engines (R433, R434, R461) -/

theorem engine_of_msys {u v : State} (h : u.msys.engines = v.msys.engines) (e : Nat) : u.engine e = v.engine e := by
  rw [State.engine, State.engine, h]

@[simp] theorem engine_settle (s : State) (e : Nat) : (settle s).engine e = s.engine e := engine_of_msys (by simp) e

@[simp] theorem engine_arrive (s : State) (t : Time) (e : Nat) : (s.arrive t).engine e = s.engine e := engine_of_msys (by simp) e

theorem engine_setEngine_same (e : Nat) (x : Engine) (s : State) : (setEngine e x s).engine e = x := by
  rw [State.engine, setEngine, afind_aput_same]
  rfl

theorem engine_setEngine_other {e k : Nat} (x : Engine) (s : State) (h : k ≠ e) : (setEngine e x s).engine k = s.engine k := by
  rw [State.engine, setEngine, afind_aput_other _ _ h]
  rfl

theorem setEngine_eq (e : Nat) (x : Engine) (s : State) :
    setEngine e x s = { s with msys := { s.msys with engines := (setEngine e x s).msys.engines } } := rfl

@[simp] theorem shadow_arrive (s : State) (t : Time) (e : Nat) : shadow (s.arrive t) e = shadow s e := by simp [shadow]

@[simp] theorem handlerCore_arrive (s : State) (t : Time) (e : Nat) : handlerCore (s.arrive t) e = handlerCore s e := by simp [handlerCore]

theorem execEngWdogKick_running {e : Nat} (he : e < 12) (hup : s.controlUp = true) (hrunning : (s.engine e).running = true)
    (hcore : shadow s e = false) : execEngWdogKick t e s =
      .next (settle (setEngine e { s.engine e with kick := (s.arrive t).clock.now } (s.arrive t))) := by
  rw [execEngWdogKick, onInst_of he]
  simp [wdogKick, controlUp_arrive, hup, hrunning, hcore]

/-- Engines that are held in reset. -/
def stopEngines (l : List Nat) (s : State) : State := l.foldl (fun s y => setEngine y { s.engine y with running := false } s) s

theorem stopEngines_eq (l : List Nat) (s : State) :
    stopEngines l s = { s with msys := { s.msys with engines := (stopEngines l s).msys.engines } } := by
  induction l generalizing s with
  | nil => rfl
  | cons a r ih => rw [stopEngines, List.foldl_cons, ← stopEngines, ih, setEngine_eq]

/-- An engine that does not run is left so, whatever engines are held in reset beside it. -/
theorem engine_stopEngines {e : Nat} {x : Engine} (l : List Nat) (hx : s.engine e = x) (hstopped : x.running = false) :
    (stopEngines l s).engine e = x := by
  induction l generalizing s with
  | nil => exact hx
  | cons a r ih =>
    rw [stopEngines, List.foldl_cons, ← stopEngines]
    refine ih ?_
    by_cases h : e = a
    · subst h
      rw [engine_setEngine_same, hx, ← hstopped]
    · rw [engine_setEngine_other _ _ h, hx]

/-- The first expiry of an engine that is no handler core: the engine and its shadow are held in reset, and the expiry is reported. -/
theorem execEngWdogExpire_first {e : Nat} (he : e < 12) (hup : s.controlUp = true) (hrunning : (s.engine e).running = true)
    (hcore : shadow s e = false) (hhandler : handlerCore s e = false) (hfirst : (s.engine e).expiry = none)
    (hdue : (s.engine e).kick + ms (s.fldAt rEngWdog e 0 8) ≤ (s.arrive t).clock.now) :
    execEngWdogExpire t e s = .next (settle (degraded 24 e cEngWdogExpire.code 3 (bump cEngWdogExpire 0
      (stopEngines (coreAndShadow s e) (setEngine e { s.engine e with
        running := false, fired := true, expiry := some (s.arrive t).clock.now } (s.arrive t)))))) := by
  rw [execEngWdogExpire, onInst_of he]
  simp [controlUp_arrive, hup, hrunning, hcore, hhandler, hfirst, Nat.not_lt.mpr hdue, stopEngines, coreAndShadow]

theorem execEngLockstep_differs (hup : s.controlUp = true) (hchecked : shadow s 1 = true) (hrunning : (s.engine 0).running = true) :
    execEngLockstep t false s = .next (settle (raiseFatal ⟨2, 24 * 2048, 0, 0⟩ (s.arrive t))) := by
  rw [execEngLockstep, onInst_true]
  simp [controlUp_arrive, hup, hchecked, hrunning, fatalBy]

/-! ### The first DEGRADED error (R455, R458) -/

/-- The first report of an empty coalescer opens its entry, is recorded, and goes on to the handler stack. -/
theorem report_first {r : Report} (hcoal : s.hlt.coal = []) (hrank : 1 ≤ r.rank ∧ r.rank ≤ 4) : report r s =
    placeFrame r.unit r.code r.rank r.arg (errRecord 1 r.unit r.code (classOf r.degraded) r.rank 1 r.arg 0 { shown r s with
      hlt.coal := (shown r s).hlt.coal ++ [⟨r.unit, r.code, r.degraded, r.rank, r.arg, 1, s.clock.now, false⟩] }) := by
  have hnone : (shown r s).hlt.coal = [] := hcoal
  simp only [report, shown_eq, hnone, List.find?_nil]
  rw [if_neg (by simp), if_pos hrank]
  rfl

theorem degraded_first {block inst code rank : Nat} (hcoal : s.hlt.coal = []) (hframes : s.hlt.frames = []) (hqueue : s.hlt.queue = [])
    (hrank : 1 ≤ rank ∧ rank ≤ 4) : ∃ (l : List HFrame) (v : State), l.map (fun f => (f.unit, f.rank)) = [(block * 2048 + inst, rank)] ∧
      (∀ a, a ≠ cEvrInputOvf.addr 0 ∧ a ≠ cEvrOverwrite.addr 0 → v.reg a = s.reg a) ∧
      degraded block inst code rank s = { v with hlt := { v.hlt with frames := l } } := by
  rw [degraded, report_first (s := { s with free := s.free + 1 }) hcoal hrank, placeFrame_first]
  · refine ⟨_, _, ?_, fun a ha => ?_, rfl⟩
    · rfl
    · exact reg_evrPush _ _ ha
  · simpa [errRecord, shown] using hframes
  · simpa [errRecord, shown] using hqueue

end

/-- Settles O31, clause by clause: an error by the channel that holds its address, training, and an engine's watchdog. -/
theorem memoryAndEngines : Obligations.MemoryAndEngines := by
  unfold Obligations.MemoryAndEngines
  refine ⟨?corrected, ?elsewhere, ?repaired, ?patrol, ?lost, ?retrained, ?kick, ?expire, ?lockstep⟩
  case corrected =>
    intro t a b byDma s ha hup hhome
    refine ⟨_, execEccError_corrected ha hup hhome, ?_, (settle_eq _).trans ?_⟩
    · rw [count_settle, count_bump, count_arrive]
    · rw [bump_eq]
      simp
  case elsewhere =>
    intro t a b hard byDma s ha hhome
    exact ⟨_, execEccError_elsewhere ha hhome, (settle_eq _).trans (by simp)⟩
  case repaired =>
    intro t a b byDma s ha hup hok hother hin hnone
    refine ⟨_, execEccError_repaired ha hup hok hother hin hnone, ?_, ?_, ?_, (settle_eq _).trans ?_⟩
    · rw [ddr_settle, ddr_bump, ddr_bump, ddr_setDdr_same, settle_clock, bump_clock, bump_clock, setDdr_eq]
    · rw [count_settle, count_congr (c := cMemEccUncorrected) (i := 0) (reg_bump_other cMemMirrorRepair 0 _ (by decide)), count_bump, count_setDdr,
        count_arrive]
    · rw [count_settle, count_bump, count_congr (c := cMemMirrorRepair) (i := 0) (reg_bump_other cMemEccUncorrected 0 _ (by decide)), count_setDdr,
        count_arrive]
    · rw [bump_eq, bump_eq, setDdr_eq]
      simp
  case patrol =>
    intro t n s hup
    refine ⟨_, execScrubPatrol_up hup, ?_, (settle_eq _).trans ?_⟩
    · rw [count_settle, count_bumpBy, count_arrive]
    · simp [bumpBy, State.setReg]
  case lost =>
    intro t b s hup hok htrained hclamp
    refine ⟨_, execDdrTrainingLoss_trained hup hok htrained, ?_⟩
    rw [askClamp_free (by rw [clamp_setDdr, clamp_arrive, hclamp]) (by decide)]
    refine ⟨?_, ?_, (settle_eq _).trans ?_⟩
    · rw [ddr_settle]
      exact ddr_setDdr_same ..
    · rw [settle_clamp, clamp_setClamp_same]
    · rw [setClamp_eq, setDdr_eq]
      simp
  case retrained =>
    intro t b s hup hok hlost hclamp hother
    refine ⟨_, execDdrRetrainDone_good hup hok hlost hclamp, ?_⟩
    rw [retrainEnd_good ((clamp_arrive ..).trans hclamp) (by rwa [ddr_arrive])]
    refine ⟨?_, ?_, ?_, (settle_eq _).trans ?_⟩
    · rw [ddr_settle, ddr_setDdr_same, ddr_arrive]
    · rw [settle_clamp, clamp_setDdr, clamp_bump, clamp_setClamp_same]
    · rw [count_settle, count_setDdr, count_bump, count_setClamp, count_arrive]
    · rw [setDdr_eq, bump_eq, setClamp_eq]
      simp
  case kick =>
    intro t e s he hup hrunning hcore
    refine ⟨_, execEngWdogKick_running he hup hrunning hcore, ?_, fun k hk => ?_, (settle_eq _).trans ?_⟩
    · rw [engine_settle, engine_setEngine_same, settle_clock]
      rfl
    · rw [engine_settle, engine_setEngine_other _ _ hk, engine_arrive]
    · rw [setEngine_eq]
      simp
  case expire =>
    intro t e s he hup hrunning hcore hhandler hfirst hdue hcoal hframes hqueue
    refine ⟨_, execEngWdogExpire_first he hup hrunning hcore hhandler hfirst hdue, ?_⟩
    generalize hw : stopEngines (coreAndShadow s e) (setEngine e { s.engine e with
      running := false, fired := true, expiry := some (s.arrive t).clock.now } (s.arrive t)) = w
    have hengine : w.engine e = { s.engine e with running := false, fired := true, expiry := some (s.arrive t).clock.now } := by
      rw [← hw]
      exact engine_stopEngines _ (engine_setEngine_same ..) rfl
    have hframe : w = { s with clock := (s.arrive t).clock, msys := { s.msys with engines := w.msys.engines } } := by
      rw [← hw, stopEngines_eq, setEngine_eq, arrive_eq]
    have hhlt : (bump cEngWdogExpire 0 w).hlt = s.hlt := by rw [bump_hlt, hframe]
    have hcoal' : (bump cEngWdogExpire 0 w).hlt.coal = [] := by rw [hhlt, hcoal]
    have hframes' : (bump cEngWdogExpire 0 w).hlt.frames = [] := by rw [hhlt, hframes]
    have hqueue' : (bump cEngWdogExpire 0 w).hlt.queue = [] := by rw [hhlt, hqueue]
    obtain ⟨hcalm, hshown⟩ := degraded_calm 24 e cEngWdogExpire.code 3 hframes' hqueue'
    obtain ⟨l, v, hl, hreg, heq⟩ := degraded_first (block := 24) (inst := e) (code := cEngWdogExpire.code) (rank := 3) hcoal' hframes' hqueue'
      (by decide)
    have hcount : (degraded 24 e cEngWdogExpire.code 3 (bump cEngWdogExpire 0 w)).count cEngWdogExpire 0 = v.count cEngWdogExpire 0 := by
      rw [heq]
      rfl
    refine ⟨?_, ?_, ?_, ?_, ?_, (settle_eq _).trans ?_⟩
    · rw [engine_settle, engine_of_msys (v := w) (by rw [hcalm, bump_msys]), hengine]
    · rw [engine_settle, engine_of_msys (v := w) (by rw [hcalm, bump_msys]), hengine, settle_clock, hcalm]
      rw [bump_clock, hframe]
    · rw [count_settle, hcount, count_congr (hreg _ (by decide)), count_bump, count_congr (s := s) (by rw [hframe]; rfl)]
    · rwa [settle_hlt_degraded]
    · rw [settle_hlt_frames]
      rw [heq]
      exact hl
    · rw [hcalm, bump_eq, hframe]
      simp
  case lockstep =>
    intro t s hup hchecked hrunning hfreezable
    exact ⟨_, execEngLockstep_differs hup hchecked hrunning, frozenBy_raised t hfreezable⟩

end Sys2Proof.Machine

/-! PROOFS. The end of a jig test beside a channeliser unit whose time in service has run out (R141, R159, R470). -/

namespace Sys2Proof.Machine
open Sys2Proof Host

/-- A device in service: the jig's test of a TCAM row is due, and channeliser unit 0 left stream 0 at the FFT-frame boundary at 0. -/
def jigBesideLeaving : State :=
  { State.reset with
    start := { State.reset.start with phase := .p9, porstLow := false, pinLow := false, islands := 0xFF }
    hlt := { test := some ⟨9, 0, 0, false, 0, none, none, 0⟩ }
    chn := { State.reset.chn with units := [(0, .leaving 0 0 0)] } }

/-- The result of a test that reaches its full count with the expected signature. -/
def passedRow : JigResult := ⟨1, 1, 0, 0⟩

theorem units_jigTestDone_leaving :
    (taken jigBesideLeaving (exec (.jigTestDone 0 passedRow) jigBesideLeaving)).chn.units = [(0, .free)] := by
  decide +kernel

/-- Refutes O33: its clause of a test that passes says that the channeliser bank stands as it was. The end of a test serves the generation
changes, which first brings every unit's use up to date (R141): in `jigBesideLeaving` the unit that left its stream at the boundary at 0
is written down as free. -/
theorem not_jigAndMaintenance : ¬ Obligations.JigAndMaintenance := by
  rintro ⟨-, -, -, -, hdone, -⟩
  obtain ⟨u, hexec, -, -, hframe⟩ := hdone 0 0 passedRow jigBesideLeaving rfl (by decide) (by decide) rfl rfl rfl rfl
  have hleaves : u.chn.units = [(0, .leaving 0 0 0)] := congrArg (fun x => x.chn.units) hframe
  have hfree := units_jigTestDone_leaving
  rw [hexec, taken] at hfree
  exact absurd (hleaves.symm.trans hfree) (by decide)

end Sys2Proof.Machine

/-! PROOFS. The DMA channels (R450, R451): a chain that starts and stops, a descriptor that copies DRAM to DRAM, and one whose addresses lie
outside their kinds. -/

namespace Sys2Proof.Machine
open Sys2Proof Host

section
variable {s : State} {t : Time}

/-! ### Octets -/

theorem byte_of_mem {u v : State} (h : u.mem = v.mem) (a : Nat) : u.byte a = v.byte a := by rw [State.byte, State.byte, h]

theorem byte_of_anchor {u v : State} (h : u.anchor = v.anchor) (a : Nat) : u.byte a = v.byte a := byte_of_mem (congrArg Anchor.mem h) a

@[simp] theorem byte_arrive (s : State) (t : Time) (a : Nat) : (s.arrive t).byte a = s.byte a := byte_of_mem (arrive_mem s t) a

@[simp] theorem byte_settle (s : State) (a : Nat) : (settle s).byte a = s.byte a := byte_of_mem (settle_mem s) a

@[simp] theorem word_arrive (s : State) (t : Time) (a : Nat) : (s.arrive t).word a = s.word a := by simp [State.word]

theorem setBytes_eq (a : Nat) (l : List Byte) (s : State) : s.setBytes a l = { s with mem := (s.setBytes a l).mem } := by
  induction l generalizing a s with
  | nil => rfl
  | cons b r ih => rw [State.setBytes, ih, State.setByte]

theorem byte_setWord_other {a x : Nat} (w : Word) (h : x < a ∨ a + 4 ≤ x) : (s.setWord a w).byte x = s.byte x :=
  byte_setBytes_other s a x (wordBytes w) h

theorem length_bytes (s : State) (a n : Nat) : (s.bytes a n).length = n := by simp [State.bytes]

theorem getElem_bytes {a n k : Nat} (h : k < (s.bytes a n).length) : (s.bytes a n)[k] = s.byte (a + k) := by simp [State.bytes]

/-! ### Channels -/

theorem dmaCh_of_msys {u v : State} (h : u.msys.dma = v.msys.dma) (c : Nat) : u.dmaCh c = v.dmaCh c := by
  rw [State.dmaCh, State.dmaCh, h]

@[simp] theorem dmaCh_arrive (s : State) (t : Time) (c : Nat) : (s.arrive t).dmaCh c = s.dmaCh c := dmaCh_of_msys (by simp) c

@[simp] theorem dmaCh_settle (s : State) (c : Nat) : (settle s).dmaCh c = s.dmaCh c := dmaCh_of_msys (by simp) c

theorem dmaCh_setDma_same (c : Nat) (d : Dma) (s : State) : (setDma c d s).dmaCh c = d := by
  rw [State.dmaCh, setDma, afind_aput_same]
  rfl

theorem dmaCh_setDma_other {c k : Nat} (d : Dma) (s : State) (h : k ≠ c) : (setDma c d s).dmaCh k = s.dmaCh k := by
  rw [State.dmaCh, setDma, afind_aput_other _ _ h]
  rfl

theorem byte_setDma (c : Nat) (d : Dma) (s : State) (x : Nat) : (setDma c d s).byte x = s.byte x := rfl

theorem dmaCh_setIrq (n : Nat) (on : Bool) (s : State) (c : Nat) : (setIrq n on s).dmaCh c = s.dmaCh c := rfl

theorem setDma_eq (c : Nat) (d : Dma) (s : State) : setDma c d s = { s with msys := { s.msys with dma := (setDma c d s).msys.dma } } := rfl

@[simp] theorem descriptorAt_arrive (s : State) (t : Time) (a : Nat) : descriptorAt (s.arrive t) a = descriptorAt s a := by
  simp [descriptorAt]

theorem descriptorAt_of_mem {u v : State} (h : u.mem = v.mem) (a : Nat) : descriptorAt u a = descriptorAt v a := by
  simp only [descriptorAt, State.word, byte_of_mem h]

@[simp] theorem inDram_arrive (s : State) (t : Time) (a n : Nat) : inDram (s.arrive t) a n = inDram s a n := by simp [inDram]

@[simp] theorem sramSize_arrive (s : State) (t : Time) : sramSize (s.arrive t) = sramSize s := by simp [sramSize]

@[simp] theorem dmaPlace_arrive (s : State) (t : Time) (x : Nat × Nat) (n : Nat) : dmaPlace (s.arrive t) x n = dmaPlace s x n := by
  simp only [dmaPlace, inDram_arrive, sramSize_arrive]

@[simp] theorem dmaPlacesOk_arrive (s : State) (t : Time) (d : Descriptor) : dmaPlacesOk (s.arrive t) d = dmaPlacesOk s d := by
  simp [dmaPlacesOk]

/-! ### START and STOP (R451) -/

theorem execDmaStart_idle {a : Agent} {c : Nat} (hc : c < 8) (hup : s.memoryUp = true) (hagent : writes a = true)
    (hidle : (s.dmaCh c).state ≠ 1) : execDmaStart t a c s = .next (settle (fetchDesc c
      ((s.reg (rMemDmaHeadLo + c * 0x400)).toNat / 32 * 32 + (s.reg (rMemDmaHeadHi + c * 0x400)).toNat * 2 ^ 32)
      (setDma c { s.dmaCh c with error := 0 } (setIrq (96 + c) false (s.arrive t))))) := by
  rw [execDmaStart, onInst_of hc, dmaStart]
  simp [hup, hagent, hidle, State.reg]

theorem execDmaStop_running {a : Agent} {c : Nat} (hc : c < 8) (hup : s.memoryUp = true) (hagent : writes a = true)
    (hruns : (s.dmaCh c).state = 1) : execDmaStop t a c s = .next (settle (setDma c { s.dmaCh c with stop := true } (s.arrive t))) := by
  rw [execDmaStop, onInst_of hc, dmaStop]
  simp [hup, hagent, hruns]

/-! ### A descriptor that copies DRAM to DRAM (R450) -/

/-- In DRAM an address inside the DRAM fitted is a place (R427, R437). -/
theorem dmaPlace_dram {b n : Nat} (h : (dmaPlace s (0, b) n).isSome = true) : dmaPlace s (0, b) n = some (dramBase + b) := by
  simp only [dmaPlace] at h ⊢
  split
  · rfl
  · next hout => simp [hout] at h

theorem dmaPlacesOk_dram {a b : Nat} {d : Descriptor} (hsrc : d.src = (0, a)) (hdst : d.dst = (0, b)) (h : dmaPlacesOk s d = true) :
    dmaPlace s (0, a) d.length = some (dramBase + a) ∧ dmaPlace s (0, b) d.length = some (dramBase + b) := by
  simp only [dmaPlacesOk, hsrc, hdst, Bool.and_eq_true] at h
  obtain ⟨⟨-, hsrc'⟩, hdst'⟩ := h
  exact ⟨dmaPlace_dram (by simpa using hsrc'), dmaPlace_dram (by simpa using hdst')⟩

theorem dmaFromMemory_dram {a b c : Nat} {d : Descriptor} (hsrc : d.src = (0, a)) (hdst : d.dst = (0, b))
    (hplaces : dmaPlacesOk s d = true) : dmaFromMemory c d none s =
      dmaDone c d.length d (s.setBytes (dramBase + b) (s.bytes (dramBase + a) d.length)) := by
  obtain ⟨hfrom, hto⟩ := dmaPlacesOk_dram hsrc hdst hplaces
  simp [dmaFromMemory, dmaDeliver, hsrc, hdst, hfrom, hto, length_bytes]

theorem writeDesc_eq (c : Nat) (keepValid done : Bool) (error moved : Nat) (s : State) :
    writeDesc c keepValid done error moved s = { s with mem := (writeDesc c keepValid done error moved s).mem } := by
  rw [writeDesc, State.setWord, setBytes_eq, State.setWord, setBytes_eq]

/-- Only the first and the last word of the descriptor in hand are written. -/
theorem byte_writeDesc {c x : Nat} {keepValid done : Bool} {error moved : Nat}
    (h : x < dramBase + (s.dmaCh c).desc ∨ dramBase + (s.dmaCh c).desc + 32 ≤ x) :
    (writeDesc c keepValid done error moved s).byte x = s.byte x := by
  rw [writeDesc, byte_setWord_other _ (by omega), byte_setWord_other _ (by omega)]

theorem dmaDone_last {c n : Nat} {d : Descriptor} (hlast : d.last = true) (hirq : d.irq = false) : dmaDone c n d s =
    setDma c { s.dmaCh c with state := 0, stop := false, stallAt := none } (writeDesc c false true 0 n s) := by
  simp [dmaDone, hlast, hirq]

theorem execDmaDescriptorDone_dram {a b c : Nat} {d : Descriptor} (hc : c < 8) (hup : s.memoryUp = true) (hruns : (s.dmaCh c).state = 1)
    (hdesc : descriptorAt s (s.dmaCh c).desc = d) (hsrc : d.src = (0, a)) (hdst : d.dst = (0, b)) (hlast : d.last = true) (hirq : d.irq = false)
    (hplaces : dmaPlacesOk s d = true) : ∃ v : State, v = (s.arrive t).setBytes (dramBase + b) (s.bytes (dramBase + a) d.length) ∧
      execDmaDescriptorDone t c none s = .next (settle
        (setDma c { v.dmaCh c with state := 0, stop := false, stallAt := none } (writeDesc c false true 0 d.length v))) := by
  have hbytes : (s.arrive t).bytes (dramBase + a) d.length = s.bytes (dramBase + a) d.length := by simp [State.bytes]
  refine ⟨_, rfl, ?_⟩
  rw [execDmaDescriptorDone, onInst_of hc]
  simp only [memoryUp_arrive, hup, dmaCh_arrive, hruns, descriptorAt_arrive, hdesc, dmaPlacesOk_arrive, hplaces, hsrc]
  rw [if_neg (by decide), if_neg (by decide), if_neg (by decide), ite_self,
    dmaFromMemory_dram hsrc hdst (by rwa [dmaPlacesOk_arrive]), hbytes, dmaDone_last hlast hirq]

/-! ### A descriptor whose addresses do not fit (R451) -/

theorem evrPush_msys (r : EvRecord) (s : State) : (evrPush r s).msys = s.msys := by rw [evrPush_eq]

theorem placeNew_msys (f : HFrame) (s : State) : (placeNew f s).msys = s.msys := by
  unfold placeNew
  split
  · rfl
  · split
    · split
      · exact bump_msys ..
      · exact raiseFatal_msys ..
    · split
      · rfl
      · exact raiseFatal_msys ..

theorem msys_ite {c : Prop} [Decidable c] {u v : State} (hu : u.msys = s.msys) (hv : v.msys = s.msys) : (if c then u else v).msys = s.msys := by
  split
  · exact hu
  · exact hv

theorem placeFrame_msys (unit code rank arg : Nat) (s : State) : (placeFrame unit code rank arg s).msys = s.msys := by
  unfold placeFrame
  dsimp only
  split
  · exact bump_msys ..
  · split
    · refine msys_ite ?_ (bump_msys ..)
      rw [placeNew_msys, bump_msys]
    · exact placeNew_msys ..

theorem report_msys (r : Report) (s : State) : (report r s).msys = s.msys := by
  simp only [report, shown_eq]
  split
  · refine msys_ite ?_ rfl
    rw [placeFrame_msys, bump_msys, errRecord, evrPush_msys]
    rfl
  · refine msys_ite (bump_msys ..) (msys_ite ?_ ?_)
    · rw [placeFrame_msys, errRecord, evrPush_msys]
      rfl
    · rw [errRecord, evrPush_msys]
      rfl

theorem dropped_msys (block inst code rank : Nat) (s : State) : (dropped block inst code rank s).msys = s.msys := report_msys _ _

theorem dmaIrq_dmaCh (c : Nat) (s : State) (k : Nat) : (dmaIrq c s).dmaCh k = s.dmaCh k := by
  rw [dmaIrq]
  split <;> rfl

theorem dmaError_dmaCh (c e n : Nat) (s : State) :
    (dmaError c e n s).dmaCh c = { s.dmaCh c with state := 2, error := e, stop := false, stallAt := none } := by
  rw [dmaError, dmaIrq_dmaCh, dmaCh_of_msys (congrArg Mem.dma (dropped_msys ..)), dmaCh_of_msys (congrArg Mem.dma (bump_msys ..)),
    dmaCh_setDma_same]

theorem dmaError_byte {c e n x : Nat} (h : x < dramBase + (s.dmaCh c).desc ∨ dramBase + (s.dmaCh c).desc + 32 ≤ x) :
    (dmaError c e n s).byte x = s.byte x := by
  rw [dmaError, byte_of_anchor (dmaIrq_anchor ..), byte_of_anchor (dropped_anchor ..), byte_of_anchor (bump_anchor ..),
    byte_of_anchor (setDma_anchor ..)]
  exact byte_writeDesc h

theorem execDmaDescriptorDone_misfit {c : Nat} {p : Option Nat} (hc : c < 8) (hup : s.memoryUp = true) (hruns : (s.dmaCh c).state = 1)
    (hplaces : dmaPlacesOk s (descriptorAt s (s.dmaCh c).desc) = false) :
    execDmaDescriptorDone t c p s = .next (settle (dmaError c 2 0 (s.arrive t))) := by
  rw [execDmaDescriptorDone, onInst_of hc]
  simp [hup, hruns, hplaces]

end

/-- Settles O30, clause by clause. -/
theorem dmaChannels : Obligations.DmaChannels := by
  unfold Obligations.DmaChannels
  refine ⟨?start, ?stop, ?copy, ?misfit⟩
  case start =>
    intro t a c h s hc hup hagent hidle hh
    subst hh
    refine ⟨_, execDmaStart_idle hc hup hagent hidle, ?_, fun k hk => ?_, (settle_eq _).trans ?_⟩
    · rw [dmaCh_settle, fetchDesc, dmaCh_setDma_same, dmaCh_setDma_same]
      rw [descriptorAt_of_mem (v := s) (by simp [setDma, setIrq])]
    · rw [dmaCh_settle, fetchDesc, dmaCh_setDma_other _ _ hk, dmaCh_setDma_other _ _ hk, dmaCh_setIrq, dmaCh_arrive]
    · rw [fetchDesc, setDma_eq, setDma_eq, setIrq]
      simp
  case stop =>
    intro t a c s hc hup hagent hruns
    refine ⟨_, execDmaStop_running hc hup hagent hruns, ?_, fun k hk => ?_, (settle_eq _).trans ?_⟩
    · rw [dmaCh_settle, dmaCh_setDma_same]
    · rw [dmaCh_settle, dmaCh_setDma_other _ _ hk, dmaCh_arrive]
    · rw [setDma_eq]
      simp
  case copy =>
    intro t c a b n D d s hc hup hruns hD hdesc hsrc hdst hlength hlast hirq hplaces
    obtain ⟨v, hv, hexec⟩ := execDmaDescriptorDone_dram (t := t) hc hup hruns hdesc hsrc hdst hlast hirq hplaces
    subst hlength hD
    have hch : v.dmaCh c = s.dmaCh c := by
      rw [hv, setBytes_eq]
      exact dmaCh_arrive ..
    have hbyte : ∀ x, x < dramBase + (s.dmaCh c).desc ∨ dramBase + (s.dmaCh c).desc + 32 ≤ x →
        (setDma c { v.dmaCh c with state := 0, stop := false, stallAt := none } (writeDesc c false true 0 d.length v)).byte x = v.byte x :=
      fun x hx => (byte_setDma ..).trans (byte_writeDesc (by rwa [hch]))
    refine ⟨_, hexec, ?_, fun k hk hx => ?_, fun x hx hx' => ?_, (settle_eq _).trans ?_⟩
    · rw [dmaCh_settle, dmaCh_setDma_same]
    · rw [byte_settle, hbyte _ hx, hv, byte_setBytes_in _ _ _ _ (by rwa [length_bytes]), getElem_bytes]
    · rw [byte_settle, hbyte _ hx', hv, byte_setBytes_other _ _ _ _ (by rwa [length_bytes]), byte_arrive]
    · rw [setDma_eq, writeDesc_eq, hv, setBytes_eq]
      simp
  case misfit =>
    intro t c p s hc hup hruns hplaces
    refine ⟨_, execDmaDescriptorDone_misfit hc hup hruns hplaces, ?_, ?_, fun x hx => ?_⟩
    · rw [dmaCh_settle, dmaError_dmaCh]
    · rw [dmaCh_settle, dmaError_dmaCh]
    · rw [byte_settle, dmaError_byte (by rwa [dmaCh_arrive]), byte_arrive]

end Sys2Proof.Machine

/-! PROOFS. The items of a quay (R443 to R449): claims, words, poison, delivery, drop-remainder and flush. -/

namespace Sys2Proof.Machine
open Sys2Proof Host

section
variable {s : State} {t : Time} {a : Agent} {q : Nat}

/-! ### One quay and the others -/

theorem quay_of_msys {u v : State} (h : u.msys.quays = v.msys.quays) (q : Nat) : u.quay q = v.quay q := by
  rw [State.quay, State.quay, h]

@[simp] theorem quay_settle (s : State) (q : Nat) : (settle s).quay q = s.quay q := quay_of_msys (by simp) q

@[simp] theorem quay_bumpBy (c : Counter) (i n : Nat) (s : State) (q : Nat) : (bumpBy c i n s).quay q = s.quay q :=
  quay_of_msys (by rw [bumpBy, State.setReg]) q

@[simp] theorem quay_bump (c : Counter) (i : Nat) (s : State) (q : Nat) : (bump c i s).quay q = s.quay q := quay_of_msys (by rw [bump_msys]) q

theorem quay_setQuay_same (k : Quay) (s : State) : (setQuay q k s).quay q = { k with wm := ((setQuay q k s).quay q).wm } := by
  rw [State.quay, setQuay, afind_aput_same]
  rfl

theorem quay_setQuay_other {j : Nat} (k : Quay) (s : State) (h : j ≠ q) : (setQuay q k s).quay j = s.quay j := by
  rw [State.quay, setQuay, afind_aput_other _ _ h]
  rfl

theorem setQuay_eq (q : Nat) (k : Quay) (s : State) :
    setQuay q k s = { s with msys := { s.msys with quays := (setQuay q k s).msys.quays } } := rfl

theorem count_setQuay (k : Quay) (s : State) (c : Counter) (i : Nat) : (setQuay q k s).count c i = s.count c i := rfl

@[simp] theorem produces_arrive (s : State) (t : Time) (a : Agent) (q : Nat) : produces (s.arrive t) a q = produces s a q := by
  simp [produces]

@[simp] theorem quayCap_arrive (s : State) (t : Time) (q : Nat) : quayCap (s.arrive t) q = quayCap s q := by simp [quayCap]

@[simp] theorem quayUsed_arrive (s : State) (t : Time) (q : Nat) : quayUsed (s.arrive t) q = quayUsed s q := by simp [quayUsed]

/-- The agent named acts as the producer. -/
theorem asProducer_is (f : State → State) (hup : s.packetUp = true) (hproduces : produces s a q = true) :
    asProducer a q f (s.arrive t) = f (s.arrive t) := by
  simp [asProducer, packetUp_arrive, hup, hproduces]

theorem asConsumer_is (f : State → State) (hup : s.packetUp = true) (hconsumes : consumes s a q = true) :
    asConsumer a q f (s.arrive t) = f (s.arrive t) := by
  simp [asConsumer, packetUp_arrive, consumes_arrive, hup, hconsumes]

/-! ### What each operation leaves (R444 to R449) -/

theorem claimQuay_granted {n : Nat} (hnone : (s.quay q).opened = none) (hlow : 1 ≤ n) (hhigh : n ≤ 16384)
    (hroom : quayUsed s q - (s.quay q).claim + readWordsOf n ≤ quayCap s q) :
    (claimQuay q n s).2 = setQuay q { s.quay q with claim := readWordsOf n } s := by
  have hfits : ¬(n = 0 ∨ 16384 < n ∨ quayCap s q < quayUsed s q - (s.quay q).claim + readWordsOf n) := by omega
  simp only [claimQuay, hnone, Option.isSome_none, Bool.false_eq_true, if_false, if_neg hfits]

theorem claimQuay_refused {n : Nat} (hnone : (s.quay q).opened = none)
    (hfull : quayCap s q < quayUsed s q - (s.quay q).claim + readWordsOf n) : (claimQuay q n s).2 = bump cQuayClaimRefuse q s := by
  have hover : n = 0 ∨ 16384 < n ∨ quayCap s q < quayUsed s q - (s.quay q).claim + readWordsOf n := .inr (.inr hfull)
  simp only [claimQuay, hnone, Option.isSome_none, Bool.false_eq_true, if_false, if_pos hover]

/-- A word with good parity enters the item that is open, or opens one, within the claim. -/
theorem putWord_good {w : Word} {n : Nat} {last : Bool} {o : QItem} (hopen : (s.quay q).opened.getD ⟨[], 0, false, false⟩ = o)
    (hwhole : o.dropped = false) (hclaim : o.words.length + 1 ≤ (s.quay q).claim * 8) : putWord q w n true last s =
      let o1 : QItem := { o with words := o.words ++ [if n < 4 then BitVec.ofNat 32 (w.toNat % 2 ^ (8 * n)) else w], octets := o.octets + n }
      if last then setQuay q { s.quay q with items := (s.quay q).items ++ [o1], claim := 0, opened := none } s
      else setQuay q { s.quay q with opened := some o1 } s := by
  simp [putWord, hopen, hwhole, Nat.not_lt.mpr hclaim]

/-- A sound head item: its last word ends it, another word leaves it begun. -/
theorem takeWord_sound {i : QItem} {r : List QItem} (hitems : (s.quay q).items = i :: r) (hsound : i.poison = false) :
    takeWord q none s = if i.readWords ≤ (s.quay q).read + 1 then setQuay q { s.quay q with items := r, read := 0, begun := false } s
      else setQuay q { s.quay q with read := (s.quay q).read + 1, begun := true } s := by
  obtain ⟨words, octets, poison, dropped⟩ := i
  cases (hsound : poison = false)
  simp [takeWord, hitems, beginItem]

theorem dropItem_sound {i : QItem} {r : List QItem} (hitems : (s.quay q).items = i :: r) (hsound : i.poison = false) :
    dropItem q s = bump cQuayRemainderDrop q (setQuay q { s.quay q with items := r, read := 0, begun := false } s) := by
  simp [dropItem, hitems, hsound, beginItem]

theorem flushQuay_idle (hbegun : (s.quay q).begun = false) (hnone : (s.quay q).opened = none) :
    flushQuay q s = bumpBy cQuayFlushItems q (s.quay q).items.length (setQuay q { s.quay q with items := [] } s) := by
  simp [flushQuay, hbegun, hnone]

/-! ### The commands -/

/-- A command that replaces quay `q` by `k` and evaluates its watermark changes no other quay and nothing else. -/
theorem quay_replaced {x : Outcome State Fault Refusal} {k : Quay} (hx : x = .next (settle (setQuay q k (s.arrive t)))) :
    ∃ u, x = .next u ∧ u.quay q = { k with wm := (u.quay q).wm } ∧ (∀ j, j ≠ q → u.quay j = s.quay j) ∧
      u = { s with clock := u.clock, hlt := u.hlt, msys := { s.msys with quays := u.msys.quays } } := by
  refine ⟨_, hx, ?_, fun j hj => ?_, (settle_eq _).trans ?_⟩
  · rw [quay_settle]
    exact quay_setQuay_same ..
  · rw [quay_settle, quay_setQuay_other _ _ hj, quay_arrive]
  · rw [setQuay_eq]
    simp

/-- The same where the command counts `n` in counter `c` of quay `q`. -/
theorem quay_replaced_counted {x : Outcome State Fault Refusal} {k : Quay} {c : Counter} {n : Nat}
    (hx : x = .next (settle (bumpBy c q n (setQuay q k (s.arrive t))))) :
    ∃ u, x = .next u ∧ u.quay q = { k with wm := (u.quay q).wm } ∧ (∀ j, j ≠ q → u.quay j = s.quay j) ∧
      u.count c q = min 0xFFFFFFFF (s.count c q + n) ∧
      u = { s with clock := u.clock, hlt := u.hlt, regs := u.regs, msys := { s.msys with quays := u.msys.quays } } := by
  refine ⟨_, hx, ?_, fun j hj => ?_, ?_, (settle_eq _).trans ?_⟩
  · rw [quay_settle, quay_bumpBy]
    exact quay_setQuay_same ..
  · rw [quay_settle, quay_bumpBy, quay_setQuay_other _ _ hj, quay_arrive]
  · rw [count_settle, count_bumpBy, count_setQuay, count_arrive]
  · rw [bumpBy, State.setReg, setQuay_eq]
    simp

end

/-- Settles O29, clause by clause: the producer's commands, the consumer's, and the flush. -/
theorem quayItems : Obligations.QuayItems := by
  unfold Obligations.QuayItems
  refine ⟨?claim, ?refused, ?word, ?wordEnd, ?poison, ?last, ?next, ?drop, ?flush⟩
  case claim =>
    intro t a q n s hq hup hproduces hnone hlow hhigh hroom
    refine quay_replaced (t := t) (k := { s.quay q with claim := readWordsOf n }) ?_
    rw [exec_quayClaim, execQuayClaim, onInst_of hq, asProducer_is _ hup hproduces, claimQuay_granted (by simpa) hlow hhigh (by simpa),
      quay_arrive]
  case refused =>
    intro t a q n s hq hup hproduces hnone hfull
    refine ⟨settle (bump cQuayClaimRefuse q (s.arrive t)), ?_, ?_, (settle_eq _).trans ?_⟩
    · rw [exec_quayClaim, execQuayClaim, onInst_of hq, asProducer_is _ hup hproduces, claimQuay_refused (by simpa) (by simpa)]
    · rw [count_settle, count_bump, count_arrive]
    · rw [bump_eq]
      simp
  case word =>
    intro t a q w s hq hup hproduces hnone hclaim
    refine quay_replaced (t := t) (k := { s.quay q with opened := some ⟨[w], 4, false, false⟩ }) ?_
    rw [exec_quayWrWord, execQuayWrWord, onInst_of hq, asProducer_is _ hup hproduces, putWord_good (o := ⟨[], 0, false, false⟩)]
    · simp
    · simp [hnone]
    · rfl
    · simp only [quay_arrive, List.length_nil]
      omega
  case wordEnd =>
    intro t a q n w o s hq hlow hhigh hup hproduces hopen hwhole hclaim
    refine quay_replaced (t := t) (k := { s.quay q with
      items := (s.quay q).items ++ [{ o with
        words := o.words ++ [if n < 4 then BitVec.ofNat 32 (w.toNat % 2 ^ (8 * n)) else w], octets := o.octets + n }]
      claim := 0, opened := none }) ?_
    rw [exec_quayWrEnd, execQuayWrEnd, decide_eq_true hq, Bool.true_and, onInst_of ⟨hlow, hhigh⟩, asProducer_is _ hup hproduces,
      putWord_good (by simp [hopen]) hwhole (by simpa), quay_arrive]
    rfl
  case poison =>
    intro t a q o s hq hup hproduces hopen
    refine quay_replaced (t := t) (k := { s.quay q with opened := some { o with poison := true } }) ?_
    rw [exec_quayWrPoison, execQuayWrPoison, onInst_of hq, asProducer_is _ hup hproduces, poisonItem, quay_arrive, hopen]
    rfl
  case last =>
    intro t a q i r s hq hup hconsumes hitems hsound hlast
    refine quay_replaced (t := t) (k := { s.quay q with items := r, read := 0, begun := false }) ?_
    rw [exec_quayRdNext, execQuayRdNext, decide_eq_true hq, asConsumer_is _ hup hconsumes, takeWord_sound (by simpa) hsound, quay_arrive,
      if_pos hlast]
    rfl
  case next =>
    intro t a q i r s hq hup hconsumes hitems hsound hmore
    refine quay_replaced (t := t) (k := { s.quay q with read := (s.quay q).read + 1, begun := true }) ?_
    rw [exec_quayRdNext, execQuayRdNext, decide_eq_true hq, asConsumer_is _ hup hconsumes, takeWord_sound (by simpa) hsound, quay_arrive,
      if_neg (Nat.not_le.mpr hmore)]
    rfl
  case drop =>
    intro t a q i r s hq hup hconsumes hitems hsound
    refine quay_replaced_counted (t := t) (k := { s.quay q with items := r, read := 0, begun := false }) ?_
    rw [exec_quayRdDrop, execQuayRdDrop, onInst_of hq, asConsumer_is _ hup hconsumes, dropItem_sound (by simpa) hsound, quay_arrive, bump]
  case flush =>
    intro t a q s hq hup hagent hbegun hnone
    refine quay_replaced_counted (t := t) (k := { s.quay q with items := [] }) ?_
    rw [exec_quayFlush, execQuayFlush, onInst_of hq]
    simp only [packetUp_arrive, hup, hagent, Bool.and_self, if_true]
    rw [flushQuay_idle (by simpa) (by simpa), quay_arrive]

end Sys2Proof.Machine

/-! PROOFS. Node campaigns on a solo device (R418, R419, R423): the commands by the campaign they find, and the round that begins. -/

namespace Sys2Proof.Machine
open Sys2Proof Host

section
variable {s : State} {t : Time} {d : Nat}

/-! ### A command of a solo device that ends (R316, R317) -/

/-- A command that leaves `v` and ends with `e`: its outcome enters the journal, and beside what `v` changed only the downlink ring, the
journal with its ceiling, and Ferry move. -/
theorem ended_sole {c : Nat} {v : State} {e : Ending} {x : Outcome State Fault Refusal} (h : soloCommand s d c)
    (hx : x = .next (settle (finish d e v))) (hpair : v.pair = s.pair) (hdl : v.dl = s.dl) (hjrn : v.jrn = s.jrn) :
    ∃ u, x = .next u ∧ outcomes u = outcomes s ++ [(3, d, e.outcome, e.cause)] ∧
      u = { v with hlt := u.hlt, dl := u.dl, jrn := u.jrn, flash := u.flash, fry := u.fry, sent := u.sent } := by
  obtain ⟨r, hsole⟩ := soleCommand_of h
  have hsole' : SoleCommand d r v := hsole.of_eq hpair hdl
  refine ⟨_, hx, ?_, ?_⟩
  · rw [outcomes_congr (settle_jrn _), outcomes_finish_sole hsole' e, outcomes_congr hjrn]
  · rw [settle_eq, finish_sole hsole' e]

/-! ### What arrival leaves of the campaigns -/

@[simp] theorem campPlace_arrive (s : State) (t : Time) (n : Nat) : campPlace (s.arrive t) n = campPlace s n := by simp [campPlace]

@[simp] theorem fragAddress_arrive (s : State) (t : Time) (k : Camp) (f : Nat) : fragAddress (s.arrive t) k f = fragAddress s k f := by
  simp [fragAddress, State.base, State.reg]

@[simp] theorem indexOf_arrive (s : State) (t : Time) (e : Eui) : (s.arrive t).indexOf e = s.indexOf e := by simp [State.indexOf]

/-! ### The commands -/

/-- Campaign `x` as CAMP_DEFINE enters it at base `b` (R418). -/
def newCamp (x : CampDef) (b : Nat) : Camp :=
  { defn := x, state := .loading, frags := [], base := b, size := fragsOf x * 64, round := 0, cursor := 0, opened := none, list := [], repairs := [] }

theorem execCampDefine_placed {a : List Byte} {b : Nat} (hargs : s.argsOf d 0x110 = some a)
    (hplace : campPlace s (fragsOf (campDefRead a) * 64) = some b) (hok : campDefOk (campDefRead a) = true)
    (hfree : afind s.camps (campDefRead a).campaign = none)
    (hkey : (keyAt s 5 (campDefRead a).keyId).any (fun k => k.status == .live) = true) : execCampDefine t d s =
      .next (settle (finish d .acked { s.arrive t with camps := aput s.camps (campDefRead a).campaign (newCamp (campDefRead a) b) })) := by
  rw [execCampDefine, onInst_true]
  simp [argsOf_arrive, hargs, hplace, hok, hfree, hkey, newCamp]

/-- The state with fragment `f` of campaign `c`, the data of item `a`, in the campaign store (R419). -/
def storeFragment (c f : Nat) (k : Camp) (a : List Byte) (s : State) : State := { s with
  mem := (s.setBytes (fragAddress s k f) ((a.drop 8).take 64)).mem
  camps := amod s.camps c fun k => { k with frags := k.frags ++ [f] } }

theorem afind_storeFragment {c f : Nat} {k : Camp} {a : List Byte} (hcamp : afind s.camps c = some k) :
    afind (storeFragment c f k a s).camps c = some { k with frags := k.frags ++ [f] } := by
  simp [storeFragment, afind_amod_same, hcamp]

theorem storeFragment_eq (c f : Nat) (k : Camp) (a : List Byte) (s : State) : storeFragment c f k a s =
    { s with mem := (storeFragment c f k a s).mem, camps := (storeFragment c f k a s).camps } := rfl

theorem setBytes_mem_congr {u v : State} (h : u.mem = v.mem) (x : Nat) (l : List Byte) : (u.setBytes x l).mem = (v.setBytes x l).mem := by
  induction l generalizing x u v with
  | nil => exact h
  | cons b r ih => exact ih (by rw [State.setByte, State.setByte, h]) _

theorem storeFragment_arrive_mem (c f : Nat) (k : Camp) (a : List Byte) :
    (storeFragment c f k a (s.arrive t)).mem = (s.setBytes (fragAddress s k f) ((a.drop 8).take 64)).mem := by
  rw [storeFragment, fragAddress_arrive]
  exact setBytes_mem_congr (arrive_mem s t) _ _

theorem execCampData_placed {a : List Byte} {c f : Nat} {k : Camp} (hargs : s.argsOf d 0x111 = some a) (hc : octetAt a 0 = c)
    (hone : octetAt a 1 = 1) (hf : beAt a 4 4 = f) (hcamp : afind s.camps c = some k) (hloading : k.state = .loading)
    (hnone : k.frags = []) (hin : f < fragsOf k.defn) :
    execCampData t d s = .next (settle (finish d .acked (campLoaded c (storeFragment c f k a (s.arrive t))))) := by
  subst hc hf
  have hfits : ¬(k.state ≠ .loading ∨ fragsOf k.defn < beAt a 4 4 + 1) := by
    simp only [hloading, ne_eq, not_true, false_or]
    omega
  rw [execCampData, onInst_true]
  simp only [argsOf_arrive, hargs, arrive_camps, hcamp, hone, if_neg hfits]
  rw [storeFragment, setBytes_eq]
  simp [hnone]

theorem campLoaded_more {c : Nat} {k : Camp} (hcamp : afind s.camps c = some k) (hmore : k.frags.length < fragsOf k.defn) :
    campLoaded c s = s := by
  simp [campLoaded, hcamp, hmore]

/-- The state of a campaign whose fragments have all arrived. -/
def loadedState (s : State) (k : Camp) : CampState := if campDigestOk s k then .ready else .failed

/-- The last fragment has arrived: the digest decides, and a failed one is an event (R419). -/
theorem campLoaded_last {c : Nat} {k : Camp} (hcamp : afind s.camps c = some k) (hall : fragsOf k.defn ≤ k.frags.length) :
    ∃ v : State, v = { s with regs := v.regs, evr := v.evr, free := v.free } ∧
      (∀ x, x ≠ cEvrInputOvf.addr 0 ∧ x ≠ cEvrOverwrite.addr 0 → v.reg x = s.reg x) ∧
      campLoaded c s = { v with camps := amod s.camps c fun j => { j with state := loadedState s k } } := by
  by_cases hok : campDigestOk s k
  · exact ⟨s, rfl, fun _ _ => rfl, by simp [campLoaded, hcamp, Nat.not_lt.mpr hall, loadedState, hok]⟩
  · generalize hw : ({ s with camps := amod s.camps c fun j => { j with state := loadedState s k } } : State) = w
    have hloaded : campLoaded c s = occurs eUpdCampDigestFail w := by
      rw [← hw]
      simp [campLoaded, hcamp, Nat.not_lt.mpr hall, loadedState, hok]
    refine ⟨{ occurs eUpdCampDigestFail w with camps := s.camps }, ?_, fun x hx => ?_, ?_⟩
    · rw [occurs_eq, ← hw]
    · refine (reg_occurs eUpdCampDigestFail w hx).trans ?_
      rw [← hw]
      rfl
    · rw [hloaded, occurs_eq, ← hw]

theorem campDigestOk_congr {u v : State} (hmem : u.mem = v.mem) (hlo : u.reg rUpdCampBaseLo = v.reg rUpdCampBaseLo)
    (hhi : u.reg rUpdCampBaseHi = v.reg rUpdCampBaseHi) (k : Camp) : campDigestOk u k = campDigestOk v k := by
  have haddr : fragAddress u k 0 = fragAddress v k 0 := by rw [fragAddress, fragAddress, State.base, State.base, hlo, hhi]
  simp only [campDigestOk, haddr, State.bytes, byte_of_mem hmem]

theorem execCampMembers_ready {a : List Byte} {c i : Nat} {e : Eui} {k : Camp} (hargs : s.argsOf d 0x112 = some a) (hc : octetAt a 0 = c)
    (hmembers : membersRead a = [e]) (hcamp : afind s.camps c = some k) (hready : k.state = .ready) (hnode : s.indexOf e = some i)
    (hnew : afind s.prog i = none) : execCampMembers t d s =
      .next (settle (finish d .acked { s.arrive t with prog := aput s.prog i ⟨c, 1, 0, 0, [], 0⟩ })) := by
  subst hc
  rw [execCampMembers, onInst_true]
  simp [argsOf_arrive, hargs, hcamp, hready, hmembers, addMember, hnode, hnew]

theorem execCampStart_ready {a : List Byte} {c : Nat} {k : Camp} (hargs : s.argsOf d 0x113 = some a) (hc : octetAt a 0 = c)
    (hcamp : afind s.camps c = some k) (hstate : k.state = .ready ∨ k.state = .paused) : execCampStart t d s =
      .next (settle (finish d .acked { s.arrive t with camps := amod s.camps c fun k => { k with state := .running } })) := by
  subst hc
  rw [execCampStart, onInst_true]
  rcases hstate with h | h <;> simp [argsOf_arrive, hargs, hcamp, h]

/-- Without a booking only the campaign's queued floods go (R423). -/
theorem campStop_unbooked {c : Nat} (hnone : s.txm.bookings = []) :
    campStop c s = { s with fwd.floods := s.fwd.floods.filter fun f => f.camp != some c } := by
  simp [campStop, hnone]

theorem execCampPause_running {a : List Byte} {c : Nat} {k : Camp} (hargs : s.argsOf d 0x114 = some a) (hc : octetAt a 0 = c)
    (hcamp : afind s.camps c = some k) (hrunning : k.state = .running) : execCampPause t d s = .next (settle (finish d .acked
      (campStop c { s.arrive t with camps := amod s.camps c fun k => { k with state := .paused } }))) := by
  subst hc
  rw [execCampPause, onInst_true]
  simp [argsOf_arrive, hargs, hcamp, hrunning]

theorem execCampEnd_defined {a : List Byte} {c : Nat} {k : Camp} (hargs : s.argsOf d 0x115 = some a) (hc : octetAt a 0 = c)
    (hcamp : afind s.camps c = some k) : execCampEnd t d s = .next (settle (finish d .acked (campStop c { s.arrive t with
      camps := adel s.camps c, prog := s.prog.filter fun x => x.2.campaign != c }))) := by
  subst hc
  rw [execCampEnd, onInst_true]
  simp [argsOf_arrive, hargs, hcamp]

/-! ### The first round (R423) -/

/-- A member that takes part in the round and lacks a fragment keeps the campaign running. -/
theorem campSettle_lacking {c i : Nat} {k : Camp} {p : ProgRec} (hcamp : afind s.camps c = some k) (hprog : s.prog = [(i, p)])
    (hmember : p.campaign = c) (hactive : p.active k.round = true) (hlacks : p.haveUntil < fragsOf k.defn) : campSettle c s = s := by
  simp [campSettle, hcamp, membersOf, hprog, hmember, hactive, Nat.not_le.mpr hlacks]

/-- Campaign `k` in its first round, begun on day `w` of its window. -/
def firstRound (k : Camp) (w : Nat) : Camp :=
  { k with round := 1, cursor := 0, opened := some w, list := List.range (fragsOf k.defn), repairs := [] }

theorem roundBegin_first {c i : Nat} {k : Camp} {p : ProgRec} (hround : k.round = 0) (hprog : s.prog = [(i, p)])
    (hmember : p.campaign = c) (hactive : p.active 1 = true) (hlacks : p.haveUntil < fragsOf k.defn) :
    roundBegin c k s = { s with camps := aput s.camps c (firstRound k (windowDay s k.defn)) } := by
  have hsettled : campSettle c { s with camps := aput s.camps c (firstRound k (windowDay s k.defn)) } =
      { s with camps := aput s.camps c (firstRound k (windowDay s k.defn)) } :=
    campSettle_lacking (afind_aput_same ..) hprog hmember hactive hlacks
  rw [← hsettled]
  simp [roundBegin, firstRound, roundList, roundRepairs, hround]

theorem execCampWindowOpen_first {c i : Nat} {k : Camp} {p : ProgRec} (hc : c < 64) (hcamp : afind s.camps c = some k)
    (hrunning : k.state = .running) (hleads : s.leads = true) (hup : s.controlUp = true)
    (hwindow : windowOpen k.defn (s.arrive t).clock.now = true) (hopened : k.opened = none) (hlist : k.list = []) (hrepairs : k.repairs = [])
    (hfloods : s.fwd.floods = []) (hround : k.round = 0) (hmax : 1 ≤ k.defn.maxRounds) (hprog : s.prog = [(i, p)])
    (hmember : p.campaign = c) (hactive : p.active 1 = true) (hlacks : p.haveUntil < fragsOf k.defn) :
    execCampWindowOpen t c s =
      .next (settle { s.arrive t with camps := aput s.camps c (firstRound k (windowDay (s.arrive t) k.defn)) }) := by
  have hleft : decide (k.round < k.defn.maxRounds) = true := by
    rw [hround]
    exact decide_eq_true hmax
  rw [execCampWindowOpen, onInst_of hc]
  simp only [arrive_camps, hcamp, hrunning, leads_arrive, hleads, controlUp_arrive, hup, hwindow, hopened, hlist, hrepairs, arrive_fwd,
    hfloods, hleft]
  rw [if_pos (by rfl), roundBegin_first hround (by simpa using hprog) hmember hactive hlacks]
  simp only [arrive_camps, arrive_fwd]

end

/-- Settles O28, clause by clause: the commands in the order of R395, and the window. -/
theorem campaigns : Obligations.Campaigns := by
  unfold Obligations.Campaigns
  refine ⟨?define, ?data, ?lastData, ?members, ?start, ?pause, ?ends, ?window⟩
  case define =>
    intro t d b a x s hsole hargs hx hplace hok hfree hkey
    subst hx
    obtain ⟨u, hexec, hout, hu⟩ := ended_sole hsole (execCampDefine_placed (t := t) hargs hplace hok hfree hkey) (by simp) (by simp) (by simp)
    refine ⟨u, hexec, hout, ?_, ?_⟩
    · rw [hu, afind_aput_same]
      rfl
    · rw [hu, arrive_eq]
  case data =>
    intro t d c f a k s hsole hargs hc hone hf hcamp hloading hnone hin hmore
    have hx := execCampData_placed (t := t) hargs hc hone hf hcamp hloading hnone hin
    have hstored : afind (storeFragment c f k a (s.arrive t)).camps c = some { k with frags := k.frags ++ [f] } :=
      afind_storeFragment (by simpa using hcamp)
    rw [campLoaded_more hstored (by simp [hnone]; omega)] at hx
    obtain ⟨u, hexec, hout, hu⟩ := ended_sole hsole hx (by simp [storeFragment]) (by simp [storeFragment]) (by simp [storeFragment])
    refine ⟨u, hexec, hout, ?_, ?_, ?_⟩
    · rw [hu, hstored, hnone]
      rfl
    · rw [hu, storeFragment_arrive_mem]
    · rw [hu, storeFragment_eq, arrive_eq]
  case lastData =>
    intro t d c a k s hsole hargs hc hone hf hcamp hloading hnone honly
    have hx := execCampData_placed (t := t) hargs hc hone hf hcamp hloading hnone (by omega)
    have hstored : afind (storeFragment c 0 k a (s.arrive t)).camps c = some { k with frags := k.frags ++ [0] } :=
      afind_storeFragment (by simpa using hcamp)
    obtain ⟨v, hv, hreg, hloaded⟩ := campLoaded_last hstored (by simp [hnone, honly])
    rw [hloaded] at hx
    obtain ⟨u, hexec, hout, hu⟩ := ended_sole hsole hx (by rw [hv]; simp [storeFragment]) (by rw [hv]; simp [storeFragment])
      (by rw [hv]; simp [storeFragment])
    have hframe : v = { s with
        mem := v.mem, clock := v.clock, camps := v.camps, regs := v.regs, evr := v.evr, free := v.free } := by
      rw [hv, storeFragment_eq, arrive_eq]
    have hmem : u.mem = (storeFragment c 0 k a (s.arrive t)).mem := by rw [hu, hv]
    have hregs : u.regs = v.regs := by rw [hu]
    have hdigest : campDigestOk u k = campDigestOk (storeFragment c 0 k a (s.arrive t)) { k with frags := k.frags ++ [0] } := by
      refine (campDigestOk_congr hmem ?_ ?_ k).trans rfl
      · rw [State.reg, hregs]
        exact hreg _ (by decide)
      · rw [State.reg, hregs]
        exact hreg _ (by decide)
    refine ⟨u, hexec, hout, ?_, ?_, ?_⟩
    · rw [hmem, storeFragment_arrive_mem]
    · have hcamps : u.camps = amod (storeFragment c 0 k a (s.arrive t)).camps c
          fun j => { j with state := loadedState (storeFragment c 0 k a (s.arrive t)) { k with frags := k.frags ++ [0] } } := by rw [hu]
      rw [hcamps, afind_amod_of_some _ hstored, loadedState, ← hdigest, hnone]
      rfl
    · rw [hu, hframe]
  case members =>
    intro t d c i a e k s hsole hargs hc hmembers hcamp hready hnode hnew
    obtain ⟨u, hexec, hout, hu⟩ := ended_sole hsole (execCampMembers_ready (t := t) hargs hc hmembers hcamp hready hnode hnew)
      (by simp) (by simp) (by simp)
    refine ⟨u, hexec, hout, ?_, ?_⟩
    · rw [hu, afind_aput_same]
    · rw [hu, arrive_eq]
  case start =>
    intro t d c a k s hsole hargs hc hcamp hstate
    obtain ⟨u, hexec, hout, hu⟩ := ended_sole hsole (execCampStart_ready (t := t) hargs hc hcamp hstate) (by simp) (by simp) (by simp)
    refine ⟨u, hexec, hout, ?_, ?_⟩
    · rw [hu, afind_amod_of_some _ hcamp]
    · rw [hu, arrive_eq]
  case pause =>
    intro t d c a k s hsole hargs hc hcamp hrunning hunbooked
    have hx := execCampPause_running (t := t) hargs hc hcamp hrunning
    rw [campStop_unbooked (by simpa using hunbooked)] at hx
    obtain ⟨u, hexec, hout, hu⟩ := ended_sole hsole hx (by simp) (by simp) (by simp)
    refine ⟨u, hexec, hout, ?_, ?_, ?_⟩
    · rw [hu, afind_amod_of_some _ hcamp]
    · rw [hu, arrive_eq]
    · rw [hu, arrive_eq]
  case ends =>
    intro t d c a k s hsole hargs hc hcamp hunbooked
    have hx := execCampEnd_defined (t := t) hargs hc hcamp
    rw [campStop_unbooked (by simpa using hunbooked)] at hx
    obtain ⟨u, hexec, hout, hu⟩ := ended_sole hsole hx (by simp) (by simp) (by simp)
    refine ⟨u, hexec, hout, ?_, ?_, ?_⟩
    · rw [hu]
    · rw [hu]
    · rw [hu, arrive_eq]
  case window =>
    intro t c k s hc hcamp hrunning hleads hup hwindow hopened hlist hrepairs hfloods hround hmax i p hprog hmember hactive hlacks
    refine ⟨_, execCampWindowOpen_first hc hcamp hrunning hleads hup hwindow hopened hlist hrepairs hfloods hround hmax hprog hmember
      hactive hlacks, ?_, (settle_eq _).trans (by simp)⟩
    rw [settle_camps, afind_aput_same]
    simp [firstRound, hrunning]

end Sys2Proof.Machine

/-! PROOFS. The own update in staging (R400 to R406, R408, R410): its manifest, a part, a served piece, a piece that is written, and the
verification. -/

namespace Sys2Proof.Machine
open Sys2Proof Host

section
variable {s : State} {t : Time} {d : Nat}

/-! ### What arrival leaves of the update -/

@[simp] theorem pieceIn_arrive (s : State) (t : Time) (b : Bool) (p : Nat) : pieceIn (s.arrive t) b p = pieceIn s b p := by
  simp only [pieceIn, stagedIn, arrive_upd]

@[simp] theorem pieceHeld_arrive (s : State) (t : Time) (p : Nat) : pieceHeld (s.arrive t) p = pieceHeld s p := by
  simp only [pieceHeld, pieceIn_arrive]

@[simp] theorem fuseWord_arrive (s : State) (t : Time) (n : Nat) : fuseWord (s.arrive t) n = fuseWord s n := by simp [fuseWord]

@[simp] theorem keySlotLive_arrive (s : State) (t : Time) (n : Nat) : keySlotLive (s.arrive t) n = keySlotLive s n := by
  simp only [keySlotLive, fuseWord_arrive]

@[simp] theorem imageGen_arrive (s : State) (t : Time) : imageGen (s.arrive t) = imageGen s := by simp only [imageGen, arrive_start]

@[simp] theorem rollbackCount_arrive (s : State) (t : Time) : rollbackCount (s.arrive t) = rollbackCount s := by
  simp only [rollbackCount, fuseWord_arrive]

@[simp] theorem beginRefused_arrive (s : State) (t : Time) (m : Manifest) : beginRefused (s.arrive t) m = beginRefused s m := by
  simp only [beginRefused, imageGen_arrive, rollbackCount_arrive, keySlotLive_arrive, keyAt_arrive, arrive_upd]

theorem piecePlain_arrive (m : Manifest) (p : Nat) : piecePlain (s.arrive t) m p = piecePlain s m p := by
  simp only [piecePlain, pieceKey, persistentKey, keyAt_arrive, pieceOf, pieceIn_arrive, arrive_upd]

theorem updImage_arrive (m : Manifest) : updImage (s.arrive t) m = updImage s m := by simp only [updImage, piecePlain_arrive]

theorem stagedCheck_arrive (l : Octets) : stagedCheck (s.arrive t) l = stagedCheck s l := by
  simp only [stagedCheck, arrive_start, keySlotLive_arrive, keyHash, fuseWord_arrive, rollbackCount_arrive]

@[simp] theorem updVerdict_arrive (s : State) (t : Time) (m : Manifest) : updVerdict (s.arrive t) m = updVerdict s m := by
  simp only [updVerdict, updImage_arrive, stagedCheck_arrive]

/-! ### The manifest (R401) -/

theorem discardUpdate_eq (s : State) : discardUpdate s = { s with hlt := (discardUpdate s).hlt, upd := (discardUpdate s).upd } := by
  rw [discardUpdate, freeClampOf_eq, freeClampOf_eq]

/-- What stands in staging is discarded: no manifest, and no piece in a copy that is in use. -/
theorem discardUpdate_upd (s : State) : (discardUpdate s).upd.manifest = none ∧ (discardUpdate s).upd.state = .none ∧
    (s.upd.okA = true → (discardUpdate s).upd.heldA = []) ∧ (s.upd.okB = true → (discardUpdate s).upd.heldB = []) ∧
    (discardUpdate s).upd.okA = s.upd.okA ∧ (discardUpdate s).upd.okB = s.upd.okB := by
  rw [discardUpdate, freeClampOf_eq, freeClampOf_eq]
  exact ⟨rfl, rfl, fun h => by simp [h], fun h => by simp [h], rfl, rfl⟩

theorem execUpdBegin_new {a : List Byte} (hargs : s.argsOf d 0x101 = some a) (hgood : beginRefused s (manifestRead a) = false)
    (hnew : s.upd.manifest ≠ some (manifestRead a)) : execUpdBegin t d s = .next (settle (finish d .acked
      { discardUpdate (s.arrive t) with upd := { (discardUpdate (s.arrive t)).upd with
          manifest := some (manifestRead a)
          headA := if (discardUpdate (s.arrive t)).upd.okA then some (manifestRead a) else (discardUpdate (s.arrive t)).upd.headA
          headB := if (discardUpdate (s.arrive t)).upd.okB then some (manifestRead a) else (discardUpdate (s.arrive t)).upd.headB
          state := .receiving } })) := by
  rw [execUpdBegin, onInst_true]
  simp [argsOf_arrive, hargs, hgood, hnew]

theorem execUpdBegin_refused {a : List Byte} (hargs : s.argsOf d 0x101 = some a) (hbad : beginRefused s (manifestRead a) = true) :
    execUpdBegin t d s = .next (settle (finish d .refused (s.arrive t))) := by
  rw [execUpdBegin, onInst_true]
  simp [argsOf_arrive, hargs, hbad]

theorem execUpdAbort_discards (hcarries : s.carries d 0x103 = true) (hidle : s.upd.state ≠ .activating) (hdone : s.upd.state ≠ .activated) :
    execUpdAbort t d s = .next (settle (finish d .acked (discardUpdate (s.arrive t)))) := by
  rw [execUpdAbort, onInst_true]
  simp [carries_arrive, hcarries, hidle, hdone]

/-! ### A part (R402, R403, R406) -/

/-- The first part of a piece opens a buffer. -/
theorem storePart_first (p : Part) (mesh : Bool) (hnone : s.upd.buffers = []) : storePart p mesh s =
    { s with upd.buffers := [⟨p.piece, [(p.part, p.data)], if p.part = 7 then p.tag else 0, s.clock.now, mesh⟩] } := by
  simp [storePart, bufferOf, evictBuffer, hnone, aput_nil]

/-- A part of the update in staging, of a piece that is not held, is stored. -/
theorem takePart_stored {p : Part} {m : Manifest} (mesh : Bool) (hlength : p.lengthOk = true) (hpart : p.part < 8)
    (hmanifest : s.upd.manifest = some m) (hupdate : p.updateId = m.updateId) (hpiece : p.piece < piecesOf m)
    (hmissing : pieceHeld s p.piece = false) : takePart p mesh s = (.acked, storePart p mesh s) := by
  simp [takePart, hlength, Nat.not_le.mpr hpart, hmanifest, hupdate, Nat.not_le.mpr hpiece, hmissing]

theorem execUpdPart_first {a : List Byte} {m : Manifest} (hargs : s.argsOf d 0x102 = some a) (hpart : (updPartRead a).part < 8)
    (hmanifest : s.upd.manifest = some m) (hupdate : (updPartRead a).updateId = m.updateId) (hpiece : (updPartRead a).piece < piecesOf m)
    (hmissing : pieceHeld s (updPartRead a).piece = false) (hnone : s.upd.buffers = []) : execUpdPart t d s =
      .next (settle (finish d .acked { s.arrive t with upd := { s.upd with buffers := [⟨(updPartRead a).piece,
        [((updPartRead a).part, (updPartRead a).data)], if (updPartRead a).part = 7 then (updPartRead a).tag else 0,
        (s.arrive t).clock.now, false⟩] } })) := by
  rw [execUpdPart, onInst_true]
  simp only [argsOf_arrive, hargs]
  rw [takePart_stored false rfl hpart (by simpa) hupdate hpiece (by simpa), storePart_first _ _ (by simpa)]
  simp only [arrive_upd]

@[simp] theorem count_setUpd (s : State) (x : Upd) (c : Counter) (i : Nat) : State.count { s with upd := x } c i = s.count c i :=
  count_congr rfl

/-- No part of a manifest, a copy or a buffer stands in a register. -/
theorem takePart_bump {p : Part} {m : Manifest} {c : Counter} (hlength : p.lengthOk = true) (hpart : p.part < 8)
    (hmanifest : s.upd.manifest = some m) (hupdate : p.updateId = m.updateId) (hpiece : p.piece < piecesOf m)
    (hmissing : pieceHeld s p.piece = false) (hnone : s.upd.buffers = []) : (takePart p true (bump c 0 s)).2 =
      { bump c 0 s with upd := { s.upd with
        buffers := [⟨p.piece, [(p.part, p.data)], if p.part = 7 then p.tag else 0, s.clock.now, true⟩] } } := by
  have hmissing' : pieceHeld (bump c 0 s) p.piece = false := by
    simpa [pieceHeld, pieceIn, stagedIn] using hmissing
  rw [takePart_stored true hlength hpart (by simpa) hupdate hpiece hmissing', storePart_first _ _ (by simpa)]
  simp

theorem execPiecePartFrame_first {e : Eui} {p : Part} {m : Manifest} (hleads : s.leads = true) (hup : s.controlUp = true)
    (hneighbour : ((List.range 16).any fun n => nbrUsed s n && nbrEui s n == e) = true) (hlength : p.lengthOk = true) (hpart : p.part < 8)
    (hmanifest : s.upd.manifest = some m) (hupdate : p.updateId = m.updateId) (hpiece : p.piece < piecesOf m)
    (hmissing : pieceHeld s p.piece = false) (hnone : s.upd.buffers = []) : execPiecePartFrame t e p s =
      .next (settle { bump cUpdMeshParts 0 (s.arrive t) with upd := { s.upd with buffers := [⟨p.piece, [(p.part, p.data)],
        if p.part = 7 then p.tag else 0, (s.arrive t).clock.now, true⟩] } }) := by
  have hneighbour' : ((List.range 16).any fun n => nbrUsed (s.arrive t) n && nbrEui (s.arrive t) n == e) = true := by
    simpa [nbrUsed, nbrEui, entry_arrive] using hneighbour
  rw [execPiecePartFrame, onInst_true]
  simp only [leads_arrive, hleads, controlUp_arrive, hup, hneighbour', Bool.and_self, if_true]
  rw [takePart_bump hlength hpart (by simpa) hupdate hpiece (by simpa) (by simpa), arrive_upd]

/-! ### A piece request (R405) -/

/-- The one place `k` below `n` is the place that a list of one, and a test that `k` passes, choose. -/
theorem filter_range_one {n k : Nat} {p : Nat → Bool} (hk : k < n) (hp : p k = true) :
    ((List.range n).filter fun i => [k].contains i && p i) = [k] := by
  have htest : (fun i => [k].contains i && p i) = fun i => i == k := by
    funext i
    by_cases h : i = k <;> simp [h, hp]
  rw [htest, List.filter_beq, List.nodup_range.count, if_pos (List.mem_range.mpr hk), List.replicate_one]

theorem execPieceRequest_one {r : PieceRequest} {k : Nat} (hport : r.port < 36) (hleads : s.leads = true) (hup : s.controlUp = true)
    (hserves : s.fld rUpdCtrl 2 1 = 1) (hneighbour : ((List.range 16).any fun n => nbrUsed s n && nbrEui s n == r.neighbour) = true)
    (hupdate : s.upd.manifest.any (fun m => m.updateId == r.updateId) = true) (hk : k < 64) (hwant : r.want = [k])
    (hheld : pieceHeld s (r.first + k) = true) (hmax : 1 ≤ s.fld rUpdCtrl2 8 4) (hnone : s.upd.served = []) :
    execPieceRequest t r s = .next (settle { s.arrive t with upd := { s.upd with
      served := (List.range 8).map fun n => ⟨r.neighbour, r.port, r.first + k, n⟩ } }) := by
  have hneighbour' : ((List.range 16).any fun n => nbrUsed (s.arrive t) n && nbrEui (s.arrive t) n == r.neighbour) = true := by
    simpa [nbrUsed, nbrEui, entry_arrive] using hneighbour
  have hlist : ((List.range 64).filter fun i => [k].contains i && pieceHeld (s.arrive t) (r.first + i)) = [k] :=
    filter_range_one hk (by simpa)
  rw [execPieceRequest, onInst_of hport]
  simp only [leads_arrive, hleads, controlUp_arrive, hup, hneighbour', fld_arrive, hserves, arrive_upd, hupdate, hwant, hlist]
  rw [if_pos (by rfl), List.take_of_length_le (by simpa using hmax)]
  simp [hnone, servePiece]

/-! ### Staging (R408) -/

theorem pieceAsk_eq (s : State) : pieceAsk s = { s with
    hlt := (pieceAsk s).hlt, regs := (pieceAsk s).regs, upd := { s.upd with jobs := (pieceAsk s).upd.jobs } } := by
  unfold pieceAsk
  split
  · rfl
  · rw [askClamp_eq]

theorem completeCheck_eq (s : State) : completeCheck s = { s with upd := { s.upd with
    state := (completeCheck s).upd.state, wordA := (completeCheck s).upd.wordA, wordB := (completeCheck s).upd.wordB } } := by
  unfold completeCheck
  split
  · split <;> rfl
  · rfl

/-- Copy A or B of staging with piece `p` as job `j` brings it. -/
def pieceWritten (copyB : Bool) (p : Nat) (j : PieceJob) (u : Upd) : Upd :=
  if copyB then { u with heldB := aput u.heldB p j.tag, cipherB := aput u.cipherB p j.cipher }
  else { u with heldA := aput u.heldA p j.tag, cipherA := aput u.cipherA p j.cipher }

/-- The state `v` in which a write has ended, with the jobs `l` that are left: the next write is asked for and the pieces are looked over. -/
def writeEnds (l : List PieceJob) (v : State) : State := completeCheck (pieceAsk { v with upd.jobs := l })

theorem writeEnds_eq (l : List PieceJob) (v : State) : writeEnds l v = { v with
    hlt := (writeEnds l v).hlt, regs := (writeEnds l v).regs, upd := (writeEnds l v).upd } := by
  rw [writeEnds, completeCheck_eq, pieceAsk_eq]

/-- Asking for the next write leaves the pieces that are held, and the count of failures. -/
theorem writeEnds_upd (l : List PieceJob) (v : State) : (writeEnds l v).upd = { v.upd with
    jobs := (writeEnds l v).upd.jobs, state := (writeEnds l v).upd.state
    wordA := (writeEnds l v).upd.wordA, wordB := (writeEnds l v).upd.wordB } := by
  rw [writeEnds, completeCheck_eq, pieceAsk_eq]

/-- A state that differs from `s` in its clock, its update, its registers and the health plane alone. -/
def UpdStep (s v : State) : Prop := v = { s with clock := v.clock, hlt := v.hlt, regs := v.regs, upd := v.upd }

theorem updStep_settle {v : State} (hv : UpdStep s v) : UpdStep s (settle v) := by
  rw [UpdStep, settle_clock, settle_regs, settle_upd]
  exact (settle_eq v).trans (congrArg (fun w => { w with hlt := (settle v).hlt }) hv)

theorem updStep_writeEnds {v : State} (l : List PieceJob) (hv : UpdStep s v) : UpdStep s (writeEnds l v) := by
  have hclock : (writeEnds l v).clock = v.clock := by rw [writeEnds_eq]
  rw [UpdStep, hclock]
  exact (writeEnds_eq l v).trans (congrArg (fun w : State => { w with
    hlt := (writeEnds l v).hlt, regs := (writeEnds l v).regs, upd := (writeEnds l v).upd }) hv)

theorem updStep_arrive : UpdStep s (s.arrive t) := by
  rw [UpdStep]
  exact (arrive_eq s t).trans (by simp)

theorem updStep_upd {v : State} {x : Upd} (hv : UpdStep s v) : UpdStep s { v with upd := x } := by
  rw [UpdStep] at hv ⊢
  exact congrArg (fun w : State => { w with upd := x }) hv

theorem updStep_bump {v : State} {c : Counter} {i : Nat} (hv : UpdStep s v) : UpdStep s (bump c i v) := by
  rw [UpdStep, bump_clock, bump_hlt, bump_upd]
  exact (bump_eq c i v).trans (congrArg (fun w : State => { w with regs := (bump c i v).regs }) hv)

theorem updStep_freeClampOf {v : State} {a n : Nat} (hv : UpdStep s v) : UpdStep s (freeClampOf a n v) := by
  have hclock : (freeClampOf a n v).clock = v.clock := by rw [freeClampOf_eq]
  have hregs : (freeClampOf a n v).regs = v.regs := by rw [freeClampOf_eq]
  have hupd : (freeClampOf a n v).upd = v.upd := by rw [freeClampOf_eq]
  rw [UpdStep, hclock, hregs, hupd]
  exact (freeClampOf_eq a n v).trans (congrArg (fun w : State => { w with hlt := (freeClampOf a n v).hlt }) hv)

theorem execPieceWrite_ends {p : Nat} {copyB ok : Bool} {j : PieceJob} (hjobs : s.upd.jobs = [j]) (hpiece : j.piece = p)
    (hcopy : j.doneA = copyB) (hclamp : (s.clamp (flashClamp copyB)).holder = 12) (hup : s.controlUp = true) :
    execPieceWrite t p copyB ok s = .next (settle (writeEnds (if copyB then [] else [{ j with doneA := true }]) (
      if ok then { freeClampOf 12 (flashClamp copyB) (s.arrive t) with upd := pieceWritten copyB p j s.upd }
      else pieceWriteFailed copyB (freeClampOf 12 (flashClamp copyB) (s.arrive t))))) := by
  have hfree : (freeClampOf 12 (flashClamp copyB) (s.arrive t)).upd = s.upd := by rw [freeClampOf_eq]; exact arrive_upd ..
  rw [execPieceWrite, onInst_true]
  simp only [arrive_upd, hjobs, hpiece, hcopy, clamp_arrive, hclamp, controlUp_arrive, hup, ne_eq, not_true_eq_false, Bool.not_true,
    Bool.false_eq_true, or_self, if_false, hfree, writeEnds]
  cases ok <;> cases copyB <;> rfl

/-- The first failed write into copy A is counted, and the copy stays in use. -/
theorem pieceWriteFailed_first (v : State) (hfirst : v.upd.failsA = 0) : pieceWriteFailed false v =
    { bump cUpdPieceWriteFail 0 v with upd := { v.upd with failsA := 1 } } := by
  simp [pieceWriteFailed, hfirst]

/-! ### Verification (R410) -/

theorem execUpdVerifyDone_verified {m : Manifest} (hstate : s.upd.state = .complete) (hup : s.controlUp = true)
    (hmanifest : s.upd.manifest = some m) (hverdict : updVerdict s m = 0) : execUpdVerifyDone t s =
      .next (settle (stepDone 1 (occurs eUpdVerified { s.arrive t with upd := { s.upd with state := .verified } }))) := by
  rw [execUpdVerifyDone, onInst_true]
  simp [hstate, controlUp_arrive, hup, hmanifest, hverdict]

theorem execUpdVerifyDone_failed {m : Manifest} (hstate : s.upd.state = .complete) (hup : s.controlUp = true)
    (hmanifest : s.upd.manifest = some m) (hverdict : updVerdict s m ≠ 0) : execUpdVerifyDone t s =
      .next (settle (stepDone 4 (occurs eUpdVerifyFail { s.arrive t with
        upd := { s.upd with state := .failed, failCode := updVerdict s m } }))) := by
  rw [execUpdVerifyDone, onInst_true]
  simp [hstate, controlUp_arrive, hup, hmanifest, hverdict]

/-- What a step of the update and its event write: the words of the copies, and the event's record. -/
theorem stepDone_occurs (n e : Nat) (v : State) : stepDone n (occurs e v) = { v with
    regs := (occurs e v).regs, evr := (occurs e v).evr, free := (occurs e v).free
    upd := { v.upd with
      wordA := if v.upd.okA then v.upd.wordA &&& ~~~ BitVec.ofNat 32 (2 ^ n) else v.upd.wordA
      wordB := if v.upd.okB then v.upd.wordB &&& ~~~ BitVec.ofNat 32 (2 ^ n) else v.upd.wordB } } := by
  rw [stepDone, occurs_eq]

end

/-- Settles O26: each command is one equation of the update in staging, and a piece's write and the verification touch nothing else. -/
theorem updateInStaging : Obligations.UpdateInStaging := by
  refine ⟨?begin, ?refused, ?abort, ?part, ?meshPart, ?request, ?written, ?failed, ?verified, ?failedVerify⟩
  case begin =>
    rintro t d a m s hcmd hargs rfl hgood hnew
    have hsame := discardUpdate_eq (s.arrive t)
    have hupd := discardUpdate_upd (s := s.arrive t)
    simp only [arrive_upd] at hupd
    obtain ⟨-, -, hheldA, hheldB, hokA, hokB⟩ := hupd
    obtain ⟨u, hx, hout, hu⟩ := ended_sole hcmd (execUpdBegin_new hargs hgood hnew) (by rw [hsame]; simp) (by rw [hsame]; simp)
      (by rw [hsame]; simp)
    refine ⟨u, (exec_updBegin ..).trans hx, hout, ?_⟩
    have hue := congrArg State.upd hu
    simp only at hue
    refine ⟨by rw [hue], by rw [hue], fun h => by rw [hue]; exact hheldA h, fun h => by rw [hue]; exact hheldB h,
      fun h => by rw [hue]; simp [hokA, h], fun h => by rw [hue]; simp [hokB, h], ?_⟩
    rw [hu, hsame, arrive_eq]
  case refused =>
    intro t d a s hcmd hargs hbad
    obtain ⟨u, hx, hout, hu⟩ := ended_sole hcmd (execUpdBegin_refused hargs hbad) (by simp) (by simp) (by simp)
    exact ⟨u, (exec_updBegin ..).trans hx, hout, by rw [hu, arrive_eq]⟩
  case abort =>
    intro t d s hcmd hidle hdone
    have hsame := discardUpdate_eq (s.arrive t)
    have hupd := discardUpdate_upd (s := s.arrive t)
    simp only [arrive_upd] at hupd
    obtain ⟨hmanifest, hstate, hheldA, hheldB, -, -⟩ := hupd
    obtain ⟨u, hx, hout, hu⟩ := ended_sole hcmd (execUpdAbort_discards hcmd.1 hidle hdone) (by rw [hsame]; simp) (by rw [hsame]; simp)
      (by rw [hsame]; simp)
    have hue := congrArg State.upd hu
    simp only at hue
    exact ⟨u, (exec_updAbort ..).trans hx, hout, by rw [hue, hmanifest], by rw [hue, hstate], by rwa [hue], by rwa [hue],
      by rw [hu, hsame, arrive_eq]⟩
  case part =>
    rintro t d a p m s hcmd hargs rfl hpart hmanifest hupdate hpiece hmissing hnone
    obtain ⟨u, hx, hout, hu⟩ := ended_sole hcmd (execUpdPart_first hargs hpart hmanifest hupdate hpiece hmissing hnone) (by simp) (by simp)
      (by simp)
    have hclock := congrArg State.clock hu
    simp only at hclock
    have hue := congrArg State.upd hu
    simp only at hue
    refine ⟨u, (exec_updPart ..).trans hx, hout, by rw [hclock, hue], ?_⟩
    rw [hu, arrive_eq]
  case meshPart =>
    intro t e p m s hleads hup hneighbour hlength hpart hmanifest hupdate hpiece hmissing hnone
    refine ⟨_, (exec_piecePartFrame ..).trans (execPiecePartFrame_first hleads hup hneighbour hlength hpart hmanifest hupdate hpiece hmissing
      hnone), ?_, by simp, updStep_settle (updStep_upd (updStep_bump updStep_arrive))⟩
    rw [count_settle, count_setUpd, count_bump, count_arrive]
  case request =>
    intro t r k s hport hleads hup hserves hneighbour hupdate hk hwant hheld hmax hnone
    exact ⟨_, (exec_pieceRequest ..).trans (execPieceRequest_one hport hleads hup hserves hneighbour hupdate hk hwant hheld hmax hnone),
      by simp, (settle_eq _).trans (by rw [arrive_eq]; simp)⟩
  case written =>
    intro t p copyB j s hjobs hpiece hcopy hclamp hup
    refine ⟨_, (exec_pieceWrite ..).trans (execPieceWrite_ends hjobs hpiece hcopy hclamp hup), ?_, ?_,
      updStep_settle (updStep_writeEnds _ (updStep_upd (updStep_freeClampOf updStep_arrive)))⟩
    all_goals
      rw [settle_upd, writeEnds_upd]
      cases copyB <;> exact afind_aput_same ..
  case failed =>
    intro t p j s hjobs hpiece hcopy hclamp hup hfirst
    have hfree : (freeClampOf 12 (flashClamp false) (s.arrive t)).upd = s.upd := by rw [freeClampOf_eq]; exact arrive_upd ..
    have hfailed := pieceWriteFailed_first (freeClampOf 12 (flashClamp false) (s.arrive t)) (by rw [hfree, hfirst])
    have hexec := execPieceWrite_ends (t := t) (ok := false) hjobs hpiece hcopy hclamp hup
    rw [if_neg Bool.false_ne_true, hfailed, hfree] at hexec
    refine ⟨_, (exec_pieceWrite ..).trans hexec, ?_, ?_,
      updStep_settle (updStep_writeEnds _ (updStep_upd (updStep_bump (updStep_freeClampOf updStep_arrive))))⟩
    all_goals
      rw [settle_upd, writeEnds_upd]
      simp
  case verified =>
    intro t m s hstate hup hmanifest hverdict
    refine ⟨_, (exec_updVerifyDone ..).trans (execUpdVerifyDone_verified hstate hup hmanifest hverdict), ?_, fun hok => ?_,
      (settle_eq _).trans (by rw [stepDone_occurs, arrive_eq]; simp)⟩
    · rw [settle_upd, stepDone_occurs]
    · rw [settle_upd, stepDone_occurs]
      simp [hok]
  case failedVerify =>
    intro t m s hstate hup hmanifest hverdict
    refine ⟨_, (exec_updVerifyDone ..).trans (execUpdVerifyDone_failed hstate hup hmanifest hverdict), ?_, fun hok => ?_,
      (settle_eq _).trans (by rw [stepDone_occurs, arrive_eq]; simp)⟩
    · rw [settle_upd, stepDone_occurs]
    · rw [settle_upd, stepDone_occurs]
      simp [hok]

end Sys2Proof.Machine

/-! PROOFS. The heads that a taker leaves to be checked, and the check of one of them (R386). -/

namespace Sys2Proof.Machine
open Sys2Proof Host

section
variable {s u : State} {t : Time}

/-! ### A take leaves the ports as they stand -/

@[simp] theorem raiseHwm_fh (e : Eui) (c : Nat) (d : Word) (s : State) : (raiseHwm e c d s).fh = s.fh := by rw [raiseHwm_eq]

@[simp] theorem hit_fh (e : Eui) (s : State) : (hit e s).fh = s.fh := by rw [hit_eq]

@[simp] theorem framePlane_fh (f : FrameInfo) (s : State) : (framePlane f s).fh = s.fh := by rw [framePlane_eq]

@[simp] theorem mirror_fh (b : Body) (a : Option Await) (s : State) : (mirror b a s).fh = s.fh := by rw [mirror_eq]

@[simp] theorem newcomerGone_fh (g : Nat) (s : State) : (newcomerGone g s).fh = s.fh := by rw [newcomerGone_eq]

@[simp] theorem dropAck_fh (g : Nat) (s : State) : (dropAck g s).fh = s.fh := by rw [dropAck_eq]

@[simp] theorem groupSettle_fh (g : Nat) (s : State) : (groupSettle g s).fh = s.fh := by rw [groupSettle_eq]

@[simp] theorem refund_fh (b : Booking) (s : State) : (refund b s).fh = s.fh := by rw [refund_eq]

@[simp] theorem acceptEntry_fh (j : Nat) (s : State) : (acceptEntry j s).fh = s.fh := by
  unfold acceptEntry
  split
  · rfl
  · dsimp only
    split <;> simp [dedupAdd, modEntry]

@[simp] theorem voidEntry_fh (j : Nat) (s : State) : (voidEntry j s).fh = s.fh := by
  unfold voidEntry
  split
  · rfl
  · dsimp only
    split <;> simp [modEntry]

@[simp] theorem bookNow_fh (q : TxReq) (s : State) : (bookNow q s).2.fh = s.fh := by
  obtain ⟨-, heq, -⟩ := bookNow_eq q s
  rw [heq]

@[simp] theorem takeOwed_fh (ts ta : Time) (e : Entry) (s : State) : (takeOwed ts ta e s).fh = s.fh := by
  unfold takeOwed
  dsimp only
  split
  · exact acceptEntry_fh ..
  · split
    · exact voidEntry_fh ..
    · split
      · split
        · simp [modEntry]
        · simp [modEntry]
      · rfl

theorem fh_foldl {α : Type} (f : State → α → State) (h : ∀ s x, (f s x).fh = s.fh) (l : List α) (s : State) : (l.foldl f s).fh = s.fh := by
  induction l generalizing s with
  | nil => rfl
  | cons a r ih => rw [List.foldl_cons, ih, h]

theorem settleTake_fh (s : State) : (settleTake s).fh = s.fh := by
  unfold settleTake
  dsimp only
  rw [fh_foldl _ fun _ _ => takeOwed_fh .., fh_foldl _ fun _ _ => acceptEntry_fh ..]

/-! ### The list of heads to be checked -/

theorem following_of_helm (h : u.helm = s.helm) : u.pair.following = s.pair.following := congrArg (·.pair.following) h

theorem Helm.dropped_following (h : Helm) : h.dropped.pair.following = h.pair.following := by
  unfold dropped released
  split <;> rfl

/-- A FATAL, which a report may raise, leaves the list. -/
theorem heldOrDropped.following (h : heldOrDropped s u) : u.pair.following = s.pair.following := by
  obtain h | h := h
  · exact following_of_helm h
  · exact (congrArg (·.pair.following) h).trans (Helm.dropped_following _)

theorem losePartner_following (s : State) : (losePartner s).pair.following = s.pair.following := by
  have hlost : heldOrDropped (partnerForgotten s)
      (degraded 18 2 (eventCode ePairPartnerLost) 4 (occurs ePairPartnerLost (partnerForgotten s))) :=
    heldOrDropped_of (degraded_helm ..) (occurs_helm ..)
  change (losePartner s).helm.pair.following = s.pair.following
  unfold losePartner
  dsimp only
  rw [beginPairing_helm, actPartnerLost_helm, cancelHandover_helm, helm_foldl, soloCommits_helm]
  · exact hlost.following
  · intro s x
    split
    · rfl
    · rfl
    · rfl
    · next h => exact settleAwait_helm h true s

theorem partnerChecked_following (s : State) : (partnerChecked s).pair.following = s.pair.following := by
  unfold partnerChecked
  split
  · exact losePartner_following s
  · rfl

theorem lineDriven_following (s : State) :
    (lineDriven s).pair.following = some (s.clock.now, (List.range 32).filter fun p => (s.port p).state == .up) := by
  unfold lineDriven
  dsimp only
  split
  · rw [bump_pair, occurs_pair]; rfl
  · rw [bump_pair]; rfl

theorem takeLine_following (s : State) :
    (takeLine s).pair.following = some (s.clock.now, (List.range 32).filter fun p => (s.port p).state == .up) := by
  rw [takeLine_eq]
  refine (following_of_helm (s := serveActive (partnerChecked (raiseEpoch (lineDriven s).pair.epoch (lineDriven s)))) ?_).trans ?_
  · rw [refreshSource_helm, actTaken_helm, endHandover_helm, resumeCamps_helm, resumeItems_helm, goLive_helm]
  · change (partnerChecked _).pair.following = _
    rw [partnerChecked_following, raiseEpoch_pair]
    exact lineDriven_following s

/-- A port that stood UP before the take is on the list that the take leaves. -/
theorem takeLine_settleTake_following (s : State) : (takeLine (settleTake s)).pair.following =
    some ((takeLine (settleTake s)).clock.now, (List.range 32).filter fun p => (s.port p).state == .up) := by
  have hclock : (takeLine (settleTake s)).clock = s.clock :=
    (takeLine_helm (settleTake s)).1.1.trans (congrArg Helm.clock (settleTake_helm s))
  have hclock' : (settleTake s).clock = s.clock := congrArg Helm.clock (settleTake_helm s)
  rw [takeLine_following, hclock, hclock']
  simp only [port_of_fh (settleTake_fh s)]

/-! ### The check of a head -/

/-- The state whose check of port `p` is done. -/
def headChecked (s : State) (t0 : Time) (l : List Nat) (p : Nat) : State :=
  { s with pair := { s.pair with following := some (t0, l.filter fun x => x != p) } }

theorem count_bump_headChecked (t0 : Time) (l : List Nat) (p : Nat) (c : Counter) (i : Nat) :
    (bump c i (headChecked (s.arrive t) t0 l p)).count c i = min 0xFFFFFFFF (s.count c i + 1) :=
  count_bump_congr (count_congr (by simp [State.reg, headChecked]))

/-- A head that does not follow is recorded and counted, and no more. -/
theorem headStray_eq (t0 : Time) (l : List Nat) (p e a : Nat) (c : Counter) :
    event e p a (bump c 0 (headChecked (s.arrive t) t0 l p)) = { s with
      clock := (s.arrive t).clock
      pair := { s.pair with following := some (t0, l.filter fun x => x != p) }
      regs := (event e p a (bump c 0 (headChecked (s.arrive t) t0 l p))).regs
      evr := (event e p a (bump c 0 (headChecked (s.arrive t) t0 l p))).evr } := by
  generalize hx : event e p a (bump c 0 (headChecked (s.arrive t) t0 l p)) = x
  have hpush : x = { bump c 0 (headChecked (s.arrive t) t0 l p) with regs := x.regs, evr := x.evr } := by
    rw [← hx]
    exact evrPush_eq ..
  calc x = { bump c 0 (headChecked (s.arrive t) t0 l p) with regs := x.regs, evr := x.evr } := hpush
    _ = { headChecked (s.arrive t) t0 l p with regs := x.regs, evr := x.evr } :=
      congrArg (fun w : State => { w with regs := x.regs, evr := x.evr }) (bump_eq ..)
    _ = _ := by
      rw [headChecked, arrive_eq]

section
variable {p : Nat} {t0 : Time} {l : List Nat} (hp : p < 32) (hlist : s.pair.following = some (t0, l)) (hmem : p ∈ l)
  (hup : s.controlUp = true) (hactive : s.pair.state = .active) (hdue : t0 + us 100 + (s.port p).rtt ≤ (s.arrive t).clock.now)
include hp hlist hmem hup hactive hdue

theorem execHeadFollowCheck_due : execHeadFollowCheck t p s = .next (settle (
    if (s.port p).state = .up ∧ !(s.port p).headStatus.getLsbD 15 then
      event ePairHeadStray p (Config.eventArg s.free).toNat (bump cPairHeadNotFollowing 0 (headChecked (s.arrive t) t0 l p))
    else headChecked (s.arrive t) t0 l p)) := by
  rw [execHeadFollowCheck, onInst_of hp]
  simp [hlist, hmem, controlUp_arrive, hup, hactive, Nat.not_lt.mpr hdue, headChecked]

end

end

/-- Settles O23: the take sets the list and what follows it leaves it; a check that is due is one branch on the head's report. -/
theorem headsFollowTake : Obligations.HeadsFollowTake := by
  refine ⟨?take, ?stray, ?follows⟩
  case take =>
    intro t s htaking hdue hserve
    refine ⟨_, (exec_takeTime ..).trans (execTakeTime_high htaking hdue hserve), ?_⟩
    rw [settle_pair, settle_clock, takeLine_settleTake_following]
    simp only [port_of_fh (arrive_fh s t)]
  case stray =>
    intro t p t0 l s hp hlist hmem hup hactive hdue hport hhead hroom
    have hexec := execHeadFollowCheck_due hp hlist hmem hup hactive hdue
    rw [if_pos ⟨hport, by rw [hhead]; rfl⟩] at hexec
    refine ⟨_, (exec_headFollowCheck ..).trans hexec, ?_, ?_, (settle_eq _).trans ?_⟩
    · rw [count_settle, event, count_congr (c := cPairHeadNotFollowing) (i := 0) (reg_evrPush _ _ (by decide)), count_bump_headChecked]
    · rw [settle_evr, settle_clock, event, evrPush_last (by simpa [fifoNow, headChecked] using hroom), evrPush_eq]
      have hword : p < 4294967296 := Nat.lt_trans hp (by decide)
      simp [headChecked, hword]
    · have hstray := headStray_eq (s := s) (t := t) t0 l p ePairHeadStray (Config.eventArg s.free).toNat cPairHeadNotFollowing
      generalize event ePairHeadStray p (Config.eventArg s.free).toNat
        (bump cPairHeadNotFollowing 0 (headChecked (s.arrive t) t0 l p)) = v at hstray ⊢
      have hclock : v.clock = (s.arrive t).clock := (congrArg State.clock hstray).trans rfl
      rw [← hclock] at hstray
      rw [settle_clock, settle_regs, settle_evr]
      exact congrArg (fun w : State => { w with hlt := (settle v).hlt }) hstray
  case follows =>
    intro t p t0 l s hp hlist hmem hup hactive hdue hhead
    have hexec := execHeadFollowCheck_due hp hlist hmem hup hactive hdue
    rw [if_neg (by rw [hhead]; simp)] at hexec
    refine ⟨_, (exec_headFollowCheck ..).trans hexec, (settle_eq _).trans ?_⟩
    rw [headChecked, arrive_eq]
    simp

end Sys2Proof.Machine

/-! PROOFS. The records that either chip takes in their turn, and the copies that are not taken (R373, R374, R377, R378, R380, R381, R390,
R391). -/

namespace Sys2Proof.Machine
open Sys2Proof Host

section
variable {t : Time} {h : MirrorHdr} {s : State}

/-! ### A record in its turn, on either chip (R374, R377, R380) -/

/-- The chip `s` as a record that comes in its turn at `t` finds it, whichever chip it is: as `turned`, but only a chip that follows adopts
the EPOCH, and only a standby takes a higher one for a sign of the partner's line (R368). -/
def turnedEither (t : Time) (h : MirrorHdr) (s : State) : State :=
  { s with
    clock := (s.arrive t).clock
    pair := { s.pair with
      linkHeard := aput s.pair.linkHeard h.link (s.arrive t).clock.now
      lastGood := (s.arrive t).clock.now
      nextIn := h.mseq + 1
      drained := 0
      epoch := if s.pair.state = .standby ∨ s.pair.state = .resync then max s.pair.epoch h.epoch else s.pair.epoch
      partnerLow := s.pair.partnerLow || (s.pair.state == .standby && decide (s.pair.epoch < h.epoch)) } }

/-- A record of no object is never skipped (R394). -/
theorem takeRecord_noObject {i : Instr} (hsensed : s.pair.sensed = none) (hobject : ∀ w, objectOf w i = none) :
    takeRecord h i (heardOn h.link (s.arrive t)) = applyRecord i (turnedEither t h s) := by
  unfold takeRecord
  extract_lets p w
  have hw : w = turnedEither t h s := by simp [w, p, turnedEither, heardOn, hsensed]
  rw [hw, hobject]

/-- The copy is neither a second one nor late, and no other record waits behind it (R374, R380). -/
theorem receive_noObject {i : Instr} (hturn : inTurn h s) (hobject : ∀ w, objectOf w i = none)
    (hwaiting : (applyRecord i (turnedEither t h s)).pair.waiting = []) :
    receive h i (s.arrive t) = waitOver (applyRecord i (turnedEither t h s)) := by
  obtain ⟨-, hup, hlink, htag, hpaired, hnone, hmseq, hsensed, -⟩ := hturn
  have hup' : (s.arrive t).isthmusUp = true := by simpa [State.isthmusUp, State.islandUp] using hup
  have hlate : tooLate (s.arrive t) = false := by simp [tooLate, hsensed]
  have htaken : receive h i (s.arrive t) =
      takeWaiting ((applyRecord i (turnedEither t h s)).pair.waiting.length + 1) (applyRecord i (turnedEither t h s)) := by
    rw [← takeRecord_noObject hsensed hobject]
    simp [receive, hup', hlink, htag, hpaired, hnone, hmseq, hlate, afind]
  rw [htaken, takeWaiting_nil hwaiting]

/-- A record whose effect on the pair is its numbers, what waited for it, the fitness or the digests: the chip answers the state that the
record gives, and has taken it in its turn. -/
theorem exec_noObject {i : Instr} {v : State} (hturn : inTurn h s) (hobject : ∀ w, objectOf w i = none)
    (happly : applyRecord i (turnedEither t h s) = v)
    (hpair : v.pair = { (turnedEither t h s).pair with
      mseqOut := v.pair.mseqOut, awaits := v.pair.awaits, fitness := v.pair.fitness, giveUp := v.pair.giveUp
      differ := v.pair.differ, asked := v.pair.asked })
    (hclock : v.clock = (s.arrive t).clock) :
    ∃ x p, onInst (decide (h.link < 2)) (receive h i (s.arrive t)) = .next { v with hlt := x, pair := p } ∧
      takenIn h s { v with hlt := x, pair := p } ∧ p = { v.pair with gapSince := none } := by
  have hwaiting : (applyRecord i (turnedEither t h s)).pair.waiting = [] := by
    obtain ⟨-, -, -, -, -, hnone, -⟩ := hturn
    rw [happly, hpair]
    exact hnone
  refine ⟨(settle (waitOver v)).hlt, { v.pair with gapSince := none }, ?_, ?_, rfl⟩
  · rw [onInst_of_true (link_of_inTurn hturn), receive_noObject hturn hobject hwaiting, happly, settle_eq]
    rfl
  · simp only [takenIn]
    rw [hclock, hpair]
    exact ⟨rfl, rfl, afind_aput_same _ _ _, rfl⟩

/-! ### What each of these records does (R378, R390, R391) -/

/-- The pairing stands, so a record that leaves takes the next MSEQ. -/
theorem linked_turned (hturn : inTurn h s) : (turnedEither t h s).linked = true := by
  obtain ⟨-, hup, -, -, hpaired, -⟩ := hturn
  have hup' : (turnedEither t h s).isthmusUp = true := hup
  rw [State.linked, hup']
  exact Bool.and_eq_true_iff.mpr ⟨hpaired, rfl⟩

theorem applyCommit_void {m j : Nat} (ok : Bool) (hactive : s.pair.state = .active) (hawait : afind s.pair.awaits m = some (.void j)) :
    applyRecord (.commitRecord t h m ok) s = { s with
      pair := { s.pair with awaits := adel s.pair.awaits m }
      jrn := { s.jrn with entries := s.jrn.entries.map fun e => if e.hdr.jsn = j then { e with waits := false } else e } } := by
  simp [applyRecord, hactive, applyCommit, hawait, settleAwait, modEntry]

/-- The fitness is kept, and the time since which a give-up condition holds is brought up to date. -/
theorem applyFitness_eq (f : Fitness) (s : State) : ∃ g, applyRecord (.fitnessRecord t h f) s =
    { s with pair := { s.pair with fitness := some f, giveUp := g } } := ⟨_, rfl⟩

/-- What a standby asks for: of the ranges that differ, those that differed before and have not been asked for. -/
def digestWants (s : State) (l : List Nat) : List Nat :=
  (l.filter fun r => s.pair.state == .resync || s.pair.differ.contains r).filter fun r => !s.pair.asked.contains r

theorem applyDigest_standby {l : List (Nat × BitVec 64)} {k : List Nat} (hstandby : s.pair.state = .standby)
    (hdiffers : digestsDiffer l s.pair.digest = k) : applyRecord (.digestRecord t h l) s =
      (digestWants s k).foldl (fun s r => emit (.range (.request r)) none s)
        { s with pair := { s.pair with differ := k, asked := s.pair.asked ++ digestWants s k } } := by
  have hfollows : s.follows = true := by simp [State.follows, hstandby]
  have hown : ¬ s.pair.state = .resync := by simp [hstandby]
  rw [applyRecord, if_pos hfollows, applyDigest, if_neg hown, hdiffers]
  rfl

theorem digestWants_one (hstandby : s.pair.state = .standby) (r : Nat) :
    digestWants s [r] = if s.pair.differ.contains r && !s.pair.asked.contains r then [r] else [] := by
  rw [digestWants, hstandby]
  cases hdiffer : s.pair.differ.contains r <;> cases hasked : s.pair.asked.contains r <;> simp_all

/-- The one range that differs, as it did before, is asked for. -/
theorem applyDigest_asks {r : Nat} {l : List (Nat × BitVec 64)} (hstandby : s.pair.state = .standby) (hlinked : s.linked = true)
    (hone : digestsDiffer l s.pair.digest = [r]) (hdiffer : s.pair.differ.contains r = true) (hasked : s.pair.asked.contains r = false) :
    applyRecord (.digestRecord t h l) s = { s with
      pair := { s.pair with mseqOut := s.pair.mseqOut + 1, differ := [r], asked := s.pair.asked ++ [r] }
      sent := .record false false (s.pair.mseqOut + 1) s.pair.epoch (.range (.request r)) :: s.sent } := by
  have hwants : digestWants s [r] = [r] := by rw [digestWants_one hstandby, hdiffer, hasked]; rfl
  have hlinked' : State.linked { s with pair := { s.pair with differ := [r], asked := s.pair.asked ++ [r] } } = true := hlinked
  rw [applyDigest_standby hstandby hone, hwants]
  exact emit_linked hlinked' (.range (.request r))

/-- The one range that differs did not differ before: it is noted and no more. -/
theorem applyDigest_notes {r : Nat} {l : List (Nat × BitVec 64)} (hstandby : s.pair.state = .standby)
    (hone : digestsDiffer l s.pair.digest = [r]) (hdiffer : s.pair.differ.contains r = false) :
    applyRecord (.digestRecord t h l) s = { s with pair := { s.pair with differ := [r] } } := by
  have hwants : digestWants s [r] = [] := by rw [digestWants_one hstandby, hdiffer]; rfl
  rw [applyDigest_standby hstandby hone, hwants, List.append_nil]
  rfl

theorem applyRange_request (r : Nat) (hactive : s.pair.state = .active) (hlinked : s.linked = true) :
    applyRecord (.rangeRecord t h (.request r)) s = { s with
      pair := { s.pair with mseqOut := s.pair.mseqOut + 1 }
      sent := .record false false (s.pair.mseqOut + 1) s.pair.epoch (.range (.reply r (rangeEntries s r))) :: s.sent } := by
  have hemit := emit_linked hlinked (.range (.reply r (rangeEntries s r)))
  simpa [applyRecord, applyRange, hactive, State.out] using hemit

/-- The node as an entry of a reply describes it (R391). -/
def nodeAdopted (x : RangeEntry) (n : Node) : Node :=
  { n with homePort := x.homePort, unhomed := x.unhomed, parent := if x.parentValid then some x.parent else none, role := x.relay.toNat }

/-- The range `r` is no longer asked for, and the node of entry `x` stands as it says. -/
def rangeAdopted (s : State) (r : Nat) (x : RangeEntry) : State :=
  State.modNode { s with pair := { s.pair with asked := s.pair.asked.filter fun y => y != r } } x.index (nodeAdopted x)

/-- A reply of one entry: the node is adopted and the mismatch counted, in the registers `g`. -/
theorem applyRange_reply {r : Nat} (x : RangeEntry) (hstandby : s.pair.state = .standby) (hasked : s.pair.asked.contains r = true) :
    ∃ g, applyRecord (.rangeRecord t h (.reply r [x])) s = { rangeAdopted s r x with regs := g } ∧
      ∀ u : State, u.regs = g → u.count cPairDigestMismatch 0 = min 0xFFFFFFFF (s.count cPairDigestMismatch 0 + 1) := by
  have hfollows : s.follows = true := by simp [State.follows, hstandby]
  have hregs : (rangeAdopted s r x).regs = s.regs := rfl
  refine ⟨(bump cPairDigestMismatch 0 (rangeAdopted s r x)).regs, ?_, fun u hu => ?_⟩
  · rw [applyRecord, applyRange, if_pos ⟨hfollows, hasked⟩]
    exact bump_eq ..
  · rw [count_of_regs hu, count_bump_of_regs hregs]

/-! ### Copies that are not taken (R374, R377) -/

theorem execKeepaliveRecord_badTag (hlink : h.link < 2) (hup : s.isthmusUp = true) (hlinkUp : s.pair.links.getLsbD h.link = true)
    (htag : h.tagGood = false) : execKeepaliveRecord t h s = .next (settle (bump cPairIsthmusAuth 0 (s.arrive t))) := by
  have hup' : (s.arrive t).isthmusUp = true := by simpa [State.isthmusUp, State.islandUp] using hup
  rw [execKeepaliveRecord, onInst_of hlink]
  simp [receive, hup', hlinkUp, htag]

theorem execKeepaliveRecord_second (hlink : h.link < 2) (hup : s.isthmusUp = true) (hlinkUp : s.pair.links.getLsbD h.link = true)
    (htag : h.tagGood = true) (hpaired : s.pair.paired = true) (hmseq : h.mseq < s.pair.nextIn) :
    execKeepaliveRecord t h s = .next (settle (bump cPairSecondCopy 0 (heardOn h.link (s.arrive t)))) := by
  have hup' : (s.arrive t).isthmusUp = true := by simpa [State.isthmusUp, State.islandUp] using hup
  rw [execKeepaliveRecord, onInst_of hlink]
  simp [receive, hup', hlinkUp, htag, hpaired, hmseq]

end

/-- Settles O21: each record is taken in its turn, and what it does is one update of the pair, the journal, the node table or the records
that leave; the two copies that are not taken are counted. -/
theorem pairRecords : Obligations.PairRecords := by
  refine ⟨?keepalive, ?commit, ?fitness, ?asks, ?differs, ?request, ?reply, ?badTag, ?second⟩
  case keepalive =>
    intro t h s hturn
    obtain ⟨x, p, hexec, htaken, -⟩ := exec_noObject (i := .keepaliveRecord t h) hturn (fun _ => rfl) rfl rfl rfl
    exact ⟨_, (exec_keepaliveRecord ..).trans hexec, htaken, rfl⟩
  case commit =>
    intro t h m j ok s hturn hactive hawait
    obtain ⟨x, p, hexec, htaken, hp⟩ := exec_noObject (i := .commitRecord t h m ok) hturn (fun _ => rfl)
      (applyCommit_void ok hactive hawait) rfl rfl
    exact ⟨_, (exec_commitRecord ..).trans hexec, htaken, by rw [hp]; rfl, rfl, rfl⟩
  case fitness =>
    intro t h f s hturn
    obtain ⟨g, hg⟩ := applyFitness_eq (t := t) (h := h) f (turnedEither t h s)
    obtain ⟨x, p, hexec, htaken, hp⟩ := exec_noObject (i := .fitnessRecord t h f) hturn (fun _ => rfl) hg rfl rfl
    exact ⟨_, (exec_fitnessRecord ..).trans hexec, htaken, by rw [hp], rfl⟩
  case asks =>
    intro t h r l s hturn hstandby hone hdiffer hasked
    have happly := applyDigest_asks (t := t) (h := h) (s := turnedEither t h s) hstandby (linked_turned hturn) hone hdiffer hasked
    obtain ⟨x, p, hexec, htaken, hp⟩ := exec_noObject (i := .digestRecord t h l) hturn (fun _ => rfl) happly rfl rfl
    exact ⟨_, (exec_digestRecord ..).trans hexec, htaken, by rw [hp], by rw [hp]; rfl, by rw [hp]; rfl, rfl⟩
  case differs =>
    intro t h r l s hturn hstandby hone hdiffer
    have happly := applyDigest_notes (t := t) (h := h) (s := turnedEither t h s) hstandby hone hdiffer
    obtain ⟨x, p, hexec, htaken, hp⟩ := exec_noObject (i := .digestRecord t h l) hturn (fun _ => rfl) happly rfl rfl
    exact ⟨_, (exec_digestRecord ..).trans hexec, htaken, by rw [hp], by rw [hp]; rfl, rfl⟩
  case request =>
    intro t h r s hturn hactive
    have happly := applyRange_request (t := t) (h := h) (s := turnedEither t h s) r hactive (linked_turned hturn)
    obtain ⟨x, p, hexec, htaken, hp⟩ := exec_noObject (i := .rangeRecord t h (.request r)) hturn (fun _ => rfl) happly rfl rfl
    exact ⟨_, (exec_rangeRecord ..).trans hexec, htaken, by rw [hp]; rfl, rfl⟩
  case reply =>
    intro t h r x n s hturn hstandby hasked hnode
    obtain ⟨g, happly, hcount⟩ := applyRange_reply (t := t) (h := h) (s := turnedEither t h s) x hstandby hasked
    obtain ⟨y, p, hexec, htaken, hp⟩ := exec_noObject (i := .rangeRecord t h (.reply r [x])) hturn (fun _ => rfl) happly rfl rfl
    refine ⟨_, (exec_rangeRecord ..).trans hexec, htaken, ?_, hcount _ rfl, rfl⟩
    exact (nodeAt_modNode_same ..).trans (congrArg (Option.map (nodeAdopted x)) hnode)
  case badTag =>
    intro t h s hlink hup hlinkUp htag
    refine ⟨_, (exec_keepaliveRecord ..).trans (execKeepaliveRecord_badTag hlink hup hlinkUp htag), ?_, (settle_eq _).trans ?_⟩
    · rw [count_settle, count_bump, count_arrive]
    · rw [bump_eq, arrive_eq]
      simp
  case second =>
    intro t h s hlink hup hlinkUp htag hpaired hmseq
    refine ⟨_, (exec_keepaliveRecord ..).trans (execKeepaliveRecord_second hlink hup hlinkUp htag hpaired hmseq), ?_, ?_,
      (settle_eq _).trans ?_⟩
    · rw [count_settle]
      exact count_bump_of_regs (arrive_regs s t) ..
    · simp [heardOn]
    · rw [bump_eq, heardOn, arrive_eq]
      simp

end Sys2Proof.Machine

/-! PROOFS. Forwarding: a packet that comes from the mesh takes what its route says; best-effort packets and the entries of the seen cache
expire (R342, R345 to R348, R362). -/

namespace Sys2Proof.Machine
open Sys2Proof Host

section
variable {s : State} {t : Time} {p : Packet}

/-! ### The lookup (R343 to R345) -/

/-- The lookup reads the tables alone. -/
theorem routeFor_of_tables {u : State} (h : u.tables = s.tables) (p : Packet) : routeFor u p = routeFor s p := by
  have hentries (id : Nat) : u.entries id = s.entries id := by rw [State.entries, State.entries, h]
  have htcam (k i a : Nat) : tcamFind u k i a = tcamFind s k i a := by rw [tcamFind, tcamFind, hentries]
  have htrie (a : Nat) : trieFind u a = trieFind s a := by rw [trieFind, trieFind, hentries]
  simp only [routeFor, htcam, htrie]

theorem forwardable_arrive (s : State) (t : Time) (p : Packet) : forwardable p (s.arrive t) = forwardable p s := by
  simp only [forwardable, fryAddr_arrive, arrive_fwd, arrive_fry]

/-- A packet that comes from the mesh is an IPv6 one (R342). -/
theorem v6_of_forwardable (hmesh : p.fromMesh = true) (hforward : forwardable p s = true) : p.v6 = true := by
  simp only [forwardable, hmesh, if_true, Bool.and_eq_true] at hforward
  exact hforward.2.1

/-! ### A packet from the mesh (R342) -/

/-- The state at `t` in which packet `p` of the mesh is no longer to be forwarded. -/
def packetOut (t : Time) (p : Packet) (s : State) : State :=
  { s.arrive t with fwd := { s.fwd with toForward := s.fwd.toForward.erase (p.source, p.digest) } }

theorem routeFor_packetOut : routeFor (packetOut t p s) p = routeFor s p := routeFor_of_tables (arrive_tables s t) p

@[simp] theorem entry_packetOut (id i : Nat) : (packetOut t p s).entry id i = s.entry id i := entry_arrive _ _ id i

@[simp] theorem packetOut_fry : (packetOut t p s).fry = s.fry := arrive_fry s t

@[simp] theorem packetOut_sent : (packetOut t p s).sent = s.sent := arrive_sent s t

theorem packetOut_regs : (packetOut t p s).regs = s.regs := arrive_regs s t

theorem packetOut_eq : packetOut t p s = { s with
    clock := (s.arrive t).clock
    fwd := { s.fwd with toForward := s.fwd.toForward.erase (p.source, p.digest) } } := by
  rw [packetOut, arrive_eq]

theorem execForwardPacket_mesh (hmesh : p.fromMesh = true) (hup : s.packetUp = true) (hforward : forwardable p s = true) :
    execForwardPacket t p s = .next (settle (forwardBy p (packetOut t p s))) := by
  rw [execForwardPacket, onInst_of_true (by simp [hmesh])]
  simp [packetUp_arrive, hup, forwardable_arrive, hforward, hmesh, packetOut]

theorem execForwardPacket_other (hmesh : p.fromMesh = true) (hforward : forwardable p s = false) :
    execForwardPacket t p s = .next (settle (s.arrive t)) := by
  rw [execForwardPacket, onInst_of_true (by simp [hmesh])]
  simp [forwardable_arrive, hforward]

/-! ### What the RESULT says (R345 to R348) -/

theorem forwardBy_noRoute (hroute : routeFor s p = none) : forwardBy p s = bump cFwdNoRoute 0 s := by
  rw [forwardBy, hroute]

/-- Action 3 sends the packet to the next hop's port. -/
theorem forwardBy_nextHop {r h : Nat} (hroute : routeFor s p = some r) (hact : r / 2 ^ 29 = 3) (hhop : 1 < p.hopLimit)
    (hentry : h = s.entry tFwdNexthop (r / 2 ^ 16 % 2 ^ 12)) (hlink : s.fry.links.getLsbD (h / 2 ^ 120) = true)
    (hfits : frameLength (h / 2 ^ 96 % 2 ^ 16) p.octets.length ≤ 9216) :
    forwardBy p s = s.out (.forwarded (h / 2 ^ 120) (h / 2 ^ 96 % 2 ^ 16) (h / 2 ^ 48 % 2 ^ 48) p.sentOn) := by
  simp only [forwardBy, hroute, hact, ← hentry]
  simp [Nat.not_le.mpr hhop, hlink, Nat.not_lt.mpr hfits, -Nat.reducePow]

/-- Action 2 queues the packet for the node that its destination names. -/
theorem forwardBy_node {r : Nat} (hroute : routeFor s p = some r) (hact : r / 2 ^ 29 = 2) (hv6 : p.v6 = true) (hhop : 1 < p.hopLimit)
    (hfits : p.meshLength ≤ p.psduMax) :
    forwardBy p s = addTransit false (p.dst.setWidth 64 ^^^ 0x0200000000000000) (BitVec.ofNat 16 r) p.meshLength s := by
  simp only [forwardBy, hroute, hact]
  simp [Nat.not_le.mpr hhop, hv6, Nat.not_lt.mpr hfits]

/-! ### Expiry (R348, R362) -/

/-- A best-effort packet to one node that nothing is booked for leaves the queue. -/
theorem execTransitExpire_node {k : Nat} {x : Transit} (hx : s.fwd.transit[k]? = some x) (hup : s.packetUp = true)
    (hdue : x.since + sec (s.fld rFwdCtrl2 27 5 * 10) ≤ (s.arrive t).clock.now) (hnode : x.flood = false) (hbookings : s.txm.bookings = []) :
    execTransitExpire t k s = .next (settle (bump cFwdTransitExpire 0
      { s.arrive t with fwd := { s.fwd with transit := s.fwd.transit.eraseIdx k } })) := by
  rw [execTransitExpire, onInst_true]
  simp [hx, packetUp_arrive, hup, fld_arrive, Nat.not_lt.mpr hdue, hnode, hbookings]

theorem execSeenExpire_up (hup : s.packetUp = true) : execSeenExpire t s = .next (settle { s.arrive t with
    fwd := { s.fwd with seen := s.fwd.seen.filter fun x => decide ((s.arrive t).clock.now < x.2.2 + sec (s.fld rFldCtrl 8 12)) } }) := by
  rw [execSeenExpire, onInst_true]
  simp [packetUp_arrive, hup, fld_arrive]

end

/-- Settles O16: a packet from the mesh leaves the list of those to be forwarded, and then does what the RESULT of its lookup says. -/
theorem forwarding : Obligations.Forwarding := by
  refine ⟨?nextHop, ?node, ?noRoute, ?other, ?transit, ?seen⟩
  case nextHop =>
    intro t p r h s hmesh hup hforward hroute hact hhop hentry hlink hfits
    have hexec := execForwardPacket_mesh (t := t) hmesh hup hforward
    rw [forwardBy_nextHop (routeFor_packetOut.trans hroute) hact hhop (hentry.trans (entry_packetOut ..).symm) (by simpa) hfits,
      packetOut_eq] at hexec
    refine ⟨_, (exec_forwardPacket ..).trans hexec, ?_, (settle_eq _).trans ?_⟩
    · simp [State.out]
    · simp [State.out]
  case node =>
    intro t p r s hmesh hup hforward hroute hact hhop hfits
    have hexec := execForwardPacket_mesh (t := t) hmesh hup hforward
    rw [forwardBy_node (routeFor_packetOut.trans hroute) hact (v6_of_forwardable hmesh hforward) hhop hfits, packetOut_eq] at hexec
    refine ⟨_, (exec_forwardPacket ..).trans hexec, ?_, ?_, (settle_eq _).trans ?_⟩
    all_goals simp [addTransit]
  case noRoute =>
    intro t p s hmesh hup hforward hroute
    have hexec := execForwardPacket_mesh (t := t) hmesh hup hforward
    rw [forwardBy_noRoute (routeFor_packetOut.trans hroute)] at hexec
    refine ⟨_, (exec_forwardPacket ..).trans hexec, ?_, (settle_eq _).trans ?_⟩
    · rw [count_settle, count_bump_of_regs packetOut_regs]
    · rw [bump_eq, packetOut_eq]
      simp
  case other =>
    intro t p s hmesh hforward
    exact ⟨_, (exec_forwardPacket ..).trans (execForwardPacket_other hmesh hforward), (settle_eq _).trans (by rw [arrive_eq]; simp)⟩
  case transit =>
    intro t k x s hx hup hdue hnode hbookings
    refine ⟨_, (exec_transitExpire ..).trans (execTransitExpire_node hx hup hdue hnode hbookings), ?_, ?_, (settle_eq _).trans ?_⟩
    · simp
    · rw [count_settle]
      exact count_bump_of_regs (arrive_regs s t) ..
    · rw [bump_eq, arrive_eq]
      simp
  case seen =>
    intro t s hup
    refine ⟨_, (exec_seenExpire ..).trans (execSeenExpire_up hup), ?_, (settle_eq _).trans ?_⟩
    · simp
    · rw [arrive_eq]
      simp

end Sys2Proof.Machine

/-! PROOFS. The nodes of the packet plane: learning and admission, creation and insertion, the rehash, ageing and rehoming (R332 to R334,
R337, R340, R341, R350 to R357). -/

namespace Sys2Proof.Machine
open Sys2Proof Host

section
variable {s : State} {t : Time} {e : Eui}

/-! ### What arrival leaves of the node table -/

@[simp] theorem qualityOf_arrive (s : State) (t : Time) (l : Int) : qualityOf (s.arrive t) l = qualityOf s l := by
  rw [qualityOf, qualityOf, fld_arrive]

@[simp] theorem policyFlood_arrive (s : State) (t : Time) (p : Nat) : policyFlood (s.arrive t) p = policyFlood s p := by
  rw [policyFlood, policyFlood, fldAt_arrive]

@[simp] theorem rebuildOpen_arrive (s : State) (t : Time) : rebuildOpen (s.arrive t) = rebuildOpen s := by
  simp only [rebuildOpen, underTest, arrive_start, arrive_fwd, arrive_hlt]

@[simp] theorem failedCount_arrive (s : State) (t : Time) : failedCount (s.arrive t) = failedCount s := by
  rw [failedCount, failedCount, arrive_fwd]

@[simp] theorem freeIndexOf_arrive (s : State) (t : Time) : freeIndexOf (s.arrive t) = freeIndexOf s := by
  simp only [freeIndexOf, nodeAt_arrive, arrive_fwd, arrive_free]

@[simp] theorem cellRefs_arrive (s : State) (t : Time) (i : Nat) : cellRefs (s.arrive t) i = cellRefs s i := by
  simp only [cellRefs, State.entries, arrive_tables]

/-! ### Learn events and windows (R350, R353) -/

/-- A learn event enters the window of its node alone. -/
theorem collect_eq (ports : List (Nat × Int)) (isNew : Bool) (r : Option Nat) (s : State) : collect e ports isNew r s =
    { s with fwd := { s.fwd with windows := (collect e ports isNew r s).fwd.windows } } := by
  unfold collect
  split <;> rfl

/-- The node has a window from its first event on. -/
theorem collect_any (ports : List (Nat × Int)) (isNew : Bool) (r : Option Nat) (s : State) :
    ((collect e ports isNew r s).fwd.windows.any fun w => w.node == e) = true := by
  unfold collect
  split
  · next hany =>
    obtain ⟨w, hw, hnode⟩ := List.any_eq_true.mp hany
    have hnode' : w.node = e := by simpa using hnode
    refine List.any_eq_true.mpr ⟨{ w with ports := w.ports ++ ports }, List.mem_map.mpr ⟨w, hw, if_pos hnode'⟩, hnode⟩
  · simp

theorem nodeAt_collect (ports : List (Nat × Int)) (isNew : Bool) (r : Option Nat) (s : State) (i : Nat) :
    (collect e ports isNew r s).nodeAt i = s.nodeAt i := by
  rw [collect_eq]
  rfl

@[simp] theorem challenge_heard (s : State) (n : Node) : (challenge s n).heard = n.heard := by
  unfold challenge
  dsimp only
  (repeat' split) <;> rfl

theorem execLearnEvent_known {p i : Nat} {l : Int} (hp : p < 36) (hup : s.packetUp = true) (hindex : s.indexOf e = some i) :
    execLearnEvent t e [(p, l)] s = .next (settle (collect e [(p, qualityOf s l)] false none
      (learnInto i [(p, qualityOf s l)] (s.arrive t)))) := by
  rw [execLearnEvent, onInst_of_true (by simpa using hp)]
  simp [packetUp_arrive, hup, hindex]

theorem learnInto_eq (i : Nat) (ports : List (Nat × Int)) (s : State) :
    learnInto i ports s = { s with fwd := { s.fwd with nodes := (learnInto i ports s).fwd.nodes } } := rfl

/-- The heard list of the entry takes the event (R350). -/
theorem learnInto_heard {i : Nat} {n : Node} (p : Nat) (q : Int) (hnode : s.nodeAt i = some n) :
    ((learnInto i [(p, q)] s).nodeAt i).map (fun m => m.heard) = some (heardPut s.second p q n.heard) := by
  rw [learnInto, nodeAt_modNode_same, hnode]
  simp

/-! ### Admission of a new sender (R351, R352) -/

theorem count_setCtx (g : Nat) (x : KeyCtx) (s : State) (c : Counter) (i : Nat) : (setCtx g x s).count c i = s.count c i :=
  count_of_regs rfl ..

theorem bestPort_one (x : Nat × Int) : bestPort [x] = some x.1 := rfl

section
variable {g p : Nat} {l : Int} {c : KeyCtx} (hg : g < 4096) (hp : p < 36) (hctx : afind s.key.ctxs g = some c) (hkim : c.fields.kim = 1)
  (hsource : c.fields.source = some e) (hbound : c.bound.isSome = true) (hindex : s.indexOf e = none) (hup : s.packetUp = true)
  (hnone : s.fwd.newcomers = [])
include hg hp hctx hkim hsource hbound hindex hup hnone

/-- The token of the one member port is reserved. -/
theorem execNewSenderAdmit_reserved (htoken : hasToken (s.arrive t) p = true) (hwindows : s.fwd.windows = []) :
    execNewSenderAdmit t g e [(p, l)] s = .next (settle { s.arrive t with fwd := { s.fwd with
      buckets := aput s.fwd.buckets p (budget (s.arrive t) p - sec 1, (s.arrive t).clock.now)
      newcomers := [⟨e, g, some p, none, false, false, [], c.fields.pan, 0, 0, none, (s.arrive t).clock.now⟩]
      windows := [⟨e, (s.arrive t).clock.now, [(p, qualityOf s l)], some p, true⟩] } }) := by
  rw [execNewSenderAdmit, onInst_of_true (by simp [hg, hp])]
  simp [hctx, hkim, hsource, Option.isSome_iff_ne_none.mp hbound, hindex, packetUp_arrive, hup, hnone, bestPort_one, htoken, collect,
    spendToken, setBudget, hwindows]

/-- An empty bucket of policy DROP refuses the frame. -/
theorem execNewSenderAdmit_refused (htoken : hasToken (s.arrive t) p = false) (hpolicy : policyFlood s p = false) :
    execNewSenderAdmit t g e [(p, l)] s = .next (settle (setCtx g { c with bound := none, failed := some .noKey, silent := true }
      (bump cFwdLearnDrop 0 (s.arrive t)))) := by
  rw [execNewSenderAdmit, onInst_of_true (by simp [hg, hp])]
  simp [hctx, hkim, hsource, Option.isSome_iff_ne_none.mp hbound, hindex, packetUp_arrive, hup, hnone, bestPort_one, htoken, hpolicy]

end

/-- The window of a new sender closes on the port that its token is reserved on. -/
theorem execLearnWindowClose_reserved {p : Nat} {q : Int} {w : LearnWin} (hwindows : s.fwd.windows = [w]) (hnode : w.node = e)
    (hnew : w.isNew = true) (hports : w.ports = [(p, q)]) (hreserve : w.reserve = some p) (hup : s.packetUp = true)
    (hdue : w.opened + us (s.fld rFwdCtrl 0 12) ≤ (s.arrive t).clock.now) : execLearnWindowClose t e s =
      .next (settle { s.arrive t with fwd := { s.fwd with
        windows := []
        newcomers := s.fwd.newcomers.map fun m => if m.node = e then { m with home := some p, decided := true, reserve := none } else m } }) := by
  subst hnode
  rw [execLearnWindowClose, onInst_true]
  simp [hwindows, packetUp_arrive, hup, fld_arrive, Nat.not_lt.mpr hdue, hnew, closeNew, hports, hreserve, bestPort_one]

/-! ### Creation and insertion (R333, R337, R340, R356) -/

theorem execNodeEntryCreate_free {i : Nat} {m : NewSender}
    (hfind : s.fwd.newcomers.find? (fun m => m.node == e && m.accepted && m.index.isNone) = some m) (hup : s.packetUp = true)
    (hleads : s.leads = true) (hfree : freeIndexOf s = some i) : execNodeEntryCreate t e s =
      .next (settle { s.arrive t with
        free := s.free + 1
        sent := .learnCreate e i :: s.sent
        fwd := { s.fwd with newcomers := s.fwd.newcomers.map fun m =>
          if m.node = e then { m with index := some i, since := (s.arrive t).clock.now } else m } }) := by
  rw [execNodeEntryCreate, onInst_true]
  simp [hfind, packetUp_arrive, hup, hleads, allocIndex, hfree, State.drawn, State.out]

/-- Making room moves entries of the node table and no more (R337). -/
theorem makeRoom_fst_arrive (e : Eui) (moves : List (Nat × Nat)) (s : State) (t : Time) :
    (makeRoom e moves (s.arrive t)).1 = (makeRoom e moves s).1 := by simp only [makeRoom, arrive_fwd]

theorem makeRoom_arrive (e : Eui) (moves : List (Nat × Nat)) (s : State) (t : Time) :
    (makeRoom e moves (s.arrive t)).2 = { s.arrive t with fwd := (makeRoom e moves s).2.fwd } := by simp only [makeRoom, arrive_fwd]

section
variable {i : Nat} {moves : List (Nat × Nat)} {n : Node} (hup : s.packetUp = true) (hnode : s.nodeOf e = some (i, n))
  (hplace : n.place.inTable = false) (hopen : rebuildOpen s = false)
include hup hnode hplace hopen

theorem execNodeInsert_placed {k : Nat} (hroom : (makeRoom e moves s).1 = some k) : execNodeInsert t e moves s =
    .next (settle (State.modNode { s.arrive t with fwd := (makeRoom e moves s).2.fwd } i
      fun n => { n with place := .table k, failed := false })) := by
  rw [execNodeInsert, onInst_true]
  simp [packetUp_arrive, hup, hnode, hplace, hopen, makeRoom_fst_arrive, hroom, makeRoom_arrive]

theorem execNodeInsert_failed (hroom : (makeRoom e moves s).1 = none) : execNodeInsert t e moves s =
    .next (settle (bump cFwdInsertFail 0 (State.modNode { s.arrive t with fwd := (makeRoom e moves s).2.fwd } i
      fun n => { n with failed := true }))) := by
  rw [execNodeInsert, onInst_true]
  simp [packetUp_arrive, hup, hnode, hplace, hopen, makeRoom_fst_arrive, hroom, makeRoom_arrive]

end

/-! ### The entry of a new sender (R350, R352, R356) -/

/-- The entry that a new sender with its home port `p` decided is born with. -/
def homedNode (s : State) (m : NewSender) (p : Nat) (place : NodePlace) : Node :=
  let n := freshNode s m.node m.pan place
  { n with unhomed := false, homePort := p, lastDigest := m.digest, sec := { n.sec with fcHwm := m.counter } }

/-- A solo device puts the entry of its one new sender, whose window is closed and of which no event is held, into its table. -/
theorem bornNode_sole {m : NewSender} {p : Nat} (i : Nat) (place : NodePlace) (hnewcomers : s.fwd.newcomers = [m])
    (hwindows : s.fwd.windows = []) (hevents : m.events = []) (hhome : m.home = some p) (hsolo : s.pair.state = .solo) :
    bornNode m i place s =
      { s with fwd := { s.fwd with newcomers := [], nodes := aput s.fwd.nodes i (homedNode s m p place) } } := by
  have hmirror (v : State) (hv : v.pair.state = .solo) (b : Body) : mirror b none v = v := mirror_solo b none hv
  simp [bornNode, hwindows, hnewcomers, hevents, hhome, putNode, hmirror, hsolo, homedNode]

theorem execNodeInsert_born {i k p : Nat} {moves : List (Nat × Nat)} {m : NewSender} (hup : s.packetUp = true) (hnew : s.nodeOf e = none)
    (hroom : (makeRoom e moves s).1 = some k) (hnewcomers : s.fwd.newcomers = [m]) (hnode : m.node = e) (hindex : m.index = some i)
    (hopen : rebuildOpen s = false) (hwindows : s.fwd.windows = []) (hevents : m.events = []) (hhome : m.home = some p)
    (hsolo : s.pair.state = .solo) : execNodeInsert t e moves s = .next (settle { s.arrive t with fwd := { s.fwd with
      newcomers := []
      nodes := aput (makeRoom e moves s).2.fwd.nodes i (homedNode (s.arrive t) m p (.table k)) } }) := by
  have hfind : [m].find? (fun m => m.node == e) = some m := by simp [hnode]
  rw [execNodeInsert, onInst_true]
  simp only [packetUp_arrive, hup, nodeOf_arrive, hnew, arrive_fwd, hnewcomers, hfind, hindex, rebuildOpen_arrive, hopen,
    makeRoom_fst_arrive, hroom, makeRoom_arrive]
  rw [bornNode_sole (p := p) i (.table k) (by simpa [makeRoom] using hnewcomers) (by simpa [makeRoom] using hwindows) hevents hhome
    (by simpa using hsolo)]
  rfl

/-- The rebuild table is read off the nodes and the seeds. -/
theorem rebuildPlace_of_fwd {u : State} (h : u.fwd = s.fwd) (e : Eui) : rebuildPlace u e = rebuildPlace s e := by
  have hseeds : rebuildSeeds u = rebuildSeeds s := by rw [rebuildSeeds, rebuildSeeds, h]
  have hcount (i b : Nat) : rebuildCount u i b = rebuildCount s i b := by rw [rebuildCount, rebuildCount, h]
  have hused : overflowUsed u = overflowUsed s := by rw [overflowUsed, overflowUsed, h]
  simp only [rebuildPlace, hseeds, hcount, hused]

/-- After 2 ms without Emaidor the entry goes to the rebuild table, under a table clamp that is free again afterwards. -/
theorem execLearnFallback_born {i p : Nat} {m : NewSender} {place : NodePlace} (hup : s.packetUp = true)
    (hnewcomers : s.fwd.newcomers = [m]) (hnode : m.node = e) (hindex : m.index = some i) (hdue : m.since + ms 2 ≤ (s.arrive t).clock.now)
    (hclamp : s.clamp 70 = {}) (hplace : rebuildPlace s e = some place) (hwindows : s.fwd.windows = []) (hevents : m.events = [])
    (hhome : m.home = some p) (hsolo : s.pair.state = .solo) : ∃ (v : State) (n : Node),
      execLearnFallback t e s = .next (settle v) ∧ v.clamp 70 = {} ∧
      v.fwd = { s.fwd with newcomers := [], nodes := aput s.fwd.nodes i n } ∧ n.eui = e ∧ n.homePort = p ∧ n.place = place := by
  have hfind : [m].find? (fun m => m.node == e) = some m := by simp [hnode]
  obtain ⟨w, hw, hfwd, hpair, hheld⟩ : ∃ w, bump cFwdLearnFallback 0 ((s.arrive t).setClamp 70 { holder := 9, waiting := [] }) = w ∧
      w.fwd = s.fwd ∧ w.pair = s.pair ∧ w.clamp 70 = { holder := 9, waiting := [] } :=
    ⟨_, rfl, (bump_fwd ..).trans (arrive_fwd s t), (bump_pair ..).trans (arrive_pair s t),
      (clamp_bump ..).trans (clamp_setClamp_same ..)⟩
  have hborn : bornRebuild m i w =
      { w with fwd := { s.fwd with newcomers := [], nodes := aput s.fwd.nodes i (homedNode w m p place) } } := by
    have hplace' : rebuildPlace w m.node = some place := by rw [rebuildPlace_of_fwd hfwd, hnode, hplace]
    rw [bornRebuild, hplace', ← hfwd]
    exact bornNode_sole i place (by rw [hfwd, hnewcomers]) (by rw [hfwd, hwindows]) hevents hhome (by rw [hpair, hsolo])
  have hexec : execLearnFallback t e s = .next (settle (freeClampOf 9 70 (bornRebuild m i w))) := by
    rw [execLearnFallback, onInst_true]
    simp only [arrive_fwd, hnewcomers, hfind, hindex, packetUp_arrive, hup, fld_arrive, hdue,
      askClamp_free (s := s.arrive t) ((clamp_arrive ..).trans hclamp) (by decide : (9 : Nat) ≠ 0), hw]
    rfl
  have hheld' (x : Fwd) : State.clamp { w with fwd := x } 70 = { holder := 9, waiting := [] } := hheld
  rw [hborn, freeClampOf_sole (hheld' _)] at hexec
  exact ⟨_, homedNode w m p place, hexec, clamp_setClamp_same _ 70 {}, rfl, hnode, rfl, rfl⟩

/-! ### The rehash (R337, R341) -/

/-- An entry of the table is copied to the rebuild table, as far as that has room. -/
def copyToRebuild (s : State) (x : Nat × Node) : State :=
  if x.2.place.inTable then (match rebuildPlace s x.2.eui with
    | some p => s.modNode x.1 fun n => { n with place := p }
    | none => bump cFwdRbFull 0 s)
  else s

theorem copyToRebuild_eq (s : State) (x : Nat × Node) : copyToRebuild s x =
    { s with regs := (copyToRebuild s x).regs, fwd := (copyToRebuild s x).fwd } := by
  unfold copyToRebuild
  split
  · split
    · rfl
    · rw [bump_eq]
  · rfl

theorem copyAll_eq (l : List (Nat × Node)) (s : State) : l.foldl copyToRebuild s =
    { s with regs := (l.foldl copyToRebuild s).regs, fwd := (l.foldl copyToRebuild s).fwd } := by
  induction l generalizing s with
  | nil => rfl
  | cons x l ih => rw [List.foldl_cons, ih, copyToRebuild_eq]

/-- Every entry of the table is copied, one after the other. -/
def rehashCopied (s : State) : State := s.fwd.nodes.foldl copyToRebuild s

/-- The copying leaves the health plane, the memory and the keys. -/
theorem rehashCopied_keeps (s : State) :
    (rehashCopied s).hlt = s.hlt ∧ (rehashCopied s).mem = s.mem ∧ (rehashCopied s).key = s.key := by
  rw [rehashCopied, copyAll_eq]
  exact ⟨rfl, rfl, rfl⟩

/-- A rehash that the failed insertions call for begins under the table clamp. -/
theorem execRehashStart_due (hidle : s.fwd.rehash = false) (hup : s.packetUp = true)
    (hdue : s.fld rFwdCtrl2 19 8 * 16 < failedCount s) (hclamp : s.clamp 70 = {}) : ∃ v : State,
      execRehashStart t s = .next (settle v) ∧ v.fwd.rehash = true ∧ v.hlt = ((s.arrive t).setClamp 70 { holder := 8, waiting := [] }).hlt ∧
      v.mem = s.mem ∧ v.key = s.key := by
  obtain ⟨v, hcopied⟩ : ∃ v, rehashCopied ((s.arrive t).setClamp 70 { holder := 8, waiting := [] }) = v := ⟨_, rfl⟩
  obtain ⟨hhlt, hmem, hkey⟩ := rehashCopied_keeps ((s.arrive t).setClamp 70 { holder := 8, waiting := [] })
  rw [hcopied] at hhlt hmem hkey
  refine ⟨{ v with
    fwd := { v.fwd with rehash := true, rbSeeds := some v.fwd.seeds, seeds := (Config.random v.free, Config.random (v.free + 1)) }
    free := v.free + 2 }, ?_, rfl, hhlt, hmem.trans (arrive_mem ..), hkey.trans (arrive_key ..)⟩
  rw [execRehashStart, onInst_true, ← hcopied]
  simp only [arrive_fwd, hidle, packetUp_arrive, hup, failedCount_arrive, fld_arrive, Nat.not_le.mpr hdue,
    askClamp_free (s := s.arrive t) ((clamp_arrive ..).trans hclamp) (by decide : (8 : Nat) ≠ 0)]
  rfl

theorem execRehashDone_all {slots : List (Nat × Nat)} {l : List (Nat × Node)} (hrehash : s.fwd.rehash = true) (hup : s.packetUp = true)
    (hall : reinsert s.fwd.seeds slots s.fwd.nodes [] = some l) : execRehashDone t slots s =
      .next (settle (freeClampOf 8 70 { s.arrive t with fwd := { s.fwd with rehash := false, rbSeeds := none, nodes := l } })) := by
  rw [execRehashDone, onInst_true]
  simp [hall, hrehash, packetUp_arrive, hup]

/-! ### Ageing (R357, R358) -/

/-- The node's heard list without what is older than the ager allows at the time of `s`. -/
def heardAged (s : State) (n : Node) : Node :=
  { n with heard := n.heard.filter fun h => decide ((s.second + 2 ^ 32 - h.last) % 2 ^ 32 ≤ s.fld rFwdAge 9 11 * 60) }

section
variable {i stamp : Nat} {n : Node} (hi : i < nodeMax) (hnode : s.nodeAt i = some n) (hup : s.packetUp = true)
include hi hnode hup

/-- A young entry keeps its place and loses the old entries of its heard list. -/
theorem execAgerVisit_young (hyoung : ((s.arrive t).second + 2 ^ 32 - stamp % 2 ^ 32) % 2 ^ 32 < s.fld rFwdAge 0 9 * 3600) :
    execAgerVisit t i stamp s = .next (settle ((s.arrive t).modNode i (heardAged (s.arrive t)))) := by
  have haged : ((s.arrive t).modNode i (heardAged (s.arrive t))).nodeAt i = some (heardAged (s.arrive t) n) := by
    rw [nodeAt_modNode_same, nodeAt_arrive, hnode]
    rfl
  unfold heardAged at haged ⊢
  rw [execAgerVisit, onInst_of hi]
  simp only [nodeAt_arrive, hnode, packetUp_arrive, hup, fld_arrive] at hyoung haged ⊢
  simp only [haged, hyoung, if_true]
  rfl

/-- An old entry that nothing holds is deleted and counted. -/
theorem execAgerVisit_old (hold : s.fld rFwdAge 0 9 * 3600 ≤ ((s.arrive t).second + 2 ^ 32 - stamp % 2 ^ 32) % 2 ^ 32)
    (hstamp : n.ageStamp = stamp) (hstatic : n.static = false) (hblob : n.sec.blobValid = false) (hrefs : cellRefs s i = 0) :
    execAgerVisit t i stamp s =
      .next (settle (bump cFwdAgedEntry 0 (deleteNode i ((s.arrive t).modNode i (heardAged (s.arrive t)))))) := by
  have haged : ((s.arrive t).modNode i (heardAged (s.arrive t))).nodeAt i = some (heardAged (s.arrive t) n) := by
    rw [nodeAt_modNode_same, nodeAt_arrive, hnode]
    rfl
  unfold heardAged at haged ⊢
  rw [execAgerVisit, onInst_of hi]
  simp only [nodeAt_arrive, hnode, packetUp_arrive, hup, fld_arrive] at hold haged ⊢
  simp only [haged, Nat.not_lt.mpr hold, hstamp, hstatic, hblob, cellRefs_arrive, hrefs, Bool.not_true, Bool.false_eq_true, if_false, ne_eq,
    not_true_eq_false, Bool.or_self, bne_self_eq_false]

end

/-- A solo device deletes the entry of a node that is no member of a campaign. -/
theorem deleteNode_sole {i : Nat} (hprog : afind s.prog i = none) (hsolo : s.pair.state = .solo) : deleteNode i s = { s with
    fwd := { s.fwd with nodes := adel s.fwd.nodes i, blobs := adel s.fwd.blobs i }
    key := { s.key with cache := s.key.cache.filter fun c => some c.node != (s.nodeAt i).map fun n => n.eui } } := by
  rw [deleteNode, memberLost, hprog]
  exact mirror_solo _ _ hsolo

theorem nodeAt_deleteNode {i : Nat} (hprog : afind s.prog i = none) (hsolo : s.pair.state = .solo) : (deleteNode i s).nodeAt i = none := by
  rw [deleteNode_sole hprog hsolo]
  exact afind_adel_same ..

theorem deleteNode_regs {i : Nat} (hprog : afind s.prog i = none) (hsolo : s.pair.state = .solo) : (deleteNode i s).regs = s.regs := by
  rw [deleteNode_sole hprog hsolo]

/-! ### Rehoming (R355) -/

theorem execHomePortRehome_lost {i : Nat} {n : Node} (hnode : s.nodeOf e = some (i, n)) (hhomed : n.unhomed = false)
    (hdown : s.headUp n.homePort = false) (hup : s.packetUp = true) (hheard : n.heard = []) : execHomePortRehome t e s =
      .next (settle (bump cFwdHomeLost 0 ((s.arrive t).modNode i fun n => { n with unhomed := true, challenger := none }))) := by
  rw [execHomePortRehome, onInst_true]
  simp [hnode, hhomed, hdown, packetUp_arrive, hup, hheard, bestPort]

/-- The one other port that the node was heard on, UP and with a token, becomes its home. -/
theorem execHomePortRehome_moved {i : Nat} {n : Node} {h : Heard} (hnode : s.nodeOf e = some (i, n)) (hhomed : n.unhomed = false)
    (hdown : s.headUp n.homePort = false) (hup : s.packetUp = true) (hheard : n.heard = [h]) (hother : h.port ≠ n.homePort)
    (hheadUp : s.headUp h.port = true) (htoken : hasToken (s.arrive t) h.port = true) : execHomePortRehome t e s =
      .next (settle ((spendToken h.port (s.arrive t)).modNode i fun n => { n with homePort := h.port, challenger := none })) := by
  rw [execHomePortRehome, onInst_true]
  simp [hnode, hhomed, hdown, packetUp_arrive, hup, hheard, hother, hheadUp, bestPort_one, htoken]

end

/-- Settles O15: each command is one equation of the packet plane, and the node table, the windows and the newcomers are read off it. -/
theorem nodeTable : Obligations.NodeTable := by
  refine ⟨?learn, ?reserved, ?refused, ?closes, ?create, ?placed, ?full, ?born, ?fallback, ?rehashStart, ?rehashDone, ?young, ?old, ?lost,
    ?moved⟩
  case learn =>
    intro t e p i l n s hp hup hindex hnode
    refine ⟨_, (exec_learnEvent ..).trans (execLearnEvent_known hp hup hindex), ?_, ?_, (settle_eq _).trans ?_⟩
    · rw [nodeAt_of_fwd (settle_fwd _), nodeAt_collect]
      exact learnInto_heard p (qualityOf s l) ((nodeAt_arrive ..).trans hnode)
    · rw [settle_fwd]
      exact collect_any ..
    · rw [collect_eq, learnInto_eq, arrive_eq]
      simp
  case reserved =>
    intro t g p l e c s hg hp hctx hkim hsource hbound hindex hup hnone htoken hwindows
    refine ⟨_, (exec_newSenderAdmit ..).trans
      (execNewSenderAdmit_reserved hg hp hctx hkim hsource hbound hindex hup hnone htoken hwindows), ?_, ?_, (settle_eq _).trans ?_⟩
    · simp
    · rw [settle_fwd]
      exact afind_aput_same ..
    · rw [arrive_eq]
      simp
  case refused =>
    intro t g p l e c s hg hp hctx hkim hsource hbound hindex hup hnone htoken hpolicy
    refine ⟨_, (exec_newSenderAdmit ..).trans
      (execNewSenderAdmit_refused hg hp hctx hkim hsource hbound hindex hup hnone htoken hpolicy), ?_, ?_, (settle_eq _).trans ?_⟩
    · rw [settle_key, setCtx, afind_aput_same]
      rfl
    · rw [count_settle, count_setCtx, count_bump, count_arrive]
    · rw [setCtx, bump_eq, arrive_eq]
      simp
  case closes =>
    intro t e p q w s hwindows hnode hnew hports hreserve hup hdue
    refine ⟨_, (exec_learnWindowClose ..).trans (execLearnWindowClose_reserved hwindows hnode hnew hports hreserve hup hdue), ?_, ?_,
      (settle_eq _).trans ?_⟩
    · simp
    · simp
    · rw [arrive_eq]
      simp
  case create =>
    intro t e i m s hfind hup hleads hfree
    refine ⟨_, (exec_nodeEntryCreate ..).trans (execNodeEntryCreate_free hfind hup hleads hfree), ?_, ?_, (settle_eq _).trans ?_⟩
    · simp
    · simp
    · rw [arrive_eq]
      simp
  case placed =>
    intro t e i k moves n s hup hnode hplace hopen hroom
    refine ⟨_, (exec_nodeInsert ..).trans (execNodeInsert_placed hup hnode hplace hopen hroom), ?_, (settle_eq _).trans ?_⟩
    · rw [nodeAt_of_fwd (settle_fwd _), nodeAt_modNode_same]
      rfl
    · rw [State.modNode, arrive_eq]
      simp
  case full =>
    intro t e i moves n s hup hnode hplace hopen hroom
    refine ⟨_, (exec_nodeInsert ..).trans (execNodeInsert_failed hup hnode hplace hopen hroom), ?_, ?_, (settle_eq _).trans ?_⟩
    · rw [count_settle]
      exact count_bump_of_regs (arrive_regs s t) ..
    · rw [nodeAt_of_fwd ((settle_fwd _).trans (bump_fwd ..)), nodeAt_modNode_same]
      rfl
    · rw [bump_eq, State.modNode, arrive_eq]
      simp
  case born =>
    intro t e i k moves m s hup hnew hroom hnewcomers hnode hindex hopen hwindows hevents hhome hsolo
    refine ⟨_, (exec_nodeInsert ..).trans
      (execNodeInsert_born hup hnew hroom hnewcomers hnode hindex hopen hwindows hevents hhome hsolo), ?_, ?_, (settle_eq _).trans ?_⟩
    · rw [State.nodeAt, settle_fwd, afind_aput_same, ← hnode]
      rfl
    · simp
    · rw [arrive_eq]
      simp
  case fallback =>
    intro t e i m place s hup hnewcomers hnode hindex hdue hclamp hplace hwindows hevents hhome hsolo
    obtain ⟨v, n, hexec, hfree, hfwd, heui, hport, hat⟩ :=
      execLearnFallback_born hup hnewcomers hnode hindex hdue hclamp hplace hwindows hevents hhome hsolo
    refine ⟨_, (exec_learnFallback ..).trans hexec, ?_, ?_, (settle_clamp ..).trans hfree⟩
    · rw [State.nodeAt, settle_fwd, hfwd, afind_aput_same]
      simp [heui, hport, hat]
    · rw [settle_fwd, hfwd]
  case rehashStart =>
    intro t s hidle hup hdue hclamp
    obtain ⟨v, hexec, hrehash, hhlt, hmem, hkey⟩ := execRehashStart_due (t := t) hidle hup hdue hclamp
    refine ⟨_, (exec_rehashStart ..).trans hexec, by rw [settle_fwd, hrehash], ?_, by rw [settle_mem, hmem], by rw [settle_key, hkey]⟩
    rw [settle_clamp, clamp_of_hlt hhlt, clamp_setClamp_same]
  case rehashDone =>
    intro t slots l s hrehash hup hall
    refine ⟨_, (exec_rehashDone ..).trans (execRehashDone_all hrehash hup hall), ?_, (settle_eq _).trans ?_⟩
    · rw [settle_fwd, freeClampOf_eq]
    · rw [freeClampOf_eq, arrive_eq]
      simp
  case young =>
    intro t i stamp n s hi hnode hup hyoung
    refine ⟨_, (exec_agerVisit ..).trans (execAgerVisit_young hi hnode hup hyoung), ?_, (settle_eq _).trans ?_⟩
    · rw [nodeAt_of_fwd (settle_fwd _), nodeAt_modNode_same, nodeAt_arrive, hnode, Option.map_some, heardAged, fld_arrive]
    · rw [State.modNode, arrive_eq]
      simp
  case old =>
    intro t i stamp n s hi hnode hup hold hstamp hstatic hblob hrefs hprog hsolo
    have hprog' : afind ((s.arrive t).modNode i (heardAged (s.arrive t))).prog i = none :=
      (congrArg (afind · i) (arrive_prog s t)).trans hprog
    have hsolo' : ((s.arrive t).modNode i (heardAged (s.arrive t))).pair.state = .solo :=
      (congrArg Pair.state (arrive_pair s t)).trans hsolo
    refine ⟨_, (exec_agerVisit ..).trans (execAgerVisit_old hi hnode hup hold hstamp hstatic hblob hrefs), ?_, ?_⟩
    · rw [nodeAt_of_fwd ((settle_fwd _).trans (bump_fwd ..))]
      exact nodeAt_deleteNode hprog' hsolo'
    · rw [count_settle]
      exact count_bump_of_regs ((deleteNode_regs hprog' hsolo').trans (arrive_regs s t)) ..
  case lost =>
    intro t e i n s hnode hhomed hdown hup hheard
    refine ⟨_, (exec_homePortRehome ..).trans (execHomePortRehome_lost hnode hhomed hdown hup hheard), ?_, ?_, (settle_eq _).trans ?_⟩
    · rw [nodeAt_of_fwd ((settle_fwd _).trans (bump_fwd ..)), nodeAt_modNode_same, nodeAt_arrive]
    · rw [count_settle]
      exact count_bump_of_regs (arrive_regs s t) ..
    · rw [bump_eq, State.modNode, arrive_eq]
      simp
  case moved =>
    rintro t e i p n h s hnode hhomed hdown hup hheard rfl hother hheadUp htoken
    refine ⟨_, (exec_homePortRehome ..).trans (execHomePortRehome_moved hnode hhomed hdown hup hheard hother hheadUp htoken), ?_,
      (settle_eq _).trans ?_⟩
    · rw [nodeAt_of_fwd (settle_fwd _), nodeAt_modNode_same]
      exact congrArg _ (nodeAt_arrive ..)
    · rw [State.modNode, spendToken, setBudget, arrive_eq]
      simp

end Sys2Proof.Machine
